-- ==== Sys2Proof/Word.lean ====
section
/-!
DEFINITION. The words of the ICV1024 block: bytes, 32-bit registers, 64-bit stamps and counters,
and the seats of the units (00_scope R4-R8, 02 R39-R46).
-/
namespace Sys2Proof

/-- One byte of a frame, a descriptor or host memory. -/
abbrev Byte := BitVec 8

/-- A 32-bit register (R7). -/
abbrev Word := BitVec 32

/-- A 64-bit counter, compact stamp or host-memory word (R8, R301). -/
abbrev DWord := BitVec 64

/-- A die seat: 0 bow, 1 stern (R14). -/
abbrev Die := Fin 2
/-- A port seat (R39). -/
abbrev Port := Fin 1024
/-- A lane seat (R39). -/
abbrev Lane := Fin 1024
/-- An eight seat (R39). -/
abbrev Eight := Fin 128
/-- A slice seat (R39). -/
abbrev Slice := Fin 16
/-- A device-wide ingress pipeline number 4s + p (R16). -/
abbrev Pipe := Fin 64
/-- A stroke-engine seat 16s + k (R17). -/
abbrev Engine := Fin 256
/-- A sub-link of the keel. -/
abbrev SubLink := Fin 66
/-- A page index as an access carries it (R39). -/
abbrev PageIdx := BitVec 16

end Sys2Proof
end

