-- ==== Sys2Proof/Syntax.lean ====
section
/-!
DEFINITION. The commands of the block: one constructor per row of spec/opcode_table.json, with the operands that the
row's rule gives it (what an accessor writes, which unit an event concerns, what the outside world delivers).
-/
namespace Sys2Proof

/-- The paths an access can come in on (R8, R56): the two host functions and the I3C target. -/
inductive Source where
  | f0 | f1 | i3c
  deriving DecidableEq, Repr

/-- The link-down conditions of R97. -/
inductive LinkCause where
  | signal | cdr | align | uncorr | localFault
  deriving DecidableEq, Repr

/-- What the shadow copy of the OTP array finds at a roll call (R496). -/
structure OtpReport where
  /-- addresses of uncorrectable words -/
  uncorr : List (BitVec 14)
  /-- words corrected -/
  corrected : BitVec 16
  deriving DecidableEq, Repr

/-- What built-in self-test and the ring walk of one die find (R64-R67). -/
structure RollReport where
  /-- failed units: unit kind code of R43 or R44, and number within the kind; an engine by 17 s + k of R49 -/
  failed : List (Nat × Nat)
  /-- failed buffer banks among the 128 and among the 4 spares -/
  banks : Nat
  spareBanks : Nat
  /-- spare control-store rows used, by die-local slice -/
  rows : List (BitVec 8)
  /-- duration in microseconds from RESET_N to DONE -/
  micros : BitVec 12
  /-- what the always-on block measures for the roll call: the highest temperature in 0.125 °C, VCORE in mV, and the
  frequency loss of each aging monitor in 0.01% (R11, R439, R478) -/
  temp : BitVec 16
  mv : BitVec 16
  losses : List (BitVec 16)
  deriving DecidableEq, Repr

/-- What becomes of a cell that a sub-link of the keel carries (R286, R290): it arrives, its CRC fails, or the line loses it. -/
inductive CellFate where
  | good | bad | lost
  deriving DecidableEq, Repr

/-- Why a receiver of the keel declares a sub-link failed (R290): loss of lock, no cell for 200 ns, a gap in SEQ, or more CRC
errors than KEEL_CTRL.CRC_LIMIT within 1 ms. -/
inductive SubFault where
  | lock | silence | gap | crc
  deriving DecidableEq, Repr

/-- A sub-link that a receiver declares failed, and why (R290). -/
structure SubFailure where
  sub : SubLink
  cause : SubFault
  deriving DecidableEq, Repr

/-- A sub-link that sends an IDLE cell, and whether the cell's CRC will hold on arrival (R285, R286). -/
structure IdleSend where
  sub : SubLink
  good : Bool
  deriving DecidableEq, Repr

/-- What one FEC codeword of a lane is found to hold (R91, R97, R101): no error, symbols that FEC corrects, or more. -/
inductive Codeword where
  | ok | corrected (symbols : Nat) | uncorr
  deriving DecidableEq, Repr

/-- What a silicon lane of a port receives as it locks (R80, R81, R91): the PCS or FEC lane that its alignment markers name,
whether the signal at the contacts is inverted, and how late it is in ps. -/
structure LaneMark where
  lane : Fin 8
  inverted : Bool
  skew : Nat
  deriving DecidableEq, Repr

/-- A port as it locks: what each of its lanes receives, lowest connector lane first (R91). -/
structure PortLock where
  port : Port
  marks : List LaneMark
  deriving DecidableEq, Repr

/-- A lane on which a condition of R97 shows, the codewords that it has delivered last, and by how many ps the skew of its port's
lanes varies, where that is known. -/
structure LaneFinding where
  lane : Lane
  cws : List Codeword
  variation : Option Nat
  deriving DecidableEq, Repr

/-- A lane on which a condition of R97 ends, and the codewords that it has delivered last. -/
structure LaneRun where
  lane : Lane
  cws : List Codeword
  deriving DecidableEq, Repr

/-- What FEC has found as a frame arrived (R97, R100, R101): an uncorrectable codeword in the frame, and the codewords of the port's
lanes, by their number within the port. -/
structure FecReport where
  uncorr : Bool
  cws : List (Fin 8 × List Codeword)
  deriving DecidableEq, Repr

/-- What a coefficient request of the training protocol moves (R83): one tap, up or down by a step, or all five, to the preset or to
the starting taps. -/
inductive CoefTarget where
  | tap (n : Fin 5)
  | preset
  | initial
  deriving DecidableEq, Repr

/-- Where a read reads: the offset in the page, and its size in bytes (R7). -/
structure ReadAt where
  off : BitVec 16
  size : Nat
  deriving DecidableEq, Repr

/-- What the QDR memory returns for one access (R127, R131). -/
inductive QdrErr where
  | ok | corrected | uncorr | addr
  deriving DecidableEq, Repr

/-- What an ECC check finds as data leaves a memory (R212, R460). -/
inductive EccErr where
  | ok | corrected | uncorr
  deriving DecidableEq, Repr

/-- Cells of a TCAM row that flip: the row by physical index (the guard bank from 16,384 on), and the bits of VALUE, of MASK and of
the pre-filter and PRIORITY that change. -/
structure TcamFlip where
  row : Nat
  value : BitVec 480 := 0
  mask : BitVec 480 := 0
  pf : Word := 0
  deriving DecidableEq, Repr

/-- Upsets of a TCAM that a search meets (R135): cells that have flipped since the last search, and rows whose copy is
uncorrectable. -/
structure TcamUpset where
  flips : List TcamFlip := []
  copyBad : List Nat := []
  deriving DecidableEq, Repr

/-- Upsets that one pass of a frame meets (R135, R163, R459, R460). -/
structure Upsets where
  /-- entries of the slice's tables that read with failing parity from now on: table number and index -/
  bad : List (Nat × Nat) := []
  tcam : TcamUpset := {}
  /-- parity errors in frame bytes: in the entry buffer, on a pipeline bus -/
  entry : Bool := false
  busData : Bool := false
  /-- parity errors in a metadata field, and in the tenant or port field -/
  busMeta : Bool := false
  busTenant : Bool := false
  /-- the decision-cache entry read has bad parity -/
  cache : Bool := false
  deriving DecidableEq, Repr

/-- The host's answers to the page-table reads of one walk, level 3 first; none for an error or poisoned data (R395, R397).
An empty list: no walk is made, because the translation is cached or not needed. -/
abbrev Walk := List (Option DWord)

/-- What a pending engine read meets when its data arrives (R201): the QDR controller's answer, table entries that read with
failing parity (table number and index), and failed comparisons of the cipher cores (R381). -/
structure ReadReport where
  err : QdrErr := .ok
  bad : List (Nat × Nat) := []
  mismatches : Fin 3 := 0
  /-- the staging buffer holds an uncorrectable error at the release (R460) -/
  staging : Bool := false
  deriving DecidableEq, Repr

/-- An error that the cell ECC checker finds in a cell: its address under R220, correctable or not (R248, R460). -/
structure CellErr where
  cell : BitVec 20
  uncorr : Bool
  deriving DecidableEq, Repr

/-- A register with a field that R224 checks. -/
inductive LimitReg where
  | queue (q : Fin 16) | host (h : Fin 64) | shared | headroom
  deriving DecidableEq, Repr

/-- What a copy meets as it is read for transmission: errors of its cells, a parity error of the egress read path, an error
of the packet descriptor, and what its egress pass meets (R248, R459, R460). -/
structure TxUpsets where
  cells : List CellErr := []
  readPath : Bool := false
  desc : EccErr := .ok
  up : Upsets := {}
  deriving DecidableEq, Repr

/-- A register that R262 checks: a queue's, a group's, or the rate register of a shaped entity (queues 0-15, groups 16-19,
the port 20). -/
inductive SchReg where
  | queue (q : Fin 16) | group (g : Fin 4) | rate (e : Fin 21)
  deriving DecidableEq, Repr

/-- A fragment of a preemptable frame as it is received (R280): whether it starts a frame, the frame count, the fragment
count of a continuation, its bytes, whether its mCRC is right, whether it is the last, and then the frame's FCS and whether an
uncorrectable codeword marks the frame. -/
structure Fragment where
  start : Bool
  frame : Fin 4
  frag : Fin 4
  bytes : List Byte
  crcOk : Bool
  last : Bool
  fcs : Word
  uncorr : Bool
  deriving DecidableEq, Repr

/-- What a die measures in an epoch (R442, R446, R447, R454): its energy in 0.01 pJ; the power of the classes LINKS, MEMORY and
COMPUTE in mW, and at their limits; and its four fields of the signature. -/
structure DieEpoch where
  energy : Nat
  power : List Nat
  floor : List Nat
  sig : List (Fin 16)
  deriving DecidableEq, Repr

/-- What both dies measure in an epoch. -/
structure EpochReport where
  bow : DieEpoch
  stern : DieEpoch
  deriving DecidableEq, Repr

/-- A register of the cox that COX_CFG_WRITE writes. -/
inductive CoxReg where
  | cfg | cap | slice (i : Fin 8)
  deriving DecidableEq, Repr

/-- What a DMA read serves (R398, R401): descriptors of an inject ring, the data of the descriptor that a ring serves, a
pool's refill, or the XRD of an engine's context by its first data register. -/
inductive ReadClient where
  | fetch (r : Fin 512)
  | data (r : Fin 512)
  | pool (p : Fin 64)
  | engine (e : Engine) (k : Fin 32) (reg : Fin 32)
  deriving DecidableEq, Repr

/-- A word under configuration ECC (R458): a register or counter of a page (unit kind code, number within the kind, offset), a
register of the windows of a ring or pool, an entry of a gate list, of the multicast groups, of the SC and SA tables, or
the state of a policer, a shaped entity or a port's learning. -/
inductive ConfigWord where
  | reg (kind n : Nat) (off : BitVec 16)
  | ring (d : Die) (r : Fin 1024) (i : Fin 11)
  | pool (d : Die) (p : Fin 64) (i : Fin 7)
  | gate (p : Port) (bank : Fin 2) (i : Fin 1024)
  | mcast (d : Die) (g : Fin 8192)
  | msec (p : Port) (i : Fin 516)
  | policer (sl : Slice) (i : Fin 4096)
  | shaper (p : Port) (e : Fin 21)
  | learning (p : Port)
  deriving DecidableEq, Repr

/-- An error that the configuration scrub finds. -/
structure ConfigErr where
  word : ConfigWord
  uncorr : Bool
  deriving DecidableEq, Repr


/-- One command. Each constructor's text is its row's summary. -/
inductive Instr where
  /-- R9: A host or I3C write to a register that has no row of its own: it is checked for mapping, alignment and lock, then takes effect under its access code. -/
  | registerWrite (src : Source) (page : PageIdx) (off : BitVec 16) (size : Nat) (val : Word) (parity : Bool)
  /-- R8: A read of the low word of a 64-bit RO or RC pair latches the high word for the reading source. -/
  | counterLowWordRead (src : Source) (page : PageIdx) (off : ReadAt) (parity : Bool)
  /-- R51: A write of 1 to PAGE_CONTROL.UNIT_RESET resets the page and the pages below it and releases their locks; it is refused on die and device pages. -/
  | unitReset (src : Source) (page : PageIdx)
  /-- R51: The unit reset completes within 10 us and PAGE_STATUS.READY returns to 1. -/
  | unitResetDone (page : PageIdx)
  /-- R56: PAGE_LOCK ACQUIRE takes the page lock for the source and token when no conflicting lock is held in the page's lineage. -/
  | lockAcquire (src : Source) (page : PageIdx) (token : BitVec 16)
  /-- R57: PAGE_LOCK RELEASE gives up the lock when it comes from the holding source with the holder's token; otherwise it is counted. -/
  | lockRelease (src : Source) (page : PageIdx) (token : BitVec 16)
  /-- R58: PAGE_LOCK FORCE on the device page releases every lock on every page mapped for the writing source. -/
  | lockForce (src : Source) (page : PageIdx)
  /-- R354: A TRIGGER on a tenant accounting page copies the open bank at one instant and writes it to the ring as an interim snapshot. -/
  | interimSnapshotTrigger (src : Source) (page : PageIdx)
  /-- R355: A TRIGGER on any other page makes each die holding pages below it cut a one-off performance-counter dump of that subtree. -/
  | pmcDumpTrigger (src : Source) (page : PageIdx)
  /-- R490: PWRGOOD_AON asserts and the always-on blocks start running, with the time unit in FREE from SEC = 0. -/
  | pwrgoodAonAssert
  /-- R492: PWRGOOD_AON deasserts and network time, the I3C address, the wear data and any OTP command in progress are lost. -/
  | pwrgoodAonDeassert (torn : Word)
  /-- R492: RESET_N held low for 10 us resets the switch complex while time, the I3C address, wear data and OTP are kept. -/
  | resetNAssert
  /-- R67: RESET_N deasserts and the roll call starts: self-test, the ring walks, and the stern shadow transfer. -/
  | resetNDeassert (otp : OtpReport)
  /-- R67: The walk completes: every seat is assigned, RING_ROLL_STATUS.DONE and the device's READY are set, and the UCIe link may train. -/
  | rollCallDone (d : Die) (report : RollReport)
  /-- R69: The bow die resends a shadow frame that the stern die has not acknowledged. -/
  | shadowFrameResend (part : Fin 2)
  /-- R68: The stern die's trims and board table are complete, SHADOW_DONE is set, and its lanes may train. -/
  | shadowDone
  /-- R69: At 1,000 us without the first shadow part the stern die holds itself in reset with SHADOW_FAIL and the bow die sets PEER_FAIL. -/
  | shadowFirstPartTimeout
  /-- R69: At 5,000 us without the second shadow part the stern die uses typical trims and default board entries and sets SHADOW_FAIL and SHADOW_DONE. -/
  | shadowSecondPartTimeout
  /-- R491: A core rail leaves its range while RESET_N is deasserted, and the affected die is held as if in reset. -/
  | railOutOfRange (d : Die)
  /-- R522: The loss of AON_CLK is detected within 2 us and treated as a deassertion of PWRGOOD_AON. -/
  | aonClkLoss (torn : Word)
  /-- R523: A lane reference clock stops or leaves its range, which unlocks the transmit PLLs of the lanes that select it. -/
  | refclkLaneLoss (sl : Slice) (back : Bool)
  /-- R72: The I3C target takes part in dynamic address assignment while it holds no dynamic address. -/
  | entdaa (addr : BitVec 7)
  /-- R72: The I3C target answers SETDASA at its static OTP address and takes the assigned dynamic address. -/
  | setdasa (stat : BitVec 7) (dyn : BitVec 7)
  /-- R72: The I3C target drops its dynamic address. -/
  | rstdaa
  /-- R71: The I3C target returns its 48-bit provisional ID. -/
  | getpid
  /-- R70: The I3C target returns its bus characteristics register. -/
  | getbcr
  /-- R70: The I3C target returns its device characteristics register, which identifies the part. -/
  | getdcr
  /-- R73: An I3C private write sets the page index and offset and writes its data words as accesses from the I3C source. -/
  | i3cPrivateWrite (page : PageIdx) (off : BitVec 16) (words : List Word)
  /-- R73: An I3C private read returns words from the offset last written, each as one access from the I3C source. -/
  | i3cPrivateRead (count : Nat)
  /-- R78: A write of EIGHT_ARRANGE takes effect only with every port seat DISABLED and the arrangement valid; otherwise it is refused with LAST_ERR. -/
  | eightArrangeWrite (src : Source) (page : PageIdx) (val : Word)
  /-- R78: A write of EIGHT_PAIR_RATE is checked and accepted or refused as EIGHT_ARRANGE is. -/
  | eightPairRateWrite (src : Source) (page : PageIdx) (val : Word)
  /-- R84: A write of LANE_RX_LIMIT is refused when its intersection with the preset bounds would be empty. -/
  | laneRxLimitWrite (src : Source) (page : PageIdx) (val : Word)
  /-- R94: ENABLE becomes 1 on the port and every ancestor with SHADOW_DONE set, so the port powers its lanes and enters AN or TRAIN. -/
  | portEnable (src : Source) (page : PageIdx) (sleep : Bool)
  /-- R94: ENABLE is cleared on the port or an ancestor, so the port is pruned and flushed if it was up and its lanes power down. -/
  | portDisable (src : Source) (page : PageIdx) (sleep : Bool)
  /-- R85: Clause 73 negotiation resolves a common technology and FEC, sets the lane rates and starts training. -/
  | anResolved (p : Port) (partner : BitVec 13) (f1 : Bool)
  /-- R94: Negotiation finds no common technology or the forced FEC does not fit, so the device raises AN_FAIL and waits the break-link time. -/
  | anFail (p : Port) (partner : BitVec 13) (f1 : Bool)
  /-- R94: The Clause 73 break-link time ends and negotiation restarts. -/
  | anBreakLinkExpire (p : Port)
  /-- R83: A link partner's coefficient request is applied within the limits and the tap-sum clamp, or answered with maximum or minimum status. -/
  | trainCoefRequest (l : Lane) (tap : CoefTarget) (up : Bool)
  /-- R88: Every lane of the port completes PMD training and the port enters ALIGN. -/
  | trainComplete (p : Port) (ctle : List (BitVec 5))
  /-- R88: The training time limit passes, so the device raises TRAIN_FAIL and the port returns to AN. -/
  | trainTimeout (p : Port)
  /-- R94: Every lane locks and deskews, the slice is requested awake, and the port enters HOLD. -/
  | alignLock (p : PortLock)
  /-- R94: 10 ms pass without lock, so the device raises ALIGN_FAIL and the port returns to AN. -/
  | alignTimeout (p : Port)
  /-- R94: UP_HOLDOFF passes with no link-down condition and the slice awake, so the port admits frames, raises LINK_UP and enters UP. -/
  | upHoldoffExpire (p : Port)
  /-- R94: A link-down condition in HOLD lasts 10 ms and the port returns to AN. -/
  | holdFaultTimeout (p : Port)
  /-- R97: A link-down condition is detected within 2 us of its cause and the debounce or hold timer starts. -/
  | linkDownDetect (p : Port) (cause : LinkCause) (l : LaneFinding)
  /-- R94: A link-down condition clears; in HOLD the hold timer restarts, and in RFAULT the port returns to AN. -/
  | linkDownClear (p : Port) (cause : LinkCause) (l : LaneRun)
  /-- R98: A link-down condition outlasts DOWN_DEBOUNCE in UP, so the port is pruned and flushed, LINK_DOWN is raised, and it returns to AN. -/
  | downDebounceExpire (p : Port)
  /-- R94: Remote fault lasts DOWN_DEBOUNCE in UP, so the port is pruned and flushed and enters RFAULT. -/
  | remoteFaultDebounceExpire (p : Port)
  /-- R94: Remote fault clears in RFAULT and the port enters HOLD. -/
  | remoteFaultClear (p : Port)
  /-- R246: The flush of a port or queue completes, and the queue returns to ENABLED or DISABLED. -/
  | portFlushDone (p : Port) (q : Fin 16)
  /-- R31: A frame's SFD reaches the MAC, is stamped and checked by MACsec, and is accepted to or discarded from the pipeline-entry buffer by its fill. -/
  | frameRx (p : Port) (bytes : List Byte) (fcs : Word) (uncorr : FecReport) (delay : BitVec 32)

  /-- R234: A received Annex 31B PAUSE frame is discarded and counted in BUF_PAUSE_IGNORED. -/
  | pauseRx (p : Port)
  /-- R233: A received PFC frame holds or releases the queues of its enabled classes for the pause time. -/
  | pfcRx (p : Port) (enables : BitVec 8) (times : List (BitVec 16))
  /-- R233: A received pause time runs out and the held queues are released. -/
  | pfcPauseExpire (p : Port) (c : Fin 8)
  /-- R280: A preemptable fragment is received and reassembled; the complete frame enters the entry buffer, and an assembly error discards it. -/
  | mmFragmentRx (p : Port) (x : Fragment) (delay : BitVec 32)
  /-- R276: A MAC Merge verify frame is received and answered with a response frame. -/
  | mmVerifyRx (p : Port)
  /-- R276: A MAC Merge response frame is received, verification succeeds, and preemption becomes active. -/
  | mmResponseRx (p : Port)
  /-- R276: verifyTime passes without a response; a verify frame is resent, or after 3 attempts verification fails. -/
  | mmVerifyTimer (p : Port)
  /-- R30: The ingress pipeline takes a frame from a port's entry buffer and runs the parser, the ingress stages, resolution and the classifier on it. -/
  | pipelineEntry (pl : Pipe) (u : Upsets)
  /-- R118: A QDR tree walk completes, decides its frame and the frames of the same key waiting behind it, and caches the decision. -/
  | clsWalkDone (d : Die) (uid : Nat) (errs : List QdrErr) (hold : List EccErr)
  /-- R127: Within 200 us of a channel error, FAILED is set on every tree whose active bank uses the channel. -/
  | treeFailedMark (d : Die) (c : Fin 4)
  /-- R123: Space frees in the pre-classifier FIFO and the stalled classifier input resumes. -/
  | clsFifoResume (d : Die)
  /-- R34: Room frees in a dispatch queue, hold buffer or keel transmit buffer and a stalled ingress pipeline resumes. -/
  | pipelineStallRelease (pl : Pipe)
  /-- R125: A write of SWAP starts a bank swap of a tree and holds its frames in the FIFO. -/
  | clsTreeSwap (src : Source) (page : PageIdx) (t : Fin 256) (val : Word)
  /-- R125: The swap completes: ACTIVE toggles, the generation increments, SWAP_DONE is raised and waiting frames walk the new bank. -/
  | clsSwapDone (d : Die) (t : Fin 256) (u : TcamUpset)
  /-- R124: A write to a tree's root register is ignored and counted when it names the active bank. -/
  | clsTreeRootWrite (src : Source) (page : PageIdx) (t : Fin 256) (bank : Fin 2) (val : Word)
  /-- R118: A write of CACHE_FLUSH invalidates every decision-cache entry. -/
  | clsCacheFlush (src : Source) (page : PageIdx) (val : Word)
  /-- R117: CLS_TT_ADDR write op sets a tenant's tree assignment. -/
  | clsTtWrite (src : Source) (page : PageIdx) (val : Word)
  /-- R117: CLS_TT_ADDR read op loads a tenant's tree assignment into CLS_TT_DATA. -/
  | clsTtRead (src : Source) (page : PageIdx) (val : Word)
  /-- R131: QDR_CMD WRITE writes QDR_DATA0-7 to a node as one 32-byte access with fresh ECC. -/
  | qdrWrite (src : Source) (page : PageIdx) (val : Word)
  /-- R131: QDR_CMD READ reads a node into QDR_DATA0-7, or zeros with ERR on an uncorrectable error. -/
  | qdrRead (src : Source) (page : PageIdx) (val : Word)
  /-- R131: A host QDR access completes within 2 us and BUSY clears. -/
  | qdrAccessDone (c : Fin 8) (err : QdrErr)
  /-- R105: PRS_MEM_ADDR write op writes one node or transition entry as a single operation. -/
  | prsMemWrite (src : Source) (page : PageIdx) (val : Word)
  /-- R105: PRS_MEM_ADDR read op reads a node or transition entry into the DATA registers. -/
  | prsMemRead (src : Source) (page : PageIdx) (val : Word)
  /-- R115: PRS_TMAP_CMD INSERT adds or replaces a tenant-map entry under the exact-match placement rules. -/
  | tmapInsert (src : Source) (page : PageIdx) (val : Word)
  /-- R115: PRS_TMAP_CMD DELETE removes a tenant-map entry. -/
  | tmapDelete (src : Source) (page : PageIdx) (val : Word)
  /-- R115: PRS_TMAP_CMD LOOKUP returns the tenant of a key. -/
  | tmapLookup (src : Source) (page : PageIdx) (val : Word)
  /-- R137: TBL_TCAM_ROW INVALIDATE makes a row, or a whole cascaded entry, invalid. -/
  | tcamInvalidate (src : Source) (page : PageIdx) (val : Word)
  /-- R137: TBL_TCAM_ROW WRITE writes a row's contents, and is refused on a valid row. -/
  | tcamWrite (src : Source) (page : PageIdx) (val : Word)
  /-- R137: TBL_TCAM_ROW VALIDATE makes a row, or a whole cascaded entry, valid. -/
  | tcamValidate (src : Source) (page : PageIdx) (val : Word)
  /-- R137: TBL_TCAM_ROW READ returns a row's contents and validity. -/
  | tcamRead (src : Source) (page : PageIdx) (val : Word)
  /-- R137: A write of TBL_TCAM_BLOCK_CFG is refused while any row of the block's group is valid. -/
  | tcamBlockCfgWrite (src : Source) (page : PageIdx) (b : Fin 16) (val : Word)
  /-- R136: Every 500 us every TCAM row is compared with its copy and differing rows are rewritten. -/
  | tcamScrub (sl : Slice) (flips : List TcamFlip)
  /-- R142: A write of TBL_STAGE_CFG is refused when it breaks the stage-kind limits. -/
  | stageCfgWrite (src : Source) (page : PageIdx) (n : Fin 24) (val : Word)
  /-- R153: TBL_EM_CMD INSERT replaces, places or relocates an exact-match entry, or fails with FULL. -/
  | emInsert (src : Source) (page : PageIdx) (val : Word)
  /-- R154: TBL_EM_CMD DELETE removes an exact-match entry. -/
  | emDelete (src : Source) (page : PageIdx) (val : Word)
  /-- R154: TBL_EM_CMD LOOKUP returns an entry and its index in TBL_EM_DATA. -/
  | emLookup (src : Source) (page : PageIdx) (val : Word)
  /-- R154: An exact-match command completes in every target copy and BUSY clears. -/
  | emCmdDone (sl : Slice)
  /-- R154: A write of TBL_EM_SEED is refused while the copy holds a valid exact-match or tenant-map entry. -/
  | emSeedWrite (src : Source) (page : PageIdx) (w : Fin 2) (val : Word)
  /-- R157: TBL_LPM_CMD INSERT adds or replaces a prefix, or fails with FULL_RESULT or FULL_NODE. -/
  | lpmInsert (src : Source) (page : PageIdx) (val : Word)
  /-- R157: TBL_LPM_CMD DELETE removes a prefix. -/
  | lpmDelete (src : Source) (page : PageIdx) (val : Word)
  /-- R157: TBL_LPM_CMD LOOKUP returns the longest match of an address. -/
  | lpmLookup (src : Source) (page : PageIdx) (val : Word)
  /-- R157: An LPM command completes in every copy and BUSY clears. -/
  | lpmCmdDone (sl : Slice)
  /-- R165: TBL_IDX_CMD WRITE writes one entry of a direct-indexed table, with ERR for a bad index or table. -/
  | tblIdxWrite (src : Source) (page : PageIdx) (val : Word)
  /-- R165: TBL_IDX_CMD READ reads one table entry into TBL_IDX_DATA. -/
  | tblIdxRead (src : Source) (page : PageIdx) (val : Word)
  /-- R164: Within 20 us a failed entry is rewritten from another slice's good copy, or invalidated. -/
  | parityRepair (sl : Slice)
  /-- R167: Host software sets REQ for a table in TBL_ACCESS_LOCK. -/
  | tableLockRequest (src : Source) (page : PageIdx) (val : Word)
  /-- R167: Once the hardware update in progress completes, GRANTED is set and hardware writes to the table are held. -/
  | tableLockGrant (sl : Slice) (t : Fin 8)
  /-- R167: Clearing REQ clears GRANTED and releases the held hardware updates in order. -/
  | tableLockRelease (src : Source) (page : PageIdx) (val : Word)
  /-- R167: GRANTED outlasts TBL_LOCK_TIMEOUT, so the lock is released and LOCK_TIMEOUT is raised. -/
  | tableLockTimeout (sl : Slice) (t : Fin 8)
  /-- R169: The deciding arbiter takes a learn event, checks it against stamp, static, pin and damping, and applies it to every copy. -/
  | learnEventApply (d : Die)
  /-- R171: PIN_S seconds after a pin, PINNED and the address's move count are cleared. -/
  | learnUnpin (d : Die) (bd : BitVec 14) (mac : BitVec 48)
  /-- R170: The move window of an applied event ends and its kept stamp and port are forgotten. -/
  | learnMoveWindowExpire (d : Die) (bd : BitVec 14) (mac : BitVec 48)
  /-- R172: Every PERIOD_S the arbiter ages learned entries and removes those whose AGE reaches 3. -/
  | ageScan (d : Die)
  /-- R183: A frame leaves the dispatch queue for a free context, or pre-empts a lower-urgency routine. -/
  | engineDispatch (sl : Slice)
  /-- R191: A microword with ALU_OP NOP writes no result. -/
  | aluNop (e : Engine) (k : Fin 32) (fetch : EccErr)
  /-- R191: ALU_OP MOV writes B to DST and sets the flags. -/
  | aluMov (e : Engine) (k : Fin 32) (fetch : EccErr)
  /-- R191: ALU_OP ADD writes A + B modulo 2^64. -/
  | aluAdd (e : Engine) (k : Fin 32) (fetch : EccErr)
  /-- R191: ALU_OP SUB writes A - B modulo 2^64. -/
  | aluSub (e : Engine) (k : Fin 32) (fetch : EccErr)
  /-- R191: ALU_OP AND writes A AND B. -/
  | aluAnd (e : Engine) (k : Fin 32) (fetch : EccErr)
  /-- R191: ALU_OP OR writes A OR B. -/
  | aluOr (e : Engine) (k : Fin 32) (fetch : EccErr)
  /-- R191: ALU_OP XOR writes A XOR B. -/
  | aluXor (e : Engine) (k : Fin 32) (fetch : EccErr)
  /-- R191: ALU_OP SHL shifts A left by B[5:0]. -/
  | aluShl (e : Engine) (k : Fin 32) (fetch : EccErr)
  /-- R191: ALU_OP SHR shifts A right logically by B[5:0]. -/
  | aluShr (e : Engine) (k : Fin 32) (fetch : EccErr)
  /-- R191: ALU_OP SAR shifts A right arithmetically by B[5:0]. -/
  | aluSar (e : Engine) (k : Fin 32) (fetch : EccErr)
  /-- R191: ALU_OP CMP sets the flags from A - B without writing DST. -/
  | aluCmp (e : Engine) (k : Fin 32) (fetch : EccErr)
  /-- R191: ALU_OP MIN writes the unsigned smaller of A and B. -/
  | aluMin (e : Engine) (k : Fin 32) (fetch : EccErr)
  /-- R191: ALU_OP MAX writes the unsigned larger of A and B. -/
  | aluMax (e : Engine) (k : Fin 32) (fetch : EccErr)
  /-- R191: ALU_OP EXT extracts a bit field of A right-aligned. -/
  | aluExt (e : Engine) (k : Fin 32) (fetch : EccErr)
  /-- R191: ALU_OP INS inserts A's low bits into a field of DST. -/
  | aluIns (e : Engine) (k : Fin 32) (fetch : EccErr)
  /-- R191: ALU_OP MUL writes the low 64 bits of A x B, with a minimum dwell of 3. -/
  | aluMul (e : Engine) (k : Fin 32) (fetch : EccErr)
  /-- R191: ALU_OP CRC32C continues a CRC-32C from B over A's 8 bytes. -/
  | aluCrc32c (e : Engine) (k : Fin 32) (fetch : EccErr)
  /-- R192: MEM_OP HRD reads header-window bytes into a register. -/
  | memHrd (e : Engine) (k : Fin 32) (fetch : EccErr)
  /-- R192: MEM_OP HWR stages a write of header-window bytes. -/
  | memHwr (e : Engine) (k : Fin 32) (fetch : EccErr)
  /-- R192: MEM_OP MRD reads a metadata field into a register. -/
  | memMrd (e : Engine) (k : Fin 32) (fetch : EccErr)
  /-- R192: MEM_OP MWR stages a write of a metadata field, ILLEGAL for RO fields. -/
  | memMwr (e : Engine) (k : Fin 32) (fetch : EccErr)
  /-- R192: MEM_OP TRD reads a table entry of the slice's copy. -/
  | memTrd (e : Engine) (k : Fin 32) (fetch : EccErr)
  /-- R192: MEM_OP TWR stages a write of a table entry. -/
  | memTwr (e : Engine) (k : Fin 32) (fetch : EccErr)
  /-- R192: MEM_OP EML runs an exact-match lookup and sets HIT. -/
  | memEml (e : Engine) (k : Fin 32) (fetch : EccErr)
  /-- R192: MEM_OP LPM runs an IPv4 or IPv6 trie lookup and sets HIT. -/
  | memLpm (e : Engine) (k : Fin 32) (fetch : EccErr)
  /-- R192: MEM_OP QRD reads a QDR node into four registers. -/
  | memQrd (e : Engine) (k : Fin 32) (fetch : EccErr)
  /-- R192: MEM_OP QWR stages a write of a QDR node. -/
  | memQwr (e : Engine) (k : Fin 32) (fetch : EccErr)
  /-- R192: MEM_OP CNT stages a flow-counter increment. -/
  | memCnt (e : Engine) (k : Fin 32) (fetch : EccErr)
  /-- R202: MEM_OP LOCK requests a lock ID, resolved by age, abandoning the younger of requester and holder. -/
  | memLock (e : Engine) (k : Fin 32) (fetch : EccErr)
  /-- R192: MEM_OP XRD reads 32 bytes of host memory through the DMA translation unit. -/
  | memXrd (e : Engine) (k : Fin 32) (fetch : EccErr)
  /-- R379: MEM_OP CU sends an AES-GCM request to the die's cipher unit. -/
  | memCu (e : Engine) (k : Fin 32) (fetch : EccErr)
  /-- R190: The data of a pending engine memory read or cipher request arrives and is written to its registers. -/
  | memReadReturn (e : Engine) (k : Fin 32) (reg : Fin 32) (rep : ReadReport)
  /-- R202: A lock ID becomes free and the waiting or restarting context takes it. -/
  | lockGrant (e : Engine) (k : Fin 32)
  /-- R195: After its reads complete, a routine takes its log's lock IDs, applies the log atomically and releases its locks. -/
  | routineCommit (e : Engine) (k : Fin 32)
  /-- R204: A write of CS_EVENT.GO raises an event routine on context 31 of the named or fallback engine. -/
  | csEventGo (src : Source) (page : PageIdx) (val : Word)
  /-- R215: An engine detects a parity or slot fault, stops, sets FAULT and redispatches its frames within 5 us. -/
  | engineFault (e : Engine) (cause : Fin 4)
  /-- R203: A frame waiting on a DMA fault beyond CS_DMA_WAIT is dropped with ENGINE_ABORT. -/
  | csDmaWaitExpire (sl : Slice) (uid : Nat)
  /-- R209: CS_ADDR write op writes a control-store word with its ECC and clears VERIFIED, or is refused while RUN = 1. -/
  | csWordWrite (src : Source) (page : PageIdx) (val : Word)
  /-- R209: CS_ADDR read op reads a control-store word and its check bits. -/
  | csWordRead (src : Source) (page : PageIdx) (val : Word)
  /-- R210: A write of CS_CTRL.RUN starts or halts routine starts and is refused while VERIFIED = 0. -/
  | csRunWrite (src : Source) (page : PageIdx) (val : Word)
  /-- R212: Every 100 ms the control store is scrubbed, correcting correctable words. -/
  | csScrub (sl : Slice) (found : List EccErr)
  /-- R213: The copy from a donor completes or fails, raising RELOAD_DONE or RELOAD_FAIL. -/
  | csReloadDone (sl : Slice) (donorBad : Bool)
  /-- R227: A frame's first cell reaches the buffer manager and the frame is admitted as NORMAL or HEADROOM, or dropped. -/
  | frameAdmit (d : Die) (uid : Nat)
  /-- R237: A frame's last cell is written and its FCS checked, so a store-and-forward frame becomes eligible. -/
  | frameLastCell (d : Die) (uid : Nat) (parity : Bool)
  /-- R368: The ICV verdict arrives: on a pass the held steps proceed, and on a failure every cell is freed and the frame is recorded once. -/
  | macsecVerdict (uid : Nat)
  /-- R254: The scheduler selects a queue at the MAC's start instant by priority, DWRR, shapers and gates, and starts the frame. -/
  | transmitStart (p : Port) (delay : BitVec 32) (u : TxUpsets)
  /-- R333: A copy completes transmission, its record is formed and folded, and its cells are freed. -/
  | transmitEnd (p : Port) (errs : List CellErr)
  /-- R231: Every 10 ns the XOFF condition of each ingress port and lossless class is evaluated, and PFC frames are sent on change. -/
  | pfcEval (d : Die)
  /-- R232: Every 32,768 quanta a paused class's PFC frame is repeated. -/
  | pfcRefresh (p : Port) (c : Fin 8)
  /-- R245: At least every 10 us each queue head is examined and aged frames are discarded with AGED. -/
  | queueHeadAgeCheck (d : Die)
  /-- R224: A write of MIN, BUF_SHARED_LIMIT or BUF_HEADROOM_LIMIT is refused with OVERCOMMIT when the pools would exceed the available cells. -/
  | bufPoolLimitWrite (src : Source) (page : PageIdx) (reg : LimitReg) (val : Word)
  /-- R247: EN written 0 on a queue starts DRAIN or FLUSH by DISABLE_MODE. -/
  | queueDisable (src : Source) (page : PageIdx) (q : Fin 16) (val : Word)
  /-- R247: EN written 1 on a queue resumes admission, or waits for the flush in progress. -/
  | queueEnable (src : Source) (page : PageIdx) (q : Fin 16) (val : Word)
  /-- R247: A draining queue becomes empty and enters DISABLED. -/
  | queueDrainDone (p : Port) (q : Fin 16)
  /-- R240: BUF_MC_CMD write op stores a multicast group entry. -/
  | mcGroupWrite (src : Source) (page : PageIdx) (val : Word)
  /-- R240: BUF_MC_CMD read op reads a multicast group entry. -/
  | mcGroupRead (src : Source) (page : PageIdx) (val : Word)
  /-- R261: The timing wheel reaches a slot and takes off the shaped entities whose V it holds. -/
  | shaperWheelSlot (p : Port)
  /-- R262: A shaper or weight write is refused for a ninth PRIV flag, a bad rate or a zero weight. -/
  | schCfgWrite (src : Source) (page : PageIdx) (reg : SchReg) (val : Word)
  /-- R276: A write of PORT_MM_CFG.EN = 1 is refused on a port above 400 Gb/s. -/
  | mmCfgWrite (src : Source) (page : PageIdx) (val : Word)
  /-- R263: SCH_POL_ADDR write op configures a policer and fills its bucket, or is refused for a bad rate. -/
  | policerWrite (src : Source) (page : PageIdx) (val : Word)
  /-- R263: SCH_POL_ADDR read op reads a policer and its red count. -/
  | policerRead (src : Source) (page : PageIdx) (val : Word)
  /-- R263: SCH_POL_ADDR read-and-clear op reads a policer and clears its red count. -/
  | policerReadClear (src : Source) (page : PageIdx) (val : Word)
  /-- R267: An operational gate-list entry or cycle boundary is reached and the gate states change. -/
  | gateEntryBoundary (p : Port)
  /-- R272: A write of GATE_CTRL.CHANGE sets PENDING and computes the change time, or is refused. -/
  | gateChange (src : Source) (page : PageIdx) (val : Word)
  /-- R273: At the change time the administrative list becomes operational and PENDING clears. -/
  | gateChangeApply (p : Port)
  /-- R274: GATE_LIST_ADDR write op writes an administrative entry, refused while PENDING. -/
  | gateListWriteAdmin (src : Source) (page : PageIdx) (val : Word)
  /-- R266: GATE_LIST_ADDR read op reads an administrative entry. -/
  | gateListReadAdmin (src : Source) (page : PageIdx) (val : Word)
  /-- R266: GATE_LIST_ADDR read-operational op reads an operational entry. -/
  | gateListReadOper (src : Source) (page : PageIdx) (val : Word)
  /-- R281: Every 1 us of network time every queue's depth and head delay are sampled and delivered to telemetry. -/
  | queueSample (d : Die)
  /-- R285: A data cell arrives on a sub-link, is CRC-checked, reassembled by tag, and its credit returned. -/
  | keelCellRx (d : Die) (sub : SubLink) (fate : CellFate)
  /-- R288: A waiting cell is sent once a credit and sub-link are available. -/
  | keelCellSend (d : Die) (hold : EccErr)
  /-- R285: An active sub-link that has sent nothing for 50 ns sends an IDLE cell. -/
  | keelIdleSend (d : Die) (sub : IdleSend)
  /-- R287: A control cell arrives, is acknowledged and acts: register access, pruning, PFC, learn event or cox summary. -/
  | keelCtrlCellRx (d : Die) (sub : SubLink) (fate : CellFate)
  /-- R287: An ACK cell acknowledges control cells by SEQ. -/
  | keelAckRx (d : Die) (fate : CellFate)
  /-- R287: A control cell not acknowledged within 1 us is resent on a different active sub-link. -/
  | keelCtrlResend (d : Die) (num : Nat)
  /-- R290: The receiver declares a sub-link failed on loss of lock, silence, a SEQ gap or CRC errors, and informs the sender. -/
  | sublinkFailDetect (d : Die) (sub : SubFailure)
  /-- R289: A sub-link in OFF starts training after the roll call or after KEEL_RETRY. -/
  | sublinkTrainStart (d : Die) (sub : SubLink)
  /-- R289: A sub-link trains within 1 ms and becomes ACTIVE or SPARE. -/
  | sublinkTrained (d : Die) (sub : SubLink)
  /-- R289: A sub-link does not train within 1 ms and becomes FAILED. -/
  | sublinkTrainTimeout (d : Die) (sub : SubLink)
  /-- R289: DISABLE written 1 takes a sub-link out of service. -/
  | sublinkDisable (src : Source) (page : PageIdx) (sub : SubLink) (val : Word)
  /-- R289: DISABLE written 0 returns a sub-link to OFF. -/
  | sublinkEnable (src : Source) (page : PageIdx) (sub : SubLink) (val : Word)
  /-- R293: A write of FORCE_SPLIT stops the die's keel transmitters and enters split operation. -/
  | forceSplit (src : Source) (page : PageIdx) (val : Word)
  /-- R294: A direction loses its last active sub-link and the die enters split operation. -/
  | splitEnter (d : Die)
  /-- R296: The rejoin condition is met and control cells resume in phase SYNC_TIME. -/
  | rejoinStart
  /-- R318: The stern time unit aligns to the bow and the rejoin enters MERGE_LEARN. -/
  | rejoinTimeAligned
  /-- R297: The merge of learned entries completes and the rejoin enters WAIT_HOST or RESUMING. -/
  | mergeLearnDone
  /-- R296: RESUME written 1 leaves WAIT_HOST for RESUMING. -/
  | keelResume (src : Source) (page : PageIdx) (val : Word)
  /-- R296: PRUNED_KEEL and SPLIT clear, full mapping returns and REJOINED is raised. -/
  | rejoinResumingDone
  /-- R296: During a rejoin a direction loses all sub-links or FORCE_SPLIT is written, and the die returns to SPLIT. -/
  | rejoinAbort
  /-- R305: TIME_SET_CTRL SET requests a step of full time to the TIME_SET value. -/
  | timeStepSet (src : Source) (page : PageIdx) (val : Word)
  /-- R305: TIME_SET_CTRL ADD requests a step forward by the TIME_SET value. -/
  | timeStepAdd (src : Source) (page : PageIdx) (val : Word)
  /-- R305: TIME_SET_CTRL SUBTRACT requests a step backward by the TIME_SET value. -/
  | timeStepSubtract (src : Source) (page : PageIdx) (val : Word)
  /-- R304: A step takes effect at one tick: BUSY clears, STEP is raised, and gates and comparators act on the new time. -/
  | timeStepApply (d : Die)
  /-- R311: A write of TIME_OFFSET_HI submits an offset to the servo, which steps or steers and updates the lock state. -/
  | timeOffsetSubmit (src : Source) (page : PageIdx) (val : Word)
  /-- R312: REF_CHANGE written 1 puts the time unit into HOLDOVER. -/
  | timeRefChange (src : Source) (page : PageIdx) (val : Word)
  /-- R312: REF_SEL written NONE returns the unit to FREE at TIME_FREQ_INIT. -/
  | timeRefSelWrite (src : Source) (page : PageIdx) (val : Word)
  /-- R305: LATCH written 1 copies the current time into the TIME_NOW registers. -/
  | timeLatch (src : Source) (page : PageIdx) (val : Word)
  /-- R312: No offset arrives for TIME_REF_TIMEOUT and the unit enters HOLDOVER. -/
  | timeRefTimeout (d : Die)
  /-- R323: A rising edge at PPS_IN is stamped and, with REF_SEL = PPS, fed to the servo. -/
  | ppsInEdge (sub : BitVec 21)
  /-- R323: An expected PPS_IN edge is missing for 1.5 s and PPS_IN_MISS is raised. -/
  | ppsInMiss (d : Die)
  /-- R324: Network time passes a whole second, shifted by TIME_PPS_OUT_ADJ, and PPS_OUT rises. -/
  | ppsOutRise
  /-- R324: WIDTH_US after its rise, PPS_OUT falls. -/
  | ppsOutFall
  /-- R315: Every 1 us the bow and stern units exchange stamped messages and the stern steers to the bow. -/
  | timeFollowExchange
  /-- R315: 1 ms without an exchange counts as loss of the stern unit's reference. -/
  | timeFollowLoss
  /-- R307: Within 1 ms of a port entering UP its fixed stamp latency is remeasured and DONE is set. -/
  | timePortCalDone (p : Port)
  /-- R327: An armed comparator reaches its target and carries out its IRQ, ALERT, WAKE, EVENT and SNAPSHOT actions. -/
  | cmpFire (d : Die) (n : Fin 32)
  /-- R330: A write of TIME_CMP_CFG arms a comparator, refused for a periodic period below 1,000 ns. -/
  | cmpArmWrite (src : Source) (page : PageIdx) (n : Fin 32) (val : Word)
  /-- R321: A read of TIME_TXSTAMP_META returns and removes the head entry of the transmit stamp FIFO. -/
  | txstampPop (src : Source) (page : PageIdx)
  /-- R344: FLUSH_US after its first record, a collector sends its Octum stream frame. -/
  | collectorFlush (d : Die) (c : Fin 4)
  /-- R344: A write of TEL_COLL_CFG.EN = 1 is refused for a port on the other die or a bad template length. -/
  | collectorEnableWrite (src : Source) (page : PageIdx) (c : Fin 4) (val : Word)
  /-- R350: Once both dies' settling counts reach zero, the bank is cut on both dies. -/
  | bankCut (d : Die)
  /-- R351: A bank settles for SETTLE_MS without a cut, so its remaining frames are discarded with AGED. -/
  | settleTimeout (d : Die)
  /-- R353: A snapshot slot is complete with MAGIC last, PROD advances and SNAP_DONE is raised. -/
  | snapshotWritten (d : Die) (walks : List Walk)
  /-- R353: A write of ACCT_SNAP_CONS frees slots and lets a held bank be written. -/
  | acctSnapConsWrite (src : Source) (page : PageIdx) (val : Word)
  /-- R357: ACCT_WT_ADDR write op sets a tenant's weight. -/
  | acctWeightWrite (src : Source) (page : PageIdx) (val : Word)
  /-- R357: ACCT_WT_ADDR read op reads a tenant's weight. -/
  | acctWeightRead (src : Source) (page : PageIdx) (val : Word)
  /-- R348: ACCT_LIVE_ADDR read op copies a tenant's open-bank counters at one instant. -/
  | acctLiveRead (src : Source) (page : PageIdx) (val : Word)
  /-- R446: A 100 us epoch ends: energy is attributed, summaries exchanged, phases matched and budgets set. -/
  | epochEnd (r : EpochReport)
  /-- R361: At a whole multiple of PERIOD_MS, or a bank boundary with ON_SNAP, a counter dump is cut. -/
  | pmcDumpPeriod (d : Die)
  /-- R361: A dump slot is written with its header last, or skipped when the ring is full. -/
  | pmcDumpWritten (d : Die) (walks : List Walk)
  /-- R360: A write of PMC_SEL.CLEAR clears a performance counter and its OVF. -/
  | pmcClear (src : Source) (page : PageIdx) (n : Fin 8) (val : Word)
  /-- R365: MSEC_TBL_CMD write op replaces an SC or SA entry, refused for a duplicate SCI. -/
  | msecTblWrite (src : Source) (page : PageIdx) (val : Word)
  /-- R365: MSEC_TBL_CMD read op reads an SC or SA entry. -/
  | msecTblRead (src : Source) (page : PageIdx) (val : Word)
  /-- R374: CU_KEY_CMD WRITE loads a key slot, increments GEN and zeroes the data registers, or is refused. -/
  | keyWrite (src : Source) (page : PageIdx) (val : Word)
  /-- R376: CU_KEY_CMD ERASE makes a slot invalid and sets ERASE_PENDING. -/
  | keyErase (src : Source) (page : PageIdx) (val : Word)
  /-- R373: CU_KEY_CMD INFO loads a slot's status into CU_KEY_INFO. -/
  | keyInfo (src : Source) (page : PageIdx) (val : Word)
  /-- R376: Once a slot's in-flight count is zero, it is zeroised and ERASE_DONE is set and raised. -/
  | keyZeroise (d : Die) (slot : BitVec 12)
  /-- R382: A lookaside message completes, its output is released or zeroised, and its status is returned. -/
  | cipherMessageDone (d : Die) (r : Fin 512) (mismatches : Fin 3) (staging : Bool) (walks : List Walk)
  /-- R493: UCIe training completes and the function's configuration space answers. -/
  | ucieLinkUp (d : Die) (mods : BitVec 2)
  /-- R388: A module fails retraining or exceeds RETRY_LIMIT and its traffic moves to the other module within 100 us. -/
  | ucieModuleLost (d : Die) (m : Fin 2)
  /-- R388: Every 100 ms a lost module is retrained and returned to service on success. -/
  | ucieRetrainTimer (d : Die) (ok : BitVec 2)
  /-- R420: An FLR, host die reset or link loss stops the function's DMA and returns its rings, pools, spaces and MSI-X to reset. -/
  | functionReset (d : Die)
  /-- R392: A vector is unmasked and its pending message is sent if the output is still raised. -/
  | msixUnmask (src : Source) (page : PageIdx) (v : Fin 2048) (val : Word)
  /-- R393: A ring's MOD_US passes and one message covers the entries written since its last message. -/
  | msixModerationExpire (d : Die) (r : Fin 1024)
  /-- R396: DTU_INV_CMD ALL invalidates every cached translation. -/
  | dtuInvAll (src : Source) (page : PageIdx) (val : Word)
  /-- R396: DTU_INV_CMD SPACE invalidates the translations of one DMA space. -/
  | dtuInvSpace (src : Source) (page : PageIdx) (val : Word)
  /-- R396: DTU_INV_CMD RANGE invalidates the translations of a DVA range. -/
  | dtuInvRange (src : Source) (page : PageIdx) (val : Word)
  /-- R396: An invalidation completes, BUSY clears and INV_DONE is raised. -/
  | dtuInvDone (d : Die)
  /-- R400: DTU_FAULT_CMD RETRY frees a record and resumes its waiting streams with a new walk. -/
  | dtuFaultRetry (src : Source) (page : PageIdx) (val : Word)
  /-- R400: DTU_FAULT_CMD ABORT frees a record and aborts its waiting streams by source. -/
  | dtuFaultAbort (src : Source) (page : PageIdx) (val : Word)
  /-- R403: A write of HQ_DB moves an inject ring's producer or a punt ring's consumer, or is refused with DB_ERR. -/
  | hqDoorbell (src : Source) (page : PageIdx) (r : Fin 1024) (val : Word)
  /-- R403: A write of HQ_CQ_DB moves a completion ring's consumer, or is refused with DB_ERR. -/
  | hqCqDoorbell (src : Source) (page : PageIdx) (r : Fin 512) (val : Word)
  /-- R418: A write of POOL_DB moves a pool's free-ring producer. -/
  | poolDoorbell (src : Source) (page : PageIdx) (p : Fin 64) (val : Word)
  /-- R406: A write of HQ_ENABLE starts rings or stops them, aborting fetched but unstarted descriptors. -/
  | hqEnableWrite (src : Source) (page : PageIdx) (j : Fin 32) (val : Word)
  /-- R405: A write to a ring register is ignored and counted unless the ring is disabled and idle. -/
  | hqRingRegWrite (src : Source) (page : PageIdx) (reg : Fin 11) (val : Word)
  /-- R416: A write of HQ_HBQ_MAP is refused when its punt-ring set passes ring 1023. -/
  | hqHbqMapWrite (src : Source) (page : PageIdx) (h : Fin 64) (val : Word)
  /-- R401: A DMA read's data arrives from host memory for a descriptor, frame, table, cipher, pool or engine stream. -/
  | dmaReadReturn (d : Die) (c : ReadClient) (w : Walk) (data : List Byte)
  /-- R410: A NOP descriptor completes at once with STATUS OK. -/
  | descNop (d : Die) (r : Fin 512) (walks : List Walk)
  /-- R411: A FRAME descriptor injects a frame whole to a port queue and completes at admission. -/
  | descFrame (d : Die) (r : Fin 512) (walks : List Walk)
  /-- R412: A TABLE_READ descriptor copies table entries to host memory. -/
  | descTableRead (d : Die) (r : Fin 512) (errs : List QdrErr) (walks : List Walk)
  /-- R412: A TABLE_WRITE descriptor writes table entries under TBL_ACCESS_LOCK, or is refused. -/
  | descTableWrite (d : Die) (r : Fin 512) (walks : List Walk)
  /-- R377: A CIPHER descriptor submits a lookaside AES-GCM request. -/
  | descCipher (d : Die) (r : Fin 512) (walks : List Walk)
  /-- R416: The host interface dequeues a host-bound frame, writes it to pool buffers and writes its punt entry. -/
  | puntDeliver (d : Die) (h : Fin 64) (u : TxUpsets) (walks : List Walk)
  /-- R418: A pool whose cache holds fewer than 192 buffers fetches free-ring entries. -/
  | poolRefill (d : Die) (p : Fin 64)
  /-- R424: A slice stays idle for DELAY_US and enters ENTERING, saving its counters. -/
  | sliceSleepEnter (sl : Slice)
  /-- R426: The counters are saved, the PLL stops and the slice logic powers off. -/
  | sliceAsleep (sl : Slice)
  /-- R427: A wake cause switches on slice logic and starts the PLL, or abandons an entry to sleep. -/
  | sliceWakeStart (sl : Slice)
  /-- R428: The wake completes within 40 us, the counters are restored and the slice is AWAKE. -/
  | sliceWakeDone (sl : Slice)
  /-- R433: A slice moves one 50 MHz step toward its applied rating, or held by a droop waits. -/
  | ratingStep (sl : Slice)
  /-- R437: VCORE falls below the setpoint by THRESH_MV and the die's clocks stretch within 2 ns. -/
  | droopStart (d : Die) (mv : BitVec 16)
  /-- R437: VCORE stays within RELEASE_MV for HOLD_NS and the stretch ends. -/
  | droopEnd (d : Die) (mv : BitVec 16)
  /-- R438: Each millisecond the droop count sets or relaxes the DROOP rating demand. -/
  | droopRateWindow (d : Die)
  /-- R439: Every 100 us the THERMAL demand falls above WARN_C or rises below RELEASE_C. -/
  | thermalStep (d : Die) (reading : BitVec 16)
  /-- R440: The temperature reaches TRIP_C: THERM_TRIP_N asserts and both dies run at 0.8 GHz. -/
  | thermTrip (d : Die) (reading : BitVec 16)
  /-- R441: PWR_BRAKE_N falls and the brake rating and caps take effect within 10 us. -/
  | pwrBrakeFall
  /-- R441: PWR_BRAKE_N rises and the brake demand and caps are released one step per us. -/
  | pwrBrakeRise
  /-- R443: Every 1 us the arbiter samples class power and lowers or raises the ratings and caps. -/
  | arbiterSample (d : Die) (links : Nat) (mem : Nat) (compute : Nat)
  /-- R444: Every 10 us of an unmet condition with PADDLE_ON_UNMET, one more slice enters Paddle mode. -/
  | paddleOnUnmetStep (d : Die) (power : Nat)
  /-- R448: PHASE_CLEAR written 1 empties every phase slot. -/
  | coxPhaseClear (src : Source) (page : PageIdx) (val : Word)
  /-- R455: COX_CAL_CTRL.START begins a calibration window at the next epoch boundary. -/
  | coxCalStart (src : Source) (page : PageIdx) (val : Word)
  /-- R455: The calibration window ends, BUSY clears and CAL_DONE is raised. -/
  | coxCalEnd (d : Die)
  /-- R446: A write of COX_CAP, FLOOR or HOST_MAX is refused outside its range and otherwise changes the demands. -/
  | coxCfgWrite (src : Source) (page : PageIdx) (reg : CoxReg) (val : Word)
  /-- R460: Every 1 ms configuration words are scrubbed; an uncorrectable word reverts and sets FAULT. -/
  | configScrub (d : Die) (found : List ConfigErr)
  /-- R460: Every 1 ms decision-cache entries are parity-checked and bad ones invalidated. -/
  | decisionCacheScrub (d : Die) (bad : List Nat)
  /-- R477: KICK restarts the host watchdog and clears EXPIRED. -/
  | watchdogKick (src : Source) (page : PageIdx) (val : Word)
  /-- R477: TIMEOUT_MS passes without a kick and every slice of the die enters Paddle mode. -/
  | watchdogExpire (d : Die)
  /-- R474: ENTER written 1 puts the slice into Paddle mode with cause HOST. -/
  | paddleEnter (src : Source) (page : PageIdx) (val : Word)
  /-- R475: EXIT written 1 leaves Paddle mode, or is refused while a cause condition is present. -/
  | paddleExit (src : Source) (page : PageIdx) (val : Word)
  /-- R478: Hourly, at the roll call or on MEASURE, the aging monitors are measured and the setpoint raised. -/
  | wearMeasure (d : Die) (losses : List (BitVec 16))
  /-- R480: LOADED written 1 makes the temperature-hour counters read-only until VAON is lost. -/
  | wearHoursLoad (src : Source) (page : PageIdx) (val : Word)
  /-- R480: Each whole hour counts in the temperature bin of the current reading. -/
  | wearHourTick (d : Die)
  /-- R497: OTP_CMD READ returns a corrected OTP word or UNCORR. -/
  | otpRead (src : Source) (page : PageIdx) (addr : BitVec 14)
  /-- R497: OTP_CMD PROGRAM programs a word under lock and area checks, or is refused. -/
  | otpProgram (src : Source) (page : PageIdx) (addr : BitVec 14)
  /-- R498: OTP_CMD SVN_INC programs the next security-version bit in all three copies. -/
  | otpSvnInc (src : Source) (page : PageIdx)
  /-- R499: A PROGRAM or SVN_INC completes with its read-back compared. -/
  | otpCmdDone (took : Word)
  /-- R506: DIE_IMG_CTRL.START begins an image load, refused while BUSY. -/
  | imageStart (src : Source) (page : PageIdx)
  /-- R506: DIE_IMG_CTRL.ABORT ends the load with ABORTED. -/
  | imageAbort (src : Source) (page : PageIdx)
  /-- R507: A write to DIE_IMG_DATA appends 4 bytes, which the loader checks and applies or holds. -/
  | imageDataWrite (src : Source) (page : PageIdx) (off : Fin 4096) (val : Word)
  /-- R510: The loader reaches its result, and on OK applies the held records and marks the control stores verified. -/
  | imageVerifyDone (d : Die)
  /-- R94: Remote fault sequences begin to arrive on a port, PORT_STATUS.RF is set and, in UP, the DOWN_DEBOUNCE timer for the exit to RFAULT starts. -/
  | remoteFaultDetect (p : Port)
  /-- R295: The other die's presence signal changes on the always-on link and reaches this die within 2 us, changing KEEL_STATUS.PEER_PRESENT. -/
  | peerPresenceChange (d : Die) (present : Bool)
  /-- R480: VAON or VAON_IO leaves its range, so the temperature-hour counters and LOADED are lost, the I3C address is dropped and any OTP command stops. -/
  | vaonLoss (torn : Word)
  /-- R115: A tenant-map INSERT, DELETE or LOOKUP completes in every target copy, with any relocation, and PRS_TMAP_CMD.BUSY clears with its STATUS. -/
  | tmapCmdDone (sl : Slice)
  /-- R137: A TCAM row INVALIDATE, WRITE, VALIDATE or READ completes in every slice copy it reaches, within 2 us, and TBL_TCAM_ROW.BUSY clears. -/
  | tcamRowOpDone (sl : Slice)
  /-- R264: The last byte of a received frame reaches the ingress MAC, so a frame that has already passed stage n is metered by its policers then. -/
  | frameRxEnd (p : Port)
  deriving DecidableEq, Repr

end Sys2Proof
end

