-- ==== Sys2Proof/Config.lean ====
section
/-!
DEFINITION. What one part fixes and the spec leaves open: opaque constants, so that no proof can see a value
(each is named in a row of notes/assumptions).
-/
namespace Sys2Proof.Config

/-- The value of the n-th draw that the spec leaves open; State.free counts the draws. -/
opaque freeValue (w n : Nat) : BitVec w

/-- The device characteristics register of R70 identifies the part; the spec gives no value. -/
opaque dcr : BitVec 8

/-- The check bits the part computes for a control-store word (R209: the matrix is internal to the part). -/
opaque csCheck (addr : BitVec 15) (word : BitVec 256) : BitVec 12

/-- The reset value of TBL_EM_SEEDw, derived from the serial number in a way the spec does not give (R154). -/
opaque emSeed (serial : Nat) (way : Nat) : Word

/-- The set of the decision cache that a key and tree fall in (R118: sets of 8; the mapping is not given). -/
opaque cacheSet (key tree : Nat) : Fin 16384

/-- What a QDR node reads as after VQDR is first powered and before it is written (R540: undefined). -/
opaque qdrPowerUp (channel node : Nat) : BitVec 256

/-- Does a word of the TRIMS or FUSE_MAP area concern a die (R15: each shadow holds the part that its die uses; R495: the
formats are internal)? -/
opaque dieShare (die addr : Nat) : Bool

/-- The factory energy coefficient i of a die, from the TRIMS words of its shadow, whose format is internal; the design-typical
value where a word is missing (R356, R495, R496). -/
opaque coef (trims : List (Nat × Word)) (die i : Nat) : BitVec 32

/-- The designated spare position of a slice's 17 stroke engines, from the FUSE_MAP words of its die's shadow (R65: chosen per
part; R495: the format is internal). -/
opaque spareEngine (fuses : List (Nat × Word)) (slice : Nat) : Fin 17

/-- Whether an uncorrectable FUSE_MAP word designates the slice's spare engine (R65, R496: chosen per part). -/
opaque fuseHits (word : Nat) (slice : Nat) : Bool

/-- The factory VCORE setpoint of a die before any wear raise, in mV (R519 gives a range). -/
opaque vcoreSetpoint (die : Nat) : BitVec 16

/-- The entry of a die's lock table of 8,192 entries that a lock ID falls in (R202). -/
opaque lockEntry (id : BitVec 24) : Fin 8192

/-- The lock ID that a table or QDR entry maps to at a commit (R195). -/
opaque entryLock (table : Nat) (index : Nat) : BitVec 24

/-- Whether the cipher unit takes a lookaside key as 256 bits or as 128 (R377: a request has no field for it). -/
opaque longKey (key : BitVec 256) (salt : BitVec 96) : Bool

/-- α of a reserved ALPHA code, in units of 1/256 (R226). -/
opaque alphaReserved (code : Nat) : Nat

/-- The Cumulative field after the per-node step of RFC 9197 with a prime of 0 (R347). -/
opaque potNoPrime (cumulative pktId share lpc : Nat) : BitVec 64

/-- CTRL_TYPE codes of control messages: 0 a learn event, 1 a pause condition, 2 a failed sub-link, 3 a frame that MACsec
refused, 4 a port's membership, 5 a register access, 6 the answer to a read, 7 an epoch's summary, 8 a
budget; R284 gives none. -/
opaque ctrlType : Nat → BitVec 8

/-- The consumed fraction of the 25-year life, in units of 0.01%, that the design model gives for a worst loss (R479: the model
is not given). -/
opaque lifeConsumed (worst : BitVec 16) : BitVec 16

/-- The descriptor extension of a frame's first cell: its layout is internal to the package (R284). -/
opaque cellExt (die uid : Nat) : BitVec 384

/-- The payload of the CTRL cells of control message `num` of a die, and of the ACK of a CTRL cell: its length minus one, and its
bytes; R284 and R287 give no format. -/
opaque ctrlBody (die num : Nat) : Fin 256 × BitVec 2048
opaque ackBody (sub seq : Nat) : Fin 256 × BitVec 2048

/-- The receive signal-to-noise ratio that a lane measures in the n-th millisecond, in 0.01 dB (LANE_RX_QUALITY). -/
opaque laneSnr (lane n : Nat) : BitVec 16

/-- The slot that the trie of a slice's copy allocates to a node, by slice, table, level and the bits that lead to it (R164). -/
opaque lpmSlot (slice table level node : Nat) : BitVec 18

end Sys2Proof.Config
end

