-- ==== Sys2Proof/Machine/Bits.lean ====
section
/-!
DEFINITION. Bit fields, byte order, checksums and CRCs over plain lists (R5, R6, R152, R501).
-/
namespace Sys2Proof.Machine

/-- Bits [hi:lo] of a number. -/
def bits (v hi lo : Nat) : Nat := (v >>> lo) % 2 ^ (hi - lo + 1)

/-- Bit `i` of a number. -/
def bit (v i : Nat) : Bool := v.testBit i

/-- `v` placed in bits [hi:lo]. -/
def fieldAt (v hi lo : Nat) : Nat := (v % 2 ^ (hi - lo + 1)) <<< lo

/-- `w` with bits [hi:lo] replaced by `v`. -/
def putBits (w hi lo v : Nat) : Nat := w - ((bits w hi lo) <<< lo) + fieldAt v hi lo

/-- A byte of a number, byte 0 least significant. -/
def byteOf (v i : Nat) : Byte := BitVec.ofNat 8 (v >>> (8 * i))

/-- `n` bytes of a number, least significant first (R6: host memory). -/
def leBytes (n v : Nat) : List Byte := (List.range n).map (byteOf v)

/-- `n` bytes of a number, most significant first (R6: the wire). -/
def beBytes (n v : Nat) : List Byte := (leBytes n v).reverse

/-- The number that bytes spell, most significant first. -/
def ofBE (l : List Byte) : Nat := l.foldl (fun a b => a * 256 + b.toNat) 0

/-- The number that bytes spell, least significant first. -/
def ofLE (l : List Byte) : Nat := ofBE l.reverse

/-- Bytes `off` to `off + n - 1`. -/
def slice (l : List Byte) (off n : Nat) : List Byte := (l.drop off).take n

/-- Bytes with those from `off` on replaced by `new`. -/
def patch (l : List Byte) (off : Nat) (new : List Byte) : List Byte :=
  l.take off ++ new ++ l.drop (off + new.length)

/-- `w` bits of a byte string from bit offset `off`, counted from the most significant bit of the first byte (R106). -/
def bitsAt (l : List Byte) (off w : Nat) : Nat :=
  let n := (off % 8 + w + 7) / 8
  let b := slice l (off / 8) n
  (ofBE b >>> (8 * n - off % 8 - w)) % 2 ^ w

/-- One step of a reflected CRC-32 with polynomial `poly`. -/
def crcBit (poly c : BitVec 32) : BitVec 32 := if c.getLsbD 0 then (c >>> 1) ^^^ poly else c >>> 1

/-- One byte of a reflected CRC-32. -/
def crcByte (poly c : BitVec 32) (b : Byte) : BitVec 32 :=
  (List.range 8).foldl (fun c _ => crcBit poly c) (c ^^^ b.setWidth 32)

/-- Continue a reflected CRC-32 over bytes, without inversion. -/
def crcRun (poly c : BitVec 32) (l : List Byte) : BitVec 32 := l.foldl (crcByte poly) c

/-- The CRC-32C polynomial 0x1EDC6F41, reflected. -/
def crc32cPoly : BitVec 32 := 0x82F63B78

/-- CRC-32C with initial value and final inversion of all ones. -/
def crc32c (l : List Byte) : BitVec 32 := ~~~ crcRun crc32cPoly 0xFFFFFFFF l

/-- The Ethernet FCS of IEEE 802.3: CRC-32, polynomial 0x04C11DB7, reflected. -/
def fcs32 (l : List Byte) : BitVec 32 := ~~~ crcRun 0xEDB88320 0xFFFFFFFF l

/-- The Internet checksum: the ones' complement of the ones' complement sum of 16-bit words. -/
def inetSum (l : List Byte) : Nat :=
  let rec go : List Byte → Nat → Nat
    | a :: b :: r, acc => go r (acc + a.toNat * 256 + b.toNat)
    | [a], acc => acc + a.toNat * 256
    | [], acc => acc
  let s := go l 0
  let s := s % 65536 + s / 65536
  s % 65536 + s / 65536

def inetChecksum (l : List Byte) : Nat := 65535 - inetSum l % 65536

/-- How many of the low `n` bits of a number are 1. -/
def popCount (n v : Nat) : Nat := (List.range n).countP (fun i => v.testBit i)

/-- Replace element `i` of a list, leaving a shorter list as it is. -/
def setAt {α : Type} (l : List α) (i : Nat) (a : α) : List α := l.set i a

end Sys2Proof.Machine
end

