-- ==== Sys2Proof/Machine/Page.lean ====
section
/-!
DEFINITION. Unit kinds, pages, the page index and the port tree (02 R38-R49, 01 R16-R17).
-/
namespace Sys2Proof.Machine

/-- The unit kinds of R43 and R44. -/
inductive Kind where
  | lane | port | eight | slice | die | device
  | engine | cs | bufMgr | qdr | keel | msec | hif | dtu | cipher | timeU | cox | otp | tel | cls | lrn | pmc
  | ring | acct | aon
  deriving DecidableEq, Repr

/-- The unit kind code of R43 and R44. -/
def Kind.code : Kind → Nat
  | .lane => 1 | .port => 2 | .eight => 3 | .slice => 4 | .die => 5 | .device => 6
  | .engine => 0x10 | .cs => 0x11 | .bufMgr => 0x12 | .qdr => 0x13 | .keel => 0x14 | .msec => 0x15
  | .hif => 0x16 | .dtu => 0x17 | .cipher => 0x18 | .timeU => 0x19 | .cox => 0x1A | .otp => 0x1B | .tel => 0x1C
  | .cls => 0x1D | .lrn => 0x1E | .pmc => 0x1F | .ring => 0x20 | .acct => 0x21 | .aon => 0x22

/-- The kind of a unit kind code. -/
def Kind.ofCode : Nat → Option Kind
  | 1 => some .lane | 2 => some .port | 3 => some .eight | 4 => some .slice | 5 => some .die | 6 => some .device
  | 0x10 => some .engine | 0x11 => some .cs | 0x12 => some .bufMgr | 0x13 => some .qdr | 0x14 => some .keel
  | 0x15 => some .msec | 0x16 => some .hif | 0x17 => some .dtu | 0x18 => some .cipher | 0x19 => some .timeU
  | 0x1A => some .cox | 0x1B => some .otp | 0x1C => some .tel | 0x1D => some .cls | 0x1E => some .lrn
  | 0x1F => some .pmc | 0x20 => some .ring | 0x21 => some .acct | 0x22 => some .aon
  | _ => none

/-- A page: a unit kind and a number within the kind. The number is the seat, but for attached units it is the number
within the kind (channel c, die d), and for the keel, the cox and the device it is the die of the instance
(R45, R60; while the keel is up every source sees device instance 0). -/
structure Page where
  kind : Kind
  n : Nat
  deriving DecidableEq, Repr

/-- How many units of a kind the device holds. -/
def Kind.count : Kind → Nat
  | .lane => 1024 | .port => 1024 | .eight => 128 | .slice => 16 | .die => 2 | .device => 2
  | .engine => 256 | .cs => 16 | .bufMgr => 2 | .qdr => 8 | .keel => 2 | .msec => 128 | .otp => 1
  | _ => 2

/-- The first attached seat of a kind (R43). -/
def Kind.seat0 : Kind → Nat
  | .engine => 0 | .cs => 0x100 | .bufMgr => 0x200 | .qdr => 0x210 | .keel => 0x220 | .msec => 0x300
  | .hif => 0x400 | .dtu => 0x410 | .cipher => 0x420 | .timeU => 0x430 | .cox => 0x440 | .otp => 0x450
  | .tel => 0x460 | .cls => 0x470 | .lrn => 0x480 | .pmc => 0x490 | .ring => 0x4A0 | .acct => 0x4B0 | .aon => 0x4C0
  | _ => 0

/-- Attached kinds with one page per die, in seat order from 0x400 in steps of 0x10 (R43). -/
def Kind.perDie : Nat → Option Kind
  | 0 => some .hif | 1 => some .dtu | 2 => some .cipher | 3 => some .timeU | 6 => some .tel | 7 => some .cls
  | 8 => some .lrn | 9 => some .pmc | 10 => some .ring | 11 => some .acct | 12 => some .aon | _ => none

/-- The attached unit behind a seat of class 6, for an accessor of die `d` (R43, R45). -/
def Page.attached (d seat : Nat) : Option Page :=
  if seat < 0x100 then some ⟨.engine, seat⟩
  else if seat < 0x110 then some ⟨.cs, seat - 0x100⟩
  else if 0x200 ≤ seat ∧ seat < 0x202 then some ⟨.bufMgr, seat - 0x200⟩
  else if 0x210 ≤ seat ∧ seat < 0x218 then some ⟨.qdr, seat - 0x210⟩
  else if seat = 0x220 then some ⟨.keel, d⟩
  else if 0x300 ≤ seat ∧ seat < 0x380 then some ⟨.msec, seat - 0x300⟩
  else if seat = 0x440 then some ⟨.cox, d⟩
  else if seat = 0x450 then some ⟨.otp, 0⟩
  else if 0x400 ≤ seat ∧ seat < 0x4D0 ∧ seat % 16 < 2 then
    (Kind.perDie ((seat - 0x400) / 16)).map (fun k => ⟨k, seat % 16⟩)
  else none

/-- The page behind a page index (R39, R40), for an accessor of die `d`; `dev` is the device instance it sees (R60). -/
def Page.ofIndex (d dev idx : Nat) : Option Page :=
  let seat := idx % 8192
  match idx / 8192 with
  | 0 => if seat < 1024 then some ⟨.lane, seat⟩ else none
  | 1 => if seat < 1024 then some ⟨.port, seat⟩ else none
  | 2 => if seat < 128 then some ⟨.eight, seat⟩ else none
  | 3 => if seat < 16 then some ⟨.slice, seat⟩ else none
  | 4 => if seat < 2 then some ⟨.die, seat⟩ else none
  | 5 => if seat = 0 then some ⟨.device, dev⟩ else none
  | 6 => Page.attached d seat
  | _ => none

/-- PAGE_ID: class, seat and kind code (R39, R43, R44, R47). -/
def Page.id (p : Page) : Nat :=
  let cls := match p.kind with
    | .lane => 0 | .port => 1 | .eight => 2 | .slice => 3 | .die => 4 | .device => 5 | _ => 6
  let seat := match p.kind with
    | .device => 0 | .keel => 0x220 | .cox => 0x440 | .otp => 0x450
    | k => k.seat0 + p.n
  cls * 2 ^ 29 + seat * 2 ^ 16 + p.kind.code

/-- The die that owns a page (R43). -/
def Page.die (p : Page) : Nat :=
  match p.kind with
  | .lane | .port => p.n / 512
  | .eight | .msec => p.n / 64
  | .slice | .cs => p.n / 8
  | .engine => p.n / 128
  | .qdr => p.n / 4
  | .otp => 0
  | _ => p.n

/-- The register space of an offset: a kind's own registers and counters, and the page header at offsets below 0x40 (R47). -/
def Kind.space (k : Kind) (off : Nat) : Nat := k.code + if off < 0x40 then 64 else 0

/-- The storage key of a register: number and offset, and the register space in the low 7 bits. -/
def Page.key (p : Page) (off : Nat) : Nat := (p.n * 65536 + off) * 128 + p.kind.space off

/-- The kind code, the number and the offset of a storage key. -/
def keyKind (k : Nat) : Nat := k % 64
def keyNum (k : Nat) : Nat := k / 128 / 65536
def keyOff (k : Nat) : Nat := k / 128 % 65536

/-- Rank in the port tree: lane 0 up to device 5; none for attached units. -/
def Kind.level : Kind → Option Nat
  | .lane => some 0 | .port => some 1 | .eight => some 2 | .slice => some 3 | .die => some 4 | .device => some 5
  | _ => none

/-- The kind at a rank of the port tree. -/
def Kind.atLevel : Nat → Kind
  | 0 => .lane | 1 => .port | 2 => .eight | 3 => .slice | 4 => .die | _ => .device

/-- How many units of level `l` one unit of level `l + 1` holds; lanes count 1 per port seat. -/
def seatsPer : Nat → Nat
  | 0 => 1 | 1 => 8 | 2 => 8 | 3 => 8 | _ => 2

/-- Units of level `l` below one unit of level `h` (seats of consecutive numbers). -/
def seatsBelow (h l : Nat) : Nat := ((List.range h).drop l).foldl (fun a i => a * seatsPer i) 1

/-- Pages of level `l` below a page of an eight, slice, die or device at level `h`, in seat order (R53). In split operation a device page
stands for its own die alone (R48). -/
def Page.below (split : Bool) (p : Page) (h l : Nat) : List Page :=
  if h ≤ l ∨ h = 1 then [] else
  let per := seatsBelow h l
  let per' := if h = 5 ∧ split then seatsBelow 4 l else per
  let base := if h = 5 then (if split then p.n * seatsBelow 4 l else 0) else p.n * per
  (List.range per').map (fun i => ⟨Kind.atLevel l, base + i⟩)

/-- The interrupt parent and bit of an attached unit (R43). -/
def Page.irqParent (dev : Nat) (p : Page) : Option (Page × Nat) :=
  match p.kind with
  | .engine => some (⟨.slice, p.n / 16⟩, 8)
  | .cs => some (⟨.slice, p.n⟩, 9)
  | .bufMgr => some (⟨.die, p.n⟩, 8)
  | .qdr => some (⟨.die, p.n / 4⟩, 9)
  | .keel => some (⟨.device, dev⟩, 8)
  | .msec => some (⟨.eight, p.n⟩, 8)
  | .hif => some (⟨.die, p.n⟩, 10)
  | .dtu => some (⟨.die, p.n⟩, 11)
  | .cipher => some (⟨.die, p.n⟩, 12)
  | .timeU => some (⟨.die, p.n⟩, 13)
  | .cox => some (⟨.device, dev⟩, 9)
  | .otp => some (⟨.device, dev⟩, 10)
  | .tel => some (⟨.die, p.n⟩, 14)
  | .cls => some (⟨.die, p.n⟩, 15)
  | .lrn => some (⟨.die, p.n⟩, 16)
  | .pmc => some (⟨.die, p.n⟩, 17)
  | .ring => some (⟨.die, p.n⟩, 18)
  | .acct => some (⟨.die, p.n⟩, 19)
  | .aon => some (⟨.die, p.n⟩, 20)
  | .port => some (⟨.eight, p.n / 8⟩, p.n % 8)
  | .eight => some (⟨.slice, p.n / 8⟩, p.n % 8)
  | .slice => some (⟨.die, p.n / 8⟩, p.n % 8)
  | .die => some (⟨.device, dev⟩, if dev = 0 then p.n else 0)
  | .lane | .device => none

end Sys2Proof.Machine
end

