-- ==== Sys2Proof/Machine/RegMap.lean ====
section
/-!
DEFINITION. The register map: every block register the spec gives each kind of page, from the register tables of
02-17, with offset, array form, reset value and the access code of each bit (R7-R12). RO bits are those in no mask.
A field whose Reset column shows X resets to 0 here and takes its derived value at the roll call (R11).
-/
namespace Sys2Proof.Machine

/-- A register, or an array of `count` registers `stride` bytes apart. `wide` marks the low word of a 64-bit counter
that covers two offsets (R8). -/
structure Reg where
  off : Nat
  count : Nat
  stride : Nat
  reset : Nat
  rw : Nat := 0
  rwl : Nat := 0
  w1c : Nat := 0
  rc : Nat := 0
  wo : Nat := 0
  w1s : Nat := 0
  wide : Bool := false
  deriving DecidableEq, Repr

/-- Registers of the ring page. -/
def regsRing : List Reg := [
  { off := 0x100, count := 1, stride := 0, reset := 0 }, -- RING_ROLL_STATUS (02)
  { off := 0x104, count := 1, stride := 0, reset := 0 } -- RING_ROLL_COUNTS (02)
]

/-- Registers of the eight page. -/
def regsEight : List Reg := [
  { off := 0x100, count := 1, stride := 0, reset := 0x249249, rw := 0xFFFFFF }, -- EIGHT_ARRANGE (03)
  { off := 0x104, count := 1, stride := 0, reset := 0, rw := 0xFFF }, -- EIGHT_PAIR_RATE (03)
  { off := 0x108, count := 1, stride := 0, reset := 0 }, -- EIGHT_ARRANGE_STATUS (03)
  { off := 0x10C, count := 1, stride := 0, reset := 0 } -- EIGHT_SWAP (03)
]

/-- Registers of the lane page. -/
def regsLane : List Reg := [
  { off := 0x100, count := 1, stride := 0, reset := 0x700 }, -- LANE_STATUS (03)
  { off := 0x104, count := 1, stride := 0, reset := 0 }, -- LANE_TX_FIR (03)
  { off := 0x108, count := 1, stride := 0, reset := 0, rwl := 3 }, -- LANE_TX_CTRL (03)
  { off := 0x10C, count := 1, stride := 0, reset := 0, rwl := 0x3FFFFFFF }, -- LANE_TX_OVERRIDE (03)
  { off := 0x110, count := 1, stride := 0, reset := 0 }, -- LANE_RX_EQ (03)
  { off := 0x114, count := 1, stride := 0, reset := 0x1F00, rwl := 0x1F1F }, -- LANE_RX_LIMIT (03)
  { off := 0x118, count := 1, stride := 0, reset := 0 }, -- LANE_RX_QUALITY (03)
  { off := 0x11C, count := 1, stride := 0, reset := 0 }, -- LANE_BT_LO (03)
  { off := 0x120, count := 1, stride := 0, reset := 0 }, -- LANE_BT_HI (03)
  { off := 0x128, count := 1, stride := 0, reset := 0, wide := true } -- LANE_SYM_ERR (03)
]

/-- Registers of the port page. -/
def regsPort : List Reg := [
  { off := 0x100, count := 1, stride := 0, reset := 1, rw := 0xF33 }, -- PORT_CFG (03)
  { off := 0x104, count := 1, stride := 0, reset := 0x1FFF, rw := 0x1FFF }, -- PORT_AN_ADV (03)
  { off := 0x108, count := 1, stride := 0, reset := 0xF000 }, -- PORT_STATUS (03)
  { off := 0x10C, count := 1, stride := 0, reset := 0x80640410, rw := 0x83FF3FFF }, -- PORT_LINK_CFG (03)
  { off := 0x110, count := 1, stride := 0, reset := 0x2800, rw := 0x3FFF }, -- PORT_MAC_CFG (03)
  { off := 0x114, count := 1, stride := 0, reset := 0, rw := 0xFFFFFFFF }, -- PORT_MAC_SA_LO (03)
  { off := 0x118, count := 1, stride := 0, reset := 0, rw := 0xFFFF }, -- PORT_MAC_SA_HI (03)
  { off := 0x180, count := 1, stride := 0, reset := 0, wide := true }, -- PORT_RX_FRAMES (03)
  { off := 0x188, count := 1, stride := 0, reset := 0, wide := true }, -- PORT_RX_BYTES (03)
  { off := 0x190, count := 1, stride := 0, reset := 0, wide := true }, -- PORT_TX_FRAMES (03)
  { off := 0x198, count := 1, stride := 0, reset := 0, wide := true }, -- PORT_TX_BYTES (03)
  { off := 0x1A0, count := 1, stride := 0, reset := 0, wide := true }, -- PORT_RX_FCS_BAD (03)
  { off := 0x1A8, count := 1, stride := 0, reset := 0, wide := true }, -- PORT_RX_RUNT (03)
  { off := 0x1B0, count := 1, stride := 0, reset := 0, wide := true }, -- PORT_RX_OVERSIZE (03)
  { off := 0x1B8, count := 1, stride := 0, reset := 0, wide := true }, -- PORT_RX_OVERRUN_FRAMES (03)
  { off := 0x1C0, count := 1, stride := 0, reset := 0, wide := true }, -- PORT_RX_OVERRUN_BYTES (03)
  { off := 0x1C8, count := 1, stride := 0, reset := 0, wide := true }, -- PORT_FEC_CORRECTED_CW (03)
  { off := 0x1D0, count := 1, stride := 0, reset := 0, wide := true }, -- PORT_FEC_UNCORR_CW (03)
  { off := 0x1D8, count := 1, stride := 0, reset := 0, wide := true }, -- PORT_LINK_DOWN_EVENTS (03)
  { off := 0x200, count := 1, stride := 0, reset := 0x80000000, rw := 0xFC003FFF }, -- PRS_PORT_CFG (04)
  { off := 0x210, count := 1, stride := 0, reset := 0x80000000, rw := 0xFFFFFFFF }, -- LRN_PORT_CFG (05)
  { off := 0x214, count := 1, stride := 0, reset := 0 }, -- LRN_PORT_COUNT (05)
  { off := 0x300, count := 1, stride := 0, reset := 0x89500000, rw := 0x8FF0FFFF }, -- BUF_PORT_CFG (07)
  { off := 0x304, count := 1, stride := 0, reset := 0x76543210, rw := 0xFFFFFFFF }, -- BUF_PORT_QMAP (07)
  { off := 0x308, count := 1, stride := 0, reset := 0x400000, rw := 0xFFFFFFFF }, -- BUF_PORT_PFC (07)
  { off := 0x30C, count := 1, stride := 0, reset := 0 }, -- BUF_PORT_PFC_STATUS (07)
  { off := 0x340, count := 16, stride := 4, reset := 0x83800008, rw := 0xFF80FFFF }, -- BUF_QUEUE_CFG (07)
  { off := 0x380, count := 16, stride := 4, reset := 0, rw := 0xFFFFF }, -- BUF_QUEUE_AGE (07)
  { off := 0x3C0, count := 16, stride := 4, reset := 0, rw := 0xFFFFFFFF }, -- BUF_QUEUE_ECN (07)
  { off := 0x400, count := 16, stride := 4, reset := 0 }, -- BUF_QUEUE_STATUS (07)
  { off := 0x480, count := 1, stride := 0, reset := 0, wide := true }, -- BUF_ADMIT_FULL_FRAMES (07)
  { off := 0x488, count := 1, stride := 0, reset := 0, wide := true }, -- BUF_AGED_FRAMES (07)
  { off := 0x490, count := 1, stride := 0, reset := 0, wide := true }, -- BUF_FLUSHED_FRAMES (07)
  { off := 0x498, count := 1, stride := 0, reset := 0, wide := true }, -- BUF_ECN_MARKED (07)
  { off := 0x4A0, count := 1, stride := 0, reset := 0, wide := true }, -- BUF_CT_FRAMES (07)
  { off := 0x4A8, count := 1, stride := 0, reset := 0, wide := true }, -- BUF_PFC_TX (07)
  { off := 0x4B0, count := 1, stride := 0, reset := 0, wide := true }, -- BUF_PFC_RX (07)
  { off := 0x4B8, count := 1, stride := 0, reset := 0, wide := true }, -- BUF_PAUSE_IGNORED (07)
  { off := 0x500, count := 16, stride := 4, reset := 0x4000001, rw := 0xFC0000FF }, -- SCH_QUEUE_CFG (08)
  { off := 0x540, count := 16, stride := 8, reset := 0x20000000, rw := 0xE03FFFFF }, -- SCH_QUEUE_SHAPE_RATE (08)
  { off := 0x544, count := 16, stride := 8, reset := 0x4000, rw := 0xFFFFFF }, -- SCH_QUEUE_SHAPE_BURST (08)
  { off := 0x5C0, count := 4, stride := 4, reset := 1, rw := 0x380000FF }, -- SCH_GROUP_CFG (08)
  { off := 0x5D0, count := 4, stride := 8, reset := 0x20000000, rw := 0xE03FFFFF }, -- SCH_GROUP_SHAPE_RATE (08)
  { off := 0x5D4, count := 4, stride := 8, reset := 0x4000, rw := 0xFFFFFF }, -- SCH_GROUP_SHAPE_BURST (08)
  { off := 0x5F0, count := 1, stride := 0, reset := 0x20000000, rw := 0xE03FFFFF }, -- SCH_PORT_SHAPE_RATE (08)
  { off := 0x5F4, count := 1, stride := 0, reset := 0x4000, rw := 0xFFFFFF }, -- SCH_PORT_SHAPE_BURST (08)
  { off := 0x5F8, count := 1, stride := 0, reset := 0 }, -- SCH_CFG_STATUS (08)
  { off := 0x600, count := 16, stride := 8, reset := 0 }, -- SCH_QUEUE_DEPTH_SAMPLE (08)
  { off := 0x604, count := 16, stride := 8, reset := 0 }, -- SCH_QUEUE_DELAY_SAMPLE (08)
  { off := 0x680, count := 1, stride := 0, reset := 0, rw := 0xBF000000, wo := 0x40000000 }, -- GATE_CTRL (08)
  { off := 0x684, count := 1, stride := 0, reset := 0, rw := 0xFFFF }, -- GATE_GUARD (08)
  { off := 0x688, count := 1, stride := 0, reset := 0xF4240, rw := 0xFFFFFFFF }, -- GATE_ADMIN_CYCLE (08)
  { off := 0x68C, count := 1, stride := 0, reset := 0, rw := 0xFFFFFFFF }, -- GATE_ADMIN_EXT (08)
  { off := 0x690, count := 1, stride := 0, reset := 0, rw := 0x7FF }, -- GATE_ADMIN_LEN (08)
  { off := 0x694, count := 1, stride := 0, reset := 0, rw := 0x3FFFFFFF }, -- GATE_ADMIN_BASE_NS (08)
  { off := 0x698, count := 1, stride := 0, reset := 0, rw := 0xFFFFFFFF }, -- GATE_ADMIN_BASE_SEC_LO (08)
  { off := 0x69C, count := 1, stride := 0, reset := 0, rw := 0xFFFFFFFF }, -- GATE_ADMIN_BASE_SEC_HI (08)
  { off := 0x6A0, count := 1, stride := 0, reset := 0xF4240 }, -- GATE_OPER_CYCLE (08)
  { off := 0x6A4, count := 1, stride := 0, reset := 0 }, -- GATE_OPER_LEN (08)
  { off := 0x6A8, count := 1, stride := 0, reset := 0 }, -- GATE_OPER_BASE_NS (08)
  { off := 0x6AC, count := 1, stride := 0, reset := 0 }, -- GATE_OPER_BASE_SEC_LO (08)
  { off := 0x6B0, count := 1, stride := 0, reset := 0 }, -- GATE_OPER_BASE_SEC_HI (08)
  { off := 0x6B4, count := 1, stride := 0, reset := 0 }, -- GATE_STATUS (08)
  { off := 0x6B8, count := 1, stride := 0, reset := 0 }, -- GATE_OPER_EXT (08)
  { off := 0x6C0, count := 1, stride := 0, reset := 0, rw := 0x3FF, wo := 0xC0000000 }, -- GATE_LIST_ADDR (08)
  { off := 0x6C4, count := 1, stride := 0, reset := 0, rw := 0xFFFFFFFF }, -- GATE_LIST_DATA_LO (08)
  { off := 0x6C8, count := 1, stride := 0, reset := 0, rw := 0xFFFFFFFF }, -- GATE_LIST_DATA_HI (08)
  { off := 0x700, count := 1, stride := 0, reset := 0xA, rw := 0xF00000FF }, -- PORT_MM_CFG (08)
  { off := 0x704, count := 1, stride := 0, reset := 0 }, -- PORT_MM_STATUS (08)
  { off := 0x740, count := 16, stride := 4, reset := 0xFFFFFFFF }, -- GATE_QUEUE_MAXWIN (08)
  { off := 0x780, count := 1, stride := 0, reset := 0, wide := true }, -- GATE_MISS_FRAMES (08)
  { off := 0x788, count := 1, stride := 0, reset := 0, wide := true }, -- GATE_DEFERRED (08)
  { off := 0x790, count := 1, stride := 0, reset := 0, wide := true }, -- PORT_MM_TX_PREEMPTIONS (08)
  { off := 0x798, count := 1, stride := 0, reset := 0, wide := true }, -- PORT_MM_RX_FRAGMENTS (08)
  { off := 0x7A0, count := 1, stride := 0, reset := 0, wide := true }, -- PORT_MM_ASSY_ERRORS (08)
  { off := 0x7A8, count := 1, stride := 0, reset := 0, wide := true }, -- PORT_MM_RX_ASSEMBLED (08)
  { off := 0x800, count := 1, stride := 0, reset := 0x38000000, rw := 0xFFE00000 }, -- TIME_PORT_PTP_CFG (10)
  { off := 0x804, count := 1, stride := 0, reset := 0, rw := 0xFFFFFFFF }, -- TIME_PORT_RX_ADJ (10)
  { off := 0x808, count := 1, stride := 0, reset := 0, rw := 0xFFFFFFFF }, -- TIME_PORT_TX_ADJ (10)
  { off := 0x80C, count := 1, stride := 0, reset := 0, rw := 0xFFFFFFFF }, -- TIME_PORT_PDELAY (10)
  { off := 0x810, count := 1, stride := 0, reset := 0 }, -- TIME_PORT_CAL (10)
  { off := 0x840, count := 1, stride := 0, reset := 0, wide := true }, -- TIME_PORT_PTP_EVENTS (10)
  { off := 0x848, count := 1, stride := 0, reset := 0, wide := true }, -- TIME_PORT_PTP_CORRECTED (10)
  { off := 0x908, count := 22, stride := 8, reset := 0, wide := true }, -- TEL_DROP (11)
  { off := 0xA00, count := 16, stride := 8, reset := 0, wide := true }, -- TEL_QUEUE_ENERGY (11)
  { off := 0xA80, count := 16, stride := 8, reset := 0, rc := 0x1FFFFF }, -- TEL_QUEUE_PEAK_DEPTH (11)
  { off := 0xA84, count := 16, stride := 8, reset := 0, rc := 0xFFFFFFFF }, -- TEL_QUEUE_PEAK_DELAY (11)
  { off := 0xC00, count := 1, stride := 0, reset := 0, rw := 0x80000000 }, -- PORT_FCS_CFG (15)
  { off := 0xC08, count := 1, stride := 0, reset := 0, rw := 0xBFFFFFFF }, -- PORT_PADDLE_CFG (15)
  { off := 0xC40, count := 1, stride := 0, reset := 0, wide := true }, -- PORT_CARRY_FRAMES (15)
  { off := 0xC48, count := 1, stride := 0, reset := 0, wide := true }, -- PORT_CARRY_MISMATCH (15)
  { off := 0x2000, count := 1024, stride := 8, reset := 0, wide := true } -- TEL_HIST (11)
]

/-- Registers of the cls page. -/
def regsCls : List Reg := [
  { off := 0x100, count := 1, stride := 0, reset := 1, rw := 0xFD, wo := 0x80000000 }, -- CLS_CTRL (04)
  { off := 0x104, count := 1, stride := 0, reset := 0, w1c := 0xF }, -- CLS_STATUS (04)
  { off := 0x108, count := 1, stride := 0, reset := 0, rw := 0x3FFF, wo := 0xC0000000 }, -- CLS_TT_ADDR (04)
  { off := 0x10C, count := 1, stride := 0, reset := 0, rw := 0x1FF }, -- CLS_TT_DATA (04)
  { off := 0x140, count := 1, stride := 0, reset := 0, wide := true }, -- CLS_CACHE_HITS (04)
  { off := 0x148, count := 1, stride := 0, reset := 0, wide := true }, -- CLS_CACHE_MISSES (04)
  { off := 0x150, count := 1, stride := 0, reset := 0, wide := true }, -- CLS_FIFO_STALLS (04)
  { off := 0x158, count := 1, stride := 0, reset := 0, wide := true }, -- CLS_SWAPS (04)
  { off := 0x160, count := 1, stride := 0, reset := 0, wide := true }, -- CLS_SWAP_PAUSE_NS (04)
  { off := 0x168, count := 1, stride := 0, reset := 0, wide := true }, -- CLS_FALLBACK_FRAMES (04)
  { off := 0x170, count := 1, stride := 0, reset := 0, wide := true }, -- CLS_QDR_UNCORR (04)
  { off := 0x1000, count := 256, stride := 0x10, reset := 0, rw := 0xF1FFFFFF }, -- CLS_TREE_ROOT0 (04)
  { off := 0x1004, count := 256, stride := 0x10, reset := 0, rw := 0xF1FFFFFF }, -- CLS_TREE_ROOT1 (04)
  { off := 0x1008, count := 256, stride := 0x10, reset := 0, rw := 7, wo := 0x80000000 }, -- CLS_TREE_CTRL (04)
  { off := 0xF000, count := 8, stride := 0x10, reset := 0x38FF0000, rw := 0xB8FF003F, wo := 0x40000000 }, -- PMC_SEL (11)
  { off := 0xF004, count := 8, stride := 0x10, reset := 0, rw := 0xC0FFFFFF }, -- PMC_FILT (11)
  { off := 0xF008, count := 8, stride := 0x10, reset := 0, wide := true } -- PMC_CTR (11)
]

/-- Registers of the qdr page. -/
def regsQdr : List Reg := [
  { off := 0x100, count := 1, stride := 0, reset := 0, rw := 0x7FFFFF, wo := 0xC0000000 }, -- QDR_CMD (04)
  { off := 0x110, count := 8, stride := 4, reset := 0, rw := 0xFFFFFFFF }, -- QDR_DATA (04)
  { off := 0x140, count := 1, stride := 0, reset := 0, rc := 0x80000000 }, -- QDR_ECC_LAST (04)
  { off := 0x180, count := 1, stride := 0, reset := 0, wide := true }, -- QDR_ECC_CORRECTED (04)
  { off := 0x188, count := 1, stride := 0, reset := 0, wide := true }, -- QDR_ECC_UNCORR (04)
  { off := 0x190, count := 1, stride := 0, reset := 0, wide := true }, -- QDR_ADDR_PARITY (04)
  { off := 0xF000, count := 8, stride := 0x10, reset := 0x38FF0000, rw := 0xB8FF003F, wo := 0x40000000 }, -- PMC_SEL (11)
  { off := 0xF004, count := 8, stride := 0x10, reset := 0, rw := 0xC0FFFFFF }, -- PMC_FILT (11)
  { off := 0xF008, count := 8, stride := 0x10, reset := 0, wide := true } -- PMC_CTR (11)
]

/-- Registers of the slice page. -/
def regsSlice : List Reg := [
  { off := 0x400, count := 1, stride := 0, reset := 0, rw := 0x3FF }, -- PRS_GRAPH_ROOT (04)
  { off := 0x404, count := 1, stride := 0, reset := 0, rw := 0x7FF, wo := 0xC0000000 }, -- PRS_MEM_ADDR (04)
  { off := 0x408, count := 4, stride := 4, reset := 0, rw := 0xFFFFFFFF }, -- PRS_MEM_DATA (04)
  { off := 0x420, count := 8, stride := 4, reset := 4, rw := 0x3FF }, -- PRS_PROFILE (04)
  { off := 0x440, count := 1, stride := 0, reset := 0, rw := 0xFFFFFF }, -- PRS_TMAP_KEY_LO (04)
  { off := 0x444, count := 1, stride := 0, reset := 0, rw := 0xFFF }, -- PRS_TMAP_KEY_HI (04)
  { off := 0x448, count := 1, stride := 0, reset := 0, rw := 0x3FFF }, -- PRS_TMAP_RESULT (04)
  { off := 0x44C, count := 1, stride := 0, reset := 0, wo := 0xC0000000 }, -- PRS_TMAP_CMD (04)
  { off := 0x460, count := 1, stride := 0, reset := 0, wide := true }, -- PRS_PARSE_DEPTH_FRAMES (04)
  { off := 0x468, count := 1, stride := 0, reset := 0, wide := true }, -- PRS_LEN_CONFLICT_FRAMES (04)
  { off := 0x470, count := 1, stride := 0, reset := 0, wide := true }, -- PRS_TENANT_MISS_FRAMES (04)
  { off := 0x500, count := 16, stride := 4, reset := 0xFF, rw := 0xFFBFF }, -- TBL_TCAM_BLOCK_CFG (04)
  { off := 0x540, count := 1, stride := 0, reset := 0, rw := 0x7FFF, wo := 0xE0000000 }, -- TBL_TCAM_ROW (04)
  { off := 0x544, count := 1, stride := 0, reset := 0, rw := 0xFFFFFFFF }, -- TBL_TCAM_META (04)
  { off := 0x580, count := 15, stride := 4, reset := 0, rw := 0xFFFFFFFF }, -- TBL_TCAM_VALUE (04)
  { off := 0x5C0, count := 15, stride := 4, reset := 0, rw := 0xFFFFFFFF }, -- TBL_TCAM_MASK (04)
  { off := 0x600, count := 1, stride := 0, reset := 0, wide := true }, -- TBL_TCAM_MULTI_EQUAL (04)
  { off := 0x608, count := 1, stride := 0, reset := 0, wide := true }, -- TBL_TCAM_FALSE_HIT (04)
  { off := 0x610, count := 1, stride := 0, reset := 0, wide := true }, -- TBL_TCAM_SCRUB_FIX (04)
  { off := 0x618, count := 1, stride := 0, reset := 0, rc := 0x80000000 }, -- TBL_TCAM_FALSE_HIT_LAST (04)
  { off := 0x700, count := 24, stride := 4, reset := 0xFFF, rw := 0xFF800FFF }, -- TBL_STAGE_CFG (05)
  { off := 0x760, count := 4, stride := 4, reset := 0x89F, rw := 0xFFFF0FFF }, -- TBL_HASH_PROFILE (05)
  { off := 0x770, count := 2, stride := 4, reset := 0, rw := 0xFFFFFFFF }, -- TBL_EM_SEED (05)
  { off := 0x780, count := 4, stride := 4, reset := 0, rw := 0xFFFFFFFF }, -- TBL_EM_DATA (05)
  { off := 0x790, count := 1, stride := 0, reset := 0, rw := 0x2000000, wo := 0xC0000000 }, -- TBL_EM_CMD (05)
  { off := 0x794, count := 1, stride := 0, reset := 0, rw := 0x94000FFF }, -- TBL_EM_DATA4 (05)
  { off := 0x798, count := 1, stride := 0, reset := 0, rw := 0xFFFFFFFF }, -- TBL_EM_DATA5 (05)
  { off := 0x79C, count := 1, stride := 0, reset := 0, rw := 0xFFF }, -- TBL_EM_DATA6 (05)
  { off := 0x7A0, count := 4, stride := 4, reset := 0, rw := 0xFFFFFFFF }, -- TBL_LPM_PREFIX (05)
  { off := 0x7B0, count := 1, stride := 0, reset := 0, rw := 0x3FFFF }, -- TBL_LPM_RESULT (05)
  { off := 0x7B4, count := 1, stride := 0, reset := 0, rw := 0x20000FF, wo := 0xC0000000 }, -- TBL_LPM_CMD (05)
  { off := 0x7C0, count := 1, stride := 0, reset := 0, rw := 0xF03FFFF, wo := 0xC0000000 }, -- TBL_IDX_CMD (05)
  { off := 0x7C4, count := 4, stride := 4, reset := 0, rw := 0xFFFFFFFF }, -- TBL_IDX_DATA (05)
  { off := 0x7E0, count := 1, stride := 0, reset := 0, rw := 0xFF }, -- TBL_ACCESS_LOCK (05)
  { off := 0x7E4, count := 1, stride := 0, reset := 0x186A0, rw := 0xFFFFF }, -- TBL_LOCK_TIMEOUT (05)
  { off := 0x7E8, count := 1, stride := 0, reset := 1, rw := 1 }, -- TBL_PARITY_CFG (05)
  { off := 0x7EC, count := 1, stride := 0, reset := 0, rc := 0x80000000 }, -- TBL_PARITY_LAST (05)
  { off := 0x800, count := 1, stride := 0, reset := 0, wide := true }, -- TBL_PARITY_ERRORS (05)
  { off := 0x808, count := 1, stride := 0, reset := 0, wide := true }, -- TBL_PARITY_REPAIRED (05)
  { off := 0x810, count := 1, stride := 0, reset := 0, wide := true }, -- TBL_EM_RELOCATIONS (05)
  { off := 0x818, count := 1, stride := 0, reset := 0, wide := true }, -- TBL_EXT_IGNORED (05)
  { off := 0x900, count := 1, stride := 0, reset := 0, rw := 0xFFF, wo := 0xC0000000 }, -- SCH_POL_ADDR (08)
  { off := 0x904, count := 1, stride := 0, reset := 0, rw := 0xC03FFFFF }, -- SCH_POL_DATA0 (08)
  { off := 0x908, count := 1, stride := 0, reset := 0x4000, rw := 0xFFFFFF }, -- SCH_POL_DATA1 (08)
  { off := 0x90C, count := 1, stride := 0, reset := 0 }, -- SCH_POL_DATA2 (08)
  { off := 0x910, count := 1, stride := 0, reset := 0 }, -- SCH_POL_DATA3 (08)
  { off := 0x920, count := 1, stride := 0, reset := 0, wide := true }, -- SCH_POL_RED_FRAMES (08)
  { off := 0x928, count := 1, stride := 0, reset := 0, wide := true }, -- SCH_POL_RED_BYTES (08)
  { off := 0xA40, count := 1, stride := 0, reset := 0, wo := 0xC0000000 }, -- SLICE_PADDLE_CTRL (15)
  { off := 0xA44, count := 1, stride := 0, reset := 0x80000001 }, -- SLICE_PADDLE_STATUS (15)
  { off := 0xA48, count := 1, stride := 0, reset := 0, rw := 0xFFFFFFFF }, -- SLICE_PADDLE_RMAC_LO (15)
  { off := 0xA4C, count := 1, stride := 0, reset := 0, rw := 0x8000FFFF }, -- SLICE_PADDLE_RMAC_HI (15)
  { off := 0xF000, count := 8, stride := 0x10, reset := 0x38FF0000, rw := 0xB8FF003F, wo := 0x40000000 }, -- PMC_SEL (11)
  { off := 0xF004, count := 8, stride := 0x10, reset := 0, rw := 0xC0FFFFFF }, -- PMC_FILT (11)
  { off := 0xF008, count := 8, stride := 0x10, reset := 0, wide := true } -- PMC_CTR (11)
]

/-- Registers of the lrn page. -/
def regsLrn : List Reg := [
  { off := 0x100, count := 1, stride := 0, reset := 0, rw := 0x1FC }, -- LRN_CTRL (05)
  { off := 0x104, count := 1, stride := 0, reset := 0x3E8, rw := 0xFFFFF }, -- LRN_MOVE_WINDOW (05)
  { off := 0x108, count := 1, stride := 0, reset := 0xA010004, rw := 0xFFFF00FF }, -- LRN_DAMP_CFG (05)
  { off := 0x10C, count := 1, stride := 0, reset := 0x64, rw := 0xFFFF }, -- LRN_AGE_CFG (05)
  { off := 0x110, count := 1, stride := 0, reset := 0 }, -- LRN_PIN_LAST_LO (05)
  { off := 0x114, count := 1, stride := 0, reset := 0, rc := 0x80000000 }, -- LRN_PIN_LAST_HI (05)
  { off := 0x140, count := 1, stride := 0, reset := 0, wide := true }, -- LRN_EVENTS (05)
  { off := 0x148, count := 1, stride := 0, reset := 0, wide := true }, -- LRN_APPLIED (05)
  { off := 0x150, count := 1, stride := 0, reset := 0, wide := true }, -- LRN_STALE (05)
  { off := 0x158, count := 1, stride := 0, reset := 0, wide := true }, -- LRN_DAMPED (05)
  { off := 0x160, count := 1, stride := 0, reset := 0, wide := true }, -- LRN_DISCARDED (05)
  { off := 0x168, count := 1, stride := 0, reset := 0, wide := true }, -- LRN_FIFO_DROP (05)
  { off := 0x170, count := 1, stride := 0, reset := 0, wide := true } -- LRN_AGED (05)
]

/-- Registers of the cs page. -/
def regsCs : List Reg := [
  { off := 0x100, count := 1, stride := 0, reset := 0x48101000, rw := 0xFCFFFFFF }, -- CS_CTRL (06)
  { off := 0x104, count := 1, stride := 0, reset := 0 }, -- CS_STATUS (06)
  { off := 0x108, count := 1, stride := 0, reset := 0 }, -- CS_VERSION (06)
  { off := 0x10C, count := 1, stride := 0, reset := 0, rw := 0x7FFF, wo := 0xC0000000 }, -- CS_ADDR (06)
  { off := 0x110, count := 8, stride := 4, reset := 0, rw := 0xFFFFFFFF }, -- CS_DATA (06)
  { off := 0x130, count := 1, stride := 0, reset := 0 }, -- CS_ECC (06)
  { off := 0x134, count := 1, stride := 0, reset := 0, rw := 0xFFFF }, -- CS_URGENCY (06)
  { off := 0x138, count := 1, stride := 0, reset := 0, rw := 0xF7FFF, wo := 0x80000000 }, -- CS_EVENT (06)
  { off := 0x13C, count := 1, stride := 0, reset := 0x64, rw := 0xFFFFF }, -- CS_DMA_WAIT (06)
  { off := 0x140, count := 1, stride := 0, reset := 0 }, -- CS_DISPATCH_FILL (06)
  { off := 0x180, count := 1, stride := 0, reset := 0, wide := true }, -- CS_DISPATCHED (06)
  { off := 0x188, count := 1, stride := 0, reset := 0, wide := true }, -- CS_COMMITS (06)
  { off := 0x190, count := 1, stride := 0, reset := 0, wide := true }, -- CS_ABANDON_INTERRUPT (06)
  { off := 0x198, count := 1, stride := 0, reset := 0, wide := true }, -- CS_ABANDON_PREEMPT (06)
  { off := 0x1A0, count := 1, stride := 0, reset := 0, wide := true }, -- CS_ABANDON_MEM (06)
  { off := 0x1A8, count := 1, stride := 0, reset := 0, wide := true }, -- CS_ABANDON_LOCK (06)
  { off := 0x1B0, count := 1, stride := 0, reset := 0, wide := true }, -- CS_ABANDON_DMA (06)
  { off := 0x1B8, count := 1, stride := 0, reset := 0, wide := true }, -- CS_ABANDON_ENGINE (06)
  { off := 0x1C0, count := 1, stride := 0, reset := 0, wide := true }, -- CS_ENGINE_ABORT_DROPS (06)
  { off := 0x1C8, count := 1, stride := 0, reset := 0, wide := true }, -- CS_POSTCOMMIT_ERRORS (06)
  { off := 0x1D0, count := 1, stride := 0, reset := 0, wide := true }, -- CS_HALT_SKIPPED (06)
  { off := 0x1D8, count := 1, stride := 0, reset := 0, wide := true }, -- CS_ECC_CORRECTED (06)
  { off := 0x1E0, count := 1, stride := 0, reset := 0, wide := true }, -- CS_ECC_UNCORR (06)
  { off := 0x1E8, count := 1, stride := 0, reset := 0, wide := true } -- CS_EVENTS (06)
]

/-- Registers of the engine page. -/
def regsEngine : List Reg := [
  { off := 0x100, count := 1, stride := 0, reset := 0x80000000 }, -- SE_STATUS (06)
  { off := 0x104, count := 1, stride := 0, reset := 0 }, -- SE_UCODE_VERSION (06)
  { off := 0x108, count := 1, stride := 0, reset := 0, rc := 0x80000000 }, -- SE_FAULT (06)
  { off := 0x10C, count := 1, stride := 0, reset := 0, rc := 0x80000000 }, -- SE_LAST_ABORT (06)
  { off := 0x140, count := 1, stride := 0, reset := 0, wide := true }, -- SE_ISSUES (06)
  { off := 0x148, count := 1, stride := 0, reset := 0, wide := true }, -- SE_ROUTINES (06)
  { off := 0x150, count := 1, stride := 0, reset := 0, wide := true } -- SE_ABANDONS (06)
]

/-- Registers of the bufMgr page. -/
def regsBufMgr : List Reg := [
  { off := 0x100, count := 1, stride := 0, reset := 0xEFE00, rw := 0x1FFFFF }, -- BUF_SHARED_LIMIT (07)
  { off := 0x104, count := 1, stride := 0, reset := 0, rw := 0x1FFFFF }, -- BUF_HEADROOM_LIMIT (07)
  { off := 0x108, count := 1, stride := 0, reset := 0 }, -- BUF_FREE (07)
  { off := 0x10C, count := 1, stride := 0, reset := 0 }, -- BUF_SHARED_USED (07)
  { off := 0x110, count := 1, stride := 0, reset := 0 }, -- BUF_HEADROOM_USED (07)
  { off := 0x114, count := 1, stride := 0, reset := 0 }, -- BUF_RESERVED_SUM (07)
  { off := 0x118, count := 1, stride := 0, reset := 0 }, -- BUF_CFG_STATUS (07)
  { off := 0x11C, count := 1, stride := 0, reset := 0 }, -- BUF_SHARED_EFFECTIVE (07)
  { off := 0x120, count := 1, stride := 0, reset := 0 }, -- BUF_BANKS (07)
  { off := 0x130, count := 1, stride := 0, reset := 0, rw := 0x1FFF, wo := 0xC0000000 }, -- BUF_MC_CMD (07)
  { off := 0x134, count := 1, stride := 0, reset := 0, rw := 7 }, -- BUF_MC_FLAGS (07)
  { off := 0x140, count := 16, stride := 4, reset := 0, rw := 0xFFFFFFFF }, -- BUF_MC_MAP (07)
  { off := 0x200, count := 64, stride := 4, reset := 0xB8000008, rw := 0xF800FFFF }, -- BUF_HQ_CFG (07)
  { off := 0x300, count := 1, stride := 0, reset := 0, rc := 0x80000000 }, -- BUF_ECC_LAST (07)
  { off := 0x380, count := 1, stride := 0, reset := 0, wide := true }, -- BUF_ECC_CORRECTED (07)
  { off := 0x388, count := 1, stride := 0, reset := 0, wide := true }, -- BUF_ECC_UNCORR (07)
  { off := 0x390, count := 1, stride := 0, reset := 0, wide := true }, -- BUF_MC_SKIPPED (07)
  { off := 0x398, count := 1, stride := 0, reset := 0, wide := true }, -- BUF_HEADROOM_DROPS (07)
  { off := 0xF000, count := 8, stride := 0x10, reset := 0x38FF0000, rw := 0xB8FF003F, wo := 0x40000000 }, -- PMC_SEL (11)
  { off := 0xF004, count := 8, stride := 0x10, reset := 0, rw := 0xC0FFFFFF }, -- PMC_FILT (11)
  { off := 0xF008, count := 8, stride := 0x10, reset := 0, wide := true } -- PMC_CTR (11)
]

/-- Registers of the keel page. -/
def regsKeel : List Reg := [
  { off := 0x100, count := 1, stride := 0, reset := 0x48004010, rw := 0x68007FFF, rwl := 0x80000000, wo := 0x10000000 }, -- KEEL_CTRL (09)
  { off := 0x104, count := 1, stride := 0, reset := 0 }, -- KEEL_STATUS (09)
  { off := 0x108, count := 1, stride := 0, reset := 0 }, -- KEEL_CAPACITY (09)
  { off := 0x10C, count := 1, stride := 0, reset := 0x3E8, rw := 0xFFFF }, -- KEEL_REJOIN_CFG (09)
  { off := 0x110, count := 1, stride := 0, reset := 0x64, rw := 0xFFFF }, -- KEEL_RETRY (09)
  { off := 0x114, count := 1, stride := 0, reset := 0 }, -- KEEL_CREDIT (09)
  { off := 0x180, count := 1, stride := 0, reset := 0, wide := true }, -- KEEL_TX_CELLS (09)
  { off := 0x188, count := 1, stride := 0, reset := 0, wide := true }, -- KEEL_RX_CELLS (09)
  { off := 0x190, count := 1, stride := 0, reset := 0, wide := true }, -- KEEL_LOST_FRAMES (09)
  { off := 0x198, count := 1, stride := 0, reset := 0, wide := true }, -- KEEL_CRC_ERRORS (09)
  { off := 0x1A0, count := 1, stride := 0, reset := 0, wide := true }, -- KEEL_CTRL_RESENT (09)
  { off := 0x1A8, count := 1, stride := 0, reset := 0, wide := true }, -- KEEL_SUBLINK_FAILS (09)
  { off := 0x1B0, count := 1, stride := 0, reset := 0, wide := true }, -- KEEL_SPLITS (09)
  { off := 0x1B8, count := 1, stride := 0, reset := 0, wide := true }, -- KEEL_REJOIN_CONFLICTS (09)
  { off := 0x1C0, count := 1, stride := 0, reset := 0, wide := true }, -- KEEL_LEARN_LOST (09)
  { off := 0x200, count := 66, stride := 4, reset := 0, rwl := 0x1000000, rc := 0xFFFF }, -- KEEL_SUBLINK (09)
  { off := 0xF000, count := 8, stride := 0x10, reset := 0x38FF0000, rw := 0xB8FF003F, wo := 0x40000000 }, -- PMC_SEL (11)
  { off := 0xF004, count := 8, stride := 0x10, reset := 0, rw := 0xC0FFFFFF }, -- PMC_FILT (11)
  { off := 0xF008, count := 8, stride := 0x10, reset := 0, wide := true } -- PMC_CTR (11)
]

/-- Registers of the timeU page. -/
def regsTimeU : List Reg := [
  { off := 0x100, count := 1, stride := 0, reset := 0x40000000, rw := 0xF0000000, wo := 0xC000000 }, -- TIME_CTRL (10)
  { off := 0x104, count := 1, stride := 0, reset := 0 }, -- TIME_NOW_FRAC (10)
  { off := 0x108, count := 1, stride := 0, reset := 0 }, -- TIME_NOW_NS (10)
  { off := 0x10C, count := 1, stride := 0, reset := 0 }, -- TIME_NOW_SEC_LO (10)
  { off := 0x110, count := 1, stride := 0, reset := 0 }, -- TIME_NOW_SEC_HI (10)
  { off := 0x114, count := 1, stride := 0, reset := 0, rwl := 0xFFFF }, -- TIME_SET_FRAC (10)
  { off := 0x118, count := 1, stride := 0, reset := 0, rwl := 0x3FFFFFFF }, -- TIME_SET_NS (10)
  { off := 0x11C, count := 1, stride := 0, reset := 0, rwl := 0xFFFFFFFF }, -- TIME_SET_SEC_LO (10)
  { off := 0x120, count := 1, stride := 0, reset := 0, rwl := 0xFFFFFFFF }, -- TIME_SET_SEC_HI (10)
  { off := 0x124, count := 1, stride := 0, reset := 0, rwl := 0xC0000000 }, -- TIME_SET_CTRL (10)
  { off := 0x128, count := 1, stride := 0, reset := 0, rw := 0xFFFFFFFF }, -- TIME_OFFSET_LO (10)
  { off := 0x12C, count := 1, stride := 0, reset := 0, rw := 0xFFFFFFFF }, -- TIME_OFFSET_HI (10)
  { off := 0x130, count := 1, stride := 0, reset := 0x40040410, rw := 0xFFFFFFFF }, -- TIME_SERVO_CFG (10)
  { off := 0x134, count := 1, stride := 0, reset := 0x3E8, rw := 0xFFFFFFFF }, -- TIME_STEP_NS (10)
  { off := 0x138, count := 1, stride := 0, reset := 0xBB8, rw := 0xFFFF }, -- TIME_REF_TIMEOUT (10)
  { off := 0x13C, count := 1, stride := 0, reset := 0 }, -- TIME_FREQ (10)
  { off := 0x140, count := 1, stride := 0, reset := 0, rwl := 0xFFFFFFFF }, -- TIME_FREQ_INIT (10)
  { off := 0x144, count := 1, stride := 0, reset := 0 }, -- TIME_LOCK_STATE (10)
  { off := 0x148, count := 1, stride := 0, reset := 0 }, -- TIME_LAST_OFFSET_LO (10)
  { off := 0x14C, count := 1, stride := 0, reset := 0 }, -- TIME_LAST_OFFSET_HI (10)
  { off := 0x160, count := 1, stride := 0, reset := 0x3E8, rw := 0xC000FFFF }, -- TIME_PPS_CFG (10)
  { off := 0x164, count := 1, stride := 0, reset := 0, rw := 0xFFFFFFFF }, -- TIME_PPS_OUT_ADJ (10)
  { off := 0x168, count := 1, stride := 0, reset := 0, rw := 0xFFFFFFFF }, -- TIME_PPS_IN_ADJ (10)
  { off := 0x16C, count := 1, stride := 0, reset := 0 }, -- TIME_PPS_IN_STAMP_LO (10)
  { off := 0x170, count := 1, stride := 0, reset := 0 }, -- TIME_PPS_IN_STAMP_HI (10)
  { off := 0x180, count := 1, stride := 0, reset := 0, rw := 0x81FF81FF }, -- TIME_SYNCE_CFG (10)
  { off := 0x184, count := 1, stride := 0, reset := 3 }, -- TIME_SYNCE_STATUS (10)
  { off := 0x188, count := 1, stride := 0, reset := 0, rw := 0xC00001FF }, -- TIME_DISC_CFG (10)
  { off := 0x190, count := 1, stride := 0, reset := 0, rc := 0x80000000 }, -- TIME_TXSTAMP_META (10)
  { off := 0x194, count := 1, stride := 0, reset := 0 }, -- TIME_TXSTAMP_LO (10)
  { off := 0x198, count := 1, stride := 0, reset := 0 }, -- TIME_TXSTAMP_HI (10)
  { off := 0x19C, count := 1, stride := 0, reset := 0 }, -- TIME_TXSTAMP_FILL (10)
  { off := 0x1C0, count := 1, stride := 0, reset := 0, wide := true }, -- TIME_STEPS (10)
  { off := 0x1C8, count := 1, stride := 0, reset := 0, wide := true }, -- TIME_OFFSETS (10)
  { off := 0x1D0, count := 1, stride := 0, reset := 0, wide := true }, -- TIME_TXSTAMP_LOST (10)
  { off := 0x1D8, count := 1, stride := 0, reset := 0, wide := true }, -- TIME_HOLDOVERS (10)
  { off := 0x400, count := 32, stride := 0x20, reset := 0, rw := 0xC1F00007 }, -- TIME_CMP_CFG (10)
  { off := 0x404, count := 32, stride := 0x20, reset := 0, rw := 0x3FFFFFFF }, -- TIME_CMP_NS (10)
  { off := 0x408, count := 32, stride := 0x20, reset := 0, rw := 0xFFFFFFFF }, -- TIME_CMP_SEC_LO (10)
  { off := 0x40C, count := 32, stride := 0x20, reset := 0, rw := 0xFFFFFFFF }, -- TIME_CMP_SEC_HI (10)
  { off := 0x410, count := 32, stride := 0x20, reset := 0, rw := 0xFFFFFFFF }, -- TIME_CMP_PERIOD_LO (10)
  { off := 0x414, count := 32, stride := 0x20, reset := 0, rw := 0xFFFF }, -- TIME_CMP_PERIOD_HI (10)
  { off := 0x418, count := 32, stride := 0x20, reset := 0, w1c := 0xC0000000, rc := 0xFFFF } -- TIME_CMP_STATUS (10)
]

/-- Registers of the tel page. -/
def regsTel : List Reg := [
  { off := 0x100, count := 1, stride := 0, reset := 0, rw := 0xC000003F }, -- TEL_CTRL (11)
  { off := 0x108, count := 1, stride := 0, reset := 3, rw := 0xF }, -- TEL_HIST_CFG (11)
  { off := 0x120, count := 1, stride := 0, reset := 0, rw := 0xFFFFFF }, -- TEL_IOAM_NODE (11)
  { off := 0x124, count := 1, stride := 0, reset := 0, rw := 0xFFFFFFFF }, -- TEL_IOAM_NODE_HI (11)
  { off := 0x140, count := 16, stride := 8, reset := 0, rw := 0xFFFFBFFF }, -- TEL_SEL_A (11)
  { off := 0x144, count := 16, stride := 8, reset := 0, rw := 0xFFFFFFFF }, -- TEL_SEL_B (11)
  { off := 0x1C0, count := 1, stride := 0, reset := 0, wide := true }, -- TEL_RECORDS (11)
  { off := 0x1C8, count := 1, stride := 0, reset := 0, wide := true }, -- TEL_POSTCARDS (11)
  { off := 0x1D0, count := 1, stride := 0, reset := 0, wide := true }, -- TEL_POSTCARD_LOST (11)
  { off := 0x1D8, count := 1, stride := 0, reset := 0, wide := true }, -- TEL_STREAM_FRAMES (11)
  { off := 0x1E0, count := 1, stride := 0, reset := 0, wide := true }, -- TEL_IOAM_UPDATED (11)
  { off := 0x1E8, count := 1, stride := 0, reset := 0, wide := true }, -- TEL_IOAM_OVERFLOW (11)
  { off := 0x200, count := 4, stride := 0x10, reset := 0xE00, rw := 0xFFFFFFFF }, -- TEL_COLL_CFG (11)
  { off := 0x204, count := 4, stride := 0x10, reset := 0xA001E, rw := 0xFFFF001F }, -- TEL_COLL_LIMIT (11)
  { off := 0x208, count := 4, stride := 0x10, reset := 0 }, -- TEL_COLL_SEQ (11)
  { off := 0x300, count := 4, stride := 0x40, reset := 0, rw := 0xC000FFFF }, -- TEL_IOAM_NS (11)
  { off := 0x304, count := 4, stride := 0x40, reset := 0, rw := 0xFFFFFFFF }, -- TEL_IOAM_DATA (11)
  { off := 0x310, count := 4, stride := 0x40, reset := 0, rw := 0xFFFFFFFF }, -- TEL_IOAM_POT_SHARE_LO (11)
  { off := 0x314, count := 4, stride := 0x40, reset := 0, rw := 0xFFFFFFFF }, -- TEL_IOAM_POT_SHARE_HI (11)
  { off := 0x318, count := 4, stride := 0x40, reset := 0, rw := 0xFFFFFFFF }, -- TEL_IOAM_POT_LPC_LO (11)
  { off := 0x31C, count := 4, stride := 0x40, reset := 0, rw := 0xFFFFFFFF }, -- TEL_IOAM_POT_LPC_HI (11)
  { off := 0x320, count := 4, stride := 0x40, reset := 0, rw := 0xFFFFFFFF }, -- TEL_IOAM_POT_PRIME_LO (11)
  { off := 0x324, count := 4, stride := 0x40, reset := 0, rw := 0xFFFFFFFF }, -- TEL_IOAM_POT_PRIME_HI (11)
  { off := 0x400, count := 128, stride := 4, reset := 0, rw := 0xFFFFFFFF } -- TEL_COLL_TEMPLATE (11)
]

/-- Registers of the acct page. -/
def regsAcct : List Reg := [
  { off := 0x100, count := 1, stride := 0, reset := 0x3E8, rw := 0x8000FFFF }, -- ACCT_CFG (11)
  { off := 0x104, count := 1, stride := 0, reset := 0x40000000, rw := 0xC0000000 }, -- ACCT_STATIC_CFG (11)
  { off := 0x108, count := 1, stride := 0, reset := 0, rw := 0xFFFFFFFF }, -- ACCT_SNAP_BASE_LO (11)
  { off := 0x10C, count := 1, stride := 0, reset := 0, rw := 0xFFFFFFFF }, -- ACCT_SNAP_BASE_HI (11)
  { off := 0x110, count := 1, stride := 0, reset := 2, rw := 0xF000000F }, -- ACCT_SNAP_RING (11)
  { off := 0x114, count := 1, stride := 0, reset := 0 }, -- ACCT_SNAP_PROD (11)
  { off := 0x118, count := 1, stride := 0, reset := 0, rw := 0x1FF }, -- ACCT_SNAP_CONS (11)
  { off := 0x11C, count := 1, stride := 0, reset := 0 }, -- ACCT_STATUS (11)
  { off := 0x130, count := 1, stride := 0, reset := 0, rw := 0x3FFF, wo := 0xC0000000 }, -- ACCT_LIVE_ADDR (11)
  { off := 0x140, count := 14, stride := 4, reset := 0 }, -- ACCT_LIVE_DATA (11)
  { off := 0x178, count := 1, stride := 0, reset := 0, rw := 0x3FFF, wo := 0xC0000000 }, -- ACCT_WT_ADDR (11)
  { off := 0x17C, count := 1, stride := 0, reset := 0, rw := 0xFF }, -- ACCT_WT_DATA (11)
  { off := 0x180, count := 12, stride := 4, reset := 0, rw := 0xFFFF }, -- ACCT_COEF (11)
  { off := 0x1C0, count := 1, stride := 0, reset := 0, wide := true }, -- ACCT_SNAPSHOTS (11)
  { off := 0x1C8, count := 1, stride := 0, reset := 0, wide := true }, -- ACCT_INTERIMS (11)
  { off := 0x1D0, count := 1, stride := 0, reset := 0, wide := true }, -- ACCT_MERGES (11)
  { off := 0x1D8, count := 1, stride := 0, reset := 0, wide := true } -- ACCT_SETTLE_DISCARDS (11)
]

/-- Registers of the pmc page. -/
def regsPmc : List Reg := [
  { off := 0x100, count := 1, stride := 0, reset := 0x303E8, rw := 0xEF0F03FF }, -- PMC_DUMP_CTRL (11)
  { off := 0x104, count := 1, stride := 0, reset := 0, rw := 0xFFFFFFFF }, -- PMC_DUMP_BASE_LO (11)
  { off := 0x108, count := 1, stride := 0, reset := 0, rw := 0xFFFFFFFF }, -- PMC_DUMP_BASE_HI (11)
  { off := 0x10C, count := 1, stride := 0, reset := 0 }, -- PMC_DUMP_SIZE (11)
  { off := 0x110, count := 1, stride := 0, reset := 0 }, -- PMC_DUMP_PROD (11)
  { off := 0x114, count := 1, stride := 0, reset := 0, rw := 0x1FF }, -- PMC_DUMP_CONS (11)
  { off := 0x140, count := 1, stride := 0, reset := 0, wide := true }, -- PMC_DUMPS (11)
  { off := 0x148, count := 1, stride := 0, reset := 0, wide := true } -- PMC_DUMP_SKIPPED (11)
]

/-- Registers of the cipher page. -/
def regsCipher : List Reg := [
  { off := 0x100, count := 1, stride := 0, reset := 0, rw := 0xFFF, wo := 0xC0000000 }, -- CU_KEY_CMD (12)
  { off := 0x110, count := 8, stride := 4, reset := 0, wo := 0xFFFFFFFF }, -- CU_KEY_DATA (12)
  { off := 0x130, count := 3, stride := 4, reset := 0, wo := 0xFFFFFFFF }, -- CU_KEY_SALT (12)
  { off := 0x13C, count := 1, stride := 0, reset := 0, wo := 0xFFFFFFFF }, -- CU_KEY_SSCI (12)
  { off := 0x140, count := 1, stride := 0, reset := 0 }, -- CU_KEY_INFO (12)
  { off := 0x180, count := 1, stride := 0, reset := 0, wide := true }, -- CU_REQUESTS (12)
  { off := 0x188, count := 1, stride := 0, reset := 0, wide := true }, -- CU_TAG_FAILS (12)
  { off := 0x190, count := 1, stride := 0, reset := 0, wide := true }, -- CU_COMPARE_FAULTS (12)
  { off := 0x198, count := 1, stride := 0, reset := 0, wide := true }, -- CU_SUSPENSIONS (12)
  { off := 0xF000, count := 8, stride := 0x10, reset := 0x38FF0000, rw := 0xB8FF003F, wo := 0x40000000 }, -- PMC_SEL (11)
  { off := 0xF004, count := 8, stride := 0x10, reset := 0, rw := 0xC0FFFFFF }, -- PMC_FILT (11)
  { off := 0xF008, count := 8, stride := 0x10, reset := 0, wide := true } -- PMC_CTR (11)
]

/-- Registers of the msec page. -/
def regsMsec : List Reg := [
  { off := 0x100, count := 8, stride := 4, reset := 0x3000000, rw := 0xFFFE003F }, -- MSEC_CFG (12)
  { off := 0x120, count := 8, stride := 8, reset := 0, rw := 0xFFFFFFFF }, -- MSEC_TX_SCI_LO (12)
  { off := 0x124, count := 8, stride := 8, reset := 0, rw := 0xFFFFFFFF }, -- MSEC_TX_SCI_HI (12)
  { off := 0x160, count := 1, stride := 0, reset := 0x888E, rw := 0xFFFFFFFF }, -- MSEC_BYPASS (12)
  { off := 0x164, count := 1, stride := 0, reset := 0xC0000000, rw := 0xFFFFFFFF }, -- MSEC_PN_THRESH_LO (12)
  { off := 0x168, count := 1, stride := 0, reset := 0xC0000000, rw := 0xFFFFFFFF }, -- MSEC_PN_THRESH_HI (12)
  { off := 0x170, count := 1, stride := 0, reset := 0, rw := 0x1F003F03, wo := 0xC0000000 }, -- MSEC_TBL_CMD (12)
  { off := 0x174, count := 4, stride := 4, reset := 0, rw := 0xFFFFFFFF }, -- MSEC_TBL_DATA (12)
  { off := 0x184, count := 1, stride := 0, reset := 0 }, -- MSEC_STATUS (12)
  { off := 0x400, count := 8, stride := 0x80, reset := 0, wide := true }, -- MSEC_IN_OK (12)
  { off := 0x408, count := 8, stride := 0x80, reset := 0, wide := true }, -- MSEC_IN_NO_TAG (12)
  { off := 0x410, count := 8, stride := 0x80, reset := 0, wide := true }, -- MSEC_IN_BAD_TAG (12)
  { off := 0x418, count := 8, stride := 0x80, reset := 0, wide := true }, -- MSEC_IN_NO_SCI (12)
  { off := 0x420, count := 8, stride := 0x80, reset := 0, wide := true }, -- MSEC_IN_NOT_USING_SA (12)
  { off := 0x428, count := 8, stride := 0x80, reset := 0, wide := true }, -- MSEC_IN_NOT_VALID (12)
  { off := 0x430, count := 8, stride := 0x80, reset := 0, wide := true }, -- MSEC_IN_LATE (12)
  { off := 0x438, count := 8, stride := 0x80, reset := 0, wide := true }, -- MSEC_IN_BYPASS (12)
  { off := 0x440, count := 8, stride := 0x80, reset := 0, wide := true }, -- MSEC_OUT_PROTECTED (12)
  { off := 0x448, count := 8, stride := 0x80, reset := 0, wide := true }, -- MSEC_OUT_ENCRYPTED (12)
  { off := 0x450, count := 8, stride := 0x80, reset := 0, wide := true }, -- MSEC_IN_OCTETS (12)
  { off := 0x458, count := 8, stride := 0x80, reset := 0, wide := true } -- MSEC_OUT_OCTETS (12)
]

/-- Registers of the hif page. -/
def regsHif : List Reg := [
  { off := 0x100, count := 1, stride := 0, reset := 0 }, -- HIF_UCIE_STATUS (13)
  { off := 0x104, count := 1, stride := 0, reset := 0x80000400, rw := 0x8000FFFF }, -- HIF_UCIE_CTRL (13)
  { off := 0x108, count := 1, stride := 0, reset := 0, rw := 0x87FF87FF }, -- HIF_IRQ_MAP (13)
  { off := 0x200, count := 32, stride := 4, reset := 0, rw := 0xFFFFFFFF }, -- HQ_ENABLE (13)
  { off := 0x280, count := 32, stride := 4, reset := 0xFFFFFFFF }, -- HQ_IDLE (13)
  { off := 0x300, count := 32, stride := 4, reset := 0 }, -- HQ_CQ_FULL (13)
  { off := 0x400, count := 1, stride := 0, reset := 0, rw := 0x3FF }, -- HQ_SEL (13)
  { off := 0x404, count := 1, stride := 0, reset := 0, rw := 0xFFFFFFFF }, -- HQ_BASE_LO (13)
  { off := 0x408, count := 1, stride := 0, reset := 0, rw := 0xFFFFFFFF }, -- HQ_BASE_HI (13)
  { off := 0x40C, count := 1, stride := 0, reset := 0x2000000, rw := 0xFFFFFFFF }, -- HQ_CFG (13)
  { off := 0x410, count := 1, stride := 0, reset := 0x110, rw := 0xFF7F }, -- HQ_SCHED (13)
  { off := 0x414, count := 1, stride := 0, reset := 0, rw := 0x1FFFF }, -- HQ_PROD (13)
  { off := 0x418, count := 1, stride := 0, reset := 0, rw := 0x1FFFF }, -- HQ_CONS (13)
  { off := 0x41C, count := 1, stride := 0, reset := 0, rw := 0xFFFFFFFF }, -- HQ_CQ_BASE_LO (13)
  { off := 0x420, count := 1, stride := 0, reset := 0, rw := 0xFFFFFFFF }, -- HQ_CQ_BASE_HI (13)
  { off := 0x424, count := 1, stride := 0, reset := 0, rw := 0x1FFFF }, -- HQ_CQ_PROD (13)
  { off := 0x428, count := 1, stride := 0, reset := 0, rw := 0x1FFFF }, -- HQ_CQ_CONS (13)
  { off := 0x42C, count := 1, stride := 0, reset := 0, w1c := 0x40000000 }, -- HQ_STATUS (13)
  { off := 0x500, count := 64, stride := 8, reset := 0x80080000, rw := 0xBFFFFC00 }, -- HQ_HBQ_MAP (13)
  { off := 0x504, count := 64, stride := 8, reset := 0x110, rw := 0x8000FF7F }, -- HQ_HBQ_SCHED (13)
  { off := 0x700, count := 1, stride := 0, reset := 0, rw := 0x3F }, -- POOL_SEL (13)
  { off := 0x704, count := 1, stride := 0, reset := 0, rw := 0xFFFFFFFF }, -- POOL_BASE_LO (13)
  { off := 0x708, count := 1, stride := 0, reset := 0, rw := 0xFFFFFFFF }, -- POOL_BASE_HI (13)
  { off := 0x70C, count := 1, stride := 0, reset := 0x2000000, rw := 0xFFC00000 }, -- POOL_CFG (13)
  { off := 0x710, count := 1, stride := 0, reset := 0x800040, rw := 0xFFFFFFFF }, -- POOL_WARN (13)
  { off := 0x714, count := 1, stride := 0, reset := 0, rw := 0x1FFFF }, -- POOL_PROD (13)
  { off := 0x718, count := 1, stride := 0, reset := 0 }, -- POOL_CONS (13)
  { off := 0x71C, count := 1, stride := 0, reset := 0 }, -- POOL_STATUS (13)
  { off := 0x780, count := 1, stride := 0, reset := 0, wide := true }, -- HQ_INJECTED (13)
  { off := 0x788, count := 1, stride := 0, reset := 0, wide := true }, -- HQ_PUNTED (13)
  { off := 0x790, count := 1, stride := 0, reset := 0, wide := true }, -- HQ_POOL_EMPTY_DROPS (13)
  { off := 0x798, count := 1, stride := 0, reset := 0, wide := true }, -- HQ_POOL_BAD_ENTRIES (13)
  { off := 0x7A0, count := 1, stride := 0, reset := 0, wide := true }, -- HIF_UCIE_MODULE_LOSSES (13)
  { off := 0x6000, count := 8, stride := 0x10, reset := 0x38FF0000, rw := 0xB8FF003F, wo := 0x40000000 }, -- PMC_SEL (11)
  { off := 0x6004, count := 8, stride := 0x10, reset := 0, rw := 0xC0FFFFFF }, -- PMC_FILT (11)
  { off := 0x6008, count := 8, stride := 0x10, reset := 0, wide := true } -- PMC_CTR (11)
]

/-- Registers of the dtu page. -/
def regsDtu : List Reg := [
  { off := 0x100, count := 16, stride := 0x10, reset := 0, rw := 0xC0000000 }, -- DTU_SPACE_CFG (13)
  { off := 0x104, count := 16, stride := 0x10, reset := 0, rw := 0xFFFFFFFF }, -- DTU_SPACE_ROOT_LO (13)
  { off := 0x108, count := 16, stride := 0x10, reset := 0, rw := 0xFFFFFFFF }, -- DTU_SPACE_ROOT_HI (13)
  { off := 0x200, count := 1, stride := 0, reset := 0, rw := 0xF, wo := 0xC0000000 }, -- DTU_INV_CMD (13)
  { off := 0x204, count := 1, stride := 0, reset := 0, rw := 0xFFFFFFFF }, -- DTU_INV_ADDR_LO (13)
  { off := 0x208, count := 1, stride := 0, reset := 0, rw := 0xFFFFFFFF }, -- DTU_INV_ADDR_HI (13)
  { off := 0x20C, count := 1, stride := 0, reset := 0, rw := 0x1FFFFF }, -- DTU_INV_PAGES (13)
  { off := 0x210, count := 1, stride := 0, reset := 0, wo := 0xC000003F }, -- DTU_FAULT_CMD (13)
  { off := 0x214, count := 1, stride := 0, reset := 0 }, -- DTU_FAULT_VALID_LO (13)
  { off := 0x218, count := 1, stride := 0, reset := 0 }, -- DTU_FAULT_VALID_HI (13)
  { off := 0x21C, count := 1, stride := 0, reset := 0 }, -- DTU_STATUS (13)
  { off := 0x400, count := 64, stride := 0x10, reset := 0 }, -- DTU_FAULT_INFO (13)
  { off := 0x404, count := 64, stride := 0x10, reset := 0 }, -- DTU_FAULT_ADDR_LO (13)
  { off := 0x408, count := 64, stride := 0x10, reset := 0 }, -- DTU_FAULT_ADDR_HI (13)
  { off := 0x40C, count := 64, stride := 0x10, reset := 0 } -- DTU_FAULT_STREAM (13)
]

/-- Registers of the cox page. -/
def regsCox : List Reg := [
  { off := 0x100, count := 1, stride := 0, reset := 0xE1082100, rw := 0xFFFFFFC0, wo := 1 }, -- COX_CFG (14)
  { off := 0x104, count := 1, stride := 0, reset := 0x57802BC, rwl := 0x7FF07FF }, -- COX_CAP (14)
  { off := 0x108, count := 1, stride := 0, reset := 0 }, -- COX_STATUS (14)
  { off := 0x10C, count := 1, stride := 0, reset := 0 }, -- COX_BUDGET (14)
  { off := 0x110, count := 1, stride := 0, reset := 0 }, -- COX_ALLOC (14)
  { off := 0x114, count := 1, stride := 0, reset := 0 }, -- COX_POWER (14)
  { off := 0x118, count := 1, stride := 0, reset := 0x40000064, rw := 0xC000FFFF }, -- COX_NOTICE (14)
  { off := 0x11C, count := 1, stride := 0, reset := 0 }, -- COX_OPEN (14)
  { off := 0x120, count := 8, stride := 4, reset := 0x2010, rw := 0x3F3F }, -- COX_SLICE_CFG (14)
  { off := 0x140, count := 8, stride := 4, reset := 0x2000 }, -- COX_SLICE_STATUS (14)
  { off := 0x160, count := 1, stride := 0, reset := 0x4088, rw := 0xFFFF }, -- COX_BRAKE (14)
  { off := 0x180, count := 1, stride := 0, reset := 0 }, -- COX_LOG_HEAD (14)
  { off := 0x184, count := 1, stride := 0, reset := 0, rw := 0x3F }, -- COX_LOG_SEL (14)
  { off := 0x188, count := 1, stride := 0, reset := 0 }, -- COX_LOG_DATA0 (14)
  { off := 0x18C, count := 1, stride := 0, reset := 0 }, -- COX_LOG_DATA1 (14)
  { off := 0x190, count := 1, stride := 0, reset := 0 }, -- COX_LOG_DATA2 (14)
  { off := 0x194, count := 1, stride := 0, reset := 0 }, -- COX_LOG_DATA3 (14)
  { off := 0x198, count := 1, stride := 0, reset := 0 }, -- COX_LOG_DATA4 (14)
  { off := 0x1A0, count := 1, stride := 0, reset := 0, rw := 0x3F }, -- COX_PHASE_SEL (14)
  { off := 0x1A4, count := 1, stride := 0, reset := 0 }, -- COX_PHASE_DATA0 (14)
  { off := 0x1A8, count := 1, stride := 0, reset := 0 }, -- COX_PHASE_SIG (14)
  { off := 0x1AC, count := 1, stride := 0, reset := 0 }, -- COX_PHASE_POWER (14)
  { off := 0x1C0, count := 1, stride := 0, reset := 0x2710, rw := 0xFFFFF, wo := 0x80000000 }, -- COX_CAL_CTRL (14)
  { off := 0x200, count := 12, stride := 8, reset := 0, wide := true }, -- COX_CAL_EVENT (14)
  { off := 0x260, count := 1, stride := 0, reset := 0, wide := true }, -- COX_CAL_ENERGY (14)
  { off := 0x300, count := 6, stride := 8, reset := 0, wide := true }, -- COX_THROTTLE_NS (14)
  { off := 0x330, count := 1, stride := 0, reset := 0, wide := true }, -- COX_EPISODES (14)
  { off := 0x338, count := 1, stride := 0, reset := 0, wide := true }, -- COX_DROOP_EVENTS (14)
  { off := 0x340, count := 1, stride := 0, reset := 0, wide := true }, -- COX_DROOP_STRETCH_NS (14)
  { off := 0x348, count := 1, stride := 0, reset := 0, wide := true }, -- COX_UNMET_EPOCHS (14)
  { off := 0x350, count := 1, stride := 0, reset := 0, wide := true }, -- COX_NOTICES_SENT (14)
  { off := 0x358, count := 1, stride := 0, reset := 0, wide := true }, -- COX_NOTICES_SUPPRESSED (14)
  { off := 0x360, count := 1, stride := 0, reset := 0, wide := true } -- COX_LOG_LOST (14)
]

/-- Registers of the aon page. -/
def regsAon : List Reg := [
  { off := 0x100, count := 1, stride := 0, reset := 0x3E800FF, rw := 0xFFFFFFFF }, -- AON_SLEEP_CFG (14)
  { off := 0x104, count := 1, stride := 0, reset := 0, rw := 0xFF }, -- AON_WAKE_MASK (14)
  { off := 0x108, count := 1, stride := 0, reset := 0 }, -- AON_SLICE_STATE (14)
  { off := 0x10C, count := 1, stride := 0, reset := 0 }, -- AON_PSTATE (14)
  { off := 0x110, count := 1, stride := 0, reset := 0 }, -- AON_TEMP (14)
  { off := 0x114, count := 1, stride := 0, reset := 0x786C67, rw := 0xFFFF, rwl := 0xFF0000 }, -- AON_TEMP_CFG (14)
  { off := 0x118, count := 1, stride := 0, reset := 0xA1419208, rw := 0xFFFFFFFF }, -- AON_DROOP_CFG (14)
  { off := 0x11C, count := 1, stride := 0, reset := 0 }, -- AON_VCORE (14)
  { off := 0x200, count := 1, stride := 0, reset := 0 }, -- AON_WEAR_DEGRADE (15)
  { off := 0x204, count := 1, stride := 0, reset := 0 }, -- AON_WEAR_TRIM (15)
  { off := 0x208, count := 1, stride := 0, reset := 0 }, -- AON_WEAR_LIFE (15)
  { off := 0x210, count := 8, stride := 4, reset := 0, rw := 0xFFFFFFFF }, -- AON_WEAR_HOURS (15)
  { off := 0x230, count := 1, stride := 0, reset := 0, wo := 0x40000000, w1s := 0x80000000 } -- AON_WEAR_CTRL (15)
]

/-- Registers of the die page. -/
def regsDie : List Reg := [
  { off := 0xC00, count := 1, stride := 0, reset := 0, wide := true }, -- DIE_ENTRY_PARITY (15)
  { off := 0xC08, count := 1, stride := 0, reset := 0, wide := true }, -- DIE_BUS_DATA_PARITY (15)
  { off := 0xC10, count := 1, stride := 0, reset := 0, wide := true }, -- DIE_BUS_META_PARITY (15)
  { off := 0xC18, count := 1, stride := 0, reset := 0, wide := true }, -- DIE_WRITE_PATH_PARITY (15)
  { off := 0xC20, count := 1, stride := 0, reset := 0, wide := true }, -- DIE_READ_PATH_PARITY (15)
  { off := 0xC28, count := 1, stride := 0, reset := 0, wide := true }, -- DIE_DESC_CORRECTED (15)
  { off := 0xC30, count := 1, stride := 0, reset := 0, wide := true }, -- DIE_DESC_UNCORR (15)
  { off := 0xC38, count := 1, stride := 0, reset := 0, wide := true }, -- DIE_RING_PARITY (15)
  { off := 0xC40, count := 1, stride := 0, reset := 0, wide := true }, -- DIE_STAGING_UNCORR (15)
  { off := 0xC48, count := 1, stride := 0, reset := 0, wide := true }, -- DIE_CACHE_PARITY (15)
  { off := 0xC50, count := 1, stride := 0, reset := 0, wide := true }, -- DIE_HOLD_CORRECTED (15)
  { off := 0xC58, count := 1, stride := 0, reset := 0, wide := true }, -- DIE_HOLD_UNCORR (15)
  { off := 0xC60, count := 1, stride := 0, reset := 0, wide := true }, -- DIE_CONFIG_CORRECTED (15)
  { off := 0xC68, count := 1, stride := 0, reset := 0, wide := true }, -- DIE_CONFIG_UNCORR (15)
  { off := 0xC80, count := 1, stride := 0, reset := 0x3E8, rw := 0x1000FFFF, rwl := 0x80000000, wo := 0x40000000 }, -- DIE_WATCHDOG (15)
  { off := 0xD00, count := 1, stride := 0, reset := 0, wo := 0xC0000000 }, -- DIE_IMG_CTRL (17)
  { off := 0xD04, count := 1, stride := 0, reset := 0 }, -- DIE_IMG_STATUS (17)
  { off := 0xD08, count := 1, stride := 0, reset := 0 }, -- DIE_IMG_COUNT (17)
  { off := 0xD0C, count := 1, stride := 0, reset := 0 }, -- DIE_IMG_VERSION (17)
  { off := 0x4000, count := 4096, stride := 4, reset := 0, wo := 0xFFFFFFFF } -- DIE_IMG_DATA (17)
]

/-- Registers of the otp page. -/
def regsOtp : List Reg := [
  { off := 0x100, count := 1, stride := 0, reset := 0, rw := 0x3FFF, wo := 0xE0000000 }, -- OTP_CMD (17)
  { off := 0x104, count := 1, stride := 0, reset := 0, rw := 0xFFFFFFFF }, -- OTP_WDATA (17)
  { off := 0x108, count := 1, stride := 0, reset := 0 }, -- OTP_RDATA (17)
  { off := 0x10C, count := 1, stride := 0, reset := 0 }, -- OTP_STATUS (17)
  { off := 0x110, count := 1, stride := 0, reset := 0 }, -- OTP_BT_STATUS (17)
  { off := 0x114, count := 1, stride := 0, reset := 0 } -- OTP_ECC_COUNTS (17)
]

/-- The register map of a kind of page. -/
def Kind.regs : Kind → List Reg
  | .ring => regsRing
  | .eight => regsEight
  | .lane => regsLane
  | .port => regsPort
  | .cls => regsCls
  | .qdr => regsQdr
  | .slice => regsSlice
  | .lrn => regsLrn
  | .cs => regsCs
  | .engine => regsEngine
  | .bufMgr => regsBufMgr
  | .keel => regsKeel
  | .timeU => regsTimeU
  | .tel => regsTel
  | .acct => regsAcct
  | .pmc => regsPmc
  | .cipher => regsCipher
  | .msec => regsMsec
  | .hif => regsHif
  | .dtu => regsDtu
  | .cox => regsCox
  | .aon => regsAon
  | .die => regsDie
  | .otp => regsOtp
  | _ => []

/-- Does register `r` define offset `o`? -/
def Reg.covers (r : Reg) (o : Nat) : Bool :=
  decide (r.off ≤ o) &&
    (if r.count ≤ 1 then decide (o = r.off) || (r.wide && decide (o = r.off + 4))
     else decide (o < r.off + r.count * r.stride) &&
       (decide ((o - r.off) % r.stride = 0) || (r.wide && decide ((o - r.off) % r.stride = 4))))

/-- The register of a kind that defines offset `o`. -/
def Kind.reg? (k : Kind) (o : Nat) : Option Reg := k.regs.find? (fun r => r.covers o)

/-- Is `o` the high word of a 64-bit counter? -/
def Reg.isHigh (r : Reg) (o : Nat) : Bool :=
  r.wide && (if r.count ≤ 1 then decide (o = r.off + 4) else decide ((o - r.off) % r.stride = 4))

/-- Bits a read returns: all but the WO bits (R9). -/
def Reg.readMask (r : Reg) : Nat := 0xFFFFFFFF - r.wo

end Sys2Proof.Machine
end

