-- ==== Sys2Proof/Machine/Fields.lean ====
section
/-!
DEFINITION. Names for the register fields that the meanings use: offset of the (first) register, distance between the
registers of an array, lowest bit and width, from the register tables of 02-17.
-/
namespace Sys2Proof.Machine

/-- A field of a register or of an array of registers. -/
structure Fld where
  off : Nat
  stride : Nat
  lo : Nat
  w : Nat
  deriving DecidableEq, Repr

def F.PAGE_CONTROL_SLEEP_REQ : Fld := ⟨0x14, 0, 1, 1⟩
def F.PAGE_CONTROL_ENABLE : Fld := ⟨0x14, 0, 0, 1⟩
def F.PAGE_PHYS_PHYS_INDEX : Fld := ⟨0xC, 0, 0, 13⟩
def F.PAGE_IRQ_STATUS : Fld := ⟨0x18, 0, 0, 32⟩
def F.PAGE_IRQ_ENABLE : Fld := ⟨0x1C, 0, 0, 32⟩
def F.PAGE_IRQ_CHILD : Fld := ⟨0x20, 0, 0, 21⟩
def F.PAGE_ERR_COUNT : Fld := ⟨0x28, 0, 0, 16⟩
def F.PAGE_SNAPSHOT_EPOCH : Fld := ⟨0x34, 0, 0, 32⟩
def F.PAGE_SNAPSHOT_STAMP_LO : Fld := ⟨0x38, 0, 0, 32⟩
def F.PAGE_SNAPSHOT_STAMP_HI : Fld := ⟨0x3C, 0, 0, 32⟩
def F.PMC_FILT_TENANT_EN : Fld := ⟨0xF004, 0x10, 31, 1⟩
def F.PMC_FILT_PORT_EN : Fld := ⟨0xF004, 0x10, 30, 1⟩
def F.PMC_FILT_PORT : Fld := ⟨0xF004, 0x10, 14, 10⟩
def F.PMC_FILT_TENANT : Fld := ⟨0xF004, 0x10, 0, 14⟩
def F.PMC_CTR : Fld := ⟨0xF008, 0x10, 0, 32⟩
def F.PMC_SEL_EN : Fld := ⟨0xF000, 0x10, 31, 1⟩
def F.PMC_SEL_SRC_HOST : Fld := ⟨0xF000, 0x10, 29, 1⟩
def F.PMC_SEL_SRC_ENGINE : Fld := ⟨0xF000, 0x10, 28, 1⟩
def F.PMC_SEL_SRC_PIPE : Fld := ⟨0xF000, 0x10, 27, 1⟩
def F.PMC_SEL_TC : Fld := ⟨0xF000, 0x10, 16, 8⟩
def F.PMC_SEL_EVENT : Fld := ⟨0xF000, 0x10, 0, 6⟩
def F.RING_ROLL_STATUS_DONE : Fld := ⟨0x100, 0, 31, 1⟩
def F.RING_ROLL_STATUS_SHADOW_DONE : Fld := ⟨0x100, 0, 30, 1⟩
def F.RING_ROLL_STATUS_SHADOW_FAIL : Fld := ⟨0x100, 0, 29, 1⟩
def F.RING_ROLL_STATUS_PEER_FAIL : Fld := ⟨0x100, 0, 28, 1⟩
def F.RING_ROLL_STATUS_DURATION : Fld := ⟨0x100, 0, 0, 12⟩
def F.RING_ROLL_COUNTS_FAILED : Fld := ⟨0x104, 0, 16, 16⟩
def F.RING_ROLL_COUNTS_SUBSTITUTED : Fld := ⟨0x104, 0, 8, 8⟩
def F.RING_ROLL_COUNTS_UNFILLED : Fld := ⟨0x104, 0, 0, 8⟩
def F.EIGHT_ARRANGE : Fld := ⟨0x100, 0, 0, 32⟩
def F.EIGHT_PAIR_RATE : Fld := ⟨0x104, 0, 0, 32⟩
def F.EIGHT_ARRANGE_STATUS_LAST_ERR : Fld := ⟨0x108, 0, 0, 3⟩
def F.EIGHT_SWAP_CONN : Fld := ⟨0x10C, 0, 0, 24⟩
def F.EIGHT_SWAP : Fld := ⟨0x10C, 0, 0, 32⟩
def F.LANE_STATUS_RATE : Fld := ⟨0x100, 0, 8, 3⟩
def F.LANE_STATUS_AM_LOCK : Fld := ⟨0x100, 0, 7, 1⟩
def F.LANE_STATUS_FEC_LOCK : Fld := ⟨0x100, 0, 6, 1⟩
def F.LANE_STATUS_CDR_LOCK : Fld := ⟨0x100, 0, 5, 1⟩
def F.LANE_RX_QUALITY_SNR : Fld := ⟨0x118, 0, 0, 16⟩
def F.LANE_STATUS_SIGNAL : Fld := ⟨0x100, 0, 4, 1⟩
def F.LANE_STATUS_STATE : Fld := ⟨0x100, 0, 0, 3⟩
def F.LANE_TX_FIR : Fld := ⟨0x104, 0, 0, 32⟩
def F.LANE_TX_CTRL_OVERRIDE_EN : Fld := ⟨0x108, 0, 1, 1⟩
def F.LANE_TX_CTRL_TRAIN_LOCK : Fld := ⟨0x108, 0, 0, 1⟩
def F.LANE_TX_OVERRIDE : Fld := ⟨0x10C, 0, 0, 32⟩
def F.LANE_RX_EQ_PRESET : Fld := ⟨0x110, 0, 24, 4⟩
def F.LANE_RX_EQ_BOUND_MIN : Fld := ⟨0x110, 0, 16, 5⟩
def F.LANE_RX_EQ_BOUND_MAX : Fld := ⟨0x110, 0, 8, 5⟩
def F.LANE_RX_EQ_CTLE : Fld := ⟨0x110, 0, 0, 5⟩
def F.LANE_RX_LIMIT_MAX : Fld := ⟨0x114, 0, 8, 5⟩
def F.LANE_RX_LIMIT_MIN : Fld := ⟨0x114, 0, 0, 5⟩
def F.LANE_RX_LIMIT : Fld := ⟨0x114, 0, 0, 32⟩
def F.LANE_BT_LO : Fld := ⟨0x11C, 0, 0, 32⟩
def F.LANE_BT_HI : Fld := ⟨0x120, 0, 0, 32⟩
def F.PORT_CFG : Fld := ⟨0x100, 0, 0, 32⟩
def F.PORT_AN_ADV_TECH : Fld := ⟨0x104, 0, 0, 13⟩
def F.PORT_STATUS : Fld := ⟨0x108, 0, 0, 32⟩
def F.PORT_STATUS_TECH : Fld := ⟨0x108, 0, 12, 4⟩
def F.PORT_STATUS_FEC : Fld := ⟨0x108, 0, 8, 4⟩
def F.PORT_STATUS_RF : Fld := ⟨0x108, 0, 7, 1⟩
def F.PORT_STATUS_LF : Fld := ⟨0x108, 0, 6, 1⟩
def F.PORT_STATUS_STATE : Fld := ⟨0x108, 0, 0, 3⟩
def F.PORT_LINK_CFG_AUTO_READD : Fld := ⟨0x10C, 0, 31, 1⟩
def F.PORT_LINK_CFG_UNCORR_RUN : Fld := ⟨0x10C, 0, 0, 8⟩
def F.PORT_MAC_CFG_MAX_FRAME : Fld := ⟨0x110, 0, 0, 14⟩
def F.PORT_MAC_SA_LO_ADDR : Fld := ⟨0x114, 0, 0, 32⟩
def F.PORT_MAC_SA_HI_ADDR : Fld := ⟨0x118, 0, 0, 16⟩
def F.PORT_RX_FRAMES : Fld := ⟨0x180, 0, 0, 32⟩
def F.PORT_RX_BYTES : Fld := ⟨0x188, 0, 0, 32⟩
def F.PORT_TX_FRAMES : Fld := ⟨0x190, 0, 0, 32⟩
def F.PORT_TX_BYTES : Fld := ⟨0x198, 0, 0, 32⟩
def F.PORT_RX_FCS_BAD : Fld := ⟨0x1A0, 0, 0, 32⟩
def F.PORT_RX_RUNT : Fld := ⟨0x1A8, 0, 0, 32⟩
def F.PORT_RX_OVERSIZE : Fld := ⟨0x1B0, 0, 0, 32⟩
def F.PORT_RX_OVERRUN_FRAMES : Fld := ⟨0x1B8, 0, 0, 32⟩
def F.PORT_RX_OVERRUN_BYTES : Fld := ⟨0x1C0, 0, 0, 32⟩
def F.PORT_LINK_DOWN_EVENTS : Fld := ⟨0x1D8, 0, 0, 32⟩
def F.CLS_CTRL_PUNT_QUEUE : Fld := ⟨0x100, 0, 2, 6⟩
def F.CLS_CTRL_CACHE_EN : Fld := ⟨0x100, 0, 0, 1⟩
def F.CLS_CTRL : Fld := ⟨0x100, 0, 0, 32⟩
def F.CLS_STATUS_CHAN_FAILED : Fld := ⟨0x104, 0, 0, 4⟩
def F.CLS_TT_ADDR_TENANT : Fld := ⟨0x108, 0, 0, 14⟩
def F.CLS_TT_ADDR : Fld := ⟨0x108, 0, 0, 32⟩
def F.CLS_TT_DATA : Fld := ⟨0x10C, 0, 0, 32⟩
def F.CLS_TREE_ROOT0_CHANMASK : Fld := ⟨0x1000, 0x10, 28, 4⟩
def F.CLS_TREE_ROOT0_ROOT : Fld := ⟨0x1000, 0x10, 0, 25⟩
def F.CLS_TREE_ROOT0 : Fld := ⟨0x1000, 0x10, 0, 32⟩
def F.CLS_TREE_ROOT1_CHANMASK : Fld := ⟨0x1004, 0x10, 28, 4⟩
def F.CLS_TREE_ROOT1_ROOT : Fld := ⟨0x1004, 0x10, 0, 25⟩
def F.CLS_TREE_ROOT1 : Fld := ⟨0x1004, 0x10, 0, 32⟩
def F.CLS_TREE_CTRL_BUSY : Fld := ⟨0x1008, 0x10, 30, 1⟩
def F.CLS_TREE_CTRL_FAILED : Fld := ⟨0x1008, 0x10, 29, 1⟩
def F.CLS_TREE_CTRL_ACTIVE : Fld := ⟨0x1008, 0x10, 28, 1⟩
def F.CLS_TREE_CTRL_FALLBACK : Fld := ⟨0x1008, 0x10, 0, 3⟩
def F.CLS_TREE_CTRL : Fld := ⟨0x1008, 0x10, 0, 32⟩
def F.CLS_CACHE_HITS : Fld := ⟨0x140, 0, 0, 32⟩
def F.CLS_CACHE_MISSES : Fld := ⟨0x148, 0, 0, 32⟩
def F.CLS_FIFO_STALLS : Fld := ⟨0x150, 0, 0, 32⟩
def F.CLS_SWAPS : Fld := ⟨0x158, 0, 0, 32⟩
def F.CLS_SWAP_PAUSE_NS : Fld := ⟨0x160, 0, 0, 32⟩
def F.CLS_FALLBACK_FRAMES : Fld := ⟨0x168, 0, 0, 32⟩
def F.CLS_QDR_UNCORR : Fld := ⟨0x170, 0, 0, 32⟩
def F.QDR_CMD_BUSY : Fld := ⟨0x100, 0, 29, 1⟩
def F.QDR_CMD_ERR : Fld := ⟨0x100, 0, 28, 1⟩
def F.QDR_CMD_NODE : Fld := ⟨0x100, 0, 0, 23⟩
def F.QDR_CMD : Fld := ⟨0x100, 0, 0, 32⟩
def F.QDR_DATA : Fld := ⟨0x110, 4, 0, 32⟩
def F.QDR_ECC_LAST : Fld := ⟨0x140, 0, 0, 32⟩
def F.QDR_ECC_CORRECTED : Fld := ⟨0x180, 0, 0, 32⟩
def F.QDR_ECC_UNCORR : Fld := ⟨0x188, 0, 0, 32⟩
def F.QDR_ADDR_PARITY : Fld := ⟨0x190, 0, 0, 32⟩
def F.PRS_GRAPH_ROOT_ROOT : Fld := ⟨0x400, 0, 0, 10⟩
def F.PRS_MEM_ADDR_SPACE : Fld := ⟨0x404, 0, 10, 1⟩
def F.PRS_MEM_ADDR_INDEX : Fld := ⟨0x404, 0, 0, 10⟩
def F.PRS_MEM_ADDR : Fld := ⟨0x404, 0, 0, 32⟩
def F.PRS_MEM_DATA : Fld := ⟨0x408, 4, 0, 32⟩
def F.PRS_PROFILE_PUNT_QUEUE : Fld := ⟨0x420, 4, 4, 6⟩
def F.PRS_PROFILE_LEN_ACTION : Fld := ⟨0x420, 4, 2, 2⟩
def F.PRS_PROFILE_DEPTH_ACTION : Fld := ⟨0x420, 4, 0, 2⟩
def F.PRS_TMAP_KEY_LO_VALUE : Fld := ⟨0x440, 0, 0, 24⟩
def F.PRS_TMAP_KEY_HI_ANY : Fld := ⟨0x444, 0, 11, 1⟩
def F.PRS_TMAP_KEY_HI_KIND : Fld := ⟨0x444, 0, 10, 1⟩
def F.PRS_TMAP_KEY_HI_PORT : Fld := ⟨0x444, 0, 0, 10⟩
def F.PRS_TMAP_RESULT_TENANT : Fld := ⟨0x448, 0, 0, 14⟩
def F.PRS_TMAP_CMD_BUSY : Fld := ⟨0x44C, 0, 29, 1⟩
def F.PRS_TMAP_CMD_STATUS : Fld := ⟨0x44C, 0, 26, 3⟩
def F.PRS_TMAP_CMD : Fld := ⟨0x44C, 0, 0, 32⟩
def F.PRS_PORT_CFG_DEFAULT_EN : Fld := ⟨0x200, 0, 31, 1⟩
def F.PRS_PORT_CFG_PROFILE : Fld := ⟨0x200, 0, 28, 3⟩
def F.PRS_PORT_CFG_TENANT_MODE : Fld := ⟨0x200, 0, 26, 2⟩
def F.PRS_PORT_CFG_TENANT : Fld := ⟨0x200, 0, 0, 14⟩
def F.TBL_TCAM_BLOCK_CFG_PF_SEL : Fld := ⟨0x500, 4, 11, 9⟩
def F.TBL_TCAM_BLOCK_CFG_WIDTH : Fld := ⟨0x500, 4, 8, 2⟩
def F.TBL_TCAM_BLOCK_CFG_OWNER : Fld := ⟨0x500, 4, 0, 8⟩
def F.TBL_TCAM_BLOCK_CFG : Fld := ⟨0x500, 4, 0, 32⟩
def F.TBL_TCAM_ROW_BUSY : Fld := ⟨0x540, 0, 28, 1⟩
def F.TBL_TCAM_ROW_LAST : Fld := ⟨0x540, 0, 26, 2⟩
def F.TBL_TCAM_ROW_VALID : Fld := ⟨0x540, 0, 24, 1⟩
def F.TBL_TCAM_ROW_GUARD : Fld := ⟨0x540, 0, 14, 1⟩
def F.TBL_TCAM_ROW_BLOCK : Fld := ⟨0x540, 0, 10, 4⟩
def F.TBL_TCAM_ROW_ROW : Fld := ⟨0x540, 0, 0, 10⟩
def F.TBL_TCAM_ROW : Fld := ⟨0x540, 0, 0, 32⟩
def F.TBL_TCAM_META : Fld := ⟨0x544, 0, 0, 32⟩
def F.TBL_TCAM_VALUE : Fld := ⟨0x580, 4, 0, 32⟩
def F.TBL_TCAM_MASK : Fld := ⟨0x5C0, 4, 0, 32⟩
def F.TBL_TCAM_FALSE_HIT_LAST : Fld := ⟨0x618, 0, 0, 32⟩
def F.PRS_PARSE_DEPTH_FRAMES : Fld := ⟨0x460, 0, 0, 32⟩
def F.PRS_LEN_CONFLICT_FRAMES : Fld := ⟨0x468, 0, 0, 32⟩
def F.PRS_TENANT_MISS_FRAMES : Fld := ⟨0x470, 0, 0, 32⟩
def F.TBL_TCAM_MULTI_EQUAL : Fld := ⟨0x600, 0, 0, 32⟩
def F.TBL_TCAM_FALSE_HIT : Fld := ⟨0x608, 0, 0, 32⟩
def F.TBL_TCAM_SCRUB_FIX : Fld := ⟨0x610, 0, 0, 32⟩
def F.TBL_STAGE_CFG_KIND : Fld := ⟨0x700, 4, 28, 4⟩
def F.TBL_STAGE_CFG_KEYSEL : Fld := ⟨0x700, 4, 24, 4⟩
def F.TBL_STAGE_CFG_SRC_LEARN : Fld := ⟨0x700, 4, 23, 1⟩
def F.TBL_STAGE_CFG_MISS_ACTION : Fld := ⟨0x700, 4, 0, 12⟩
def F.TBL_STAGE_CFG : Fld := ⟨0x700, 4, 0, 32⟩
def F.TBL_HASH_PROFILE_SEED : Fld := ⟨0x760, 4, 16, 16⟩
def F.TBL_HASH_PROFILE_INNER : Fld := ⟨0x760, 4, 11, 1⟩
def F.TBL_HASH_PROFILE : Fld := ⟨0x760, 4, 0, 32⟩
def F.TBL_EM_SEED : Fld := ⟨0x770, 4, 0, 32⟩
def F.TBL_EM_DATA : Fld := ⟨0x780, 4, 0, 32⟩
def F.TBL_EM_DATA4_VALID : Fld := ⟨0x794, 0, 31, 1⟩
def F.TBL_EM_DATA4_STATIC : Fld := ⟨0x794, 0, 28, 1⟩
def F.TBL_EM_DATA4_PINNED : Fld := ⟨0x794, 0, 27, 1⟩
def F.TBL_EM_DATA4_LEARNED : Fld := ⟨0x794, 0, 26, 1⟩
def F.TBL_EM_DATA4_AGE : Fld := ⟨0x794, 0, 24, 2⟩
def F.TBL_EM_DATA4_VRF : Fld := ⟨0x794, 0, 0, 12⟩
def F.TBL_EM_DATA4 : Fld := ⟨0x794, 0, 0, 32⟩
def F.TBL_EM_DATA5_DEST_KIND : Fld := ⟨0x798, 0, 30, 2⟩
def F.TBL_EM_DATA5_DEST : Fld := ⟨0x798, 0, 14, 16⟩
def F.TBL_EM_DATA5_DEST_TENANT : Fld := ⟨0x798, 0, 0, 14⟩
def F.TBL_EM_DATA5 : Fld := ⟨0x798, 0, 0, 32⟩
def F.TBL_EM_DATA6_ACTION : Fld := ⟨0x79C, 0, 0, 12⟩
def F.TBL_EM_DATA6 : Fld := ⟨0x79C, 0, 0, 32⟩
def F.TBL_EM_CMD_BUSY : Fld := ⟨0x790, 0, 29, 1⟩
def F.TBL_EM_CMD_STATUS : Fld := ⟨0x790, 0, 26, 3⟩
def F.TBL_EM_CMD_V6 : Fld := ⟨0x790, 0, 25, 1⟩
def F.TBL_EM_CMD_INDEX : Fld := ⟨0x790, 0, 0, 18⟩
def F.TBL_EM_CMD : Fld := ⟨0x790, 0, 0, 32⟩
def F.TBL_LPM_PREFIX : Fld := ⟨0x7A0, 4, 0, 32⟩
def F.TBL_LPM_RESULT : Fld := ⟨0x7B0, 0, 0, 32⟩
def F.TBL_LPM_CMD_BUSY : Fld := ⟨0x7B4, 0, 29, 1⟩
def F.TBL_LPM_CMD_STATUS : Fld := ⟨0x7B4, 0, 26, 3⟩
def F.TBL_LPM_CMD_FAMILY : Fld := ⟨0x7B4, 0, 25, 1⟩
def F.TBL_LPM_CMD_FULL_LEVEL : Fld := ⟨0x7B4, 0, 20, 5⟩
def F.TBL_LPM_CMD_LEN : Fld := ⟨0x7B4, 0, 0, 8⟩
def F.TBL_LPM_CMD : Fld := ⟨0x7B4, 0, 0, 32⟩
def F.TBL_PARITY_CFG_REPAIR : Fld := ⟨0x7E8, 0, 0, 1⟩
def F.TBL_PARITY_LAST : Fld := ⟨0x7EC, 0, 0, 32⟩
def F.TBL_ACCESS_LOCK_GRANTED : Fld := ⟨0x7E0, 0, 16, 8⟩
def F.TBL_ACCESS_LOCK_REQ : Fld := ⟨0x7E0, 0, 0, 8⟩
def F.TBL_ACCESS_LOCK : Fld := ⟨0x7E0, 0, 0, 32⟩
def F.TBL_LOCK_TIMEOUT_TIMEOUT : Fld := ⟨0x7E4, 0, 0, 20⟩
def F.TBL_IDX_CMD_ERR : Fld := ⟨0x7C0, 0, 28, 1⟩
def F.TBL_IDX_CMD_TABLE : Fld := ⟨0x7C0, 0, 24, 4⟩
def F.TBL_IDX_CMD_INDEX : Fld := ⟨0x7C0, 0, 0, 18⟩
def F.TBL_IDX_CMD : Fld := ⟨0x7C0, 0, 0, 32⟩
def F.TBL_IDX_DATA : Fld := ⟨0x7C4, 4, 0, 32⟩
def F.LRN_PORT_CFG_EN : Fld := ⟨0x210, 0, 31, 1⟩
def F.LRN_PORT_CFG_EXCESS : Fld := ⟨0x210, 0, 30, 1⟩
def F.LRN_PORT_CFG_RATE : Fld := ⟨0x210, 0, 18, 12⟩
def F.LRN_PORT_CFG_MAX : Fld := ⟨0x210, 0, 0, 18⟩
def F.LRN_PORT_COUNT : Fld := ⟨0x214, 0, 0, 32⟩
def F.LRN_CTRL_NOTIFY_EN : Fld := ⟨0x100, 0, 8, 1⟩
def F.LRN_CTRL_NOTIFY_QUEUE : Fld := ⟨0x100, 0, 2, 6⟩
def F.LRN_CTRL : Fld := ⟨0x100, 0, 0, 32⟩
def F.LRN_DAMP_CFG_PERIOD_S : Fld := ⟨0x108, 0, 16, 8⟩
def F.LRN_DAMP_CFG_MOVES : Fld := ⟨0x108, 0, 0, 8⟩
def F.LRN_AGE_CFG_PERIOD_S : Fld := ⟨0x10C, 0, 0, 16⟩
def F.LRN_PIN_LAST_LO : Fld := ⟨0x110, 0, 0, 32⟩
def F.LRN_PIN_LAST_HI : Fld := ⟨0x114, 0, 0, 32⟩
def F.TBL_PARITY_ERRORS : Fld := ⟨0x800, 0, 0, 32⟩
def F.TBL_PARITY_REPAIRED : Fld := ⟨0x808, 0, 0, 32⟩
def F.TBL_EM_RELOCATIONS : Fld := ⟨0x810, 0, 0, 32⟩
def F.TBL_EXT_IGNORED : Fld := ⟨0x818, 0, 0, 32⟩
def F.LRN_EVENTS : Fld := ⟨0x140, 0, 0, 32⟩
def F.LRN_APPLIED : Fld := ⟨0x148, 0, 0, 32⟩
def F.LRN_STALE : Fld := ⟨0x150, 0, 0, 32⟩
def F.LRN_DAMPED : Fld := ⟨0x158, 0, 0, 32⟩
def F.LRN_DISCARDED : Fld := ⟨0x160, 0, 0, 32⟩
def F.LRN_FIFO_DROP : Fld := ⟨0x168, 0, 0, 32⟩
def F.LRN_AGED : Fld := ⟨0x170, 0, 0, 32⟩
def F.CS_CTRL_RUN : Fld := ⟨0x100, 0, 31, 1⟩
def F.CS_CTRL_AUTO_RELOAD : Fld := ⟨0x100, 0, 30, 1⟩
def F.CS_CTRL_HALT_ACTION : Fld := ⟨0x100, 0, 28, 2⟩
def F.CS_CTRL_STRICT_ORDER : Fld := ⟨0x100, 0, 27, 1⟩
def F.CS_CTRL_EVENT_RESERVE : Fld := ⟨0x100, 0, 26, 1⟩
def F.CS_CTRL_RESTART_LIMIT : Fld := ⟨0x100, 0, 16, 8⟩
def F.CS_CTRL_WATCHDOG : Fld := ⟨0x100, 0, 0, 16⟩
def F.CS_CTRL : Fld := ⟨0x100, 0, 0, 32⟩
def F.CS_STATUS_VERIFIED : Fld := ⟨0x104, 0, 31, 1⟩
def F.CS_STATUS_UNCORR : Fld := ⟨0x104, 0, 30, 1⟩
def F.CS_STATUS_RELOADING : Fld := ⟨0x104, 0, 29, 1⟩
def F.CS_STATUS_DONOR : Fld := ⟨0x104, 0, 24, 4⟩
def F.CS_STATUS_SPARE_ROWS : Fld := ⟨0x104, 0, 0, 8⟩
def F.CS_STATUS : Fld := ⟨0x104, 0, 0, 32⟩
def F.CS_VERSION : Fld := ⟨0x108, 0, 0, 32⟩
def F.CS_ADDR_ERR : Fld := ⟨0x10C, 0, 28, 1⟩
def F.CS_ADDR_ADDR : Fld := ⟨0x10C, 0, 0, 15⟩
def F.CS_ADDR : Fld := ⟨0x10C, 0, 0, 32⟩
def F.CS_DATA_DATA : Fld := ⟨0x110, 4, 0, 32⟩
def F.CS_ECC_CHECK : Fld := ⟨0x130, 0, 0, 12⟩
def F.CS_URGENCY_MAP : Fld := ⟨0x134, 0, 0, 16⟩
def F.CS_EVENT_PENDING : Fld := ⟨0x138, 0, 30, 1⟩
def F.CS_EVENT_ENGINE : Fld := ⟨0x138, 0, 16, 4⟩
def F.CS_EVENT_ENTRY : Fld := ⟨0x138, 0, 0, 15⟩
def F.CS_EVENT : Fld := ⟨0x138, 0, 0, 32⟩
def F.CS_DISPATCH_FILL : Fld := ⟨0x140, 0, 0, 32⟩
def F.CS_DISPATCHED : Fld := ⟨0x180, 0, 0, 32⟩
def F.CS_COMMITS : Fld := ⟨0x188, 0, 0, 32⟩
def F.CS_ABANDON_INTERRUPT : Fld := ⟨0x190, 0, 0, 32⟩
def F.CS_ABANDON_PREEMPT : Fld := ⟨0x198, 0, 0, 32⟩
def F.CS_ABANDON_MEM : Fld := ⟨0x1A0, 0, 0, 32⟩
def F.CS_ABANDON_LOCK : Fld := ⟨0x1A8, 0, 0, 32⟩
def F.CS_ABANDON_DMA : Fld := ⟨0x1B0, 0, 0, 32⟩
def F.CS_ABANDON_ENGINE : Fld := ⟨0x1B8, 0, 0, 32⟩
def F.CS_ENGINE_ABORT_DROPS : Fld := ⟨0x1C0, 0, 0, 32⟩
def F.CS_POSTCOMMIT_ERRORS : Fld := ⟨0x1C8, 0, 0, 32⟩
def F.CS_HALT_SKIPPED : Fld := ⟨0x1D0, 0, 0, 32⟩
def F.CS_ECC_CORRECTED : Fld := ⟨0x1D8, 0, 0, 32⟩
def F.CS_ECC_UNCORR : Fld := ⟨0x1E0, 0, 0, 32⟩
def F.CS_EVENTS : Fld := ⟨0x1E8, 0, 0, 32⟩
def F.SE_STATUS : Fld := ⟨0x100, 0, 0, 32⟩
def F.SE_UCODE_VERSION : Fld := ⟨0x104, 0, 0, 32⟩
def F.SE_FAULT : Fld := ⟨0x108, 0, 0, 32⟩
def F.SE_LAST_ABORT : Fld := ⟨0x10C, 0, 0, 32⟩
def F.SE_ISSUES : Fld := ⟨0x140, 0, 0, 32⟩
def F.SE_ROUTINES : Fld := ⟨0x148, 0, 0, 32⟩
def F.SE_ABANDONS : Fld := ⟨0x150, 0, 0, 32⟩
def F.BUF_PORT_CFG_CT_EN : Fld := ⟨0x300, 0, 31, 1⟩
def F.BUF_PORT_CFG_ALPHA_PORT : Fld := ⟨0x300, 0, 24, 4⟩
def F.BUF_PORT_CFG_ALPHA_ING : Fld := ⟨0x300, 0, 20, 4⟩
def F.BUF_PORT_CFG_PFC_RX_EN : Fld := ⟨0x300, 0, 8, 8⟩
def F.BUF_PORT_CFG_PFC_TX_EN : Fld := ⟨0x300, 0, 0, 8⟩
def F.BUF_PORT_QMAP_TCn : Fld := ⟨0x304, 0, 0, 32⟩
def F.BUF_PORT_PFC_XON_DELTA : Fld := ⟨0x308, 0, 16, 16⟩
def F.BUF_PORT_PFC_HDRM : Fld := ⟨0x308, 0, 0, 16⟩
def F.BUF_PORT_PFC_STATUS_RX_PAUSED : Fld := ⟨0x30C, 0, 16, 8⟩
def F.BUF_PORT_PFC_STATUS_XOFF : Fld := ⟨0x30C, 0, 0, 8⟩
def F.BUF_QUEUE_CFG_EN : Fld := ⟨0x340, 4, 31, 1⟩
def F.BUF_QUEUE_CFG_DISABLE_MODE : Fld := ⟨0x340, 4, 30, 1⟩
def F.BUF_QUEUE_CFG_PFC_CLASS : Fld := ⟨0x340, 4, 27, 3⟩
def F.BUF_QUEUE_CFG_ALPHA : Fld := ⟨0x340, 4, 23, 4⟩
def F.BUF_QUEUE_CFG_MIN : Fld := ⟨0x340, 4, 0, 16⟩
def F.BUF_QUEUE_CFG : Fld := ⟨0x340, 4, 0, 32⟩
def F.BUF_QUEUE_AGE_LIMIT : Fld := ⟨0x380, 4, 0, 20⟩
def F.BUF_QUEUE_ECN_EN : Fld := ⟨0x3C0, 4, 31, 1⟩
def F.BUF_QUEUE_ECN_MAXP : Fld := ⟨0x3C0, 4, 24, 7⟩
def F.BUF_QUEUE_ECN_ECN_MAX : Fld := ⟨0x3C0, 4, 12, 12⟩
def F.BUF_QUEUE_ECN_ECN_MIN : Fld := ⟨0x3C0, 4, 0, 12⟩
def F.BUF_QUEUE_STATUS_STATE : Fld := ⟨0x400, 4, 29, 3⟩
def F.BUF_QUEUE_STATUS : Fld := ⟨0x400, 4, 0, 32⟩
def F.BUF_SHARED_LIMIT_CELLS : Fld := ⟨0x100, 0, 0, 21⟩
def F.BUF_SHARED_LIMIT : Fld := ⟨0x100, 0, 0, 32⟩
def F.BUF_HEADROOM_LIMIT_CELLS : Fld := ⟨0x104, 0, 0, 21⟩
def F.BUF_HEADROOM_LIMIT : Fld := ⟨0x104, 0, 0, 32⟩
def F.BUF_FREE : Fld := ⟨0x108, 0, 0, 32⟩
def F.BUF_SHARED_USED : Fld := ⟨0x10C, 0, 0, 32⟩
def F.BUF_HEADROOM_USED : Fld := ⟨0x110, 0, 0, 32⟩
def F.BUF_RESERVED_SUM : Fld := ⟨0x114, 0, 0, 32⟩
def F.BUF_SHARED_EFFECTIVE : Fld := ⟨0x11C, 0, 0, 32⟩
def F.BUF_CFG_STATUS_LAST_ERR : Fld := ⟨0x118, 0, 0, 2⟩
def F.BUF_BANKS_RETIRED : Fld := ⟨0x120, 0, 16, 8⟩
def F.BUF_BANKS_SPARES_USED : Fld := ⟨0x120, 0, 8, 8⟩
def F.BUF_BANKS_IN_SERVICE : Fld := ⟨0x120, 0, 0, 8⟩
def F.BUF_MC_CMD_GROUP : Fld := ⟨0x130, 0, 0, 13⟩
def F.BUF_MC_CMD : Fld := ⟨0x130, 0, 0, 32⟩
def F.BUF_MC_FLAGS : Fld := ⟨0x134, 0, 0, 32⟩
def F.BUF_MC_MAP : Fld := ⟨0x140, 4, 0, 32⟩
def F.BUF_HQ_CFG_EN : Fld := ⟨0x200, 4, 31, 1⟩
def F.BUF_HQ_CFG_ALPHA : Fld := ⟨0x200, 4, 27, 4⟩
def F.BUF_HQ_CFG_MIN : Fld := ⟨0x200, 4, 0, 16⟩
def F.BUF_HQ_CFG : Fld := ⟨0x200, 4, 0, 32⟩
def F.BUF_ECC_LAST : Fld := ⟨0x300, 0, 0, 32⟩
def F.BUF_ADMIT_FULL_FRAMES : Fld := ⟨0x480, 0, 0, 32⟩
def F.BUF_AGED_FRAMES : Fld := ⟨0x488, 0, 0, 32⟩
def F.BUF_FLUSHED_FRAMES : Fld := ⟨0x490, 0, 0, 32⟩
def F.BUF_ECN_MARKED : Fld := ⟨0x498, 0, 0, 32⟩
def F.BUF_CT_FRAMES : Fld := ⟨0x4A0, 0, 0, 32⟩
def F.BUF_PFC_TX : Fld := ⟨0x4A8, 0, 0, 32⟩
def F.BUF_PFC_RX : Fld := ⟨0x4B0, 0, 0, 32⟩
def F.BUF_PAUSE_IGNORED : Fld := ⟨0x4B8, 0, 0, 32⟩
def F.BUF_ECC_CORRECTED : Fld := ⟨0x380, 0, 0, 32⟩
def F.BUF_ECC_UNCORR : Fld := ⟨0x388, 0, 0, 32⟩
def F.BUF_MC_SKIPPED : Fld := ⟨0x390, 0, 0, 32⟩
def F.BUF_HEADROOM_DROPS : Fld := ⟨0x398, 0, 0, 32⟩
def F.SCH_QUEUE_CFG_GROUP : Fld := ⟨0x500, 4, 30, 2⟩
def F.SCH_QUEUE_CFG_PRIO : Fld := ⟨0x500, 4, 27, 3⟩
def F.SCH_QUEUE_CFG_EXPRESS : Fld := ⟨0x500, 4, 26, 1⟩
def F.SCH_QUEUE_CFG_WEIGHT : Fld := ⟨0x500, 4, 0, 8⟩
def F.SCH_QUEUE_CFG : Fld := ⟨0x500, 4, 0, 32⟩
def F.SCH_GROUP_CFG_PRIO : Fld := ⟨0x5C0, 4, 27, 3⟩
def F.SCH_GROUP_CFG_WEIGHT : Fld := ⟨0x5C0, 4, 0, 8⟩
def F.SCH_GROUP_CFG : Fld := ⟨0x5C0, 4, 0, 32⟩
def F.SCH_QUEUE_SHAPE_RATE : Fld := ⟨0x540, 8, 0, 32⟩
def F.SCH_GROUP_SHAPE_RATE : Fld := ⟨0x5D0, 8, 0, 32⟩
def F.SCH_PORT_SHAPE_RATE : Fld := ⟨0x5F0, 0, 0, 32⟩
def F.SCH_CFG_STATUS_LAST_ERR : Fld := ⟨0x5F8, 0, 0, 2⟩
def F.SCH_QUEUE_DEPTH_SAMPLE_DEPTH : Fld := ⟨0x600, 8, 0, 21⟩
def F.SCH_QUEUE_DELAY_SAMPLE : Fld := ⟨0x604, 8, 0, 32⟩
def F.GATE_CTRL_EN : Fld := ⟨0x680, 0, 31, 1⟩
def F.GATE_CTRL_CHANGE : Fld := ⟨0x680, 0, 30, 1⟩
def F.GATE_CTRL_CMP_EN : Fld := ⟨0x680, 0, 29, 1⟩
def F.GATE_CTRL_CMP : Fld := ⟨0x680, 0, 24, 5⟩
def F.GATE_CTRL : Fld := ⟨0x680, 0, 0, 32⟩
def F.GATE_GUARD_GUARD : Fld := ⟨0x684, 0, 0, 16⟩
def F.GATE_ADMIN_CYCLE_NS : Fld := ⟨0x688, 0, 0, 32⟩
def F.GATE_ADMIN_CYCLE : Fld := ⟨0x688, 0, 0, 32⟩
def F.GATE_ADMIN_EXT_NS : Fld := ⟨0x68C, 0, 0, 32⟩
def F.GATE_ADMIN_EXT : Fld := ⟨0x68C, 0, 0, 32⟩
def F.GATE_OPER_CYCLE_NS : Fld := ⟨0x6A0, 0, 0, 32⟩
def F.GATE_OPER_CYCLE : Fld := ⟨0x6A0, 0, 0, 32⟩
def F.GATE_OPER_EXT : Fld := ⟨0x6B8, 0, 0, 32⟩
def F.GATE_ADMIN_LEN_LEN : Fld := ⟨0x690, 0, 0, 11⟩
def F.GATE_ADMIN_LEN : Fld := ⟨0x690, 0, 0, 32⟩
def F.GATE_OPER_LEN_LEN : Fld := ⟨0x6A4, 0, 0, 11⟩
def F.GATE_OPER_LEN : Fld := ⟨0x6A4, 0, 0, 32⟩
def F.GATE_ADMIN_BASE_NS_NS : Fld := ⟨0x694, 0, 0, 30⟩
def F.GATE_ADMIN_BASE_NS : Fld := ⟨0x694, 0, 0, 32⟩
def F.GATE_ADMIN_BASE_SEC_LO : Fld := ⟨0x698, 0, 0, 32⟩
def F.GATE_ADMIN_BASE_SEC_HI : Fld := ⟨0x69C, 0, 0, 32⟩
def F.GATE_OPER_BASE_NS_NS : Fld := ⟨0x6A8, 0, 0, 30⟩
def F.GATE_OPER_BASE_NS : Fld := ⟨0x6A8, 0, 0, 32⟩
def F.GATE_OPER_BASE_SEC_LO : Fld := ⟨0x6AC, 0, 0, 32⟩
def F.GATE_OPER_BASE_SEC_HI : Fld := ⟨0x6B0, 0, 0, 32⟩
def F.GATE_STATUS_PENDING : Fld := ⟨0x6B4, 0, 31, 1⟩
def F.GATE_STATUS_OPER_VALID : Fld := ⟨0x6B4, 0, 30, 1⟩
def F.GATE_STATUS_LAST_ERR : Fld := ⟨0x6B4, 0, 0, 3⟩
def F.GATE_LIST_ADDR_ERR : Fld := ⟨0x6C0, 0, 28, 1⟩
def F.GATE_LIST_ADDR_INDEX : Fld := ⟨0x6C0, 0, 0, 10⟩
def F.GATE_LIST_ADDR : Fld := ⟨0x6C0, 0, 0, 32⟩
def F.GATE_LIST_DATA_LO : Fld := ⟨0x6C4, 0, 0, 32⟩
def F.GATE_LIST_DATA_HI : Fld := ⟨0x6C8, 0, 0, 32⟩
def F.GATE_QUEUE_MAXWIN : Fld := ⟨0x740, 4, 0, 32⟩
def F.PORT_MM_CFG_EN : Fld := ⟨0x700, 0, 31, 1⟩
def F.PORT_MM_CFG_VERIFY_DIS : Fld := ⟨0x700, 0, 30, 1⟩
def F.PORT_MM_CFG_ADD_FRAG : Fld := ⟨0x700, 0, 28, 2⟩
def F.PORT_MM_CFG : Fld := ⟨0x700, 0, 0, 32⟩
def F.PORT_MM_STATUS_ACTIVE : Fld := ⟨0x704, 0, 31, 1⟩
def F.PORT_MM_STATUS_HOLD : Fld := ⟨0x704, 0, 30, 1⟩
def F.PORT_MM_STATUS_VERIFY : Fld := ⟨0x704, 0, 0, 3⟩
def F.SCH_POL_ADDR_ERR : Fld := ⟨0x900, 0, 28, 1⟩
def F.SCH_POL_ADDR_INDEX : Fld := ⟨0x900, 0, 0, 12⟩
def F.SCH_POL_ADDR : Fld := ⟨0x900, 0, 0, 32⟩
def F.SCH_POL_DATA0_EN : Fld := ⟨0x904, 0, 31, 1⟩
def F.SCH_POL_DATA0_WIRE : Fld := ⟨0x904, 0, 30, 1⟩
def F.SCH_POL_DATA0_RATE : Fld := ⟨0x904, 0, 0, 22⟩
def F.SCH_POL_DATA0 : Fld := ⟨0x904, 0, 0, 32⟩
def F.SCH_POL_DATA1_BURST : Fld := ⟨0x908, 0, 0, 24⟩
def F.SCH_POL_DATA1 : Fld := ⟨0x908, 0, 0, 32⟩
def F.SCH_POL_DATA2 : Fld := ⟨0x90C, 0, 0, 32⟩
def F.SCH_POL_DATA3 : Fld := ⟨0x910, 0, 0, 32⟩
def F.GATE_MISS_FRAMES : Fld := ⟨0x780, 0, 0, 32⟩
def F.GATE_DEFERRED : Fld := ⟨0x788, 0, 0, 32⟩
def F.PORT_MM_TX_PREEMPTIONS : Fld := ⟨0x790, 0, 0, 32⟩
def F.PORT_MM_RX_FRAGMENTS : Fld := ⟨0x798, 0, 0, 32⟩
def F.PORT_MM_ASSY_ERRORS : Fld := ⟨0x7A0, 0, 0, 32⟩
def F.PORT_MM_RX_ASSEMBLED : Fld := ⟨0x7A8, 0, 0, 32⟩
def F.SCH_POL_RED_FRAMES : Fld := ⟨0x920, 0, 0, 32⟩
def F.SCH_POL_RED_BYTES : Fld := ⟨0x928, 0, 0, 32⟩
def F.KEEL_CTRL_FORCE_SPLIT : Fld := ⟨0x100, 0, 31, 1⟩
def F.KEEL_CTRL_AUTO_REJOIN : Fld := ⟨0x100, 0, 30, 1⟩
def F.KEEL_CTRL_HOST_RESUME : Fld := ⟨0x100, 0, 29, 1⟩
def F.KEEL_CTRL_RESUME : Fld := ⟨0x100, 0, 28, 1⟩
def F.KEEL_CTRL_RETRY_EN : Fld := ⟨0x100, 0, 27, 1⟩
def F.KEEL_CTRL_CRC_LIMIT : Fld := ⟨0x100, 0, 0, 8⟩
def F.KEEL_CTRL_REJOIN_MIN : Fld := ⟨0x100, 0, 8, 7⟩
def F.KEEL_CTRL : Fld := ⟨0x100, 0, 0, 32⟩
def F.KEEL_STATUS_SPLIT : Fld := ⟨0x104, 0, 31, 1⟩
def F.KEEL_STATUS_PEER_PRESENT : Fld := ⟨0x104, 0, 30, 1⟩
def F.KEEL_STATUS_PHASE : Fld := ⟨0x104, 0, 27, 3⟩
def F.KEEL_STATUS_TX_ACTIVE : Fld := ⟨0x104, 0, 16, 7⟩
def F.KEEL_STATUS_RX_ACTIVE : Fld := ⟨0x104, 0, 8, 7⟩
def F.KEEL_CAPACITY_TX_GBPS : Fld := ⟨0x108, 0, 0, 17⟩
def F.KEEL_REJOIN_CFG_STEP_NS : Fld := ⟨0x10C, 0, 0, 16⟩
def F.KEEL_CREDIT : Fld := ⟨0x114, 0, 0, 32⟩
def F.KEEL_SUBLINK_TX_STATE : Fld := ⟨0x200, 4, 29, 3⟩
def F.KEEL_SUBLINK_RX_STATE : Fld := ⟨0x200, 4, 26, 3⟩
def F.KEEL_SUBLINK_DISABLE : Fld := ⟨0x200, 4, 24, 1⟩
def F.KEEL_SUBLINK_CRC_ERR : Fld := ⟨0x200, 4, 0, 16⟩
def F.KEEL_SUBLINK : Fld := ⟨0x200, 4, 0, 32⟩
def F.KEEL_TX_CELLS : Fld := ⟨0x180, 0, 0, 32⟩
def F.KEEL_RX_CELLS : Fld := ⟨0x188, 0, 0, 32⟩
def F.KEEL_LOST_FRAMES : Fld := ⟨0x190, 0, 0, 32⟩
def F.KEEL_CRC_ERRORS : Fld := ⟨0x198, 0, 0, 32⟩
def F.KEEL_CTRL_RESENT : Fld := ⟨0x1A0, 0, 0, 32⟩
def F.KEEL_SUBLINK_FAILS : Fld := ⟨0x1A8, 0, 0, 32⟩
def F.KEEL_SPLITS : Fld := ⟨0x1B0, 0, 0, 32⟩
def F.KEEL_REJOIN_CONFLICTS : Fld := ⟨0x1B8, 0, 0, 32⟩
def F.KEEL_LEARN_LOST : Fld := ⟨0x1C0, 0, 0, 32⟩
def F.TIME_CTRL_FINE_EN : Fld := ⟨0x100, 0, 31, 1⟩
def F.TIME_CTRL_STEP_EN : Fld := ⟨0x100, 0, 30, 1⟩
def F.TIME_CTRL_REF_SEL : Fld := ⟨0x100, 0, 28, 2⟩
def F.TIME_CTRL_REF_CHANGE : Fld := ⟨0x100, 0, 27, 1⟩
def F.TIME_CTRL_LATCH : Fld := ⟨0x100, 0, 26, 1⟩
def F.TIME_CTRL : Fld := ⟨0x100, 0, 0, 32⟩
def F.TIME_NOW_FRAC_FRAC : Fld := ⟨0x104, 0, 0, 16⟩
def F.TIME_NOW_NS_NS : Fld := ⟨0x108, 0, 0, 30⟩
def F.TIME_NOW_SEC_LO : Fld := ⟨0x10C, 0, 0, 32⟩
def F.TIME_NOW_SEC_HI : Fld := ⟨0x110, 0, 0, 32⟩
def F.TIME_SET_FRAC_FRAC : Fld := ⟨0x114, 0, 0, 16⟩
def F.TIME_SET_NS_NS : Fld := ⟨0x118, 0, 0, 30⟩
def F.TIME_SET_SEC_LO : Fld := ⟨0x11C, 0, 0, 32⟩
def F.TIME_SET_SEC_HI : Fld := ⟨0x120, 0, 0, 32⟩
def F.TIME_SET_CTRL_OP : Fld := ⟨0x124, 0, 30, 2⟩
def F.TIME_SET_CTRL_BUSY : Fld := ⟨0x124, 0, 29, 1⟩
def F.TIME_SET_CTRL : Fld := ⟨0x124, 0, 0, 32⟩
def F.TIME_OFFSET_LO : Fld := ⟨0x128, 0, 0, 32⟩
def F.TIME_OFFSET_HI : Fld := ⟨0x12C, 0, 0, 32⟩
def F.TIME_SERVO_CFG_KP : Fld := ⟨0x130, 0, 24, 8⟩
def F.TIME_SERVO_CFG_KI : Fld := ⟨0x130, 0, 16, 8⟩
def F.TIME_SERVO_CFG_COARSE_N : Fld := ⟨0x130, 0, 8, 8⟩
def F.TIME_SERVO_CFG_FINE_N : Fld := ⟨0x130, 0, 0, 8⟩
def F.TIME_STEP_NS_NS : Fld := ⟨0x134, 0, 0, 32⟩
def F.TIME_FREQ : Fld := ⟨0x13C, 0, 0, 32⟩
def F.TIME_FREQ_INIT : Fld := ⟨0x140, 0, 0, 32⟩
def F.TIME_LOCK_STATE_FOLLOW : Fld := ⟨0x144, 0, 31, 1⟩
def F.TIME_LOCK_STATE_ALIGNED : Fld := ⟨0x144, 0, 30, 1⟩
def F.TIME_LOCK_STATE_STATE : Fld := ⟨0x144, 0, 0, 3⟩
def F.TIME_LAST_OFFSET_LO : Fld := ⟨0x148, 0, 0, 32⟩
def F.TIME_LAST_OFFSET_HI : Fld := ⟨0x14C, 0, 0, 32⟩
def F.TIME_PPS_IN_STAMP_LO : Fld := ⟨0x16C, 0, 0, 32⟩
def F.TIME_PPS_IN_STAMP_HI : Fld := ⟨0x170, 0, 0, 32⟩
def F.TIME_TXSTAMP_LO : Fld := ⟨0x194, 0, 0, 32⟩
def F.TIME_TXSTAMP_HI : Fld := ⟨0x198, 0, 0, 32⟩
def F.TIME_PPS_CFG_OUT_EN : Fld := ⟨0x160, 0, 31, 1⟩
def F.TIME_PPS_CFG_IN_EN : Fld := ⟨0x160, 0, 30, 1⟩
def F.TIME_PPS_CFG_WIDTH_US : Fld := ⟨0x160, 0, 0, 16⟩
def F.TIME_PPS_OUT_ADJ : Fld := ⟨0x164, 0, 0, 32⟩
def F.TIME_PPS_IN_ADJ : Fld := ⟨0x168, 0, 0, 32⟩
def F.TIME_SYNCE_CFG : Fld := ⟨0x180, 0, 0, 32⟩
def F.TIME_SYNCE_STATUS : Fld := ⟨0x184, 0, 0, 32⟩
def F.TIME_TXSTAMP_META_VALID : Fld := ⟨0x190, 0, 31, 1⟩
def F.TIME_TXSTAMP_META : Fld := ⟨0x190, 0, 0, 32⟩
def F.TIME_TXSTAMP_FILL : Fld := ⟨0x19C, 0, 0, 32⟩
def F.TIME_CMP_CFG_ARM : Fld := ⟨0x400, 0x20, 31, 1⟩
def F.TIME_CMP_CFG_PERIODIC : Fld := ⟨0x400, 0x20, 30, 1⟩
def F.TIME_CMP_CFG_ACTIONS : Fld := ⟨0x400, 0x20, 20, 5⟩
def F.TIME_CMP_CFG_EVENT_SLICE : Fld := ⟨0x400, 0x20, 0, 3⟩
def F.TIME_CMP_CFG : Fld := ⟨0x400, 0x20, 0, 32⟩
def F.TIME_CMP_NS_NS : Fld := ⟨0x404, 0x20, 0, 30⟩
def F.TIME_CMP_SEC_LO : Fld := ⟨0x408, 0x20, 0, 32⟩
def F.TIME_CMP_SEC_HI : Fld := ⟨0x40C, 0x20, 0, 32⟩
def F.TIME_CMP_PERIOD_LO : Fld := ⟨0x410, 0x20, 0, 32⟩
def F.TIME_CMP_PERIOD_HI_VALUE : Fld := ⟨0x414, 0x20, 0, 16⟩
def F.TIME_CMP_STATUS_FIRED : Fld := ⟨0x418, 0x20, 31, 1⟩
def F.TIME_CMP_STATUS_STEPPED : Fld := ⟨0x418, 0x20, 30, 1⟩
def F.TIME_CMP_STATUS_MISSED : Fld := ⟨0x418, 0x20, 0, 16⟩
def F.TIME_STEPS : Fld := ⟨0x1C0, 0, 0, 32⟩
def F.TIME_OFFSETS : Fld := ⟨0x1C8, 0, 0, 32⟩
def F.TIME_TXSTAMP_LOST : Fld := ⟨0x1D0, 0, 0, 32⟩
def F.TIME_HOLDOVERS : Fld := ⟨0x1D8, 0, 0, 32⟩
def F.TIME_PORT_PTP_CFG_MODE : Fld := ⟨0x800, 0, 30, 2⟩
def F.TIME_PORT_PTP_CFG_L2 : Fld := ⟨0x800, 0, 29, 1⟩
def F.TIME_PORT_PTP_CFG_UDP4 : Fld := ⟨0x800, 0, 28, 1⟩
def F.TIME_PORT_PTP_CFG_UDP6 : Fld := ⟨0x800, 0, 27, 1⟩
def F.TIME_PORT_PTP_CFG_PUNT_QUEUE : Fld := ⟨0x800, 0, 21, 6⟩
def F.TIME_PORT_RX_ADJ : Fld := ⟨0x804, 0, 0, 32⟩
def F.TIME_PORT_TX_ADJ : Fld := ⟨0x808, 0, 0, 32⟩
def F.TIME_PORT_PDELAY : Fld := ⟨0x80C, 0, 0, 32⟩
def F.TIME_PORT_CAL_DONE : Fld := ⟨0x810, 0, 31, 1⟩
def F.TIME_PORT_PTP_EVENTS : Fld := ⟨0x840, 0, 0, 32⟩
def F.TIME_PORT_PTP_CORRECTED : Fld := ⟨0x848, 0, 0, 32⟩
def F.TEL_DROP : Fld := ⟨0x908, 8, 0, 32⟩
def F.TEL_HIST : Fld := ⟨0x2000, 8, 0, 32⟩
def F.TEL_QUEUE_ENERGY : Fld := ⟨0xA00, 8, 0, 32⟩
def F.TEL_QUEUE_PEAK_DEPTH_DEPTH : Fld := ⟨0xA80, 8, 0, 21⟩
def F.TEL_QUEUE_PEAK_DELAY : Fld := ⟨0xA84, 8, 0, 32⟩
def F.TEL_CTRL_POSTCARD_EN : Fld := ⟨0x100, 0, 31, 1⟩
def F.TEL_CTRL_IOAM_EN : Fld := ⟨0x100, 0, 30, 1⟩
def F.TEL_CTRL_HOST_QUEUE : Fld := ⟨0x100, 0, 0, 6⟩
def F.TEL_HIST_CFG_SHIFT : Fld := ⟨0x108, 0, 0, 4⟩
def F.TEL_SEL_A_EN : Fld := ⟨0x140, 8, 31, 1⟩
def F.TEL_SEL_A_DEST : Fld := ⟨0x140, 8, 28, 3⟩
def F.TEL_SEL_A_DROP_MODE : Fld := ⟨0x140, 8, 26, 2⟩
def F.TEL_SEL_A_REASON : Fld := ⟨0x140, 8, 20, 6⟩
def F.TEL_SEL_A_SAMPLE : Fld := ⟨0x140, 8, 16, 4⟩
def F.TEL_SEL_A_TENANT_EN : Fld := ⟨0x140, 8, 15, 1⟩
def F.TEL_SEL_A_TENANT : Fld := ⟨0x140, 8, 0, 14⟩
def F.TEL_SEL_A : Fld := ⟨0x140, 8, 0, 32⟩
def F.TEL_SEL_B_PORT : Fld := ⟨0x144, 8, 22, 10⟩
def F.TEL_SEL_B_PORT_EN : Fld := ⟨0x144, 8, 21, 1⟩
def F.TEL_SEL_B_PORT_DIR : Fld := ⟨0x144, 8, 20, 1⟩
def F.TEL_SEL_B_RES_MIN_NS : Fld := ⟨0x144, 8, 0, 20⟩
def F.TEL_COLL_CFG_EN : Fld := ⟨0x200, 0x10, 31, 1⟩
def F.TEL_COLL_CFG_NOTICE : Fld := ⟨0x200, 0x10, 30, 1⟩
def F.TEL_COLL_CFG_IPV6 : Fld := ⟨0x200, 0x10, 29, 1⟩
def F.TEL_COLL_CFG_PORT : Fld := ⟨0x200, 0x10, 19, 10⟩
def F.TEL_COLL_CFG_QUEUE : Fld := ⟨0x200, 0x10, 15, 4⟩
def F.TEL_COLL_CFG_L3_OFF : Fld := ⟨0x200, 0x10, 8, 7⟩
def F.TEL_COLL_CFG_TEMPLATE_LEN : Fld := ⟨0x200, 0x10, 0, 8⟩
def F.TEL_COLL_CFG : Fld := ⟨0x200, 0x10, 0, 32⟩
def F.TEL_COLL_LIMIT_MAX_RECORDS : Fld := ⟨0x204, 0x10, 0, 5⟩
def F.TEL_COLL_SEQ : Fld := ⟨0x208, 0x10, 0, 32⟩
def F.TEL_COLL_TEMPLATE : Fld := ⟨0x400, 4, 0, 32⟩
def F.TEL_IOAM_NODE_ID : Fld := ⟨0x120, 0, 0, 24⟩
def F.TEL_IOAM_NODE_HI : Fld := ⟨0x124, 0, 0, 32⟩
def F.TEL_IOAM_NS_EN : Fld := ⟨0x300, 0x40, 31, 1⟩
def F.TEL_IOAM_NS_POT_EN : Fld := ⟨0x300, 0x40, 30, 1⟩
def F.TEL_IOAM_NS_NAMESPACE_ID : Fld := ⟨0x300, 0x40, 0, 16⟩
def F.TEL_RECORDS : Fld := ⟨0x1C0, 0, 0, 32⟩
def F.TEL_POSTCARDS : Fld := ⟨0x1C8, 0, 0, 32⟩
def F.TEL_POSTCARD_LOST : Fld := ⟨0x1D0, 0, 0, 32⟩
def F.TEL_STREAM_FRAMES : Fld := ⟨0x1D8, 0, 0, 32⟩
def F.TEL_IOAM_UPDATED : Fld := ⟨0x1E0, 0, 0, 32⟩
def F.TEL_IOAM_OVERFLOW : Fld := ⟨0x1E8, 0, 0, 32⟩
def F.ACCT_CFG_EN : Fld := ⟨0x100, 0, 31, 1⟩
def F.ACCT_CFG_SETTLE_MS : Fld := ⟨0x100, 0, 0, 16⟩
def F.ACCT_CFG : Fld := ⟨0x100, 0, 0, 32⟩
def F.ACCT_STATIC_CFG_MODE : Fld := ⟨0x104, 0, 30, 2⟩
def F.ACCT_SNAP_BASE_LO : Fld := ⟨0x108, 0, 0, 32⟩
def F.ACCT_SNAP_BASE_HI : Fld := ⟨0x10C, 0, 0, 32⟩
def F.ACCT_SNAP_RING_SPACE : Fld := ⟨0x110, 0, 28, 4⟩
def F.ACCT_SNAP_RING_K : Fld := ⟨0x110, 0, 0, 4⟩
def F.ACCT_SNAP_PROD_INDEX : Fld := ⟨0x114, 0, 0, 9⟩
def F.ACCT_SNAP_CONS_INDEX : Fld := ⟨0x118, 0, 0, 9⟩
def F.ACCT_SNAP_CONS : Fld := ⟨0x118, 0, 0, 32⟩
def F.ACCT_STATUS : Fld := ⟨0x11C, 0, 0, 32⟩
def F.ACCT_LIVE_ADDR_OP : Fld := ⟨0x130, 0, 30, 2⟩
def F.ACCT_LIVE_ADDR_TENANT : Fld := ⟨0x130, 0, 0, 14⟩
def F.ACCT_LIVE_ADDR : Fld := ⟨0x130, 0, 0, 32⟩
def F.ACCT_LIVE_DATA : Fld := ⟨0x140, 4, 0, 32⟩
def F.ACCT_WT_ADDR_OP : Fld := ⟨0x178, 0, 30, 2⟩
def F.ACCT_WT_ADDR_TENANT : Fld := ⟨0x178, 0, 0, 14⟩
def F.ACCT_WT_ADDR : Fld := ⟨0x178, 0, 0, 32⟩
def F.ACCT_WT_DATA : Fld := ⟨0x17C, 0, 0, 32⟩
def F.ACCT_COEF_COEF : Fld := ⟨0x180, 4, 0, 16⟩
def F.ACCT_COEF : Fld := ⟨0x180, 4, 0, 32⟩
def F.ACCT_SNAPSHOTS : Fld := ⟨0x1C0, 0, 0, 32⟩
def F.ACCT_INTERIMS : Fld := ⟨0x1C8, 0, 0, 32⟩
def F.ACCT_MERGES : Fld := ⟨0x1D0, 0, 0, 32⟩
def F.ACCT_SETTLE_DISCARDS : Fld := ⟨0x1D8, 0, 0, 32⟩
def F.PMC_DUMP_CTRL_EN : Fld := ⟨0x100, 0, 31, 1⟩
def F.PMC_DUMP_CTRL_PORTS : Fld := ⟨0x100, 0, 30, 1⟩
def F.PMC_DUMP_CTRL_ON_SNAP : Fld := ⟨0x100, 0, 29, 1⟩
def F.PMC_DUMP_CTRL_SPACE : Fld := ⟨0x100, 0, 24, 4⟩
def F.PMC_DUMP_CTRL_K : Fld := ⟨0x100, 0, 16, 4⟩
def F.PMC_DUMP_CTRL_PERIOD_MS : Fld := ⟨0x100, 0, 0, 10⟩
def F.PMC_DUMP_CTRL : Fld := ⟨0x100, 0, 0, 32⟩
def F.PMC_DUMP_BASE_LO : Fld := ⟨0x104, 0, 0, 32⟩
def F.PMC_DUMP_BASE_HI : Fld := ⟨0x108, 0, 0, 32⟩
def F.PMC_DUMP_SIZE : Fld := ⟨0x10C, 0, 0, 32⟩
def F.PMC_DUMP_PROD_INDEX : Fld := ⟨0x110, 0, 0, 9⟩
def F.PMC_DUMP_CONS_INDEX : Fld := ⟨0x114, 0, 0, 9⟩
def F.PMC_DUMPS : Fld := ⟨0x140, 0, 0, 32⟩
def F.PMC_DUMP_SKIPPED : Fld := ⟨0x148, 0, 0, 32⟩
def F.CU_KEY_CMD_STATUS : Fld := ⟨0x100, 0, 26, 3⟩
def F.CU_KEY_CMD_SLOT : Fld := ⟨0x100, 0, 0, 12⟩
def F.CU_KEY_CMD : Fld := ⟨0x100, 0, 0, 32⟩
def F.CU_KEY_DATA_VALUE : Fld := ⟨0x110, 4, 0, 32⟩
def F.CU_KEY_DATA : Fld := ⟨0x110, 4, 0, 32⟩
def F.CU_KEY_SALT_VALUE : Fld := ⟨0x130, 4, 0, 32⟩
def F.CU_KEY_SALT : Fld := ⟨0x130, 4, 0, 32⟩
def F.CU_KEY_SSCI : Fld := ⟨0x13C, 0, 0, 32⟩
def F.CU_KEY_INFO : Fld := ⟨0x140, 0, 0, 32⟩
def F.CU_REQUESTS : Fld := ⟨0x180, 0, 0, 32⟩
def F.CU_TAG_FAILS : Fld := ⟨0x188, 0, 0, 32⟩
def F.CU_COMPARE_FAULTS : Fld := ⟨0x190, 0, 0, 32⟩
def F.CU_SUSPENSIONS : Fld := ⟨0x198, 0, 0, 32⟩
def F.MSEC_CFG_RX_EN : Fld := ⟨0x100, 4, 31, 1⟩
def F.MSEC_CFG_TX_EN : Fld := ⟨0x100, 4, 30, 1⟩
def F.MSEC_CFG_SUITE : Fld := ⟨0x100, 4, 28, 2⟩
def F.MSEC_CFG_CONF_OFFSET : Fld := ⟨0x100, 4, 26, 2⟩
def F.MSEC_CFG_TX_CONF : Fld := ⟨0x100, 4, 25, 1⟩
def F.MSEC_CFG_TX_SCI : Fld := ⟨0x100, 4, 24, 1⟩
def F.MSEC_CFG_TX_ES : Fld := ⟨0x100, 4, 23, 1⟩
def F.MSEC_CFG_TX_SCB : Fld := ⟨0x100, 4, 22, 1⟩
def F.MSEC_CFG_AUTO_NEXT : Fld := ⟨0x100, 4, 21, 1⟩
def F.MSEC_CFG_ENCODING_AN : Fld := ⟨0x100, 4, 19, 2⟩
def F.MSEC_CFG_NEXT_AN : Fld := ⟨0x100, 4, 17, 2⟩
def F.MSEC_CFG_BYPASS_QUEUE : Fld := ⟨0x100, 4, 0, 6⟩
def F.MSEC_TX_SCI_LO : Fld := ⟨0x120, 8, 0, 32⟩
def F.MSEC_TX_SCI_HI : Fld := ⟨0x124, 8, 0, 32⟩
def F.MSEC_BYPASS_ETYPE1 : Fld := ⟨0x160, 0, 16, 16⟩
def F.MSEC_BYPASS_ETYPE0 : Fld := ⟨0x160, 0, 0, 16⟩
def F.MSEC_PN_THRESH_LO : Fld := ⟨0x164, 0, 0, 32⟩
def F.MSEC_PN_THRESH_HI : Fld := ⟨0x168, 0, 0, 32⟩
def F.MSEC_TBL_CMD_OP : Fld := ⟨0x170, 0, 30, 2⟩
def F.MSEC_TBL_CMD_KIND : Fld := ⟨0x170, 0, 27, 2⟩
def F.MSEC_TBL_CMD_PORT : Fld := ⟨0x170, 0, 24, 3⟩
def F.MSEC_TBL_CMD_ERR : Fld := ⟨0x170, 0, 23, 1⟩
def F.MSEC_TBL_CMD_SC : Fld := ⟨0x170, 0, 8, 6⟩
def F.MSEC_TBL_CMD_AN : Fld := ⟨0x170, 0, 0, 2⟩
def F.MSEC_TBL_CMD : Fld := ⟨0x170, 0, 0, 32⟩
def F.MSEC_TBL_DATA : Fld := ⟨0x174, 4, 0, 32⟩
def F.MSEC_STATUS_HOLD : Fld := ⟨0x184, 0, 0, 8⟩
def F.MSEC_IN_OK : Fld := ⟨0x400, 0x80, 0, 32⟩
def F.MSEC_IN_NO_TAG : Fld := ⟨0x408, 0x80, 0, 32⟩
def F.MSEC_IN_BAD_TAG : Fld := ⟨0x410, 0x80, 0, 32⟩
def F.MSEC_IN_NO_SCI : Fld := ⟨0x418, 0x80, 0, 32⟩
def F.MSEC_IN_NOT_USING_SA : Fld := ⟨0x420, 0x80, 0, 32⟩
def F.MSEC_IN_NOT_VALID : Fld := ⟨0x428, 0x80, 0, 32⟩
def F.MSEC_IN_LATE : Fld := ⟨0x430, 0x80, 0, 32⟩
def F.MSEC_IN_BYPASS : Fld := ⟨0x438, 0x80, 0, 32⟩
def F.MSEC_OUT_PROTECTED : Fld := ⟨0x440, 0x80, 0, 32⟩
def F.MSEC_OUT_ENCRYPTED : Fld := ⟨0x448, 0x80, 0, 32⟩
def F.MSEC_IN_OCTETS : Fld := ⟨0x450, 0x80, 0, 32⟩
def F.MSEC_OUT_OCTETS : Fld := ⟨0x458, 0x80, 0, 32⟩
def F.HIF_UCIE_STATUS_IN_SERVICE : Fld := ⟨0x100, 0, 0, 2⟩
def F.HIF_UCIE_CTRL_RETRAIN_EN : Fld := ⟨0x104, 0, 31, 1⟩
def F.HIF_IRQ_MAP_DEVICE_EN : Fld := ⟨0x108, 0, 31, 1⟩
def F.HIF_IRQ_MAP_DEVICE_VEC : Fld := ⟨0x108, 0, 16, 11⟩
def F.HIF_IRQ_MAP_DIE_EN : Fld := ⟨0x108, 0, 15, 1⟩
def F.HIF_IRQ_MAP_DIE_VEC : Fld := ⟨0x108, 0, 0, 11⟩
def F.HQ_ENABLE_RING : Fld := ⟨0x200, 4, 0, 32⟩
def F.HQ_ENABLE : Fld := ⟨0x200, 4, 0, 32⟩
def F.HQ_IDLE : Fld := ⟨0x280, 4, 0, 32⟩
def F.HQ_CQ_FULL_RING : Fld := ⟨0x300, 4, 0, 32⟩
def F.HQ_SEL_RING : Fld := ⟨0x400, 0, 0, 10⟩
def F.HQ_HBQ_MAP_BP_EN : Fld := ⟨0x500, 8, 31, 1⟩
def F.HQ_HBQ_MAP_POOL : Fld := ⟨0x500, 8, 24, 6⟩
def F.HQ_HBQ_MAP_LOG_COUNT : Fld := ⟨0x500, 8, 20, 4⟩
def F.HQ_HBQ_MAP_BASE : Fld := ⟨0x500, 8, 10, 10⟩
def F.HQ_HBQ_SCHED : Fld := ⟨0x504, 8, 0, 32⟩
def F.HQ_HBQ_MAP : Fld := ⟨0x500, 8, 0, 32⟩
def F.POOL_SEL_POOL : Fld := ⟨0x700, 0, 0, 6⟩
def F.HQ_INJECTED : Fld := ⟨0x780, 0, 0, 32⟩
def F.HQ_PUNTED : Fld := ⟨0x788, 0, 0, 32⟩
def F.HQ_POOL_EMPTY_DROPS : Fld := ⟨0x790, 0, 0, 32⟩
def F.HQ_POOL_BAD_ENTRIES : Fld := ⟨0x798, 0, 0, 32⟩
def F.HIF_UCIE_MODULE_LOSSES : Fld := ⟨0x7A0, 0, 0, 32⟩
def F.DTU_SPACE_CFG_MODE : Fld := ⟨0x100, 0x10, 30, 2⟩
def F.DTU_INV_CMD_BUSY : Fld := ⟨0x200, 0, 29, 1⟩
def F.DTU_INV_CMD : Fld := ⟨0x200, 0, 0, 32⟩
def F.DTU_INV_ADDR_LO : Fld := ⟨0x204, 0, 0, 32⟩
def F.DTU_INV_ADDR_HI : Fld := ⟨0x208, 0, 0, 32⟩
def F.DTU_INV_PAGES_PAGES : Fld := ⟨0x20C, 0, 0, 21⟩
def F.DTU_FAULT_CMD : Fld := ⟨0x210, 0, 0, 32⟩
def F.DTU_FAULT_VALID_LO_VALID : Fld := ⟨0x214, 0, 0, 32⟩
def F.DTU_FAULT_VALID_LO : Fld := ⟨0x214, 0, 0, 32⟩
def F.DTU_FAULT_VALID_HI_VALID : Fld := ⟨0x218, 0, 0, 32⟩
def F.DTU_STATUS_PENDING : Fld := ⟨0x21C, 0, 0, 16⟩
def F.DTU_FAULT_INFO_VALID : Fld := ⟨0x400, 0x10, 31, 1⟩
def F.DTU_FAULT_INFO_WRITE : Fld := ⟨0x400, 0x10, 23, 1⟩
def F.DTU_FAULT_INFO_SPACE : Fld := ⟨0x400, 0x10, 19, 4⟩
def F.DTU_FAULT_INFO_WAITERS : Fld := ⟨0x400, 0x10, 0, 16⟩
def F.DTU_FAULT_INFO : Fld := ⟨0x400, 0x10, 0, 32⟩
def F.DTU_FAULT_ADDR_LO_DVA : Fld := ⟨0x404, 0x10, 0, 32⟩
def F.DTU_FAULT_ADDR_LO : Fld := ⟨0x404, 0x10, 0, 32⟩
def F.DTU_FAULT_ADDR_HI_DVA : Fld := ⟨0x408, 0x10, 0, 32⟩
def F.DTU_FAULT_ADDR_HI : Fld := ⟨0x408, 0x10, 0, 32⟩
def F.DTU_FAULT_STREAM : Fld := ⟨0x40C, 0x10, 0, 32⟩
def F.COX_CFG_EN : Fld := ⟨0x100, 0, 31, 1⟩
def F.COX_CFG_PREDICT_EN : Fld := ⟨0x100, 0, 30, 1⟩
def F.COX_CFG_PADDLE_ON_UNMET : Fld := ⟨0x100, 0, 29, 1⟩
def F.COX_CFG_ORDER : Fld := ⟨0x100, 0, 26, 3⟩
def F.COX_CFG_MATCH : Fld := ⟨0x100, 0, 22, 4⟩
def F.COX_CFG_CONFIDENCE : Fld := ⟨0x100, 0, 16, 6⟩
def F.COX_CFG_MEM_MIN : Fld := ⟨0x100, 0, 11, 5⟩
def F.COX_CFG_ISSUE_MIN : Fld := ⟨0x100, 0, 6, 5⟩
def F.COX_CFG_PHASE_CLEAR : Fld := ⟨0x100, 0, 0, 1⟩
def F.COX_CFG : Fld := ⟨0x100, 0, 0, 32⟩
def F.COX_CAP_CAP_W : Fld := ⟨0x104, 0, 16, 11⟩
def F.COX_CAP_SPLIT_W : Fld := ⟨0x104, 0, 0, 11⟩
def F.COX_CAP : Fld := ⟨0x104, 0, 0, 32⟩
def F.COX_STATUS_UNMET : Fld := ⟨0x108, 0, 30, 1⟩
def F.COX_STATUS_BRAKE : Fld := ⟨0x108, 0, 29, 1⟩
def F.COX_STATUS_PHASE : Fld := ⟨0x108, 0, 16, 6⟩
def F.COX_STATUS_PREDICTING : Fld := ⟨0x108, 0, 15, 1⟩
def F.COX_STATUS_PREDICTED : Fld := ⟨0x108, 0, 8, 6⟩
def F.COX_STATUS : Fld := ⟨0x108, 0, 0, 32⟩
def F.COX_BUDGET_BUDGET_W : Fld := ⟨0x10C, 0, 0, 11⟩
def F.COX_ALLOC_LINKS_W : Fld := ⟨0x110, 0, 20, 10⟩
def F.COX_ALLOC_MEM_W : Fld := ⟨0x110, 0, 10, 10⟩
def F.COX_ALLOC_COMPUTE_W : Fld := ⟨0x110, 0, 0, 10⟩
def F.COX_POWER_PKG_W : Fld := ⟨0x114, 0, 16, 16⟩
def F.COX_POWER_DIE_DW : Fld := ⟨0x114, 0, 0, 16⟩
def F.COX_NOTICE_EN : Fld := ⟨0x118, 0, 31, 1⟩
def F.COX_NOTICE_IOAM : Fld := ⟨0x118, 0, 30, 1⟩
def F.COX_NOTICE_MIN_US : Fld := ⟨0x118, 0, 0, 16⟩
def F.COX_OPEN_REASONS : Fld := ⟨0x11C, 0, 0, 6⟩
def F.COX_SLICE_CFG_HOST_MAX : Fld := ⟨0x120, 4, 8, 6⟩
def F.COX_SLICE_CFG_FLOOR : Fld := ⟨0x120, 4, 0, 6⟩
def F.COX_SLICE_CFG : Fld := ⟨0x120, 4, 0, 32⟩
def F.COX_SLICE_STATUS : Fld := ⟨0x140, 4, 0, 32⟩
def F.COX_BRAKE_RATING : Fld := ⟨0x160, 0, 10, 6⟩
def F.COX_BRAKE_ISSUE : Fld := ⟨0x160, 0, 5, 5⟩
def F.COX_BRAKE_MEM : Fld := ⟨0x160, 0, 0, 5⟩
def F.COX_BRAKE : Fld := ⟨0x160, 0, 0, 32⟩
def F.COX_LOG_HEAD_HEAD : Fld := ⟨0x180, 0, 0, 7⟩
def F.COX_LOG_SEL_ENTRY : Fld := ⟨0x184, 0, 0, 6⟩
def F.COX_LOG_DATA0 : Fld := ⟨0x188, 0, 0, 32⟩
def F.COX_LOG_DATA1 : Fld := ⟨0x18C, 0, 0, 32⟩
def F.COX_LOG_DATA2 : Fld := ⟨0x190, 0, 0, 32⟩
def F.COX_LOG_DATA3 : Fld := ⟨0x194, 0, 0, 32⟩
def F.COX_LOG_DATA4 : Fld := ⟨0x198, 0, 0, 32⟩
def F.COX_PHASE_SEL_SLOT : Fld := ⟨0x1A0, 0, 0, 6⟩
def F.COX_PHASE_DATA0 : Fld := ⟨0x1A4, 0, 0, 32⟩
def F.COX_PHASE_SIG : Fld := ⟨0x1A8, 0, 0, 32⟩
def F.COX_PHASE_POWER : Fld := ⟨0x1AC, 0, 0, 32⟩
def F.COX_CAL_CTRL_START : Fld := ⟨0x1C0, 0, 31, 1⟩
def F.COX_CAL_CTRL_BUSY : Fld := ⟨0x1C0, 0, 30, 1⟩
def F.COX_CAL_CTRL_EPOCHS : Fld := ⟨0x1C0, 0, 0, 20⟩
def F.COX_CAL_CTRL : Fld := ⟨0x1C0, 0, 0, 32⟩
def F.COX_CAL_EVENT : Fld := ⟨0x200, 8, 0, 32⟩
def F.COX_CAL_ENERGY : Fld := ⟨0x260, 0, 0, 32⟩
def F.COX_THROTTLE_NS : Fld := ⟨0x300, 8, 0, 32⟩
def F.COX_EPISODES : Fld := ⟨0x330, 0, 0, 32⟩
def F.COX_DROOP_EVENTS : Fld := ⟨0x338, 0, 0, 32⟩
def F.COX_DROOP_STRETCH_NS : Fld := ⟨0x340, 0, 0, 32⟩
def F.COX_UNMET_EPOCHS : Fld := ⟨0x348, 0, 0, 32⟩
def F.COX_NOTICES_SENT : Fld := ⟨0x350, 0, 0, 32⟩
def F.COX_NOTICES_SUPPRESSED : Fld := ⟨0x358, 0, 0, 32⟩
def F.COX_LOG_LOST : Fld := ⟨0x360, 0, 0, 32⟩
def F.AON_SLEEP_CFG_HOLD_AWAKE : Fld := ⟨0x100, 0, 8, 8⟩
def F.AON_SLEEP_CFG_AUTO_SLEEP : Fld := ⟨0x100, 0, 0, 8⟩
def F.AON_SLEEP_CFG : Fld := ⟨0x100, 0, 0, 32⟩
def F.AON_WAKE_MASK_SLICES : Fld := ⟨0x104, 0, 0, 8⟩
def F.AON_SLICE_STATE_STATE : Fld := ⟨0x108, 0, 0, 16⟩
def F.AON_PSTATE : Fld := ⟨0x10C, 0, 0, 32⟩
def F.AON_TEMP_READING : Fld := ⟨0x110, 0, 0, 16⟩
def F.AON_TEMP_CFG_TRIP_C : Fld := ⟨0x114, 0, 16, 8⟩
def F.AON_TEMP_CFG_WARN_C : Fld := ⟨0x114, 0, 8, 8⟩
def F.AON_TEMP_CFG_RELEASE_C : Fld := ⟨0x114, 0, 0, 8⟩
def F.AON_DROOP_CFG_THRESH_MV : Fld := ⟨0x118, 0, 26, 6⟩
def F.AON_DROOP_CFG_RELEASE_MV : Fld := ⟨0x118, 0, 20, 6⟩
def F.AON_DROOP_CFG_RATE : Fld := ⟨0x118, 0, 0, 8⟩
def F.AON_VCORE_SETPOINT_MV : Fld := ⟨0x11C, 0, 16, 16⟩
def F.AON_VCORE_MEASURED_MV : Fld := ⟨0x11C, 0, 0, 16⟩
def F.AON_WEAR_DEGRADE_BANK : Fld := ⟨0x200, 0, 16, 4⟩
def F.AON_WEAR_DEGRADE_WORST : Fld := ⟨0x200, 0, 0, 16⟩
def F.AON_WEAR_TRIM_TRIM_MV : Fld := ⟨0x204, 0, 0, 8⟩
def F.AON_WEAR_LIFE_CONSUMED : Fld := ⟨0x208, 0, 0, 16⟩
def F.AON_WEAR_HOURS : Fld := ⟨0x210, 4, 0, 32⟩
def F.AON_WEAR_CTRL_LOADED : Fld := ⟨0x230, 0, 31, 1⟩
def F.AON_WEAR_CTRL : Fld := ⟨0x230, 0, 0, 32⟩
def F.PORT_FCS_CFG_CARRY_EN : Fld := ⟨0xC00, 0, 31, 1⟩
def F.PORT_CARRY_FRAMES : Fld := ⟨0xC40, 0, 0, 32⟩
def F.PORT_CARRY_MISMATCH : Fld := ⟨0xC48, 0, 0, 32⟩
def F.PORT_PADDLE_CFG_FLOOD_EN : Fld := ⟨0xC08, 0, 31, 1⟩
def F.PORT_PADDLE_CFG_FLOOD_NH : Fld := ⟨0xC08, 0, 14, 16⟩
def F.PORT_PADDLE_CFG_BD_VRF : Fld := ⟨0xC08, 0, 0, 14⟩
def F.DIE_WATCHDOG_EN : Fld := ⟨0xC80, 0, 31, 1⟩
def F.DIE_WATCHDOG_KICK : Fld := ⟨0xC80, 0, 30, 1⟩
def F.DIE_WATCHDOG_EXPIRED : Fld := ⟨0xC80, 0, 29, 1⟩
def F.DIE_WATCHDOG_ALERT : Fld := ⟨0xC80, 0, 28, 1⟩
def F.DIE_WATCHDOG : Fld := ⟨0xC80, 0, 0, 32⟩
def F.SLICE_PADDLE_CTRL_ENTER : Fld := ⟨0xA40, 0, 31, 1⟩
def F.SLICE_PADDLE_CTRL_EXIT : Fld := ⟨0xA40, 0, 30, 1⟩
def F.SLICE_PADDLE_CTRL : Fld := ⟨0xA40, 0, 0, 32⟩
def F.SLICE_PADDLE_STATUS_ACTIVE : Fld := ⟨0xA44, 0, 31, 1⟩
def F.SLICE_PADDLE_STATUS_LAST_ERR : Fld := ⟨0xA44, 0, 16, 2⟩
def F.SLICE_PADDLE_STATUS_CAUSE : Fld := ⟨0xA44, 0, 0, 5⟩
def F.SLICE_PADDLE_STATUS : Fld := ⟨0xA44, 0, 0, 32⟩
def F.SLICE_PADDLE_RMAC_LO_MAC : Fld := ⟨0xA48, 0, 0, 32⟩
def F.SLICE_PADDLE_RMAC_HI_EN : Fld := ⟨0xA4C, 0, 31, 1⟩
def F.SLICE_PADDLE_RMAC_HI_MAC : Fld := ⟨0xA4C, 0, 0, 16⟩
def F.OTP_CMD_BUSY : Fld := ⟨0x100, 0, 28, 1⟩
def F.OTP_CMD_STATUS : Fld := ⟨0x100, 0, 25, 3⟩
def F.OTP_CMD_ADDR : Fld := ⟨0x100, 0, 0, 14⟩
def F.OTP_CMD : Fld := ⟨0x100, 0, 0, 32⟩
def F.OTP_WDATA : Fld := ⟨0x104, 0, 0, 32⟩
def F.OTP_RDATA : Fld := ⟨0x108, 0, 0, 32⟩
def F.OTP_STATUS_ROOT_LOCKED : Fld := ⟨0x10C, 0, 31, 1⟩
def F.OTP_STATUS_I3C_VALID : Fld := ⟨0x10C, 0, 30, 1⟩
def F.OTP_STATUS_SVN : Fld := ⟨0x10C, 0, 0, 7⟩
def F.OTP_BT_STATUS_DEFAULT : Fld := ⟨0x110, 0, 31, 1⟩
def F.OTP_BT_STATUS_FALLBACK : Fld := ⟨0x110, 0, 30, 1⟩
def F.OTP_BT_STATUS_SELECTED : Fld := ⟨0x110, 0, 8, 2⟩
def F.OTP_BT_STATUS_STATE : Fld := ⟨0x110, 0, 0, 8⟩
def F.OTP_ECC_COUNTS_UNCORR : Fld := ⟨0x114, 0, 16, 16⟩
def F.OTP_ECC_COUNTS_CORRECTED : Fld := ⟨0x114, 0, 0, 16⟩
def F.DIE_IMG_CTRL : Fld := ⟨0xD00, 0, 0, 32⟩
def F.DIE_IMG_STATUS_BUSY : Fld := ⟨0xD04, 0, 31, 1⟩
def F.DIE_IMG_STATUS_UNROOTED : Fld := ⟨0xD04, 0, 30, 1⟩
def F.DIE_IMG_STATUS_RESULT : Fld := ⟨0xD04, 0, 0, 4⟩
def F.DIE_IMG_COUNT : Fld := ⟨0xD08, 0, 0, 32⟩
def F.DIE_IMG_VERSION : Fld := ⟨0xD0C, 0, 0, 32⟩
def F.DIE_IMG_DATA : Fld := ⟨0x4000, 4, 0, 32⟩
def F.TEL_IOAM_DATA : Fld := ⟨0x304, 0x40, 0, 32⟩
def F.TEL_IOAM_POT_SHARE_LO : Fld := ⟨0x310, 0x40, 0, 32⟩
def F.TEL_IOAM_POT_SHARE_HI : Fld := ⟨0x314, 0x40, 0, 32⟩
def F.TEL_IOAM_POT_LPC_LO : Fld := ⟨0x318, 0x40, 0, 32⟩
def F.TEL_IOAM_POT_LPC_HI : Fld := ⟨0x31C, 0x40, 0, 32⟩
def F.TEL_IOAM_POT_PRIME_LO : Fld := ⟨0x320, 0x40, 0, 32⟩
def F.TEL_IOAM_POT_PRIME_HI : Fld := ⟨0x324, 0x40, 0, 32⟩

end Sys2Proof.Machine
end

