-- ==== Sys2Proof/Machine/Sparse.lean ====
section
/-!
DEFINITION. Sparse storage in one canonical form: a list of (key, value) pairs whose keys strictly rise and that lists
no value equal to what an unlisted key reads as. Registers, tables, ports, frames and every other numbered thing of
the block are held this way, so that equal contents are equal data.
-/
namespace Sys2Proof.Machine

/-- Values by number; an unlisted number reads as the default that each use names. -/
abbrev Sparse (α : Type) := List (Nat × α)

/-- The value at `k`, or `d` when `k` is not listed. -/
def Sparse.get {α : Type} (m : Sparse α) (d : α) (k : Nat) : α :=
  match m with
  | [] => d
  | (k', v) :: r => if k' = k then v else Sparse.get r d k

/-- `m` without `k`. -/
def Sparse.erase {α : Type} (m : Sparse α) (k : Nat) : Sparse α :=
  match m with
  | [] => []
  | (k', v) :: r => if k' = k then Sparse.erase r k else (k', v) :: Sparse.erase r k

/-- `m` with an entry added in front of the first greater key. -/
def Sparse.insert {α : Type} (m : Sparse α) (k : Nat) (v : α) : Sparse α :=
  match m with
  | [] => [(k, v)]
  | (k', v') :: r => if k < k' then (k, v) :: (k', v') :: r else (k', v') :: Sparse.insert r k v

/-- `m` with `k` holding `v`; a value equal to the default `d` is not listed. -/
def Sparse.set {α : Type} [DecidableEq α] (m : Sparse α) (d : α) (k : Nat) (v : α) : Sparse α :=
  if v = d then m.erase k else (m.erase k).insert k v

/-- `m` with `k` passed through `f`. -/
def Sparse.upd {α : Type} [DecidableEq α] (m : Sparse α) (d : α) (k : Nat) (f : α → α) : Sparse α :=
  m.set d k (f (m.get d k))

/-- Every key is above `lo`, keys rise strictly and no entry equals its default. -/
def Sparse.wfFrom {α : Type} [DecidableEq α] (d : Nat → α) : Option Nat → Sparse α → Bool
  | _, [] => true
  | none, (k, v) :: r => decide (v ≠ d k) && Sparse.wfFrom d (some k) r
  | some lo, (k, v) :: r => decide (lo < k) && decide (v ≠ d k) && Sparse.wfFrom d (some k) r

/-- The canonical form. -/
def Sparse.wf {α : Type} [DecidableEq α] (d : Nat → α) (m : Sparse α) : Bool := Sparse.wfFrom d none m

end Sys2Proof.Machine
end

