-- ==== Sys2Proof/Machine/State.lean ====
section
/-!
DEFINITION. The state of the block as plain data: registers, counters, tables, buffers, engines, time units and the
queue of waiting commands; the faults and refusals; and the state right after power is applied (step 1 of R490).
-/
namespace Sys2Proof.Machine

/-- Reasons a step stops with a fault. -/
inductive Fault where
  /-- Raised by no meaning: every command completes, one that WellFormed refuses too. The name under which a command that
  describes nothing that can happen would stop. Safe: nothing rests on it. -/
  | illFormed (mnemonic : String)
  deriving DecidableEq, Repr

/-- Reasons a command is refused. -/
inductive Refusal where
  /-- Raised by no arm of exec: every row of the table has its meaning. Safe: nothing is claimed of a refused command. -/
  | notModelled (mnemonic : String)
  deriving DecidableEq, Repr

/-- What leaves the block: the model's own log, newest first, of what an observer at its contacts and at host memory
sees (a log entry of notes/assumptions names it). -/
inductive Output where
  /-- a frame has left on a port, with the FCS it was sent with -/
  | tx (port : Nat) (frame : List Byte) (fcs : Word)
  /-- a verify (false) or response (true) frame of MAC Merge (R276) -/
  | merge (port : Nat) (response : Bool) (frame : List Byte)
  /-- bytes written to host memory by a function's DMA, at a host physical address -/
  | hostWrite (fn : Nat) (addr : Nat) (bytes : List Byte)
  /-- an MSI-X message -/
  | msix (fn : Nat) (addr : DWord) (data : Word)
  /-- the answer to a register read -/
  | readData (src : Source) (page : Nat) (off : Nat) (val : Word)
  /-- words the I3C target returns -/
  | i3c (words : List Nat)
  /-- answer to a coefficient request: 0 updated, 1 minimum, 2 maximum (R83) -/
  | coef (lane : Nat) (status : Nat)
  /-- a lane runs a training protocol: Clause 72, 136, 162, or 0 for the IEEE 802.3dj protocol (R88) -/
  | training (lane clause : Nat)
  /-- the DME pages of a lane: its Technology Ability and FEC bits (R85, R87) -/
  | anPage (lane ability fec : Nat)
  /-- bits that a silicon lane sends at its contacts (R80, R81, R90) -/
  | line (lane : Nat) (bits : List Bool)
  /-- a level driven on a contact: ALERT_N 0, THERM_TRIP_N 1, PPS_OUT 2 + die -/
  | pin (which : Nat) (level : Bool)
  /-- a cell sent on a sub-link: sending die, sub-link, type, sequence number, tag or message number, body -/
  | keelCell (die sub type seq tag : Nat) (body : List Byte)
  /-- a setpoint in mV that a die sends its core regulator (R519) -/
  | avs (die mv : Nat)
  /-- a shadow frame sent on the always-on link (R69) -/
  | shadow (part : Nat)
  deriving DecidableEq, Repr

/-- A page lock (R56). -/
structure Lock where
  src : Source
  token : BitVec 16
  deriving DecidableEq, Repr

/-- Supplies, clocks and control contacts (R490-R492, R440, R441, R522, R523). -/
structure Pins where
  vaon : Bool := true
  aonClk : Bool := true
  pwrgood : Bool := false
  resetN : Bool := false
  brakeN : Bool := true
  tripped : Bool := false
  /-- slices whose lane reference clock is out (R523) -/
  refclkLost : List Nat := []
  /-- dynamic I3C address, page index and offset last written (R72, R73) -/
  i3cAddr : Option (BitVec 7) := none
  i3cPage : PageIdx := 0
  i3cOff : BitVec 16 := 0
  deriving DecidableEq, Repr

/-- An OTP command in progress (R497-R499). -/
inductive OtpBusy where
  | program (addr : Nat) (data : Word)
  | svnInc (bit : Nat)
  deriving DecidableEq, Repr

/-- The OTP array and its command engine (R494-R499). -/
structure Otp where
  words : Sparse Word := []
  /-- words that the last shadow copy found uncorrectable -/
  bad : List Nat := []
  busy : Option OtpBusy := none
  /-- a RESET_N that waits for the command to end (R499) -/
  resetPending : Bool := false
  deriving DecidableEq, Repr

/-- A record being received by the image loader (R507): its section's kind and slice mask, its target, address and count, the
data words received, and whether one of them is held. -/
structure ImgRec where
  kind : Nat
  mask : Nat
  target : Nat
  addr : Nat
  count : Nat
  seen : Nat := 0
  held : Bool := false
  deriving DecidableEq, Repr

/-- A section of an image (R506). -/
structure ImgSection where
  kind : Nat
  mask : Nat
  off : Nat
  len : Nat
  deriving DecidableEq, Repr

/-- A register write held for after verification (R508). -/
structure ImgHeld where
  kind : Nat
  mask : Nat
  addr : Nat
  word : Word
  deriving DecidableEq, Repr

/-- The image loader of a die (R506-R511). -/
structure Loader where
  /-- who wrote START -/
  src : Source := .f0
  /-- words received, newest first -/
  words : List Word := []
  /-- bytes that the image takes, once the header is known -/
  limit : Option Nat := none
  tableOk : Bool := false
  sections : List ImgSection := []
  /-- the first word of a record's head -/
  low : Option Word := none
  cur : Option ImgRec := none
  /-- oldest first, and the bytes of the buffer that they take -/
  held : List ImgHeld := []
  heldBytes : Nat := 0
  /-- slices whose control store this load wrote -/
  csWritten : List Nat := []
  deriving DecidableEq, Repr

/-- The OTP contents a die works from (R15, R495, R500). -/
structure Shadow where
  /-- the board-table entries of the die's lanes by lane, while a generation is selected -/
  board : Sparse (BitVec 48) := []
  /-- the die's share of the TRIMS words, those found uncorrectable left out (R496), and of the FUSE_MAP words, with the
  addresses of those found uncorrectable -/
  trims : Sparse Word := []
  fuses : Sparse Word := []
  fuseBad : List Nat := []
  /-- the static I3C address -/
  i3c : Option (BitVec 7) := none
  rootHash : List Word := []
  rootBad : Bool := false
  rootLocked : Bool := false
  svn : Nat := 0
  /-- selected board-table generation -/
  gen : Option Nat := none
  deriving DecidableEq, Repr

/-- What a die holds beside its registers for start-up (R15, R69, R491, R506). -/
structure DieBoot where
  /-- held as if in reset (R69, R491) -/
  held : Bool := false
  /-- the roll call is complete, and the whole shadow has arrived (R67, R68); RING_ROLL_STATUS shows both until a unit
  reset of the ring's page clears it -/
  rolled : Bool := false
  shadowDone : Bool := false
  shadow : Shadow := {}
  loader : Loader := {}
  deriving DecidableEq, Repr

/-- A lane beside its registers: the receive conditions of R97 present on it, and the run of uncorrectable codewords that its
FEC lane has delivered last. -/
structure LaneSt where
  causes : List LinkCause := []
  run : Nat := 0
  deriving DecidableEq, Repr

/-- The link side of a port beside its registers (R94-R99). -/
structure LinkSt where
  /-- PORT_CFG as sampled at the last exit from DISABLED -/
  cfg : Word := 1
  /-- the break-link wait of Clause 73 is running -/
  breakLink : Bool := false
  /-- the tables hold this port as UP, in the copies of its own die and in those of the other die: members that name it are
  not pruned for its link (R98, R99, R159) -/
  eligible : Bool := false
  eligibleFar : Bool := false
  /-- the PCS or FEC lane that each silicon lane of the port receives, as the alignment markers name it (R81) -/
  order : List Nat := []
  /-- uncorrectable codewords in the present 1 ms window, and the window's number (R101) -/
  fecWindow : Nat := 0
  fecCount : Nat := 0
  /-- the scrambler: the last 58 bits it has sent (R90); none until the port first trains -/
  scrambler : Option (BitVec 58) := none
  deriving DecidableEq, Repr


/-- The flag a parse can raise (R108, R109, R111). -/
inductive ParseFlag where
  | depth | len
  deriving DecidableEq, Repr

/-- A TCAM row: 480 value and mask bits, and in the first block of a group the pre-filter, priority and validity
(R132-R135). -/
structure TcamRow where
  value : BitVec 480 := 0
  mask : BitVec 480 := 0
  /-- PF_MASK, PF_VALUE and PRIORITY, laid out as TBL_TCAM_META -/
  pf : Word := 0
  valid : Bool := false
  deriving DecidableEq, Repr

/-- The tables of one slice copy (R103, R115, R132, R143, R151, R155, R158). -/
structure SliceTab where
  node : Sparse (BitVec 128) := []
  trans : Sparse (BitVec 64) := []
  /-- tenant map: way × 32,768 + bucket × 4 + slot, laid out as in R165 -/
  tmap : Sparse (BitVec 128) := []
  /-- TCAM rows by 1,024 × block + row; the paddle guard bank from 16,384 on (R139) -/
  tcam : Sparse TcamRow := []
  /-- bits in which the cells of a row differ from its copy, which `tcam` holds (R135, R136) -/
  upset : Sparse TcamRow := []
  em : Sparse (BitVec 128) := []
  /-- prefixes by length × 2^128 + prefix bits, with the result of TBL_LPM_RESULT -/
  lpm4 : Sparse (Option (BitVec 18)) := []
  lpm6 : Sparse (Option (BitVec 18)) := []
  nexthop : Sparse (BitVec 128) := []
  group : Sparse (BitVec 64) := []
  member : Sparse (BitVec 32) := []
  /-- action words by 4,096 × stage + word -/
  action : Sparse (BitVec 128) := []
  tcamAct : Sparse (BitVec 128) := []
  /-- flow counters: packets in bits [63:0], bytes in bits [127:64] -/
  flow : Sparse (BitVec 128) := []
  /-- entries whose stored parity fails, by table ID of TBL_PARITY_LAST and index (R163) -/
  bad : List (Nat × Nat) := []
  /-- failed entries that wait for repair, oldest first (R164) -/
  repairs : List (Nat × Nat) := []
  /-- members written since their port last left UP: their PRUNED_LINK follows the port (R159) -/
  fresh : List Nat := []
  /-- exact-match keys hit since the last ageing scan (R172) -/
  hits : List Nat := []
  deriving DecidableEq, Repr

/-- A host access of a QDR channel in progress (R131): the node, and the data of a WRITE. -/
structure QdrAccess where
  node : Nat
  data : Option (BitVec 256)
  deriving DecidableEq, Repr

/-- A classifier decision (R118, R120): ACTION, the new traffic class if any, RULE_ID, and how it was reached. -/
structure Dec where
  action : Nat := 0
  tc : Option Nat := none
  rule : Nat := 0
  fallback : Bool := false
  miss : Bool := false
  deriving DecidableEq, Repr

/-- A decision-cache entry (R118). -/
structure CacheEnt where
  key : Nat
  tree : Nat
  gen : Nat
  dec : Dec
  deriving DecidableEq, Repr

/-- A frame in the pre-classifier FIFO (R122): its key and tree, the bank its own walk was issued on (none while it waits
for a swap), and the earlier frame whose decision it takes. -/
structure Waiter where
  uid : Nat
  key : Nat
  tree : Nat
  cells : Nat
  bank : Option Nat := none
  leader : Option Nat := none
  deriving DecidableEq, Repr

/-- The classifier of a die beside its registers (R117-R128). -/
structure ClsSt where
  /-- tenant-tree map: EN and TREE as in CLS_TT_DATA -/
  tt : Sparse (BitVec 9) := []
  /-- most recently used first -/
  cache : List CacheEnt := []
  /-- bank generation of each tree -/
  gens : Sparse Nat := []
  /-- time at which the swap in progress was accepted, by tree, in ns -/
  swaps : Sparse (Option Nat) := []
  /-- QDR channels of the die whose WRITE in progress was accepted before the swap of a tree (R125) -/
  swapWrites : Sparse (List Nat) := []
  /-- oldest first -/
  fifo : List Waiter := []
  deriving DecidableEq, Repr


/-- What a frame of the model is (R333): received, injected by host software, a stream frame or notice that the device
builds, a postcard or a notification for the host. -/
inductive FrmKind where
  | rx | injected | stream | postcard | notify
  deriving DecidableEq, Repr

/-- Where a frame goes once the ingress die has decided it: a port, a host-bound queue of the die, or a multicast group. -/
inductive Target where
  | port (p : Nat)
  | host (q : Nat)
  | mcast (g : Nat)
  deriving DecidableEq, Repr

/-- The verdict of inline MACsec on a received frame (R367, R368): what NEXT_PN rule it meets at its last byte. -/
inductive Verdict where
  | none | waiting | passed
  deriving DecidableEq, Repr

/-- A learn event (R168). -/
structure LearnEvent where
  bd : Nat
  mac : Nat
  port : Nat
  stamp : DWord
  tenant : Nat
  deriving DecidableEq, Repr

/-- One copy of a frame in a queue (R225, R229, R237, R242). -/
structure Copy where
  uid : Nat
  /-- the part whose cells the copy refers to: the number of the frame as it was admitted -/
  part : Nat := 0
  /-- egress port and queue, or host-bound queue -/
  port : Option Nat := none
  queue : Nat := 0
  host : Option Nat := none
  depth : Option Nat := none
  enq : DWord := 0
  ecn : Bool := false
  cut : Bool := false
  mcast : Bool := false
  eligible : Bool := false
  /-- cells charged to the queue's reserve, to the shared pool and to headroom (R225) -/
  res : Nat := 0
  shared : Nat := 0
  hdrm : Nat := 0
  /-- admitted as HEADROOM -/
  head : Bool := false
  /-- class in which the copy counts in I and H of its ingress port, if it is lossless there -/
  lossless : Option Nat := none
  /-- cells written so far, and cells in all -/
  written : Nat := 0
  cells : Nat := 0
  /-- logical bank of each cell written, first cell first (R220, R221) -/
  banks : List Nat := []
  /-- PATH flags of the egress pass -/
  path : Nat := 0
  /-- reason known when the copy began to leave: its FCS is inverted (R248, R265) -/
  spoiled : Option Nat := none
  /-- event energy of the egress pass in 0.01 pJ (R336) -/
  energy : Nat := 0
  deriving DecidableEq, Repr

/-- A recognised message: offset of the PTP header, and of the UDP header when it is carried on UDP. -/
structure PtpMsg where
  off : Nat
  udp : Option Nat
  deriving DecidableEq, Repr

/-- A frame inside the device, with its bound results (R29, R221). -/
structure Frm where
  kind : FrmKind := .rx
  /-- ingress port seat -/
  port : Nat := 0
  /-- ingress die, and the die whose settling count holds the frame (R350) -/
  die : Nat := 0
  holder : Nat := 0
  /-- bytes before the FCS, SecTAG and ICV removed -/
  bytes : List Byte := []
  fcs : Word := 0
  /-- drop reason of R100 or of a MACsec reject, 0 for none -/
  rxDrop : Nat := 0
  /-- changed since it was received, so that its FCS is regenerated (R462) -/
  modified : Bool := false
  /-- frame size of R6 as received, without SecTAG and ICV (R369) -/
  size : Nat := 0
  stamp : DWord := 0
  lastByte : Bool := false
  macsec : Bool := false
  verdict : Verdict := .none
  /-- a PTP message for PUNT_QUEUE of its port (R320), or a MACsec bypass frame (R366): queue and SOURCE -/
  divert : Option (Nat × Nat) := none
  /-- residence is added to correctionField at egress (R320): the PTP message, whether Pdelay is added -/
  ptp : Option (PtpMsg × Bool) := none
  known : Bool := false
  tenant : Nat := 0
  hdrs : List (Nat × Nat) := []
  flag : Option ParseFlag := none
  tc : Nat := 0
  user : Nat := 0
  bdvrf : Nat := 0
  /-- DEST_KIND and DEST (R143) -/
  dest : Option (Nat × Nat) := none
  dtenSet : Option Nat := none
  destTenant : Nat := 0
  deny : Bool := false
  learnDrop : Bool := false
  parity : Bool := false
  /-- host-bound queue asked for by an action word, and its SOURCE -/
  punt : Option Nat := none
  /-- PUNT_QUEUE as a routine last wrote it with PUNT = 0 (R188) -/
  puntIdle : Nat := 0
  last : Bool := false
  /-- EXT_ENTRY of the first extended action of the pass (R145) -/
  ext : Option Nat := none
  extRan : Bool := false
  restarts : Nat := 0
  /-- restarts in the present pass -/
  tries : Nat := 0
  /-- policers that meter the frame, in order, and whether one found it red (R264, R265) -/
  police : List Nat := []
  red : Bool := false
  /-- the next hop that resolution passed (R541) -/
  nexthop : Option (BitVec 128) := none
  ruleId : Nat := 0
  /-- PATH flags gathered so far (R335) -/
  path : Nat := 0
  hash : Word := 0
  /-- event energy in 0.01 pJ that the record carries (R336, R357) -/
  energy : Nat := 0
  /-- the record is of the host copy of PERMIT_COPY (R120) -/
  copy : Bool := false
  source : Nat := 0
  target : Option Target := none
  /-- copies or parts not yet complete -/
  refs : Nat := 1
  /-- injection: queue, CAPTURE, ONE_STEP (R410) -/
  queue : Nat := 0
  capture : Bool := false
  oneStep : Bool := false
  /-- records carried by a stream frame, and its collector -/
  carries : Nat := 0
  /-- cells reported lost by the keel (R250) -/
  lost : Bool := false
  /-- a cell was written with its ECC made to fail (R460) -/
  badCell : Bool := false
  /-- a learn event held until the MACsec verdict (R368): MOVE or not -/
  learn : Option LearnEvent := none
  /-- a drop whose record waits for the last byte or the verdict (R265, R368): reason, die and copy -/
  dropped : List (Nat × Nat × Copy) := []
  /-- an egress copy that will not be sent, and that its policers have still to meter (R264) -/
  ending : Bool := false
  /-- the drop reason that the stages and resolution gave, 0 for none (R149) -/
  why : Nat := 0
  /-- the received frame that this one is a copy or part of, 0 for itself -/
  root : Nat := 0
  /-- the ingress pass is a paddle pass (R470) -/
  paddle : Bool := false
  /-- the ingress slice had an open throttle episode (R453) -/
  throttled : Bool := false
  /-- receive SA of a frame that waits for its verdict, by its number in the SA table, its PN, and whether its
  ICV is right (R367) -/
  sa : Option (Nat × Nat × Bool) := none
  /-- refused before decryption (R367) -/
  rejected : Bool := false
  /-- key-store operation of inline MACsec that waits for the verdict: slot and generation (R375) -/
  key : Option (Nat × BitVec 16) := none
  /-- this is the working state of an egress pass of the copy (R182) -/
  pass : Option Copy := none
  deriving DecidableEq, Repr


/-- What a frame of a stalled pipeline waits for (R34, R123): its turn behind others at the classifier input, the pre-classifier
FIFO that it has found full, the dispatch queue or hold buffer, or the keel transmit buffer. -/
inductive StallOn where
  | behind | fifo | dispatch | keel
  deriving DecidableEq, Repr

/-- A frame at a point of dispatch of a slice with STRICT_ORDER (R185). -/
structure Ordered where
  uid : Nat
  port : Nat
  tc : Nat
  /-- ready to return to its pipeline -/
  done : Bool
  deriving DecidableEq, Repr

/-- A policer of a slice (R263): SCH_POL_DATA0, BURST, tokens in 2^-16 / 8,000 byte, the instant of the last refill in
2^-16 ns, and the red count. -/
structure Policer where
  cfg : Word := 0
  burst : Nat := 0x4000
  tokens : Nat := 0x4000 * 8000 * 65536
  since : Nat := 0
  red : DWord := 0
  deriving DecidableEq, Repr

/-- What a slice holds beside its tables and registers (R183, R185, R263). -/
structure SliceSt where
  /-- the dispatch queue, in ingress-stamp order -/
  queue : List Nat := []
  order : List Ordered := []
  policers : Sparse Policer := []
  deriving DecidableEq, Repr

/-- A copy in transmission, or preempted (R277, R306): its egress pass, the bytes and FCS that leave, its egress stamp, when
the present fragment began in 2^-16 ns of `mono`, and the bytes that earlier fragments sent. -/
structure TxSlot where
  uid : Nat
  bytes : List Byte
  fcs : Word
  stamp : DWord
  began : Nat := 0
  sent : Nat := 0
  frags : Nat := 1
  /-- bytes after which the fragment in progress ends, when a step of time has closed its gate (R275) -/
  cut : Option Nat := none
  /-- key-store operation that inline MACsec has in flight for it: slot and generation (R375) -/
  key : Option (Nat × BitVec 16) := none
  deriving DecidableEq, Repr

/-- A frame in assembly from fragments (R280). -/
structure Assembly where
  bytes : List Byte
  stamp : DWord
  /-- continuation fragments so far, and the frame count -/
  frags : Nat
  num : Nat := 0
  deriving DecidableEq, Repr

/-- What a port holds beside its registers (R30, R32, R173). -/
structure PortSt where
  /-- frames in the pipeline-entry buffer -/
  entry : List Nat := []
  /-- the frame whose last byte has not arrived -/
  rx : Option Nat := none
  /-- what its ingress pipeline has taken from it, and its egress pipeline from its queues, over its speed (R30, R257) -/
  served : Nat := 0
  sent : Nat := 0
  /-- the entry buffer calls for a pause (R32) -/
  entryXoff : Bool := false
  /-- learn tokens in thousandths, and the microsecond of the last refill; none while full (R173) -/
  tokens : Option (Nat × Nat) := none
  /-- copies back from an extended action of their egress pass, ready to start (R182, R185) -/
  ready : List Nat := []
  tx : Option TxSlot := none
  /-- MAC control, verify and response frames that wait for the frame boundary (R232, R271) -/
  ctl : List Output := []
  preempted : Option TxSlot := none
  /-- deficits in bytes of queues 0-15 and groups 16-19 (R256) -/
  deficit : Sparse Nat := []
  /-- the child whose turn it is, plus one, by 8 × parent + PRIO; plus 32 once the turn has passed from it; parents are groups 0-3
  and the port 4 -/
  turn : Sparse Nat := []
  /-- shaper start times V in 2^-16 ns of `mono`, by entity: queues 0-15, groups 16-19, the port 20 (R259) -/
  vstart : Sparse Nat := []
  /-- entities on the timing wheel with their slot plus one, in slots of 6.25 ns since `mono` began, and entities that had a frame to
  start at the last evaluation (R260, R261) -/
  wheel : Sparse Nat := []
  awake : List Nat := []
  /-- queues deferred to the close of their window, in ns (R269) -/
  deferred : List (Nat × Nat) := []
  /-- gate-list entries by 1,024 × bank + index, and the bank that is operational (R266, R273) -/
  gates : Sparse (BitVec 64) := []
  operBank : Fin 2 := 0
  /-- change time in ns of the change that is pending, none while it waits for a comparator (R272) -/
  changeAt : Option Nat := none
  changeCmp : Option Nat := none
  /-- verify frames sent (R276) -/
  mmTries : Nat := 0
  assembly : Option Assembly := none
  deriving DecidableEq, Repr

/-- A move window that is open (R170). -/
structure Kept where
  stamp : DWord
  port : Nat
  deriving DecidableEq, Repr

/-- The learning arbiter of a die beside its registers (R169-R174). Addresses are 2^48 × bridge domain + MAC. -/
structure LrnSt where
  fifo : List LearnEvent := []
  kept : Sparse (Option Kept) := []
  /-- seconds' times in ns of the moves applied to an address -/
  moves : Sparse (List Nat) := []
  deriving DecidableEq, Repr

/-- An access of a source to a register of the other die (R41): a write of a value, or a read. -/
structure RegOp where
  src : Source
  page : PageIdx
  off : Nat
  val : Option Word
  deriving DecidableEq, Repr

/-- A message that a die sends the other in CTRL cells (R287): a learn event, a pause request for (port, class), the
failure of one of the receiver's sub-links, a frame that MACsec refused in place of its last cell (R368), the membership of a
port taken away or restored (R98, R99), a register access and the answer to a read (R41), the stern's summary of an epoch, and the
budgets of the stern that the master returns (R446). -/
inductive Ctrl where
  | learn (e : LearnEvent)
  | pfc (port cls : Nat) (on : Bool)
  | subFail (i : Nat)
  | void (uid : Nat)
  | member (port : Nat) (on : Bool)
  | access (a : RegOp)
  | answer (a : RegOp) (val : Word)
  | summary (e : DieEpoch)
  | budget (b b0 pkg : Nat)
  deriving DecidableEq, Repr

/-- A frame that crosses the keel, in cells (R284, R285). -/
structure Crossing where
  uid : Nat
  tag : Nat
  cells : Nat
  /-- cells sent, and cells received -/
  sent : Nat := 0
  got : Nat := 0
  /-- the first cell has arrived, and the frame has gone on to admission -/
  first : Bool := false
  admitted : Bool := false
  deriving DecidableEq, Repr

/-- A control message not yet acknowledged (R287): its number, and the sub-link and sequence number of its last cell once
it has been sent. -/
structure CtrlOut where
  num : Nat
  msg : Ctrl
  sentOn : Option (Nat × Nat) := none
  deriving DecidableEq, Repr

/-- What a cell carries (R284): nothing, a cell of a frame by number and index, a control message by number, or the
acknowledgement of a CTRL cell by its sub-link and SEQ. -/
inductive CellBody where
  | idle
  | data (uid idx : Nat)
  | ctrl (num : Nat) (msg : Ctrl)
  | ack (sub seq : Nat)
  deriving DecidableEq, Repr

/-- A cell in flight on a sub-link (R284), the credits that it returns, whether its CRC will fail on arrival (an IDLE cell), and
whether the line has lost it. -/
structure KeelCell where
  sub : Nat
  seq : Nat
  body : CellBody := .idle
  credits : Nat := 0
  bad : Bool := false
  lost : Bool := false
  deriving DecidableEq, Repr

/-- The keel half of a die beside its registers (R284-R291). -/
structure KeelSt where
  /-- frames in the transmit buffer or in flight, oldest first -/
  tx : List Crossing := []
  nextTag : Nat := 0
  ctrl : List CtrlOut := []
  nextCtrl : Nat := 0
  /-- cells that this die has sent and that have not arrived, oldest first -/
  flight : List KeelCell := []
  /-- next sequence number of each of its transmitters -/
  seqs : Sparse Nat := []
  /-- the transmitter last used for a cell of a frame, plus one -/
  rot : Nat := 0
  /-- cell credits used of the 16,384 granted, and credits to return to the other die -/
  used : Nat := 0
  due : Nat := 0
  /-- SEQ that each of its receivers expects next, and the receivers that have met a gap (R290) -/
  expect : Sparse Nat := []
  gaps : List Nat := []
  /-- CRC errors of each of its receivers in the 1 ms window of a number, and the receivers whose errors have passed
  KEEL_CTRL.CRC_LIMIT (R290) -/
  crcWindow : Sparse (Nat × Nat) := []
  crcOver : List Nat := []
  /-- its transmitters in OFF after a failure, which wait for KEEL_RETRY (R289) -/
  retry : List Nat := []
  /-- number of the next control message to act on, and messages that arrived ahead of it -/
  inNum : Nat := 0
  inHold : List (Nat × Ctrl) := []
  /-- reads of this die's source that wait for their answers from the other die, oldest first (R41, R42) -/
  asked : List RegOp := []
  /-- the first training of this die's transmitters has ended (R293) -/
  trained : Bool := false
  deriving DecidableEq, Repr

/-- The buffer manager of a die beside its registers (R231). -/
structure BufSt where
  /-- XOFF conditions that this die holds, and those the other die holds for ports of this die: 8 × port + class -/
  xoff : List Nat := []
  remote : List Nat := []
  /-- when each bank last had an uncorrectable error, in ns of `mono`, and the banks retired (R249) -/
  bankErr : Sparse (Option Nat) := []
  gone : List Nat := []
  /-- the bank that the first cell of the next frame may take (R221) -/
  nextBank : Nat := 0
  deriving DecidableEq, Repr


/-- A step that waits for its tick (R304, R305): full time loaded, or a signed amount, in 2^-16 ns. -/
inductive TimeOp where
  | set (v : Nat)
  | add (v : Int)
  deriving DecidableEq, Repr

/-- An entry of the transmit stamp FIFO (R321). -/
structure TxStamp where
  port : Nat
  msgType : Nat
  seqId : Nat
  stamp : DWord
  deriving DecidableEq, Repr

/-- A comparator beside its registers, which hold its target (R327-R329): the base of its period in ns, the target as it was
last written. -/
structure CmpSt where
  /-- a step has passed the target since the last firing (R329) -/
  stepped : Bool := false
  base : Nat := 0
  deriving DecidableEq, Repr

/-- The time unit of a die beside its registers (R300-R331). -/
structure TimeSt where
  /-- full time since SEC = 0 in units of 2^-16 ns × 10^-9, so that one tick at any FREQ is a whole number (R300, R303) -/
  fine : Nat := 0
  /-- time counted without steps, in the same unit: intervals are measured on it (R311) -/
  mono : Nat := 0
  /-- the servo's integral term in 2^-16 ppb (R311) -/
  integ : Rat := 0
  /-- `mono` at the last offset, none where no previous offset counts (R311) -/
  lastOffset : Option Nat := none
  /-- consecutive offsets within 50 ns, and within 200 ps (R312) -/
  coarseRun : Nat := 0
  fineRun : Nat := 0
  waiting : Option TimeOp := none
  /-- consecutive exchanges within 15 ps (R315) -/
  aligned : Nat := 0
  cmps : Sparse CmpSt := []
  txFifo : List TxStamp := []
  /-- the level of PPS_OUT, the whole second of its last edge, and `mono` at that edge (R324) -/
  ppsOut : Bool := false
  ppsSecond : Option Int := none
  ppsRise : Nat := 0
  deriving DecidableEq, Repr


/-- A bank of tenant counters of a die (R348-R352). -/
structure Bank where
  /-- MINUTE_START; `atStart` when the bank opened at reset or at EN = 1 -/
  start : DWord := 0
  atStart : Bool := true
  /-- stamp of the boundary that opened the bank, by which frames belong to it -/
  edge : DWord := 0
  /-- MINUTE_END -/
  stop : DWord := 0
  stepped : Bool := false
  discarded : Bool := false
  merged : Bool := false
  paddle : Bool := false
  split : Bool := false
  interim : Bool := false
  /-- counters by 7 × tenant + index of R348 -/
  counts : Sparse Nat := []
  /-- epoch accumulators by tenant, in 0.01 pJ (R357) -/
  acc : Sparse Nat := []
  settleDiscards : Nat := 0
  /-- UNATTRIBUTED and MEASURED in 0.01 pJ -/
  unattributed : Rat := 0
  measured : Nat := 0
  cut : DWord := 0
  deriving DecidableEq, Repr

/-- Tenant accounting of a die (R348-R359). -/
structure AcctSt where
  bank : Bank := {}
  settling : Option Bank := none
  held : Option Bank := none
  /-- an interim snapshot waiting for its slot -/
  interim : Option Bank := none
  /-- what a suspended write of a slot has still to write: the bank is the interim one, else the held one (R398) -/
  writes : List (Nat × List Byte) := []
  /-- a write of the held bank was aborted: it waits for the next cut (R400) -/
  wait : Bool := false
  /-- IN_BYTES by tenant during the present epoch (R357) -/
  epochIn : Sparse Nat := []
  /-- energy below 10 pJ by tenant, in 0.01 pJ (R357) -/
  rest : Sparse Rat := []
  weights : Sparse (BitVec 8) := []
  deriving DecidableEq, Repr

/-- A dump of performance counters that waits to be written: the page of a one-off dump, its stamp, and the writes still to
make (R355, R361, R362). -/
structure Dump where
  page : Option Nat := none
  stamp : DWord := 0
  space : Nat := 0
  writes : List (Nat × List Byte) := []
  deriving DecidableEq, Repr

/-- The dump unit of a die beside its registers (R361). -/
structure DumpSt where
  waiting : List Dump := []
  /-- dumps cut so far, and whether one has been skipped since the last -/
  seq : Nat := 0
  skipped : Bool := false
  deriving DecidableEq, Repr

/-- A collector of a die: records waiting for its next stream frame (R344). -/
structure CollSt where
  waiting : List (List Byte) := []
  deriving DecidableEq, Repr

/-- Telemetry of a die (R333-R347). -/
structure TelSt where
  seq : Nat := 0
  /-- matches of each selector since its EN was set -/
  matched : Sparse Nat := []
  colls : Sparse CollSt := []
  /-- postcards sent in the present second of the die's time base (R343) -/
  second : Nat := 0
  inSecond : Nat := 0
  deriving DecidableEq, Repr

/-- A key-store slot (R373-R376). -/
structure KeySlot where
  key : BitVec 256 := 0
  salt : BitVec 96 := 0
  ssci : Word := 0
  gen : BitVec 16 := 0
  valid : Bool := false
  erasePending : Bool := false
  eraseDone : Bool := false
  deriving DecidableEq, Repr

/-- Who sent the cipher unit a message: an inject ring, or a context of an engine with the first data register. -/
inductive CipherOwner where
  | ring (r : Nat)
  | engine (seat ctx reg : Nat)
  deriving DecidableEq, Repr

/-- A message of the cipher unit (R378-R382). -/
structure CipherMsg where
  owner : CipherOwner
  /-- PRIO, or 4 for an engine request (R380) -/
  urgency : Nat
  slot : Nat
  /-- 0 ENCRYPT, 1 DECRYPT, 2 GMAC -/
  op : Nat
  /-- IV of 12 bytes; of an engine request, its IV_VAR -/
  iv : List Byte
  aad : List Byte
  payload : List Byte
  tag : List Byte
  tagLen : Nat
  /-- the pipe that works on the message, once it has started -/
  pipe : Option Nat := none
  /-- slot contents at the start -/
  held : KeySlot := {}
  deriving DecidableEq, Repr

/-- The cipher unit and key store of a die beside their registers (R373-R382). -/
structure CipherSt where
  slots : Sparse KeySlot := []
  /-- operations in flight: slot and generation (R375) -/
  flight : List (Nat × BitVec 16) := []
  /-- messages in arrival order -/
  msgs : List CipherMsg := []
  deriving DecidableEq, Repr

/-- The SC and SA tables of the MACsec units, by port: entries by 0x000 + 4 × SC + AN for RX_SA, 0x100 + SC for RX_SC,
0x200 + AN for TX_SA (R365). -/
structure MsecSt where
  tbl : Sparse (BitVec 128) := []
  deriving DecidableEq, Repr

/-- A stream of DMA (R398). -/
inductive Stream where
  | fetch (ring : Nat)
  | inject (ring : Nat)
  | table (ring : Nat)
  | cipher (ring : Nat)
  | completion (ring : Nat)
  | punt (hbq : Nat)
  | pool (p : Nat)
  | snapshot
  | dump
  /-- a context and its frame, 0 for an event routine -/
  | engine (seat ctx uid : Nat)
  deriving DecidableEq, Repr

/-- A stream suspended by a fault (R398, R399): the record it waits on, none while no record is free, and the fault. -/
structure Suspended where
  stream : Stream
  record : Option Nat
  type : Nat
  write : Bool
  space : Nat
  dva : Nat
  deriving DecidableEq, Repr

/-- A cached translation (R396): space, 4 KiB page of the DVA, host physical page, W. -/
structure Xlat where
  space : Nat
  page : Nat
  phys : Nat
  writable : Bool
  deriving DecidableEq, Repr

/-- A completion that waits to be written (R408, R414). -/
structure Compl where
  index : Nat
  tag : Nat
  count : Nat
  status : Nat
  detail : Nat
  deriving DecidableEq, Repr

/-- The descriptor that a ring serves (R401, R410-R413). -/
structure Serving where
  index : Nat
  desc : BitVec 512
  /-- reads still to make, DVA and length, and the bytes read so far -/
  reads : List (Nat × Nat) := []
  got : List Byte := []
  /-- entries of a TABLE_WRITE written, and the stamp at which the last read ended -/
  count : Nat := 0
  stamp : DWord := 0
  /-- a message in the cipher unit -/
  inCipher : Bool := false
  /-- the frame of a FRAME that has been handed on and whose cells are not all written (R35) -/
  injected : Option Nat := none
  /-- STATUS and DETAIL once known, and the writes still to make -/
  result : Option (Nat × Nat) := none
  writes : List (Nat × List Byte) := []
  deriving DecidableEq, Repr

/-- A ring of a function (R402-R408): its window of registers 0x404 to 0x42C and what the device holds of it. -/
structure Ring where
  base : DWord := 0
  cfg : Word := 0x02000000
  sched : Word := 0x110
  prod : Nat := 0
  cons : Nat := 0
  cqBase : DWord := 0
  cqProd : Nat := 0
  cqCons : Nat := 0
  dbErr : Bool := false
  /-- descriptors fetched and not started, with their indices; none for one whose fetch was aborted (R400) -/
  fetched : List (Nat × Option (BitVec 512)) := []
  /-- bytes of the descriptor that a fetch is reading -/
  part : List Byte := []
  serving : Option Serving := none
  done : Option Compl := none
  /-- first descriptor that a COALESCE completion would cover (R408) -/
  batch : Nat := 0
  /-- when the last message was sent, in ns, and whether one waits for MOD_US (R393) -/
  lastMsg : Option Nat := none
  waitMsg : Bool := false
  deriving DecidableEq, Repr

/-- A pool of a die (R418, R419): its window of registers 0x704 to 0x71C and its cache. -/
structure Pool where
  base : DWord := 0
  cfg : Word := 0x02000000
  warn : Word := 0x00800040
  prod : Nat := 0
  cons : Nat := 0
  bp : Bool := false
  cache : List Nat := []
  /-- entries that the fetch in progress still reads, and bytes of the next one -/
  fetching : Nat := 0
  part : List Byte := []
  deriving DecidableEq, Repr

/-- A delivery to a punt ring that a fault suspended (R398, R417): the copy, its ring, its pool, the buffers taken, the
writes still to make and the punt entry. -/
structure Delivery where
  copy : Copy
  ring : Nat
  pool : Nat
  bufs : List Nat
  writes : List (Nat × List Byte)
  entry : Nat
  deriving DecidableEq, Repr

/-- A round of the weighted round robin of R409: the queue visited last, the units of that visit, and the units of each queue in
the round. -/
structure Round where
  pos : Nat := 0
  run : Nat := 0
  served : Sparse Nat := []
  deriving DecidableEq, Repr

/-- Capabilities that a function presents (R389). -/
inductive PciCap where
  | express | msix | power | errors | flr
  deriving DecidableEq, Repr

/-- The configuration of a function (R389): IDs, class, header type, BAR0 as its size in bits of address, whether it is 64-bit and
prefetchable, capabilities, the largest payload and read request in bytes, tag width, and reads outstanding. -/
structure FuncConfig where
  vendor : BitVec 16
  device : BitVec 16 := 0x1024
  cls : BitVec 24 := 0x028000
  header : Nat := 0
  barBits : Nat := 32
  bar64 : Bool := true
  prefetch : Bool := false
  caps : List PciCap := [.express, .msix, .power, .errors, .flr]
  maxPayload : Nat := 512
  maxRead : Nat := 4096
  tagBits : Nat := 10
  reads : Nat := 768
  deriving DecidableEq, Repr

/-- The host interface and DMA translation unit of a die beside their registers. -/
structure HostSt where
  /-- what the function's configuration space answers, once its link is up (R389, R493) -/
  config : Option FuncConfig := none
  rings : Sparse Ring := []
  pools : Sparse Pool := []
  held : Sparse (Option Delivery) := []
  suspended : List Suspended := []
  /-- most recently used first -/
  xlats : List Xlat := []
  /-- rounds of the read engine in orders 3 and 4, then of the write engine (R401, R409) -/
  rounds : Sparse Round := []
  /-- UCIe modules lost and not back (R388) -/
  lost : List Nat := []
  deriving DecidableEq, Repr


/-- An open throttle episode (R451, R452): reason, die-local slices acted on, lowest rating and issue cap demanded, opening
stamp, opening time in ns of `mono`, and sequence number. -/
structure Episode where
  reason : Nat
  slices : Nat
  rating : Nat
  issue : Nat
  start : DWord
  since : Nat
  seq : Nat
  deriving DecidableEq, Repr

/-- An entry of the throttle log (R452). -/
structure LogEntry where
  ep : Episode
  micros : Nat
  deriving DecidableEq, Repr

/-- A phase slot (R447, R448): signature, learned power by 3 × die + class in units of 1/8 mW, runs seen and their total
length in epochs, successors with their counts, and the epoch of the last match. -/
structure PhaseSlot where
  sig : Nat
  power : List Nat
  runs : Nat := 0
  epochs : Nat := 0
  succ : List (Nat × Nat) := []
  matched : Nat := 0
  deriving DecidableEq, Repr

/-- The cox instance and the arbiter of a die beside their registers (R432-R456). -/
structure CoxSt where
  /-- demanded ratings by 8 × reason + die-local slice -/
  demands : Sparse Nat := []
  /-- applied ratings by die-local slice -/
  applied : Sparse Nat := []
  /-- caps that the arbiter sets, and those of the brake (R435, R436, R441) -/
  issue : Nat := 16
  mem : Nat := 16
  brakeIssue : Nat := 16
  brakeMem : Nat := 16
  /-- a stretch is in progress, and since when in ns of `mono` (R437) -/
  droop : Option Nat := none
  droops : Nat := 0
  /-- milliseconds with no more than RATE droops since the demand last moved (R438) -/
  quiet : Nat := 0
  episodes : List Episode := []
  /-- oldest first, at most 64 -/
  log : List LogEntry := []
  logHead : Nat := 0
  seq : Nat := 0
  /-- when the last notice of a reason was sent, in ns of `mono` (R453) -/
  noticed : Sparse (Option Nat) := []
  phases : Sparse (Option PhaseSlot) := []
  /-- epochs that the current phase has lasted, and epochs in all -/
  lasted : Nat := 0
  epoch : Nat := 0
  unmetRun : Nat := 0
  /-- a calibration window: epochs left, none while it waits for its epoch boundary (R455) -/
  cal : Option (Option Nat) := none
  /-- budget and allocations of the epoch in mW, by class 0 LINKS, 1 MEMORY, 2 COMPUTE -/
  budget : Nat := 0
  alloc : List Nat := []
  /-- highest power of each class in the epoch so far, in mW, for R443 -/
  high : List Nat := []
  /-- the allocations that the budget without prediction would have given (R449) -/
  alloc0 : List Nat := []
  /-- MEMORY and COMPUTE stayed more than 5% below their allocations throughout the last epoch (R443) -/
  riseMem : Bool := false
  riseCompute : Bool := false
  /-- energy below 10 pJ of a calibration window, in 0.01 pJ (R455) -/
  calRest : Nat := 0
  /-- the die's own summary of the epoch that has ended, until its budget is set (R446) -/
  mine : Option DieEpoch := none
  /-- the temperature was at or above WARN_C at the last reading (R439) -/
  hot : Bool := false
  /-- die-local slices for which a wake cause has occurred that has not been acted on (R427) -/
  wakes : List Nat := []
  deriving DecidableEq, Repr

/-- A staged write (R194). -/
inductive Staged where
  | hdr (off : Nat) (bytes : List Byte)
  | meta_ (field val : Nat)
  | table (t i val : Nat)
  | qdr (c node val : Nat)
  | count (i packets bytes : Nat)
  deriving DecidableEq, Repr

/-- What a pending memory read reads (R192). -/
inductive ReadOf where
  | trd (t i : Nat)
  | eml (kind key hi vrf : Nat)
  | lpm (v6 : Bool) (addr : Nat)
  | qrd (c node : Nat)
  | xrd (space dva : Nat)
  | cu
  deriving DecidableEq, Repr

/-- A pending memory read: first data register, how many, and for XRD the bytes that have arrived. -/
structure Pending where
  of : ReadOf
  reg : Nat
  count : Nat
  got : List Byte := []
  deriving DecidableEq, Repr

/-- Values that a word read when it issued, while its second half has still to be carried out (R190): A, B, the old DST
and HIT. -/
structure Latch where
  a : DWord
  b : DWord
  old : DWord
  hit : Bool
  deriving DecidableEq, Repr

/-- A routine in a context (R179, R187). -/
structure Routine where
  /-- the frame; none for an event routine -/
  uid : Option Nat := none
  /-- age: the ingress stamp, or the instant at which the event was raised (R202) -/
  stamp : DWord := 0
  entry : Nat := 0
  pc : Nat := 0
  regs : Sparse DWord := []
  z : Bool := false
  n : Bool := false
  hit : Bool := false
  /-- header window, and metadata in a working copy of the frame -/
  window : List Byte := []
  work : Frm := {}
  /-- header window and metadata as they stood at the commit are `window` and `work`; later writes are in the log -/
  log : List Staged := []
  /-- entries staged in all (R198) -/
  staged : Nat := 0
  /-- lock-table entries held, and LOCKs executed -/
  locks : List Nat := []
  lockOps : Nat := 0
  lockWait : Option Nat := none
  pend : List Pending := []
  latch : Option Latch := none
  committed : Bool := false
  /-- the commit of R195 is under way; the routine ends after it -/
  committing : Bool := false
  ending : Bool := false
  words : Nat := 0
  restarts : Nat := 0
  deriving DecidableEq, Repr

/-- Why an abandoned routine does not restart yet: a lock-table entry that another context holds (R202), or a DMA fault
that is not resolved (R203). -/
inductive HoldOff where
  | lock (entry : Nat)
  | dma
  deriving DecidableEq, Repr

/-- An event that waits for context 31 of an engine (R204-R206). -/
structure Event where
  engine : Nat
  entry : Nat
  stamp : DWord
  restarts : Nat := 0
  hold : Option HoldOff := none
  deriving DecidableEq, Repr

/-- The engines of a slice beside their registers. -/
structure CsSt where
  /-- control-store words -/
  words : Sparse (BitVec 256) := []
  /-- routines by 32 × engine of the slice + context -/
  ctxs : Sparse (Option Routine) := []
  /-- frames abandoned that may not restart yet -/
  holds : Sparse (Option HoldOff) := []
  /-- the event that waits for its context -/
  event : Option Event := none
  deriving DecidableEq, Repr


/-- Controller states of a test port's TAP (IEEE 1149.1, R527): the test-logic-reset state, and any other by its number. -/
inductive TapState where
  | reset
  | other (n : Fin 15)
  deriving DecidableEq, Repr

/-- The test port (R527): levels of TCK, TMS, TDI, TDO and TRST_N, which is pulled down, and the state of its TAP. -/
structure TestPort where
  tck : Bool := false
  tms : Bool := false
  tdi : Bool := false
  tdo : Bool := false
  trstN : Bool := false
  tap : TapState := .reset
  deriving DecidableEq, Repr

/-- The state of the block. -/
structure State where
  /-- commands waiting, first in, first out -/
  pending : List Instr := []
  /-- what has left the block, newest first -/
  out : List Output := []
  /-- how many free values have been drawn -/
  free : Nat := 0
  pins : Pins := {}
  otp : Otp := {}
  /-- registers by key; an unlisted one holds its reset value -/
  regs : Sparse Word := []
  /-- 64-bit counters by key of the low word; an unlisted one holds 0 -/
  ctrs : Sparse DWord := []
  /-- latched high words by key and source (R8) -/
  latch : Sparse (Option Word) := []
  /-- page locks by page key -/
  locks : Sparse (Option Lock) := []
  boot : Sparse DieBoot := []
  /-- units that failed self-test, by page key (R66) -/
  failed : Sparse Bool := []
  /-- pages whose unit reset is in progress, by page key (R51) -/
  resetting : Sparse Bool := []
  /-- worst loss at the last raise of the core supply, by die, in units of 0.01% (R478) -/
  wearBase : Sparse Nat := []
  lanes : Sparse LaneSt := []
  links : Sparse LinkSt := []
  tabs : Sparse SliceTab := []
  /-- QDR nodes by channel × 2^23 + node; an unlisted node has not been written since VQDR was powered (R118, R540) -/
  qdr : Sparse (Option (BitVec 256)) := []
  /-- host accesses in progress, by channel -/
  qdrBusy : Sparse (Option QdrAccess) := []
  clss : Sparse ClsSt := []
  /-- frames inside the device by number -/
  frames : Sparse (Option Frm) := []
  nextFrame : Nat := 1
  slices : Sparse SliceSt := []
  ports : Sparse PortSt := []
  lrns : Sparse LrnSt := []
  keels : Sparse KeelSt := []
  /-- frames that stall a pipeline, first in line first: ingress pipelines by number, egress pipelines by 64 + number -/
  stalls : Sparse (List (Nat × StallOn)) := []
  bufs : Sparse BufSt := []
  /-- multicast group entries by 8,192 × die + group: map, CROSS, SRC_PRUNE, VALID from bit 0 up (R240) -/
  mcs : Sparse (BitVec 515) := []
  /-- copies that wait in a queue, oldest first: port queues by 16 × port + queue, host-bound queues by
  16,384 + 64 × die + queue (R223) -/
  queues : Sparse (List Copy) := []
  times : Sparse TimeSt := []
  accts : Sparse AcctSt := []
  tels : Sparse TelSt := []
  dumps : Sparse DumpSt := []
  /-- frames that wait for admission, by die, oldest first: the frame and, for a crossing copy, whether it has crossed -/
  admits : Sparse (List Nat) := []
  ciphers : Sparse CipherSt := []
  /-- SC and SA tables by port -/
  msecs : Sparse MsecSt := []
  hosts : Sparse HostSt := []
  coxs : Sparse CoxSt := []
  css : Sparse CsSt := []
  /-- the test port (R527) -/
  test : TestPort := {}
  deriving DecidableEq, Repr

/-- Right after power is applied: VAON in range and AON_CLK running, PWRGOOD_AON and RESET_N low (R490 step 1). -/
def State.reset : State := {}

end Sys2Proof.Machine
end

