-- ==== Sys2Proof/Machine/Ops.lean ====
section
/-!
DEFINITION. The named operations over registers, counters, locks, the interrupt tree and the output log that every
meaning uses (R7-R12, R50-R63, R391-R392).
-/
namespace Sys2Proof

/-- The die whose function or target a source is (R14, R70). -/
def Source.die : Source → Nat
  | .f0 => 0 | .f1 => 1 | .i3c => 0

def Source.num : Source → Nat
  | .f0 => 0 | .f1 => 1 | .i3c => 2

end Sys2Proof

namespace Sys2Proof.Machine

/-! ### Registers -/

/-- PAGE_CONTROL's reset value: ENABLE is 1 on every page but lane and port pages (R47). -/
def controlReset (kindCode : Nat) : Nat := if kindCode = 1 ∨ kindCode = 2 then 0 else 1

/-- The reset value of a register, from its key. -/
def regDefault (key : Nat) : Word :=
  let off := keyOff key
  let kind := keyKind key
  if off = 0x14 then BitVec.ofNat 32 (controlReset kind)
  else if off < 0x100 then 0
  else match Kind.ofCode kind with
    | some k => BitVec.ofNat 32 (((k.reg? off).map Reg.reset).getD 0)
    | none => 0

/-- The stored value of a register. -/
def State.reg (s : State) (p : Page) (off : Nat) : Word := s.regs.get (regDefault (p.key off)) (p.key off)

/-- Store a register. -/
def State.setReg (s : State) (p : Page) (off : Nat) (v : Word) : State :=
  { s with regs := s.regs.set (regDefault (p.key off)) (p.key off) v }

/-- Put a register back to its reset value. -/
def State.clearReg (s : State) (p : Page) (off : Nat) : State := s.setReg p off (regDefault (p.key off))

/-- Offset of element `i` of a field. -/
def Fld.at (f : Fld) (i : Nat) : Nat := f.off + f.stride * i

/-- A field's value. -/
def State.fget (s : State) (p : Page) (f : Fld) (i : Nat := 0) : Nat :=
  ((s.reg p (f.at i)).toNat >>> f.lo) % 2 ^ f.w

/-- A one-bit field as a truth value. -/
def State.flag (s : State) (p : Page) (f : Fld) (i : Nat := 0) : Bool := decide (s.fget p f i ≠ 0)

/-- `v` placed in the field's bits of a word. -/
def Fld.put (f : Fld) (w : Word) (v : Nat) : Word :=
  let m := ((2 ^ f.w - 1) <<< f.lo)
  (w &&& ~~~ BitVec.ofNat 32 m) ||| BitVec.ofNat 32 ((v % 2 ^ f.w) <<< f.lo)

/-- Store a field, leaving the register's other bits. -/
def State.fset (s : State) (p : Page) (f : Fld) (v : Nat) (i : Nat := 0) : State :=
  s.setReg p (f.at i) (f.put (s.reg p (f.at i)) v)

/-- Store a one-bit field. -/
def State.bset (s : State) (p : Page) (f : Fld) (b : Bool) (i : Nat := 0) : State := s.fset p f b.toNat i

/-- A field of a given word. -/
def Fld.of (f : Fld) (w : Word) : Nat := (w.toNat >>> f.lo) % 2 ^ f.w

/-- Add one to a field, saturating at its largest value. -/
def State.fsat (s : State) (p : Page) (f : Fld) (n : Nat := 1) (i : Nat := 0) : State :=
  s.fset p f (min (2 ^ f.w - 1) (s.fget p f i + n)) i

/-- A 64-bit counter (R8). -/
def State.cget (s : State) (p : Page) (f : Fld) (i : Nat := 0) : DWord := s.ctrs.get 0 (p.key (f.at i))

/-- Set a 64-bit counter. -/
def State.cset (s : State) (p : Page) (f : Fld) (v : DWord) (i : Nat := 0) : State :=
  { s with ctrs := s.ctrs.set 0 (p.key (f.at i)) v }

/-- Add to a 64-bit counter modulo 2^64. -/
def State.cadd (s : State) (p : Page) (f : Fld) (n : Nat := 1) (i : Nat := 0) : State :=
  s.cset p f (s.cget p f i + BitVec.ofNat 64 n) i

/-- Store the RW and RWL bits of a written value, leaving the register's other bits (R9). -/
def State.putRw (s : State) (p : Page) (off : Nat) (v : Word) : State :=
  match p.kind.reg? off with
  | some r =>
    let m := BitVec.ofNat 32 (r.rw ||| r.rwl)
    s.setReg p off ((s.reg p off &&& ~~~ m) ||| (v &&& m))
  | none => s

/-- Store consecutive words of a number in an array of registers. -/
def State.setWords (s : State) (p : Page) (f : Fld) (n : Nat) (v : Nat) : State :=
  (List.range n).foldl (fun s i => s.setReg p (f.at i) (BitVec.ofNat 32 (v >>> (32 * i)))) s

/-- The number that consecutive registers of an array hold, element 0 least significant. -/
def State.words (s : State) (p : Page) (f : Fld) (n : Nat) : Nat :=
  (List.range n).foldl (fun a i => a + (s.reg p (f.at i)).toNat * 2 ^ (32 * i)) 0

/-- Write a 64-bit RO value over the registers of its low and high words. -/
def State.setPair (s : State) (p : Page) (lo hi : Fld) (v : Nat) : State :=
  (s.setReg p lo.off (BitVec.ofNat 32 v)).setReg p hi.off (BitVec.ofNat 32 (v / 2 ^ 32))

/-! ### Units -/

abbrev lanePg (i : Nat) : Page := ⟨.lane, i⟩
abbrev portPg (i : Nat) : Page := ⟨.port, i⟩
abbrev eightPg (i : Nat) : Page := ⟨.eight, i⟩
abbrev slicePg (i : Nat) : Page := ⟨.slice, i⟩
abbrev diePg (i : Nat) : Page := ⟨.die, i⟩
abbrev enginePg (i : Nat) : Page := ⟨.engine, i⟩
abbrev csPg (i : Nat) : Page := ⟨.cs, i⟩
abbrev bufPg (i : Nat) : Page := ⟨.bufMgr, i⟩
abbrev qdrPg (i : Nat) : Page := ⟨.qdr, i⟩
abbrev keelPg (i : Nat) : Page := ⟨.keel, i⟩
abbrev msecPg (i : Nat) : Page := ⟨.msec, i⟩
abbrev hifPg (i : Nat) : Page := ⟨.hif, i⟩
abbrev dtuPg (i : Nat) : Page := ⟨.dtu, i⟩
abbrev cipherPg (i : Nat) : Page := ⟨.cipher, i⟩
abbrev timePg (i : Nat) : Page := ⟨.timeU, i⟩
abbrev coxPg (i : Nat) : Page := ⟨.cox, i⟩
abbrev otpPg : Page := ⟨.otp, 0⟩
abbrev telPg (i : Nat) : Page := ⟨.tel, i⟩
abbrev clsPg (i : Nat) : Page := ⟨.cls, i⟩
abbrev lrnPg (i : Nat) : Page := ⟨.lrn, i⟩
abbrev pmcPg (i : Nat) : Page := ⟨.pmc, i⟩
abbrev ringPg (i : Nat) : Page := ⟨.ring, i⟩
abbrev acctPg (i : Nat) : Page := ⟨.acct, i⟩
abbrev aonPg (i : Nat) : Page := ⟨.aon, i⟩

/-- The die of a port, and of a slice. -/
def portDie (p : Nat) : Nat := p / 512
def sliceDie (s : Nat) : Nat := s / 8
/-- The slice of a port (R16). -/
def portSlice (p : Nat) : Nat := p / 64

/-- The die's boot state. -/
def State.bootOf (s : State) (d : Nat) : DieBoot := s.boot.get {} d
def State.setBoot (s : State) (d : Nat) (b : DieBoot) : State := { s with boot := s.boot.set {} d b }

/-- Does die `d` run: power good, reset released, and not held (R69, R490, R491)? -/
def State.dieUp (s : State) (d : Nat) : Bool := s.pins.pwrgood && s.pins.resetN && !(s.bootOf d).held

/-- Has die `d` completed its roll call (R67)? -/
def State.rolled (s : State) (d : Nat) : Bool := s.dieUp d && (s.bootOf d).rolled

/-- Is the die in split operation (KEEL_STATUS.SPLIT, R294)? -/
def State.split (s : State) (d : Nat) : Bool := s.flag (keelPg d) F.KEEL_STATUS_SPLIT

/-- Do frames and pause conditions not cross between the dies: split operation, save its last phase RESUMING (R235, R296)? -/
def State.apart (s : State) (d : Nat) : Bool := s.split d && decide (s.fget (keelPg d) F.KEEL_STATUS_PHASE ≠ 5)

/-- The device-page instance that serves a die (R60). DESIGN CHOICE: beside its lock, the stern's instance shows at split entry the
registers that it holds itself, which are at reset until the stern has been split before; R60 states the lock alone. -/
def State.devInst (s : State) (d : Nat) : Nat := if s.split d then d else 0

/-! ### Output and free values -/

def State.emit (s : State) (o : Output) : State := { s with out := o :: s.out }

/-- A value the spec leaves open, of width `w`, with the counter advanced. -/
def State.draw (s : State) (w : Nat) : BitVec w × State := (Config.freeValue w s.free, { s with free := s.free + 1 })

/-! ### Interrupts -/

/-- The output of a page (R61). -/
def State.irqOut (s : State) (p : Page) : Bool :=
  let st := s.reg p F.PAGE_IRQ_STATUS.off
  let en := s.reg p F.PAGE_IRQ_ENABLE.off
  decide (((st &&& en) >>> 1) ≠ 0) || (s.flag p F.PAGE_IRQ_CHILD && en.getLsbD 0)

/-- Offset of word `k` of MSI-X vector `v` on the host interface page (R391). -/
def msixOff (v k : Nat) : Nat := 0x8000 + 16 * v + 4 * k

/-- Set or clear the pending bit of a vector in the PBA (R391, R392). -/
def State.setPending (s : State) (fn v : Nat) (b : Bool) : State :=
  let off := 0x7F00 + 4 * (v / 32)
  s.setReg (hifPg fn) off (Fld.put ⟨off, 0, v % 32, 1⟩ (s.reg (hifPg fn) off) b.toNat)

/-- Is a vector masked? The mask bit of a vector resets to 1; it is held inverted so that reset memory lists nothing. -/
def State.vecMasked (s : State) (fn v : Nat) : Bool := !((s.reg (hifPg fn) (msixOff v 3)).getLsbD 0)

/-- Send the message of a vector, or set its pending bit while it is masked (R392). -/
def State.sendVector (s : State) (fn v : Nat) : State :=
  if s.vecMasked fn v then s.setPending fn v true
  else
    let lo := (s.reg (hifPg fn) (msixOff v 0)).toNat
    let hi := (s.reg (hifPg fn) (msixOff v 1)).toNat
    s.emit (.msix fn (BitVec.ofNat 64 (lo + hi * 2 ^ 32)) (s.reg (hifPg fn) (msixOff v 2)))

/-- A change of the output of a die or device page reaches its function's vector (R392). -/
def State.outputChanged (s : State) (p : Page) (now : Bool) : State :=
  let go (s : State) (fn : Nat) (en vec : Fld) : State :=
    if s.flag (hifPg fn) en then
      (if now then s.sendVector fn (s.fget (hifPg fn) vec) else s.setPending fn (s.fget (hifPg fn) vec) false)
    else s
  match p.kind with
  | .die => go s p.n F.HIF_IRQ_MAP_DIE_EN F.HIF_IRQ_MAP_DIE_VEC
  | .device =>
    let s1 := if s.split p.n then s else go s 1 F.HIF_IRQ_MAP_DEVICE_EN F.HIF_IRQ_MAP_DEVICE_VEC
    go s1 (if s.split p.n then p.n else 0) F.HIF_IRQ_MAP_DEVICE_EN F.HIF_IRQ_MAP_DEVICE_VEC
  | _ => s

/-- The port whose lanes include `l`: the width codes of the eight's arrangement, read down from lane `l` to the lane
where its port starts; a lane with width code OFF has the vacant port of its own number (R46, R48). -/
def State.portOfLane (s : State) (l : Nat) : Nat :=
  let arr := (s.reg (eightPg (l / 8)) F.EIGHT_ARRANGE.off).toNat
  let code (i : Nat) := (arr >>> (3 * i)) % 8
  let rec up : Nat → Nat
    | 0 => 0
    | i + 1 => if code (i + 1) = 0 then up i else i + 1
  l / 8 * 8 + up (l % 8)

/-- A page's parent in the interrupt tree and its bit there (R43, R48, R61). -/
def State.irqParent (s : State) (p : Page) : Option (Page × Nat) :=
  match p.kind with
  | .lane => let q := s.portOfLane p.n; some (portPg q, p.n - q)
  | _ => p.irqParent (s.devInst p.die)

/-- What a page gives to its bit of its parent: its output, or that of the other die's half where both lie below one device
page (R43, R45). -/
def State.childOut (s : State) (p : Page) : Bool :=
  s.irqOut p || (match p.kind with
    | .keel | .cox => let o : Page := ⟨p.kind, 1 - p.n⟩; s.irqParent o = s.irqParent p && s.irqOut o
    | _ => false)

/-- Carry a page's output up the tree (R61, R62); `was` is the output before the change. -/
def State.propagate (s : State) (p : Page) (was : Bool) : Nat → State
  | 0 => s
  | fuel + 1 =>
    let now := s.irqOut p
    if now = was then s else
    let s := s.outputChanged p now
    match s.irqParent p with
    | none => s
    | some (q, bit) =>
      let wasQ := s.irqOut q
      let s := s.setReg q F.PAGE_IRQ_CHILD.off
        (Fld.put ⟨0x20, 0, bit, 1⟩ (s.reg q F.PAGE_IRQ_CHILD.off) (s.childOut p).toNat)
      let s := s.setReg q F.PAGE_IRQ_STATUS.off
        (Fld.put ⟨0x18, 0, 0, 1⟩ (s.reg q F.PAGE_IRQ_STATUS.off) (s.flag q F.PAGE_IRQ_CHILD).toNat)
      State.propagate s q wasQ fuel

/-- Change a page's interrupt registers and carry the effect up the tree. -/
def State.irqUpd (s : State) (p : Page) (f : State → State) : State :=
  (f s).propagate p (s.irqOut p) 7

/-- Raise cause `bit` of a page (R47, R61). -/
def State.raise (s : State) (p : Page) (bit : Nat) : State :=
  s.irqUpd p (fun s => s.setReg p 0x18 (s.reg p 0x18 ||| BitVec.ofNat 32 (2 ^ bit)))

/-- Raise a cause when a condition holds. -/
def State.raiseIf (s : State) (b : Bool) (p : Page) (bit : Nat) : State := if b then s.raise p bit else s

/-- Count a refused access or an error in PAGE_ERR_COUNT, saturating, and set ERR (R47). -/
def State.errCount (s : State) (p : Page) : State := (s.fsat p F.PAGE_ERR_COUNT).raise p 2

/-! ### Status bits of pages and their aggregates (R53) -/

/-- The port-tree parent of a page, for status and lock lineage (R48). -/
def State.treeParent (s : State) (p : Page) : Option Page :=
  match p.kind with
  | .lane | .port | .eight | .slice | .die => (s.irqParent p).map Prod.fst
  | _ => none

/-- The port-tree children of a page: consecutive seats (R48). -/
def State.treeChildren (s : State) (p : Page) : List Page :=
  match p.kind with
  | .device => if s.split p.n then [diePg p.n] else [diePg 0, diePg 1]
  | .die => (List.range 8).map (fun i => slicePg (8 * p.n + i))
  | .slice => (List.range 8).map (fun i => eightPg (8 * p.n + i))
  | .eight => (List.range 8).map (fun i => portPg (8 * p.n + i))
  | .port => ((List.range 8).map (fun i => p.n + i)).filterMap
      (fun l => if l / 8 = p.n / 8 ∧ s.portOfLane l = p.n ∧ l < 1024 then some (lanePg l) else none)
  | _ => []

/-- Set a status bit of a page that its ancestors OR together (FAULT 1, ASLEEP 2, PADDLE 3), raising STATE wherever the
bit as read changes (R47, R53). The own condition is kept in bit + 8 of the stored PAGE_STATUS. -/
def State.setStatusFrom (s : State) (p : Page) (bit : Nat) : Nat → State
  | 0 => s
  | fuel + 1 =>
    let stored := s.reg p 0x10
    let new := stored.getLsbD (bit + 8) || (s.treeChildren p).any (fun c => (s.reg c 0x10).getLsbD bit)
    if stored.getLsbD bit = new then s else
    let s := s.setReg p 0x10 (Fld.put ⟨0x10, 0, bit, 1⟩ stored new.toNat)
    let s := s.raise p 1
    match s.treeParent p with
    | none => s
    | some q => State.setStatusFrom s q bit fuel

/-- Set a unit's own FAULT, ASLEEP or PADDLE condition. -/
def State.setOwn (s : State) (p : Page) (bit : Nat) (b : Bool) : State :=
  (s.setReg p 0x10 (Fld.put ⟨0x10, 0, bit + 8, 1⟩ (s.reg p 0x10) b.toNat)).setStatusFrom p bit 7

def State.setFault (s : State) (p : Page) (b : Bool) : State := s.setOwn p 1 b
def State.setAsleep (s : State) (p : Page) (b : Bool) : State := s.setOwn p 2 b
def State.setPaddle (s : State) (p : Page) (b : Bool) : State := s.setOwn p 3 b

/-! ### Pages of groups (R53) -/

/-- Does a kind of page define an offset of its own (header offsets included)? -/
def Kind.defines (k : Kind) (off : Nat) : Bool := decide (off < 0x40) || (k.reg? off).isSome

/-- The units a write at page `p` reaches: the page itself when its own kind defines the register, else every unit of the
nearest lower level that defines it (R53). -/
def State.targets (s : State) (p : Page) (off : Nat) : List Page :=
  if p.kind.defines off then [p] else
  match p.kind.level with
  | none => []
  | some h =>
    match (List.range h).reverse.find? (fun l => (Kind.atLevel l).defines off) with
    | none => []
    | some l => p.below (s.split p.die) h l

/-- The targets of a write of a register that only kind `k` holds. -/
def State.targetsOf (s : State) (p : Page) (k : Kind) : List Page :=
  if p.kind = k then [p] else
  match p.kind.level, k.level with
  | some h, some l => p.below (s.split p.die) h l
  | _, _ => []

/-! ### Locks (R56-R60) -/

def Page.lockKey (p : Page) : Nat := p.key 0

def State.lockOf (s : State) (p : Page) : Option Lock := s.locks.get none p.lockKey

def State.setLock (s : State) (p : Page) (l : Option Lock) : State :=
  { s with locks := s.locks.set none p.lockKey l }

/-- The ancestors of a page in the port tree, nearest first. An attached unit's ancestors are its interrupt parent and
that page's ancestors. -/
def State.ancestors (s : State) (p : Page) : Nat → List Page
  | 0 => []
  | fuel + 1 =>
    match s.irqParent p with
    | none => []
    | some (q, _) => q :: State.ancestors s q fuel

/-- Does a unit operate (R50, R66)? Its own ENABLE and, in the port tree, that of every ancestor are 1, it did not fail its
self-test, and no reset of it is in progress. An attached unit's ENABLE does not depend on its interrupt parent. -/
def State.operates (s : State) (p : Page) : Bool :=
  (p :: (if p.kind.level.isSome then s.ancestors p 6 else [])).all
    (fun q => s.flag q F.PAGE_CONTROL_ENABLE && !s.failed.get false (q.key 0)) && !s.resetting.get false (p.key 0)

/-- Do the host interface and the translation unit of a die operate, through which every transaction of its host passes? -/
def State.hostOperates (s : State) (d : Nat) : Bool := s.operates (hifPg d) && s.operates (dtuPg d)

/-- Is `q` the page `p` or an ancestor of it? -/
def State.inLineage (s : State) (q p : Page) : Bool := q = p || (s.ancestors p 6).contains q

/-- Does `src` hold the lock of the page or of an ancestor (R59)? -/
def State.holdsLock (s : State) (src : Source) (p : Page) : Bool :=
  (p :: s.ancestors p 6).any (fun q => (s.lockOf q).any (fun l => l.src = src))

/-- The page of a lock key. -/
def Page.ofLockKey (k : Nat) : Option Page :=
  (Kind.ofCode (keyKind k)).map (fun kd => ⟨kd, keyNum k⟩)

/-- Pages on which a lock is held, with the lock. -/
def State.heldLocks (s : State) : List (Page × Lock) :=
  s.locks.filterMap (fun kv => match Page.ofLockKey kv.1, kv.2 with
    | some p, some l => some (p, l)
    | _, _ => none)

/-! ### Power states (R426, R430) -/

/-- The state of a slice (R426): 0 AWAKE, 1 ENTERING, 2 ASLEEP, 3 WAKING. -/
def State.sliceState (s : State) (sl : Nat) : Nat :=
  bits (s.fget (aonPg (sliceDie sl)) F.AON_SLICE_STATE_STATE) (2 * (sl % 8) + 1) (2 * (sl % 8))

/-- The key of a host-bound queue of a die. -/
def hostQ (d h : Nat) : Nat := 16384 + 64 * d + h

/-- The die of a queue. -/
def queueDie (k : Nat) : Nat := if k < 16384 then k / 8192 else (k - 16384) / 64

/-- Copies in a queue, oldest first. -/
def State.queueAt (s : State) (k : Nat) : List Copy := s.queues.get [] k

/-- Copies of a die that hold cells: those in its queues, those in an egress pass or in transmission, and those in a
delivery to a punt ring. -/
def State.copies (s : State) (d : Nat) : List Copy :=
  (s.queues.filter (fun kv => queueDie kv.1 = d)).flatMap Prod.snd ++
  s.frames.filterMap (fun kv => (kv.2.bind Frm.pass).bind (fun c => if c.port.any (fun p => portDie p = d) then some c else none)) ++
  (s.hosts.get {} d).held.filterMap (fun kv => kv.2.map Delivery.copy)

/-- Sum a measure over the copies that satisfy a condition. -/
def cellSum (l : List Copy) (p : Copy → Bool) (g : Copy → Nat) : Nat := ((l.filter p).map g).sum

/-- One copy of each multicast part among a list (R225). -/
def mcParts : List Copy → List Copy
  | [] => []
  | c :: r => if c.mcast && !r.any (fun x => x.mcast && x.part = c.part) then c :: mcParts r else mcParts r

/-- The copies whose cells are stored once each: unicast copies, and one of each multicast part. -/
def stored (l : List Copy) : List Copy := l.filter (fun c => !c.mcast) ++ mcParts l

/-- Cells in use of a die. -/
def usedCells (l : List Copy) : Nat := cellSum (stored l) (fun _ => true) Copy.written

/-- The die state of R430. -/
def State.diePState (s : State) (d : Nat) : Nat :=
  let all (v : Nat) : Bool := (List.range 8).all (fun i => s.sliceState (8 * d + i) = v)
  if all 0 then 0
  else if all 2 && decide (usedCells (s.copies d) = 0) && (List.range 64).all (fun h => (s.queueAt (hostQ d h)).isEmpty) then 2
  else 1

/-- The device state of R430. -/
def State.devPState (s : State) (d : Nat) : Nat :=
  if s.split d then s.diePState d
  else if s.diePState 0 = s.diePState 1 then s.diePState 0 else 1

/-! ### Control messages of the keel (R287) -/

def State.keelOf (s : State) (d : Nat) : KeelSt := s.keels.get {} d
def State.setKeel (s : State) (d : Nat) (x : KeelSt) : State := { s with keels := s.keels.set {} d x }

/-- Queue a control message for the other die (R287). -/
def State.sendCtrl (s : State) (d : Nat) (m : Ctrl) : State :=
  let k := s.keelOf d
  s.setKeel d { k with ctrl := k.ctrl ++ [{ num := k.nextCtrl, msg := m }], nextCtrl := k.nextCtrl + 1 }

/-! ### Access from a source (R40, R41, R7) -/

/-- Is a function's link up (R493, R388)? The I3C target reaches registers while the bow die is out of reset. -/
def State.sourceUp (s : State) (src : Source) : Bool :=
  match src with
  | .i3c => s.dieUp 0
  | .f0 => s.rolled 0 && s.fget (hifPg 0) F.HIF_UCIE_STATUS_IN_SERVICE != 0
  | .f1 => s.rolled 1 && s.fget (hifPg 1) F.HIF_UCIE_STATUS_IN_SERVICE != 0

/-- Is a page of a die mapped for a source: in split operation only those of the source's die, and in P2 those of the bow die for
I3C (R41, R73)? The OTP page is the bow die's. -/
def State.mapsDie (s : State) (src : Source) (p : Page) : Bool :=
  decide (p.die = src.die) || !(s.split src.die || (decide (src = .i3c) && decide (s.devPState src.die = 2)))

/-- The page an access reaches, if it is mapped for the source (R40, R41, R45, R60, R73). -/
def State.mapped (s : State) (src : Source) (idx : PageIdx) : Option Page :=
  match Page.ofIndex src.die (s.devInst src.die) idx.toNat with
  | none => none
  | some p => if p.kind = .device || s.mapsDie src p then some p else none

/-- Does an access to a page travel over the keel: is it a page of the other die (R41)? The device page, and the keel and cox
pages, of which each die has its own half, are not (DESIGN CHOICE: R41 names pages of a die). -/
def Page.far (p : Page) (src : Source) : Bool := p.kind != .device && decide (p.die ≠ src.die)

/-- An access to a page of the other die travels in keel control cells; a read waits for its answer (R41). -/
def State.carry (s : State) (op : RegOp) : State :=
  let s := s.sendCtrl op.src.die (.access op)
  let k := s.keelOf op.src.die
  if op.val.isSome then s else s.setKeel op.src.die { k with asked := k.asked ++ [op] }

/-- Count an access that reaches nothing: in the host interface page of the function, or the device page for I3C (R40). -/
def State.countUnmapped (s : State) (src : Source) : State :=
  match src with
  | .i3c => s.errCount ⟨.device, 0⟩
  | _ => s.errCount (hifPg src.die)

/-- The register that a command accesses, and the value of a write; none for a read. -/
abbrev RegWord := Nat × Option Word

/-- A write of a register, or of element `i` of an array. -/
def Fld.wr (f : Fld) (val : Word) (i : Nat := 0) : RegWord := (f.at i, some val)

/-- A write of a command register with its OP field in bits [31:30], and in bits [31:29]. -/
def Fld.cmd (f : Fld) (op : Nat) (val : Word) : RegWord := (f.off, some (Fld.put ⟨f.off, 0, 30, 2⟩ val op))
def Fld.cmd3 (f : Fld) (op : Nat) (val : Word) : RegWord := (f.off, some (Fld.put ⟨f.off, 0, 29, 3⟩ val op))

/-- An access: nothing happens when the source cannot reach the device; an unmapped page is counted; an access to a page of the
other die goes on its way; else `k` acts. -/
def State.access (s : State) (src : Source) (idx : PageIdx) (w : RegWord) (k : Page → State → State) : State :=
  if s.sourceUp src then
    match s.mapped src idx with
    | none => s.countUnmapped src
    | some p => if p.far src then s.carry ⟨src, idx, w.1, w.2⟩ else k p s
  else s

/-- A write of a register that only pages of kind `k` hold, on a page or a group page. A page that neither is of that
kind nor stands for units of it does not define the offset (R40). -/
def State.accessKind (s : State) (src : Source) (idx : PageIdx) (k : Kind) (w : RegWord) (f : Page → State → State) : State :=
  s.access src idx w (fun p s =>
    match s.targetsOf p k with
    | [] => s.countUnmapped src
    | ts => ts.foldl (fun s t => f t s) s)

/-- Has a register bits that a write reaches whoever holds the lock? -/
def Reg.open? (r : Reg) : Bool := r.rw ||| r.w1c ||| r.wo ||| r.w1s != 0

/-- A written value with the RWL bits of the register left as they are. -/
def State.keepRwl (s : State) (t : Page) (off : Nat) (r : Reg) (val : Word) : Word :=
  let m := BitVec.ofNat 32 r.rwl
  (val &&& ~~~m) ||| (s.reg t off &&& m)

/-- A write on page `on` of register `off` of units of one kind: `f` gives its effect on each. RWL bits change only when
the writer holds the lock of that page or of an ancestor; the refusal is counted once on the page written (R9, R59). -/
def State.writeUnits (s : State) (src : Source) (on : Page) (k : Kind) (off : Nat) (ts : List Page) (val : Word)
    (f : Page → Word → State → State) : State :=
  match k.reg? off with
  | none => s
  | some r =>
    if r.rwl = 0 ∨ s.holdsLock src on then ts.foldl (fun s t => f t val s) s
    else
      let s := s.errCount on
      if r.open? then ts.foldl (fun s t => f t (s.keepRwl t off r val) s) s else s

/-- As `accessKind` for a register with RWL fields. -/
def State.accessLocked (s : State) (src : Source) (idx : PageIdx) (k : Kind) (off : Nat) (val : Word)
    (f : Page → Word → State → State) : State :=
  s.access src idx (off, some val) (fun p s =>
    match s.targetsOf p k with
    | [] => s.countUnmapped src
    | ts => s.writeUnits src p k off ts val f)

/-- The answer of a command whose meaning always completes. -/
abbrev Res := Host.Outcome State Fault Refusal

/-- What a unit does of itself happens while it operates; its registers answer all the same (R50). -/
def State.ifOperates (s : State) (p : Page) (t : State) : Res := .next (if s.operates p then t else s)

end Sys2Proof.Machine
end

