-- ==== Sys2Proof/Machine/Clock.lean ====
section
/-!
DEFINITION. The time base of each die: full time, compact stamps and one AON_CLK period (10_time R300-R303).
-/
namespace Sys2Proof.Machine

def State.timeOf (s : State) (d : Nat) : TimeSt := s.times.get {} d
def State.setTime (s : State) (d : Nat) (t : TimeSt) : State := { s with times := s.times.set {} d t }

/-- 2^-16 ns in the unit of `TimeSt.fine`. -/
def fineUnit : Nat := 1000000000
/-- One nanosecond in 2^-16 ns. -/
def nsUnits : Nat := 65536

/-- Full time of a die in 2^-16 ns (R300). -/
def State.full (s : State) (d : Nat) : Nat := (s.timeOf d).fine / fineUnit
/-- Full time in whole nanoseconds. -/
def State.nowNs (s : State) (d : Nat) : Nat := s.full d / nsUnits
/-- The compact stamp of now (R301). -/
def State.stamp (s : State) (d : Nat) : DWord := BitVec.ofNat 64 (s.full d)
/-- Nanoseconds counted without steps: intervals and rates are measured on it. -/
def State.monoNs (s : State) (d : Nat) : Nat := (s.timeOf d).mono / fineUnit / nsUnits

/-- The signed difference of two compact stamps (R302). -/
def stampDiff (a b : DWord) : Int := (a - b).toInt

/-- The compact stamp of a full time. -/
def stampOf (full : Nat) : DWord := BitVec.ofNat 64 full

/-- FREQ of a die's time unit, in 2^-16 ppb (R303). -/
def State.freq (s : State) (d : Nat) : Int := (s.reg (timePg d) F.TIME_FREQ.off).toInt

/-- 20 ns × (1 + FREQ) (R303). -/
def tickLength (freq : Int) : Nat := (20 * nsUnits * fineUnit + 20 * freq).toNat

/-- One die's time advances by one tick. -/
def State.tickDie (s : State) (d : Nat) : State :=
  let t := s.timeOf d
  let n := tickLength (s.freq d)
  s.setTime d { t with fine := t.fine + n, mono := t.mono + n }

/-- One AON_CLK period: the time units count while power is good (R303, R490, R492). -/
def State.aonTick (s : State) : State :=
  if s.pins.pwrgood ∧ s.pins.aonClk then (s.tickDie 0).tickDie 1 else s

end Sys2Proof.Machine
end

