-- ==== Sys2Proof/Machine/Pmc.lean ====
section
/-!
DEFINITION. The programmable performance counters of a page (11 R360).
-/
namespace Sys2Proof.Machine

/-- What caused an event (PMC_SELn.SRC_…). -/
inductive PmcSrc where
  | host | engine | pipe
  deriving DecidableEq, Repr

/-- An event as the filters see it: attributes it lacks are none. -/
structure PmcEvent where
  code : Nat
  src : Option PmcSrc := none
  tc : Option Nat := none
  tenant : Option Nat := none
  port : Option Nat := none
  amount : Nat := 1

/-- The counters of a page lie 0x9000 lower on the host interface page. -/
def pmcOff (k : Kind) (f : Fld) : Fld := if k = .hif then { f with off := f.off - 0x9000 } else f

/-- Does an event pass the filters of counter `n` of a page? -/
def State.pmcPasses (s : State) (p : Page) (n : Nat) (e : PmcEvent) : Bool :=
  let g (f : Fld) := s.fget p (pmcOff p.kind f) n
  decide (g F.PMC_SEL_EN = 1) && decide (g F.PMC_SEL_EVENT = e.code) &&
  (match e.src with
    | some .host => decide (g F.PMC_SEL_SRC_HOST = 1)
    | some .engine => decide (g F.PMC_SEL_SRC_ENGINE = 1)
    | some .pipe => decide (g F.PMC_SEL_SRC_PIPE = 1)
    | none => decide (g F.PMC_SEL_SRC_HOST = 1) && decide (g F.PMC_SEL_SRC_ENGINE = 1) && decide (g F.PMC_SEL_SRC_PIPE = 1)) &&
  (match e.tc with | some c => (g F.PMC_SEL_TC).testBit c | none => decide (g F.PMC_SEL_TC = 0xFF)) &&
  (decide (g F.PMC_FILT_TENANT_EN = 0) || decide (e.tenant = some (g F.PMC_FILT_TENANT))) &&
  (decide (g F.PMC_FILT_PORT_EN = 0) || decide (e.port = some (g F.PMC_FILT_PORT)))

/-- Add to a counter: 63 bits, OVF kept in bit 63. -/
def pmcAdd (v : DWord) (n : Nat) : DWord :=
  let x := v.toNat % 2 ^ 63 + n
  BitVec.ofNat 64 (x % 2 ^ 63 + (if v.getLsbD 63 || decide (x ≥ 2 ^ 63) then 2 ^ 63 else 0))

/-- Show an event to every counter of a page. -/
def State.pmcEvent (s : State) (p : Page) (e : PmcEvent) : State :=
  (List.range 8).foldl (fun s n =>
    if s.pmcPasses p n e then
      let c := pmcOff p.kind F.PMC_CTR
      s.cset p c (pmcAdd (s.cget p c n) e.amount) n
    else s) s

end Sys2Proof.Machine
end

