-- ==== Sys2Proof/Machine/Dma.lean ====
section
/-!
DEFINITION. DMA: translation with its cache, segments, and faults with their records (13 R394-R400).
-/
namespace Sys2Proof.Machine

def State.hostOf (s : State) (d : Nat) : HostSt := s.hosts.get {} d
def State.setHost (s : State) (d : Nat) (h : HostSt) : State := { s with hosts := s.hosts.set {} d h }

/-- Fault types of R397. -/
def fRange : Nat := 1
def fNotPresent : Nat := 2
def fWrite : Nat := 3
def fBadPte : Nat := 4
def fWalk : Nat := 5

/-- Levels of a walk below and including level `n - 1` (R395): the physical page of 4 KiB and W, or the fault type. -/
def walkFrom (dva : Nat) : Nat → Walk → Except Nat (Nat × Bool)
  | 0, _ => .error fWalk
  | _ + 1, [] => .error fWalk
  | _ + 1, none :: _ => .error fWalk
  | n + 1, some e :: r =>
    let e := e.toNat
    if !bit e 0 then .error fNotPresent
    else if bits e 63 52 ≠ 0 ∨ bits e 11 8 ≠ 0 ∨ bits e 6 2 ≠ 0 then .error fBadPte
    else
      let a := bits e 51 12
      let inner := (dva / 4096) % 2 ^ (9 * n)
      if n = 0 then .ok (a, bit e 1)
      else if (n = 1 ∨ n = 2) ∧ bit e 7 then
        if a % 2 ^ (9 * n) ≠ 0 then .error fBadPte else .ok (a + inner, bit e 1)
      else walkFrom dva n r

/-- Translate an access within one 4 KiB page: the host physical address or the fault type, and the cache (R394-R397). -/
def State.translate (s : State) (d space dva : Nat) (write : Bool) (w : Walk) : Except Nat Nat × State :=
  let h := s.hostOf d
  if dva ≥ 2 ^ 48 then (.error fRange, s) else
  match s.fget (dtuPg d) F.DTU_SPACE_CFG_MODE space with
  | 1 => (.ok dva, s)
  | 2 =>
    let use (x : Nat × Bool) : Except Nat Nat := if write && !x.2 then .error fWrite else .ok (x.1 * 4096 + dva % 4096)
    let hit := if w.isEmpty then h.xlats.find? (fun x => x.space = space ∧ x.page = dva / 4096) else none
    match hit with
    | some x => (use (x.phys, x.writable), s)
    | none =>
      match walkFrom dva 4 w with
      | .error t => (.error t, s)
      | .ok x =>
        let old := h.xlats.filter (fun y => y.space ≠ space ∨ y.page ≠ dva / 4096)
        (use x, s.setHost d { h with xlats := ({ space := space, page := dva / 4096, phys := x.1, writable := x.2 } :: old).take 4096 })
  | _ => (.error fRange, s)

/-! ### Fault records (R398, R399) -/

/-- SOURCE of a stream. -/
def Stream.source : Stream → Nat
  | .fetch _ => 1 | .inject _ => 2 | .table _ => 3 | .cipher _ => 4 | .completion _ => 5 | .punt _ => 6 | .pool _ => 7
  | .snapshot => 8 | .dump => 9 | .engine _ _ _ => 10

/-- STREAM of a stream. -/
def Stream.num : Stream → Nat
  | .fetch r | .inject r | .table r | .cipher r | .completion r => r
  | .punt h => h
  | .pool p => p
  | .snapshot | .dump => 0
  | .engine e k _ => 32 * e + k

/-- The inject ring of a stream (R400). -/
def Stream.ring? : Stream → Option Nat
  | .fetch r | .inject r | .table r | .cipher r | .completion r => some r
  | _ => none

def State.recValid (s : State) (d n : Nat) : Bool := s.flag (dtuPg d) F.DTU_FAULT_INFO_VALID n

/-- Set or clear the VALID bits of a record. -/
def State.setRecValid (s : State) (d n : Nat) (b : Bool) : State :=
  let f := if n < 32 then F.DTU_FAULT_VALID_LO_VALID else F.DTU_FAULT_VALID_HI_VALID
  let pg := dtuPg d
  (s.bset pg F.DTU_FAULT_INFO_VALID b n).fset pg f (putBits (s.fget pg f) (n % 32) (n % 32) b.toNat)

/-- The valid record of the same space, 4 KiB page and direction as a fault. -/
def State.recFor (s : State) (d : Nat) (x : Suspended) : Option Nat :=
  let pg := dtuPg d
  (List.range 64).find? (fun n => s.recValid d n && decide (s.fget pg F.DTU_FAULT_INFO_SPACE n = x.space) &&
    decide (s.flag pg F.DTU_FAULT_INFO_WRITE n = x.write) &&
    decide (((s.reg pg (F.DTU_FAULT_ADDR_HI_DVA.at n)).toNat * 2 ^ 32 + (s.reg pg (F.DTU_FAULT_ADDR_LO_DVA.at n)).toNat) / 4096
      = x.dva / 4096))

/-- A fault joins a record, takes a free one or waits (R399): the stream as it is suspended. -/
def State.recTake (s : State) (d : Nat) (x : Suspended) : Suspended × State :=
  let pg := dtuPg d
  match s.recFor d x with
  | some n => ({ x with record := some n }, s.fsat pg F.DTU_FAULT_INFO_WAITERS 1 n)
  | none =>
    match (List.range 64).find? (fun n => !s.recValid d n) with
    | none => ({ x with record := none }, s)
    | some n =>
      let w := fieldAt x.stream.source 30 27 + fieldAt x.type 26 24 + fieldAt x.write.toNat 23 23 + fieldAt x.space 22 19 + 1
      let s := s.setReg pg (F.DTU_FAULT_INFO.at n) (BitVec.ofNat 32 w)
      let s := s.setReg pg (F.DTU_FAULT_ADDR_LO.at n) (BitVec.ofNat 32 x.dva)
      let s := s.setReg pg (F.DTU_FAULT_ADDR_HI.at n) (BitVec.ofNat 32 (x.dva / 2 ^ 32))
      let s := s.setReg pg (F.DTU_FAULT_STREAM.at n) (BitVec.ofNat 32 (x.stream.num % 65536))
      ({ x with record := some n }, (s.setRecValid d n true).raise pg 8)

/-- Bring DTU_STATUS.PENDING up to date. -/
def State.pendingRecs (s : State) (d : Nat) : State :=
  s.fset (dtuPg d) F.DTU_STATUS_PENDING (min 0xFFFF ((s.hostOf d).suspended.countP (fun x => x.record.isNone)))

/-- Suspend a stream by a fault (R398, R399). -/
def State.dmaFault (s : State) (d : Nat) (st : Stream) (type : Nat) (write : Bool) (space dva : Nat) : State :=
  let (x, s) := s.recTake d ⟨st, none, type, write, space, dva / 256 * 256⟩
  let h := s.hostOf d
  (s.setHost d { h with suspended := h.suspended ++ [x] }).pendingRecs d

def State.isSuspended (s : State) (d : Nat) (p : Stream → Bool) : Bool :=
  (s.hostOf d).suspended.any (fun x => p x.stream)

/-! ### Transfers -/

/-- DMA bytes moved (R360). -/
def State.dmaBytes (s : State) (d n : Nat) : State := s.pmcEvent (hifPg d) { code := 0x13, src := some .host, amount := n }

/-- Bytes of a transfer that lie in the 4 KiB page of its first byte. -/
def pageRun (dva len : Nat) : Nat := min len (4096 - dva % 4096)

/-- What a write leaves to do when it meets a fault: the rest of the bytes, from the boundary on (R398). -/
abbrev WriteRest := Option (Nat × List Byte)

/-- Write bytes to host memory, page by page, taking a walk for each page; a fault suspends the stream at the boundary and
leaves the rest. -/
def State.dmaWrite (s : State) (d : Nat) (st : Stream) (space : Nat) : Nat → Nat → List Byte → List Walk →
    WriteRest × List Walk × State
  | 0, dva, b, ws => (some (dva, b), ws, s)
  | fuel + 1, dva, b, ws =>
    if b.isEmpty then (none, ws, s) else
    let n := pageRun dva b.length
    match s.translate d space dva true (ws.headD []) with
    | (.error t, s) => (some (dva, b), ws.drop 1, s.dmaFault d st t true space dva)
    | (.ok a, s) =>
      ((s.emit (.hostWrite d a (b.take n))).dmaBytes d n).dmaWrite d st space fuel (dva + n) (b.drop n) (ws.drop 1)

/-- Write a list of runs in order; on a fault the rest of them. -/
def State.dmaWrites (s : State) (d : Nat) (st : Stream) (space : Nat) : List (Nat × List Byte) → List Walk →
    List (Nat × List Byte) × List Walk × State
  | [], ws => ([], ws, s)
  | (dva, b) :: r, ws =>
    match s.dmaWrite d st space (b.length / 4096 + 2) dva b ws with
    | (some x, ws, s) => (x :: r, ws, s)
    | (none, ws, s) => s.dmaWrites d st space r ws

/-- One page's part of a read: the bytes that arrive, at most the part's, or none after a fault that suspends the stream. -/
def State.dmaRead (s : State) (d : Nat) (st : Stream) (space dva len : Nat) (w : Walk) (data : List Byte) :
    Option (List Byte) × State :=
  let n := pageRun dva len
  match s.translate d space dva false w with
  | (.error t, s) => (none, s.dmaFault d st t false space dva)
  | (.ok _, s) => (some (data.take n), s.dmaBytes d (min n data.length))

end Sys2Proof.Machine
end

