-- ==== Sys2Proof/Machine/Pcs.lean ====
section
/-!
DEFINITION. Line coding of what a port transmits: 64b/66b blocks, the scrambler, 256b/257b transcoding and the lanes (03 R81, R90).
R90 takes the coding from IEEE 802.3: block type fields, the layout of a transcoded block, the order of transcoding and scrambling and
the size of the units that are dealt to the lanes are PRESUMED from its Clauses 49, 82 and 119.
-/
namespace Sys2Proof.Machine

/-- Bits of an octet, the least significant first, as they are sent. -/
def octetBits (b : Byte) : List Bool := (List.range 8).map b.getLsbD

/-- A 64b/66b block before its header: whether it holds data only, and its eight octets. -/
structure Block66 where
  data : Bool
  octets : List Byte
  deriving DecidableEq, Repr

/-- A control block: its type field, and the octets that follow, filled up with idle. -/
def Block66.control (type : Byte) (l : List Byte) : Block66 := ⟨false, type :: l ++ List.replicate (7 - l.length) 0⟩

/-- The type field of the block that ends a frame, by the data octets in it. -/
def terminateType : Nat → Byte
  | 0 => 0x87 | 1 => 0x99 | 2 => 0xAA | 3 => 0xB4 | 4 => 0xCC | 5 => 0xD2 | 6 => 0xE1 | _ => 0xFF

/-- The blocks of a run of octets that a terminate block ends. -/
def dataBlocks : Nat → List Byte → List Block66
  | 0, _ => []
  | fuel + 1, l =>
    if l.length < 8 then [.control (terminateType l.length) l] else ⟨true, l.take 8⟩ :: dataBlocks fuel (l.drop 8)

/-- The blocks of a frame with its check sequence: a start block with the preamble and the start delimiter, data, and the end. -/
def frameBlocks (delimiter : Byte) (b : List Byte) : List Block66 :=
  .control 0x78 (List.replicate 6 0x55 ++ [delimiter]) :: dataBlocks (b.length / 8 + 1) b

/-- The idle block. -/
def idleBlock : Block66 := .control 0x1E []

/-- The blocks of a frame filled up with idle to a multiple of four. -/
def fillBlocks (l : List Block66) : List Block66 := l ++ List.replicate ((4 - l.length % 4) % 4) idleBlock

/-- The two-bit sync header of a block. -/
def Block66.header (b : Block66) : List Bool := if b.data then [false, true] else [true, false]
def Block66.payload (b : Block66) : List Bool := b.octets.flatMap octetBits

/-- Scramble bits with the polynomial 1 + x^39 + x^58 (R90): the scrambler holds the last 58 bits it sent, the last in bit 0. -/
def scramble : BitVec 58 → List Bool → List Bool × BitVec 58
  | st, [] => ([], st)
  | st, b :: r =>
    let o := (b != st.getLsbD 38) != st.getLsbD 57
    let q := scramble (st <<< 1 ||| BitVec.ofNat 58 o.toNat) r
    (o :: q.1, q.2)

/-- Four blocks as one of 257 bits: data only, or with the headers of the four and without the second nibble of the first control block's
type field. -/
def transcode (l : List Block66) : List Bool :=
  if l.all Block66.data then true :: l.flatMap Block66.payload
  else
    let cut := (l.takeWhile Block66.data).length
    false :: l.map Block66.data ++ (l.zip (List.range l.length)).flatMap (fun x =>
      if x.2 = cut then x.1.payload.take 4 ++ x.1.payload.drop 8 else x.1.payload)

/-- Cut a list into runs of `n`. -/
def runsOf {α : Type} (n : Nat) : Nat → List α → List (List α)
  | 0, _ => []
  | fuel + 1, l => if l.isEmpty then [] else l.take n :: runsOf n fuel (l.drop n)

/-- Units that are dealt to the lanes of a port, and the scrambler after them: FEC symbols of 10 bits from transcoded blocks with
RS-FEC, else whole 66-bit blocks (R90). -/
def codeUnits (rs : Bool) (st : BitVec 58) (l : List Block66) : List (List Bool) × BitVec 58 :=
  if rs then
    let q := scramble st ((runsOf 4 (l.length / 4 + 1) l).flatMap transcode)
    (runsOf 10 (q.1.length / 10 + 1) q.1, q.2)
  else l.foldl (fun (r : List (List Bool) × BitVec 58) b =>
    let q := scramble r.2 b.payload
    (r.1 ++ [b.header ++ q.1], q.2)) ([], st)

/-- What lane `k` of `w` sends: every w-th unit from the k-th on. -/
def laneUnits (units : List (List Bool)) (w k : Nat) : List Bool :=
  ((units.zip (List.range units.length)).filter (fun x => x.2 % w = k)).flatMap Prod.fst

end Sys2Proof.Machine
end

