-- ==== Sys2Proof/Machine/Tables.lean ====
section
/-!
DEFINITION. The forwarding tables of a slice copy: exact match and tenant map with their placement, LPM prefix sets,
next hops, groups and members, action words and flow counters, parity, and the table access lock
(05_match_action_tables R151-R167).
-/
namespace Sys2Proof.Machine

def State.tab (s : State) (sl : Nat) : SliceTab := s.tabs.get {} sl
def State.setTab (s : State) (sl : Nat) (t : SliceTab) : State := { s with tabs := s.tabs.set {} sl t }
def State.updTab (s : State) (sl : Nat) (f : SliceTab → SliceTab) : State := s.setTab sl (f (s.tab sl))

/-! ### Parity (R163, R164) -/

/-- Table numbers of R165 and TBL_PARITY_LAST. -/
def tidEm : Nat := 0
def tidTmap : Nat := 1
def tidNexthop : Nat := 2
def tidGroup : Nat := 3
def tidMember : Nat := 4
def tidAction : Nat := 5
def tidTcamAct : Nat := 6
def tidFlow : Nat := 7
def tidLpm4 : Nat := 8
def tidLpm6 : Nat := 9

/-- Does the parity of an entry fail? -/
def State.isBad (s : State) (sl tid idx : Nat) : Bool := (s.tab sl).bad.contains (tid, idx)

/-- A written entry has good parity. -/
def State.clearBad (s : State) (sl tid idx : Nat) : State :=
  s.updTab sl (fun t => { t with bad := t.bad.erase (tid, idx), repairs := t.repairs.erase (tid, idx) })

/-- Entries of a copy found with failing parity from now on. -/
def State.markBad (s : State) (sl : Nat) (l : List (Nat × Nat)) : State :=
  s.updTab sl (fun t => { t with bad := t.bad ++ l.filter (fun x => !t.bad.contains x) })

/-- The trie level of a prefix length (R155). -/
def lpmLevel (v6 : Bool) (len : Nat) : Nat :=
  let l0 := if v6 then 20 else 16
  if len ≤ l0 then 0 else (len - l0 - 1) / 4 + 1

/-- INDEX of TBL_PARITY_LAST for the entry of a prefix (R164): at level 0 the direct index of the prefix's first entry; below it the
slot of the node, which is open and the same for every error of that node. -/
def lpmIndex (sl tid lvl idx : Nat) : Nat :=
  let v6 := decide (tid = tidLpm6)
  let len := idx / 2 ^ 128
  let pfx := idx % 2 ^ 128
  if lvl = 0 then pfx * 2 ^ ((if v6 then 20 else 16) - len)
  else (Config.lpmSlot sl tid lvl (pfx / 2 ^ (len - ((if v6 then 16 else 12) + 4 * lvl)))).toNat

/-- Report a parity error of an entry and queue its repair (R163, R164, R176, R177). -/
def State.parityError (s : State) (sl tid idx : Nat) : State :=
  let pg := slicePg sl
  let lpm := tid = tidLpm4 ∨ tid = tidLpm6
  let lvl := if lpm then lpmLevel (tid = tidLpm6) (idx / 2 ^ 128) else 0
  let slot := if lpm then lpmIndex sl tid lvl idx else idx
  let w := 2 ^ 31 + fieldAt tid 27 24 + fieldAt lvl 22 18 + slot % 2 ^ 18
  let s := (s.cadd pg F.TBL_PARITY_ERRORS).setReg pg F.TBL_PARITY_LAST.off (BitVec.ofNat 32 w)
  let s := s.raise pg 8
  if s.flag pg F.TBL_PARITY_CFG_REPAIR ∧ tid ≠ tidFlow ∧ !(s.tab sl).repairs.contains (tid, idx) then
    s.updTab sl (fun t => { t with repairs := t.repairs ++ [(tid, idx)] })
  else s

/-! ### Exact match and tenant map (R115, R151-R154) -/

/-- One bit of the bucket hash of R152. -/
def hashBit (c : Word) (b : Bool) : Word :=
  if c.getLsbD 0 != b then (c >>> 1) ^^^ crc32cPoly else c >>> 1

/-- The CRC of R152 over the `n` bits of `s`, bit n − 1 first. -/
def hashString (seed : Word) (n s : Nat) : Word :=
  (List.range n).foldl (fun c i => hashBit c (s.testBit (n - 1 - i))) seed

/-- A key as its hash string (R152): width in bits, string, and slots its entry takes. The string names the key. -/
structure HashKey where
  n : Nat
  str : Nat
  slots : Nat
  deriving DecidableEq, Repr

/-- Which hash table: the exact-match table or the tenant map. -/
inductive Hashed where
  | em | tmap
  deriving DecidableEq, Repr

def Hashed.bucketBits : Hashed → Nat
  | .em => 15 | .tmap => 13

def Hashed.tid : Hashed → Nat
  | .em => 0 | .tmap => 1

/-- VALID of an entry. -/
def Hashed.valid (h : Hashed) (e : BitVec 128) : Bool :=
  match h with
  | .em => e.getLsbD 127
  | .tmap => e.getLsbD 63

/-- Keys: a MAC in a bridge domain, an IPv4 host, an IPv6 host, a tenant-map key (R152). -/
def keyMac (bd mac : Nat) : HashKey := ⟨66, fieldAt bd 63 50 + mac % 2 ^ 48, 1⟩
def keyV4 (vrf ip : Nat) : HashKey := ⟨66, 2 ^ 64 + fieldAt vrf 63 52 + ip % 2 ^ 32, 1⟩
def keyV6 (vrf ip : Nat) : HashKey := ⟨142, 2 ^ 141 + fieldAt vrf 139 128 + ip % 2 ^ 128, 2⟩
def keyTmap (kind any : Bool) (port val : Nat) : HashKey :=
  ⟨36, kind.toNat * 2 ^ 35 + any.toNat * 2 ^ 34 + fieldAt port 33 24 + val % 2 ^ 24, 1⟩

/-- The key that the entry at an index holds; none for a free slot, a B half or half a pair. -/
def Hashed.keyAt (h : Hashed) (m : Sparse (BitVec 128)) (i : Nat) : Option HashKey :=
  let e := (m.get 0 i).toNat
  match h with
  | .tmap =>
    if bit e 63 then some (keyTmap (bit e 61) (bit e 62) (bits e 60 51) (bits e 50 27)) else none
  | .em =>
    if !bit e 127 then none
    else if bits e 126 125 ≤ 1 then some ⟨66, bits e 126 125 * 2 ^ 64 + bits e 119 56, 1⟩
    else if bits e 126 125 = 2 ∧ i % 2 = 0 then
      let b := (m.get 0 (i + 1)).toNat
      if bit b 127 ∧ bits b 126 125 = 3 then
        some (keyV6 (bits e 119 108) (fieldAt (bits e 107 56) 127 76 + fieldAt (bits b 119 56) 75 12 + bits b 55 44))
      else none
    else none

/-- First index of a key's bucket in a way. -/
def Hashed.bucket (h : Hashed) (seeds : Nat → Word) (w : Nat) (k : HashKey) : Nat :=
  let nb := 2 ^ h.bucketBits
  w * 4 * nb + 4 * ((hashString (seeds w) k.n k.str).toNat % nb)

/-- Index of a key: way 0 before way 1 (R152). -/
def Hashed.find (h : Hashed) (seeds : Nat → Word) (m : Sparse (BitVec 128)) (k : HashKey) : Option Nat :=
  ((List.range 4).map (h.bucket seeds 0 k + ·) ++ (List.range 4).map (h.bucket seeds 1 k + ·)).find?
    (fun i => h.keyAt m i = some k)

/-- Lowest free slot, or aligned pair, of a bucket, with the slots of `freed` counted as free (R153). -/
def Hashed.room (h : Hashed) (m : Sparse (BitVec 128)) (base slots : Nat) (freed : List Nat) : Option Nat :=
  ((List.range (4 / slots)).map (fun j => base + slots * j)).find?
    (fun i => (List.range slots).all (fun j => freed.contains (i + j) || !h.valid (m.get 0 (i + j))))

/-- Write entries to consecutive slots. -/
def putSlots (m : Sparse (BitVec 128)) (i : Nat) (es : List (BitVec 128)) : Sparse (BitVec 128) :=
  (es.zip (List.range es.length)).foldl (fun m ej => m.set 0 (i + ej.2) ej.1) m

/-- The other way's bucket for the entry at an index. -/
def Hashed.other (h : Hashed) (seeds : Nat → Word) (i : Nat) (k : HashKey) : Nat :=
  h.bucket seeds (1 - i / (4 * 2 ^ h.bucketBits)) k

/-- Move the entry at an index to its other bucket: the new slot is written before the old one is cleared (R153). -/
def Hashed.move (h : Hashed) (seeds : Nat → Word) (m : Sparse (BitVec 128)) (i : Nat) : Option (Sparse (BitVec 128)) :=
  match h.keyAt m i with
  | none => none
  | some k =>
    match h.room m (h.other seeds i k) k.slots [] with
    | none => none
    | some j =>
      let es := (List.range k.slots).map (fun x => m.get 0 (i + x))
      some (putSlots (putSlots m j es) i (es.map (fun _ => 0)))

/-- Carry out a relocation path from its end backwards, then place the entries (R153). -/
def Hashed.relocate (h : Hashed) (seeds : Nat → Word) (m : Sparse (BitVec 128)) (es : List (BitVec 128))
    (path : List Nat) : Option (Sparse (BitVec 128) × Nat) :=
  let rec go : List Nat → Sparse (BitVec 128) → Option (Sparse (BitVec 128))
    | [], m => some m
    | i :: r, m => (h.move seeds m i).bind (go r)
  (go path.reverse m).bind (fun m =>
    (h.room m (path.headD 0 / 4 * 4) es.length []).map (fun j => (putSlots m j es, j)))

/-- Breadth-first search for a relocation path of at most four moves (R153). A candidate is a bucket, the slots needed
there and the moves that lead to it. -/
def Hashed.search (h : Hashed) (seeds : Nat → Word) (m : Sparse (BitVec 128)) (es : List (BitVec 128)) :
    Nat → List (Nat × Nat × List Nat) → Option (Sparse (BitVec 128) × Nat × Nat)
  | 0, _ => none
  | fuel + 1, level =>
    let steps := level.flatMap (fun c => (List.range 4).filterMap (fun j =>
      let i := c.1 + j
      match h.keyAt m i with
      | none => none
      | some k =>
        if c.2.2.contains i then none
        else if (h.room m c.1 c.2.1 ((List.range k.slots).map (i + ·))).isNone then none
        else some (h.other seeds i k, k.slots, c.2.2 ++ [i])))
    let done := steps.findSome? (fun c =>
      if (h.room m c.1 c.2.1 []).isSome then
        (h.relocate seeds m es c.2.2).map (fun r => (r.1, r.2, c.2.2.length))
      else none)
    match done with
    | some r => some r
    | none => h.search seeds m es fuel (steps.filter (fun c => (h.room m c.1 c.2.1 []).isNone))

/-- Place a new key's entries (R153 steps 2 to 4): the table, the index and the moves made. -/
def Hashed.place (h : Hashed) (seeds : Nat → Word) (m : Sparse (BitVec 128)) (k : HashKey) (es : List (BitVec 128)) :
    Option (Sparse (BitVec 128) × Nat × Nat) :=
  let b0 := h.bucket seeds 0 k
  let b1 := h.bucket seeds 1 k
  match h.room m b0 k.slots [] with
  | some i => some (putSlots m i es, i, 0)
  | none =>
    match h.room m b1 k.slots [] with
    | some i => some (putSlots m i es, i, 0)
    | none => h.search seeds m es 4 [(b0, k.slots, []), (b1, k.slots, [])]

def State.hashTable (s : State) (h : Hashed) (sl : Nat) : Sparse (BitVec 128) :=
  match h with
  | .em => (s.tab sl).em
  | .tmap => (s.tab sl).tmap

def State.setHashTable (s : State) (h : Hashed) (sl : Nat) (m : Sparse (BitVec 128)) : State :=
  match h with
  | .em => s.updTab sl (fun t => { t with em := m })
  | .tmap => s.updTab sl (fun t => { t with tmap := m })

/-- The way seeds of a slice (R152, R154). -/
def State.seeds (s : State) (sl : Nat) (w : Nat) : Word := s.reg (slicePg sl) (F.TBL_EM_SEED.at w)

def State.hashFind (s : State) (h : Hashed) (sl : Nat) (k : HashKey) : Option Nat :=
  h.find (s.seeds sl) (s.hashTable h sl) k

/-- The outcome of an INSERT: OK with an index, or FULL. -/
inductive Placed where
  | ok (i : Nat) | full
  deriving DecidableEq, Repr

/-- Insert a key, or replace the result of one that is present (R153). TBL_EM_RELOCATIONS counts relocations of exact-match entries;
those of tenant-map entries are not counted (DESIGN CHOICE: R115 gives the tenant map the exact-match rules and does not say that
they count there). -/
def State.hashInsert (s : State) (h : Hashed) (sl : Nat) (k : HashKey) (es : List (BitVec 128)) : Placed × State :=
  let m := s.hashTable h sl
  let fresh (s : State) (i : Nat) := (List.range k.slots).foldl (fun s j => s.clearBad sl h.tid (i + j)) s
  match h.find (s.seeds sl) m k with
  | some i => (.ok i, fresh (s.setHashTable h sl (putSlots m i es)) i)
  | none =>
    match h.place (s.seeds sl) m k es with
    | some (m', i, moves) =>
      (.ok i, fresh ((s.setHashTable h sl m').cadd (slicePg sl) F.TBL_EM_RELOCATIONS (if h = .em then moves else 0)) i)
    | none => (.full, s)

/-- Delete a key; false when it is absent. -/
def State.hashDelete (s : State) (h : Hashed) (sl : Nat) (k : HashKey) : Bool × State :=
  match s.hashFind h sl k with
  | none => (false, s)
  | some i =>
    let s := s.setHashTable h sl (putSlots (s.hashTable h sl) i (List.replicate k.slots 0))
    (true, (List.range k.slots).foldl (fun s j => s.clearBad sl h.tid (i + j)) s)

/-- The entries of a key's two candidate buckets whose parity fails: a lookup reads both (R152, R163). -/
def State.badSlots (s : State) (h : Hashed) (sl : Nat) (k : HashKey) : List Nat :=
  ([0, 1].flatMap (fun w => (List.range 4).map (h.bucket (s.seeds sl) w k + ·))).filter (s.isBad sl h.tid)

/-- A frame's or engine's read: the entry, or a miss. Every entry read whose parity fails is reported, and one that holds the key is a
miss (R163). -/
def State.hashRead (s : State) (h : Hashed) (sl : Nat) (k : HashKey) : Option (Nat × BitVec 128) × State :=
  let bad := if (s.tab sl).bad.isEmpty then [] else s.badSlots h sl k
  let found := (s.hashFind h sl k).filter (fun i => (List.range k.slots).all (fun j => !bad.contains (i + j)))
  (found.map (fun i => (i, (s.hashTable h sl).get 0 i)), bad.foldl (fun s i => s.parityError sl h.tid i) s)

/-- The two halves of an IPv6 host pair (R151), from the flag bits [127:120], the VRF, the address and the result
bits [55:0] of the A half. -/
def pairEntries (flags vrf ip result : Nat) : List (BitVec 128) :=
  [BitVec.ofNat 128 (fieldAt flags 127 120 ||| fieldAt 2 126 125 ||| fieldAt vrf 119 108 ||| fieldAt (ip >>> 76) 107 56 |||
     fieldAt result 55 0),
   BitVec.ofNat 128 ((if bit flags 7 then 2 ^ 127 else 0) ||| fieldAt 3 126 125 |||
     fieldAt (ip >>> 12) 119 56 ||| fieldAt ip 55 44)]

/-- What a hit or an insert changes in an entry that is kept whole: rewrite the A half's word. -/
def State.emRewrite (s : State) (sl i : Nat) (f : Nat → Nat) : State :=
  let m := (s.tab sl).em
  (s.setHashTable .em sl (m.set 0 i (BitVec.ofNat 128 (f (m.get 0 i).toNat)))).clearBad sl tidEm i

/-! ### LPM (R155-R157) -/

def lpmWidth (v6 : Bool) : Nat := if v6 then 128 else 32
def lpmKey (len pfx : Nat) : Nat := len * 2 ^ 128 + pfx
/-- The parent width of level i: 12 + 4i or 16 + 4i bits (R156). -/
def lpmParent (v6 : Bool) (i : Nat) : Nat := (if v6 then 16 else 12) + 4 * i
def lpmTotal (v6 : Bool) : Nat := if v6 then 524288 else 1048576
/-- Levels below level 0. -/
def lpmLevels (v6 : Bool) : Nat := if v6 then 27 else 4
/-- Node capacity of level i ≥ 1 (R155). -/
def lpmCap (v6 : Bool) (i : Nat) : Nat :=
  if v6 then (if i ≤ 3 then 16384 else if i ≤ 7 then 32768 else if i ≤ 11 then 65536 else 4096)
  else if i = 1 then 65536 else if i = 2 then 131072 else if i = 3 then 32768 else 16384

def SliceTab.lpm (t : SliceTab) (v6 : Bool) : Sparse (Option (BitVec 18)) := if v6 then t.lpm6 else t.lpm4

def State.setLpm (s : State) (sl : Nat) (v6 : Bool) (m : Sparse (Option (BitVec 18))) : State :=
  s.updTab sl (fun t => if v6 then { t with lpm6 := m } else { t with lpm4 := m })

/-- The distinct parents of a prefix set at level i (R156). -/
def lpmParents (m : Sparse (Option (BitVec 18))) (v6 : Bool) (i : Nat) : List Nat :=
  let pb := lpmParent v6 i
  (m.filterMap (fun kv => if kv.1 / 2 ^ 128 > pb then some (kv.1 % 2 ^ 128 / 2 ^ (kv.1 / 2 ^ 128 - pb)) else none)).eraseDups

/-- How an LPM INSERT can fail (R156). -/
inductive LpmFit where
  | fits | fullResult | fullNode (level : Nat)
  deriving DecidableEq, Repr

/-- Would the set with one more prefix fit (R156)? -/
def lpmFit (m : Sparse (Option (BitVec 18))) (v6 : Bool) (len pfx : Nat) : LpmFit :=
  if (m.get none (lpmKey len pfx)).isSome then .fits
  else if m.length ≥ lpmTotal v6 then .fullResult
  else
    let m' := m.set none (lpmKey len pfx) (some 0)
    match ((List.range (lpmLevels v6)).map (· + 1)).find? (fun i =>
        len > lpmParent v6 i && decide ((lpmParents m' v6 i).length > lpmCap v6 i)) with
    | some i => .fullNode i
    | none => .fits

/-- Insert a prefix or replace its result (R156, R157). -/
def State.lpmInsert (s : State) (sl : Nat) (v6 : Bool) (len addr : Nat) (res : BitVec 18) : LpmFit × State :=
  let m := (s.tab sl).lpm v6
  let pfx := addr / 2 ^ (lpmWidth v6 - len)
  match lpmFit m v6 len pfx with
  | .fits => (.fits, (s.setLpm sl v6 (m.set none (lpmKey len pfx) (some res))).clearBad sl
      (if v6 then tidLpm6 else tidLpm4) (lpmKey len pfx))
  | r => (r, s)

def State.lpmDelete (s : State) (sl : Nat) (v6 : Bool) (len addr : Nat) : Bool × State :=
  let m := (s.tab sl).lpm v6
  let k := lpmKey len (addr / 2 ^ (lpmWidth v6 - len))
  ((m.get none k).isSome, (s.setLpm sl v6 (m.set none k none)).clearBad sl (if v6 then tidLpm6 else tidLpm4) k)

/-- The longest prefix that covers an address, with its result (R155). -/
def lpmFind (m : Sparse (Option (BitVec 18))) (v6 : Bool) (addr : Nat) : Option (Nat × BitVec 18) :=
  (List.range (lpmWidth v6 + 1)).reverse.findSome? (fun len =>
    (m.get none (lpmKey len (addr / 2 ^ (lpmWidth v6 - len)))).map (fun r => (len, r)))

/-- The entries on an address's path through a trie whose parity fails, from the root down (R155, R163). -/
def State.badPrefixes (s : State) (sl : Nat) (v6 : Bool) (addr : Nat) : List Nat :=
  ((List.range (lpmWidth v6 + 1)).map (fun len => lpmKey len (addr / 2 ^ (lpmWidth v6 - len)))).filter
    (s.isBad sl (if v6 then tidLpm6 else tidLpm4))

/-- A lookup by a frame or an engine: every error on its path is reported, and any makes it a miss (R163). -/
def State.lpmRead (s : State) (sl : Nat) (v6 : Bool) (addr : Nat) : Option (Nat × BitVec 18) × State :=
  match (if (s.tab sl).bad.isEmpty then [] else s.badPrefixes sl v6 addr) with
  | [] => (lpmFind ((s.tab sl).lpm v6) v6 addr, s)
  | bad => (none, bad.foldl (fun s k => s.parityError sl (if v6 then tidLpm6 else tidLpm4) k) s)

/-! ### Groups, members and pruning (R147, R158, R159) -/

/-- PORT_STATUS.STATE = UP (R94). -/
def State.portUp (s : State) (p : Nat) : Bool := decide (s.fget (portPg p) F.PORT_STATUS_STATE = 5)

/-- Is member `i` of a copy clear of PRUNED_LINK for port `p`: its membership has been restored since the port entered UP, or
the member was written while the port was UP? The copies of the other die learn of a change by control cell (R98, R99,
R159). -/
def State.portEligible (s : State) (sl i p : Nat) : Bool :=
  let l := s.links.get {} p
  (if portDie p = sliceDie sl then l.eligible else l.eligibleFar) || (s.tab sl).fresh.contains i

/-- The members of a group word, in index order. -/
def groupMembers (g : Nat) : List Nat := (List.range (bits g 41 32)).map (bits g 59 42 + ·)

/-- Is a port on the die opposite to a slice's, in split operation? -/
def State.keelPruned (s : State) (sl p : Nat) : Bool := s.split (sliceDie sl) && decide (portDie p ≠ sliceDie sl)

/-- PRUNED_LINK and PRUNED_KEEL of a LAG member (R159, R294). -/
def State.lagPrune (s : State) (sl i : Nat) (m : Nat) : Bool × Bool :=
  (!s.portEligible sl i (bits m 15 0), s.keelPruned sl (bits m 15 0))

/-- Members of a LAG group with VALID = 1 and neither prune bit. -/
def State.lagEligible (s : State) (sl g : Nat) : List Nat :=
  let w := ((s.tab sl).group.get 0 g).toNat
  if !bit w 63 then [] else
  (groupMembers w).filter (fun i =>
    let m := ((s.tab sl).member.get 0 i).toNat
    bit m 31 && !(s.lagPrune sl i m).1 && !(s.lagPrune sl i m).2)

/-- Has some VALID member of a LAG group PRUNED_KEEL? -/
def State.lagAny (s : State) (sl g : Nat) : Bool :=
  let w := ((s.tab sl).group.get 0 g).toNat
  bit w 63 && (groupMembers w).any (fun i =>
    let m := ((s.tab sl).member.get 0 i).toNat
    bit m 31 && (s.lagPrune sl i m).2)

/-- PRUNED_LINK and PRUNED_KEEL of a member of a group of the given kind; an ECMP member whose LAG has no eligible member has
both when the keel has pruned one of the LAG's (R159, R294). -/
def State.memberPrune (s : State) (sl : Nat) (lag : Bool) (i m : Nat) : Bool × Bool :=
  if lag then s.lagPrune sl i m else
  let n := ((s.tab sl).nexthop.get 0 (bits m 15 0)).toNat
  if !bit n 127 then (false, false)
  else if bits n 126 125 = 0 then (!s.portEligible sl i (bits n 124 115), s.keelPruned sl (bits n 124 115))
  else if bits n 126 125 = 1 then
    let g := bits n 114 102
    let empty := (s.lagEligible sl g).isEmpty
    (empty, empty && s.lagAny sl g)
  else (false, false)

/-- Indices of the eligible members of a group word (R147). -/
def State.eligible (s : State) (sl : Nat) (g : Nat) : List Nat :=
  if !bit g 63 then [] else
  (groupMembers g).filter (fun i =>
    let m := ((s.tab sl).member.get 0 i).toNat
    let pr := s.memberPrune sl (bit g 62) i m
    bit m 31 && !pr.1 && !pr.2)

/-- Is the emptiness of a group put down to the keel (R147)? -/
def State.keelEmpty (s : State) (sl : Nat) (g : Nat) : Bool :=
  bit g 63 && (groupMembers g).any (fun i =>
    let m := ((s.tab sl).member.get 0 i).toNat
    bit m 31 && (s.memberPrune sl (bit g 62) i m).2)

/-- A member word as read: the prune bits come from the lowest valid group that holds it. -/
def State.memberWord (s : State) (sl i : Nat) : Nat :=
  let m := ((s.tab sl).member.get 0 i).toNat
  match (s.tab sl).group.find? (fun g => bit g.2.toNat 63 && (groupMembers g.2.toNat).contains i) with
  | none => m
  | some g =>
    let pr := s.memberPrune sl (bit g.2.toNat 62) i m
    if bit m 31 then putBits (putBits m 30 30 pr.1.toNat) 29 29 pr.2.toNat else m

/-- A group word as read: ACTIVE counts the eligible members (R158). -/
def State.groupWord (s : State) (sl i : Nat) : Nat :=
  let g := ((s.tab sl).group.get 0 i).toNat
  putBits g 31 22 (s.eligible sl g).length

/-! ### Tables by index (R165-R167) -/

/-- Entries of a table per slice; none for a table register access does not reach. -/
def tableSize : Nat → Option Nat
  | 0 => some 262144 | 1 => some 65536 | 2 => some 65536 | 3 => some 8192 | 4 => some 262144 | 5 => some 98304
  | 6 => some 16384 | 7 => some 16384 | _ => none

/-- Bytes of an entry (R165). -/
def entryBytes : Nat → Nat
  | 1 => 8 | 3 => 8 | 4 => 4 | 15 => 32 | _ => 16

/-- An entry of tables 0x0 to 0x7 as read. -/
def State.tableRead (s : State) (sl tid i : Nat) : Nat :=
  match tid with
  | 0 => ((s.tab sl).em.get 0 i).toNat
  | 1 => ((s.tab sl).tmap.get 0 i).toNat
  | 2 => ((s.tab sl).nexthop.get 0 i).toNat
  | 3 => s.groupWord sl i
  | 4 => s.memberWord sl i
  | 5 => ((s.tab sl).action.get 0 i).toNat
  | 6 => ((s.tab sl).tcamAct.get 0 i).toNat
  | 7 => ((s.tab sl).flow.get 0 i).toNat
  | _ => 0

/-- Members whose PRUNED_LINK the device sets anew when a member or a next hop is written (R159). -/
def SliceTab.touched (t : SliceTab) (tid i : Nat) : List Nat :=
  if tid = 4 then [i]
  else if tid = 2 then
    (t.member.filter (fun m => bits m.2.toNat 15 0 = i && t.group.any (fun g =>
      bit g.2.toNat 63 && !bit g.2.toNat 62 && (groupMembers g.2.toNat).contains m.1))).map Prod.fst
  else []

/-- The port that a member names: the TARGET of a LAG member, the EGRESS_PORT of an ECMP member's UNICAST next hop (R159). A
member that no valid group holds may name either. -/
def SliceTab.memberPorts (t : SliceTab) (i : Nat) : List Nat :=
  let m := bits (t.member.get 0 i).toNat 15 0
  let n := (t.nexthop.get 0 m).toNat
  let kinds := (t.group.filter (fun g => bit g.2.toNat 63 && (groupMembers g.2.toNat).contains i)).map (fun g => bit g.2.toNat 62)
  (if kinds.isEmpty ∨ kinds.contains true then [m] else []) ++
    (if (kinds.isEmpty ∨ kinds.contains false) ∧ bit n 127 ∧ bits n 126 125 = 0 then [bits n 124 115] else [])

/-- Give the members that a write touches their PRUNED_LINK from the present state of their ports (R159). -/
def State.touchMembers (s : State) (sl tid i : Nat) : State :=
  let up (t : SliceTab) (m : Nat) : Bool := (t.memberPorts m).any s.portUp
  s.updTab sl (fun t =>
    let l := t.touched tid i
    { t with fresh := t.fresh.filter (fun m => !l.contains m) ++ l.filter (up t) })

/-- Write an entry of tables 0x2 to 0x7 (R158, R159: bits kept by the device are not written). -/
def State.tableWrite (s : State) (sl tid i v : Nat) : State :=
  let s := s.clearBad sl tid i
  (match tid with
  | 2 => s.updTab sl (fun t => { t with nexthop := t.nexthop.set 0 i (BitVec.ofNat 128 v) })
  | 3 => s.updTab sl (fun t => { t with group := t.group.set 0 i (BitVec.ofNat 64 (putBits v 31 22 0)) })
  | 4 => s.updTab sl (fun t => { t with member := t.member.set 0 i (BitVec.ofNat 32 (putBits v 30 29 0)) })
  | 5 => s.updTab sl (fun t => { t with action := t.action.set 0 i (BitVec.ofNat 128 v) })
  | 6 => s.updTab sl (fun t => { t with tcamAct := t.tcamAct.set 0 i (BitVec.ofNat 128 v) })
  | 7 => s.updTab sl (fun t => { t with flow := t.flow.set 0 i (BitVec.ofNat 128 v) })
  | _ => s : State).touchMembers sl tid i


/-- Is table `t` of a copy locked (R166)? -/
def State.granted (s : State) (sl t : Nat) : Bool := bit (s.fget (slicePg sl) F.TBL_ACCESS_LOCK_GRANTED) t

/-- An index command (R165, R167). -/
def State.idxCmd (s : State) (sl : Nat) (write : Bool) (val : Word) : State :=
  let pg := slicePg sl
  let s := s.putRw pg F.TBL_IDX_CMD.off val
  let tid := F.TBL_IDX_CMD_TABLE.of val
  let i := F.TBL_IDX_CMD_INDEX.of val
  let ok := match tableSize tid with
    | none => false
    | some n => decide (i < n) && !(write && decide (tid < 2))
  let s := s.bset pg F.TBL_IDX_CMD_ERR (!ok)
  if !ok then s
  else if write then s.tableWrite sl tid i (s.words pg F.TBL_IDX_DATA 4)
  else s.setWords pg F.TBL_IDX_DATA 4 (s.tableRead sl tid i)

def execTblIdxWrite (src : Source) (page : PageIdx) (val : Word) (s : State) : Res :=
  .next (s.accessKind src page .slice (F.TBL_IDX_CMD.cmd 1 val) (fun p s => s.idxCmd p.n true val))

def execTblIdxRead (src : Source) (page : PageIdx) (val : Word) (s : State) : Res :=
  .next (s.accessKind src page .slice (F.TBL_IDX_CMD.cmd 2 val) (fun p s => s.idxCmd p.n false val))

/-! ### Repair (R164, R166) -/

/-- The bit that holds VALID in a table's entry. -/
def validBit : Nat → Nat
  | 1 => 63 | 3 => 63 | 4 => 31 | _ => 127

/-- Copy one entry between the tables of two slices. -/
def copyEntry (frm dst : SliceTab) (tid i : Nat) : SliceTab :=
  match tid with
  | 0 => { dst with em := dst.em.set 0 i (frm.em.get 0 i) }
  | 1 => { dst with tmap := dst.tmap.set 0 i (frm.tmap.get 0 i) }
  | 2 => { dst with nexthop := dst.nexthop.set 0 i (frm.nexthop.get 0 i) }
  | 3 => { dst with group := dst.group.set 0 i (frm.group.get 0 i) }
  | 4 => { dst with member := dst.member.set 0 i (frm.member.get 0 i) }
  | 5 => { dst with action := dst.action.set 0 i (frm.action.get 0 i) }
  | 6 => { dst with tcamAct := dst.tcamAct.set 0 i (frm.tcamAct.get 0 i) }
  | 8 => { dst with lpm4 := dst.lpm4.set none i (frm.lpm4.get none i) }
  | 9 => { dst with lpm6 := dst.lpm6.set none i (frm.lpm6.get none i) }
  | _ => dst

/-- Clear VALID of an entry. -/
def clearValid (t : SliceTab) (tid i : Nat) : SliceTab :=
  let clr128 (w : BitVec 128) : BitVec 128 := BitVec.ofNat 128 (putBits w.toNat (validBit tid) (validBit tid) 0)
  match tid with
  | 0 => { t with em := t.em.upd 0 i clr128 }
  | 1 => { t with tmap := t.tmap.upd 0 i clr128 }
  | 2 => { t with nexthop := t.nexthop.upd 0 i clr128 }
  | 3 => { t with group := t.group.upd 0 i (fun w => BitVec.ofNat 64 (putBits w.toNat 63 63 0)) }
  | 4 => { t with member := t.member.upd 0 i (fun w => BitVec.ofNat 32 (putBits w.toNat 31 31 0)) }
  | 5 => { t with action := t.action.upd 0 i clr128 }
  | 6 => { t with tcamAct := t.tcamAct.upd 0 i clr128 }
  | 8 => { t with lpm4 := t.lpm4.set none i none }
  | 9 => { t with lpm6 := t.lpm6.set none i none }
  | _ => t

/-- Rewrite a failed entry (R164). -/
def State.repair (s : State) (sl tid i : Nat) : State :=
  let d := sliceDie sl
  let donor := ((List.range 8).map (8 * d + ·)).find? (fun x => x ≠ sl ∧ !s.isBad x tid i)
  let s := match donor with
    | some x => (s.setTab sl (copyEntry (s.tab x) (s.tab sl) tid i)).cadd (slicePg sl) F.TBL_PARITY_REPAIRED
    | none => s.updTab sl (fun t => clearValid t tid i)
  s.clearBad sl tid i

/-- R164: the oldest failed entry of a slice whose table is not locked is rewritten. -/
def execParityRepair (sl : Slice) (s : State) : Res :=
  s.ifOperates (slicePg sl.val) (match (s.tab sl.val).repairs.find? (fun r => !(decide (r.1 < 8) && s.granted sl.val r.1)) with
    | none => s
    | some (tid, i) => s.repair sl.val tid i)

/-! ### TBL_ACCESS_LOCK (R167) -/

/-- A write of REQ: GRANTED falls where REQ is cleared. -/
def State.lockWrite (s : State) (sl : Nat) (val : Word) : State :=
  let pg := slicePg sl
  let s := s.putRw pg F.TBL_ACCESS_LOCK.off val
  s.fset pg F.TBL_ACCESS_LOCK_GRANTED (s.fget pg F.TBL_ACCESS_LOCK_GRANTED &&& s.fget pg F.TBL_ACCESS_LOCK_REQ)

def execTableLockRequest (src : Source) (page : PageIdx) (val : Word) (s : State) : Res :=
  .next (s.accessKind src page .slice (F.TBL_ACCESS_LOCK.wr val) (fun p s => s.lockWrite p.n val))

def execTableLockRelease (src : Source) (page : PageIdx) (val : Word) (s : State) : Res :=
  .next (s.accessKind src page .slice (F.TBL_ACCESS_LOCK.wr val) (fun p s => s.lockWrite p.n val))

/-- R167: a requested lock is granted once no update of the table is in progress. -/
def execTableLockGrant (sl : Slice) (t : Fin 8) (s : State) : Res :=
  let pg := slicePg sl.val
  s.ifOperates (slicePg sl.val) (if bit (s.fget pg F.TBL_ACCESS_LOCK_REQ) t.val then
    s.fset pg F.TBL_ACCESS_LOCK_GRANTED (s.fget pg F.TBL_ACCESS_LOCK_GRANTED ||| 2 ^ t.val) else s)

/-- R167, R177: a lock held longer than TBL_LOCK_TIMEOUT is released; 0 sets no limit. -/
def execTableLockTimeout (sl : Slice) (t : Fin 8) (s : State) : Res :=
  let pg := slicePg sl.val
  s.ifOperates (slicePg sl.val) (if s.granted sl.val t.val ∧ s.fget pg F.TBL_LOCK_TIMEOUT_TIMEOUT ≠ 0 then
    let clr (f : Fld) (s : State) := s.fset pg f (s.fget pg f &&& (255 - 2 ^ t.val))
    ((clr F.TBL_ACCESS_LOCK_REQ (clr F.TBL_ACCESS_LOCK_GRANTED s))).raise pg 12
  else s)

end Sys2Proof.Machine
end

