-- ==== Sys2Proof/Machine/Parser.lean ====
section
/-!
DEFINITION. The parser: the walk of the parse graph, the header vector and the fields that keys are built from
(04 R103-R109, R116).
-/
namespace Sys2Proof.Machine

/-- A recorded header: type code of R106 and byte offset. -/
abbrev Hdr := Nat × Nat

def hEth : Nat := 1
def hVlan : Nat := 2
def hV4 : Nat := 3
def hV6 : Nat := 4
def hTcp : Nat := 5
def hUdp : Nat := 6
def hSctp : Nat := 7
def hVxlan : Nat := 8
def hGeneve : Nat := 9
def hV6Frag : Nat := 10
def hV6Ext : Nat := 11

/-- A field of a header: `w` bits from bit `off` of the frame. -/
def nodeField (win : List Byte) (off rel w : Nat) : Nat := bitsAt win (off * 8 + rel) w

/-- Is a node entry a node (VALID, and LEN_MODE not reserved)? -/
def nodeValid (e : Nat) : Bool := bit e 127 && decide (bits e 93 92 ≠ 3)

/-- The length of a node's header at byte `off` (LEN_MODE). -/
def headerLength (win : List Byte) (e off : Nat) : Nat :=
  let f := nodeField win off (bits e 109 100) (bits e 99 96 + 1) * 2 ^ bits e 95 94
  match bits e 93 92 with
  | 0 => bits e 117 110
  | 1 => bits e 117 110 + f
  | _ => f

/-- R109 for a header of length `len`. With the reserved PLEN_REF codes 0b10 and 0b11 a payload length conflicts with nothing (DESIGN
CHOICE: the spec gives them no meaning). -/
def lenConflict (win : List Byte) (flen e off len : Nat) : Bool :=
  (decide (bits e 93 92 = 2) && decide (len < bits e 117 110)) || decide (off + len > flen) ||
  (bit e 37 && decide (bits e 36 35 ≤ 1) &&
    decide (nodeField win off (bits e 51 42) (bits e 41 38 + 1) + bits e 34 27 +
      (if bits e 36 35 = 0 then off else off + len) > flen))

/-- The first transition of a node that matches a selector. Of a TRANS_COUNT above 16 the first 16 entries count, and entries past
1,023 are not valid (DESIGN CHOICE: R104 gives a node at most 16 and states neither case). -/
def firstTrans (trans : Sparse (BitVec 64)) (e sel : Nat) : Option Nat :=
  ((List.range (min 16 (bits e 67 63))).map (fun i => (trans.get 0 (bits e 77 68 + i)).toNat)).find?
    (fun t => bit t 63 && decide ((sel &&& bits t 15 0) = (bits t 31 16 &&& bits t 15 0)))

/-- The walk of R104; `win` is the frame, continued past its end by bytes the spec does not state. A header of type NONE is walked
over and not recorded (R106). A walk that returns to a node at the same offset would never end; it is ended as too deep once the
pairs of node and offset are used up (DESIGN CHOICE: the spec gives such a walk no end). -/
def parseWalk (t : SliceTab) (win : List Byte) (flen : Nat) : Nat → Nat → Nat → List Hdr → List Hdr × Option ParseFlag
  | 0, _, _, acc => (acc.reverse, some .depth)
  | fuel + 1, node, off, acc =>
    let e := (t.node.get 0 node).toNat
    if !nodeValid e then (acc.reverse, none) else
    let len := headerLength win e off
    if acc.length = 16 then (acc.reverse, some .depth)
    else if flen < 256 ∧ off + len > flen then (acc.reverse, some .len)
    else if off + len > 256 then (acc.reverse, some .depth)
    else if lenConflict win flen e off len then (acc.reverse, some .len)
    else
      let acc := if bits e 125 118 = 0 then acc else (bits e 125 118, off) :: acc
      if bit e 126 then (acc.reverse, none) else
      let sel := nodeField win off (bits e 91 82) (bits e 81 78 + 1)
      match firstTrans t.trans e sel with
      | some tr => if bit tr 62 then (acc.reverse, none) else parseWalk t win flen fuel (bits tr 61 52) (off + len) acc
      | none =>
        if bit e 52 then (acc.reverse, none) else parseWalk t win flen fuel (bits e 62 53) (off + len) acc

/-- Parse a frame (its bytes before the FCS) with a slice's graph (R104). What the parser reads past the frame's end is
not stated: free bytes. -/
def State.parse (s : State) (sl : Nat) (frame : List Byte) : (List Hdr × Option ParseFlag) × State :=
  let (v, s) := s.draw 2432
  (parseWalk (s.tab sl) (frame ++ leBytes 304 v.toNat) frame.length (1024 * 257)
    (s.fget (slicePg sl) F.PRS_GRAPH_ROOT_ROOT) 0 [], s)

/-! ### Fields of a frame by its header vector (R106, R116) -/

/-- The first header of a type, and the last. -/
def firstHdr (h : List Hdr) (p : Nat → Bool) : Option Nat := (h.find? (fun x => p x.1)).map Prod.snd
def lastHdr (h : List Hdr) (p : Nat → Bool) : Option Nat := firstHdr h.reverse p

def isIp (t : Nat) : Bool := t = hV4 || t = hV6
def isL4 (t : Nat) : Bool := t = hTcp || t = hUdp || t = hSctp
def isTunnel (t : Nat) : Bool := t = hVxlan || t = hGeneve

/-- Headers from the last one for which `p` holds on, that header first. -/
def fromLast (h : List Hdr) (p : Nat → Bool) : List Hdr :=
  let after := (h.reverse.takeWhile (fun x => !p x.1)).reverse
  match (h.reverse.find? (fun x => p x.1)) with
  | some x => x :: after
  | none => []

/-- Headers from the first one for which `p` holds on. -/
def fromFirst (h : List Hdr) (p : Nat → Bool) : List Hdr := h.dropWhile (fun x => !p x.1)

/-- A number of `n` bytes at an offset of the frame. -/
def num (f : List Byte) (off n : Nat) : Nat := ofBE (slice f off n)

/-- VID of the outermost VLAN header. -/
def outerVid (f : List Byte) (h : List Hdr) : Option Nat := (firstHdr h (· = hVlan)).map (fun o => num f o 2 % 4096)

/-- VNI of the outermost VXLAN or Geneve header. -/
def outerVni (f : List Byte) (h : List Hdr) : Option Nat := (firstHdr h isTunnel).map (fun o => num f (o + 4) 3)

/-- EtherType after an ETH header and its VLAN tags, the headers given from that ETH on. -/
def etherTypeOf (f : List Byte) (h : List Hdr) : Option Nat :=
  match h with
  | [] => none
  | e :: r =>
    let tags := r.takeWhile (fun x => x.1 = hVlan)
    match tags.getLast? with
    | some t => some (num f (t.2 + 2) 2)
    | none => some (num f (e.2 + 12) 2)

/-- Protocol of an IP header after its extension headers, the headers given from that IP header on (R116). -/
def ipProtoOf (f : List Byte) (h : List Hdr) : Nat :=
  match h with
  | [] => 0
  | (t, o) :: r =>
    if t = hV4 then num f (o + 9) 1
    else
      match (r.takeWhile (fun x => x.1 = hV6Frag || x.1 = hV6Ext)).getLast? with
      | some x => num f x.2 1
      | none => num f (o + 6) 1

/-- Is the packet of an IP header a non-first fragment? -/
def nonFirstFrag (f : List Byte) (h : List Hdr) : Bool :=
  match h with
  | [] => false
  | (t, o) :: r =>
    if t = hV4 then decide (num f (o + 6) 2 % 8192 ≠ 0)
    else (r.takeWhile (fun x => x.1 = hV6Frag || x.1 = hV6Ext)).any
      (fun x => x.1 = hV6Frag && decide (num f (x.2 + 2) 2 / 8 ≠ 0))

/-- Source and destination address of an IP header. -/
def ipSrc (f : List Byte) (x : Hdr) : Nat := if x.1 = hV4 then num f (x.2 + 12) 4 else num f (x.2 + 8) 16
def ipDst (f : List Byte) (x : Hdr) : Nat := if x.1 = hV4 then num f (x.2 + 16) 4 else num f (x.2 + 24) 16
def ipDscp (f : List Byte) (x : Hdr) : Nat := if x.1 = hV4 then num f (x.2 + 1) 1 / 4 else num f x.2 2 / 64 % 64
/-- TTL or Hop Limit. -/
def ipTtl (f : List Byte) (x : Hdr) : Nat := if x.1 = hV4 then num f (x.2 + 8) 1 else num f (x.2 + 7) 1

/-- The L4 header after an IP header, the headers given from that IP header on, before any further IP header. -/
def l4Of (h : List Hdr) : Option Hdr := ((h.drop 1).takeWhile (fun x => !isIp x.1)).find? (fun x => isL4 x.1)

/-- What the key of R116 takes from the frame's metadata. -/
structure KeyMeta where
  tenant : Nat
  inPort : Nat
  tc : Nat
  flag : Option ParseFlag
  user : Nat

/-- The 480-bit classifier key (R116). -/
def clsKey (f : List Byte) (h : List Hdr) (m : KeyMeta) : Nat :=
  let ip := fromLast h isIp
  let l4 := l4Of ip
  let flags :=
    (fieldAt (ip.any (fun x => x.1 = hV4) && (ip.headD (0, 0)).1 = hV4).toNat 7 7) +
    (fieldAt ((ip.headD (0, 0)).1 = hV6 : Bool).toNat 6 6) + fieldAt l4.isSome.toNat 5 5 +
    fieldAt (nonFirstFrag f ip).toNat 4 4 + fieldAt (firstHdr h isTunnel).isSome.toNat 3 3 +
    fieldAt (m.flag = some .depth : Bool).toNat 2 2 + fieldAt (m.flag = some .len : Bool).toNat 1 1 +
    (match firstHdr h (· = hEth) with | some o => (num f o 1) % 2 | none => 0)
  let ipv (g : Hdr → Nat) : Nat := match ip with | x :: _ => g x | [] => 0
  let l4v (g : Hdr → Nat) : Nat := match l4 with | some x => g x | none => 0
  fieldAt m.tenant 479 466 + fieldAt m.inPort 465 456 + fieldAt m.tc 455 453 + fieldAt flags 452 445 +
  fieldAt ((etherTypeOf f (fromLast h (· = hEth))).getD 0) 444 429 + fieldAt (ipProtoOf f ip) 428 421 +
  fieldAt (ipv (ipDscp f)) 420 415 + fieldAt (ipv (ipSrc f)) 414 287 + fieldAt (ipv (ipDst f)) 286 159 +
  fieldAt (l4v (fun x => num f x.2 2)) 158 143 + fieldAt (l4v (fun x => num f (x.2 + 2) 2)) 142 127 +
  fieldAt (l4v (fun x => if x.1 = hTcp then num f (x.2 + 13) 1 else 0)) 126 119 +
  fieldAt ((outerVni f h).getD 0) 118 95 + fieldAt ((outerVid f h).getD 0) 94 83 + fieldAt m.user 82 19

/-! ### Tenant assignment (R113, R114) -/

/-- A tenant-map read: an entry whose parity fails counts as absent (R163). -/
def State.tmapRead (s : State) (sl : Nat) (kind any : Bool) (port val : Nat) : Option Nat × State :=
  match s.hashRead .tmap sl (keyTmap kind any port val) with
  | (some (_, e), s) => (some (bits e.toNat 26 13), s)
  | (none, s) => (none, s)

/-- The entry for the frame's own port first, then that for any port (R114). -/
def State.tmapPair (s : State) (sl : Nat) (kind : Bool) (port val : Nat) : Option Nat × State :=
  match s.tmapRead sl kind false port val with
  | (some t, s) => (some t, s)
  | (none, s) => s.tmapRead sl kind true 0 val

/-- The source tenant, and whether the frame is to be dropped for a miss (R113, R114, R140). -/
def State.assignTenant (s : State) (sl port : Nat) (f : List Byte) (h : List Hdr) : Nat × Bool × State :=
  let pg := portPg port
  let own := s.fget pg F.PRS_PORT_CFG_TENANT
  let mode := s.fget pg F.PRS_PORT_CFG_TENANT_MODE
  if mode = 0 then (own, false, s) else
  let look : Option (Bool × Nat) :=
    match mode, outerVid f h, outerVni f h with
    | 1, v, _ => v.map (fun x => (false, x))
    | 2, _, n => n.map (fun x => (true, x))
    | _, _, some n => some (true, n)
    | _, v, none => v.map (fun x => (false, x))
  let (r, s) := match look with
    | none => (none, s)
    | some (k, v) => s.tmapPair sl k port v
  match r with
  | some t => (t, false, s)
  | none => (own, !s.flag pg F.PRS_PORT_CFG_DEFAULT_EN, s.cadd (slicePg sl) F.PRS_TENANT_MISS_FRAMES)

end Sys2Proof.Machine
end

