-- ==== Sys2Proof/Machine/Qdr.lean ====
section
/-!
DEFINITION. The QDR channels: nodes, host accesses and the errors of every client (04 R118, R131).
-/
namespace Sys2Proof

/-- Does an access fail? -/
def QdrErr.fails : QdrErr → Bool
  | .uncorr | .addr => true
  | _ => false

end Sys2Proof

namespace Sys2Proof.Machine

def qdrKey (c node : Nat) : Nat := c * 2 ^ 23 + node

/-- The contents of a node; before it is written they are undefined (R540). -/
def State.qdrNode (s : State) (c node : Nat) : BitVec 256 :=
  (s.qdr.get none (qdrKey c node)).getD (Config.qdrPowerUp c node)

/-- One 32-byte write (R124). -/
def State.setQdr (s : State) (c node : Nat) (v : BitVec 256) : State :=
  { s with qdr := s.qdr.set none (qdrKey c node) (some v) }

/-- Record what the memory returned for a client's access (R131). -/
def State.qdrReport (s : State) (c node : Nat) (e : QdrErr) : State :=
  let pg := qdrPg c
  let last (a : Nat) (s : State) := s.setReg pg F.QDR_ECC_LAST.off (BitVec.ofNat 32 (2 ^ 31 + a * 2 ^ 30 + node % 2 ^ 23))
  match e with
  | .ok => s
  | .corrected => s.cadd pg F.QDR_ECC_CORRECTED
  | .uncorr => (last 0 (s.cadd pg F.QDR_ECC_UNCORR)).raise pg 8
  | .addr => (last 1 (s.cadd pg F.QDR_ADDR_PARITY)).raise pg 9

/-- A write of QDR_CMD with OP READ or WRITE: counted and ignored while an access is in progress (R131). -/
def State.qdrStart (s : State) (c : Nat) (write : Bool) (val : Word) : State :=
  let pg := qdrPg c
  if s.flag pg F.QDR_CMD_BUSY then s.errCount pg else
  let s := (s.putRw pg F.QDR_CMD.off val).bset pg F.QDR_CMD_BUSY true
  let a : QdrAccess := ⟨F.QDR_CMD_NODE.of val, if write then some (BitVec.ofNat 256 (s.words pg F.QDR_DATA 8)) else none⟩
  { s with qdrBusy := s.qdrBusy.set none c (some a) }

def execQdrWrite (src : Source) (page : PageIdx) (val : Word) (s : State) : Res :=
  .next (s.accessKind src page .qdr (F.QDR_CMD.cmd 1 val) (fun p s => s.qdrStart p.n true val))

def execQdrRead (src : Source) (page : PageIdx) (val : Word) (s : State) : Res :=
  .next (s.accessKind src page .qdr (F.QDR_CMD.cmd 2 val) (fun p s => s.qdrStart p.n false val))

/-- R131: the access takes place; a READ that fails returns zeros and sets ERR. -/
def execQdrAccessDone (c : Fin 8) (err : QdrErr) (s : State) : Res :=
  let pg := qdrPg c.val
  s.ifOperates (qdrPg c.val) (match s.qdrBusy.get none c.val with
    | none => s
    | some a =>
      let s := ({ s with qdrBusy := s.qdrBusy.set none c.val none }).bset pg F.QDR_CMD_BUSY false
      let x := s.clss.get {} (c.val / 4)
      let s := { s with clss := s.clss.set {} (c.val / 4) { x with swapWrites := (x.swapWrites.map (fun (kv : Nat × List Nat) => (kv.1, kv.2.erase c.val))).filter (fun kv => !kv.2.isEmpty) } }
      match a.data with
      | some v => s.setQdr c.val a.node v
      | none =>
        let s := (s.qdrReport c.val a.node err).bset pg F.QDR_CMD_ERR err.fails
        s.setWords pg F.QDR_DATA 8 (if err.fails then 0 else (s.qdrNode c.val a.node).toNat))

end Sys2Proof.Machine
end

