-- ==== Sys2Proof/Machine/Record.lean ====
section
/-!
DEFINITION. Frames inside the device, energy charges, tenant accounts, the Octum record with its fold, postcards and
collectors (11 R333-R345, R348-R350, R356-R357).
-/
namespace Sys2Proof.Machine

/-! ### Frames -/

def State.frm (s : State) (uid : Nat) : Option Frm := s.frames.get none uid
def State.setFrm (s : State) (uid : Nat) (f : Frm) : State := { s with frames := s.frames.set none uid (some f) }
def State.dropFrm (s : State) (uid : Nat) : State := { s with frames := s.frames.set none uid none }
def State.updFrm (s : State) (uid : Nat) (g : Frm → Frm) : State :=
  match s.frm uid with
  | some f => s.setFrm uid (g f)
  | none => s

/-- A new frame: its number, and the state that holds it. -/
def State.newFrm (s : State) (f : Frm) : Nat × State :=
  (s.nextFrame, ({ s with nextFrame := s.nextFrame + 1 }).setFrm s.nextFrame f)

/-- One copy or part of a frame is complete; the frame leaves the device with its last. -/
def State.release (s : State) (uid : Nat) : State :=
  match s.frm uid with
  | some f => if f.refs ≤ 1 then s.dropFrm uid else s.setFrm uid { f with refs := f.refs - 1 }
  | none => s

/-- Is the slice in Paddle mode (R474)? -/
def State.inPaddle (s : State) (sl : Nat) : Bool := s.flag (slicePg sl) F.SLICE_PADDLE_STATUS_ACTIVE

/-- Does port `p` use MACsec on receive, and on transmit? -/
def State.msecRx (s : State) (p : Nat) : Bool := s.flag (msecPg (p / 8)) F.MSEC_CFG_RX_EN (p % 8)
def State.msecTx (s : State) (p : Nat) : Bool := s.flag (msecPg (p / 8)) F.MSEC_CFG_TX_EN (p % 8)

/-- Frame size of R6: destination address through FCS. -/
def Frm.len (f : Frm) : Nat := f.bytes.length + 4

/-- Does a frame have a tenant and a record? -/
def Frm.recorded (f : Frm) : Bool :=
  match f.kind with
  | .rx => f.known
  | .injected => true
  | _ => false

/-- Put a frame on the list of frames that wait for admission on a die. -/
def State.toAdmit (s : State) (d uid : Nat) : State := { s with admits := s.admits.upd [] d (· ++ [uid]) }

/-! ### Tenant accounts (R348-R350, R356-R357) -/

def State.csOf (s : State) (sl : Nat) : CsSt := s.css.get {} sl
def State.setCs (s : State) (sl : Nat) (c : CsSt) : State := { s with css := s.css.set {} sl c }

def State.acctOf (s : State) (d : Nat) : AcctSt := s.accts.get {} d
def State.setAcct (s : State) (d : Nat) (a : AcctSt) : State := { s with accts := s.accts.set {} d a }

/-- Does a stamp lie in the settling bank: before the boundary that opened the open bank (R349)? -/
def AcctSt.inSettling (a : AcctSt) (stamp : DWord) : Bool :=
  a.settling.isSome && decide (stampDiff stamp a.bank.edge < 0)

/-- Change the bank that a stamp belongs to. -/
def State.updBank (s : State) (d : Nat) (stamp : DWord) (g : Bank → Bank) : State :=
  let a := s.acctOf d
  s.setAcct d (if a.inSettling stamp then { a with settling := a.settling.map g } else { a with bank := g a.bank })

/-- Add to a tenant's counter of R348 in the bank of a frame. -/
def State.acctAdd (s : State) (d : Nat) (f : Frm) (j n : Nat) : State :=
  s.updBank d f.stamp (fun b => { b with counts := b.counts.upd 0 (7 * f.tenant + j) (· + n) })

/-- Energy of `n` events of kind `i` on a die, in 0.01 pJ (R356). -/
def State.energyOf (s : State) (d i n : Nat) : Nat := s.fget (acctPg d) F.ACCT_COEF_COEF i * n

/-- Charge energy to the frame's tenant in its bank (R356, R357). -/
def State.chargeTenant (s : State) (d : Nat) (f : Frm) (e : Nat) : State :=
  if f.recorded then s.updBank d f.stamp (fun b => { b with acc := b.acc.upd 0 f.tenant (· + e) }) else s

/-- Count events of R356 in a calibration window that is open (R455). -/
def State.calEvent (s : State) (d i n : Nat) : State :=
  match (s.coxs.get {} d).cal with
  | some (some (_ + 1)) => s.cadd (coxPg d) F.COX_CAL_EVENT n i
  | _ => s

/-- Charge `n` events of kind `i` to a frame: its tenant's account and its record. -/
def State.charge (s : State) (d : Nat) (f : Frm) (i n : Nat) : Frm × State :=
  ({ f with energy := f.energy + s.energyOf d i n }, (s.calEvent d i n).chargeTenant d f (s.energyOf d i n))

/-- The same for a frame held by number. -/
def State.chargeFrm (s : State) (d uid i n : Nat) : State :=
  match s.frm uid with
  | some f => let r := s.charge d f i n; r.2.setFrm uid r.1
  | none => s

/-- The received frame that a frame is, or is a copy or part of. -/
def Frm.rootOf (f : Frm) (uid : Nat) : Nat := if f.root = 0 then uid else f.root

/-- Frames of the settling bank still in a die, each once however many copies and parts of it there are (R350). -/
def State.outstanding (s : State) (d : Nat) : Nat :=
  let a := s.acctOf d
  (s.frames.filterMap (fun kv => kv.2.bind (fun f =>
    if f.holder = d ∧ f.kind = .rx ∧ f.pass.isNone ∧ a.inSettling f.stamp then some (f.rootOf kv.1) else none))).eraseDups.length

/-! ### The Octum record (R334, R335) -/

/-- Bits of PATH (R335). -/
def pCross : Nat := 2 ^ 15
def pCut : Nat := 2 ^ 14
def pExt : Nat := 2 ^ 13
def pMiss : Nat := 2 ^ 12
def pMsecRx : Nat := 2 ^ 11
def pMsecTx : Nat := 2 ^ 10
def pMcast : Nat := 2 ^ 9
def pPunt : Nat := 2 ^ 8
def pPreempted : Nat := 2 ^ 7
def pPaddle : Nat := 2 ^ 6
def pFallback : Nat := 2 ^ 5
def pEcn : Nat := 2 ^ 4
def pPoliced : Nat := 2 ^ 3
def pParse : Nat := 2 ^ 2
def pInjected : Nat := 2
def pSplit : Nat := 1

/-- Residence in units of 125 ps, truncated, saturating (R309, R334). -/
def residenceOf (stamp : DWord) (out : Option DWord) : Nat :=
  match out with
  | some o => min 0xFFFFFFFF ((o - stamp).toNat / 8192)
  | none => 0

/-- PATH of a record that die `d` forms. -/
def State.pathOf (s : State) (d : Nat) (f : Frm) (c : Copy) (extra : Nat) : Nat :=
  let on (b : Bool) (m : Nat) := if b then m else 0
  f.path ||| extra ||| on c.cut pCut ||| on f.extRan pExt ||| on f.macsec pMsecRx |||
  on (c.port.any (fun p => s.msecTx p)) pMsecTx ||| on c.mcast pMcast ||| on c.host.isSome pPunt |||
  on (c.depth.isSome && c.port.any (fun p => s.inPaddle (portSlice p))) pPaddle ||| on c.ecn pEcn |||
  on (f.kind = .injected) pInjected ||| on (s.split d) pSplit

/-- The record of a copy (R334). -/
def State.recordOf (s : State) (d : Nat) (f : Frm) (c : Copy) (drop : Nat) (out : Option DWord) (len path : Nat) : Nat :=
  let energy := (if c.mcast then 0 else f.energy) + c.energy
  fieldAt 1 383 380 + fieldAt (s.tels.get {} d).seq 379 356 + fieldAt f.stamp.toNat 355 292 +
  fieldAt (out.getD 0).toNat 291 228 + fieldAt (residenceOf f.stamp out) 227 196 + fieldAt f.tenant 195 182 +
  fieldAt f.destTenant 181 168 + fieldAt (if f.kind = .injected then 0 else f.port) 167 158 +
  fieldAt (c.port.getD 0) 157 148 + fieldAt (if c.port.isSome ∧ c.depth.isSome then c.queue else 0) 147 144 +
  fieldAt f.tc 143 141 + fieldAt drop 140 135 + fieldAt (c.depth.getD 0) 134 114 + fieldAt len 113 100 +
  fieldAt f.ruleId 99 80 + fieldAt f.hash.toNat 79 48 + fieldAt (min 0xFFFF (energy / 1000)) 47 32 +
  fieldAt path 31 16 + fieldAt (min 7 f.restarts) 15 13 + fieldAt c.port.isSome.toNat 12 12 +
  fieldAt (c.host.getD 0) 11 6 + fieldAt f.copy.toNat 5 5

/-! ### Collectors and postcards (R342-R345) -/

def State.telOf (s : State) (d : Nat) : TelSt := s.tels.get {} d
def State.setTel (s : State) (d : Nat) (t : TelSt) : State := { s with tels := s.tels.set {} d t }

/-- Postcards lost (R343). -/
def State.loseCards (s : State) (d n : Nat) : State :=
  if n = 0 then s else (s.cadd (telPg d) F.TEL_POSTCARD_LOST n).raise (telPg d) 8

/-- The template of a collector. -/
def State.template (s : State) (d c : Nat) : List Byte :=
  ((List.range 32).flatMap (fun w => leBytes 4 (s.reg (telPg d) (F.TEL_COLL_TEMPLATE.at (32 * c + w))).toNat)).take
    (s.fget (telPg d) F.TEL_COLL_CFG_TEMPLATE_LEN c)

/-- The Internet checksum of a UDP datagram with its pseudo-header; 0 is sent as all ones. -/
def udpChecksum (addrs datagram : List Byte) : Nat :=
  let x := inetChecksum (addrs ++ beBytes 4 datagram.length ++ beBytes 4 17 ++ datagram)
  if x = 0 then 0xFFFF else x

/-- Fill in the lengths and checksums of a UDP frame whose IP header begins at `l3` (R344). -/
def fillUdp (v6 : Bool) (l3 : Nat) (f : List Byte) : List Byte :=
  let l4 := l3 + (if v6 then 40 else 20)
  let f := if v6 then patch f (l3 + 4) (beBytes 2 (f.length - l3 - 40)) else patch f (l3 + 2) (beBytes 2 (f.length - l3))
  let f := if v6 then f else
    let f := patch f (l3 + 10) [0, 0]
    patch f (l3 + 10) (beBytes 2 (inetChecksum (slice f l3 20)))
  let f := patch (patch f (l4 + 4) (beBytes 2 (f.length - l4))) (l4 + 6) [0, 0]
  let addrs := if v6 then slice f (l3 + 8) 32 else slice f (l3 + 12) 8
  patch f (l4 + 6) (beBytes 2 (udpChecksum addrs (f.drop l4)))

/-- Send a frame of a collector's template with a payload: it waits for admission to the collector's port and queue. -/
def State.sendStream (s : State) (d c carries : Nat) (payload : List Byte) : State :=
  let pg := telPg d
  let bytes := fillUdp (s.flag pg F.TEL_COLL_CFG_IPV6 c) (s.fget pg F.TEL_COLL_CFG_L3_OFF c) (s.template d c ++ payload)
  let f : Frm :=
    { kind := .stream, die := d, holder := d, bytes := bytes, size := bytes.length + 4, stamp := s.stamp d,
      lastByte := true, target := some (.port (s.fget pg F.TEL_COLL_CFG_PORT c)), queue := s.fget pg F.TEL_COLL_CFG_QUEUE c,
      modified := true, carries := carries }
  let r := s.newFrm f
  r.2.toAdmit d r.1

/-- Send a stream frame with the records that wait at a collector (R344). -/
def State.flushCollector (s : State) (d c : Nat) : State :=
  let t := s.telOf d
  let w := (t.colls.get {} c).waiting
  if w.isEmpty then s else
  let pg := telPg d
  let s := s.setTel d { t with colls := t.colls.set {} c {} }
  let seq := s.reg pg (F.TEL_COLL_SEQ.at c)
  let hdr := fieldAt 0x4F43 127 112 + fieldAt 1 111 108 + fieldAt d 107 107 + fieldAt c 106 104 + fieldAt w.length 103 96 +
    fieldAt seq.toNat 95 64 + (s.stamp d).toNat
  (s.setReg pg (F.TEL_COLL_SEQ.at c) (seq + 1)).sendStream d c w.length (beBytes 16 hdr ++ w.flatten)

/-- Bytes in the build buffer of a die: what the telemetry unit and the cox have built and that waits for a write slot (R35). -/
def State.buildFill (s : State) (d : Nat) : Nat :=
  ((s.admits.get [] d).map (fun u => match s.frm u with
    | some f => if f.kind = .stream ∨ f.kind = .postcard then f.bytes.length else 0
    | none => 0)).sum

/-- Give a postcard to a collector (R343-R345); one that finds the build buffer of 64 KiB full is lost (R35). -/
def State.toCollector (s : State) (d c word : Nat) : State :=
  let pg := telPg d
  let t := s.telOf d
  if !s.flag pg F.TEL_COLL_CFG_EN c || s.inPaddle (portSlice (s.fget pg F.TEL_COLL_CFG_PORT c)) ||
    decide (s.buildFill d + 48 * ((t.colls.get {} c).waiting.length + 1) + s.fget pg F.TEL_COLL_CFG_TEMPLATE_LEN c > 65520)
  then s.loseCards d 1 else

  let w := (t.colls.get {} c).waiting ++ [beBytes 48 word]
  let s := s.setTel d { t with colls := t.colls.set {} c { waiting := w } }
  if w.length ≥ s.fget pg F.TEL_COLL_LIMIT_MAX_RECORDS c then s.flushCollector d c else s

/-- Give a postcard to the host-bound queue of TEL_CTRL (R343); one that finds the build buffer full is lost (R35). -/
def State.toHostCard (s : State) (d word : Nat) (hash : Word) : State :=
  if s.buildFill d + 48 > 65536 then s.loseCards d 1 else
  let r := s.newFrm
    { kind := .postcard, die := d, holder := d, bytes := leBytes 48 word, size := 48, lastByte := true,
      target := some (.host (s.fget (telPg d) F.TEL_CTRL_HOST_QUEUE)), hash := hash, source := 7, carries := 1 }
  r.2.toAdmit d r.1

/-- Does a record match selector `n` (R342)? -/
def State.selMatches (s : State) (d n : Nat) (f : Frm) (c : Copy) (drop res : Nat) : Bool :=
  let pg := telPg d
  let a (x : Fld) := s.fget pg x n
  decide (a F.TEL_SEL_A_EN = 1) &&
  (decide (a F.TEL_SEL_A_TENANT_EN = 0) || decide (a F.TEL_SEL_A_TENANT = f.tenant)) &&
  (decide (a F.TEL_SEL_B_PORT_EN = 0) ||
    (if a F.TEL_SEL_B_PORT_DIR = 0 then decide (a F.TEL_SEL_B_PORT = (if f.kind = .injected then 0 else f.port))
     else decide (c.port = some (a F.TEL_SEL_B_PORT)))) &&
  (match a F.TEL_SEL_A_DROP_MODE with
    | 0 => true
    | 1 => decide (drop ≠ 0)
    | 2 => decide (drop = 0)
    | _ => decide (drop = a F.TEL_SEL_A_REASON)) &&
  decide (8 * a F.TEL_SEL_B_RES_MIN_NS ≤ res)

/-- Send the postcards of a record: one to each destination whose selectors pass it (R342, R343). -/
def State.postcards (s : State) (d : Nat) (f : Frm) (c : Copy) (drop res word : Nat) : State :=
  let pg := telPg d
  if !s.flag pg F.TEL_CTRL_POSTCARD_EN || !s.operates pg then s else
  let hits := (List.range 16).filter (fun n => s.selMatches d n f c drop res)
  let t := s.telOf d
  let count (n : Nat) := t.matched.get 0 n + 1
  let dests := ((hits.filter (fun n => count n % 2 ^ s.fget pg F.TEL_SEL_A_SAMPLE n = 0)).map
    (fun n => s.fget pg F.TEL_SEL_A_DEST n)).eraseDups
  let s := s.setTel d { t with matched := hits.foldl (fun m n => m.set 0 n (count n)) t.matched }
  dests.foldl (fun s x =>
    if x > 4 then s else
    let t := s.telOf d
    let sec := s.monoNs d / 1000000000
    let used := if t.second = sec then t.inSecond else 0
    if used ≥ 1000000000 then s.loseCards d 1 else
    let s := s.setTel d { t with second := sec, inSecond := used + 1 }
    if x < 4 then s.toCollector d x word else s.toHostCard d word f.hash) s

/-! ### The fold (R337-R341, R348) -/

/-- The histogram bin of a residence (R340). -/
def histBin (res shift : Nat) : Nat :=
  let x := res >>> shift
  if x < 4 then x else
  let k := x.log2
  min 63 (4 * (k - 1) + (x >>> (k - 2)) % 4)

/-- Form the record of a completed copy on die `d` and fold it. A copy with a depth has joined its queue; one with cells has come to
its admission. The drop of an injected frame that names no OUT_PORT counts at no port (DEDUCED: R339 takes the port from OUT_PORT). -/
def State.fold (s : State) (d : Nat) (f : Frm) (c : Copy) (drop : Nat) (out : Option DWord) (len extra : Nat) : State :=
  if !f.recorded then s else
  let pg := telPg d
  let path := s.pathOf d f c extra
  let word := s.recordOf d f c drop out len path
  let res := residenceOf f.stamp out
  let t := s.telOf d
  let s := (s.setTel d { t with seq := (t.seq + 1) % 2 ^ 24 }).cadd pg F.TEL_RECORDS
  let s := if drop = 0 then s else
    let p := if f.kind = .injected then c.port.getD 0 else f.port
    let s := if f.kind = .injected ∧ c.port.isNone then s else s.cadd (portPg p) F.TEL_DROP 1 (drop - 1)
    let ev : PmcEvent := { code := 0x11, src := some .pipe, tc := some f.tc, tenant := some f.tenant, port := some p }
    if c.cells ≠ 0 then s.pmcEvent (bufPg d) ev else s.pmcEvent (slicePg (portSlice p)) ev
  let s := match c.port with
    | some p =>
      if c.host.isSome || c.depth.isNone then s else
      let s := if drop = 0 then
        s.cadd (portPg p) F.TEL_HIST 1 (64 * c.queue + histBin res (s.fget pg F.TEL_HIST_CFG_SHIFT)) else s
      s.cadd (portPg p) F.TEL_QUEUE_ENERGY (bits word 47 32) c.queue
    | none => s
  let s := if f.copy then s
    else if drop = 0 then (s.acctAdd d f 2 1).acctAdd d f 3 len else (s.acctAdd d f 4 1).acctAdd d f 5 len
  let silent := c.port.any (fun p => s.inPaddle (portSlice p)) ||
    (decide (c.cells = 0 ∧ drop ≠ 0) && s.inPaddle (portSlice f.port))
  if silent then s else s.postcards d f c drop res word

/-- The reason of a discard: that of R100 or of MACsec first, then POLICER_RED, which acts earliest on the path, then the
given one (R265, R487). -/
def Frm.reason (f : Frm) (why : Nat) : Nat :=
  if f.rxDrop ≠ 0 then f.rxDrop else if f.red then 0xC else why

/-- A stream frame or a postcard that is discarded loses the records it carries (R343). -/
def State.loseCarried (s : State) (d : Nat) (f : Frm) : State :=
  match f.kind with
  | .stream | .postcard => s.loseCards d f.carries
  | _ => s

/-- Drop a whole frame on die `d` with the given copy as its record. Until its last byte and its verdict are known the
reason may still change, so the record waits for them (R265, R368, R487). -/
def State.dropAt (s : State) (d uid : Nat) (c : Copy) (why : Nat) : State :=
  match s.frm uid with
  | none => s
  | some f =>
    if !f.lastByte || f.verdict = .waiting then s.setFrm uid { f with dropped := f.dropped ++ [(why, d, c)] }
    else ((s.loseCarried d f).fold d f c (f.reason why) none f.size 0).release uid

/-- The egress port that a frame is bound for, which its record names wherever it is dropped (R334, R339). -/
def Frm.outPort (f : Frm) : Option Nat :=
  match f.target with
  | some (.port p) => some p
  | _ => none

/-- Drop a frame before admission: its record is formed on its ingress die, and the frame leaves the device. -/
def State.dropEarly (s : State) (uid why : Nat) : State :=
  match s.frm uid with
  | none => s
  | some f => s.dropAt f.die uid { uid := uid, port := f.outPort } why

/-- Are all the copies and parts of a frame that are not yet complete dropped? -/
def Frm.gone (f : Frm) : Bool := !f.dropped.isEmpty && decide (f.refs ≤ f.dropped.length)

/-- Close the drops that waited. -/
def State.dropLate (s : State) (uid : Nat) : State :=
  match s.frm uid with
  | some f => f.dropped.foldl (fun s x => s.dropAt x.2.1 uid x.2.2 x.1) (s.setFrm uid { f with dropped := [] })
  | none => s

/-! ### Drop-reason codes (R338) -/

def dFcs : Nat := 1
def dRunt : Nat := 2
def dOversize : Nat := 3
def dDepth : Nat := 4
def dLen : Nat := 5
def dAcl : Nat := 6
def dCls : Nat := 7
def dIsolation : Nat := 8
def dNoRoute : Nat := 9
def dParity : Nat := 0xA
def dLearn : Nat := 0xB
def dRed : Nat := 0xC
def dFull : Nat := 0xD
def dAged : Nat := 0xE
def dFlush : Nat := 0xF
def dGate : Nat := 0x10
def dKeel : Nat := 0x11
def dIcv : Nat := 0x12
def dReplay : Nat := 0x13
def dAbort : Nat := 0x14
def dPaddle : Nat := 0x15
def dPool : Nat := 0x16

end Sys2Proof.Machine
end

