-- ==== Sys2Proof/Machine/Tcam.lean ====
section
/-!
DEFINITION. The TCAM of a slice and its paddle guard bank: groups, search, row commands, false hits and scrub
(04 R132-R139).
-/
namespace Sys2Proof.Machine

/-- A TCAM group: first block, block count, OWNER, PF_SEL and whether it takes part in searches (R132). -/
structure TcamGroup where
  first : Nat
  k : Nat
  owner : Nat
  pf : Nat
  ok : Bool
  deriving DecidableEq, Repr

def State.blockCfg (s : State) (sl b : Nat) (f : Fld) : Nat := s.fget (slicePg sl) f b

/-- The groups of a slice (R132). -/
def State.tcamGroups (s : State) (sl : Nat) : List TcamGroup :=
  (List.range 16).filterMap (fun b =>
    let owner := s.blockCfg sl b F.TBL_TCAM_BLOCK_CFG_OWNER
    if owner = 0x30 ∨ owner = 0xFF then none else
    let k := s.blockCfg sl b F.TBL_TCAM_BLOCK_CFG_WIDTH + 1
    some ⟨b, k, owner, s.blockCfg sl b F.TBL_TCAM_BLOCK_CFG_PF_SEL,
      decide (b + k ≤ 16) && ((List.range k).drop 1).all (fun j => s.blockCfg sl (b + j) F.TBL_TCAM_BLOCK_CFG_OWNER = 0x30)⟩)

/-- The first block of the group that a block belongs to (R132, R137). -/
def State.tcamFirst (s : State) (sl b : Nat) : Nat :=
  match (s.tcamGroups sl).find? (fun g => g.first ≤ b ∧ b < g.first + g.k) with
  | some g => g.first
  | none => b

def State.tcamRow (s : State) (sl i : Nat) : TcamRow := (s.tab sl).tcam.get {} i
def State.setTcamRow (s : State) (sl i : Nat) (r : TcamRow) : State :=
  s.updTab sl (fun t => { t with tcam := t.tcam.set {} i r })

/-- The cells of a row that differ from it in the bits of `x`. -/
def TcamRow.flip (r x : TcamRow) : TcamRow :=
  { r with value := r.value ^^^ x.value, mask := r.mask ^^^ x.mask, pf := r.pf ^^^ x.pf }

/-- The bits in which a row's cells differ from its copy, and the cells. -/
def State.tcamUpset (s : State) (sl i : Nat) : TcamRow := (s.tab sl).upset.get {} i
def State.tcamCells (s : State) (sl i : Nat) : TcamRow := (s.tcamRow sl i).flip (s.tcamUpset sl i)

/-- Rewrite a row from its copy (R135, R136). -/
def State.tcamRewrite (s : State) (sl i : Nat) : State := s.updTab sl (fun t => { t with upset := t.upset.set {} i {} })

/-- Cells flip. -/
def State.tcamFlips (s : State) (sl : Nat) (l : List TcamFlip) : State :=
  s.updTab sl (fun t => { t with
    upset := l.foldl (fun m f => m.upd {} f.row (fun x => x.flip { value := f.value, mask := f.mask, pf := f.pf })) t.upset })

/-- Does a row's key part match (R133)? -/
def TcamRow.hits (r : TcamRow) (key : Nat) : Bool :=
  decide (((BitVec.ofNat 480 key ^^^ r.value) &&& r.mask) = 0)

/-- Does entry `row` of a group match a key on every block, its pre-filter included (R132, R133)? -/
def State.entryHits (s : State) (sl : Nat) (g : TcamGroup) (row key : Nat) : Bool :=
  let head := s.tcamCells sl (1024 * g.first + row)
  let pm := bits head.pf.toNat 31 24
  head.valid && decide ((key >>> g.pf) &&& pm = bits head.pf.toNat 23 16 &&& pm) &&
  (List.range g.k).all (fun j => (s.tcamCells sl (1024 * (g.first + j) + row)).hits (key >>> (480 * j)))

/-- A candidate of a search: physical index, priority, and how many blocks hold the entry. -/
abbrev Cand := Nat × Nat × Nat

/-- The rows of a candidate. -/
def Cand.rows (c : Cand) : List Nat := (List.range c.2.2).map (fun j => c.1 + 1024 * j)

/-- Does `a` come before `b` in the order of R134? -/
def Cand.before (a b : Cand) : Bool := decide (a.2.1 > b.2.1) || (decide (a.2.1 = b.2.1) && decide (a.1 < b.1))

/-- The best candidate in the order of R134. -/
def bestCand (l : List Cand) : Option Cand :=
  l.foldl (fun b c => match b with
    | none => some c
    | some b => if Cand.before c b then some c else some b) none

/-- Record a discarded hit (R135). -/
def State.falseHit (s : State) (sl i : Nat) : State :=
  let pg := slicePg sl
  let w := 2 ^ 31 + (if i < 16384 then fieldAt (i / 1024) 13 10 + i % 1024 else 2 ^ 14 + (i - 16384))
  (s.cadd pg F.TBL_TCAM_FALSE_HIT).setReg pg F.TBL_TCAM_FALSE_HIT_LAST.off (BitVec.ofNat 32 w)

/-- A row whose copy is uncorrectable is invalidated, and the error is reported as TABLE_PARITY (R135); the spec gives
the report no table number. -/
def State.copyLost (s : State) (sl i : Nat) : State :=
  let s := s.setTcamRow sl i { s.tcamRow sl i with valid := false }
  let (tid, s) := s.draw 4
  let pg := slicePg sl
  let w := 2 ^ 31 + fieldAt tid.toNat 27 24 + i % 2 ^ 18
  ((s.cadd pg F.TBL_PARITY_ERRORS).setReg pg F.TBL_PARITY_LAST.off (BitVec.ofNat 32 w)).raise pg 8

/-- Check the winning row against its copy, and the next in its place while the check fails; a row that fails is rewritten from its
copy (R134, R135). -/
def State.checkWinner (s : State) (sl : Nat) (u : TcamUpset) : Nat → List Cand → Option Nat × State
  | 0, _ => (none, s)
  | fuel + 1, l =>
    match bestCand l with
    | none => (none, s)
    | some c =>
      let rest := l.erase c
      if c.rows.any u.copyBad.contains then ((s.falseHit sl c.1).copyLost sl c.1).checkWinner sl u fuel rest
      else if c.rows.all (fun i => decide (s.tcamUpset sl i = {})) then
        (some c.1, if rest.any (fun x => x.2.1 = c.2.1) then s.cadd (slicePg sl) F.TBL_TCAM_MULTI_EQUAL else s)
      else (c.rows.foldl (fun s i => s.tcamRewrite sl i) (s.falseHit sl c.1)).checkWinner sl u fuel rest

/-- Entries of a group that hit by their cells. -/
def State.groupCands (s : State) (sl : Nat) (g : TcamGroup) (key : Nat) : List Cand :=
  ((s.tab sl).tcam.filter (fun kv => decide (kv.1 / 1024 = g.first) && kv.2.valid)).filterMap (fun kv =>
    if s.entryHits sl g (kv.1 % 1024) key then some (kv.1, bits (s.tcamCells sl kv.1).pf.toNat 15 0, g.k) else none)

/-- A search by an owner over every group it holds: the winning physical index (R132-R135). -/
def State.tcamSearch (s : State) (sl owner key : Nat) (u : TcamUpset) : Option Nat × State :=
  let s := s.tcamFlips sl u.flips
  let l := ((s.tcamGroups sl).filter (fun g => g.owner = owner && g.ok)).flatMap (fun g => s.groupCands sl g key)
  s.checkWinner sl u (l.length + 1) l

/-- A search of the paddle guard bank, which has no pre-filter (R139). -/
def State.guardSearch (s : State) (sl key : Nat) (u : TcamUpset) : Option Nat × State :=
  let s := s.tcamFlips sl u.flips
  let l := ((s.tab sl).tcam.filter (fun kv => decide (16384 ≤ kv.1) && kv.2.valid)).filterMap (fun kv =>
    let c := s.tcamCells sl kv.1
    if c.hits key then some (kv.1, bits c.pf.toNat 15 0, 1) else none)
  s.checkWinner sl u (l.length + 1) l

/-! ### Row commands (R137, R139) -/

/-- Rows of the entry that a row command's value selects: the row itself and the head of its entry. -/
def State.rowSel (s : State) (sl : Nat) (val : Word) : Nat × Nat :=
  if F.TBL_TCAM_ROW_GUARD.of val = 1 then
    let i := 16384 + F.TBL_TCAM_ROW_ROW.of val % 256
    (i, i)
  else
    let b := F.TBL_TCAM_ROW_BLOCK.of val
    (1024 * b + F.TBL_TCAM_ROW_ROW.of val, 1024 * s.tcamFirst sl b + F.TBL_TCAM_ROW_ROW.of val)

/-- Close a row command: LAST, and BUSY until TCAM_ROW_OP_DONE; a refusal is counted. -/
def State.rowLast (s : State) (sl : Nat) (last : Nat) : State :=
  let pg := slicePg sl
  let s := (s.fset pg F.TBL_TCAM_ROW_LAST last).bset pg F.TBL_TCAM_ROW_BUSY true
  if last = 0 then s else s.errCount pg

/-- VALIDATE and INVALIDATE act on the whole entry, on the first block of its group. -/
def State.rowValid (s : State) (sl : Nat) (val : Word) (v : Bool) : State :=
  let s := s.putRw (slicePg sl) F.TBL_TCAM_ROW.off val
  let (i, head) := s.rowSel sl val
  if i ≠ head then s.rowLast sl 2
  else (s.setTcamRow sl i { s.tcamRow sl i with valid := v }).rowLast sl 0

def State.rowWrite (s : State) (sl : Nat) (val : Word) : State :=
  let pg := slicePg sl
  let s := s.putRw pg F.TBL_TCAM_ROW.off val
  let (i, head) := s.rowSel sl val
  if (s.tcamRow sl head).valid then s.rowLast sl 1
  else ((s.tcamRewrite sl i).setTcamRow sl i
    { value := BitVec.ofNat 480 (s.words pg F.TBL_TCAM_VALUE 15), mask := BitVec.ofNat 480 (s.words pg F.TBL_TCAM_MASK 15),
      pf := s.reg pg F.TBL_TCAM_META.off, valid := (s.tcamRow sl i).valid }).rowLast sl 0

def State.rowRead (s : State) (sl : Nat) (val : Word) : State :=
  let pg := slicePg sl
  let s := s.putRw pg F.TBL_TCAM_ROW.off val
  let (i, head) := s.rowSel sl val
  let r := s.tcamRow sl i
  let s := (s.setWords pg F.TBL_TCAM_VALUE 15 r.value.toNat).setWords pg F.TBL_TCAM_MASK 15 r.mask.toNat
  ((s.setReg pg F.TBL_TCAM_META.off r.pf).bset pg F.TBL_TCAM_ROW_VALID (s.tcamRow sl head).valid).rowLast sl 0

def execTcamInvalidate (src : Source) (page : PageIdx) (val : Word) (s : State) : Res :=
  .next (s.accessKind src page .slice (F.TBL_TCAM_ROW.cmd3 1 val) (fun p s => s.rowValid p.n val false))

def execTcamValidate (src : Source) (page : PageIdx) (val : Word) (s : State) : Res :=
  .next (s.accessKind src page .slice (F.TBL_TCAM_ROW.cmd3 3 val) (fun p s => s.rowValid p.n val true))

def execTcamWrite (src : Source) (page : PageIdx) (val : Word) (s : State) : Res :=
  .next (s.accessKind src page .slice (F.TBL_TCAM_ROW.cmd3 2 val) (fun p s => s.rowWrite p.n val))

def execTcamRead (src : Source) (page : PageIdx) (val : Word) (s : State) : Res :=
  .next (s.accessKind src page .slice (F.TBL_TCAM_ROW.cmd3 4 val) (fun p s => s.rowRead p.n val))

def execTcamRowOpDone (sl : Slice) (s : State) : Res := s.ifOperates (slicePg sl.val) (s.bset (slicePg sl.val) F.TBL_TCAM_ROW_BUSY false)

/-- R137: a change of BLOCK_CFG is refused while a row of the block's group is valid. -/
def State.blockCfgWrite (s : State) (sl b : Nat) (val : Word) : State :=
  let pg := slicePg sl
  let off := F.TBL_TCAM_BLOCK_CFG.at b
  let head := s.tcamFirst sl b
  let s' := s.putRw pg off val
  if s'.reg pg off = s.reg pg off then s
  else if (s.tab sl).tcam.any (fun kv => decide (kv.1 / 1024 = head) && kv.2.valid) then
    (s.fset pg F.TBL_TCAM_ROW_LAST 3).errCount pg
  else s'

def execTcamBlockCfgWrite (src : Source) (page : PageIdx) (b : Fin 16) (val : Word) (s : State) : Res :=
  .next (s.accessKind src page .slice (F.TBL_TCAM_BLOCK_CFG.wr val b.val) (fun p s => s.blockCfgWrite p.n b.val val))

/-- R136: the scrub compares every row with its copy, after the cells that have flipped since the last search, and rewrites each
row that differs. -/
def execTcamScrub (sl : Slice) (flips : List TcamFlip) (s : State) : Res :=
  let s := s.tcamFlips sl.val flips
  .next ((s.updTab sl.val (fun t => { t with upset := [] })).cadd (slicePg sl.val) F.TBL_TCAM_SCRUB_FIX (s.tab sl.val).upset.length)

end Sys2Proof.Machine
end

