-- ==== Sys2Proof/Machine/Classifier.lean ====
section
/-!
DEFINITION. The classifier of a die: tenant-tree map, decision cache, tree walks, fallback and its registers
(04 R117-R130, R138).
-/
namespace Sys2Proof.Machine

def State.clsOf (s : State) (d : Nat) : ClsSt := s.clss.get {} d
def State.setCls (s : State) (d : Nat) (c : ClsSt) : State := { s with clss := s.clss.set {} d c }

/-- The tree of a tenant, if any (R117). -/
def State.treeOf (s : State) (d tenant : Nat) : Option Nat :=
  let e := ((s.clsOf d).tt.get 0 tenant).toNat
  if bit e 8 then some (e % 256) else none

def State.treeBusy (s : State) (d t : Nat) : Bool := s.flag (clsPg d) F.CLS_TREE_CTRL_BUSY t
def State.treeFailed (s : State) (d t : Nat) : Bool := s.flag (clsPg d) F.CLS_TREE_CTRL_FAILED t
def State.treeActive (s : State) (d t : Nat) : Nat := s.fget (clsPg d) F.CLS_TREE_CTRL_ACTIVE t

/-- CHANMASK and ROOT of a bank. -/
def State.treeMask (s : State) (d t bank : Nat) : Nat :=
  if bank = 0 then s.fget (clsPg d) F.CLS_TREE_ROOT0_CHANMASK t else s.fget (clsPg d) F.CLS_TREE_ROOT1_CHANMASK t
def State.treeRoot (s : State) (d t bank : Nat) : Nat :=
  if bank = 0 then s.fget (clsPg d) F.CLS_TREE_ROOT0_ROOT t else s.fget (clsPg d) F.CLS_TREE_ROOT1_ROOT t

/-- A reserved ACTION decides DENY where R119 and R138 say so. -/
def denyReserved (a : Nat) : Nat := if a ≥ 5 then 2 else a

/-- The tree's FALLBACK decision (R119, R127, R138). -/
def State.fallbackDec (s : State) (d t : Nat) : Dec :=
  { action := denyReserved (s.fget (clsPg d) F.CLS_TREE_CTRL_FALLBACK t), fallback := true }

/-- The decision that a row of the fallback group or of the guard bank holds (R138, R139). -/
def rowDec (v : Nat) : Dec :=
  { action := denyReserved (bits v 18 16), tc := if bit v 15 then some (bits v 14 12) else none, rule := 0xFFFFF,
    fallback := true }

/-- The TCAM fallback of an ingress slice, for a failed tree (R127, R138). -/
def State.tcamFallback (s : State) (d sl t key : Nat) (u : TcamUpset) : Dec × State :=
  match s.tcamSearch sl 0x20 key u with
  | (some i, s) => (rowDec (s.tcamRow sl i).value.toNat, s.cadd (clsPg d) F.CLS_FALLBACK_FRAMES)
  | (none, s) => (s.fallbackDec d t, s.cadd (clsPg d) F.CLS_FALLBACK_FRAMES)

/-! ### Decision cache (R118) -/

/-- A lookup hits on key, tree and bank generation; a hit becomes the most recently used. -/
def State.cacheLookup (s : State) (d t key : Nat) : Option Dec × State :=
  let c := s.clsOf d
  if !s.flag (clsPg d) F.CLS_CTRL_CACHE_EN then (none, s) else
  match c.cache.find? (fun e => e.key = key ∧ e.tree = t ∧ e.gen = c.gens.get 0 t) with
  | none => (none, s)
  | some e => (some e.dec, s.setCls d { c with cache := e :: c.cache.erase e })

/-- Keep the eight most recently used entries of a set. -/
def trimSet (st : Fin 16384) : Nat → List CacheEnt → List CacheEnt
  | _, [] => []
  | n, e :: r =>
    if Config.cacheSet e.key e.tree = st then (if n = 0 then trimSet st 0 r else e :: trimSet st (n - 1) r)
    else e :: trimSet st n r

/-- Cache a decision. -/
def State.cacheInsert (s : State) (d t key : Nat) (x : Dec) : State :=
  let c := s.clsOf d
  let e : CacheEnt := ⟨key, t, c.gens.get 0 t, x⟩
  s.setCls d { c with cache := trimSet (Config.cacheSet key t) 8 (e :: c.cache.filter (fun y => y.key ≠ key ∨ y.tree ≠ t)) }

/-! ### Walks (R118, R119, R127) -/

/-- The end of a walk. -/
inductive WalkEnd where
  | leaf (x : Dec) (cache : Bool)
  | depth
  | error (chan : Nat)
  deriving DecidableEq, Repr

/-- Read nodes from a pointer, at most four; `errs` is what the memory returns for each read in turn. -/
def State.walk (s : State) (d key : Nat) : Nat → Nat → List QdrErr → WalkEnd × State
  | 0, _, _ => (.depth, s)
  | fuel + 1, ptr, errs =>
    let ch := bits ptr 24 23
    let c := 4 * d + ch
    let e := errs.headD .ok
    let s := (s.qdrReport c (bits ptr 22 0) e).pmcEvent (qdrPg c) { code := 7, src := some .pipe }
    let s := s.pmcEvent (clsPg d) { code := 7, src := some .pipe }
    if e.fails then (.error ch, s) else
    let n := (s.qdrNode c (bits ptr 22 0)).toNat
    match bits n 255 254 with
    | 0 =>
      let i := (key >>> bits n 253 245) % 2 ^ (bits n 244 242 + 1)
      let idx := bits n 239 217 + i
      if idx > 0x7FFFFF then (.depth, s)
      else s.walk d key fuel (bits n 241 240 * 2 ^ 23 + idx) errs.tail
    | 1 =>
      let a := bits n 253 251
      let rule := bits n 246 227
      if a ≥ 5 ∨ rule = 0 ∨ rule = 0xFFFFF then (.depth, s)
      else (.leaf { action := a, tc := if bit n 250 then some (bits n 249 247) else none, rule := rule, miss := true }
        (!bit n 226), s)
    | _ => (.depth, s)

/-- The decision of a walk of tree `t` on a bank, with what its failure sets (R119, R127). -/
def State.walkDecide (s : State) (d t bank key : Nat) (errs : List QdrErr) : Dec × State :=
  let pg := clsPg d
  let fb (s : State) : Dec × State :=
    ({ s.fallbackDec d t with miss := true }, s.cadd pg F.CLS_FALLBACK_FRAMES)
  match s.walk d key 4 (s.treeRoot d t bank) errs with
  | (.leaf x cache, s) => (x, if cache && !s.treeBusy d t then s.cacheInsert d t key { x with miss := false } else s)
  | (.depth, s) => fb (s.raise pg 8)
  | (.error ch, s) =>
    fb (((s.fset pg F.CLS_STATUS_CHAN_FAILED (s.fget pg F.CLS_STATUS_CHAN_FAILED ||| 2 ^ ch)).cadd pg F.CLS_QDR_UNCORR).raise
      pg 12)

/-- Issue a walk: counted as a miss, charged to the frame (R129, R356). -/
def State.issueWalk (s : State) (d uid : Nat) : State :=
  ((s.cadd (clsPg d) F.CLS_CACHE_MISSES).pmcEvent (clsPg d) { code := 0xC, src := some .pipe }).chargeFrm d uid 5 1

/-- Frames and cells held by the pre-classifier FIFO, and whether one more frame has room (R122, R123). -/
def State.fifoRoom (s : State) (d cells : Nat) : Bool :=
  let l := (s.clsOf d).fifo
  decide (l.length < 131072) && decide ((l.map Waiter.cells).sum + cells ≤ 131072)

/-- The frame in the FIFO whose decision a frame of a tree and a key would take (R122). -/
def State.fifoSame (s : State) (d t key : Nat) : Option Waiter :=
  (s.clsOf d).fifo.find? (fun w => w.tree = t ∧ w.key = key ∧ w.leader.isNone ∧ (s.treeBusy d t → w.bank.isNone))

/-- Put a frame into the FIFO: behind an equal key it takes that frame's decision; behind a swap it waits; else its walk
is issued on the active bank (R122, R126). -/
def State.fifoPush (s : State) (d uid t key cells : Nat) : State :=
  let c := s.clsOf d
  let busy := s.treeBusy d t
  match s.fifoSame d t key with
  | some w => s.setCls d { c with fifo := c.fifo ++ [⟨uid, key, t, cells, w.bank, some w.uid⟩] }
  | none =>
    if busy then s.setCls d { c with fifo := c.fifo ++ [⟨uid, key, t, cells, none, none⟩] }
    else (s.setCls d { c with fifo := c.fifo ++ [⟨uid, key, t, cells, some (s.treeActive d t), none⟩] }).issueWalk d uid

/-! ### Registers (R117, R118, R124, R125) -/

/-- A write of CLS_CTRL with FLUSH = 1 empties the decision cache. -/
def State.cacheFlush (s : State) (p : Page) (val : Word) : State :=
  (s.putRw p F.CLS_CTRL.off val).setCls p.n { s.clsOf p.n with cache := [] }

def execClsCacheFlush (src : Source) (page : PageIdx) (val : Word) (s : State) : Res :=
  .next (s.accessKind src page .cls (F.CLS_CTRL.wr (val ||| 0x80000000)) (fun p s => s.cacheFlush p val))

/-- CLS_TT_ADDR with OP write or read. -/
def State.ttCmd (s : State) (d : Nat) (write : Bool) (val : Word) : State :=
  let pg := clsPg d
  let s := s.putRw pg F.CLS_TT_ADDR.off val
  let c := s.clsOf d
  let t := F.CLS_TT_ADDR_TENANT.of val
  if write then s.setCls d { c with tt := c.tt.set 0 t ((s.reg pg F.CLS_TT_DATA.off).setWidth 9) }
  else s.setReg pg F.CLS_TT_DATA.off ((c.tt.get 0 t).setWidth 32)

def execClsTtWrite (src : Source) (page : PageIdx) (val : Word) (s : State) : Res :=
  .next (s.accessKind src page .cls (F.CLS_TT_ADDR.cmd 1 val) (fun p s => s.ttCmd p.n true val))

def execClsTtRead (src : Source) (page : PageIdx) (val : Word) (s : State) : Res :=
  .next (s.accessKind src page .cls (F.CLS_TT_ADDR.cmd 2 val) (fun p s => s.ttCmd p.n false val))

/-- A write of the active bank's root is ignored and counted (R124). -/
def State.rootWrite (s : State) (d t bank : Nat) (val : Word) : State :=
  let off := (if bank = 0 then F.CLS_TREE_ROOT0 else F.CLS_TREE_ROOT1).at t
  if s.treeActive d t = bank then s.errCount (clsPg d) else s.putRw (clsPg d) off val

def execClsTreeRootWrite (src : Source) (page : PageIdx) (t : Fin 256) (bank : Fin 2) (val : Word) (s : State) : Res :=
  .next (s.accessKind src page .cls ((if bank.val = 0 then F.CLS_TREE_ROOT0 else F.CLS_TREE_ROOT1).wr val t.val)
    (fun p s => s.rootWrite p.n t.val bank.val val))

/-- A write of SWAP = 1 (R125): ignored and counted while a swap of the tree is in progress. -/
def State.swapStart (s : State) (d t : Nat) (val : Word) : State :=
  let pg := clsPg d
  let s := s.putRw pg (F.CLS_TREE_CTRL.at t) val
  if s.treeBusy d t then s.errCount pg else
  let s := s.bset pg F.CLS_TREE_CTRL_BUSY true t
  let writes := ((List.range 4).map (4 * d + ·)).filter (fun c => (s.qdrBusy.get none c).any (fun a => a.data.isSome))
  s.setCls d { s.clsOf d with
    swaps := (s.clsOf d).swaps.set none t (some (s.monoNs d)), swapWrites := (s.clsOf d).swapWrites.set [] t writes }

def execClsTreeSwap (src : Source) (page : PageIdx) (t : Fin 256) (val : Word) (s : State) : Res :=
  .next (s.accessKind src page .cls (F.CLS_TREE_CTRL.wr (val ||| 0x80000000) t.val) (fun p s => s.swapStart p.n t.val val))

/-- R127: FAILED is set on every tree whose active bank uses a channel that failed. -/
def execTreeFailedMark (d : Die) (c : Fin 4) (s : State) : Res :=
  let pg := clsPg d.val
  s.ifOperates (clsPg d.val) (if bit (s.fget pg F.CLS_STATUS_CHAN_FAILED) c.val then
    (List.range 256).foldl (fun s t =>
      if bit (s.treeMask d.val t (s.treeActive d.val t)) c.val ∧ !s.treeFailed d.val t then
        (s.bset pg F.CLS_TREE_CTRL_FAILED true t).raise pg 11
      else s) s
  else s)

end Sys2Proof.Machine
end

