-- ==== Sys2Proof/Machine/Stages.lean ====
section
/-!
DEFINITION. Match-action stages of either pass: keys, action words, results, policers and the raising of learn events
(05 R141-R145, R163, R168, R173; 08 R263-R265).
-/
namespace Sys2Proof.Machine

def State.sliceOf (s : State) (sl : Nat) : SliceSt := s.slices.get {} sl
def State.setSlice (s : State) (sl : Nat) (x : SliceSt) : State := { s with slices := s.slices.set {} sl x }
def State.portOf (s : State) (p : Nat) : PortSt := s.ports.get {} p
def State.setPort (s : State) (p : Nat) (x : PortSt) : State := { s with ports := s.ports.set {} p x }
def State.lrnOf (s : State) (d : Nat) : LrnSt := s.lrns.get {} d
def State.setLrn (s : State) (d : Nat) (x : LrnSt) : State := { s with lrns := s.lrns.set {} d x }

/-- Count an integrity error of the die page (R465, R466). -/
def State.integrity (s : State) (d k : Nat) : State :=
  (s.cadd (diePg d) ⟨0xC00 + 8 * k, 0, 0, 32⟩).raiseIf (decide (k ≠ 5 ∧ k ≠ 10 ∧ k ≠ 12)) (diePg d) 8

/-- The attributes of an event that a frame causes in a pipeline (R360). -/
def pipeEvent (f : Frm) (code amount : Nat) : PmcEvent :=
  { code := code, src := some .pipe, tc := some f.tc, tenant := some f.tenant, port := some f.port, amount := amount }

/-- A table entry read by a frame. -/
def State.countRead (s : State) (sl : Nat) (f : Frm) : State := s.pmcEvent (slicePg sl) (pipeEvent f 4 1)

/-! ### Learn events (R168, R169, R173, R174) -/

/-- The slice whose copy shows the learned entries that a port's deciding arbiter counts. -/
def State.learnSlice (s : State) (p : Nat) : Nat := if s.split (portDie p) then 8 * portDie p else 0

/-- Learned entries whose destination is a port (LRN_PORT_COUNT.COUNT). -/
def State.learnedCount (s : State) (p : Nat) : Nat :=
  ((s.tab (s.learnSlice p)).em).countP (fun kv =>
    let e := kv.2.toNat
    bit e 127 && bit e 122 && bits e 126 125 != 3 && bits e 55 54 == 0 && bits e 53 38 == p)

/-- LRN_PORT_COUNT.LIMIT. -/
def State.learnFull (s : State) (p : Nat) : Bool :=
  let m := s.fget (portPg p) F.LRN_PORT_CFG_MAX
  decide (m ≠ 0) && decide (s.learnedCount p ≥ m)

/-- Take a learn token of a port (R173): RATE tokens each millisecond in steps of 1 µs. -/
def State.learnToken (s : State) (p : Nat) : Bool × State :=
  let rate := s.fget (portPg p) F.LRN_PORT_CFG_RATE
  if rate = 0 then (true, s) else
  let now := s.monoNs (portDie p) / 1000
  let x := s.portOf p
  let have_ := match x.tokens with
    | none => rate * 1000
    | some (t, since) => min (rate * 1000) (t + (now - since) * rate)
  if have_ < 1000 then (false, s.setPort p { x with tokens := some (have_, now) })
  else (true, s.setPort p { x with tokens := some (have_ - 1000, now) })

/-- The arbiter takes an event into its FIFO (R174). -/
def State.arbiterTake (s : State) (d : Nat) (e : LearnEvent) : State :=
  let s := s.cadd (lrnPg d) F.LRN_EVENTS
  let l := s.lrnOf d
  if l.fifo.length ≥ 4096 then (s.cadd (lrnPg d) F.LRN_FIFO_DROP).raise (lrnPg d) 9
  else s.setLrn d { l with fifo := l.fifo ++ [e] }

/-- Does the arbiter of a die decide events (R169, R294)? -/
def State.lrnMaster (s : State) (d : Nat) : Bool := d = 0 || s.split d

/-- Raise a learn event under the port's limits; false when it is refused (R173). The stern arbiter forwards events
while the keel is up (R169). -/
def State.raiseLearn (s : State) (e : LearnEvent) : Bool × State :=
  if s.learnFull e.port then (false, s) else
  let (ok, s) := s.learnToken e.port
  if !ok then (false, s) else
  let d := portDie e.port
  (true, if s.lrnMaster d then s.arbiterTake d e else s.sendCtrl d (.learn e))

/-! ### Passes -/

/-- A frame in a pass: the stage whose word had LAST, the stage at which DENY, PUNT, TABLE_PARITY or LEARN_LIMIT first
affected it, and the LPM deliveries to come: stage, issuing stage register, result. -/
structure PassSt where
  f : Frm
  lastAt : Option Nat := none
  blockAt : Option Nat := none
  pend : List (Nat × Nat × Option (BitVec 18)) := []

/-- Mark the stage that first bars metering (R264). -/
def PassSt.block (x : PassSt) (n : Nat) : PassSt := { x with blockAt := some (x.blockAt.getD n) }

/-- TABLE_PARITY on a frame (R149, R163, R177). -/
def State.parityDrop (s : State) (sl : Nat) (f : Frm) : Frm × State :=
  ({ f with parity := true }, s.raise (slicePg sl) 9)

/-- COUNT_EN (R144, R163). -/
def State.countFlow (s : State) (sl i size : Nat) : State :=
  let bad := s.isBad sl tidFlow i
  let s := if bad then (s.parityError sl tidFlow i).clearBad sl tidFlow i else s
  let old := if bad then 0 else ((s.tab sl).flow.get 0 i)
  let v := fieldAt (bits old.toNat 127 64 + size) 127 64 + fieldAt (bits old.toNat 63 0 + 1) 63 0
  s.updTab sl (fun t => { t with flow := t.flow.set 0 i (BitVec.ofNat 128 v) })

/-- Apply an action word at stage `n` of a pass (R143-R145, R150, R264). -/
def State.applyWord (s : State) (sl n : Nat) (egress : Bool) (w : Nat) (x : PassSt) : PassSt × State :=
  if !bit w 127 then (x, s) else
  let x := if bit w 126 then { x with lastAt := some n } else x
  let f := x.f
  let (f, s) := if !bit w 125 then (f, s)
    else if f.ext.isNone then ({ f with ext := some (bits w 124 110) }, s)
    else (f, s.cadd (slicePg sl) F.TBL_EXT_IGNORED)
  let f := if bit w 109 then { f with tc := bits w 108 106 } else f
  let f := if bit w 105 && !egress then { f with dest := some (bits w 104 103, bits w 102 87) } else f
  let f := if !bit w 86 then f
    else if egress then { f with destTenant := bits w 85 72 } else { f with dtenSet := some (bits w 85 72) }
  let f := if bit w 31 && !egress then { f with bdvrf := bits w 30 17 } else f
  let f := if bit w 50 then
      let lo := 16 * bits w 49 48
      { f with user := putBits f.user (lo + 15) lo (bits w 47 32) }
    else f
  let meter := bit w 63 && x.blockAt.all (fun b => decide (n ≤ b))
  let f := if meter then { f with police := f.police ++ [bits w 62 51] } else f
  let f := if bit w 71 then { f with deny := true } else f
  let f := if bit w 70 then { f with punt := some (bits w 69 64) } else f
  let s := if bit w 16 then s.countFlow sl (bits w 13 0) f.size else s
  let x := { x with f := f }
  (if bit w 71 || bit w 70 then x.block n else x, s)

/-- Apply action word `idx` of stage register `sn` at stage `n` of a pass (R143, R163). -/
def State.applyIndex (s : State) (sl sn n : Nat) (egress : Bool) (idx : Nat) (x : PassSt) : PassSt × State :=
  if idx = 0xFFF || x.lastAt.any (· < n) then (x, s) else
  let s := s.countRead sl x.f
  let i := 4096 * sn + idx
  if s.isBad sl tidAction i then
    let (f, s) := (s.parityError sl tidAction i).parityDrop sl x.f
    (({ x with f := f } : PassSt).block n, s)
  else s.applyWord sl n egress ((s.tab sl).action.get 0 i).toNat x

/-- Apply the TCAM action word of a winning row (R141, R163). -/
def State.applyTcam (s : State) (sl n : Nat) (egress : Bool) (i : Nat) (x : PassSt) : PassSt × State :=
  if x.lastAt.any (· < n) then (x, s) else
  let s := s.countRead sl x.f
  if s.isBad sl tidTcamAct i then
    let (f, s) := (s.parityError sl tidTcamAct i).parityDrop sl x.f
    (({ x with f := f } : PassSt).block n, s)
  else s.applyWord sl n egress ((s.tab sl).tcamAct.get 0 i).toNat x

/-- The exact-match key of a KEYSEL; none where a header is absent (R141). -/
def emKey (f : Frm) (sel : Nat) : Option HashKey :=
  let mac (o : Option Nat) (rel : Nat) := o.map (fun o => keyMac f.bdvrf (num f.bytes (o + rel) 6))
  let ip (x : Option Hdr) := x.map (fun x =>
    if x.1 = hV4 then keyV4 (f.bdvrf % 4096) (ipDst f.bytes x) else keyV6 (f.bdvrf % 4096) (ipDst f.bytes x))
  match sel with
  | 0 => mac (firstHdr f.hdrs (· = hEth)) 0
  | 1 => mac (firstHdr f.hdrs (· = hEth)) 6
  | 2 => mac (lastHdr f.hdrs (· = hEth)) 0
  | 3 => ip (fromLast f.hdrs isIp).head?
  | 4 => ip (fromFirst f.hdrs isIp).head?
  | _ => none

/-- The LPM address of a KEYSEL for a family (R141). -/
def lpmAddr (f : Frm) (sel : Nat) (v6 : Bool) : Option Nat :=
  let want := if v6 then hV6 else hV4
  let a (x : Option Hdr) := x.bind (fun x => if x.1 = want then some (ipDst f.bytes x) else none)
  match sel with
  | 3 => a (fromLast f.hdrs isIp).head?
  | 4 => a (fromFirst f.hdrs isIp).head?
  | _ => none

/-- The DIRECT index of a KEYSEL (R141). -/
def directIdx (f : Frm) (sel : Nat) (egress : Bool) : Option Nat :=
  match sel with
  | 8 => if egress then f.nexthop.map (fun e => bits e.toNat 19 8) else none
  | 9 => some (bits f.user 11 0)
  | 10 => some (bits f.user 27 16)
  | 11 => some f.port
  | _ => none

/-- Look up the exact-match table for a frame: the entry, with the hit recorded for ageing (R163, R172). -/
def State.emFrame (s : State) (sl : Nat) (f : Frm) (k : HashKey) : Option Nat × State :=
  let s := s.countRead sl f
  match s.hashRead .em sl k with
  | (some (_, e), s) =>
    (some e.toNat, s.updTab sl (fun t => if t.hits.contains k.str then t else { t with hits := k.str :: t.hits }))
  | (none, s) => (none, s)

/-- Look up an LPM table for a frame. -/
def State.lpmFrame (s : State) (sl : Nat) (f : Frm) (v6 : Bool) (addr : Nat) : Option (BitVec 18) × State :=
  let r := (s.countRead sl f).lpmRead sl v6 addr
  (r.1.map Prod.snd, r.2)

/-- DEST_KIND and DEST of an LPM result (R157); DROP, and the reserved kind, lead to NO_ROUTE. -/
def lpmDest (r : BitVec 18) : Nat × Nat :=
  match bits r.toNat 17 16 with
  | 0 => (1, bits r.toNat 15 0)
  | 1 => (2, bits r.toNat 15 0)
  | _ => (3, 0)

/-- The result of an exact-match hit (R144, R151): a destination and its tenant. -/
def applyEntry (e : Nat) (f : Frm) : Frm :=
  if bits e 55 54 = 3 then f
  else { f with dest := some (bits e 55 54, bits e 53 38), dtenSet := some (bits e 37 24) }

/-- The learn event that a source lookup raises (R168): a miss, or a hit on an entry that is not STATIC and names another
port. -/
def learnOf (f : Frm) (hit : Option Nat) : Option LearnEvent :=
  match firstHdr f.hdrs (· = hEth) with
  | none => none
  | some o =>
    let mac := num f.bytes (o + 6) 6
    let raises := match hit with
      | none => true
      | some e => !bit e 124 && bits e 55 54 == 0 && bits e 53 38 != f.port
    if bit mac 40 || !raises then none
    else some { bd := f.bdvrf, mac := mac, port := f.port, stamp := f.stamp, tenant := f.tenant }

/-- Learning at stage `n` (R168, R173); the event of a frame whose ICV is unverified waits for the verdict (R368). -/
def State.learnStage (s : State) (n : Nat) (hit : Option Nat) (x : PassSt) : PassSt × State :=
  match learnOf x.f hit with
  | none => (x, s)
  | some e =>
    if !s.flag (portPg e.port) F.LRN_PORT_CFG_EN then (x, s)
    else if x.f.verdict = .waiting then ({ x with f := { x.f with learn := some e } }, s)
    else
      let (ok, s) := s.raiseLearn e
      if ok || s.flag (portPg e.port) F.LRN_PORT_CFG_EXCESS then (x, s)
      else (({ x with f := { x.f with learnDrop := true } } : PassSt).block n, s)

/-- The classifier key of a frame as it stands (R116). -/
def frameKey (f : Frm) : Nat :=
  clsKey f.bytes f.hdrs { tenant := f.tenant, inPort := f.port, tc := f.tc, flag := f.flag, user := f.user }

/-- A TCAM search by an owner, with its block searches counted and charged (R132, R356, R360). -/
def State.searchFor (s : State) (sl owner : Nat) (f : Frm) (u : TcamUpset) : Option Nat × Frm × State :=
  let blocks := (((s.tcamGroups sl).filter (fun g => g.owner = owner && g.ok)).map TcamGroup.k).sum
  let s := s.pmcEvent (slicePg sl) (pipeEvent f 6 blocks)
  let (f, s) := s.charge (sliceDie sl) f 6 blocks
  let r := s.tcamSearch sl owner (frameKey f) u
  (r.1, f, r.2)

/-- Run stage `n` of a pass: action word first, then the result of a hit or of an LPM delivery (R141, R144). -/
def State.runStage (s : State) (sl n : Nat) (egress : Bool) (u : TcamUpset) (x : PassSt) : PassSt × State :=
  let pg := slicePg sl
  let sn := if egress then 16 + n else n
  let sel := s.fget pg F.TBL_STAGE_CFG_KEYSEL sn
  let miss := s.fget pg F.TBL_STAGE_CFG_MISS_ACTION sn
  let (x, s) :=
    match s.fget pg F.TBL_STAGE_CFG_KIND sn with
    | 1 =>
      let (hit, s) := match emKey x.f sel with
        | some k => s.emFrame sl x.f k
        | none => (none, s)
      let (x, s) := match hit with
        | some e =>
          let (x, s) := s.applyIndex sl sn n egress (bits e 23 12) x
          (if egress then x else { x with f := applyEntry e x.f }, s)
        | none => s.applyIndex sl sn n egress miss x
      if s.flag pg F.TBL_STAGE_CFG_SRC_LEARN sn then s.learnStage n hit x else (x, s)
    | 2 | 3 =>
      let v6 := decide (s.fget pg F.TBL_STAGE_CFG_KIND sn = 3)
      let (r, s) := match lpmAddr x.f sel v6 with
        | some a => s.lpmFrame sl x.f v6 a
        | none => (none, s)
      ({ x with pend := x.pend ++ [(n + (if v6 then 7 else 2), sn, r)] }, s)
    | 4 =>
      let (r, f, s) := s.searchFor sl sn x.f u
      let x := { x with f := f }
      match r with
      | some i => s.applyTcam sl n egress i x
      | none => s.applyIndex sl sn n egress miss x
    | 5 =>
      match directIdx x.f sel egress with
      | some i => s.applyIndex sl sn n egress i x
      | none => s.applyIndex sl sn n egress miss x
    | _ => (x, s)
  (x.pend.filter (fun q => q.1 = n)).foldl (fun xs q =>
    match q.2.2 with
    | some r => ({ xs.1 with f := { xs.1.f with dest := some (lpmDest r) } }, xs.2)
    | none => xs.2.applyIndex sl q.2.1 n egress (xs.2.fget pg F.TBL_STAGE_CFG_MISS_ACTION q.2.1) xs.1) (x, s)

/-- Run the stages of a pass: 16 ingress stages, or 8 egress stages (R17, R141). A frame that had TABLE_PARITY before them is not
metered (R264). -/
def State.runStages (s : State) (sl : Nat) (egress : Bool) (u : TcamUpset) (f : Frm) : Frm × State :=
  let r := (List.range (if egress then 8 else 16)).foldl
    (fun xs n => xs.2.runStage sl n egress u xs.1) (({ f := f } : PassSt), s)
  (if f.parity then { r.1.f with police := [] } else r.1.f, r.2)

/-! ### Policers (R263-R265) -/

/-- The instant on which intervals are measured, in 2^-16 ns. -/
def State.monoUnits (s : State) (d : Nat) : Nat := (s.timeOf d).mono / fineUnit

/-- Tokens of a policer now: RATE Mb/s is RATE / 8,000 bytes per ns. -/
def Policer.tokensAt (p : Policer) (now : Nat) : Nat :=
  min (p.burst * 8000 * 65536) (p.tokens + (now - p.since) * F.SCH_POL_DATA0_RATE.of p.cfg)

/-- Meter a frame in a policer: true when it is red (R265). -/
def State.meterOne (s : State) (sl i size : Nat) : Bool × State :=
  let x := s.sliceOf sl
  let p := x.policers.get {} i
  if F.SCH_POL_DATA0_EN.of p.cfg = 0 then (false, s) else
  let now := s.monoUnits (sliceDie sl)
  let len := size + (if F.SCH_POL_DATA0_WIRE.of p.cfg = 1 then 20 else 0)
  let have_ := p.tokensAt now
  let need := len * 8000 * 65536
  let put (s : State) (q : Policer) := s.setSlice sl { s.sliceOf sl with policers := (s.sliceOf sl).policers.set {} i q }
  if need ≤ have_ then (false, put s { p with tokens := have_ - need, since := now })
  else
    (true, ((put s { p with tokens := have_, since := now, red := p.red + 1 }).cadd (slicePg sl) F.SCH_POL_RED_FRAMES).cadd
      (slicePg sl) F.SCH_POL_RED_BYTES len)

/-- Meter a frame in its policers in stage order; the first red result ends its metering (R264). -/
def State.meterAll (s : State) (sl size : Nat) : List Nat → Bool × State
  | [] => (false, s)
  | i :: r =>
    match s.meterOne sl i size with
    | (true, s) => (true, s)
    | (false, s) => s.meterAll sl size r

/-- Meter a frame once its stages have run and its last byte has been received (R264); the policers of a frame whose ICV
is unverified wait for the verdict (R368). -/
def State.meterFrm (s : State) (sl : Nat) (f : Frm) : Frm × State :=
  if f.police.isEmpty || !f.lastByte || f.verdict = .waiting then (f, s) else
  let (red, s) := s.meterAll sl f.size f.police
  ({ f with police := [], path := f.path ||| pPoliced, red := f.red || red }, s)

end Sys2Proof.Machine
end

