-- ==== Sys2Proof/Machine/Mac.lean ====
section
/-!
DEFINITION. Port speeds and lanes, what a port puts on its lanes, frames that the MAC makes itself, and the PFC state of a port
(01 R32; 03 R77-R81, R90; 07 R230-R235).
-/
namespace Sys2Proof.Machine

/-- Port speed of a technology in Mb/s (R77). -/
def techSpeed : Nat → Nat
  | 0 => 10000 | 1 => 25000 | 2 => 50000 | 3 => 100000 | 4 => 200000 | 5 => 100000 | 6 => 200000 | 7 => 400000
  | 8 => 100000 | 9 => 200000 | 10 => 400000 | 11 => 800000 | 12 => 1600000 | _ => 0

/-- The speed of a port, from PORT_STATUS.TECH; 0 when none is resolved. -/
def State.portSpeed (s : State) (p : Nat) : Nat := techSpeed (s.fget (portPg p) F.PORT_STATUS_TECH)

/-! ### Configured ports (R75-R77, R86) -/

/-- Width of a width code; 0 where no port starts. -/
def codeWidth : Nat → Nat
  | 1 => 1 | 2 => 2 | 3 => 4 | 4 => 8 | _ => 0

/-- The technology of R77 with a width at a lane rate. -/
def techOf : Nat → Nat → Option Nat
  | 1, 4 => some 0 | 1, 3 => some 1 | 1, 2 => some 2 | 1, 1 => some 3 | 1, 0 => some 4
  | 2, 2 => some 5 | 2, 1 => some 6 | 2, 0 => some 7
  | 4, 3 => some 8 | 4, 2 => some 9 | 4, 1 => some 10 | 4, 0 => some 11
  | 8, 0 => some 12
  | _, _ => none

/-- Width code of lane `i` in an arrangement. -/
def arrCode (arr i : Nat) : Nat := bits arr (3 * i + 2) (3 * i)

/-- Configured rate of lane `i` of an eight. -/
def pairRate (rate i : Nat) : Nat := bits rate (3 * (i / 2) + 2) (3 * (i / 2))

/-- Width of the port at a seat; 0 for a vacant seat. -/
def State.portWidth (s : State) (p : Nat) : Nat :=
  codeWidth (arrCode (s.reg (eightPg (p / 8)) F.EIGHT_ARRANGE.off).toNat (p % 8))

/-- Configured rate of a port's lanes. -/
def State.confRate (s : State) (p : Nat) : Nat :=
  pairRate (s.reg (eightPg (p / 8)) F.EIGHT_PAIR_RATE.off).toNat (p % 8)

/-- The configured speed of a port: that of the technology of its width at its pairs' configured rate (R86), 0 where there is none. -/
def State.confSpeed (s : State) (p : Nat) : Nat := ((techOf (s.portWidth p) (s.confRate p)).map techSpeed).getD 0

/-- The silicon lanes of a port. -/
def State.portLanes (s : State) (p : Nat) : List Nat := (List.range (s.portWidth p)).map (p + ·)

/-- Connector lane of silicon lane `i`. -/
def connLane (swap i : Nat) : Nat := bits swap (3 * i + 2) (3 * i)

/-- The silicon lanes of a port by connector lane: PCS or FEC lane k of the port is sent on the silicon lane at position k, and
negotiation runs on the first (R81). -/
def State.laneOrder (s : State) (p : Nat) : List Nat :=
  let conn (l : Nat) : Nat := connLane (s.fget (eightPg (l / 8)) F.EIGHT_SWAP_CONN) (l % 8)
  (List.range 8).filterMap (fun c => (s.portLanes p).find? (fun l => decide (conn l = c)))

/-- The transmit and receive polarity bits of a lane's board-table entry (R79, R502). -/
def State.txPol (s : State) (l : Nat) : Bool := (s.reg (lanePg l) F.LANE_BT_HI.off).getLsbD 2
def State.rxPol (s : State) (l : Nat) : Bool := (s.reg (lanePg l) F.LANE_BT_HI.off).getLsbD 3

/-! ### The lanes at their contacts (R80, R81, R90) -/

/-- Does a port transcode to 256b/257b: its FEC is RS(544,514) or RS(528,514) (R90)? -/
def State.rsFec (s : State) (p : Nat) : Bool :=
  let fec := s.fget (portPg p) F.PORT_STATUS_FEC
  decide (fec = 1 ∨ fec = 2)

/-- Send a frame with its check sequence on the lanes of a port, coded for the line; the polarity bit of a lane acts at its contacts
(R80, R81, R90). -/
def State.putWire (s : State) (p : Nat) (delimiter : Byte) (b : List Byte) : State :=
  let order := s.laneOrder p
  let k := s.links.get {} p
  let (st, s) := match k.scrambler with
    | some st => (st, s)
    | none => s.draw 58
  let q := codeUnits (s.rsFec p) st (fillBlocks (frameBlocks delimiter b))
  let s := { s with links := s.links.set {} p { k with scrambler := some q.2 } }
  (order.zip (List.range order.length)).foldl (fun s x =>
    s.emit (.line x.1 ((laneUnits q.1 order.length x.2).map (fun b => b != s.txPol x.1)))) s

/-- The start delimiter of a frame that an express or an ordinary MAC sends. -/
def sfd : Byte := 0xD5

/-! ### Frames of the MAC -/

/-- PORT_MAC_SA as six bytes. -/
def State.portSa (s : State) (p : Nat) : List Byte :=
  beBytes 6 (s.fget (portPg p) F.PORT_MAC_SA_HI_ADDR * 2 ^ 32 + s.fget (portPg p) F.PORT_MAC_SA_LO_ADDR)

/-- Send a frame of 60 bytes that the MAC makes, with its check sequence. The delimiter of a verify or response frame, and the mask of its
check sequence, are those of Clause 99; the delimiter is left open (PRESUMED). -/
def State.sendNow (s : State) (p : Nat) (o : Output) : State :=
  let s := match o with
    | .tx _ b fcs => s.putWire p sfd (b ++ leBytes 4 fcs.toNat)
    | .merge _ _ b =>
      let r := s.draw 8
      r.2.putWire p r.1 (b ++ leBytes 4 (fcs32 b ^^^ 0x0000FFFF).toNat)
    | _ => s
  ((s.emit o).cadd (portPg p) F.PORT_TX_FRAMES).cadd (portPg p) F.PORT_TX_BYTES 64

/-- Send such a frame at the next frame boundary: at once where no frame is being sent (R232, R271). -/
def State.sendCtl (s : State) (p : Nat) (o : Output) : State :=
  let x := s.portOf p
  if x.tx.isNone then s.sendNow p o else s.setPort p { x with ctl := x.ctl ++ [o] }

/-- At a frame boundary of a port, the frames that waited for it leave. -/
def State.flushCtl (s : State) (p : Nat) : State :=
  let x := s.portOf p
  x.ctl.foldl (fun s o => s.sendNow p o) (if x.ctl.isEmpty then s else s.setPort p { x with ctl := [] })

/-- Transmit a frame that the MAC generates: padded to 60 bytes, unprotected, in no queue (R232, R271). -/
def State.macSend (s : State) (p : Nat) (bytes : List Byte) : State :=
  let b := bytes ++ List.replicate (60 - bytes.length) 0
  s.sendCtl p (.tx p b (fcs32 b))

/-- A PFC frame: the class-enable bits and the pause time of each class (R232). -/
def State.sendPfc (s : State) (p cls : Nat) (time : Nat → Nat) : State :=
  (s.macSend p (beBytes 6 0x0180C2000001 ++ s.portSa p ++ beBytes 2 0x8808 ++ beBytes 2 0x0101 ++ beBytes 2 cls ++
    (List.range 8).flatMap (fun c => beBytes 2 (if bit cls c then time c else 0)))).cadd (portPg p) F.BUF_PFC_TX

def State.setSliceState (s : State) (sl v : Nat) : State :=
  let pg := aonPg (sliceDie sl)
  s.fset pg F.AON_SLICE_STATE_STATE
    (putBits (s.fget pg F.AON_SLICE_STATE_STATE) (2 * (sl % 8) + 1) (2 * (sl % 8)) v)

/-- Do the pipelines of a slice run? -/
def State.sliceRuns (s : State) (sl : Nat) : Bool := s.dieUp (sliceDie sl) && decide (s.sliceState sl = 0)

def State.coxOf (s : State) (d : Nat) : CoxSt := s.coxs.get {} d
def State.setCox (s : State) (d : Nat) (c : CoxSt) : State := { s with coxs := s.coxs.set {} d c }

/-- A wake cause occurs for a slice that is not awake (R427). -/
def State.wakeCause (s : State) (sl : Nat) : State :=
  let c := s.coxOf (sliceDie sl)
  if s.sliceState sl = 0 ∨ c.wakes.contains (sl % 8) then s
  else s.setCox (sliceDie sl) { c with wakes := c.wakes ++ [sl % 8] }

/-- Has a slice an open throttle episode (R453)? -/
def State.throttled (s : State) (sl : Nat) : Bool :=
  (s.coxOf (sliceDie sl)).episodes.any (fun e => e.slices.testBit (sl % 8))

def State.bufOf (s : State) (d : Nat) : BufSt := s.bufs.get {} d
def State.setBuf (s : State) (d : Nat) (b : BufSt) : State := { s with bufs := s.bufs.set {} d b }

/-- Is class `c` lossless on port `p` (R230)? -/
def State.lossless (s : State) (p c : Nat) : Bool := bit (s.fget (portPg p) F.BUF_PORT_CFG_PFC_TX_EN) c

/-- Does port `p` hold class `c` paused: a die holds the condition, or the entry buffer calls for it (R32, R231, R235)? -/
def State.paused (s : State) (p c : Nat) : Bool :=
  let b := s.bufOf (portDie p)
  s.lossless p c && ((s.portOf p).entryXoff || b.xoff.contains (8 * p + c) ||
    (b.remote.contains (8 * p + c) && !s.apart (portDie p)))

/-- Bring BUF_PORT_PFC_STATUS.XOFF up to date; one PFC frame carries every class that changes (R232). -/
def State.pfcUpdate (s : State) (p : Nat) : State :=
  let now := (List.range 8).foldl (fun a c => if s.paused p c then a + 2 ^ c else a) 0
  let was := s.fget (portPg p) F.BUF_PORT_PFC_STATUS_XOFF
  if now = was then s else
  let s := s.fset (portPg p) F.BUF_PORT_PFC_STATUS_XOFF now
  if s.portUp p then s.sendPfc p (now ^^^ was) (fun c => if bit now c then 0xFFFF else 0) else s

/-- Fill of a port's pipeline-entry buffer in bytes (R30). -/
def State.entryFill (s : State) (p : Nat) : Nat :=
  ((s.portOf p).entry.map (fun u => match s.frm u with | some f => f.len | none => 0)).sum

/-- The entry buffer's pause: set at 8 KiB, cleared below 4 KiB (R32). -/
def State.entryPfc (s : State) (p : Nat) : State :=
  let fill := s.entryFill p
  let x := s.portOf p
  (s.setPort p { x with entryXoff := decide (fill ≥ 8192) || (x.entryXoff && decide (fill ≥ 4096)) }).pfcUpdate p

end Sys2Proof.Machine
end

