-- ==== Sys2Proof/Machine/Forward.lean ====
section
/-!
DEFINITION. From the end of an ingress pass to admission: dispatch, resolution with its hash, the classifier and its
FIFO, the decision, multicast parts, the keel transmit buffer, and what a stalled pipeline waits for
(04 R117-R127; 05 R146-R149; 06 R182-R185, R211; 07 R241; 09 R288; 15 R472; 01 R34).
-/
namespace Sys2Proof.Machine

/-! ### Resolution (R146-R149) -/

/-- CRC-32C with a given initial register value. -/
def crc32cFrom (init : Word) (l : List Byte) : Word := ~~~ crcRun crc32cPoly init l

/-- The fields of the hash in ascending bit order of the profile, each as whole bytes, most significant first (R147);
a field that the frame lacks is zero. -/
def hashFields (f : Frm) (inner : Bool) : List (List Byte) :=
  let ip := if inner then fromLast f.hdrs isIp else fromFirst f.hdrs isIp
  let ipv (g : Hdr → Nat) := match ip with | x :: _ => g x | [] => 0
  let l4v (rel : Nat) := match l4Of ip with | some x => num f.bytes (x.2 + rel) 2 | none => 0
  let eth (rel : Nat) := match firstHdr f.hdrs (· = hEth) with | some o => num f.bytes (o + rel) 6 | none => 0
  [beBytes 16 (ipv (ipSrc f.bytes)), beBytes 16 (ipv (ipDst f.bytes)), beBytes 1 (ipProtoOf f.bytes ip),
   beBytes 2 (l4v 0), beBytes 2 (l4v 2), beBytes 2 f.port, beBytes 3 ((outerVni f.bytes f.hdrs).getD 0),
   beBytes 3 (ipv (fun x => if x.1 = hV6 then num f.bytes (x.2 + 1) 3 % 2 ^ 20 else 0)),
   beBytes 6 (eth 6), beBytes 6 (eth 0), beBytes 2 ((etherTypeOf f.bytes (fromFirst f.hdrs (· = hEth))).getD 0)]

/-- The hash of a frame under a profile of a slice (R147). -/
def State.hashOf (s : State) (sl profile : Nat) (f : Frm) : Word :=
  let pg := slicePg sl
  let w := (s.reg pg (F.TBL_HASH_PROFILE.at profile)).toNat
  let seed := s.fget pg F.TBL_HASH_PROFILE_SEED profile
  let fs := hashFields f (s.flag pg F.TBL_HASH_PROFILE_INNER profile)
  crc32cFrom (BitVec.ofNat 32 (seed * 65536 + seed)) (((fs.zip (List.range 11)).filter (fun x => bit w x.2)).flatMap Prod.fst)

/-- The choice of a member (R147): its TARGET with the group's KIND, or the drop reason. -/
inductive Chosen where
  | member (lag : Bool) (target : Nat)
  | drop (reason : Nat)

/-- Choose a member of a group for a frame (R147, R163). -/
def State.choose (s : State) (sl g : Nat) (f : Frm) : Chosen × State :=
  let s := s.countRead sl f
  if s.isBad sl tidGroup g then (.drop dParity, s.parityError sl tidGroup g) else
  let w := ((s.tab sl).group.get 0 g).toNat
  let l := s.eligible sl w
  if l.isEmpty then (.drop (if s.keelEmpty sl w then dKeel else dNoRoute), s) else
  let h := (s.hashOf sl (bits w 61 60) f).toNat
  let h := if bit w 62 then h / 65536 else h % 65536
  let i := l.getD (h * l.length / 65536) 0
  let s := s.countRead sl f
  if s.isBad sl tidMember i then (.drop dParity, s.parityError sl tidMember i)
  else (.member (bit w 62) (bits ((s.tab sl).member.get 0 i).toNat 15 0), s)

/-- The IP header that directly follows the outermost Ethernet header and its VLAN tags (R541). -/
def ttlHdr (f : Frm) : Option Hdr :=
  match f.hdrs with
  | (t, _) :: r =>
    if t = hEth then
      match r.dropWhile (fun x => x.1 = hVlan) with
      | x :: _ => if isIp x.1 then some x else none
      | [] => none
    else none
  | [] => none

/-- A port as destination (R146): the frame, or its drop reason. -/
def State.toPort (s : State) (sl p : Nat) (f : Frm) : Nat × Frm :=
  if p > 1023 then (dNoRoute, f)
  else if s.apart (sliceDie sl) ∧ portDie p ≠ sliceDie sl then (dKeel, f)
  else (0, { f with target := some (.port p) })

/-- Resolution from a next hop on (R146). -/
def State.resolveHop (s : State) (sl i : Nat) (f : Frm) : Nat × Frm × State :=
  let s := s.countRead sl f
  if s.isBad sl tidNexthop i then (dParity, f, s.parityError sl tidNexthop i) else
  let e := (s.tab sl).nexthop.get 0 i
  let w := e.toNat
  if !bit w 127 || bits w 126 125 = 3 then (dNoRoute, f, s)
  else if bits w 21 20 = 1 && (ttlHdr f).any (fun x => decide (ipTtl f.bytes x ≤ 1)) then (dNoRoute, f, s)
  else
    let f := { f with nexthop := some e, destTenant := bits w 101 88 }
    match bits w 126 125 with
    | 2 => (0, { f with target := some (.mcast (bits w 114 102)) }, s)
    | 1 =>
      match s.choose sl (bits w 114 102) f with
      | (.member _ t, s) => let r := s.toPort sl t f; (r.1, r.2, s)
      | (.drop why, s) => (why, f, s)
    | _ => let r := s.toPort sl (bits w 124 115) f; (r.1, r.2, s)

/-- Resolution of a destination that is set (R146). -/
def State.resolveDest (s : State) (sl : Nat) (f : Frm) : Nat × Frm × State :=
  match f.dest with
  | none => (dNoRoute, f, s)
  | some (0, p) => let r := s.toPort sl p f; (r.1, r.2, s)
  | some (1, i) => s.resolveHop sl i f
  | some (2, g) =>
    match s.choose sl g f with
    | (.member true t, s) => let r := s.toPort sl t f; (r.1, r.2, s)
    | (.member false t, s) => s.resolveHop sl t f
    | (.drop why, s) => (why, f, s)
  | some _ => (dNoRoute, f, s)

/-- Resolve a frame: its target and destination tenant, and the reason of R149 (R146, R148). -/
def State.resolve (s : State) (sl : Nat) (f : Frm) : Frm × State :=
  let f := { f with destTenant := f.dtenSet.getD f.tenant, hash := s.hashOf sl 0 f }
  if f.parity then ({ f with why := dParity }, s)
  else if f.deny then ({ f with why := dAcl }, s)
  else if f.learnDrop then ({ f with why := dLearn }, s)
  else match f.punt with
    | some q => ({ f with target := some (.host q), source := 1 }, s)
    | none =>
      let (why, f, s) := s.resolveDest sl f
      ({ f with why := why }, s.raiseIf (decide (why = dParity)) (slicePg sl) 9)

/-! ### Keel transmit buffer (R288) -/

/-- Cells of a frame (R221). -/
def Frm.cells (f : Frm) : Nat := (f.size + 255) / 256

/-- Room in a die's keel transmit buffer of 8 MiB for a frame. -/
def State.keelRoom (s : State) (d : Nat) (f : Frm) : Bool :=
  decide (((s.keelOf d).tx.map (fun c => c.cells - c.sent)).sum + f.cells ≤ 32768)

/-- Put a frame into the keel transmit buffer; frames take tags in sending order (R284, R285). -/
def State.keelPush (s : State) (d uid : Nat) : State :=
  match s.frm uid with
  | none => s
  | some f =>
    let k := s.keelOf d
    let s := s.setFrm uid { f with path := f.path ||| pCross }
    let s := s.setKeel d
      { k with tx := k.tx ++ [{ uid := uid, tag := k.nextTag, cells := f.cells }], nextTag := (k.nextTag + 1) % 65536 }
    (s.pmcEvent (keelPg d) (pipeEvent f 2 1)).pmcEvent (keelPg d) (pipeEvent f 3 f.size)

/-! ### Multicast parts (R240, R241) -/

def State.mcEntry (s : State) (d g : Nat) : BitVec 515 := s.mcs.get 0 (8192 * d + g)
def mcMap (e : BitVec 515) : Nat := bits e.toNat 511 0
def mcCross (e : BitVec 515) : Bool := e.getLsbD 512
def mcSrcPrune (e : BitVec 515) : Bool := e.getLsbD 513
def mcValid (e : BitVec 515) : Bool := e.getLsbD 514

/-- Send a multicast frame on its way: a local part and a crossing part (R241); none when the keel transmit buffer has no
room. -/
def State.routeMcast (s : State) (d uid g : Nat) (f : Frm) : Option State :=
  let e := s.mcEntry d g
  if !mcValid e then some (s.dropEarly uid dNoRoute) else
  let here := decide (mcMap e ≠ 0)
  let cross := mcCross e && !s.apart d
  let omitted := mcCross e && s.apart d
  let s := if omitted then s.cadd (bufPg d) F.BUF_MC_SKIPPED else s
  if cross && !s.keelRoom d f then none
  else if here && cross then
    let (u2, s) := s.newFrm { f with police := [], root := (if f.root = 0 then uid else f.root) }
    some ((s.toAdmit d uid).keelPush d u2)
  else if cross then some (s.keelPush d uid)
  else if here then some (s.toAdmit d uid)
  else some (s.dropEarly uid (if omitted then dKeel else dNoRoute))

/-- Send a decided frame to admission, on its own die or across the keel (R28, R222); none when the keel transmit buffer
has no room. -/
def State.route (s : State) (d uid : Nat) : Option State :=
  match s.frm uid with
  | none => some s
  | some f =>
    match f.target with
    | none => some (s.dropEarly uid dNoRoute)
    | some (.host _) => some (s.toAdmit d uid)
    | some (.mcast g) => s.routeMcast d uid g f
    | some (.port p) =>
      if portDie p = d then some (s.toAdmit d uid)
      else if s.apart d then some (s.dropEarly uid dKeel)
      else if s.keelRoom d f then some (s.keelPush d uid) else none

/-! ### The decision (R120, R472) -/

/-- A frame that the stages or resolution drop is dropped before the classifier decides (R149). What goes on in its place is the
frame of which PERMIT_COPY would still give a host copy (R120): its number, or the frame's own where nothing drops it. -/
def State.dropFirst (s : State) (uid : Nat) : Nat × State :=
  match s.frm uid with
  | none => (uid, s)
  | some f =>
    if f.why = 0 then (uid, s) else
    let r := s.newFrm { f with
      copy := true, energy := 0, police := [], learn := none, key := none, root := (if f.root = 0 then uid else f.root) }
    (r.1, r.2.dropEarly uid f.why)

/-- Apply a decision to a frame on die `d`: the drop it gives, or the frame as it is to be routed, and the host copy of
PERMIT_COPY. True when the frame is to be routed. -/
def State.decideFrm (s : State) (d uid : Nat) (x : Dec) : Bool × State :=
  match s.frm uid with
  | none => (false, s)
  | some f =>
    if f.why ≠ 0 ∧ x.action ≠ 4 then (false, s.dropFrm uid) else
    let f := { f with
      ruleId := x.rule,
      tc := x.tc.getD f.tc,
      path := f.path ||| (if x.miss then pMiss else 0) ||| (if x.fallback && !f.paddle then pFallback else 0) }
    let q := s.fget (clsPg d) F.CLS_CTRL_PUNT_QUEUE
    let s := s.setFrm uid f
    if f.why ≠ 0 then (false, (s.setFrm uid { f with target := some (.host q), source := 3, why := 0 }).toAdmit d uid) else
    let s := if x.action = 4 then
        let r := s.newFrm
          { f with copy := true, target := some (.host q), source := 3, energy := 0, police := [], root := (if f.root = 0 then uid else f.root) }
        r.2.toAdmit d r.1
      else s
    let why := if x.action = 2 then (if f.paddle then dPaddle else dCls)
      else if (x.action = 0 ∨ x.action = 4) ∧ f.destTenant ≠ f.tenant then dIsolation
      else 0
    if why ≠ 0 then (false, s.dropEarly uid why)
    else if x.action = 3 then (true, s.setFrm uid { f with target := some (.host q), source := 2 })
    else (true, s)

/-- The pipeline that a frame is in, by its key in `stalls`: the ingress pipeline of its ingress port, or in an egress pass the
egress pipeline of its egress port. -/
def Frm.pipe (f : Frm) : Nat :=
  match f.pass with
  | some c => 64 + c.port.getD 0 / 16
  | none => f.port / 16

/-- Put a frame on the list of what stalls its pipeline. -/
def State.stall (s : State) (uid : Nat) (why : StallOn) (front : Bool) : State :=
  match s.frm uid with
  | none => s
  | some f => { s with stalls := s.stalls.upd [] f.pipe (fun l => if front then (uid, why) :: l else l ++ [(uid, why)]) }

/-- Apply a decision and route the frame; a frame that finds the keel transmit buffer full stalls its pipeline (R288). -/
def State.applyDecision (s : State) (d uid : Nat) (x : Dec) (front : Bool) : State :=
  match s.decideFrm d uid x with
  | (false, s) => s
  | (true, s) =>
    match s.route d uid with
    | some s => s
    | none => s.stall uid .keel front

/-! ### The classifier (R117-R123, R127) -/

/-- Forget a decision-cache entry whose parity fails (R460). -/
def State.cacheUpset (s : State) (d t key : Nat) : State :=
  let c := s.clsOf d
  match c.cache.find? (fun e => e.key = key ∧ e.tree = t ∧ e.gen = c.gens.get 0 t) with
  | some e => (s.setCls d { c with cache := c.cache.erase e }).integrity d 9
  | none => s

/-- Show a frame to its die's classifier (R117-R123, R127); none when the FIFO has no room for a frame that must wait. Behind a swap
of its tree, and behind an earlier frame of its key, it waits. -/
def State.classify (s : State) (d uid : Nat) (u : Upsets) (front : Bool) : Option State :=
  match s.frm uid with
  | none => some s
  | some f =>
    let enter (s : State) := s.pmcEvent (clsPg d) (pipeEvent f 2 1)
    match s.treeOf d f.tenant with
    | none => some ((enter s).applyDecision d uid {} front)
    | some t =>
      let key := frameKey f
      let wait := s.treeBusy d t || (s.fifoSame d t key).isSome || !s.operates (clsPg d)
      if s.treeFailed d t && !wait then
        let (x, s) := (enter s).tcamFallback d (portSlice f.port) t key u.tcam
        some (s.applyDecision d uid x front)
      else
        let s' := if u.cache then s.cacheUpset d t key else s
        match (if wait then (none, s') else s'.cacheLookup d t key) with
        | (some x, s) =>
          some ((((enter s).cadd (clsPg d) F.CLS_CACHE_HITS).pmcEvent (clsPg d) (pipeEvent f 0xB 1)).applyDecision d uid x
            front)
        | (none, s) => if s.fifoRoom d f.cells then some ((enter s).fifoPush d uid t key f.cells) else none

/-- The classifier input of a frame: it stalls the pipeline when the FIFO is full (R123). -/
def State.toClassifier (s : State) (d uid : Nat) (u : Upsets) (front : Bool) : State :=
  match s.classify d uid u front with
  | some s => s
  | none => ((s.cadd (clsPg d) F.CLS_FIFO_STALLS).raise (clsPg d) 10).stall uid .fifo front

/-! ### The guard of a paddle pass (R139, R472) -/

/-- Decide a frame of a paddle pass by the guard bank of its slice. -/
def State.guard (s : State) (sl uid : Nat) (u : Upsets) : State :=
  match s.frm uid with
  | none => s
  | some f =>
    let (uid, s) := s.dropFirst uid
    let r := s.guardSearch sl (frameKey f) u.tcam
    let x : Dec := match r.1 with
      | some i => rowDec (r.2.tcamRow sl i).value.toNat
      | none => {}
    r.2.applyDecision (sliceDie sl) uid x false

/-! ### The point of dispatch (R182, R183, R185, R211) -/

/-- Carry a frame on from its point of dispatch: an ingress frame is resolved and classified, an egress copy is ready to
start. A pipeline that is stalled holds it behind the frames already there (R123). -/
def State.proceed (s : State) (uid : Nat) (u : Upsets) : State :=
  match s.frm uid with
  | none => s
  | some f =>
    match f.pass with
    | some c =>
      let p := c.port.getD 0
      s.setPort p { s.portOf p with ready := (s.portOf p).ready ++ [uid] }
    | none =>
      let sl := portSlice f.port
      let (f, s) := s.resolve sl f
      let (uid, s) := (s.setFrm uid f).dropFirst uid
      if (s.stalls.get [] (f.port / 16)).isEmpty then s.toClassifier f.die uid u false else s.stall uid .behind false

/-- Release the frames of a slice's order list that no unfinished earlier frame of their port and class precedes. -/
def State.releaseOrder (s : State) (sl : Nat) : State :=
  let l := (s.sliceOf sl).order
  let rec split : List Ordered → List Ordered → List Ordered × List Nat
    | [], _ => ([], [])
    | o :: r, held =>
      let blocked := !o.done || held.any (fun h => h.port = o.port && h.tc = o.tc)
      let q := split r (if blocked then o :: held else held)
      if blocked then (o :: q.1, q.2) else (q.1, o.uid :: q.2)
  let (keep, go) := split l []
  go.foldl (fun s u => s.proceed u {}) (s.setSlice sl { s.sliceOf sl with order := keep })

/-- A frame has passed its point of dispatch: it goes on, in order when STRICT_ORDER asks for it (R185). -/
def State.passed (s : State) (sl uid : Nat) (u : Upsets) : State :=
  let x := s.sliceOf sl
  if x.order.any (fun o => o.uid = uid) then
    (s.setSlice sl { x with order := x.order.map (fun o => if o.uid = uid then { o with done := true } else o) }).releaseOrder sl
  else s.proceed uid u

/-- Bytes of ingress frames in a slice's hold buffer: what lies beyond the header windows of the frames that wait for a context
or are in one (R183). -/
def State.holdFill (s : State) (sl : Nat) : Nat :=
  let running := (s.csOf sl).ctxs.filterMap (fun kv => kv.2.bind Routine.uid)
  (((s.sliceOf sl).queue ++ running).map (fun u => match s.frm u with
    | some f => if f.pass.isNone then f.bytes.length - 256 else 0
    | none => 0)).sum

/-- Insert a frame into the dispatch queue in the order of ingress stamps (R183). -/
def State.queueInsert (s : State) (sl uid : Nat) : State :=
  let st (u : Nat) : DWord := match s.frm u with | some f => f.stamp | none => 0
  let q := (s.sliceOf sl).queue
  let before := q.takeWhile (fun u => decide (stampDiff (st u) (st uid) ≤ 0))
  s.setSlice sl { s.sliceOf sl with queue := before ++ [uid] ++ q.drop before.length }

/-- Put a frame into the dispatch queue; none when the queue or the hold buffer is full (R183). -/
def State.enqueueExt (s : State) (sl uid : Nat) : Option State :=
  match s.frm uid with
  | none => some s
  | some f =>
    let more := if f.pass.isNone then f.bytes.length - 256 else 0
    if (s.sliceOf sl).queue.length ≥ 1024 ∨ s.holdFill sl + more > 2 ^ 22 then none
    else some (s.queueInsert sl uid)

/-- Drop a frame with ENGINE_ABORT (R201, R211): an ingress frame before admission, an egress copy when its turn to
start comes. -/
def State.abortFrm (s : State) (sl uid : Nat) (u : Upsets) : State :=
  match s.frm uid with
  | none => s
  | some f =>
    let s := s.cadd (csPg sl) F.CS_ENGINE_ABORT_DROPS
    match f.pass with
    | none =>
      let x := s.sliceOf sl
      ((s.setSlice sl { x with order := x.order.filter (fun o => o.uid ≠ uid) }).dropEarly uid dAbort).releaseOrder sl
    | some c => (s.setFrm uid { f with ext := none, pass := some { c with spoiled := some dAbort } }).passed sl uid u

/-- A frame at its point of dispatch (R182, R185, R211): its policers meter it once its last byte is there (R264); with no extended action to run it goes on; else it waits in the
dispatch queue, stalling its pipeline when that is full. -/
def State.atDispatch (s : State) (sl uid : Nat) (u : Upsets) : State :=
  match s.frm uid with
  | none => s
  | some f =>
    let cs := csPg sl
    let (f, s) := s.meterFrm sl f
    let s := s.setFrm uid f
    let s := if s.flag cs F.CS_CTRL_STRICT_ORDER then
        let x := s.sliceOf sl
        s.setSlice sl { x with order := x.order ++ [{ uid := uid, port := f.port, tc := f.tc, done := false }] }
      else s
    if f.ext.isNone then s.passed sl uid u
    else
      let running := s.flag cs F.CS_CTRL_RUN
      let halt := s.fget cs F.CS_CTRL_HALT_ACTION
      if s.inPaddle sl || (!running && halt == 1) then
        ((s.cadd cs F.CS_HALT_SKIPPED).setFrm uid { f with ext := none }).passed sl uid u
      else if !running && halt == 2 then
        s.abortFrm sl uid u
      else
        match s.enqueueExt sl uid with
        | some s => s
        | none => s.stall uid .dispatch false

/-! ### Stalls (R34, R123) -/

/-- Move the frame at the head of a pipeline's stall, when what it waits for has room. -/
def State.stallStep (s : State) (pl : Nat) (want : StallOn → Bool) : Option State :=
  match s.stalls.get [] pl with
  | [] => none
  | (uid, why) :: rest =>
    if !want why then none else
    let out := { s with stalls := s.stalls.set [] pl rest }
    match s.frm uid with
    | none => some out
    | some f =>
      match why with
      | .behind => some (out.toClassifier f.die uid {} true)
      | .fifo => out.classify f.die uid {} true
      | .keel => out.route f.die uid
      | .dispatch => out.enqueueExt (pl % 64 / 4) uid

/-- Move frames on from a stalled pipeline as far as they go. -/
def State.unstall (s : State) (pl : Nat) (want : StallOn → Bool) : Nat → State
  | 0 => s
  | fuel + 1 =>
    match s.stallStep pl want with
    | none => s
    | some s => State.unstall s pl want fuel

/-- Room frees in the pre-classifier FIFO and the stalled inputs of the die resume (R123). -/
def execClsFifoResume (d : Die) (s : State) : Res :=
  s.ifOperates (clsPg d.val) ((List.range 32).foldl (fun s i =>
    s.unstall (32 * d.val + i) (fun w => w == .fifo || w == .behind) (2 * (s.stalls.get [] (32 * d.val + i)).length)) s)

/-- Room frees in a dispatch queue, hold buffer or keel transmit buffer (R34, R183, R288). -/
def execPipelineStallRelease (pl : Pipe) (s : State) : Res :=
  let free (s : State) (pl : Nat) := s.unstall pl (· != .fifo) (2 * (s.stalls.get [] pl).length)
  s.ifOperates (slicePg (pl.val / 4)) (free (free s pl.val) (64 + pl.val))

/-! ### Walks and swaps (R119, R122, R125-R128) -/

/-- A frame leaves the pre-classifier FIFO, its holding memory checked (R460). -/
def State.leaveFifo (s : State) (d uid : Nat) (x : Dec) (err : EccErr) : State :=
  let c := s.clsOf d
  let s := s.setCls d { c with fifo := c.fifo.filter (fun w => w.uid ≠ uid) }
  match err with
  | .ok => s.applyDecision d uid x false
  | .corrected => (s.integrity d 10).applyDecision d uid x false
  | .uncorr => (s.integrity d 11).dropEarly uid dFcs

/-- R118, R122: the walk of a waiting frame completes; it decides the frame and, in order, those of its key behind it. -/
def execClsWalkDone (d : Die) (uid : Nat) (errs : List QdrErr) (hold : List EccErr) (s : State) : Res :=
  s.ifOperates (clsPg d.val) (match (s.clsOf d.val).fifo.find? (fun w => w.uid = uid) with
    | none => s
    | some w =>
      match w.bank, w.leader with
      | some b, none =>
        let (x, s) := s.walkDecide d.val w.tree b w.key errs
        let group := uid :: ((s.clsOf d.val).fifo.filter (fun y => y.leader = some uid)).map Waiter.uid
        let s := if x.fallback then s.cadd (clsPg d.val) F.CLS_FALLBACK_FRAMES (group.length - 1) else s
        (group.zip (hold ++ List.replicate group.length .ok)).foldl (fun s g => s.leaveFifo d.val g.1 x g.2) s
      | _, _ => s)

/-- Waiting frames of a swapped tree walk the new bank in arrival order, or take the TCAM fallback when the tree is still
failed (R125, R127). -/
def State.afterSwap (s : State) (d t : Nat) (u : TcamUpset) : State :=
  let ws := (s.clsOf d).fifo.filter (fun w => w.tree = t && w.bank.isNone)
  if s.treeFailed d t then
    ws.foldl (fun s w =>
      let sl := match s.frm w.uid with | some f => portSlice f.port | none => 0
      let (x, s) := s.tcamFallback d sl t w.key u
      s.leaveFifo d w.uid x .ok) s
  else
    let b := s.treeActive d t
    let c := s.clsOf d
    let s := s.setCls d { c with fifo := c.fifo.map (fun w => if w.tree = t && w.bank.isNone then { w with bank := some b } else w) }
    (ws.filter (fun w => w.leader.isNone)).foldl (fun s w => s.issueWalk d w.uid) s

/-- R125, R128: the swap completes once the walks issued on the old bank have, and the QDR writes accepted before it are
committed. -/
def execClsSwapDone (d : Die) (t : Fin 256) (u : TcamUpset) (s : State) : Res :=
  let pg := clsPg d.val
  s.ifOperates (clsPg d.val) (if s.treeBusy d.val t.val ∧ ((s.clsOf d.val).fifo.all (fun w => w.tree ≠ t.val || w.bank.isNone)) ∧
      (s.clsOf d.val).swapWrites.get [] t.val = [] then
    let c := s.clsOf d.val
    let paused := s.monoNs d.val - (c.swaps.get none t.val).getD (s.monoNs d.val)
    let s := s.setCls d.val { c with gens := c.gens.upd 0 t.val (· + 1), swaps := c.swaps.set none t.val none }
    let s := s.fset pg F.CLS_TREE_CTRL_ACTIVE (1 - s.treeActive d.val t.val) t.val
    let s := s.bset pg F.CLS_TREE_CTRL_BUSY false t.val
    let bad := s.treeMask d.val t.val (s.treeActive d.val t.val) &&& s.fget pg F.CLS_STATUS_CHAN_FAILED
    let s := if bad = 0 then s.bset pg F.CLS_TREE_CTRL_FAILED false t.val else s
    (((s.cadd pg F.CLS_SWAPS).cadd pg F.CLS_SWAP_PAUSE_NS paused).raise pg 9).afterSwap d.val t.val u
  else s)

end Sys2Proof.Machine
end

