-- ==== Sys2Proof/Machine/Learn.lean ====
section
/-!
DEFINITION. The learning arbiters: applying events, the move window, damping and pinning, ageing and notifications
(05 R168-R175).
-/
namespace Sys2Proof.Machine

/-- The copies that a die's arbiter decides for (R169). -/
def State.learnScope (s : State) (d : Nat) : List Nat := if s.split d then (List.range 8).map (8 * d + ·) else List.range 16

/-- Are the arbiter's writes held: a copy's GRANTED[0] is 1, or a rejoin is under way (R167, R174, R296)? -/
def State.learnHeld (s : State) (d : Nat) : Bool :=
  (s.learnScope d).any (fun sl => s.granted sl 0) || decide (s.fget (keelPg d) F.KEEL_STATUS_PHASE ≥ 2)

/-- An address as a number. -/
def addrKey (bd mac : Nat) : Nat := bd * 2 ^ 48 + mac

/-- The entry of an address in a copy. -/
def State.learnEntry (s : State) (sl bd mac : Nat) : Option Nat :=
  (s.hashFind .em sl (keyMac bd mac)).map (fun i => ((s.tab sl).em.get 0 i).toNat)

/-- Change the entry of an address in a copy, if it is there. -/
def State.changeEntry (s : State) (sl bd mac : Nat) (g : Nat → Nat) : State :=
  match s.hashFind .em sl (keyMac bd mac) with
  | some i => s.emRewrite sl i g
  | none => s

/-- The entry that learning writes (R169). -/
def learnedWord (e : LearnEvent) : BitVec 128 :=
  BitVec.ofNat 128 (2 ^ 127 + 2 ^ 122 + fieldAt e.bd 119 106 + fieldAt e.mac 103 56 + fieldAt e.port 53 38 +
    fieldAt e.tenant 37 24 + fieldAt 0xFFF 23 12)

/-- Post a notification: EVENT 0 NEW, 1 MOVE, 2 AGED, 3 PIN (R175, R417). -/
def State.notify (s : State) (d event : Nat) (e : LearnEvent) (inPort old port : Nat) : State :=
  let pg := lrnPg d
  if !s.flag pg F.LRN_CTRL_NOTIFY_EN then s else
  let q := s.fget pg F.LRN_CTRL_NOTIFY_QUEUE
  let w0 := fieldAt 3 63 60 + fieldAt q 55 50 + fieldAt 8 49 46 + fieldAt e.tenant 43 30 + fieldAt inPort 29 20
  let w2 := fieldAt event 63 62 + fieldAt e.bd 61 48 + fieldAt e.mac 47 0
  let w3 := fieldAt old 25 16 + fieldAt port 9 0
  let r := s.newFrm
    { kind := .notify, die := d, holder := d, size := 64, lastByte := true, target := some (.host q), source := 8,
      bytes := [w0, e.stamp.toNat, w2, w3, 0, 0, 0, 0].flatMap (leBytes 8) }
  r.2.toAdmit d r.1

/-- Keep an applied event's stamp and port for the move window (R170). -/
def State.keepEvent (s : State) (d : Nat) (e : LearnEvent) : State :=
  let l := s.lrnOf d
  s.setLrn d { l with kept := l.kept.set none (addrKey e.bd e.mac) (some ⟨e.stamp, e.port⟩) }

/-- Is an event stale against what is kept (R170)? -/
def State.isStale (s : State) (d : Nat) (e : LearnEvent) : Bool :=
  match (s.lrnOf d).kept.get none (addrKey e.bd e.mac) with
  | none => false
  | some k => decide (stampDiff e.stamp k.stamp < 0) || (decide (e.stamp = k.stamp) && decide (k.port ≤ e.port))

/-- Moves of an address within the last PERIOD_S seconds (R171). -/
def State.recentMoves (s : State) (d key : Nat) : List Nat :=
  ((s.lrnOf d).moves.get [] key).filter (fun t =>
    decide (s.monoNs d < t + s.fget (lrnPg d) F.LRN_DAMP_CFG_PERIOD_S * 1000000000))

/-- Pin an address at its current port (R171). -/
def State.pinEntry (s : State) (d : Nat) (e : LearnEvent) (cur : Nat) : State :=
  let pg := lrnPg d
  let s := (s.learnScope d).foldl (fun s sl => s.changeEntry sl e.bd e.mac (fun w => putBits w 123 123 1)) s
  let s := s.setReg pg F.LRN_PIN_LAST_LO.off (BitVec.ofNat 32 e.mac)
  let s := s.setReg pg F.LRN_PIN_LAST_HI.off (BitVec.ofNat 32 (2 ^ 31 + fieldAt e.bd 29 16 + fieldAt (e.mac / 2 ^ 32) 15 0))
  ((s.cadd pg F.LRN_DAMPED).raise pg 8).notify d 3 e e.port cur cur

/-- Write an event into every copy; entries with STATIC = 1 are left, and a copy without room raises EM_FULL (R151, R169, R174,
R177). -/
def State.writeLearned (s : State) (d : Nat) (e : LearnEvent) (event old : Nat) : State :=
  let pg := lrnPg d
  let scope := (s.learnScope d).filter (fun sl => !(s.learnEntry sl e.bd e.mac).any (fun w => bit w 124))
  let (taken, full, s) := scope.foldl (fun r sl =>
    match r.2.2.hashInsert .em sl (keyMac e.bd e.mac) [learnedWord e] with
    | (.ok _, s) => (true, r.2.1, s)
    | (.full, s) => (r.1, true, s.raise (slicePg sl) 10)) (false, false, s)
  let s := s.raiseIf full pg 10
  if taken then (((s.cadd pg F.LRN_APPLIED).keepEvent d e).notify d event e e.port old e.port) else s.cadd pg F.LRN_DISCARDED

/-- Apply an event that is fresh to an address (R169, R171). -/
def State.applyLearn (s : State) (d : Nat) (e : LearnEvent) : State :=
  let pg := lrnPg d
  let key := addrKey e.bd e.mac
  match s.learnEntry ((s.learnScope d).headD 0) e.bd e.mac with
  | none => s.writeLearned d e 0 0
  | some w =>
    let cur := bits w 53 38
    if bits w 55 54 = 0 ∧ cur = e.port then
      let s := (s.learnScope d).foldl (fun s sl => s.changeEntry sl e.bd e.mac (fun w => putBits w 121 120 0)) s
      (s.cadd pg F.LRN_APPLIED).keepEvent d e
    else
      let old := if bits w 55 54 = 0 then cur else 0
      let moves := s.recentMoves d key
      let lim := s.fget pg F.LRN_DAMP_CFG_MOVES
      if lim ≠ 0 ∧ moves.length + 1 > lim then s.pinEntry d e old
      else
        let l := s.lrnOf d
        (s.setLrn d { l with moves := l.moves.set [] key (moves ++ [s.monoNs d]) }).writeLearned d e 1 old

/-- R169-R171, R174: the deciding arbiter takes the oldest event of its FIFO. -/
def execLearnEventApply (d : Die) (s : State) : Res :=
  let d := d.val
  s.ifOperates (lrnPg d) (if !s.lrnMaster d || s.learnHeld d then s else
    match (s.lrnOf d).fifo with
    | [] => s
    | e :: rest =>
      let s := s.setLrn d { s.lrnOf d with fifo := rest }
      let w := (s.learnEntry ((s.learnScope d).headD 0) e.bd e.mac).getD 0
      if bit w 124 then s.cadd (lrnPg d) F.LRN_DISCARDED
      else if bit w 123 then s.cadd (lrnPg d) F.LRN_DAMPED
      else if s.isStale d e then s.cadd (lrnPg d) F.LRN_STALE
      else s.applyLearn d e)

/-- R171: PIN_S after a pin, PINNED and the address's move count are cleared, once no lock holds the arbiter's writes (R166). -/
def execLearnUnpin (d : Die) (bd : BitVec 14) (mac : BitVec 48) (s : State) : Res :=
  let d := d.val
  s.ifOperates (lrnPg d) (if !s.lrnMaster d || s.learnHeld d then s else
    let s := (s.learnScope d).foldl (fun s sl => s.changeEntry sl bd.toNat mac.toNat (fun w => putBits w 123 123 0)) s
    let l := s.lrnOf d
    s.setLrn d { l with moves := l.moves.set [] (addrKey bd.toNat mac.toNat) [] })

/-- R170: the move window of an event ends. -/
def execLearnMoveWindowExpire (d : Die) (bd : BitVec 14) (mac : BitVec 48) (s : State) : Res :=
  let l := s.lrnOf d.val
  s.ifOperates (lrnPg d.val) (s.setLrn d.val { l with kept := l.kept.set none (addrKey bd.toNat mac.toNat) none })

/-- Age one entry of a copy: true when it is removed (R172). -/
def State.ageEntry (s : State) (sl : Nat) (k : HashKey) (hit : Bool) : Bool × State :=
  match s.hashFind .em sl k with
  | none => (false, s)
  | some i =>
    let w := ((s.tab sl).em.get 0 i).toNat
    if !bit w 122 || bit w 124 then (false, s)
    else if hit then (false, s.emRewrite sl i (fun w => putBits w 121 120 0))
    else if bits w 121 120 ≥ 2 then (true, (s.hashDelete .em sl k).2)
    else (false, s.emRewrite sl i (fun w => putBits w 121 120 (bits w 121 120 + 1)))

/-- Keys of the learned entries of the copies of an arbiter. -/
def State.learnedKeys (s : State) (d : Nat) : List HashKey :=
  ((s.learnScope d).flatMap (fun sl => ((s.tab sl).em).filterMap (fun kv =>
    if bit kv.2.toNat 122 && !bit kv.2.toNat 124 then Hashed.em.keyAt (s.tab sl).em kv.1 else none))).eraseDups

/-- Age the entries of one key in every copy; a removal is counted and notified once (R172, R175). -/
def State.ageKey (s : State) (d : Nat) (k : HashKey) : State :=
  let scope := s.learnScope d
  let hit := scope.any (fun sl => (s.tab sl).hits.contains k.str)
  let word := scope.findSome? (fun sl => (s.hashFind .em sl k).map (fun i => ((s.tab sl).em.get 0 i).toNat))
  let (gone, s) := scope.foldl (fun r sl => let q := r.2.ageEntry sl k hit; (r.1 || q.1, q.2)) (false, s)
  if !gone then s else
  let s := s.cadd (lrnPg d) F.LRN_AGED
  match word with
  | some w =>
    if bits w 126 125 ≠ 0 then s else
    let port := if bits w 55 54 = 0 then bits w 53 38 else 0
    s.notify d 2 { bd := bits w 119 106, mac := bits w 103 56, port := port, stamp := s.stamp d, tenant := bits w 37 24 }
      0 port port
  | none => s

/-- R172: the arbiter scans the learned entries, while ageing is enabled and no lock holds it. -/
def execAgeScan (d : Die) (s : State) : Res :=
  let d := d.val
  s.ifOperates (lrnPg d) (if !s.lrnMaster d || s.learnHeld d || s.fget (lrnPg d) F.LRN_AGE_CFG_PERIOD_S = 0 then s else
    let s := (s.learnedKeys d).foldl (fun s k => s.ageKey d k) s
    (s.learnScope d).foldl (fun s sl => s.updTab sl (fun t => { t with hits := [] })) s)

end Sys2Proof.Machine
end

