-- ==== Sys2Proof/Machine/Crypto.lean ====
section
/-!
DEFINITION. The published algorithms that the spec names: AES-GCM (12 R377: NIST SP 800-38D over FIPS 197), SHA-384
(FIPS 180-4) and ECDSA verification on P-384 (16 R505, R507: FIPS 186). Their definitions are taken from those standards.
-/
namespace Sys2Proof.Machine

/-! ### AES -/

/-- Multiplication by x in GF(2^8) modulo x^8 + x^4 + x^3 + x + 1. -/
def xtime (a : Byte) : Byte := if a.getLsbD 7 then (a <<< 1) ^^^ 0x1B else a <<< 1

/-- Multiplication in GF(2^8). -/
def gf8Mul (a b : Byte) : Byte :=
  ((List.range 8).foldl (fun (x : Byte × Byte) i => (xtime x.1, if b.getLsbD i then x.2 ^^^ x.1 else x.2)) (a, 0)).2

/-- The multiplicative inverse in GF(2^8), 0 for 0: the 254th power. -/
def gf8Inv (a : Byte) : Byte :=
  ((List.range 7).foldl (fun (x : Byte × Byte) _ => let q := gf8Mul x.1 x.1; (q, gf8Mul x.2 q)) (a, 1)).2

/-- The substitution box of AES. -/
def aesSub (a : Byte) : Byte :=
  let x := gf8Inv a
  x ^^^ x.rotateLeft 1 ^^^ x.rotateLeft 2 ^^^ x.rotateLeft 3 ^^^ x.rotateLeft 4 ^^^ 0x63

/-- The round keys as words of four bytes; `nk` is 4 or 8. -/
def aesExpand (nk : Nat) (key : List Byte) : List (List Byte) :=
  let init := (List.range nk).map (fun i => slice key (4 * i) 4)
  let total := 4 * (nk + 7)
  ((List.range (total - nk)).foldl (fun (st : List (List Byte) × Byte) j =>
    let i := j + nk
    let prev := st.1.getD (i - 1) []
    let t := if i % nk = 0 then
        match (prev.drop 1 ++ prev.take 1).map aesSub with
        | a :: r => (a ^^^ st.2) :: r
        | [] => []
      else if nk > 6 ∧ i % nk = 4 then prev.map aesSub else prev
    (st.1 ++ [List.zipWith (· ^^^ ·) (st.1.getD (i - nk) []) t], if i % nk = 0 then xtime st.2 else st.2)) (init, 1)).1

/-- The round key of round `r`. -/
def aesRoundKey (w : List (List Byte)) (r : Nat) : List Byte := ((w.drop (4 * r)).take 4).flatten

def xorBytes (a b : List Byte) : List Byte := List.zipWith (· ^^^ ·) a b

/-- ShiftRows on a state of 16 bytes in column order. -/
def aesShift (s : List Byte) : List Byte := (List.range 16).map (fun i => s.getD ((i + 4 * (i % 4)) % 16) 0)

/-- MixColumns. -/
def aesMix (s : List Byte) : List Byte :=
  (List.range 16).map (fun i =>
    let c (k : Nat) := s.getD (i / 4 * 4 + (i + k) % 4) 0
    xtime (c 0) ^^^ (xtime (c 1) ^^^ c 1) ^^^ c 2 ^^^ c 3)

/-- AES encryption of a block under expanded keys, with `nr` rounds. -/
def aesBlock (w : List (List Byte)) (nr : Nat) (b : List Byte) : List Byte :=
  let s := (List.range (nr - 1)).foldl (fun s r =>
    xorBytes (aesMix (aesShift (s.map aesSub))) (aesRoundKey w (r + 1))) (xorBytes b (aesRoundKey w 0))
  xorBytes (aesShift (s.map aesSub)) (aesRoundKey w nr)

/-- AES-128 or AES-256 by key length. -/
def aesEncrypt (key b : List Byte) : List Byte :=
  let nk := key.length / 4
  aesBlock (aesExpand nk key) (nk + 6) b

/-! ### GCM -/

/-- Multiplication in GF(2^128) as SP 800-38D numbers it: bit 127 of the number is the coefficient of x^0. -/
def gf128Mul (x y : Nat) : Nat :=
  ((List.range 128).foldl (fun (st : Nat × Nat) i =>
    (if x.testBit (127 - i) then st.1 ^^^ st.2 else st.1,
      if st.2.testBit 0 then (st.2 >>> 1) ^^^ (0xE1 <<< 120) else st.2 >>> 1)) (0, y)).1

/-- Blocks of 16 bytes, the last padded with zeros. -/
def blocks16 (l : List Byte) : List (List Byte) :=
  (List.range ((l.length + 15) / 16)).map (fun i =>
    let b := slice l (16 * i) 16
    b ++ List.replicate (16 - b.length) 0)

def ghash (h : Nat) (bs : List (List Byte)) : Nat := bs.foldl (fun a b => gf128Mul (a ^^^ ofBE b) h) 0

/-- The counter-mode key stream from counter block `ctr` on. -/
def gctr (key : List Byte) (iv : List Byte) (ctr : Nat) (l : List Byte) : List Byte :=
  xorBytes l (((List.range ((l.length + 15) / 16)).map (fun i =>
    aesEncrypt key (iv ++ beBytes 4 (ctr + i)))).flatten)

/-- The 16-byte tag over AAD and ciphertext, for a 96-bit IV. -/
def gcmTag (key iv aad c : List Byte) : List Byte :=
  let h := ofBE (aesEncrypt key (List.replicate 16 0))
  let g := ghash h (blocks16 aad ++ blocks16 c ++ [beBytes 8 (8 * aad.length) ++ beBytes 8 (8 * c.length)])
  xorBytes (beBytes 16 g) (aesEncrypt key (iv ++ [0, 0, 0, 1]))

/-- GCM encryption: ciphertext and tag. -/
def gcmSeal (key iv aad p : List Byte) : List Byte × List Byte :=
  let c := gctr key iv 2 p
  (c, gcmTag key iv aad c)

/-- GCM decryption: the plaintext, when the first `tag.length` bytes of the tag agree. -/
def gcmOpen (key iv aad c tag : List Byte) : Option (List Byte) :=
  if (gcmTag key iv aad c).take tag.length = tag then some (gctr key iv 2 c) else none

/-! ### SHA-384 -/

/-- The largest `r` below 2^bits with r^k ≤ n. -/
def rootBelow (k n : Nat) : Nat → Nat → Nat
  | 0, r => r
  | b + 1, r => rootBelow k n b (if (r + 2 ^ b) ^ k ≤ n then r + 2 ^ b else r)

/-- The first `n` primes. -/
def primes (n : Nat) : List Nat :=
  ((List.range 420).filter (fun i => decide (2 ≤ i) && (List.range i).all (fun j => decide (j < 2) || i % j != 0))).take n

/-- The first 64 bits of the fractional parts of the cube roots of the first 80 primes. -/
def shaK : List DWord := (primes 80).map (fun p => BitVec.ofNat 64 (rootBelow 3 (p * 2 ^ 192) 68 0))

/-- The first 64 bits of the fractional parts of the square roots of the 9th to 16th primes. -/
def sha384Init : List DWord := ((primes 16).drop 8).map (fun p => BitVec.ofNat 64 (rootBelow 2 (p * 2 ^ 128) 68 0))

/-- The message schedule of a block of 16 words. -/
def shaSchedule (m : List DWord) : List DWord :=
  (List.range 64).foldl (fun w i =>
    let x := w.getD (i + 14) 0
    let y := w.getD (i + 1) 0
    let s1 := x.rotateRight 19 ^^^ x.rotateRight 61 ^^^ (x >>> 6)
    let s0 := y.rotateRight 1 ^^^ y.rotateRight 8 ^^^ (y >>> 7)
    w ++ [s1 + w.getD (i + 9) 0 + s0 + w.getD i 0]) m

/-- One round of SHA-512 on the working variables. -/
def shaRound (v : List DWord) (kw : DWord) : List DWord :=
  match v with
  | [a, b, c, d, e, f, g, h] =>
    let t1 := h + (e.rotateRight 14 ^^^ e.rotateRight 18 ^^^ e.rotateRight 41) + ((e &&& f) ^^^ (~~~e &&& g)) + kw
    let t2 := (a.rotateRight 28 ^^^ a.rotateRight 34 ^^^ a.rotateRight 39) + ((a &&& b) ^^^ (a &&& c) ^^^ (b &&& c))
    [t1 + t2, a, b, c, d + t1, e, f, g]
  | _ => v

/-- SHA-384 of a byte string. -/
def sha384 (l : List Byte) : List Byte :=
  let padded := l ++ [0x80] ++ List.replicate ((239 - l.length % 128) % 128) 0 ++ beBytes 16 (8 * l.length)
  let k := shaK
  let h := (List.range (padded.length / 128)).foldl (fun h i =>
    let w := shaSchedule ((List.range 16).map (fun j => BitVec.ofNat 64 (ofBE (slice padded (128 * i + 8 * j) 8))))
    List.zipWith (· + ·) h ((List.zipWith (· + ·) k w).foldl shaRound h)) sha384Init
  ((h.take 6).map (fun x => beBytes 8 x.toNat)).flatten

/-! ### ECDSA on P-384 -/

def p384p : Nat := 2 ^ 384 - 2 ^ 128 - 2 ^ 96 + 2 ^ 32 - 1
def p384b : Nat := 0xb3312fa7e23ee7e4988e056be3f82d19181d9c6efe8141120314088f5013875ac656398d8a2ed19d2a85c8edd3ec2aef
def p384n : Nat := 0xffffffffffffffffffffffffffffffffffffffffffffffffc7634d81f4372ddf581a0db248b0a77aecec196accc52973
def p384g : Nat × Nat :=
  (0xaa87ca22be8b05378eb1c71ef320ad746e1d3b628ba79b9859f741e082542a385502f25dbf55296c3a545e3872760ab7,
   0x3617de4a96262c6f5d9e98bf9292dc29f8f41dbd289a147ce9da3113b5f0b8c00a60b1ce1d7e819d7a431d7c90ea0e5f)

/-- `b ^ e` modulo `m`, over the low `n` bits of `e`. -/
def powMod (m : Nat) : Nat → Nat → Nat → Nat
  | 0, _, _ => 1 % m
  | n + 1, b, e =>
    let r := powMod m n (b * b % m) (e / 2)
    if e % 2 = 1 then r * b % m else r

/-- The inverse modulo a prime below 2^384. -/
def invMod (m a : Nat) : Nat := powMod m 384 (a % m) (m - 2)

/-- Addition of points of the curve; none is the point at infinity. -/
def ecAdd (x y : Option (Nat × Nat)) : Option (Nat × Nat) :=
  match x, y with
  | none, q => q
  | q, none => q
  | some (x1, y1), some (x2, y2) =>
    let p := p384p
    if x1 = x2 ∧ (y1 + y2) % p = 0 then none
    else
      let l := if x1 = x2 then (3 * x1 * x1 + (p - 3)) * invMod p (2 * y1) % p
        else (y2 + p - y1) * invMod p (x2 + p - x1) % p
      let x3 := (l * l + 2 * p - x1 - x2) % p
      some (x3, (l * (x1 + p - x3) + p - y1) % p)

/-- `k` times a point, over the low `n` bits of `k`. -/
def ecMul : Nat → Nat → Option (Nat × Nat) → Option (Nat × Nat)
  | 0, _, _ => none
  | n + 1, k, q =>
    let r := ecMul n (k / 2) (ecAdd q q)
    if k % 2 = 1 then ecAdd q r else r

/-- Is a point on the curve? -/
def ecOn (q : Nat × Nat) : Bool :=
  decide (q.1 < p384p) && decide (q.2 < p384p) &&
  decide (q.2 * q.2 % p384p = (q.1 * q.1 * q.1 + (p384p - 3) * q.1 + p384b) % p384p)

/-- ECDSA verification of a digest: public key as 96 bytes X then Y, signature as 96 bytes r then s. -/
def ecdsaOk (key digest sig : List Byte) : Bool :=
  let q := (ofBE (key.take 48), ofBE (slice key 48 48))
  let r := ofBE (sig.take 48)
  let s := ofBE (slice sig 48 48)
  let n := p384n
  if !ecOn q || r = 0 || s = 0 || decide (r ≥ n) || decide (s ≥ n) then false else
  let w := invMod n s
  match ecAdd (ecMul 384 (ofBE digest * w % n) (some p384g)) (ecMul 384 (r * w % n) (some q)) with
  | none => false
  | some (x, _) => decide (x % n = r)

end Sys2Proof.Machine
end

