-- ==== Sys2Proof/Machine/Cipher.lean ====
section
/-!
DEFINITION. The key store and the lookaside cipher unit of a die (12 R373-R382).
-/
namespace Sys2Proof.Machine

def State.cipherOf (s : State) (d : Nat) : CipherSt := s.ciphers.get {} d
def State.setCipher (s : State) (d : Nat) (c : CipherSt) : State := { s with ciphers := s.ciphers.set {} d c }

def State.keySlot (s : State) (d i : Nat) : KeySlot := (s.cipherOf d).slots.get {} i

def State.setKeySlot (s : State) (d i : Nat) (k : KeySlot) : State :=
  s.setCipher d { s.cipherOf d with slots := (s.cipherOf d).slots.set {} i k }

/-- Operations in flight on a slot (R375). -/
def State.inFlight (s : State) (d i : Nat) : List (Nat × BitVec 16) := (s.cipherOf d).flight.filter (fun x => x.1 = i)

/-- An operation begins on a slot, or ends (R375). -/
def State.beginKey (s : State) (d i : Nat) : State :=
  s.setCipher d { s.cipherOf d with flight := (i, (s.keySlot d i).gen) :: (s.cipherOf d).flight }

def State.endKey (s : State) (d i : Nat) (gen : BitVec 16) : State :=
  s.setCipher d { s.cipherOf d with flight := (s.cipherOf d).flight.erase (i, gen) }

/-- Are earlier contents of a slot in use (R374)? -/
def State.oldInFlight (s : State) (d i : Nat) : Bool := (s.inFlight d i).any (fun x => x.2 ≠ (s.keySlot d i).gen)

/-! ### Key commands -/

def State.keyStatus (s : State) (d st : Nat) : State :=
  (s.fset (cipherPg d) F.CU_KEY_CMD_STATUS st).raiseIf (decide (st ≠ 0)) (cipherPg d) 10

/-- Zeroise the data registers after a WRITE. -/
def State.clearKeyRegs (s : State) (d : Nat) : State :=
  let pg := cipherPg d
  ((s.setWords pg F.CU_KEY_DATA_VALUE 8 0).setWords pg F.CU_KEY_SALT_VALUE 3 0).setReg pg F.CU_KEY_SSCI.off 0

/-- R374: WRITE. -/
def State.keyWrite (s : State) (d : Nat) (val : Word) : State :=
  let pg := cipherPg d
  let i := F.CU_KEY_CMD_SLOT.of val
  let k := s.keySlot d i
  let s := s.putRw pg F.CU_KEY_CMD.off val
  if k.erasePending then s.keyStatus d 2
  else if s.oldInFlight d i then s.keyStatus d 1
  else
    let k' : KeySlot :=
      { key := BitVec.ofNat 256 (s.words pg F.CU_KEY_DATA_VALUE 8),
        salt := BitVec.ofNat 96 (s.words pg F.CU_KEY_SALT_VALUE 3),
        ssci := s.reg pg F.CU_KEY_SSCI.off,
        gen := k.gen + 1,
        valid := true }
    ((s.setKeySlot d i k').clearKeyRegs d).keyStatus d 0

/-- The slot is zeroised once nothing is in flight on it (R376). -/
def State.zeroise (s : State) (d i : Nat) : State :=
  let k := s.keySlot d i
  if k.erasePending ∧ (s.inFlight d i).isEmpty then
    (s.setKeySlot d i { gen := k.gen, eraseDone := true }).raise (cipherPg d) 8
  else s

/-- R376: ERASE; the slot is zeroised by KEY_ZEROISE. -/
def State.keyErase (s : State) (d : Nat) (val : Word) : State :=
  let i := F.CU_KEY_CMD_SLOT.of val
  let s := s.putRw (cipherPg d) F.CU_KEY_CMD.off val
  (s.setKeySlot d i { s.keySlot d i with valid := false, erasePending := true }).keyStatus d 0

/-- R373: INFO loads CU_KEY_INFO. -/
def State.keyInfo (s : State) (d : Nat) (val : Word) : State :=
  let i := F.CU_KEY_CMD_SLOT.of val
  let k := s.keySlot d i
  let s := s.putRw (cipherPg d) F.CU_KEY_CMD.off val
  let w := fieldAt k.valid.toNat 31 31 + fieldAt (s.oldInFlight d i).toNat 30 30 + fieldAt k.erasePending.toNat 29 29 +
    fieldAt k.eraseDone.toNat 28 28 + fieldAt (min 0xFFF (s.inFlight d i).length) 27 16 + k.gen.toNat
  (s.setReg (cipherPg d) F.CU_KEY_INFO.off (BitVec.ofNat 32 w)).keyStatus d 0

def execKeyWrite (src : Source) (page : PageIdx) (val : Word) (s : State) : Res :=
  .next (s.accessKind src page .cipher (F.CU_KEY_CMD.cmd 1 val) (fun p s => s.keyWrite p.n val))

def execKeyErase (src : Source) (page : PageIdx) (val : Word) (s : State) : Res :=
  .next (s.accessKind src page .cipher (F.CU_KEY_CMD.cmd 2 val) (fun p s => s.keyErase p.n val))

def execKeyInfo (src : Source) (page : PageIdx) (val : Word) (s : State) : Res :=
  .next (s.accessKind src page .cipher (F.CU_KEY_CMD.cmd 3 val) (fun p s => s.keyInfo p.n val))

def execKeyZeroise (d : Die) (slot : BitVec 12) (s : State) : Res := s.ifOperates (cipherPg d.val) (s.zeroise d.val slot.toNat)

/-! ### Messages (R377-R382) -/

/-- The key bytes of a slot for AES-128 or AES-256. -/
def KeySlot.bytes (k : KeySlot) (long : Bool) : List Byte := beBytes (if long then 32 else 16) k.key.toNat

/-- Blocks of 16 bytes that a message holds. -/
def CipherMsg.blocks (m : CipherMsg) : Nat := (m.aad.length + 15) / 16 + (m.payload.length + 15) / 16

/-- Does a message need room in the staging buffer of 4 MiB (R382)? -/
def CipherMsg.staging (m : CipherMsg) : Nat := if m.op = 1 then m.payload.length else 0

/-- The message that a pipe works on: of those it holds, the most urgent. -/
def pipeRuns (l : List CipherMsg) (p : Nat) : Option CipherMsg :=
  (l.filter (fun m => m.pipe = some p)).foldl (fun b m => match b with
    | none => some m
    | some x => if m.urgency > x.urgency then some m else b) none

/-- The pipe that a message can start in: one with no message of its urgency, the one that holds fewest, pipe 0 first. -/
def freePipe (l : List CipherMsg) (u : Nat) : Option Nat :=
  let n (p : Nat) := l.countP (fun m => m.pipe = some p)
  let ok (p : Nat) := l.all (fun m => m.pipe ≠ some p || m.urgency ≠ u)
  match ok 0, ok 1 with
  | true, true => some (if n 1 < n 0 then 1 else 0)
  | true, false => some 0
  | false, true => some 1
  | false, false => none

/-- Start the first message that can start, of the highest urgency, then in arrival order (R380, R382). -/
def State.startOne (s : State) (d : Nat) : Option State :=
  let c := s.cipherOf d
  let used := ((c.msgs.filter (fun m => m.pipe.isSome)).map CipherMsg.staging).sum
  let can (m : CipherMsg) := m.pipe.isNone && (freePipe c.msgs m.urgency).isSome && decide (used + m.staging ≤ 2 ^ 22)
  match [4, 3, 2, 1, 0].findSome? (fun u => c.msgs.find? (fun m => m.urgency = u && can m)) with
  | none => none
  | some m =>
    let p := (freePipe c.msgs m.urgency).getD 0
    let suspends := (pipeRuns c.msgs p).any (fun x => x.urgency < m.urgency)
    let m' := { m with pipe := some p, held := s.keySlot d m.slot }
    let s := s.setCipher d { c with msgs := c.msgs.map (fun x => if x.owner = m.owner then m' else x) }
    let s := if m'.held.valid then s.beginKey d m.slot else s
    some (if suspends then s.cadd (cipherPg d) F.CU_SUSPENSIONS else s)

def State.startMsgs (s : State) (d : Nat) : Nat → State
  | 0 => s
  | n + 1 => match s.startOne d with
    | some s => State.startMsgs s d n
    | none => s

/-- Give the unit a message. -/
def State.submitMsg (s : State) (d : Nat) (m : CipherMsg) : State :=
  let c := s.cipherOf d
  ((s.setCipher d { c with msgs := c.msgs ++ [m] }).cadd (cipherPg d) F.CU_REQUESTS).startMsgs d (c.msgs.length + 1)

/-- The message of an owner, when a pipe works on it. -/
def State.runningMsg (s : State) (d : Nat) (o : CipherOwner) : Option CipherMsg :=
  let l := if s.operates (cipherPg d) then (s.cipherOf d).msgs else []
  (l.find? (fun m => m.owner = o)).bind (fun m => m.pipe.bind (fun p =>
    (pipeRuns l p).bind (fun x => if x.owner = o then some m else none)))

/-- A message leaves the unit; others start. -/
def State.endMsg (s : State) (d : Nat) (m : CipherMsg) : State :=
  let c := s.cipherOf d
  let s := s.setCipher d { c with msgs := c.msgs.filter (fun x => x.owner ≠ m.owner) }
  let s := if m.pipe.isSome ∧ m.held.valid then s.endKey d m.slot m.held.gen else s
  s.startMsgs d c.msgs.length

/-- The status of R378 with the payload result and the tag of a message (R377-R382). -/
def CipherMsg.run (m : CipherMsg) (iv : List Byte) (faults : Nat) : Nat × List Byte × List Byte :=
  if !m.held.valid then (2, [], [])
  else if faults ≥ 2 then (4, [], [])
  else
    let k := m.held.bytes (Config.longKey m.held.key m.held.salt)
    match m.op with
    | 0 => let r := gcmSeal k iv m.aad m.payload; (0, r.1, r.2.take m.tagLen)
    | 1 => match gcmOpen k iv m.aad m.payload (m.tag.take m.tagLen) with
      | some p => (0, p, [])
      | none => (1, [], [])
    | _ => (0, [], (gcmTag k iv m.aad []).take m.tagLen)

/-- The outcome of a message when `bad` says that the staging buffer holds an uncorrectable error at the release of decrypted
output: COMPUTE_FAULT, and nothing is released (R460). The second part says whether that error was met. -/
def CipherMsg.release (m : CipherMsg) (iv : List Byte) (faults : Nat) (bad : Bool) : (Nat × List Byte × List Byte) × Bool :=
  let r := m.run iv faults
  if bad && decide (m.op = 1 ∧ r.1 = 0) then ((4, [], []), true) else (r, false)

/-- Counters of a message that ends (R381, R384, R360). -/
def State.countMsg (s : State) (d : Nat) (m : CipherMsg) (src : PmcSrc) (faults status : Nat) : State :=
  let pg := cipherPg d
  let s := if faults = 0 ∨ !m.held.valid then s else (s.cadd pg F.CU_COMPARE_FAULTS faults).raise pg 9
  let s := if status = 1 then s.cadd pg F.CU_TAG_FAILS else s
  if m.held.valid then s.pmcEvent pg { code := 0x14, src := some src, amount := m.blocks } else s

end Sys2Proof.Machine
end

