-- ==== Sys2Proof/Machine/Paddle.lean ====
section
/-!
DEFINITION. Paddle mode: entry, exit, the host watchdog and ALERT_N (15 R474-R477, R345, R525).
-/
namespace Sys2Proof.Machine

/-- The causes of R474. -/
def cBringup : Nat := 0
def cUnmet : Nat := 1
def cCsUncorr : Nat := 2
def cWatchdog : Nat := 3
def cHost : Nat := 4

/-- CS_STATUS.RUNNING (R211). -/
def State.csRunning (s : State) (sl : Nat) : Bool := s.flag (csPg sl) F.CS_CTRL_RUN || !(s.csOf sl).ctxs.isEmpty

/-- The causes of a slice that have their condition present (R475). -/
def State.paddlePresent (s : State) (sl : Nat) : Nat :=
  let d := sliceDie sl
  let cs := csPg sl
  (if !s.csRunning sl then 1 else 0) + (if s.flag (coxPg d) F.COX_STATUS_UNMET then 2 else 0) +
  (if s.flag cs F.CS_STATUS_UNCORR || !s.flag cs F.CS_STATUS_VERIFIED then 4 else 0) +
  (if s.flag (diePg d) F.DIE_WATCHDOG_EXPIRED then 8 else 0)

/-- Waiting postcards of the collectors whose port lies on a slice are lost (R345). -/
def State.loseWaiting (s : State) (sl : Nat) : State :=
  (List.range 8).foldl (fun s i =>
    let d := i / 4
    let c := i % 4
    let t := s.telOf d
    if portSlice (s.fget (telPg d) F.TEL_COLL_CFG_PORT c) = sl then
      (s.setTel d { t with colls := t.colls.set {} c {} }).loseCards d (t.colls.get {} c).waiting.length
    else s) s

/-- A slice enters Paddle mode with a cause, or is given another cause (R474). -/
def State.enterPaddle (s : State) (sl cause : Nat) : State :=
  let pg := slicePg sl
  let s := if s.inPaddle sl then s else (s.loseWaiting sl).setPaddle pg true
  let a := s.acctOf (sliceDie sl)
  let s := s.setAcct (sliceDie sl) { a with bank := { a.bank with paddle := true } }
  let s := s.fset pg F.SLICE_PADDLE_STATUS_CAUSE (s.fget pg F.SLICE_PADDLE_STATUS_CAUSE ||| 2 ^ cause)
  (s.bset pg F.SLICE_PADDLE_STATUS_ACTIVE true).raise pg 13

/-- The deficit counters of a slice's ports are zero (R258). -/
def State.clearDeficits (s : State) (sl : Nat) : State :=
  { s with ports := (List.range 64).foldl (fun m i => m.upd {} (64 * sl + i) (fun x => { x with deficit := [] })) s.ports }

/-- An EXIT of a slice (R475, R476); on a slice that is not in Paddle mode it does nothing. -/
def State.exitPaddle (s : State) (sl : Nat) : State :=
  let pg := slicePg sl
  if !s.inPaddle sl then s
  else if (s.fget pg F.SLICE_PADDLE_STATUS_CAUSE &&& 15 &&& s.paddlePresent sl) ≠ 0 then
    ((s.fset pg F.SLICE_PADDLE_STATUS_LAST_ERR 1).errCount pg).raise pg 15
  else
    ((((s.clearDeficits sl).fset pg F.SLICE_PADDLE_STATUS_CAUSE 0).bset pg F.SLICE_PADDLE_STATUS_ACTIVE false).setPaddle pg false).raise pg 14

/-- A write of SLICE_PADDLE_CTRL: ENTER wins over EXIT. -/
def State.paddleCtrl (s : State) (sl : Nat) (val : Word) : State :=
  if F.SLICE_PADDLE_CTRL_ENTER.of val = 1 then s.enterPaddle sl cHost
  else if F.SLICE_PADDLE_CTRL_EXIT.of val = 1 then s.exitPaddle sl
  else s

def execPaddleEnter (src : Source) (page : PageIdx) (val : Word) (s : State) : Res :=
  .next (s.accessKind src page .slice (F.SLICE_PADDLE_CTRL.wr (F.SLICE_PADDLE_CTRL_ENTER.put val 1))
    (fun p s => s.paddleCtrl p.n (F.SLICE_PADDLE_CTRL_ENTER.put val 1)))

def execPaddleExit (src : Source) (page : PageIdx) (val : Word) (s : State) : Res :=
  .next (s.accessKind src page .slice (F.SLICE_PADDLE_CTRL.wr (F.SLICE_PADDLE_CTRL_ENTER.put (F.SLICE_PADDLE_CTRL_EXIT.put val 1) 0))
    (fun p s => s.paddleCtrl p.n (F.SLICE_PADDLE_CTRL_ENTER.put (F.SLICE_PADDLE_CTRL_EXIT.put val 1) 0)))

/-! ### The host watchdog (R477) -/

/-- A write of DIE_WATCHDOG: a KICK clears EXPIRED. -/
def State.watchdogWrite (s : State) (p : Page) (val : Word) : State :=
  let s := s.putRw p F.DIE_WATCHDOG.off val
  if F.DIE_WATCHDOG_KICK.of val = 1 then s.bset p F.DIE_WATCHDOG_EXPIRED false else s

def execWatchdogKick (src : Source) (page : PageIdx) (val : Word) (s : State) : Res :=
  .next (s.accessLocked src page .die F.DIE_WATCHDOG.off val (fun p v s => s.watchdogWrite p v))

/-- R477: the watchdog of a die expires. -/
def execWatchdogExpire (d : Die) (s : State) : Res :=
  let pg := diePg d.val
  s.ifOperates (diePg d.val) (if s.dieUp d.val && s.flag pg F.DIE_WATCHDOG_EN && !s.flag pg F.DIE_WATCHDOG_EXPIRED then
    let s := s.bset pg F.DIE_WATCHDOG_EXPIRED true
    let s := (List.range 8).foldl (fun s i => s.enterPaddle (8 * d.val + i) cWatchdog) s
    s.raise pg 10
  else s)

/-- ALERT_N is low (R525). -/
def State.alert (s : State) : Bool :=
  (List.range 2).any (fun d =>
    (List.range 32).any (fun n => bit (s.fget (timePg d) F.TIME_CMP_CFG_ACTIONS n) 1 && s.flag (timePg d) F.TIME_CMP_STATUS_FIRED n) ||
    (s.flag (diePg d) F.DIE_WATCHDOG_EXPIRED && s.flag (diePg d) F.DIE_WATCHDOG_ALERT))

end Sys2Proof.Machine
end

