-- ==== Sys2Proof/Machine/EngineCore.lean ====
section
/-!
DEFINITION. Contexts of the stroke engines: locks, the ends of a routine, abandoning and restarting, event routines, and
uncorrectable control-store words (06 R178-R187, R195-R206, R212-R213).
-/
namespace Sys2Proof.Machine

/-- The key of context `k` of engine seat `e` within its slice. -/
def ctxKey (e k : Nat) : Nat := 32 * (e % 16) + k

def State.ctx (s : State) (e k : Nat) : Option Routine := (s.csOf (e / 16)).ctxs.get none (ctxKey e k)

def State.setCtx (s : State) (e k : Nat) (r : Option Routine) : State :=
  let c := s.csOf (e / 16)
  s.setCs (e / 16) { c with ctxs := c.ctxs.set none (ctxKey e k) r }

/-- Does an engine take dispatches and events: it has not failed, is enabled and present, and is not being reset (R206, R215,
R216)? -/
def State.engineWorks (s : State) (e : Nat) : Bool :=
  let pg := enginePg e
  !(s.reg pg 0x10).getLsbD 9 && s.flag pg F.PAGE_CONTROL_ENABLE && decide (s.fget pg F.PAGE_PHYS_PHYS_INDEX ≠ 0x1FFF) &&
  !s.resetting.get false (pg.key 0)

/-- Do routines start on a slice (R211)? -/
def State.csStarts (s : State) (sl : Nat) : Bool := s.flag (csPg sl) F.CS_CTRL_RUN && s.operates (csPg sl) &&
  !s.inPaddle sl && s.sliceRuns sl

/-- Contexts of a slice that hold a routine: engine seat, context, routine. -/
def State.routines (s : State) (sl : Nat) : List (Nat × Nat × Routine) :=
  (s.csOf sl).ctxs.filterMap (fun kv => kv.2.map (fun r => (16 * sl + kv.1 / 32, kv.1 % 32, r)))

/-- Contexts of a die that hold a routine. -/
def State.dieRoutines (s : State) (d : Nat) : List (Nat × Nat × Routine) :=
  (List.range 8).flatMap (fun i => s.routines (8 * d + i))

/-- Has the COMMIT of a routine issued? Then it is not pre-empted, interrupted or made to give up a lock (R199). -/
def Routine.safe (r : Routine) : Bool := r.committed || r.committing

/-- Age order of contexts: the earlier stamp, then the lower seat, then the lower context (R202). -/
def olderCtx (a b : Nat × Nat × Routine) : Bool :=
  let x := stampDiff a.2.2.stamp b.2.2.stamp
  decide (x < 0) || (decide (x = 0) && (decide (a.1 < b.1) || (decide (a.1 = b.1) && decide (a.2.1 < b.2.1))))

/-- The context of a die that holds a lock-table entry. -/
def State.lockHolder (s : State) (d entry : Nat) : Option (Nat × Nat × Routine) :=
  (s.dieRoutines d).find? (fun x => x.2.2.locks.contains entry)

/-- What waited for lock-table entries of a die may restart (R202). -/
def State.freeLocks (s : State) (d : Nat) (entries : List Nat) : State :=
  let waits (h : Option HoldOff) := match h with | some (.lock x) => entries.contains x | _ => false
  (List.range 8).foldl (fun s i =>
    let sl := 8 * d + i
    let c := s.csOf sl
    s.setCs sl { c with
      holds := c.holds.filter (fun kv => !waits kv.2),
      event := c.event.map (fun e => if waits e.hold then { e with hold := none } else e) }) s

/-- A routine leaves its context: its locks are free, and a cipher request of its own is given up. -/
def State.clearCtx (s : State) (e k : Nat) : State :=
  match s.ctx e k with
  | none => s
  | some r =>
    let s := (s.setCtx e k none).freeLocks (e / 128) r.locks
    ((s.cipherOf (e / 128)).msgs.filter (fun m => match m.owner with | .engine e' k' _ => e' = e && k' = k | _ => false)).foldl
      (fun s m => s.endMsg (e / 128) m) s

/-- Record the end of a routine by R201. -/
def State.lastAbort (s : State) (e k cause pc : Nat) : State :=
  s.setReg (enginePg e) F.SE_LAST_ABORT.off
    (BitVec.ofNat 32 (2 ^ 31 + fieldAt cause 27 24 + fieldAt k 20 16 + fieldAt pc 14 0))

/-- An event routine ended without committing (R205). -/
def State.eventFailed (s : State) (sl : Nat) : State := (s.bset (csPg sl) F.CS_EVENT_PENDING false).raise (csPg sl) 16

/-- Return a frame to the dispatch queue in ingress-stamp order, ahead of its equals (R200). -/
def State.queueReturn (s : State) (sl uid : Nat) (hold : Option HoldOff) : State :=
  let st (u : Nat) : DWord := match s.frm u with | some f => f.stamp | none => 0
  let q := (s.sliceOf sl).queue
  let before := q.takeWhile (fun u => decide (stampDiff (st u) (st uid) < 0))
  let s := s.setSlice sl { s.sliceOf sl with queue := before ++ [uid] ++ q.drop before.length }
  match hold with
  | none => s
  | some h => s.setCs sl { s.csOf sl with holds := (s.csOf sl).holds.set none uid (some h) }

/-- The counter of an abandon cause (R217). -/
def abandonCtr : Nat → Option Fld
  | 1 => some F.CS_ABANDON_INTERRUPT
  | 2 => some F.CS_ABANDON_PREEMPT
  | 3 => some F.CS_ABANDON_MEM
  | 4 => some F.CS_ABANDON_LOCK
  | 5 => some F.CS_ABANDON_DMA
  | 6 => some F.CS_ABANDON_ENGINE
  | _ => none

/-- A frame, or an event, whose routine ended without a restart (R201, R205). -/
def State.routineDrop (s : State) (sl : Nat) (r : Routine) : State :=
  match r.uid with
  | some uid => s.abortFrm sl uid {}
  | none => s.eventFailed sl

/-- Abandon an uncommitted routine (R200, R201): its log is discarded, its locks are released, and its frame or event
waits to restart, unless it has restarted as often as it may. -/
def State.abandon (s : State) (e k : Nat) (cause : Option Nat) (hold : Option HoldOff) : State :=
  match s.ctx e k with
  | none => s
  | some r =>
    let sl := e / 16
    let s := (s.clearCtx e k).cadd (enginePg e) F.SE_ABANDONS
    let s := match cause.bind abandonCtr with
      | some c => s.cadd (csPg sl) c
      | none => s
    let tries := (match r.uid with | some u => (s.frm u).map Frm.tries | none => some r.restarts).getD 0
    let limit := s.fget (csPg sl) F.CS_CTRL_RESTART_LIMIT
    if limit ≠ 0 ∧ tries ≥ limit then
      ((s.lastAbort e k 0xB r.pc).raise (csPg sl) 13).routineDrop sl r
    else
      let s := match cause with
        | some c => s.lastAbort e k c r.pc
        | none => s
      match r.uid with
      | some u => (s.updFrm u (fun f => { f with restarts := f.restarts + 1, tries := f.tries + 1 })).queueReturn sl u hold
      | none =>
        s.setCs sl { s.csOf sl with
          event := some { engine := e % 16, entry := r.entry, stamp := r.stamp, restarts := r.restarts + 1, hold := hold } }

/-- Metadata that a routine can set, carried from its working copy to the frame (R182, R188). -/
def Routine.results (r : Routine) (f : Frm) : Frm :=
  let b := r.window ++ f.bytes.drop r.window.length
  let f := { f with bytes := b, modified := f.modified || decide (b ≠ f.bytes) }
  let f := { f with
    tc := r.work.tc, destTenant := r.work.destTenant, dtenSet := r.work.dtenSet, deny := r.work.deny, punt := r.work.punt,
    puntIdle := r.work.puntIdle, user := r.work.user }
  let f := if f.pass.isSome then f else { f with dest := r.work.dest, bdvrf := r.work.bdvrf }
  { f with ext := none, extRan := true, tries := 0 }

/-- The frame of a routine returns to its point of dispatch (R185). -/
def State.returnFrm (s : State) (sl : Nat) (r : Routine) : State :=
  match r.uid with
  | some u => (s.updFrm u r.results).passed sl u {}
  | none => s.bset (csPg sl) F.CS_EVENT_PENDING false

/-- Start an event routine when its context can take it (R204, R206). -/
def State.startEvent (s : State) (sl : Nat) : State :=
  match (s.csOf sl).event with
  | none => s
  | some ev =>
    if ev.hold.isSome || !s.csStarts sl then s else
    let named := 16 * sl + ev.engine
    let pick := if s.engineWorks named then some named else ((List.range 16).map (16 * sl + ·)).find? s.engineWorks
    match pick with
    | none => s
    | some e =>
      let s := match s.ctx e 31 with
        | some r => if r.safe then s else s.abandon e 31 (some 1) none
        | none => s
      if (s.ctx e 31).isSome then s else
      let s := s.setCs sl { s.csOf sl with event := none }
      let r : Routine :=
        { stamp := ev.stamp, entry := ev.entry, pc := ev.entry, restarts := ev.restarts, window := List.replicate 256 0 }
      s.setCtx e 31 (some r)

/-- Raise an event routine (R204, R206): ignored and counted while one is pending. -/
def State.raiseEvent (s : State) (sl : Nat) : State :=
  let pg := csPg sl
  if s.flag pg F.CS_EVENT_PENDING then s.errCount pg
  else if ((List.range 16).map (16 * sl + ·)).all (fun e => !s.engineWorks e) then (s.raise pg 16).errCount pg
  else
    let s := (s.bset pg F.CS_EVENT_PENDING true).cadd pg F.CS_EVENTS
    let ev : Event := { engine := s.fget pg F.CS_EVENT_ENGINE, entry := s.fget pg F.CS_EVENT_ENTRY, stamp := s.stamp (sliceDie sl) }
    (s.setCs sl { s.csOf sl with event := some ev }).startEvent sl

/-- A routine ends at its END word (R185, R198, R219). -/
def State.endRoutine (s : State) (e k : Nat) (r : Routine) : State :=
  let s := (s.clearCtx e k).cadd (enginePg e) F.SE_ROUTINES
  (s.returnFrm (e / 16) r).startEvent (e / 16)

/-- A routine ends by an error after its commit (R199): an ingress frame is dropped, an egress frame is sent as it stood at
the commit. -/
def State.postCommit (s : State) (e k cause : Nat) (r : Routine) : State :=
  let sl := e / 16
  let s := (((s.clearCtx e k).lastAbort e k cause r.pc).cadd (csPg sl) F.CS_POSTCOMMIT_ERRORS).raise (csPg sl) 8
  let s := match r.uid with
    | some u => if (s.frm u).any (fun f : Frm => f.pass.isSome) then s.returnFrm sl r else s.abortFrm sl u {}
    | none => s.bset (csPg sl) F.CS_EVENT_PENDING false
  s.startEvent sl

/-- End a routine by a cause of R201. -/
def State.endByCause (s : State) (e k cause : Nat) (hold : Option HoldOff) : State :=
  match s.ctx e k with
  | none => s
  | some r =>
    let sl := e / 16
    let s := if cause = 8 then s.raise (csPg sl) 14 else if cause = 0xA then s.raise (csPg sl) 12 else s
    if r.committed then s.postCommit e k cause r
    else if cause ≤ 6 then (s.abandon e k (some cause) hold).startEvent sl
    else
      let s := (s.clearCtx e k).lastAbort e k cause r.pc
      let s := if cause = 7 then s.cadd (enginePg e) F.SE_ABANDONS else s
      (s.routineDrop sl r).startEvent sl

/-! ### Locks (R202) -/

/-- A context asks for a lock-table entry: it takes it, or the younger of it and the holder gives way. -/
def State.takeLock (s : State) (e k entry : Nat) : State :=
  match s.ctx e k with
  | none => s
  | some r =>
    let take (s : State) := match s.ctx e k with
      | some r => s.setCtx e k (some { r with locks := if r.locks.contains entry then r.locks else entry :: r.locks, lockWait := none })
      | none => s
    match s.lockHolder (e / 128) entry with
    | none => take s
    | some h =>
      if h.1 = e ∧ h.2.1 = k then take s
      else if olderCtx (e, k, r) h && !h.2.2.safe then take (s.endByCause h.1 h.2.1 4 (some (.lock entry)))
      else s.endByCause e k 4 (some (.lock entry))

/-! ### Uncorrectable control-store words (R212, R213) -/

/-- The donor of a copy (R213). -/
def State.csDonor (s : State) (sl : Nat) : Option Nat :=
  let pg := csPg sl
  ((List.range 8).map (8 * sliceDie sl + ·)).find? (fun x => x ≠ sl &&
    decide (s.reg (csPg x) F.CS_VERSION.off = s.reg pg F.CS_VERSION.off) && s.flag (csPg x) F.CS_STATUS_VERIFIED)

/-- What the device does on an uncorrectable word (R212), and the start of the copy of R213. -/
def State.csUncorr (s : State) (sl : Nat) : State :=
  let pg := csPg sl
  let s := ((s.bset pg F.CS_STATUS_UNCORR true).cadd pg F.CS_ECC_UNCORR).raise pg 9
  let s := (s.enterPaddle sl cCsUncorr).bset pg F.CS_STATUS_VERIFIED false
  let s := (s.routines sl).foldl (fun s x => s.endByCause x.1 x.2.1 7 none) s
  match (if s.flag pg F.CS_CTRL_AUTO_RELOAD then s.csDonor sl else none) with
  | some x => (s.fset pg F.CS_STATUS_DONOR x).bset pg F.CS_STATUS_RELOADING true
  | none => s.raise pg 11

/-- A correctable word (R212). -/
def State.csCorrected (s : State) (sl : Nat) : State :=
  (s.cadd (csPg sl) F.CS_ECC_CORRECTED).pmcEvent (slicePg sl) { code := 0x15 }

/-! ### Dispatch (R183, R184) -/

/-- Urgency of a traffic class (R184). -/
def State.urgency (s : State) (sl tc : Nat) : Nat := bits (s.fget (csPg sl) F.CS_URGENCY_MAP) (2 * tc + 1) (2 * tc)

/-- Free contexts of an engine that a frame can take, lowest first. -/
def State.freeCtxs (s : State) (e : Nat) : List Nat :=
  let n := if s.flag (csPg (e / 16)) F.CS_CTRL_EVENT_RESERVE then 31 else 32
  if s.engineWorks e then (List.range n).filter (fun k => (s.ctx e k).isNone) else []

/-- The context that a frame is placed in: the engine with the most free contexts, the lowest seat among equals (R183). -/
def State.placeCtx (s : State) (sl : Nat) : Option (Nat × Nat) :=
  ((List.range 16).map (16 * sl + ·)).foldl (fun b e =>
    match s.freeCtxs e, b with
    | [], _ => b
    | k :: r, none => some (e, k)
    | k :: r, some (e', k') => if (k :: r).length > (s.freeCtxs e').length then some (e, k) else some (e', k')) none

/-- The routine that a frame of an urgency pre-empts: the lowest urgency, then the latest stamp (R184), in a context that a frame may
take (R204, R216). -/
def State.victim (s : State) (sl u : Nat) : Option (Nat × Nat × Routine) :=
  let tcOf (r : Routine) := (r.uid.bind s.frm).map (fun f => s.urgency sl f.tc)
  let l := (s.routines sl).filter (fun x => !x.2.2.safe && (tcOf x.2.2).any (· < u) && s.engineWorks x.1 &&
    !(s.flag (csPg sl) F.CS_CTRL_EVENT_RESERVE && x.2.1 = 31))
  l.foldl (fun b x => match b with
    | none => some x
    | some y =>
      let p := (tcOf x.2.2).getD 0
      let q := (tcOf y.2.2).getD 0
      if p < q || (p = q && decide (stampDiff x.2.2.stamp y.2.2.stamp > 0)) then some x else some y) none

/-- Start the routine of a frame in a context (R182, R187). -/
def State.startRoutine (s : State) (sl e k uid : Nat) : State :=
  match s.frm uid with
  | none => s
  | some f =>
    let x := s.sliceOf sl
    let s := s.setSlice sl { x with queue := x.queue.filter (· ≠ uid) }
    let s := if f.tries = 0 then s.cadd (csPg sl) F.CS_DISPATCHED else s
    let entry := f.ext.getD 0
    s.setCtx e k (some { uid := some uid, stamp := f.stamp, entry := entry, pc := entry, window := f.bytes.take 256, work := f })

/-- The first frame of the dispatch queue that may start (R183, R202, R203, R368). -/
def State.headFrm (s : State) (sl : Nat) : Option (Nat × Frm) :=
  (s.sliceOf sl).queue.findSome? (fun u =>
    match s.frm u with
    | some f => if f.verdict = .waiting || ((s.csOf sl).holds.get none u).isSome then none else some (u, f)
    | none => none)

/-- R182-R184, R211: the frame at the head of a slice's dispatch queue takes a context, or leaves as HALT_ACTION says while
no routine starts. -/
def execEngineDispatch (sl : Slice) (s : State) : Res :=
  let sl := sl.val
  let s := s.startEvent sl
  let cs := csPg sl
  .next (match s.headFrm sl with
    | none => s
    | some (u, f) =>
      if s.csStarts sl then
        match s.placeCtx sl with
        | some (e, k) => s.startRoutine sl e k u
        | none =>
          match s.victim sl (s.urgency sl f.tc) with
          | some (e, k, _) => (s.abandon e k (some 2) none).startRoutine sl e k u
          | none => s
      else
        let out := s.setSlice sl { s.sliceOf sl with queue := (s.sliceOf sl).queue.filter (· ≠ u) }
        if s.inPaddle sl || (!s.flag cs F.CS_CTRL_RUN && s.fget cs F.CS_CTRL_HALT_ACTION == 1) then
          ((out.cadd cs F.CS_HALT_SKIPPED).setFrm u { f with ext := none }).passed sl u {}
        else if !s.flag cs F.CS_CTRL_RUN && s.fget cs F.CS_CTRL_HALT_ACTION == 2 then out.abortFrm sl u {}
        else s)

/-- R203: a frame has waited CS_DMA_WAIT for a DMA fault to be resolved. -/
def execCsDmaWaitExpire (sl : Slice) (uid : Nat) (s : State) : Res :=
  let c := s.csOf sl.val
  let x := s.sliceOf sl.val
  .next (if c.holds.get none uid = some .dma then
    ((s.setCs sl.val { c with holds := c.holds.set none uid none }).setSlice sl.val
      { x with queue := x.queue.filter (· ≠ uid) }).abortFrm sl.val uid {}
  else s)

/-- A fault of an engine's DMA is resolved (R203, R400): its frame or event restarts. -/
def State.dmaResolved (s : State) (sl uid : Nat) : State :=
  let c := s.csOf sl
  let s := if uid = 0 then s.setCs sl { c with event := c.event.map (fun e => if e.hold = some .dma then { e with hold := none } else e) }
    else if c.holds.get none uid = some .dma then s.setCs sl { c with holds := c.holds.set none uid none } else s
  s.startEvent sl

/-- The frame of an engine context whose fault is aborted is dropped (R400, R420). -/
def State.dmaAborted (s : State) (sl uid : Nat) : State :=
  let c := s.csOf sl
  if uid = 0 then
    (if (c.event.bind Event.hold) = some .dma then (s.setCs sl { c with event := none }).eventFailed sl else s)
  else if c.holds.get none uid = some .dma then
    let x := s.sliceOf sl
    ((s.setCs sl { c with holds := c.holds.set none uid none }).setSlice sl
      { x with queue := x.queue.filter (· ≠ uid) }).abortFrm sl uid {}
  else s

end Sys2Proof.Machine
end

