-- ==== Sys2Proof/Machine/Buffer.lean ====
section
/-!
DEFINITION. The shared buffer: charges, admission, the last cell, discards, flushes, ageing, pool limits, queue states,
the multicast group table, and PFC (07 R220-R252).
-/
namespace Sys2Proof.Machine

/-! ### Queues and charges (R220-R225) -/

/-- The key of a port queue. -/
def portQ (p q : Nat) : Nat := 16 * p + q
/-- The queue whose cells a copy's cells count in, on die `d`. -/
def Copy.key (c : Copy) (d : Nat) : Nat :=
  match c.host, c.port with
  | some h, _ => hostQ d h
  | none, some p => portQ p c.queue
  | none, none => hostQ d 0

/-- The queue whose reserve a copy was charged to: a copy punted by an egress stage keeps its charges (R223). -/
def Copy.homeKey (c : Copy) (d : Nat) : Nat :=
  match c.port with
  | some p => portQ p c.queue
  | none => c.key d

/-- Q, Qs and Ps of R225, and the cells charged to a queue's reserve. -/
def depthOf (l : List Copy) (d k : Nat) : Nat := cellSum l (fun c => c.key d = k) Copy.written
def sharedOf (l : List Copy) (d k : Nat) : Nat := cellSum l (fun c => c.key d = k) Copy.shared
def portShared (l : List Copy) (p : Nat) : Nat := cellSum l (fun c => c.host.isNone && c.port = some p) Copy.shared
def reserveCharged (l : List Copy) (d k : Nat) : Nat := cellSum l (fun c => c.homeKey d = k) Copy.res

/-- I and H of R225 for an ingress port and class. -/
def State.ingressCells (s : State) (l : List Copy) (i c : Nat) (g : Copy → Nat) : Nat :=
  cellSum l (fun x => x.lossless = some c && (match s.frm x.uid with | some f => f.port = i | none => false)) g

/-- Cells in use of a die's shared pool and of its headroom pool. -/
def sharedUsed (l : List Copy) : Nat := cellSum (stored l) (fun _ => true) Copy.shared
def headroomUsed (l : List Copy) : Nat := cellSum l (fun _ => true) Copy.hdrm

/-- Tail reservations of the frames whose last cell is not written (R228). -/
def tailReserved (l : List Copy) : Nat := cellSum (stored l) (fun c => decide (c.written < c.cells)) (fun c => 40 - c.written)

/-- The die's available cells (R220, R249). -/
def State.available (s : State) (d : Nat) : Nat := 8192 * (s.fget (bufPg d) F.BUF_BANKS_IN_SERVICE - (s.bufOf d).gone.length)

/-- The reserve: the sum of MIN over the die's 8,192 port queues and 64 host-bound queues, taken as their reset values and
what the listed registers differ by (R224). -/
def State.reserve (s : State) (d : Nat) : Nat :=
  let diff (kv : Nat × Word) : Int :=
    let off := keyOff kv.1
    let n := keyNum kv.1
    let kind := keyKind kv.1
    let queue := kind = Kind.port.code ∧ n / 512 = d ∧ 0x340 ≤ off ∧ off < 0x380
    let host := kind = Kind.bufMgr.code ∧ n = d ∧ 0x200 ≤ off ∧ off < 0x300
    if queue ∨ host then (F.BUF_QUEUE_CFG_MIN.of kv.2 : Int) - 8 else 0
  (((8192 + 64) * 8 : Int) + (s.regs.map diff).sum).toNat

def State.sharedLimit (s : State) (d : Nat) : Nat := s.fget (bufPg d) F.BUF_SHARED_LIMIT_CELLS
def State.headroomLimit (s : State) (d : Nat) : Nat := s.fget (bufPg d) F.BUF_HEADROOM_LIMIT_CELLS

/-- Cells in use of the banks that are not retired (R249). -/
def State.cellsInUse (s : State) (d : Nat) (l : List Copy) : Nat :=
  let gone := (s.bufOf d).gone
  if gone.isEmpty then usedCells l else cellSum (stored l) (fun _ => true) (fun c => c.banks.countP (fun b => !gone.contains b))

/-- The banks of `n` successive cells, in rotation from bank `start` on over those in service and not retired (R221, R249). -/
def State.rotate (s : State) (d start n : Nat) : List Nat :=
  let l := (List.range (s.fget (bufPg d) F.BUF_BANKS_IN_SERVICE)).filter (fun b => !(s.bufOf d).gone.contains b)
  let k := l.findIdx (fun b => decide (start ≤ b))
  (List.range n).map (fun i => l.getD ((k + i) % l.length) 0)

/-- S_eff and S_free (R225). -/
def State.sEff (s : State) (d : Nat) : Nat :=
  min (s.sharedLimit d) (s.available d - s.reserve d - s.headroomLimit d)
def State.sFree (s : State) (d : Nat) (l : List Copy) : Nat := s.sEff d - sharedUsed l

/-- α of an ALPHA code in units of 1/256; none is UNLIMITED (R226). -/
def alpha256 (code : Nat) : Option Nat :=
  if code = 0xF then none else if code ≤ 0xB then some (2 ^ code) else some (Config.alphaReserved code)

/-- x < α × S_free. -/
def belowAlpha (x code free : Nat) : Bool :=
  match alpha256 code with
  | none => true
  | some a => decide (x * 256 < a * free)

/-! ### Queue states (R247) -/

def qEnabled : Nat := 0
def qDrain : Nat := 1
def qFlush : Nat := 2
def qDisabled : Nat := 3

def State.queueState (s : State) (p q : Nat) : Nat := s.fget (portPg p) F.BUF_QUEUE_STATUS_STATE q
def State.setQueueState (s : State) (p q v : Nat) : State := s.fset (portPg p) F.BUF_QUEUE_STATUS_STATE v q

def State.setQueue (s : State) (k : Nat) (l : List Copy) : State := { s with queues := s.queues.set [] k l }

/-! ### The admission decision (R227, R242) -/

/-- What the admission decision answers: a drop with its reason, marked when a lossless frame is refused, or the pool kind. -/
inductive Verdict227 where
  | drop (why : Nat) (lossless : Bool)
  | normal
  | headroom
  deriving DecidableEq, Repr

/-- The checks that come before the thresholds: port state, queue state and free cells; none when they pass. -/
def State.admitGate (s : State) (d p q : Nat) (l : List Copy) : Option Nat :=
  if !s.portUp p then some dFlush
  else if s.queueState p q = qFlush then some dFlush
  else if s.queueState p q ≠ qEnabled then some dFull
  else if s.available d < s.cellsInUse d l + tailReserved l + 40 then some dFull
  else none

/-- The shared-pool test of a port queue. -/
def State.sharedTest (s : State) (d p q : Nat) (l : List Copy) : Bool :=
  let free := s.sFree d l
  belowAlpha (sharedOf l d (portQ p q)) (s.fget (portPg p) F.BUF_QUEUE_CFG_ALPHA q) free &&
  belowAlpha (portShared l p) (s.fget (portPg p) F.BUF_PORT_CFG_ALPHA_PORT) free

/-- The decision for a unicast frame bound for queue `q` of port `p` (R227). -/
def State.admitPortQ (s : State) (d p q : Nat) (f : Frm) (l : List Copy) : Verdict227 :=
  match s.admitGate d p q l with
  | some why => .drop why false
  | none =>
    if reserveCharged l d (portQ p q) < s.fget (portPg p) F.BUF_QUEUE_CFG_MIN q then .normal
    else if f.kind = .rx ∧ s.lossless f.port f.tc then
      if !(s.bufOf d).xoff.contains (8 * f.port + f.tc) then .normal
      else if s.ingressCells l f.port f.tc Copy.hdrm < s.fget (portPg f.port) F.BUF_PORT_PFC_HDRM ∧
        headroomUsed l < s.headroomLimit d then .headroom
      else .drop dFull true
    else if s.sharedTest d p q l then .normal
    else .drop dFull false

/-- The decision for a host-bound queue: its own checks only (R227). -/
def State.admitHostQ (s : State) (d h : Nat) (l : List Copy) : Verdict227 :=
  let pg := bufPg d
  if !s.flag pg F.BUF_HQ_CFG_EN h then .drop dFull false
  else if s.available d < s.cellsInUse d l + tailReserved l + 40 then .drop dFull false
  else if reserveCharged l d (hostQ d h) < s.fget pg F.BUF_HQ_CFG_MIN h then .normal
  else if belowAlpha (sharedOf l d (hostQ d h)) (s.fget pg F.BUF_HQ_CFG_ALPHA h) (s.sFree d l) then .normal
  else .drop dFull false

/-! ### Enqueueing (R225, R229, R236, R237, R244) -/

/-- Sub-links of the keel in service toward a die. -/
def State.subsInService (s : State) (d : Nat) : Nat := s.fget (keelPg d) F.KEEL_STATUS_RX_ACTIVE

/-- Is a frame cut through to port `p` of die `d` (R237)? -/
def State.cutThrough (s : State) (d p : Nat) (f : Frm) : Bool :=
  f.kind = .rx && s.flag (portPg p) F.BUF_PORT_CFG_CT_EN && !s.msecRx f.port &&
  decide (s.portSpeed p ≤ s.portSpeed f.port) && (f.die = d || decide (s.subsInService d ≥ 64))

/-- The ECN field of the outermost IP header (R236). -/
def Frm.ecnBits (f : Frm) : Option Nat :=
  match fromFirst f.hdrs isIp with
  | x :: _ => some (if x.1 = hV4 then num f.bytes (x.2 + 1) 1 % 4 else num f.bytes (x.2 + 1) 1 / 16 % 4)
  | [] => none

/-- Is a frame marked at depth `n` (R236)? Between the thresholds the draw is open, unless its probability is 0. -/
def State.ecnMark (s : State) (p q n : Nat) (f : Frm) : Bool × State :=
  let pg := portPg p
  let lo := 8 * s.fget pg F.BUF_QUEUE_ECN_ECN_MIN q
  let hi := 8 * s.fget pg F.BUF_QUEUE_ECN_ECN_MAX q
  if !s.flag pg F.BUF_QUEUE_ECN_EN q || !(f.ecnBits = some 1 || f.ecnBits = some 2) || decide (n < lo) then (false, s)
  else if n ≥ hi then (true, s)
  else if s.fget pg F.BUF_QUEUE_ECN_MAXP q * (n - lo) = 0 then (false, s)
  else let r := s.draw 1; (r.1 = 1, r.2)

/-- Charge `n` cells that are written: events of the frame's tenant, and cells written (R356, R360). -/
def State.cellsWritten (s : State) (d uid n : Nat) : State :=
  match s.frm uid with
  | some f => (s.pmcEvent (bufPg d) (pipeEvent f 0xD n)).chargeFrm d uid 2 n
  | none => s

/-- Put a copy at the end of its queue, with its first cell written and charged. The references of a multicast part share its cells;
the first cell of a frame takes the bank after that of the frame before (R221; DESIGN CHOICE: R221 does not say where a frame's
rotation starts). -/
def State.enqueue (s : State) (d : Nat) (c : Copy) : State :=
  let k := c.key d
  match (s.copies d).find? (fun x => x.part = c.part) with
  | some x => s.setQueue k (s.queueAt k ++ [{ c with enq := s.stamp d, written := 1, banks := x.banks }])
  | none =>
    let l := s.rotate d (s.bufOf d).nextBank 1
    let s := s.setBuf d { s.bufOf d with nextBank := l.headD 0 + 1 }
    s.setQueue k (s.queueAt k ++ [{ c with enq := s.stamp d, written := 1, banks := l }])

/-- Charge cells of a copy admitted as NORMAL: to the reserve while fewer than MIN are charged there, else to the shared
pool; HEADROOM cells to the headroom pool; multicast cells to the shared pool (R225). -/
def Copy.charge (c : Copy) (min already n : Nat) : Copy :=
  if c.mcast then { c with shared := c.shared + n }
  else if c.head then { c with hdrm := c.hdrm + n }
  else
    let r := Nat.min n (min - already)
    { c with res := c.res + r, shared := c.shared + (n - r) }

/-- MIN of the queue that a copy is charged to. -/
def State.minOf (s : State) (d : Nat) (c : Copy) : Nat :=
  match c.port, c.host with
  | some p, _ => s.fget (portPg p) F.BUF_QUEUE_CFG_MIN c.queue
  | none, h => s.fget (bufPg d) F.BUF_HQ_CFG_MIN (h.getD 0)

/-- Enqueue a copy of a frame on a port queue: cut-through, ECN and charges are settled now. -/
def State.enqueuePort (s : State) (d p : Nat) (f : Frm) (c : Copy) (l : List Copy) : State :=
  let cut := s.cutThrough d p f
  let (ecn, s) := s.ecnMark p c.queue (c.depth.getD 0) f
  let s := if ecn then s.cadd (portPg p) F.BUF_ECN_MARKED else s
  let s := if cut then s.cadd (portPg p) F.BUF_CT_FRAMES else s
  let c := { c with cut := cut, eligible := cut, ecn := ecn }
  s.enqueue d (c.charge (s.minOf d c) (reserveCharged l d (c.homeKey d)) 1)

/-- The queue of a frame's class on a port (R223). -/
def State.queueOf (s : State) (p tc : Nat) : Nat := (s.fget (portPg p) F.BUF_PORT_QMAP_TCn >>> (4 * tc)) % 16

/-- The copy of a frame bound for a port queue. -/
def State.portCopy (s : State) (d p uid : Nat) (f : Frm) (l : List Copy) (mcast : Bool) : Copy :=
  let q := match f.kind with
    | .injected | .stream => f.queue
    | _ => s.queueOf p f.tc
  { uid := uid, part := uid, port := some p, queue := q, depth := some (depthOf l d (portQ p q)), mcast := mcast,
    cells := f.cells,
    lossless := if f.kind = .rx && !mcast && s.lossless f.port f.tc then some f.tc else none }

/-- The copy as its record shows it when it is refused: it joined no queue (R334). -/
def Copy.refused (c : Copy) : Copy := { c with queue := 0, depth := none }

/-- Count a refusal (R251, R252). -/
def State.countRefusal (s : State) (d : Nat) (c : Copy) (why : Nat) (lossless : Bool) : State :=
  let s := match c.port with
    | some p => if why = dFull then s.cadd (portPg p) F.BUF_ADMIT_FULL_FRAMES else s
    | none => s
  if lossless then (s.cadd (bufPg d) F.BUF_HEADROOM_DROPS).raise (bufPg d) 11 else s

/-- Admit a unicast frame to a port (R227). -/
def State.admitToPort (s : State) (d p uid : Nat) (f : Frm) : State :=
  let l := s.copies d
  let c := s.portCopy d p uid f l false
  match s.admitPortQ d p c.queue f l with
  | .drop why ll => (s.countRefusal d c why ll).dropAt d uid c.refused why
  | .normal => (s.enqueuePort d p f c l).cellsWritten d uid 1
  | .headroom => (s.enqueuePort d p f { c with head := true } l).cellsWritten d uid 1

/-- Admit a frame to a host-bound queue (R222, R227). -/
def State.admitToHost (s : State) (d h uid : Nat) (f : Frm) : State :=
  let l := s.copies d
  let c : Copy :=
    { uid := uid, part := uid, host := some h, depth := some (depthOf l d (hostQ d h)), cells := f.cells,
      lossless := if f.kind = .rx && s.lossless f.port f.tc then some f.tc else none }
  match s.admitHostQ d h l with
  | .drop why _ => s.dropAt d uid c.refused why
  | _ => (s.enqueue d (c.charge (s.minOf d c) (reserveCharged l d (hostQ d h)) 1)).cellsWritten d uid 1

/-- Ports of a multicast map of die `d`, in ascending order. -/
def mapPorts (d m : Nat) : List Nat := ((List.range 512).filter (fun j => m.testBit j)).map (512 * d + ·)

/-- Try one target of a multicast part (R242): the copy to enqueue, or the refused copy with its reason. -/
def State.mcTarget (s : State) (d p uid : Nat) (f : Frm) (l : List Copy) (first : Bool) : Copy × Option Nat :=
  let c := s.portCopy d p uid f l true
  let gate := if s.queueState p c.queue = qFlush then some dFlush
    else if s.queueState p c.queue ≠ qEnabled then some dFull
    else if first && decide (s.available d < s.cellsInUse d l + tailReserved l + 40) then some dFull
    else none
  match gate with
  | some why => (c, some why)
  | none => (c, if s.sharedTest d p c.queue l then none else some dFull)

/-- Enqueue a reference of a part on each target that passes: the references enqueued and the targets refused. -/
def State.mcEnqueue (s : State) (d uid : Nat) (f : Frm) : List Nat → Nat → List (Copy × Nat) → Nat × List (Copy × Nat) × State
  | [], n, bad => (n, bad, s)
  | p :: r, n, bad =>
    let l := s.copies d
    match s.mcTarget d p uid f l (n = 0) with
    | (c, some why) => (s.countRefusal d c why false).mcEnqueue d uid f r n (bad ++ [(c, why)])
    | (c, none) => (s.enqueuePort d p f c l).mcEnqueue d uid f r (n + 1) bad

/-- Admit a multicast part on die `d` (R241, R242, R333). -/
def State.admitMcast (s : State) (d g uid : Nat) (f : Frm) : State :=
  let e := s.mcEntry d g
  let ports := if mcValid e then mapPorts d (mcMap e) else []
  let live := ports.filter (fun p => s.portUp p && !(mcSrcPrune e && p = f.port && f.kind = .rx))
  let (n, bad, s) := s.mcEnqueue d uid f live 0 []
  let s := s.cadd (bufPg d) F.BUF_MC_SKIPPED (ports.length - live.length + bad.length)
  if n + bad.length = 0 then s.dropAt d uid { uid := uid, mcast := true } dNoRoute
  else
    let s := s.updFrm uid (fun f => { f with refs := n + bad.length })
    let s := bad.foldl (fun s x => s.dropAt d uid x.1.refused x.2) s
    if n = 0 then s else s.cellsWritten d uid 1

/-- The ports, and host-bound queues from 1,024 up, at which a frame's target can put it on a die. -/
def State.targetsOn (s : State) (d : Nat) (t : Option Target) : List Nat :=
  match t with
  | some (.port p) => [p]
  | some (.host h) => [1024 + h]
  | some (.mcast g) => mapPorts d (mcMap (s.mcEntry d g))
  | none => []

/-- Frames received on a port that have passed their point of dispatch and wait to be admitted on a die: at the classifier, behind a
stall, on the keel, or for their decision. -/
def State.beforeAdmission (s : State) (d p : Nat) : List Nat :=
  (s.clsOf (portDie p)).fifo.map Waiter.uid ++ (s.stalls.get [] (p / 16)).map Prod.fst ++
  ((s.keelOf (1 - d)).tx.filter (fun x => !x.admitted)).map Crossing.uid ++ s.admits.get [] d

/-- Does a frame wait for an earlier one of its port, class and queue (R239): one received with an earlier stamp, or for a frame that
the device itself makes, one that stands before it? -/
def State.waitsBehind (s : State) (d uid : Nat) (f : Frm) : Bool :=
  let is (u : Nat) (p : Frm → Bool) := match s.frm u with | some x => p x | none => false
  if f.kind = .rx then
    let here := s.targetsOn d f.target
    (s.beforeAdmission d f.port).any (fun u => u ≠ uid && is u (fun x =>
      x.kind = .rx && x.port = f.port && x.tc = f.tc && decide (stampDiff x.stamp f.stamp < 0) && !x.gone &&
      (s.targetsOn d x.target).any here.contains))
  else ((s.admits.get [] d).takeWhile (· ≠ uid)).any (fun u => is u (fun x => x.kind = f.kind && x.port = f.port && x.tc = f.tc))

/-- R222, R227: the admission decision at a frame's first cell. Frames of one port, class and queue are admitted in their order
(R239), and injected and built frames only in slots that port traffic leaves unused (R35). -/
def State.frameAdmit (s : State) (d : Die) (uid : Nat) : State :=
  let l := s.admits.get [] d.val
  (match s.frm uid with
    | none => s
    | some f =>
      let waits (u : Nat) (p : Frm → Bool) := match s.frm u with | some x => p x | none => false
      let yields := f.kind ≠ .rx && l.any (fun u => waits u (fun x => x.kind = .rx))
      if !l.contains uid || s.waitsBehind d.val uid f || yields || !s.dieUp d.val then s else
      let s := { s with admits := s.admits.set [] d.val (l.erase uid) }
      let s := s.setFrm uid { f with holder := d.val }
      match f.target with
      | some (.port p) => if portDie p = d.val then s.admitToPort d.val p uid f else s.dropAt d.val uid { uid := uid } dKeel
      | some (.host h) => s.admitToHost d.val h uid f
      | some (.mcast g) => s.admitMcast d.val g uid f
      | none => s.dropAt d.val uid { uid := uid } dNoRoute)

/-! ### Leaving a queue (R239, R243) -/

/-- Discard a copy that has left its queue: its counter, its record, and its reference (R244, R246, R251). -/
def State.discard (s : State) (d : Nat) (c : Copy) (why : Nat) : State :=
  let s := match c.port with
    | some p => if why = dAged then s.cadd (portPg p) F.BUF_AGED_FRAMES
      else if why = dFlush then s.cadd (portPg p) F.BUF_FLUSHED_FRAMES
      else if why = dGate then s.cadd (portPg p) F.GATE_MISS_FRAMES
      else s
    | none => s
  match s.frm c.uid with
  | some f => (s.fold d f c why none f.size 0).release c.uid
  | none => s

/-- A child that becomes empty has its deficit set to zero (R256). -/
def State.emptied (s : State) (k : Nat) : State :=
  if k ≥ 16384 ∨ !(s.queueAt k).isEmpty then s else
  let p := k / 16
  let x := s.portOf p
  let g := s.fget (portPg p) F.SCH_QUEUE_CFG_GROUP (k % 16)
  let groupEmpty := (List.range 16).all (fun q =>
    s.fget (portPg p) F.SCH_QUEUE_CFG_GROUP q ≠ g || (s.queueAt (portQ p q)).isEmpty)
  let def1 := x.deficit.set 0 (k % 16) 0
  s.setPort p { x with deficit := if groupEmpty then def1.set 0 (16 + g) 0 else def1 }

/-- Take a copy out of its queue. -/
def State.unqueue (s : State) (d : Nat) (c : Copy) : State :=
  (s.setQueue (c.key d) ((s.queueAt (c.key d)).erase c)).emptied (c.key d)

/-- Discard the copies of a queue that satisfy a condition. -/
def State.discardFrom (s : State) (k why : Nat) (p : Copy → Bool) : State :=
  ((s.queueAt k).filter p).foldl (fun s c => (s.unqueue (queueDie k) c).discard (queueDie k) c why) s

/-! ### The last cell (R100, R225, R237, R248, R250, R265) -/

/-- Change every copy of a part in the queues of a die. -/
def State.updCopies (s : State) (d part : Nat) (g : Copy → Copy) : State :=
  (s.queues.filter (fun kv => queueDie kv.1 = d && kv.2.any (fun c => c.part = part))).foldl
    (fun s kv => s.setQueue kv.1 (kv.2.map (fun c => if c.part = part then g c else c))) s

/-- Change the copy of every egress pass. -/
def State.mapPasses (s : State) (g : Copy → Copy) : State :=
  { s with frames := s.frames.map (fun kv : Nat × Option Frm =>
      (kv.1, kv.2.map (fun f : Frm => { f with pass := f.pass.map g }))) }

/-- Change every egress pass of a part on a die. -/
def State.updPasses (s : State) (d part : Nat) (g : Copy → Copy) : State :=
  s.mapPasses (fun c => if c.part = part && c.port.any (fun p => portDie p = d) then g c else c)

/-- What befalls the copies of a part that has proved bad: copies not yet begun are discarded before dequeue, save that a
cut-through copy of a frame with a bad FCS is sent with its FCS inverted, as is a copy in transmission (R100, R248, R250,
R265). -/
def State.spoil (s : State) (d part why : Nat) : State :=
  let keep (c : Copy) := c.cut && (why = dFcs || why = dOversize)
  let s := s.updPasses d part (fun c => { c with spoiled := some why })
  let s := s.updCopies d part (fun c => if keep c then { c with spoiled := some why } else c)
  ((s.queues.filter (fun kv => queueDie kv.1 = d)).map Prod.fst).foldl
    (fun s k => s.discardFrom k why (fun c => c.part = part && !keep c)) s

/-- Has a frame still cells on the keel toward die `d`? -/
def State.crossingTo (s : State) (d uid : Nat) : Bool :=
  (s.keelOf (1 - d)).tx.any (fun c => c.uid = uid && decide (c.got < c.cells))

/-- Write the rest of a part's cells: each copy takes every one of its cells (R225, R228). -/
def State.writeRest (s : State) (d uid : Nat) : State :=
  let l := s.copies d
  let more (c : Copy) : Copy :=
    { c.charge (s.minOf d c) (reserveCharged l d (c.homeKey d)) (c.cells - c.written) with
      written := c.cells, banks := c.banks ++ s.rotate d (c.banks.getLastD 0 + 1) (c.cells - c.written) }
  let n := match l.find? (fun c => c.part = uid) with | some c => c.cells - c.written | none => 0
  ((s.updCopies d uid more).updPasses d uid more).cellsWritten d uid n

/-- The frame whose cells a part holds: the frame admitted, or the copy that an egress stage punted. -/
def State.partFrm (s : State) (d part : Nat) : Option Frm :=
  match s.frm part with
  | some f => some f
  | none => ((s.copies d).find? (fun c => c.part = part)).bind (fun c => s.frm c.uid)

/-- R237: the last cell of a frame is written and its FCS checked; the copies stored become eligible. -/
def State.frameLastCell (s : State) (d : Die) (uid : Nat) (parity : Bool) : State :=
  (match s.partFrm d.val uid with
    | none => s
    | some f =>
      if !f.lastByte || f.verdict = .waiting || s.crossingTo d.val uid || !((s.copies d.val).any (fun c => c.part = uid)) then s
      else
        let s := if parity then s.integrity d.val 3 else s
        let s := s.writeRest d.val uid
        let why := f.reason (if f.lost then dKeel else 0)
        let s := if parity then s.updFrm uid (fun f => { f with badCell := true }) else s
        if why ≠ 0 then s.spoil d.val uid why
        else s.updCopies d.val uid (fun c => { c with eligible := true }))

/-! ### Age limits (R244, R245) -/

/-- Is the head of a port queue aged? -/
def State.headAged (s : State) (p q : Nat) (c : Copy) : Bool :=
  let lim := s.fget (portPg p) F.BUF_QUEUE_AGE_LIMIT q
  decide (lim ≠ 0) && decide (stampDiff (s.stamp (portDie p)) c.enq > (lim * 1000 * nsUnits : Nat))

/-- Discard the head of a queue for as long as it is aged. -/
def State.ageQueue (s : State) (p q : Nat) : Nat → State
  | 0 => s
  | fuel + 1 =>
    match s.queueAt (portQ p q) with
    | [] => s
    | c :: _ =>
      if s.headAged p q c then State.ageQueue ((s.unqueue (portDie p) c).discard (portDie p) c dAged) p q fuel else s

/-- R245: the head of every queue of a die is examined. -/
def execQueueHeadAgeCheck (d : Die) (s : State) : Res :=
  s.ifOperates (bufPg d.val) (((s.queues.map Prod.fst).filter (fun k => k / 8192 = d.val && decide (k < 16384))).foldl
    (fun s k => s.ageQueue (k / 16) (k % 16) (s.queueAt k).length) s)

/-! ### Flushes and queue states (R246, R247) -/

/-- Release the references of a port queue with PORT_FLUSH. -/
def State.flushQueue (s : State) (p q : Nat) : State :=
  (s.setQueueState p q qFlush).discardFrom (portQ p q) dFlush (fun _ => true)

/-- A copy that was being sent, or waited to start, ends without being sent; its egress stamp is that of its start. -/
def State.endPass (s : State) (uid why : Nat) (out : Option DWord) : State :=
  match s.frm uid with
  | none => s
  | some f =>
    match f.pass with
    | none => s
    | some c =>
      let d := portDie (c.port.getD 0)
      let s := if why = dFlush then s.cadd (portPg (c.port.getD 0)) F.BUF_FLUSHED_FRAMES else s
      ((s.fold d f c why out f.size 0).dropFrm uid).release c.uid

/-- Discard the copies of a port that wait to start when the port is flushed or is not UP (R246). -/
def State.purgeReady (s : State) (p : Nat) : State :=
  let x := s.portOf p
  let bad (u : Nat) : Option Nat := match s.frm u with
    | some f => f.pass.bind (fun c => if c.spoiled = some dFlush || !s.portUp p then
        some (c.spoiled.getD dFlush) else none)
    | none => some dFlush
  (x.ready.filter (fun u => (bad u).isSome)).foldl (fun s u => s.endPass u ((bad u).getD 0) none)
    (s.setPort p { x with ready := x.ready.filter (fun u => (bad u).isNone) })

/-- Flush a port: every queue, what it sends, and what is on its way to be sent (R246). -/
def State.flushPort (s : State) (p : Nat) : State :=
  let s := (List.range 16).foldl (fun s q => s.flushQueue p q) s
  let x := s.portOf p
  let s := s.setPort p { x with tx := none, preempted := none, ctl := [] }
  let s := (x.tx.toList ++ x.preempted.toList).foldl (fun s t => s.endPass t.uid dFlush (some t.stamp)) s
  (s.mapPasses (fun c => if c.port = some p then { c with spoiled := some dFlush } else c)).purgeReady p

/-- R246, R247: the flush of a queue completes. -/
def execPortFlushDone (p : Port) (q : Fin 16) (s : State) : Res :=
  let s := s.purgeReady p.val
  .next (if s.queueState p.val q.val = qFlush then
    s.setQueueState p.val q.val (if s.flag (portPg p.val) F.BUF_QUEUE_CFG_EN q.val then qEnabled else qDisabled)
  else s)

/-- R247: a draining queue is empty. -/
def execQueueDrainDone (p : Port) (q : Fin 16) (s : State) : Res :=
  s.ifOperates (bufPg (portDie p.val)) (if s.queueState p.val q.val = qDrain ∧ (s.queueAt (portQ p.val q.val)).isEmpty then
    s.setQueueState p.val q.val qDisabled else s)

/-- The effect of a change of EN (R247). -/
def State.queueEn (s : State) (p q : Nat) (was now : Bool) : State :=
  let st := s.queueState p q
  if was && !now && st = qEnabled then
    if s.flag (portPg p) F.BUF_QUEUE_CFG_DISABLE_MODE q then s.flushQueue p q else s.setQueueState p q qDrain
  else if !was && now && (st = qDrain || st = qDisabled) then s.setQueueState p q qEnabled
  else s

/-! ### Pool limits (R224) -/

/-- Refuse a write that would overcommit a die. -/
def State.overcommit (s : State) (d : Nat) : State :=
  ((s.fset (bufPg d) F.BUF_CFG_STATUS_LAST_ERR 1).errCount (bufPg d)).raise (bufPg d) 8

/-- Write a queue's configuration register on pages of one die: refused when the die would be overcommitted after it (R224). -/
def State.minWrite (s : State) (d off : Nat) (val : Word) (ts : List Page) (k : State → Page → State) : State :=
  let old := (ts.map (fun p => F.BUF_QUEUE_CFG_MIN.of (s.reg p off))).sum
  let new := ts.length * F.BUF_QUEUE_CFG_MIN.of val
  if ts.isEmpty then s
  else if s.reserve d + new + s.sharedLimit d + s.headroomLimit d > s.available d + old then s.overcommit d
  else ts.foldl k s

/-- Write BUF_QUEUE_CFGq of ports: checked die by die (R224), then EN takes effect (R247). -/
def State.queueCfgOn (s : State) (ts : List Page) (q : Nat) (val : Word) : State :=
  let off := F.BUF_QUEUE_CFG.at q
  [0, 1].foldl (fun s d =>
    s.minWrite d off val (ts.filter (fun t => t.die = d)) (fun s t =>
      let was := s.flag t F.BUF_QUEUE_CFG_EN q
      (s.putRw t off val).queueEn t.n q was (F.BUF_QUEUE_CFG_EN.of val = 1))) s

/-- A write of BUF_QUEUE_CFGq on a page. -/
def State.queueCfgWrite (s : State) (src : Source) (page : PageIdx) (q : Nat) (val : Word) : State :=
  s.access src page (F.BUF_QUEUE_CFG.wr val q) (fun p s =>
    match s.targetsOf p .port with
    | [] => s.countUnmapped src
    | ts => s.queueCfgOn ts q val)

/-- Write a pool limit of a die. -/
def State.limitWrite (s : State) (p : Page) (headroom : Bool) (val : Word) : State :=
  let n := val.toNat % 2 ^ 21
  let other := if headroom then s.sharedLimit p.n else s.headroomLimit p.n
  if s.reserve p.n + n + other > s.available p.n then s.overcommit p.n
  else s.putRw p (if headroom then F.BUF_HEADROOM_LIMIT.off else F.BUF_SHARED_LIMIT.off) val

/-- Write BUF_HQ_CFGh of a die. -/
def State.hqCfgWrite (s : State) (p : Page) (h : Nat) (val : Word) : State :=
  s.minWrite p.n (F.BUF_HQ_CFG.at h) val [p] (fun s t => s.putRw t (F.BUF_HQ_CFG.at h) val)

/-- R224: a write of MIN, BUF_SHARED_LIMIT or BUF_HEADROOM_LIMIT. -/
def execBufPoolLimitWrite (src : Source) (page : PageIdx) (reg : LimitReg) (val : Word) (s : State) : Res :=
  .next (match reg with
    | .queue q => s.queueCfgWrite src page q.val val
    | .host h => s.accessKind src page .bufMgr (F.BUF_HQ_CFG.wr val h.val) (fun p s => s.hqCfgWrite p h.val val)
    | .shared => s.accessKind src page .bufMgr (F.BUF_SHARED_LIMIT.wr val) (fun p s => s.limitWrite p false val)
    | .headroom => s.accessKind src page .bufMgr (F.BUF_HEADROOM_LIMIT.wr val) (fun p s => s.limitWrite p true val))

/-- R247: a write of BUF_QUEUE_CFGq with EN = 0. -/
def execQueueDisable (src : Source) (page : PageIdx) (q : Fin 16) (val : Word) (s : State) : Res :=
  .next (s.queueCfgWrite src page q.val (F.BUF_QUEUE_CFG_EN.put val 0))

/-- R247: a write of BUF_QUEUE_CFGq with EN = 1. -/
def execQueueEnable (src : Source) (page : PageIdx) (q : Fin 16) (val : Word) (s : State) : Res :=
  .next (s.queueCfgWrite src page q.val (F.BUF_QUEUE_CFG_EN.put val 1))

/-! ### The multicast group table (R240) -/

/-- Write a group from the MAP and FLAGS registers. -/
def State.mcWrite (s : State) (p : Page) (val : Word) : State :=
  let s := s.putRw p F.BUF_MC_CMD.off val
  let g := F.BUF_MC_CMD_GROUP.of val
  let e := BitVec.ofNat 515 (s.words p F.BUF_MC_MAP 16 + ((s.reg p F.BUF_MC_FLAGS.off).toNat % 8) * 2 ^ 512)
  { s with mcs := s.mcs.set 0 (8192 * p.n + g) e }

/-- Read a group into the MAP and FLAGS registers. -/
def State.mcRead (s : State) (p : Page) (val : Word) : State :=
  let s := s.putRw p F.BUF_MC_CMD.off val
  let e := (s.mcEntry p.n (F.BUF_MC_CMD_GROUP.of val)).toNat
  (s.setWords p F.BUF_MC_MAP 16 (e % 2 ^ 512)).setReg p F.BUF_MC_FLAGS.off (BitVec.ofNat 32 (e / 2 ^ 512))

/-- R240: BUF_MC_CMD.OP = 0b01. -/
def execMcGroupWrite (src : Source) (page : PageIdx) (val : Word) (s : State) : Res :=
  .next (s.accessKind src page .bufMgr (F.BUF_MC_CMD.cmd 1 val) (fun p s => s.mcWrite p val))

/-- R240: BUF_MC_CMD.OP = 0b10. -/
def execMcGroupRead (src : Source) (page : PageIdx) (val : Word) (s : State) : Res :=
  .next (s.accessKind src page .bufMgr (F.BUF_MC_CMD.cmd 2 val) (fun p s => s.mcRead p val))

/-! ### PFC (R230-R235) -/

/-- Ingress ports with a lossless class: those whose BUF_PORT_CFG is listed. -/
def State.pfcPorts (s : State) : List Nat :=
  (s.regs.filter (fun kv : Nat × Word => keyKind kv.1 = Kind.port.code && keyOff kv.1 = 0x300)).map (fun kv => keyNum kv.1)

/-- The XOFF condition of an ingress port and class on a die (R231). -/
def State.xoffNow (s : State) (d : Nat) (l : List Copy) (i c : Nat) : Bool :=
  let was := (s.bufOf d).xoff.contains (8 * i + c)
  let a := s.fget (portPg i) F.BUF_PORT_CFG_ALPHA_ING
  let cells := s.ingressCells l i c Copy.shared
  let head := decide (s.ingressCells l i c Copy.hdrm > 0)
  let free := s.sFree d l
  let clears := !head && belowAlpha (cells + s.fget (portPg i) F.BUF_PORT_PFC_XON_DELTA) a free
  s.lossless i c && (head || !belowAlpha cells a free || (was && !clears))

/-- Ports of a die whose pause state an evaluation may change. -/
def State.pfcTouched (s : State) (d : Nat) : List Nat :=
  (s.pfcPorts ++ (s.regs.filter (fun kv : Nat × Word => keyKind kv.1 = Kind.port.code && keyOff kv.1 = 0x30C)).map
    (fun kv : Nat × Word => keyNum kv.1)).eraseDups.filter (fun p => portDie p = d)

/-- R231: a die evaluates its XOFF conditions; those of the other die's ports travel in keel control cells. -/
def execPfcEval (d : Die) (s : State) : Res :=
  s.ifOperates (bufPg d.val) (if !s.dieUp d.val then s else
    let l := s.copies d.val
    let pairs := s.pfcPorts.flatMap (fun i => (List.range 8).map (fun c => (i, c)))
    let old := (s.bufOf d.val).xoff
    let new := (pairs.filter (fun x => s.xoffNow d.val l x.1 x.2)).map (fun x => 8 * x.1 + x.2)
    let s := s.setBuf d.val { s.bufOf d.val with xoff := new }
    let changed := ((old.filter (fun x => !new.contains x)) ++ (new.filter (fun x => !old.contains x))).filter
      (fun x => portDie (x / 8) ≠ d.val)
    let s := if s.apart d.val then s else changed.foldl (fun s x => s.sendCtrl d.val (.pfc (x / 8) (x % 8) (new.contains x))) s
    (s.pfcTouched d.val).foldl (fun s p => s.pfcUpdate p) s)

/-- R232: the PFC frame of a paused class is repeated. -/
def execPfcRefresh (p : Port) (c : Fin 8) (s : State) : Res :=
  s.ifOperates (bufPg (portDie p.val)) (if (s.fget (portPg p.val) F.BUF_PORT_PFC_STATUS_XOFF).testBit c.val ∧ s.portUp p.val then
    s.sendPfc p.val (2 ^ c.val) (fun _ => 0xFFFF) else s)

/-- R233: a PFC frame arrives; a class it does not honour makes it count as ignored. -/
def State.pfcRx (s : State) (p : Port) (enables : BitVec 8) (times : List (BitVec 16)) : State :=
  let pg := portPg p.val
  let en := s.fget pg F.BUF_PORT_CFG_PFC_RX_EN
  (if !s.portUp p.val then s else
    let honoured := (List.range 8).filter (fun c => enables.getLsbD c && en.testBit c)
    let held := honoured.foldl (fun m c => putBits m c c (if (times.getD c 0) ≠ 0 then 1 else 0))
      (s.fget pg F.BUF_PORT_PFC_STATUS_RX_PAUSED)
    let s := s.fset pg F.BUF_PORT_PFC_STATUS_RX_PAUSED held
    let s := if honoured.isEmpty then s else s.cadd pg F.BUF_PFC_RX
    if (List.range 8).any (fun c => enables.getLsbD c && !en.testBit c) then s.cadd pg F.BUF_PAUSE_IGNORED else s)

/-- R233: a received pause time runs out. -/
def State.pauseExpire (s : State) (p : Port) (c : Fin 8) : State :=
  let pg := portPg p.val
  (s.fset pg F.BUF_PORT_PFC_STATUS_RX_PAUSED (putBits (s.fget pg F.BUF_PORT_PFC_STATUS_RX_PAUSED) c.val c.val 0))

/-! ### Cell errors (R248, R249) -/

/-- Retire a bank at its second uncorrectable error within 1 s (R249). -/
def State.bankError (s : State) (d bank : Nat) : State :=
  let b := s.bufOf d
  let now := s.monoNs d
  let again := match b.bankErr.get none bank with | some t => decide (now - t ≤ 1000000000) | none => false
  let s := s.setBuf d { b with
    bankErr := b.bankErr.set none bank (some now),
    gone := if again && !b.gone.contains bank then b.gone ++ [bank] else b.gone }
  if again && !b.gone.contains bank then (s.fsat (bufPg d) F.BUF_BANKS_RETIRED).raise (bufPg d) 10 else s

/-- Errors found as cells are read (R248): true when one was uncorrectable. -/
def State.cellErrors (s : State) (d : Nat) (l : List CellErr) : Bool × State :=
  l.foldl (fun r e =>
    let pg := bufPg d
    if !e.uncorr then (r.1, (r.2.cadd pg F.BUF_ECC_CORRECTED).pmcEvent pg { code := 0x15 })
    else
      let s := r.2.cadd pg F.BUF_ECC_UNCORR
      let s := s.setReg pg F.BUF_ECC_LAST.off (BitVec.ofNat 32 (2 ^ 31 + e.cell.toNat))
      (true, (s.raise pg 9).bankError d (e.cell.toNat / 8192))) (false, s)

end Sys2Proof.Machine
end

