-- ==== Sys2Proof/Machine/Gates.lean ====
section
/-!
DEFINITION. Gate lists, windows and changes, and the verification of MAC Merge (08 R266-R276).
-/
namespace Sys2Proof.Machine

/-! ### Lists and windows (R266-R268, R273) -/

/-- OP, GATES and INTERVAL of a gate-list entry (R266). -/
def gateOp (e : BitVec 64) : Nat := bits e.toNat 49 48
def gateMask (e : BitVec 64) : Nat := bits e.toNat 47 32
def gateInterval (e : BitVec 64) : Nat := bits e.toNat 31 0

/-- Entry `i` of a bank of a port's lists. -/
def State.gateEntry (s : State) (p bank i : Nat) : BitVec 64 := (s.portOf p).gates.get 0 (1024 * bank + i)

/-- A list with its cycle: base and cycle time in ns of network time. -/
structure GateSched where
  base : Nat
  cycle : Nat
  entries : List (BitVec 64)

/-- Nanoseconds of a base time held in three registers. -/
def State.gateBase (s : State) (p : Nat) (ns lo hi : Fld) : Nat :=
  ((s.reg (portPg p) hi.off).toNat * 2 ^ 32 + (s.reg (portPg p) lo.off).toNat) * 1000000000 + s.fget (portPg p) ns

/-- The operational list (R266), and the administrative list as it stands (R272). -/
def State.operList (s : State) (p : Nat) : GateSched :=
  let pg := portPg p
  { base := s.gateBase p F.GATE_OPER_BASE_NS_NS F.GATE_OPER_BASE_SEC_LO F.GATE_OPER_BASE_SEC_HI,
    cycle := s.fget pg F.GATE_OPER_CYCLE_NS,
    entries := (List.range (s.fget pg F.GATE_OPER_LEN_LEN)).map (s.gateEntry p (s.portOf p).operBank) }
def State.adminList (s : State) (p : Nat) : GateSched :=
  let pg := portPg p
  { base := s.gateBase p F.GATE_ADMIN_BASE_NS_NS F.GATE_ADMIN_BASE_SEC_LO F.GATE_ADMIN_BASE_SEC_HI,
    cycle := s.fget pg F.GATE_ADMIN_CYCLE_NS,
    entries := (List.range (min 1024 (s.fget pg F.GATE_ADMIN_LEN_LEN))).map (s.gateEntry p (1 - (s.portOf p).operBank)) }

/-- Entries laid over a span: each for its interval, the last to the end, cut where the span ends (R267). -/
def gateSpan : List (BitVec 64) → Nat → List (Nat × BitVec 64)
  | [], _ => []
  | [e], left => [(left, e)]
  | e :: r, left => if gateInterval e ≥ left then [(left, e)] else (gateInterval e, e) :: gateSpan r (left - gateInterval e)

/-- The entry at a position of a span, and how long it still applies. -/
def spanAt : List (Nat × BitVec 64) → Nat → Option (BitVec 64 × Nat)
  | [], _ => none
  | (n, e) :: r, pos => if pos < n then some (e, n - pos) else spanAt r (pos - n)

/-- Position of an instant in its cycle (R267). -/
def GateSched.pos (g : GateSched) (t : Nat) : Nat := (((t : Int) - g.base) % (max 1 g.cycle : Nat)).toNat

/-- The entry of a list at an instant, and the next boundary. -/
def GateSched.entryAt (g : GateSched) (t : Nat) : Option (BitVec 64 × Nat) :=
  (spanAt (gateSpan g.entries g.cycle) (g.pos t)).map (fun x => (x.1, t + x.2))

/-- The last cycle start of a list before an instant (R273). -/
def GateSched.startBefore (g : GateSched) (t : Nat) : Int := (t : Int) - 1 - g.pos (t - 1)

/-- The entry of the operational list at an instant before the change time `tc`: the last cycle is not started when it
would begin less than GATE_ADMIN_EXT before `tc`, and the one before it is extended (R273). -/
def State.entryBefore (s : State) (p t tc : Nat) : Option (BitVec 64 × Nat) :=
  let g := s.operList p
  let last := g.startBefore tc
  let first := last - g.cycle
  let x := if (tc : Int) - last < s.fget (portPg p) F.GATE_ADMIN_EXT_NS ∧ first ≤ t then
      (spanAt (gateSpan g.entries (tc - first).toNat) (t - first).toNat).map (fun x => (x.1, t + x.2))
    else g.entryAt t
  x.map (fun e => (e.1, min e.2 tc))

/-- The gate entry of a port at an instant in ns, none while every gate is open, and the next boundary (R266, R267). -/
def State.gateAt (s : State) (p t : Nat) : Option (BitVec 64) × Option Nat :=
  let oper := s.flag (portPg p) F.GATE_STATUS_OPER_VALID
  if !s.flag (portPg p) F.GATE_CTRL_EN then (none, none) else
  let x := match (s.portOf p).changeAt with
    | some tc => if t ≥ tc then (s.adminList p).entryAt t
        else if oper then s.entryBefore p t tc
        else none
    | none => if oper then (s.operList p).entryAt t else none
  match x with
  | some (e, n) => (some e, some n)
  | none => (none, (s.portOf p).changeAt.bind (fun tc => if t < tc then some tc else none))

/-- Is the gate of a queue open at an instant? -/
def State.gateOpen (s : State) (p q t : Nat) : Bool :=
  match (s.gateAt p t).1 with
  | some e => (gateMask e).testBit q
  | none => true

/-- When the window of a queue that is open closes; none when no later entry closes it (R268). -/
def State.closeAt (s : State) (p q : Nat) : Nat → Nat → Option Nat
  | 0, _ => none
  | fuel + 1, t =>
    if !s.gateOpen p q t then some t else
    match (s.gateAt p t).2 with
    | some n => State.closeAt s p q fuel n
    | none => none

/-- Boundaries that a window search passes at most. -/
def State.gateFuel (s : State) (p : Nat) : Nat :=
  2 * (s.fget (portPg p) F.GATE_OPER_LEN_LEN + s.fget (portPg p) F.GATE_ADMIN_LEN_LEN) + 8

/-- When the window of a queue that is open at `t` closes (R268). Where every cycle of the operational list holds it open, the search
goes on from the last cycles before a pending change. -/
def State.closeFrom (s : State) (p q t : Nat) : Option Nat :=
  match s.closeAt p q (s.gateFuel p) t with
  | some n => some n
  | none =>
    match (s.portOf p).changeAt with
    | some tc =>
      let g := s.operList p
      if t < tc then s.closeAt p q (s.gateFuel p) (max t (g.startBefore tc - g.cycle).toNat) else none
    | none => none

def State.windowClose (s : State) (p q : Nat) : Option Nat := s.closeFrom p q (s.nowNs (portDie p))

/-- The start of the next entry after `t` that begins a hold (R279). -/
def State.holdFrom (s : State) (p : Nat) : Nat → Nat → Option Nat
  | 0, _ => none
  | fuel + 1, t =>
    match (s.gateAt p t).2 with
    | some n => if (s.gateAt p n).1.any (fun e => decide (gateOp e = 1)) then some n else State.holdFrom s p fuel n
    | none => none

/-- The longest run of open time in a list of spans: `run` is the run in progress. -/
def longestRun (q : Nat) : List (Nat × BitVec 64) → Nat → Nat → Nat
  | [], run, best => max run best
  | (n, e) :: r, run, best =>
    if (gateMask e).testBit q then longestRun q r (run + n) best else longestRun q r 0 (max run best)

/-- GATE_QUEUE_MAXWINq: the longest window of a queue in the operational list. -/
def State.maxWin (s : State) (p q : Nat) : Nat :=
  if !s.flag (portPg p) F.GATE_CTRL_EN || !s.flag (portPg p) F.GATE_STATUS_OPER_VALID then 0xFFFFFFFF else
  let g := s.operList p
  let l := gateSpan g.entries g.cycle
  if l.all (fun x => (gateMask x.2).testBit q) then 0xFFFFFFFF
  else min 0xFFFFFFFE (longestRun q (l ++ l) 0 0)

/-! ### Fitting a frame in a window (R269, R270, R278) -/

/-- GUARD in ns. -/
def State.guardNs (s : State) (p : Nat) : Nat := s.fget (portPg p) F.GATE_GUARD_GUARD

/-- Does a frame of size `len` started now end, GUARD included, at or before `close`? -/
def State.fits (s : State) (p len : Nat) (close : Option Nat) : Bool :=
  match close with
  | none => true
  | some c =>
    let v := s.portSpeed p
    decide (s.full (portDie p) * v + (len + 20) * 8000 * nsUnits + s.guardNs p * nsUnits * v ≤ c * nsUnits * v)

/-- Does T(L) + GUARD exceed the longest window of the queue (R270)? -/
def State.neverFits (s : State) (p q len : Nat) : Bool :=
  let w := s.maxWin p q
  decide (w ≠ 0 ∧ w ≠ 0xFFFFFFFF) &&
  decide ((len + 20) * 8000 + s.guardNs p * s.portSpeed p > w * s.portSpeed p)

/-! ### Changing the list (R272-R274) -/

/-- Refuse a gate write: LAST_ERR, and PAGE_ERR_COUNT of the port page. -/
def State.gateRefuse (s : State) (p why : Nat) : State :=
  (s.fset (portPg p) F.GATE_STATUS_LAST_ERR why).errCount (portPg p)

/-- The first instant base + k × cycle, k ≥ 0, at or after `t`. -/
def firstCycle (base cycle t : Nat) : Nat := if t ≤ base then base else base + (t - base + cycle - 1) / cycle * cycle

/-- The change time of a pending change whose earliest instant is `t` (R272). -/
def State.setChange (s : State) (p t : Nat) : State :=
  let g := s.adminList p
  s.setPort p { s.portOf p with changeAt := some (firstCycle g.base g.cycle t), changeCmp := none }

/-- The error that a CHANGE meets, 0 for none (R274). -/
def State.changeError (s : State) (p : Nat) : Nat :=
  let pg := portPg p
  let len := s.fget pg F.GATE_ADMIN_LEN_LEN
  if s.flag pg F.GATE_STATUS_PENDING then 2
  else if len = 0 ∨ len > 1024 ∨ s.fget pg F.GATE_ADMIN_CYCLE_NS = 0 then 1
  else if s.fget pg F.GATE_ADMIN_BASE_NS_NS ≥ 1000000000 then 4
  else if (s.adminList p).entries.any (fun e => gateInterval e = 0 || gateOp e = 3) then 3
  else 0

/-- CHANGE = 1 on a port: PENDING is set and the change time computed (R272), or the change is refused (R274). -/
def State.gateChange (s : State) (p : Nat) : State :=
  let pg := portPg p
  let why := s.changeError p
  if why ≠ 0 then s.gateRefuse p why else
  let s := s.bset pg F.GATE_STATUS_PENDING true
  if s.flag pg F.GATE_CTRL_CMP_EN then
    s.setPort p { s.portOf p with changeCmp := some (s.fget pg F.GATE_CTRL_CMP), changeAt := none }
  else
    let d := portDie p
    s.setChange p ((s.full d + 2000 * nsUnits + nsUnits - 1) / nsUnits)

/-- R272: a write of GATE_CTRL with CHANGE = 1. -/
def execGateChange (src : Source) (page : PageIdx) (val : Word) (s : State) : Res :=
  .next (s.accessKind src page .port (F.GATE_CTRL.wr (F.GATE_CTRL_CHANGE.put val 1))
    (fun p s => (s.putRw p F.GATE_CTRL.off val).gateChange p.n))

/-- A comparator of a die fires: changes that wait for it take the first cycle start from its target on (R272). -/
def State.cmpGates (s : State) (d n target : Nat) : State :=
  ((s.ports.filter (fun kv => portDie kv.1 = d && kv.2.changeCmp = some n)).map Prod.fst).foldl
    (fun s p => s.setChange p target) s

/-- R273: at the change time the administrative list becomes operational. -/
def execGateChangeApply (p : Port) (s : State) : Res :=
  let pg := portPg p.val
  .next (match (s.portOf p.val).changeAt with
    | none => s
    | some tc =>
      if s.nowNs (portDie p.val) < tc then s else
      let copy (s : State) (a b : Fld) := s.setReg pg b.off (s.reg pg a.off)
      let s := copy s F.GATE_ADMIN_CYCLE F.GATE_OPER_CYCLE
      let s := copy s F.GATE_ADMIN_EXT F.GATE_OPER_EXT
      let s := copy s F.GATE_ADMIN_LEN F.GATE_OPER_LEN
      let s := copy s F.GATE_ADMIN_BASE_NS F.GATE_OPER_BASE_NS
      let s := copy s F.GATE_ADMIN_BASE_SEC_LO F.GATE_OPER_BASE_SEC_LO
      let s := copy s F.GATE_ADMIN_BASE_SEC_HI F.GATE_OPER_BASE_SEC_HI
      let s := (s.bset pg F.GATE_STATUS_PENDING false).bset pg F.GATE_STATUS_OPER_VALID true
      let x := s.portOf p.val
      s.setPort p.val { x with operBank := 1 - x.operBank, changeAt := none, deferred := [] })

/-- Write an entry of the administrative list from the DATA registers. -/
def State.gateListWrite (s : State) (p : Page) (val : Word) : State :=
  let s := s.putRw p F.GATE_LIST_ADDR.off val
  if s.flag p F.GATE_STATUS_PENDING then (s.bset p F.GATE_LIST_ADDR_ERR true).gateRefuse p.n 2 else
  let x := s.portOf p.n
  let e := BitVec.ofNat 64 ((s.reg p F.GATE_LIST_DATA_HI.off).toNat * 2 ^ 32 + (s.reg p F.GATE_LIST_DATA_LO.off).toNat)
  let k := 1024 * (1 - x.operBank).val + F.GATE_LIST_ADDR_INDEX.of val
  (s.setPort p.n { x with gates := x.gates.set 0 k e }).bset p F.GATE_LIST_ADDR_ERR false

/-- R266, R274: GATE_LIST_ADDR.OP = 0b01. -/
def execGateListWriteAdmin (src : Source) (page : PageIdx) (val : Word) (s : State) : Res :=
  .next (s.accessKind src page .port (F.GATE_LIST_ADDR.cmd 1 val) (fun p s => s.gateListWrite p val))

/-- Read an entry of a bank into the DATA registers. -/
def State.gateListRead (s : State) (p : Page) (bank : Nat) (val : Word) : State :=
  let s := s.putRw p F.GATE_LIST_ADDR.off val
  s.setPair p F.GATE_LIST_DATA_LO F.GATE_LIST_DATA_HI (s.gateEntry p.n bank (F.GATE_LIST_ADDR_INDEX.of val)).toNat

/-- R266: GATE_LIST_ADDR.OP = 0b10. -/
def execGateListReadAdmin (src : Source) (page : PageIdx) (val : Word) (s : State) : Res :=
  .next (s.accessKind src page .port (F.GATE_LIST_ADDR.cmd 2 val)
    (fun p s => s.gateListRead p (1 - (s.portOf p.n).operBank).val val))

/-- R266: GATE_LIST_ADDR.OP = 0b11. -/
def execGateListReadOper (src : Source) (page : PageIdx) (val : Word) (s : State) : Res :=
  .next (s.accessKind src page .port (F.GATE_LIST_ADDR.cmd 3 val)
    (fun p s => s.gateListRead p (s.portOf p.n).operBank.val val))

/-! ### MAC Merge verification (R271, R276) -/

/-- Is preemption active on a port? -/
def State.mmActive (s : State) (p : Nat) : Bool := s.flag (portPg p) F.PORT_MM_STATUS_ACTIVE

/-- Send a verify or response frame at the next frame boundary (R271): 60 bytes with the port's source address. -/
def State.sendMerge (s : State) (p : Nat) (response : Bool) : State :=
  s.sendCtl p (.merge p response (List.replicate 6 0 ++ s.portSa p ++ List.replicate 48 0))

/-- Put verification into a state, with preemption active or not. -/
def State.mmSet (s : State) (p verify : Nat) (active : Bool) : State :=
  let pg := portPg p
  let s := (s.fset pg F.PORT_MM_STATUS_VERIFY verify).bset pg F.PORT_MM_STATUS_ACTIVE active
  if active then s else s.bset pg F.PORT_MM_STATUS_HOLD false

/-- Start verification as the configuration and the link ask for it. -/
def State.mmStart (s : State) (p : Nat) : State :=
  let pg := portPg p
  if !s.flag pg F.PORT_MM_CFG_EN then s.mmSet p 0 false
  else if s.portSpeed p > 400000 then s.mmSet p 0 false
  else if s.flag pg F.PORT_MM_CFG_VERIFY_DIS then s.mmSet p 0 true
  else if s.portUp p then ((s.mmSet p 2 false).setPort p { s.portOf p with mmTries := 1 }).sendMerge p false
  else s.mmSet p 1 false

/-- A write of PORT_MM_CFG of a port. -/
def State.mmCfg (s : State) (p : Page) (val : Word) : State :=
  if F.PORT_MM_CFG_EN.of val = 1 ∧ s.portSpeed p.n > 400000 then s.errCount p else
  let old := s.reg p F.PORT_MM_CFG.off
  let s := s.putRw p F.PORT_MM_CFG.off val
  if F.PORT_MM_CFG_EN.of old = F.PORT_MM_CFG_EN.of val ∧ F.PORT_MM_CFG_VERIFY_DIS.of old = F.PORT_MM_CFG_VERIFY_DIS.of val
  then s else s.mmStart p.n

/-- R276: a write of PORT_MM_CFG. -/
def execMmCfgWrite (src : Source) (page : PageIdx) (val : Word) (s : State) : Res :=
  .next (s.accessKind src page .port (F.PORT_MM_CFG.wr val) (fun p s => s.mmCfg p val))

/-- R276: a verify frame arrives and is answered. -/
def execMmVerifyRx (p : Port) (s : State) : Res :=
  .next (if s.portUp p.val ∧ s.portSpeed p.val ≤ 400000 then s.sendMerge p.val true else s)

/-- R276: a response arrives, and verification succeeds. -/
def execMmResponseRx (p : Port) (s : State) : Res :=
  .next (if s.fget (portPg p.val) F.PORT_MM_STATUS_VERIFY = 2 then s.mmSet p.val 3 true else s)

/-- R276: verifyTime passes without a response; after 3 attempts verification fails. -/
def execMmVerifyTimer (p : Port) (s : State) : Res :=
  let x := s.portOf p.val
  .next (if s.fget (portPg p.val) F.PORT_MM_STATUS_VERIFY ≠ 2 then s
    else if x.mmTries < 3 then (s.setPort p.val { x with mmTries := x.mmTries + 1 }).sendMerge p.val false
    else s.mmSet p.val 4 false)

end Sys2Proof.Machine
end

