-- ==== Sys2Proof/Machine/Pipeline.lean ====
section
/-!
DEFINITION. The ingress pass of a frame: the choice of a port, parsing, tenant, the stages or the paddle pass
(01 R30, R32; 04 R110-R114; 05 R144; 15 R459, R470-R472).
-/
namespace Sys2Proof.Machine

/-- The port that the pipeline takes its next frame from: of those with frames waiting, the one that has been served least
in proportion to its speed (R30); of equals, the lowest seat (DESIGN CHOICE: R30 states no order between them). -/
def State.nextPort (s : State) (pl : Nat) : Option Nat :=
  let l := ((List.range 16).map (16 * pl + ·)).filter (fun p => !(s.portOf p).entry.isEmpty)
  l.foldl (fun b p => match b with
    | none => some p
    | some q => if (s.portOf p).served < (s.portOf q).served then some p else some q) none

/-- The cost of a frame on its port: frames are taken in proportion to the configured speeds (R30). -/
def State.serveCost (s : State) (p : Nat) : Nat := 1600000 / max 1 (s.confSpeed p)

/-- Take the frame at the head of a port's entry buffer (R30, R32). -/
def State.takeEntry (s : State) (p uid : Nat) : State :=
  let x := s.portOf p
  (s.setPort p { x with entry := x.entry.filter (· ≠ uid), served := x.served + s.serveCost p }).entryPfc p

/-- A parity error in frame bytes is handled as an FCS mismatch (R459). -/
def Frm.dataParity (f : Frm) (b : Bool) : Frm :=
  if b && f.rxDrop ≠ dOversize then { f with rxDrop := dFcs } else f

/-- The counters of a frame that is given its tenant (R348, R357, R360). -/
def State.countIn (s : State) (sl : Nat) (f : Frm) : State :=
  let d := sliceDie sl
  let s := (s.acctAdd d f 0 1).acctAdd d f 1 f.size
  let a := s.acctOf d
  let s := s.setAcct d { a with epochIn := a.epochIn.upd 0 f.tenant (· + f.size) }
  (s.pmcEvent (slicePg sl) (pipeEvent f 2 1)).pmcEvent (slicePg sl) (pipeEvent f 3 f.size)

/-- Energy of an ingress pass, of the bytes received, and of inline MACsec (R356). -/
def State.chargeIn (s : State) (d : Nat) (f : Frm) : Frm × State :=
  let (f, s) := s.charge d f 0 1
  let (f, s) := s.charge d f 1 f.size
  if f.macsec then s.charge d f 11 f.size else (f, s)

/-- Parse a frame and give it its tenant (R104, R113, R459): the frame, and whether the tenant lookup asks for a drop. -/
def State.parseFrm (s : State) (sl : Nat) (f : Frm) (u : Upsets) : Frm × Bool × State :=
  let d := sliceDie sl
  let s := s.markBad sl u.bad
  let s := if u.entry then s.integrity d 0 else s
  let s := if u.busData then s.integrity d 1 else s
  let f := f.dataParity (u.entry || u.busData)
  let ((hdrs, flag), s) := s.parse sl f.bytes
  let (tenant, drop, s) := s.assignTenant sl f.port f.bytes hdrs
  let s := match flag with
    | some .depth => s.cadd (slicePg sl) F.PRS_PARSE_DEPTH_FRAMES
    | some .len => s.cadd (slicePg sl) F.PRS_LEN_CONFLICT_FRAMES
    | none => s
  let f := { f with known := true, tenant := tenant, hdrs := hdrs, flag := flag, paddle := s.inPaddle sl }
  let f := { f with throttled := s.throttled sl }
  let f := if f.paddle then { f with path := f.path ||| pPaddle } else f
  let s := s.countIn sl f
  let (f, s) := s.chargeIn d f
  let s := if u.busMeta || u.busTenant then s.integrity d 2 else s
  let f := if u.busTenant then { f with tenant := s.fget (portPg f.port) F.PRS_PORT_CFG_TENANT } else f
  ({ f with parity := u.busMeta || u.busTenant }, drop, s)

/-- The action of a port's parse profile for a flag, and its host-bound queue (R110). Action 0b11 acts as FORWARD (DESIGN CHOICE: the
spec gives it no meaning). -/
def State.profileAction (s : State) (sl : Nat) (f : Frm) : Nat × Nat :=
  let n := s.fget (portPg f.port) F.PRS_PORT_CFG_PROFILE
  let a := match f.flag with
    | some .depth => s.fget (slicePg sl) F.PRS_PROFILE_DEPTH_ACTION n
    | some .len => s.fget (slicePg sl) F.PRS_PROFILE_LEN_ACTION n
    | none => 0
  (a, s.fget (slicePg sl) F.PRS_PROFILE_PUNT_QUEUE n)

/-- The PCP of the outermost VLAN tag, or 0 (R230). -/
def Frm.pcp (f : Frm) : Nat :=
  match firstHdr f.hdrs (· = hVlan) with
  | some o => num f.bytes o 2 / 8192
  | none => 0

/-- The router MAC of a slice's paddle pass. -/
def State.paddleMac (s : State) (sl : Nat) : Nat :=
  s.fget (slicePg sl) F.SLICE_PADDLE_RMAC_HI_MAC * 2 ^ 32 + s.fget (slicePg sl) F.SLICE_PADDLE_RMAC_LO_MAC

/-- The paddle ingress pass up to resolution (R471). -/
def State.paddlePass (s : State) (sl : Nat) (f : Frm) : Frm × State :=
  let pg := portPg f.port
  let f := { f with tc := f.pcp, bdvrf := s.fget pg F.PORT_PADDLE_CFG_BD_VRF }
  let dmac := (firstHdr f.hdrs (· = hEth)).map (fun o => num f.bytes o 6)
  let routed := s.flag (slicePg sl) F.SLICE_PADDLE_RMAC_HI_EN && decide (dmac = some (s.paddleMac sl)) &&
    f.hdrs.any (fun x => isIp x.1)
  let look (s : State) (sel : Nat) : Option Nat × State :=
    match emKey f sel with
    | some k => s.emFrame sl f k
    | none => (none, s)
  let (f', s) :=
    if routed then
      match look s 3 with
      | (some e, s) => (applyEntry e f, s)
      | (none, s) =>
        let v6 := (lpmAddr f 3 true).isSome
        match s.lpmFrame sl f v6 ((lpmAddr f 3 v6).getD 0) with
        | (some r, s) => (if (lpmDest r).1 = 3 then f else { f with dest := some (lpmDest r) }, s)
        | (none, s) => (f, s)
    else
      match look s 0 with
      | (some e, s) => (applyEntry e f, s)
      | (none, s) =>
        (if s.flag pg F.PORT_PADDLE_CFG_FLOOD_EN then { f with dest := some (1, s.fget pg F.PORT_PADDLE_CFG_FLOOD_NH) } else f, s)
  let (hit, s) := look s 1
  let (x, s) := s.learnStage 0 hit { f := f' }
  (x.f, s)

/-- The rest of an ingress pass after parsing (R110, R114, R144, R320, R366, R367, R471). A PTP message for PUNT_QUEUE and a MACsec
bypass frame are delivered there whatever the parse profile's action is (DESIGN CHOICE: the spec gives the two no order). -/
def State.ingressPass (s : State) (sl uid : Nat) (f : Frm) (miss : Bool) (u : Upsets) : State :=
  let (act, q) := s.profileAction sl f
  let f := if f.flag.isSome && act == 0 then { f with path := f.path ||| pParse } else f
  let s := s.setFrm uid f
  let why := match f.flag with | some .depth => dDepth | _ => dLen
  let punt (s : State) (q src : Nat) := (s.setFrm uid { f with target := some (.host q), source := src }).toAdmit f.die uid
  if f.rxDrop = dRunt ∨ f.rejected then s.dropEarly uid f.rxDrop
  else if miss then s.dropEarly uid dIsolation
  else match f.divert with
    | some (q, src) => punt s q src
    | none =>
      if f.flag.isSome && act == 1 then s.dropEarly uid why
      else if f.flag.isSome && act == 2 then punt s q 0
      else if f.paddle then
        let (f, s) := s.paddlePass sl f
        let (f, s) := s.resolve sl f
        (s.setFrm uid f).guard sl uid u
      else
        let (f, s) := s.runStages sl false u.tcam f
        (s.setFrm uid f).atDispatch sl uid u

/-- R30: an ingress pipeline that does not stall takes a frame and runs it. -/
def execPipelineEntry (pl : Pipe) (u : Upsets) (s : State) : Res :=
  let sl := pl.val / 4
  s.ifOperates (slicePg sl) (if !s.sliceRuns sl || !(s.stalls.get [] pl.val).isEmpty then s else
    match s.nextPort pl.val with
    | none => s
    | some p =>
      match (s.portOf p).entry with
      | [] => s
      | uid :: _ =>
        match s.frm uid with
        | none => s.setPort p { s.portOf p with entry := (s.portOf p).entry.drop 1 }
        | some f =>
          let s := s.takeEntry p uid
          let (f, miss, s) := s.parseFrm sl f u
          s.ingressPass sl uid f miss u)

end Sys2Proof.Machine
end

