-- ==== Sys2Proof/Machine/Egress.lean ====
section
/-!
DEFINITION. What the egress pass writes into a copy: next-hop rewrite, ECN, IOAM and PTP, and inline MACsec on transmit
(05 R158, R541; 07 R236; 10 R319-R322; 11 R346-R347; 12 R364-R372; 15 R462-R464, R471).
-/
namespace Sys2Proof.Machine

/-! ### Checksums -/

/-- Fold a sum into 16 bits with end-around carry. -/
def fold16 (n : Nat) : Nat := let a := n % 65536 + n / 65536; a % 65536 + a / 65536

/-- A checksum after words summing to `old` have become words summing to `new`, updated incrementally. -/
def updChecksum (sum old new : Nat) : Nat := 65535 - fold16 ((65535 - sum) + (65535 - fold16 old) + fold16 new)

/-- Sum of the 16-bit words of a list of bytes. -/
def sumWords (l : List Byte) : Nat := inetSum l

/-- Replace header bytes of an IPv4 header at `o`, at an even distance into it, and update its checksum incrementally. -/
def patchV4 (f : List Byte) (o rel : Nat) (new : List Byte) : List Byte :=
  let sum := updChecksum (num f (o + 10) 2) (sumWords (slice f (o + rel) new.length)) (sumWords new)
  patch (patch f (o + rel) new) (o + 10) (beBytes 2 sum)

/-! ### Next-hop rewrite (R541) and the paddle rewrite (R471) -/

/-- Bytes before the outermost VLAN tag of a frame. -/
def vlanAt : Nat := 12

/-- Has a frame a VLAN tag directly after its source address? -/
def hasVlan (f : Frm) : Bool :=
  match f.hdrs with
  | (a, _) :: (b, _) :: _ => a = hEth && b = hVlan
  | _ => false

/-- Move the recorded header offsets after an insertion or removal of 4 bytes at the tag. -/
def shiftHdrs (h : List Hdr) (up : Bool) : List Hdr :=
  h.map (fun x => if x.2 = 0 then x else (x.1, if up then x.2 + 4 else x.2 - 4))

/-- VLAN_OP on a frame of traffic class `tc`: true when it changes the frame. -/
def vlanOp (op vid tc : Nat) (f : Frm) : Frm × Bool :=
  let push : Frm := { f with
    bytes := f.bytes.take vlanAt ++ beBytes 2 0x8100 ++ beBytes 2 (tc * 8192 + vid) ++ f.bytes.drop vlanAt,
    hdrs := shiftHdrs f.hdrs true }
  match op with
  | 1 => if hasVlan f then ({ f with bytes := patch f.bytes 14 (beBytes 2 (num f.bytes 14 2 / 4096 * 4096 + vid)) }, true)
         else (push, true)
  | 2 => (push, true)
  | 3 => if hasVlan f then ({ f with bytes := f.bytes.take vlanAt ++ f.bytes.drop 16, hdrs := shiftHdrs f.hdrs false }, true)
         else (f, false)
  | _ => (f, false)

/-- Lower the TTL or Hop Limit of the IP header after the Ethernet header and its tags. -/
def ttlDecrement (f : Frm) : Frm × Bool :=
  match ttlHdr f with
  | some x =>
    if x.1 = hV4 then
      ({ f with bytes := patchV4 f.bytes x.2 8 [BitVec.ofNat 8 (num f.bytes (x.2 + 8) 1 - 1), byteOf (num f.bytes (x.2 + 9) 1) 0] }, true)
    else ({ f with bytes := patch f.bytes (x.2 + 7) [BitVec.ofNat 8 (num f.bytes (x.2 + 7) 1 - 1)] }, true)
  | none => (f, false)

/-- The rewrite fields of a next hop on a copy. -/
def hopRewrite (e : BitVec 128) (tc : Nat) (f : Frm) : Frm × Bool :=
  let w := e.toNat
  let f := { f with bytes := patch f.bytes 0 (beBytes 6 (bits w 83 36)) }
  let f := (vlanOp (bits w 23 22) (bits w 35 24) tc f).1
  (if bits w 21 20 = 1 then (ttlDecrement f).1 else f, true)

/-- The router MAC that a paddle egress pass writes as source address for a routed UNICAST frame (R471). -/
def State.paddleSmac (s : State) (p : Nat) (e : BitVec 128) (f : Frm) : Frm :=
  if s.inPaddle (portSlice p) && bits e.toNat 126 125 == 0 && bits e.toNat 21 20 == 1 then
    { f with bytes := patch f.bytes 6 (beBytes 6 (s.paddleMac (portSlice p))) }
  else f

/-! ### ECN (R236) -/

/-- Set the outermost ECN field to CE. -/
def markCe (f : Frm) : Frm :=
  match fromFirst f.hdrs isIp with
  | x :: _ =>
    if x.1 = hV4 then
      let b := num f.bytes (x.2 + 1) 1
      { f with bytes := patchV4 f.bytes x.2 0 [byteOf (num f.bytes x.2 1) 0, BitVec.ofNat 8 (b / 4 * 4 + 3)] }
    else
      let b := num f.bytes (x.2 + 1) 1
      { f with bytes := patch f.bytes (x.2 + 1) [BitVec.ofNat 8 (b / 64 * 64 + 48 + b % 16)] }
  | [] => f

/-! ### IOAM (R346, R347) -/

/-- What the trace data of a copy are taken from. -/
structure IoamCtx where
  hop : Nat
  node : Nat
  inPort : Nat
  outPort : Nat
  sec : Nat
  ns : Nat
  residence : Nat
  data : Nat
  depth : Nat
  used : Nat

/-- Node data of one trace-type bit (R347); a bit with no row is left zero. -/
def IoamCtx.field (x : IoamCtx) : Nat → List Byte
  | 0 => beBytes 1 x.hop ++ beBytes 3 x.node
  | 1 => beBytes 2 x.inPort ++ beBytes 2 x.outPort
  | 2 => beBytes 4 x.sec
  | 3 => beBytes 4 x.ns
  | 4 => beBytes 4 (if x.residence > 0x7FFFFFFF then 0x80000000 else x.residence)
  | 5 => beBytes 4 x.data
  | 6 => beBytes 4 x.depth
  | 8 => beBytes 1 x.hop ++ beBytes 7 x.node
  | 9 => beBytes 4 x.inPort ++ beBytes 4 x.outPort
  | 10 => beBytes 4 0 ++ beBytes 4 x.data
  | 11 => beBytes 4 x.used
  | _ => beBytes 4 0

/-- Node data of a trace type of 24 bits, bit 0 most significant. -/
def IoamCtx.nodeData (x : IoamCtx) (type : Nat) : List Byte :=
  ((List.range 22).filter (fun i => type.testBit (23 - i))).flatMap x.field

/-- Lengths in bytes of the hop-by-hop header, payload and option grow by `n` after an insertion. -/
def growHbh (f : List Byte) (ip opt n : Nat) (optGrow : Nat) : List Byte :=
  let f := patch f (ip + 4) (beBytes 2 (num f (ip + 4) 2 + n))
  let f := patch f (ip + 41) (beBytes 1 (num f (ip + 41) 1 + n / 8))
  patch f (opt + 1) (beBytes 1 (num f (opt + 1) 1 + optGrow))

/-- A trace option at `opt` (R347): node data are written into the space preallocated, or inserted, or Overflow is set. A
hop-by-hop header that would not stay a multiple of 8 bytes gets a PadN of 4 bytes at its end. True when it overflows. -/
def traceOption (x : IoamCtx) (f : List Byte) (ip opt : Nat) (incremental : Bool) : List Byte × Bool :=
  let h := opt + 4
  let w := num f (h + 2) 2
  let nodeLen := w / 2048
  let left := w % 128
  let type := num f (h + 4) 3
  if left < nodeLen ∨ type.testBit 16 ∨ type.testBit 1 then (patch f (h + 2) (beBytes 2 (w ||| 1024)), true) else
  let d := ((x.nodeData type) ++ List.replicate (4 * nodeLen) 0).take (4 * nodeLen)
  let f := patch f (h + 2) (beBytes 2 (w - nodeLen))
  if !incremental then (patch f (h + 8 + 4 * (left - nodeLen)) d, false)
  else
    let pad : List Byte := if nodeLen % 2 = 1 then [1, 2, 0, 0] else []
    let hbhEnd := ip + 40 + 8 * (num f (ip + 41) 1 + 1)
    let g := f.take (h + 8) ++ d ++ slice f (h + 8) (hbhEnd - (h + 8)) ++ pad ++ f.drop hbhEnd
    (growHbh g ip opt (d.length + pad.length) d.length, false)

/-- A Proof of Transit option of type 0 at `opt`: Cumulative gains (share + PktID) × coefficient modulo the prime. -/
def potOption (f : List Byte) (opt share lpc prime : Nat) : List Byte :=
  let h := opt + 4
  let cum := num f (h + 12) 8
  let pkt := num f (h + 4) 8
  patch f (h + 12) (beBytes 8 (if prime = 0 then (Config.potNoPrime cum pkt share lpc).toNat
    else (cum + (share + pkt) * lpc) % prime))

/-- Offsets of the options of a hop-by-hop header between `o` and `stop`. -/
def hbhOptions (f : List Byte) (stop : Nat) : Nat → Nat → List Nat
  | 0, _ => []
  | fuel + 1, o =>
    if o ≥ stop then []
    else if num f o 1 = 0 then hbhOptions f stop fuel (o + 1)
    else o :: hbhOptions f stop fuel (o + 2 + num f (o + 1) 1)

/-- The namespace block that holds an identifier with EN = 1. -/
def State.ioamNs (s : State) (d id : Nat) : Option Nat :=
  (List.range 4).find? (fun n => s.flag (telPg d) F.TEL_IOAM_NS_EN n && s.fget (telPg d) F.TEL_IOAM_NS_NAMESPACE_ID n = id)

/-- The 64-bit value of a register pair of a namespace block. -/
def State.potValue (s : State) (d n : Nat) (lo hi : Fld) : Nat :=
  (s.reg (telPg d) (hi.at n)).toNat * 2 ^ 32 + (s.reg (telPg d) (lo.at n)).toNat

/-- Act on one IOAM option (R346): the frame, and none where it is left as it is, else whether it overflowed. -/
def State.ioamOption (s : State) (d : Nat) (x : IoamCtx) (ip opt : Nat) (f : List Byte) : List Byte × Option Bool :=
  let trace (i : Bool) (x : IoamCtx) := let r := traceOption x f ip opt i; (r.1, some r.2)
  if num f opt 1 % 32 ≠ 0x11 then (f, none) else
  match s.ioamNs d (num f (opt + 4) 2) with
  | none => (f, none)
  | some n =>
    let raw := (s.reg (telPg d) (F.TEL_IOAM_DATA.at n)).toNat
    let x := { x with data := putBits raw 31 31 x.data }
    match num f (opt + 3) 1 with
    | 0 => trace false x
    | 1 => trace true x
    | 2 =>
      let prime := s.potValue d n F.TEL_IOAM_POT_PRIME_LO F.TEL_IOAM_POT_PRIME_HI
      if s.flag (telPg d) F.TEL_IOAM_NS_POT_EN n ∧ num f (opt + 6) 1 = 0 then
        (potOption f opt (s.potValue d n F.TEL_IOAM_POT_SHARE_LO F.TEL_IOAM_POT_SHARE_HI)
          (s.potValue d n F.TEL_IOAM_POT_LPC_LO F.TEL_IOAM_POT_LPC_HI) prime, some false)
      else (f, none)
    | _ => (f, none)

/-- IOAM processing of a copy (R346), on the IPv6 hop-by-hop options of the outermost IP header: the frame, the options
updated and the options that overflowed. -/
def State.ioam (s : State) (d : Nat) (x : IoamCtx) (f : Frm) : Frm × Nat × Nat :=
  match ttlHdr f with
  | some (t, ip) =>
    if t = hV6 ∧ num f.bytes (ip + 6) 1 = 0 ∧ s.flag (telPg d) F.TEL_CTRL_IOAM_EN then
      let stop := ip + 40 + 8 * (num f.bytes (ip + 41) 1 + 1)
      let opts := hbhOptions f.bytes stop 256 (ip + 42)
      let r := opts.reverse.foldl (fun (r : List Byte × Nat × Nat) o =>
        match s.ioamOption d x ip o r.1 with
        | (b, some true) => (b, r.2.1, r.2.2 + 1)
        | (b, some false) => (b, r.2.1 + 1, r.2.2)
        | (b, none) => (b, r.2)) (f.bytes, 0, 0)
      ({ f with bytes := r.1 }, r.2)
    else (f, 0, 0)
  | none => (f, 0, 0)

/-! ### PTP messages (R319-R322) -/

/-- messageType of a message. -/
def PtpMsg.type (m : PtpMsg) (f : List Byte) : Nat := num f m.off 1 % 16

/-- Find a PTP message in a frame, by the carriages that are enabled (R319). -/
def ptpFind (l2 udp4 udp6 : Bool) (f : List Byte) : Option PtpMsg :=
  let tag (o : Nat) : Bool := num f o 2 = 0x8100 || num f o 2 = 0x88A8
  let o := if tag 12 then (if tag 16 then 20 else 16) else 12
  let udp (at_ : Nat) : Option PtpMsg :=
    let m : PtpMsg := { off := at_ + 8, udp := some at_ }
    let port := num f (at_ + 2) 2
    if (port = 319 ∧ m.type f ≤ 3) ∨ (port = 320 ∧ 8 ≤ m.type f ∧ m.type f ≤ 0xD) then some m else none
  let m := match num f o 2 with
    | 0x88F7 => if l2 then
        let m : PtpMsg := { off := o + 2, udp := none }
        if m.type f ≤ 3 ∨ (8 ≤ m.type f ∧ m.type f ≤ 0xD) then some m else none
      else none
    | 0x0800 => if udp4 ∧ num f (o + 11) 1 = 17 ∧ num f (o + 8) 2 % 8192 = 0 then udp (o + 2 + 4 * (num f (o + 2) 1 % 16)) else none
    | 0x86DD => if udp6 ∧ num f (o + 8) 1 = 17 then udp (o + 42) else none
    | _ => none
  m.filter (fun m => decide (m.off + 34 ≤ f.length))

/-- Is a message an event message? -/
def PtpMsg.event (m : PtpMsg) (f : List Byte) : Bool := decide (m.type f ≤ 3)

/-- Replace bytes of a message at an even distance, updating a UDP checksum that is not zero incrementally (R322). -/
def PtpMsg.write (m : PtpMsg) (f : List Byte) (rel : Nat) (new : List Byte) : List Byte :=
  let g := patch f (m.off + rel) new
  match m.udp with
  | none => g
  | some u =>
    let old := num f (u + 6) 2
    if old = 0 then g else
    let sum := updChecksum old (sumWords (slice f (m.off + rel) new.length)) (sumWords new)
    patch g (u + 6) (beBytes 2 (if sum = 0 then 0xFFFF else sum))

/-- Add to correctionField, in 2^-16 ns. -/
def PtpMsg.correct (m : PtpMsg) (f : List Byte) (n : Nat) : List Byte :=
  m.write f 8 (beBytes 8 ((num f (m.off + 8) 8 + n) % 2 ^ 64))

/-- Is PTP recognised on a port, and the message in a frame (R319)? -/
def State.ptpOf (s : State) (p : Nat) (f : List Byte) : Option PtpMsg :=
  let pg := portPg p
  ptpFind (s.flag pg F.TIME_PORT_PTP_CFG_L2) (s.flag pg F.TIME_PORT_PTP_CFG_UDP4) (s.flag pg F.TIME_PORT_PTP_CFG_UDP6) f

/-- What PTP writes into a copy (R320, R321), at the place where the message was found on receipt: the frame, and whether it was changed. `full` is the egress time in 2^-16 ns. -/
def State.ptpWrite (s : State) (f : Frm) (out : DWord) (full : Nat) : Frm × Bool :=
  if f.oneStep then
    match ptpFind true true true f.bytes with
    | none => (f, false)
    | some m =>
      let ns := full / nsUnits
      let b := m.write f.bytes 34 (beBytes 6 (ns / 1000000000) ++ beBytes 4 (ns % 1000000000))
      ({ f with bytes := m.correct b (full % nsUnits) }, true)
  else match f.ptp with
    | some (m, pdelay) =>
      let res := (out - f.stamp).toNat
      let more := if pdelay ∧ m.type f.bytes = 0 then (s.reg (portPg f.port) F.TIME_PORT_PDELAY.off).toNat else 0
      ({ f with bytes := m.correct f.bytes (res + more) }, true)
    | none => (f, false)

/-! ### The rewrite as a whole -/

/-- The IOAM context of a copy that leaves port `p` at stamp `out`. -/
def State.ioamCtx (s : State) (p : Nat) (f : Frm) (c : Copy) (out : DWord) : IoamCtx :=
  let d := portDie p
  let t := ((s.full d : Int) - stampDiff (s.stamp d) f.stamp).toNat / nsUnits
  let throttle := s.flag (coxPg d) F.COX_NOTICE_IOAM && (f.throttled || s.throttled (portSlice p))
  { hop := match ttlHdr f with | some x => ipTtl f.bytes x | none => 0,
    node := (s.reg (telPg d) F.TEL_IOAM_NODE_HI.off).toNat * 2 ^ 24 + s.fget (telPg d) F.TEL_IOAM_NODE_ID,
    inPort := if f.kind = .injected then 0 else f.port, outPort := p, sec := t / 1000000000, ns := t % 1000000000,
    residence := (out - f.stamp).toNat / nsUnits, data := throttle.toNat, depth := c.depth.getD 0,
    used := sharedUsed (s.copies d) }

/-- What the egress pass wrote into a copy: whether PTP wrote, and IOAM options updated and overflowed. -/
structure Wrote where
  ptp : Bool
  updated : Nat
  overflow : Nat

/-- The PTP message of a frame that has grown from `old` bytes by a rewrite of its VLAN tags, which stand before it. -/
def Frm.movePtp (f : Frm) (old : Nat) : Frm :=
  let at_ (o : Nat) : Nat := o + f.bytes.length - old
  { f with ptp := f.ptp.map (fun x => ({ off := at_ x.1.off, udp := x.1.udp.map at_ }, x.2)) }

/-- Everything the egress pass writes into a copy after its stages (R541, R236, R347, R322). -/
def State.rewrite (s : State) (p : Nat) (f : Frm) (c : Copy) (out : DWord) (full : Nat) : Frm × Wrote :=
  let f := match f.nexthop with
    | some e => s.paddleSmac p e { (hopRewrite e f.tc f).1.movePtp f.bytes.length with modified := true }
    | none => f
  let f := if c.ecn then { markCe f with modified := true } else f
  let (f, up, ovf) := s.ioam (portDie p) (s.ioamCtx p f c out) f
  let (f, ptp) := s.ptpWrite f out full
  ({ f with modified := f.modified || decide (up + ovf > 0) || ptp }, { ptp := ptp, updated := up, overflow := ovf })

/-- Growth of a frame by inline MACsec on a port (R370). -/
def State.msecGrowth (s : State) (p : Nat) : Nat :=
  if !s.msecTx p then 0 else if s.flag (msecPg (p / 8)) F.MSEC_CFG_TX_SCI (p % 8) then 32 else 24

/-- Size of a copy as it will be transmitted (R269, R347, R372). -/
def State.sentSize (s : State) (p : Nat) (f : Frm) (c : Copy) : Nat :=
  (s.rewrite p f c (s.stamp (portDie p)) (s.full (portDie p))).1.bytes.length + 4 + s.msecGrowth p

/-! ### Inline MACsec on transmit (R370, R371) -/

def State.msecOf (s : State) (p : Nat) : MsecSt := s.msecs.get {} p
def State.setMsec (s : State) (p : Nat) (m : MsecSt) : State := { s with msecs := s.msecs.set {} p m }

/-- A transmit SA. -/
def State.txSa (s : State) (p an : Nat) : BitVec 128 := (s.msecOf p).tbl.get 0 (0x200 + an)

/-- Fields of an SA. -/
def saInUse (e : BitVec 128) : Bool := e.getLsbD 127
def saSlot (e : BitVec 128) : Nat := bits e.toNat 126 115
def saPn (e : BitVec 128) : Nat := bits e.toNat 63 0
def saSetPn (e : BitVec 128) (pn : Nat) : BitVec 128 := BitVec.ofNat 128 (putBits e.toNat 63 0 pn)

def State.msecField (s : State) (p : Nat) (f : Fld) : Nat := s.fget (msecPg (p / 8)) f (p % 8)
def State.msecXpn (s : State) (p : Nat) : Bool := decide (s.msecField p F.MSEC_CFG_SUITE ≥ 2)
def State.msec256 (s : State) (p : Nat) : Bool := decide (s.msecField p F.MSEC_CFG_SUITE % 2 = 1)

/-- Is an SA in use with a valid slot? -/
def State.saUsable (s : State) (p : Nat) (e : BitVec 128) : Bool :=
  saInUse e && (s.keySlot (portDie p) (saSlot e)).valid

/-- Would the next frame of an SA take a PN above the suite's maximum? A NEXT_PN of an XPN suite that has wrapped reads 0. -/
def State.pnSpent (s : State) (p : Nat) (e : BitVec 128) : Bool :=
  if s.msecXpn p then decide (saPn e = 0) else decide (saPn e > 0xFFFFFFFF)

/-- The confidentiality offset in bytes; of the reserved code, 50. -/
def State.confOffset (s : State) (p : Nat) : Nat :=
  match s.msecField p F.MSEC_CFG_CONF_OFFSET with
  | 0 => 0
  | 1 => 30
  | _ => 50

/-- The key bytes of a slot for the port's suite (R373). -/
def State.msecKey (s : State) (p : Nat) (k : KeySlot) : List Byte :=
  if s.msec256 p then beBytes 32 k.key.toNat else beBytes 16 (k.key.toNat % 2 ^ 128)

/-- The IV of a frame: SCI and PN, or with XPN the salt XOR {SSCI, PN} (IEEE 802.1AE). -/
def State.msecIv (s : State) (p : Nat) (k : KeySlot) (sci pn : Nat) : List Byte :=
  if s.msecXpn p then beBytes 12 (k.salt.toNat ^^^ (k.ssci.toNat * 2 ^ 64 + pn))
  else beBytes 12 (sci * 2 ^ 32 + pn % 2 ^ 32)

/-- MSEC_TX_SCI. -/
def State.txSci (s : State) (p : Nat) : Nat :=
  (s.reg (msecPg (p / 8)) (F.MSEC_TX_SCI_HI.at (p % 8))).toNat * 2 ^ 32 + (s.reg (msecPg (p / 8)) (F.MSEC_TX_SCI_LO.at (p % 8))).toNat

/-- The SecTAG of R370 for `n` bytes of protected data. -/
def State.secTag (s : State) (p an pn n : Nat) : List Byte :=
  let g (f : Fld) := s.msecField p f
  let conf := g F.MSEC_CFG_TX_CONF
  let sc := g F.MSEC_CFG_TX_SCI
  let tci := g F.MSEC_CFG_TX_ES * 64 + sc * 32 + g F.MSEC_CFG_TX_SCB * 16 + conf * 8 + conf * 4 + an
  beBytes 2 0x88E5 ++ beBytes 1 tci ++ beBytes 1 (if n < 48 then n else 0) ++ beBytes 4 pn ++
  (if sc = 1 then beBytes 8 (s.txSci p) else [])

/-- Protect bytes under a transmit SA: addresses, SecTAG, secure data and ICV. -/
def State.protectBytes (s : State) (p an : Nat) (e : BitVec 128) (b : List Byte) : List Byte :=
  let k := s.keySlot (portDie p) (saSlot e)
  let addrs := b.take 12
  let data := b.drop 12
  let tag := s.secTag p an (saPn e) data.length
  let clear := if s.msecField p F.MSEC_CFG_TX_CONF = 1 then s.confOffset p else data.length
  let r := gcmSeal (s.msecKey p k) (s.msecIv p k (s.txSci p) (saPn e)) (addrs ++ tag ++ data.take clear) (data.drop clear)
  addrs ++ tag ++ data.take clear ++ r.1 ++ r.2

/-- MSEC_STATUS.HOLD of a port. -/
def State.msecHold (s : State) (p : Nat) (b : Bool) : State :=
  let pg := msecPg (p / 8)
  s.fset pg F.MSEC_STATUS_HOLD (putBits (s.fget pg F.MSEC_STATUS_HOLD) (p % 8) (p % 8) b.toNat)

/-- Settle the transmit SA for a frame start (R371): its AN, none in hold. -/
def State.settleSa (s : State) (p : Nat) : Option Nat × State :=
  let pg := msecPg (p / 8)
  let an := s.msecField p F.MSEC_CFG_ENCODING_AN
  let e := s.txSa p an
  let hold (s : State) : Option Nat × State :=
    if bit (s.fget pg F.MSEC_STATUS_HOLD) (p % 8) then (none, s) else (none, (s.msecHold p true).raise pg 9)
  if !s.saUsable p e then hold s
  else if !s.pnSpent p e then (some an, s.msecHold p false)
  else
    let nx := s.msecField p F.MSEC_CFG_NEXT_AN
    let e2 := s.txSa p nx
    if s.msecField p F.MSEC_CFG_AUTO_NEXT = 1 ∧ saInUse e2 then
      let s := s.fset pg F.MSEC_CFG_ENCODING_AN nx (p % 8)
      if s.saUsable p e2 && !s.pnSpent p e2 then (some nx, s.msecHold p false) else hold s
    else hold s

/-- MSEC_PN_THRESH, as far as the suite compares it. -/
def State.pnThresh (s : State) (p : Nat) : Nat :=
  let pg := msecPg (p / 8)
  let lo := (s.reg pg F.MSEC_PN_THRESH_LO.off).toNat
  if s.msecXpn p then (s.reg pg F.MSEC_PN_THRESH_HI.off).toNat * 2 ^ 32 + lo else lo

/-- Protect a frame under the SA of `an` (R370): its NEXT_PN moves on, and an operation is in flight on its slot. -/
def State.protect (s : State) (p an : Nat) (b : List Byte) : List Byte × (Nat × BitVec 16) × State :=
  let pg := msecPg (p / 8)
  let d := portDie p
  let e := s.txSa p an
  let slot := saSlot e
  let out := s.protectBytes p an e b
  let next := (saPn e + 1) % 2 ^ 64
  let m := s.msecOf p
  let s := s.setMsec p { m with tbl := m.tbl.set 0 (0x200 + an) (saSetPn e next) }
  let t := s.pnThresh p
  let s := s.raiseIf (decide (saPn e ≤ t ∧ t < next)) pg 8
  let s := s.cadd pg (if s.msecField p F.MSEC_CFG_TX_CONF = 1 then F.MSEC_OUT_ENCRYPTED else F.MSEC_OUT_PROTECTED) 1 (p % 8)
  let s := s.cadd pg F.MSEC_OUT_OCTETS (b.length + 4) (p % 8)
  (out, (slot, (s.keySlot d slot).gen), s.beginKey d slot)

end Sys2Proof.Machine
end

