-- ==== Sys2Proof/Machine/Sched.lean ====
section
/-!
DEFINITION. The scheduler: what may start, priorities and deficit round robin, shapers with their wheel, policer
configuration, and the sampling of queues (08 R253-R263, R269-R270, R277-R279, R281).
-/
namespace Sys2Proof.Machine

/-! ### What the head of a queue may do (R254, R269, R270, R278) -/

/-- What stands at the head of a queue: nothing that may leave, a copy that may start, one that may not start now, one whose
start in this window is refused, one that no window of its queue could hold. -/
inductive HeadState where
  | empty
  | ready (c : Copy)
  | blocked
  | defer (close : Nat)
  | miss (c : Copy)
  deriving DecidableEq, Repr

def State.express (s : State) (p q : Nat) : Bool := s.flag (portPg p) F.SCH_QUEUE_CFG_EXPRESS q

/-- The smallest first fragment, and the smallest final one, in bytes with their check sequences (R278; Clause 99). -/
def minFragment (addFrag : Nat) : Nat := 64 * (1 + addFrag)
def finalFragment : Nat := 64

def State.addFrag (s : State) (p : Nat) : Nat := s.fget (portPg p) F.PORT_MM_CFG_ADD_FRAG

/-- Growth of a frame whose size is not yet known (R269). -/
def State.provisional (s : State) (p : Nat) (f : Frm) (c : Copy) : Nat :=
  s.fget (portPg f.port) F.PORT_MAC_CFG_MAX_FRAME + (s.sentSize p f c - f.size)

/-- The head of queue `q` of port `p` before shapers are looked at. -/
def State.headState (s : State) (p q : Nat) : HeadState :=
  match s.queueAt (portQ p q) with
  | [] => .empty
  | c :: _ =>
    let pg := portPg p
    let st := s.queueState p q
    let held := !c.eligible || (st ≠ qEnabled && st ≠ qDrain) ||
      (s.fget pg F.BUF_PORT_PFC_STATUS_RX_PAUSED).testBit (s.fget pg F.BUF_QUEUE_CFG_PFC_CLASS q)
    match s.frm c.uid with
      | none => .blocked
      | some f =>
        let now := s.nowNs (portDie p)
        let open_ := s.gateOpen p q now
        let close := s.windowClose p q
        if s.mmActive p && !s.express p q then
          if held || !open_ || s.flag pg F.PORT_MM_STATUS_HOLD then .blocked
          else if s.fits p (minFragment (s.addFrag p)) close then .ready c else .blocked
        else
          let known := decide (c.written = c.cells) && f.lastByte
          let size := if known then s.sentSize p f c else s.provisional p f c
          if known && s.neverFits p q size then .miss c
          else if held || !open_ || (s.portOf p).deferred.any (fun x => x.1 = q && decide (now < x.2)) then .blocked
          else if s.fits p size close then .ready c
          else match known, close with
            | true, some t => .defer t
            | _, _ => .blocked

/-- The copy that a queue could start, its shaper apart. -/
def State.headReady (s : State) (p q : Nat) : Option Copy :=
  match s.headState p q with | .ready c => some c | _ => none

/-! ### Shapers (R259-R261) -/

/-- Offset of the rate register of a shaped entity: queues 0-15, groups 16-19, the port 20. -/
def shapeOff (e : Nat) : Nat :=
  if e < 16 then F.SCH_QUEUE_SHAPE_RATE.at e else if e < 20 then F.SCH_GROUP_SHAPE_RATE.at (e - 16)
  else F.SCH_PORT_SHAPE_RATE.off

def State.shapeReg (s : State) (p e : Nat) : Word := s.reg (portPg p) (shapeOff e)
def shapeEn (w : Word) : Bool := w.getLsbD 31
def shapePriv (w : Word) : Bool := w.getLsbD 30
def shapeWire (w : Word) : Bool := w.getLsbD 29
def shapeRate (w : Word) : Nat := w.toNat % 2 ^ 22

/-- `n` bytes at a rate of `rate` Mb/s, in 2^-16 ns. -/
def shapeCost (n rate : Nat) : Nat := n * 8000 * nsUnits / max 1 rate

/-- V of an entity as an evaluation at `now` adjusts it (R260). -/
def State.shapeV (s : State) (p e now : Nat) : Nat :=
  let v := (s.portOf p).vstart.get 0 e
  let w := s.shapeReg p e
  if shapePriv w then v
  else max v (now - shapeCost ((s.reg (portPg p) (shapeOff e + 4)).toNat % 2 ^ 24) (shapeRate w))

/-- Keep the adjustments of V that an evaluation of a port makes (R260), so that a later change of RATE or BURST counts no credit from
before it (R262). -/
def State.adjustV (s : State) (p : Nat) : State :=
  let now := s.monoUnits (portDie p)
  let l := (List.range 21).filter (fun e => shapeEn (s.shapeReg p e) && !shapePriv (s.shapeReg p e))
  let x := s.portOf p
  if l.isEmpty then s else s.setPort p { x with vstart := l.foldl (fun m e => m.set 0 e (s.shapeV p e now)) x.vstart }

/-- The timing wheel (R261): a slot is 6.25 ns, and the wheel holds 65,536 of them. -/
def wheelSlot (v : Nat) : Nat := v / 409600
def wheelSlots : Nat := 65536

/-- The wheel with an entity whose V is `v` entered at `now`: in the slot of V, or in the last slot when V lies beyond the horizon; an
entity whose V is reached is off the wheel. -/
def enterWheel (w : Sparse Nat) (e v now : Nat) : Sparse Nat :=
  w.set 0 e (if v ≤ now then 0 else min (wheelSlot v) (wheelSlot now + wheelSlots - 1) + 1)

/-- Does the shaper of an entity allow a start? -/
def State.shaperOpen (s : State) (p e : Nat) : Bool :=
  let now := s.monoUnits (portDie p)
  !shapeEn (s.shapeReg p e) || (decide ((s.portOf p).wheel.get 0 e = 0) && decide (s.shapeV p e now ≤ now))

/-- Charge an entity for the start of a frame of size `n`; while its V lies ahead it is on the wheel. -/
def State.shapeCharge (s : State) (p n : Nat) (e : Nat) : State :=
  let w := s.shapeReg p e
  if !shapeEn w then s else
  let now := s.monoUnits (portDie p)
  let v := s.shapeV p e now + shapeCost (n + (if shapeWire w then 20 else 0)) (shapeRate w)
  let x := s.portOf p
  s.setPort p { x with
    vstart := x.vstart.set 0 e v
    wheel := enterWheel x.wheel e v now }

def State.groupOf (s : State) (p q : Nat) : Nat := s.fget (portPg p) F.SCH_QUEUE_CFG_GROUP q

/-- Shaped entities of a port that have a frame to start, their own shaper apart (R260). -/
def State.backlogged (s : State) (p : Nat) : List Nat :=
  let qs := (List.range 16).filter (fun q => (s.headReady p q).isSome)
  let port := s.shaperOpen p 20
  let grp (q : Nat) : Bool := s.shaperOpen p (16 + s.groupOf p q)
  qs.filter (fun q => grp q && port) ++
  ((List.range 4).filter (fun g => port && qs.any (fun q => s.groupOf p q = g && s.shaperOpen p q))).map (16 + ·) ++
  (if qs.any (fun q => s.shaperOpen p q && grp q) then [20] else [])

/-- Entities that wake with PRIV = 1 take V ← max(V, now) (R260). -/
def State.wakePort (s : State) (p : Nat) : State :=
  let x := s.portOf p
  if (List.range 21).all (fun e => !shapePriv (s.shapeReg p e)) ∧ x.awake.isEmpty then s else
  let now := s.monoUnits (portDie p)
  let l := s.backlogged p
  let up := l.filter (fun e => !x.awake.contains e && shapeEn (s.shapeReg p e) && shapePriv (s.shapeReg p e))
  s.setPort p { x with
    awake := l
    vstart := up.foldl (fun m e => m.set 0 e (max (m.get 0 e) now)) x.vstart }

/-- Ports of a die that hold copies, or whose entities were awake. -/
def State.wakeDie (s : State) (d : Nat) : State :=
  let ps := ((s.queues.filter (fun kv : Nat × List Copy => kv.1 < 16384)).map (fun kv : Nat × List Copy => kv.1 / 16) ++
    (s.ports.filter (fun kv : Nat × PortSt => !kv.2.awake.isEmpty)).map Prod.fst).eraseDups
  (ps.filter (fun p => portDie p = d)).foldl State.wakePort s

/-- R261: the wheel takes off the entities whose slot is reached, and enters again those whose V lies ahead still. -/
def execShaperWheelSlot (p : Port) (s : State) : Res :=
  let x := s.portOf p.val
  let now := s.monoUnits (portDie p.val)
  let w := x.wheel.foldl (fun (m : Sparse Nat) (kv : Nat × Nat) =>
    if kv.2 ≤ wheelSlot now + 1 then
      (if wheelSlot (x.vstart.get 0 kv.1) ≤ wheelSlot now then m.set 0 kv.1 0 else enterWheel m kv.1 (x.vstart.get 0 kv.1) now)
    else m) x.wheel
  .next ((s.setPort p.val { x with wheel := w }).wakePort p.val)

/-! ### The events that change what may start -/

/-- R222, R227: the admission decision of a frame at its first cell. -/
def execFrameAdmit (d : Die) (uid : Nat) (s : State) : Res := s.ifOperates (bufPg d.val) ((s.frameAdmit d uid).wakeDie d.val)

/-- The head of a queue that no window could hold is discarded, for as long as there is one (R270), and a start that R269 refuses is
counted and deferred. -/
def State.missQueue (s : State) (p q : Nat) : Nat → State
  | 0 => s
  | fuel + 1 =>
    match s.headState p q with
    | .miss c => State.missQueue ((s.unqueue (portDie p) c).discard (portDie p) c dGate) p q fuel
    | .defer close =>
      let x := s.portOf p
      (s.setPort p { x with deferred := (q, close) :: x.deferred.filter (fun y => y.1 ≠ q) }).cadd (portPg p) F.GATE_DEFERRED
    | _ => s

/-- A frame that was cut through is assessed again, with its size, once its last byte is written (R269, R486). -/
def State.assess (s : State) (d uid : Nat) : State :=
  let heads := s.queues.filter (fun kv : Nat × List Copy => decide (kv.1 < 16384) && queueDie kv.1 = d &&
    kv.2.head?.any (fun c => c.part = uid && c.cut))
  heads.foldl (fun s kv => s.missQueue (kv.1 / 16) (kv.1 % 16) 1) s

/-- R237: the last cell of a frame is written and its FCS checked. -/
def execFrameLastCell (d : Die) (uid : Nat) (parity : Bool) (s : State) : Res :=
  .next (((s.frameLastCell d uid parity).assess d.val uid).wakeDie d.val)

/-- A MAC control frame of 64 bytes is received (R100). -/
def State.countControl (s : State) (p : Nat) : State :=
  if s.portUp p then (s.cadd (portPg p) F.PORT_RX_FRAMES).cadd (portPg p) F.PORT_RX_BYTES 64 else s

/-- R233: a PFC frame arrives. -/
def execPfcRx (p : Port) (enables : BitVec 8) (times : List (BitVec 16)) (s : State) : Res :=
  .next (((s.countControl p.val).pfcRx p enables times).wakePort p.val)

/-- R233: a received pause time runs out. -/
def execPfcPauseExpire (p : Port) (c : Fin 8) (s : State) : Res := .next ((s.pauseExpire p c).wakePort p.val)

/-- R234: a received PAUSE frame is discarded. -/
def execPauseRx (p : Port) (s : State) : Res :=
  .next (if s.portUp p.val then (s.countControl p.val).cadd (portPg p.val) F.BUF_PAUSE_IGNORED else s)

/-! ### Priorities and deficit round robin (R255, R256, R258) -/

/-- A child that could be chosen: index, PRIO, WEIGHT, and the size of the frame it would send. -/
structure Child where
  idx : Nat
  prio : Nat
  weight : Nat
  size : Nat
  deriving DecidableEq, Repr

/-- The child after `t` in ascending order, cyclically. -/
def nextChild (l : List Child) (t : Option Nat) : Option Child :=
  match t with
  | none => l.head?
  | some t => match l.find? (fun c => decide (t < c.idx)) with
    | some c => some c
    | none => l.head?

/-- Pass the turn from child to child, each gaining its quantum, until one can send. -/
def passTurn (l : List Child) : Nat → Option Nat → Sparse Nat → Option (Child × Sparse Nat)
  | 0, _, _ => none
  | fuel + 1, t, def_ =>
    match nextChild l t with
    | none => none
    | some c =>
      let have_ := def_.get 0 c.idx + c.weight * 256
      let def_ := def_.set 0 c.idx have_
      if c.size ≤ have_ then some (c, def_) else passTurn l fuel (some c.idx) def_

/-- Choose among children of one PRIO: the one whose turn it is while its frame fits its deficit, else by passing the turn
(R256); `turn` is the child that had it last, and `held` says whether it has it still. -/
def dwrr (l : List Child) (turn : Option Nat) (held : Bool) (def_ : Sparse Nat) : Option (Child × Sparse Nat) :=
  match l.find? (fun c => held && turn = some c.idx && decide (c.size ≤ def_.get 0 c.idx)) with
  | some c => some (c, def_)
  | none => passTurn l (l.length * (2 + ((l.map Child.size).foldl max 0) / 256)) turn def_

/-- The children of the highest PRIO. -/
def topPrio (l : List Child) : List Child :=
  let m := (l.map Child.prio).foldl max 0
  l.filter (fun c => c.prio = m)

/-- Choose one of a parent's eligible children: parents are groups 0-3 and the port 4. -/
def chooseChild (paddle : Bool) (parent : Nat) (l : List Child) (x : PortSt) : Option (Child × PortSt) :=
  let l := topPrio l
  match l with
  | [] => none
  | c0 :: _ =>
    if paddle then l.getLast?.map (fun c => (c, x)) else
    let k := 8 * parent + c0.prio
    let t := x.turn.get 0 k
    (dwrr l (if t = 0 then none else some (t % 32 - 1)) (decide (t < 32)) x.deficit).map
      (fun r => (r.1, { x with deficit := r.2, turn := x.turn.set 0 k (r.1.idx + 1) }))

/-- The scheduler's decision for a port among the queues of a list (R254-R256): the queue, and the port with the turns and
deficits as they stand after it. -/
def State.schedule (s : State) (p : Nat) (paddle : Bool) (qs : List (Nat × Nat)) : Option (Nat × Nat × PortSt) :=
  let pg := portPg p
  let x := s.portOf p
  if !s.shaperOpen p 20 then none else
  let kids (g : Nat) : List Child := (qs.filter (fun q => s.groupOf p q.1 = g)).map (fun q =>
    { idx := q.1, prio := s.fget pg F.SCH_QUEUE_CFG_PRIO q.1, weight := s.fget pg F.SCH_QUEUE_CFG_WEIGHT q.1, size := q.2 })
  let groups : List Child := (List.range 4).filterMap (fun g =>
    if !s.shaperOpen p (16 + g) then none else
    (chooseChild paddle g (kids g) x).map (fun r =>
      { idx := 16 + g, prio := s.fget pg F.SCH_GROUP_CFG_PRIO g, weight := s.fget pg F.SCH_GROUP_CFG_WEIGHT g, size := r.1.size }))
  match chooseChild paddle 4 groups x with
  | none => none
  | some (g, x) =>
    match chooseChild paddle (g.idx - 16) (kids (g.idx - 16)) x with
    | none => none
    | some (q, x) =>
      let less (m : Sparse Nat) (k : Nat) := m.set 0 k (m.get 0 k - q.size)
      some (q.idx, q.size, if paddle then x else { x with deficit := less (less x.deficit q.idx) g.idx })

/-- The queues of a port that may start a frame, with the size of each head frame (R254); `only` selects among them. An egress
pipeline that is stalled takes none (R34). -/
def State.candidates (s : State) (p : Nat) (only : Nat → Bool) : List (Nat × Nat) :=
  if !(s.stalls.get [] (64 + p / 16)).isEmpty then [] else
  (List.range 16).filterMap (fun q =>
    if !only q || !s.shaperOpen p q then none else
    (s.headReady p q).map (fun c => (q, match s.frm c.uid with | some f => f.size | none => 0)))

/-- The turn passes from every child of a port that is not eligible at a start instant (R256). -/
def State.passTurns (s : State) (p : Nat) : State :=
  let qs := (s.candidates p (fun _ => true)).map Prod.fst
  let ok (e : Nat) : Bool := if e < 16 then qs.contains e
    else s.shaperOpen p e && qs.any (fun q => s.groupOf p q = e - 16)
  let x := s.portOf p
  s.setPort p { x with turn := x.turn.map (fun kv : Nat × Nat =>
    (kv.1, if decide (kv.2 < 32) && !ok (kv.2 - 1) then kv.2 + 32 else kv.2)) }

/-! ### Configuration (R262, R263) -/

/-- Refuse a configuration write. -/
def State.schRefuse (s : State) (p : Page) (why : Nat) : State := (s.fset p F.SCH_CFG_STATUS_LAST_ERR why).errCount p

/-- Write a rate register: a ninth PRIV and a RATE out of range are refused. -/
def State.rateWrite (s : State) (p : Page) (e : Nat) (val : Word) : State :=
  let others := ((List.range 21).filter (fun i => i ≠ e && shapePriv (s.shapeReg p.n i))).length
  if shapePriv val ∧ others ≥ 8 then s.schRefuse p 1
  else if shapeEn val ∧ (shapeRate val = 0 ∨ shapeRate val > 1600000) then s.schRefuse p 2
  else (s.adjustV p.n).putRw p (shapeOff e) val

/-- A write of SCH_QUEUE_CFG, SCH_GROUP_CFG or a rate register of a port. -/
def State.schReg (s : State) (p : Page) (reg : SchReg) (val : Word) : State :=
  match reg with
  | .queue q => if F.SCH_QUEUE_CFG_WEIGHT.of val = 0 then s.schRefuse p 3 else s.putRw p (F.SCH_QUEUE_CFG.at q.val) val
  | .group g => if F.SCH_GROUP_CFG_WEIGHT.of val = 0 then s.schRefuse p 3 else s.putRw p (F.SCH_GROUP_CFG.at g.val) val
  | .rate e => s.rateWrite p e.val val

/-- The offset of a scheduler register. -/
def SchReg.off : SchReg → Nat
  | .queue q => F.SCH_QUEUE_CFG.at q.val
  | .group g => F.SCH_GROUP_CFG.at g.val
  | .rate e => if e.val < 16 then F.SCH_QUEUE_SHAPE_RATE.at e.val
    else if e.val < 20 then F.SCH_GROUP_SHAPE_RATE.at (e.val - 16) else F.SCH_PORT_SHAPE_RATE.off

/-- R262: a write of SCH_QUEUE_CFG, SCH_GROUP_CFG or a rate register. -/
def execSchCfgWrite (src : Source) (page : PageIdx) (reg : SchReg) (val : Word) (s : State) : Res :=
  .next (s.accessKind src page .port (SchReg.off reg, some val) (fun p s => s.schReg p reg val))

def State.policer (s : State) (sl i : Nat) : Policer := (s.sliceOf sl).policers.get {} i
def State.setPolicer (s : State) (sl i : Nat) (p : Policer) : State :=
  let x := s.sliceOf sl
  s.setSlice sl { x with policers := x.policers.set {} i p }

/-- Write a policer from DATA0 and DATA1. -/
def State.policerWrite (s : State) (p : Page) (val : Word) : State :=
  let s := s.putRw p F.SCH_POL_ADDR.off val
  let cfg := s.reg p F.SCH_POL_DATA0.off
  let rate := F.SCH_POL_DATA0_RATE.of cfg
  if F.SCH_POL_DATA0_EN.of cfg = 1 ∧ (rate = 0 ∨ rate > 1600000) then s.bset p F.SCH_POL_ADDR_ERR true else
  let i := F.SCH_POL_ADDR_INDEX.of val
  let burst := s.fget p F.SCH_POL_DATA1_BURST
  (s.setPolicer p.n i { s.policer p.n i with
    cfg := cfg, burst := burst, tokens := burst * 8000 * 65536, since := s.monoUnits (sliceDie p.n) }).bset p F.SCH_POL_ADDR_ERR false

/-- R263: SCH_POL_ADDR.OP = 0b01. -/
def execPolicerWrite (src : Source) (page : PageIdx) (val : Word) (s : State) : Res :=
  .next (s.accessKind src page .slice (F.SCH_POL_ADDR.cmd 1 val) (fun p s => s.policerWrite p val))

/-- Read a policer into DATA0-3. -/
def State.policerRead (s : State) (p : Page) (val : Word) : State :=
  let s := s.putRw p F.SCH_POL_ADDR.off val
  let x := s.policer p.n (F.SCH_POL_ADDR_INDEX.of val)
  let s := (s.setReg p F.SCH_POL_DATA0.off x.cfg).setReg p F.SCH_POL_DATA1.off (BitVec.ofNat 32 x.burst)
  s.setPair p F.SCH_POL_DATA2 F.SCH_POL_DATA3 x.red.toNat

/-- R263: SCH_POL_ADDR.OP = 0b10. -/
def execPolicerRead (src : Source) (page : PageIdx) (val : Word) (s : State) : Res :=
  .next (s.accessKind src page .slice (F.SCH_POL_ADDR.cmd 2 val) (fun p s => s.policerRead p val))

/-- Read a policer into DATA0-3 and clear its RED count. -/
def State.policerReadClear (s : State) (p : Page) (val : Word) : State :=
  let s := s.policerRead p val
  let i := F.SCH_POL_ADDR_INDEX.of val
  s.setPolicer p.n i { s.policer p.n i with red := 0 }

/-- R263: SCH_POL_ADDR.OP = 0b11. -/
def execPolicerReadClear (src : Source) (page : PageIdx) (val : Word) (s : State) : Res :=
  .next (s.accessKind src page .slice (F.SCH_POL_ADDR.cmd 3 val) (fun p s => s.policerReadClear p val))

/-! ### Samples (R281, R341) -/

/-- Sample one queue: its depth in cells and its head delay in ns. -/
def State.sampleQueue (s : State) (d p q : Nat) (l : List Copy) : State :=
  let pg := portPg p
  let delay := match s.queueAt (portQ p q) with
    | c :: _ => (stampDiff (s.stamp d) c.enq).toNat / nsUnits
    | [] => 0
  let depth := depthOf l d (portQ p q)
  let s := s.fset pg F.SCH_QUEUE_DEPTH_SAMPLE_DEPTH depth q
  let s := s.setReg pg (F.SCH_QUEUE_DELAY_SAMPLE.at q) (BitVec.ofNat 32 (min 0xFFFFFFFF delay))
  let s := s.fset pg F.TEL_QUEUE_PEAK_DEPTH_DEPTH (max depth (s.fget pg F.TEL_QUEUE_PEAK_DEPTH_DEPTH q)) q
  s.setReg pg (F.TEL_QUEUE_PEAK_DELAY.at q)
    (BitVec.ofNat 32 (max (min 0xFFFFFFFF delay) (s.reg pg (F.TEL_QUEUE_PEAK_DELAY.at q)).toNat))

/-- R281: every egress queue of a die is sampled. A queue that holds nothing and whose last sample was 0 keeps its values. -/
def execQueueSample (d : Die) (s : State) : Res :=
  let l := s.copies d.val
  let kp := (s.queues.filter (fun kv : Nat × List Copy => kv.1 < 16384)).map (fun kv : Nat × List Copy => kv.1 / 16)
  let busy := s.regs.filterMap (fun kv : Nat × Word =>
    if keyKind kv.1 = Kind.port.code ∧ 0x600 ≤ keyOff kv.1 ∧ keyOff kv.1 < 0x680 then some (keyNum kv.1) else none)
  let held := l.filterMap Copy.port
  s.ifOperates (bufPg d.val) (if !s.dieUp d.val then s else
    (((kp ++ busy ++ held).eraseDups).filter (fun p => portDie p = d.val)).foldl (fun s p =>
      (List.range 16).foldl (fun s q => s.sampleQueue d.val p q l) s) s)

end Sys2Proof.Machine
end

