-- ==== Sys2Proof/Machine/Transmit.lean ====
section
/-!
DEFINITION. The egress pass of a copy from its dequeue to the end of its transmission, preemption, and gate boundaries
(01 R36; 07 R248; 08 R254, R264-R265, R270, R277-R279; 10 R306-R307, R320-R321; 11 R333; 15 R459-R464).
-/
namespace Sys2Proof.Machine

/-! ### Before a start -/

/-- Bring the heads of a port's queues up to date: aged copies leave, as do those that R270 discards, and starts that R269
refuses are counted (R245, R269, R270). -/
def State.settleHeads (s : State) (p : Nat) : State :=
  (List.range 16).foldl (fun s q =>
    let n := (s.queueAt (portQ p q)).length
    if n = 0 then s else (s.ageQueue p q n).missQueue p q n) s

/-! ### Preemption (R277-R279) -/

/-- The queue of a copy in transmission. -/
def State.slotQueue (s : State) (t : TxSlot) : Nat :=
  match (s.frm t.uid).bind Frm.pass with | some c => c.queue | none => 0

/-- Bytes of a copy, its check sequence included, that have left by now. -/
def State.sentBy (s : State) (p : Nat) (t : TxSlot) : Nat :=
  let gone := (s.monoUnits (portDie p) - t.began) * s.portSpeed p / (8000 * nsUnits)
  min (t.bytes.length + 4) (t.sent + gone)

/-- May a preemptable copy in transmission be preempted now (Clause 99)? -/
def State.canPreempt (s : State) (p : Nat) (t : TxSlot) : Bool :=
  let n := s.sentBy p t
  s.mmActive p && !s.express p (s.slotQueue t) &&
  decide (n ≥ t.sent + minFragment (s.addFrag p) - 4) && decide (t.bytes.length + 4 - n ≥ finalFragment)

/-- Put what has been sent of a copy since its last resumption on the lanes of its port: bytes up to `n`, and for a fragment that is not
the last the check sequence of Clause 99 (PRESUMED). The delimiter of a fragment, and of a preemptable frame, is left open. -/
def State.putPart (s : State) (p : Nat) (t : TxSlot) (n : Nat) (fcs : Word) : State :=
  let whole := t.bytes ++ leBytes 4 fcs.toNat
  let part := (whole.take n).drop t.sent
  let part := if n < whole.length then part ++ leBytes 4 (fcs32 (t.bytes.take n) ^^^ 0x0000FFFF).toNat else part
  if !s.mmActive p || s.express p (s.slotQueue t) then s.putWire p sfd part
  else let r := s.draw 8; r.2.putWire p r.1 part

/-- End the fragment in progress after `n` bytes of the copy: the copy waits to be resumed. -/
def State.preempt (s : State) (p : Nat) (t : TxSlot) (n : Nat) : State :=
  (((s.putPart p t n t.fcs).setPort p { s.portOf p with tx := none, preempted := some { t with sent := n, cut := none } }).cadd (portPg p)
    F.PORT_MM_TX_PREEMPTIONS).flushCtl p

/-- The latest point that Clause 99 permits at which the fragment in progress ends, by network time `end_` less `guard` ns: bytes of
the copy sent by then (R278). -/
def State.latestPoint (s : State) (p : Nat) (t : TxSlot) (end_ guard : Nat) : Option Nat :=
  let d := portDie p
  let begun : Int := (s.full d : Int) - (s.monoUnits d - t.began : Nat)
  let left := (((end_ : Int) - guard) * nsUnits - begun).toNat
  let n := min (t.sent + (left * s.portSpeed p / (8000 * nsUnits) - 24)) (t.bytes.length + 4 - finalFragment)
  if n ≥ t.sent + minFragment (s.addFrag p) - 4 then some n else none

/-- Does what remains of a copy end by network time `end_` less `guard` ns? -/
def State.endsBy (s : State) (p : Nat) (t : TxSlot) (end_ guard : Nat) : Bool :=
  let d := portDie p
  let begun : Int := (s.full d : Int) - (s.monoUnits d - t.began : Nat)
  let v := s.portSpeed p
  decide (begun * v + (t.bytes.length + 4 - t.sent + 20 : Nat) * 8000 * nsUnits ≤ ((end_ : Int) - guard) * nsUnits * v)

/-- Where the fragment in progress of a preemptable copy must end: the latest point before its window closes, or before a hold begins
(R278, R279); none while the copy is not to be preempted. -/
def State.cutPoint (s : State) (p : Nat) (t : TxSlot) : Option Nat :=
  let q := s.slotQueue t
  if !s.mmActive p || s.express p q then none
  else match t.cut with
    | some n => some n
    | none =>
      let d := portDie p
      let from_ := (((s.full d : Int) - (s.monoUnits d - t.began : Nat)) / nsUnits).toNat
      let by_ (e : Option Nat) (guard : Nat) : Option Nat := e.bind (fun e =>
        if s.endsBy p t e guard then none else s.latestPoint p t e guard)
      match by_ (s.closeFrom p q from_) (s.guardNs p), by_ (s.holdFrom p (s.gateFuel p) from_) 0 with
      | some a, some b => some (min a b)
      | some a, none => some a
      | none, b => b

/-- Preempt the copy in transmission when the point at which it must end is reached. -/
def State.settleTx (s : State) (p : Nat) : State :=
  match (s.portOf p).tx with
  | some t => match s.cutPoint p t with
    | some n => if n ≤ s.sentBy p t then s.preempt p t n else s
    | none => s
  | none => s

/-- A step of time has closed the gate of a preemptable copy in transmission: it is preempted at its next permitted point (R275). -/
def State.cutClosed (s : State) (p : Nat) : State :=
  match (s.portOf p).tx with
  | some t =>
    let n := max (s.sentBy p t) (t.sent + minFragment (s.addFrag p) - 4)
    if s.mmActive p && !s.express p (s.slotQueue t) && !s.gateOpen p (s.slotQueue t) (s.nowNs (portDie p)) &&
      decide (t.bytes.length + 4 - n ≥ finalFragment) then
      s.setPort p { s.portOf p with tx := some { t with cut := some n } }
    else s
  | none => s

/-- May a preempted copy resume now: its window is open, nothing is held, and a final fragment fits (R277-R279)? -/
def State.canResume (s : State) (p : Nat) (t : TxSlot) : Bool :=
  let q := s.slotQueue t
  !s.mmActive p || (s.gateOpen p q (s.nowNs (portDie p)) && !s.flag (portPg p) F.PORT_MM_STATUS_HOLD &&
    s.fits p (min (t.bytes.length + 4 - t.sent) (minFragment (s.addFrag p))) (s.windowClose p q))

def State.resume (s : State) (p : Nat) (t : TxSlot) : State :=
  s.setPort p { s.portOf p with
    preempted := none, tx := some { t with began := s.monoUnits (portDie p), frags := t.frags + 1 } }

/-- A port takes up its place in the cycle: a hold starts or ends, a preemptable copy whose window closes or that a hold
stops has been preempted, and queues deferred to the end of their window may be assessed again (R267, R275, R279). -/
def State.gateBoundary (s : State) (p : Nat) : State :=
  let pg := portPg p
  let now := s.nowNs (portDie p)
  let s := match (s.gateAt p now).1 with
    | some e =>
      if s.mmActive p ∧ gateOp e = 1 then s.bset pg F.PORT_MM_STATUS_HOLD true
      else if s.mmActive p ∧ gateOp e = 2 then s.bset pg F.PORT_MM_STATUS_HOLD false
      else s
    | none => s
  let s := s.settleTx p
  let x := s.portOf p
  (s.setPort p { x with deferred := x.deferred.filter (fun y => decide (now < y.2)) }).wakePort p

/-- R267, R279: a gate-list boundary. -/
def execGateEntryBoundary (p : Port) (s : State) : Res := .next (s.gateBoundary p.val)

/-! ### Dequeue and the egress stages (R36, R248, R356, R459, R460, R471) -/

/-- Charge events to a copy on its own: its tenant's account and its record's energy. -/
def State.chargeCopy (s : State) (d : Nat) (f : Frm) (c : Copy) (i n : Nat) : Copy × State :=
  ({ c with energy := c.energy + s.energyOf d i n }, (s.calEvent d i n).chargeTenant d f (s.energyOf d i n))

/-- What the reads of a copy's descriptor and cells find: the reason to discard it, 0 for none. -/
def State.readCopy (s : State) (d : Nat) (f : Frm) (u : TxUpsets) : Nat × State :=
  let (cell, s) := s.draw 20
  let errs := if f.badCell && !u.cells.any CellErr.uncorr then u.cells ++ [{ cell := cell, uncorr := true }] else u.cells
  let (bad, s) := s.cellErrors d errs
  let s := if u.readPath then s.integrity d 4 else s
  let s := match u.desc with
    | .ok => s
    | .corrected => s.integrity d 5
    | .uncorr => s.integrity d 6
  (if bad || u.readPath then dFcs else if u.desc = .uncorr then dParity else 0, s)

/-- The working frame of a copy's egress pass. -/
def Frm.egress (f : Frm) (c : Copy) : Frm :=
  { f with
    pass := some c, root := (if f.root = 0 then c.uid else f.root), refs := 1, tries := 0, ext := none, police := [],
    red := false, parity := false, deny := false, punt := none, last := false, learn := none, dropped := [], key := none,
    target := none }

/-- Run the egress stages of a copy that has left its queue, up to its point of dispatch. -/
def State.egressPass (s : State) (p : Nat) (c : Copy) (u : Upsets) : State :=
  match s.frm c.uid with
  | none => s
  | some f =>
    let sl := portSlice p
    let d := portDie p
    let s := s.markBad sl u.bad
    let (f, s) := if f.kind = .injected ∨ f.kind = .stream then
        let r := s.parse sl f.bytes
        ({ f with hdrs := r.1.1, flag := r.1.2 }, r.2)
      else (f, s)
    let s := if u.busData then s.integrity d 1 else s
    let s := if u.busMeta || u.busTenant then s.integrity d 2 else s
    let c := if u.busData then { c with spoiled := some dFcs } else c
    let f := { f.egress c with parity := u.busMeta }
    let (f, s) := if s.inPaddle sl then (f, s) else s.runStages sl true u.tcam f
    let (n, s) := s.newFrm f
    s.atDispatch sl n u

/-- Take the head copy of a queue for transmission: its cells are read, and a copy that they or its descriptor spoil is
discarded before its first bit (R248, R460); else its egress pass runs. -/
def State.dequeue (s : State) (p : Nat) (c : Copy) (u : TxUpsets) : State :=
  let d := portDie p
  match s.frm c.uid with
  | none => s.unqueue d c
  | some f =>
    let (why, s) := s.readCopy d f u
    let s := s.pmcEvent (bufPg d) (pipeEvent f 0xE c.cells)
    let (c', s) := s.chargeCopy d f c 3 c.cells
    if why ≠ 0 then (s.unqueue d c).discard d c' why else
    let (c', s) := s.chargeCopy d f c' 9 1
    (s.egressPass p c' u.up).unqueue d c

/-! ### The start of transmission -/

/-- A copy that an egress stage punts moves to its host-bound queue with its charges (R150, R223). -/
def State.egressPunt (s : State) (uid q : Nat) (f : Frm) (c : Copy) : State :=
  let d := portDie (c.port.getD 0)
  let s := s.setFrm uid { f with pass := none, source := 4, target := some (.host q) }
  let ok := decide (c.written = c.cells) && f.lastByte
  let k := hostQ d q
  (s.setQueue k (s.queueAt k ++ [{ c with uid := uid, host := some q, eligible := ok, enq := s.stamp d }])).release c.uid

/-- The FCS that a copy leaves with, and whether it is good: carried where the port carries it and the copy is unmodified,
else computed (R462-R464); a copy of a frame with a receive error is R100's alone (row 5 of R485). `plain` are the bytes that the received FCS covers, `sent` those that leave. -/
def State.sendFcs (s : State) (p : Nat) (f : Frm) (plain sent : List Byte) : Word × Bool × State :=
  let pg := portPg p
  if s.flag pg F.PORT_FCS_CFG_CARRY_EN && !f.modified && !f.macsec && decide (f.kind = .rx ∨ f.kind = .injected) then
    if fcs32 plain = f.fcs then (fcs32 sent, true, s.cadd pg F.PORT_CARRY_FRAMES)
    else if f.rxDrop ≠ 0 then (~~~ fcs32 sent, true, s)
    else (~~~ fcs32 sent, false, s.cadd pg F.PORT_CARRY_MISMATCH)
  else (fcs32 sent, true, s)

/-- Put an entry into a die's transmit stamp FIFO (R321). -/
def State.captureStamp (s : State) (d p : Nat) (bytes : List Byte) (out : DWord) : State :=
  match ptpFind true true true bytes with
  | none => s
  | some m =>
    let t := s.timeOf d
    if t.txFifo.length ≥ 1024 then (s.cadd (timePg d) F.TIME_TXSTAMP_LOST).raise (timePg d) 11
    else s.setTime d { t with txFifo := t.txFifo ++
      [{ port := p, msgType := m.type bytes, seqId := num bytes (m.off + 30) 2, stamp := out }] }

/-- The egress stamp of a frame that starts now, and its full time in 2^-16 ns (R306, R307). -/
def State.egressStamp (s : State) (p : Nat) (delay : BitVec 32) : DWord × Nat :=
  let d := portDie p
  let adj := (s.reg (portPg p) F.TIME_PORT_TX_ADJ.off).toInt + delay.toNat
  (s.stamp d + BitVec.ofInt 64 adj, ((s.full d : Int) + adj).toNat)

/-- Start a copy on the wire: rewrite, PTP, inline MACsec and FCS. -/
def State.startWire (s : State) (p uid : Nat) (f : Frm) (c : Copy) (delay : BitVec 32) (an : Option Nat) : State :=
  let d := portDie p
  let (out, full) := s.egressStamp p delay
  let (f, w) := s.rewrite p f c out full
  let s := if w.ptp then s.cadd (portPg p) F.TIME_PORT_PTP_CORRECTED else s
  let s := if w.updated > 0 then s.cadd (telPg d) F.TEL_IOAM_UPDATED else s
  let s := if w.overflow > 0 then (s.cadd (telPg d) F.TEL_IOAM_OVERFLOW w.overflow).raise (telPg d) 9 else s
  let s := if f.capture then s.captureStamp d p f.bytes out else s
  let plain := f.bytes
  let (sent, key, s) := match an with
    | some an => let r := s.protect p an plain; (r.1, some r.2.1, r.2.2)
    | none => (plain, none, s)
  let (fcs, ok, s) := s.sendFcs p f plain sent
  let c := if ok then c else { c with spoiled := some (c.spoiled.getD dFcs) }
  let s := s.setFrm uid { f with pass := some c }
  s.setPort p { s.portOf p with
    tx := some { uid := uid, bytes := sent, fcs := fcs, stamp := out, began := s.monoUnits d, key := key } }

/-- Does the egress pass of a copy keep it from being sent, its policers apart (R150, R201, R211)? -/
def Frm.unsent (f : Frm) (c : Copy) : Bool := c.spoiled = some dAbort || f.parity || f.deny || f.punt.isSome

/-- End a copy that its egress pass keeps from being sent: red first, then the engine's abort, TABLE_PARITY, DENY and PUNT (R150, R201,
R211, R265). -/
def State.endUnsent (s : State) (uid : Nat) (f : Frm) : State :=
  match f.pass with
  | none => s
  | some c =>
    if f.red then s.endPass uid dRed none
    else if c.spoiled = some dAbort then s.endPass uid dAbort none
    else if f.parity then s.endPass uid dParity none
    else if f.deny then s.endPass uid dAcl none
    else match f.punt with
      | some q => s.egressPunt uid q f c
      | none => s

/-- Start a copy that has had its egress pass, unless that pass discards or punts it (R150, R265); one that its policers have still
to meter ends with its last byte (R264). -/
def State.launch (s : State) (p uid : Nat) (delay : BitVec 32) (an : Option Nat) : State :=
  let x := s.portOf p
  let s := s.setPort p { x with ready := x.ready.filter (· ≠ uid) }
  match s.frm uid with
  | none => s
  | some f =>
    match f.pass with
    | none => s
    | some c =>
      if f.unsent c && !f.police.isEmpty && (!f.lastByte || f.verdict = .waiting) then s.setFrm uid { f with ending := true }
      else if f.red || f.unsent c then s.endUnsent uid f
      else if c.spoiled.isSome && !c.cut then s.endPass uid (c.spoiled.getD dFcs) none
      else s.startWire p uid f c delay an

/-- The transmit SA of a frame start: none needed, an AN, or the port is in hold. -/
inductive SaChoice where
  | clear | sa (an : Nat) | held
  deriving DecidableEq, Repr

def State.saFor (s : State) (p : Nat) : SaChoice × State :=
  if !s.msecTx p then (.clear, s)
  else if !s.operates (msecPg (p / 8)) then (.held, s) else
  match s.settleSa p with
  | (some an, s) => (.sa an, s)
  | (none, s) => (.held, s)

def SaChoice.an : SaChoice → Option Nat
  | .sa an => some an
  | _ => none

/-! ### The share of an egress pipeline (R257) -/

/-- Could a port's MAC take a frame from its queues now? -/
def State.startable (s : State) (p : Nat) : Bool :=
  s.queues.any (fun kv : Nat × List Copy => kv.1 / 16 = p) && s.portUp p && (s.portOf p).tx.isNone &&
  !(s.candidates p (fun _ => true)).isEmpty && (match (s.saFor p).1 with | .held => false | _ => true)

/-- The other ports of a port's egress pipeline that could take a frame now. -/
def State.rivals (s : State) (p : Nat) : List Nat :=
  ((List.range 16).map (16 * (p / 16) + ·)).filter (fun q => q ≠ p && s.startable q)

/-- May the egress pipeline take its next frame from port `p`: has no rival been served less for its speed (R257)? -/
def State.shareTurn (s : State) (p : Nat) : Bool := (s.rivals p).all (fun q => decide ((s.portOf p).sent ≤ (s.portOf q).sent))

/-- Count a frame taken from a port against its speed. Ports of the pipeline that hold no frame move up with it, so that the share they
leave unused is not theirs later (R257). -/
def State.countShare (s : State) (p : Nat) : State :=
  let x := s.portOf p
  let idle (q : Nat) : Bool := decide ((s.portOf q).sent < x.sent) && !s.queues.any (fun kv : Nat × List Copy => kv.1 / 16 = q)
  let s := (((List.range 16).map (16 * (p / 16) + ·)).filter idle).foldl (fun s q =>
    s.setPort q { s.portOf q with sent := x.sent }) s
  s.setPort p { x with sent := x.sent + 1600000 / max 1 (s.portSpeed p) }

/-- Has a copy that has had its egress pass come from a queue that `only` admits? -/
def State.fromQueue (s : State) (only : Nat → Bool) (uid : Nat) : Bool :=
  match (s.frm uid).bind Frm.pass with | some c => only c.queue | none => true

/-- Take a frame from the scheduler and carry it to its start, when its egress pass leaves it ready (R254-R257, R259). -/
def State.startNext (s : State) (p : Nat) (only : Nat → Bool) (delay : BitVec 32) (an : Option Nat) (u : TxUpsets) : Option State :=
  if !s.shareTurn p then none else
  match s.schedule p (s.inPaddle (portSlice p)) (s.candidates p only) with
  | none => none
  | some (q, size, x) =>
    match s.headReady p q with
    | none => none
    | some c =>
      let s := [q, 16 + s.groupOf p q, 20].foldl (fun s e => s.shapeCharge p size e)
        (s.setPort p { x with vstart := (s.portOf p).vstart })
      let s := (s.countShare p).dequeue p c u
      some (match (s.portOf p).ready.find? (s.fromQueue only) with
        | some uid => s.launch p uid delay an
        | none => s)

/-- A start on a MAC that is free: copies whose egress pass has ended first, then what the scheduler chooses among express
queues, then a preempted copy, then any queue (R254, R277). -/
def State.startFree (s : State) (p : Nat) (delay : BitVec 32) (an : Option Nat) (u : TxUpsets) : State :=
  let x := s.portOf p
  match x.ready.find? (fun v => x.preempted.isNone || !s.mmActive p || s.fromQueue (s.express p) v) with
  | some uid => s.launch p uid delay an
  | none =>
    match x.preempted with
    | none => (s.startNext p (fun _ => true) delay an u).getD s
    | some t =>
      let try_ := if s.mmActive p then s.startNext p (s.express p) delay an u else none
      match try_ with
      | some s => s
      | none => if s.canResume p t then s.resume p t else s

/-- R254: the instant at which a port's MAC can start a frame. A port in MACsec hold starts none (R371); with preemption
active, an express frame preempts a preemptable one in transmission where Clause 99 permits it (R277). -/
def execTransmitStart (p : Port) (delay : BitVec 32) (u : TxUpsets) (s : State) : Res :=
  let n := p.val
  .next (if !s.portUp n || !s.sliceRuns (portSlice n) then s else
    let s := (((s.purgeReady n).settleHeads n).adjustV n).wakePort n
    let s := s.settleTx n
    let s := if (s.portOf n).tx.isNone then s.passTurns n else s
    let x := s.portOf n
    let waits (only : Nat → Bool) : Bool := x.ready.any (s.fromQueue only) ||
      (s.shareTurn n && (s.schedule n (s.inPaddle (portSlice n)) (s.candidates n only)).isSome)
    if !waits (fun _ => true) && !x.preempted.any (s.canResume n) then s else
    match x.tx with
    | some t =>
      if s.canPreempt n t && x.preempted.isNone && waits (s.express n) then
        match s.saFor n with
        | (.held, s) => s
        | (c, s) =>
          let s := s.preempt n t (s.sentBy n t)
          (match (s.portOf n).ready.find? (s.fromQueue (s.express n)) with
            | some uid => s.launch n uid delay c.an
            | none => (s.startNext n (s.express n) delay c.an u).getD s).wakePort n
      else s
    | none =>
      match s.saFor n with
      | (.held, s) => s
      | (c, s) => (s.startFree n delay c.an u).wakePort n)

/-! ### The end of transmission (R333) -/

/-- The FCS and reason a copy ends with: one that has proved bad while it was sent leaves with its FCS inverted (R100, R248,
R250, R265). -/
def State.finish (s : State) (p : Nat) (t : TxSlot) (f : Frm) (c : Copy) : State :=
  let d := portDie p
  let pg := portPg p
  let why := match c.spoiled with
    | some r => f.reason r
    | none => f.reason 0
  let good := fcs32 t.bytes
  let fcs := if why ≠ 0 then ~~~ good else t.fcs
  let len := t.bytes.length + 4
  let s := (((s.putPart p t len fcs).emit (.tx p t.bytes fcs)).cadd pg F.PORT_TX_FRAMES).cadd pg F.PORT_TX_BYTES len
  let (c, s) := s.chargeCopy d f c 10 len
  let (c, s) := match t.key with
    | some _ => s.chargeCopy d f c 11 len
    | none => (c, s)
  let s := match t.key with
    | some k => s.endKey d k.1 k.2
    | none => s
  let s := match f.kind with
    | .stream =>
      if why = 0 then (s.cadd (telPg d) F.TEL_STREAM_FRAMES).cadd (telPg d) F.TEL_POSTCARDS f.carries else s.loseCarried d f
    | _ => s
  let extra := if t.frags > 1 then pPreempted else 0
  let s := s.fold d f c why (some t.stamp) (if why = 0 then len else f.size) extra
  (((s.setPort p { s.portOf p with tx := none }).flushCtl p).dropFrm t.uid).release c.uid

/-- R333: a copy completes transmission: its last byte has arrived and its last cell is written; one that its window or a hold does not
let end has been preempted (R278, R279). Errors of cells read late
spoil it (R248). -/
def execTransmitEnd (p : Port) (errs : List CellErr) (s : State) : Res :=
  .next (match (s.portOf p.val).tx with
    | none => s
    | some t =>
      match s.frm t.uid with
      | none => s.setPort p.val { s.portOf p.val with tx := none }
      | some f =>
        match f.pass, s.cutPoint p.val t with
        | none, _ => s
        | some _, some n => s.preempt p.val t n
        | some c, none =>
          if !f.lastByte || decide (c.written < c.cells) then s else
          let (bad, s) := s.cellErrors (portDie p.val) errs
          let c := if bad then { c with spoiled := some (c.spoiled.getD dFcs) } else c
          (s.finish p.val t f c).wakePort p.val)

end Sys2Proof.Machine
end

