-- ==== Sys2Proof/Machine/Time.lean ====
section
/-!
DEFINITION. The time units: steps, the servo and its lock states, the two dies' alignment, PPS, and the transmit stamp FIFO
(10 R303-R305, R307, R310-R318, R321, R323-R324).
-/
namespace Sys2Proof.Machine

/-! ### Rates and states (R303, R312) -/

/-- Does the unit follow the bow (R315)? -/
def State.follows (s : State) (d : Nat) : Bool := s.flag (timePg d) F.TIME_LOCK_STATE_FOLLOW

def State.lockState (s : State) (d : Nat) : Nat := s.fget (timePg d) F.TIME_LOCK_STATE_STATE

def lkFree : Nat := 0
def lkAcquire : Nat := 1
def lkCoarse : Nat := 2
def lkFine : Nat := 3
def lkHoldover : Nat := 4

/-- Put a unit into a lock state; a change raises LOCK_CHANGE. -/
def State.setLockState (s : State) (d v : Nat) : State :=
  if s.lockState d = v then s else (s.fset (timePg d) F.TIME_LOCK_STATE_STATE v).raise (timePg d) 8

/-- Set the rate, in 2^-16 ppb: rounded down or up by an open choice where it is no whole number, and clamped (R303). -/
def State.setRate (s : State) (d : Nat) (r : Rat) : State :=
  let lo := r.floor
  let (n, s) := if (lo : Rat) = r then (lo, s) else let x := s.draw 1; (lo + x.1.toNat, x.2)
  let m := max (-(2 ^ 31)) (min (2 ^ 31 - 1) n)
  (s.setReg (timePg d) F.TIME_FREQ.off (BitVec.ofInt 32 m)).raiseIf (decide (m ≠ n)) (timePg d) 14

/-- Enter FREE: the rate is TIME_FREQ_INIT. -/
def State.enterFree (s : State) (d : Nat) : State :=
  let r := (s.reg (timePg d) F.TIME_FREQ_INIT.off).toInt
  let t := s.timeOf d
  ((s.setTime d { t with integ := -(r : Rat), lastOffset := none, coarseRun := 0, fineRun := 0 }).setReg (timePg d) F.TIME_FREQ.off
    (BitVec.ofInt 32 r)).setLockState d lkFree

/-- Enter HOLDOVER: the rate is that of the integral term (R312, R313). -/
def State.enterHoldover (s : State) (d : Nat) : State :=
  let t := s.timeOf d
  let s := (s.setTime d { t with lastOffset := none, coarseRun := 0, fineRun := 0 }).setRate d (-t.integ)
  ((s.raise (timePg d) 9).cadd (timePg d) F.TIME_HOLDOVERS).setLockState d lkHoldover

/-! ### Steps (R304, R305, R329) -/

/-- Full times that a unit can hold: SEC has 64 bits. -/
def fullLimit : Nat := 2 ^ 64 * 1000000000 * nsUnits

/-- PERIOD of a comparator in ns. -/
def State.cmpPeriod (s : State) (d n : Nat) : Nat :=
  (s.reg (timePg d) (F.TIME_CMP_PERIOD_LO.at n)).toNat + s.fget (timePg d) F.TIME_CMP_PERIOD_HI_VALUE n * 2 ^ 32

/-- The target of a comparator in ns, which TIME_CMP_NS and TIME_CMP_SEC hold (R327). -/
def State.cmpTarget (s : State) (d n : Nat) : Nat :=
  let pg := timePg d
  ((s.reg pg (F.TIME_CMP_SEC_HI.at n)).toNat * 2 ^ 32 + (s.reg pg (F.TIME_CMP_SEC_LO.at n)).toNat) * 1000000000 +
    s.fget pg F.TIME_CMP_NS_NS n

def State.cmpOf (s : State) (d n : Nat) : CmpSt := (s.timeOf d).cmps.get {} n
def State.setCmp (s : State) (d n : Nat) (c : CmpSt) : State :=
  s.setTime d { s.timeOf d with cmps := (s.timeOf d).cmps.set {} n c }

/-- Move a comparator's target (R328, R329). -/
def State.cmpMove (s : State) (d n t : Nat) : State :=
  let pg := timePg d
  let sec := t / 1000000000
  ((s.fset pg F.TIME_CMP_NS_NS (t % 1000000000) n).setReg pg (F.TIME_CMP_SEC_LO.at n) (BitVec.ofNat 32 sec)).setReg pg
    (F.TIME_CMP_SEC_HI.at n) (BitVec.ofNat 32 (sec / 2 ^ 32))

/-- The target as it stands is the base of the period from now on. -/
def State.cmpBase (s : State) (d n : Nat) : State := s.setCmp d n { s.cmpOf d n with base := s.cmpTarget d n }

/-- The first time base + k × PERIOD after `now`. -/
def nextPeriod (base period now : Nat) : Nat := if now < base then base else base + ((now - base) / max 1 period + 1) * max 1 period

/-- A step's effect on a comparator (R329). -/
def State.cmpStep (s : State) (d n old now : Nat) : State :=
  let pg := timePg d
  if !s.flag pg F.TIME_CMP_CFG_ARM n then s else
  let c := s.cmpOf d n
  let target := s.cmpTarget d n
  if old < target ∧ target ≤ now then s.setCmp d n { c with stepped := true }
  else if now < old ∧ s.flag pg F.TIME_CMP_CFG_PERIODIC n then s.cmpMove d n (nextPeriod c.base (s.cmpPeriod d n) now)
  else s

/-- Change full time by a signed amount in 2^-16 ns × 10^-9: gates and comparators act on the new time (R275, R304, R329).
A step to before SEC = 0 leaves a time that the spec does not state. -/
def State.stepTime (s : State) (d : Nat) (delta : Int) : State :=
  let t := s.timeOf d
  let old := s.nowNs d
  let new := (t.fine : Int) + delta
  let (v, s) := if new < 0 then let x := s.draw 128; (x.1.toNat % (fullLimit * fineUnit), x.2) else (new.toNat, s)
  let s := s.setTime d { t with fine := v }
  let now := s.nowNs d
  let s := (List.range 32).foldl (fun s n => s.cmpStep d n old now) s
  let s := ((s.ports.map Prod.fst).filter (fun p => portDie p = d)).foldl (fun s p =>
    (s.setPort p { s.portOf p with deferred := [] }).gateBoundary p |>.cutClosed p) s
  (s.cadd (timePg d) F.TIME_STEPS).raise (timePg d) 10

/-- A step of a unit; one of the bow takes the stern along while it follows (R316). -/
def State.stepUnit (s : State) (d : Nat) (delta : Int) : State :=
  let s := s.stepTime d delta
  if d = 0 ∧ s.follows 1 then s.stepTime 1 delta else s

/-- The full time in the TIME_SET registers, in 2^-16 ns. -/
def State.timeSetValue (s : State) (p : Page) : Nat :=
  (((s.reg p F.TIME_SET_SEC_HI.off).toNat * 2 ^ 32 + (s.reg p F.TIME_SET_SEC_LO.off).toNat) * 1000000000 +
    s.fget p F.TIME_SET_NS_NS) * nsUnits + s.fget p F.TIME_SET_FRAC_FRAC

/-- A write of TIME_SET_CTRL under the page's lock (R305, R316). -/
def State.timeSetCtrl (s : State) (p : Page) (val : Word) : State :=
  let op := F.TIME_SET_CTRL_OP.of val
  if s.follows p.n then s.errCount p
  else if op = 0 then s.putRw p F.TIME_SET_CTRL.off val
  else if s.flag p F.TIME_SET_CTRL_BUSY then s.errCount p
  else
    let v := s.timeSetValue p
    let w : TimeOp := match op with
      | 1 => .set v
      | 2 => .add v
      | _ => .add (-(v : Int))
    ((s.putRw p F.TIME_SET_CTRL.off val).setTime p.n { s.timeOf p.n with waiting := some w }).bset p F.TIME_SET_CTRL_BUSY true

/-- The three writes of TIME_SET_CTRL. -/
def State.timeSetWrite (s : State) (src : Source) (page : PageIdx) (op : Nat) (val : Word) : State :=
  s.accessLocked src page .timeU F.TIME_SET_CTRL.off (F.TIME_SET_CTRL_OP.put val op) (fun p v s => s.timeSetCtrl p v)

/-- R305: OP = SET. -/
def execTimeStepSet (src : Source) (page : PageIdx) (val : Word) (s : State) : Res := .next (s.timeSetWrite src page 1 val)
/-- R305: OP = ADD. -/
def execTimeStepAdd (src : Source) (page : PageIdx) (val : Word) (s : State) : Res := .next (s.timeSetWrite src page 2 val)
/-- R305: OP = SUBTRACT. -/
def execTimeStepSubtract (src : Source) (page : PageIdx) (val : Word) (s : State) : Res := .next (s.timeSetWrite src page 3 val)

/-- R304, R305: the step that waits takes effect. -/
def execTimeStepApply (d : Die) (s : State) : Res :=
  let t := s.timeOf d.val
  s.ifOperates (timePg d.val) (match t.waiting with
    | none => s
    | some w =>
      let delta : Int := match w with
        | .set v => ((v * fineUnit : Nat) : Int) - t.fine
        | .add v => v * fineUnit
      ((s.setTime d.val { t with waiting := none }).bset (timePg d.val) F.TIME_SET_CTRL_BUSY false).stepUnit d.val delta)

/-! ### The servo (R310-R312) -/

/-- One picosecond in 2^-16 ns is no whole number: thresholds in 2^-16 ns × 1,000. -/
def atMostPs (theta : Int) (ps : Nat) : Bool := decide (theta.natAbs * 1000 ≤ ps * nsUnits)

/-- The lock state after an offset (R312), with the runs of offsets that count toward the next. -/
def State.lockOffset (s : State) (d : Nat) (theta : Int) : State :=
  let pg := timePg d
  let t := s.timeOf d
  let within50 := atMostPs theta 50000
  let coarse := if within50 then t.coarseRun + 1 else 0
  let acquire (s : State) (n : Nat) : State :=
    let s := s.setTime d { s.timeOf d with coarseRun := n, fineRun := 0 }
    if n ≥ s.fget pg F.TIME_SERVO_CFG_COARSE_N ∧ s.lockState d = lkAcquire then s.setLockState d lkCoarse else s
  match s.lockState d with
  | 0 | 4 => (s.setLockState d lkAcquire) |> fun s => acquire s (if within50 then 1 else 0)
  | 1 => acquire s coarse
  | st =>
    if !within50 then (s.setTime d { t with coarseRun := 0, fineRun := 0 }).setLockState d lkAcquire
    else if st = lkFine then (if atMostPs theta 1000 then s else (s.setTime d { t with fineRun := 0 }).setLockState d lkCoarse)
    else
      let run := if atMostPs theta 200 then t.fineRun + 1 else 0
      let s := s.setTime d { t with fineRun := run }
      if s.flag pg F.TIME_CTRL_FINE_EN ∧ run ≥ s.fget pg F.TIME_SERVO_CFG_FINE_N then s.setLockState d lkFine else s

/-- Seconds since the previous offset, limited to 1 s (R311). -/
def State.servoTs (s : State) (d : Nat) : Rat :=
  let t := s.timeOf d
  match t.lastOffset with
  | none => 1
  | some m => min 1 ((t.mono - m : Nat) / ((fineUnit * nsUnits * 1000000000 : Nat) : Rat))

/-- The steering of R311 for an offset θ in 2^-16 ns; two offsets at one instant leave the quotient open. -/
def State.steer (s : State) (d : Nat) (theta : Int) : State :=
  let pg := timePg d
  let ts := s.servoTs d
  let (q, s) := if ts = 0 then let x := s.draw 64; ((x.1.toInt : Rat), x.2) else ((theta : Rat) / ts, s)
  let t := s.timeOf d
  let integ := t.integ + (s.fget pg F.TIME_SERVO_CFG_KI : Rat) / 256 * q
  (s.setTime d { t with integ := integ }).setRate d (-((s.fget pg F.TIME_SERVO_CFG_KP : Rat) / 256 * q + integ))

/-- Submit an offset to the servo of a unit (R310-R312). -/
def State.offset (s : State) (d : Nat) (theta : Int) : State :=
  let pg := timePg d
  let s := (s.setPair pg F.TIME_LAST_OFFSET_LO F.TIME_LAST_OFFSET_HI (BitVec.ofInt 64 theta).toNat).cadd pg F.TIME_OFFSETS
  let step := s.flag pg F.TIME_CTRL_STEP_EN && decide (theta.natAbs > s.fget pg F.TIME_STEP_NS_NS * nsUnits)
  let s := if step then s.stepUnit d (-theta * fineUnit) else s.steer d theta
  let s := s.setTime d { s.timeOf d with lastOffset := some (s.timeOf d).mono }
  s.lockOffset d theta

/-- A write of TIME_OFFSET_HI submits the offset. -/
def State.offsetSubmit (s : State) (p : Page) (val : Word) : State :=
  if s.follows p.n || decide (s.fget p F.TIME_CTRL_REF_SEL ≠ 0) then s.errCount p else
  let s := s.setReg p F.TIME_OFFSET_HI.off val
  s.offset p.n (BitVec.ofNat 64 (val.toNat * 2 ^ 32 + (s.reg p F.TIME_OFFSET_LO.off).toNat)).toInt

/-- R311: a write of TIME_OFFSET_HI. -/
def execTimeOffsetSubmit (src : Source) (page : PageIdx) (val : Word) (s : State) : Res :=
  .next (s.accessKind src page .timeU (F.TIME_OFFSET_HI.wr val) (fun p s => s.offsetSubmit p val))

/-- A write of TIME_CTRL (R310, R312): LATCH, REF_SEL and REF_CHANGE act. A unit that follows ignores its own reference. -/
def State.timeCtrl (s : State) (p : Page) (val : Word) : State :=
  let d := p.n
  let s := s.putRw p F.TIME_CTRL.off val
  let s := if F.TIME_CTRL_LATCH.of val = 1 then
      let full := s.full d
      let ns := full / nsUnits
      let s := s.fset p F.TIME_NOW_FRAC_FRAC (full % nsUnits)
      let s := s.fset p F.TIME_NOW_NS_NS (ns % 1000000000)
      s.setPair p F.TIME_NOW_SEC_LO F.TIME_NOW_SEC_HI (ns / 1000000000)
    else s
  if s.follows d then s
  else if F.TIME_CTRL_REF_SEL.of val = 2 then s.enterFree d
  else if F.TIME_CTRL_REF_CHANGE.of val = 1 ∧ 1 ≤ s.lockState d ∧ s.lockState d ≤ 3 then s.enterHoldover d
  else s

/-- R312: a write of TIME_CTRL with REF_CHANGE = 1. -/
def execTimeRefChange (src : Source) (page : PageIdx) (val : Word) (s : State) : Res :=
  .next (s.accessKind src page .timeU (F.TIME_CTRL.wr (F.TIME_CTRL_REF_CHANGE.put val 1))
    (fun p s => s.timeCtrl p (F.TIME_CTRL_REF_CHANGE.put val 1)))

/-- R310, R312: a write of TIME_CTRL that sets REF_SEL. -/
def execTimeRefSelWrite (src : Source) (page : PageIdx) (val : Word) (s : State) : Res :=
  .next (s.accessKind src page .timeU (F.TIME_CTRL.wr val) (fun p s => s.timeCtrl p val))

/-- R305: a write of TIME_CTRL with LATCH = 1. -/
def execTimeLatch (src : Source) (page : PageIdx) (val : Word) (s : State) : Res :=
  .next (s.accessKind src page .timeU (F.TIME_CTRL.wr (F.TIME_CTRL_LATCH.put val 1))
    (fun p s => s.timeCtrl p (F.TIME_CTRL_LATCH.put val 1)))

/-- R312: no offset for TIME_REF_TIMEOUT. -/
def execTimeRefTimeout (d : Die) (s : State) : Res :=
  s.ifOperates (timePg d.val) (if !s.follows d.val ∧ 1 ≤ s.lockState d.val ∧ s.lockState d.val ≤ 3 then s.enterHoldover d.val else s)

/-! ### One time on two dies (R315-R318) -/

/-- 15 ps in 2^-16 ns × 10^-9. -/
def alignBound : Nat := 983040000000

/-- The stern unit's time less the bow unit's. -/
def State.skew (s : State) : Int := ((s.timeOf 1).fine : Int) - (s.timeOf 0).fine

/-- The stern's own rate correction in 2^-16 ppb: 10 ppm toward the bow while it lies outside ±15 ps, and inside an open
value that keeps it there for the 1 µs to the next exchange. -/
def State.sternCorrection (s : State) : Int × State :=
  let theta := s.skew
  if theta > alignBound then (-(10000 * 65536), s)
  else if theta < -(alignBound : Int) then (10000 * 65536, s)
  else
    let room := (alignBound - theta.natAbs) / (1000 * 65536) + 1
    let x := s.draw 32
    ((x.1.toNat % room : Nat) * (if theta > 0 then -1 else 1), x.2)

/-- R315, R318: one exchange of stamped messages. -/
def execTimeFollowExchange (s : State) : Res :=
  let pg := timePg 1
  let sync := decide (s.fget (keelPg 1) F.KEEL_STATUS_PHASE = 2)
  let linked := decide (s.fget (keelPg 1) F.KEEL_STATUS_RX_ACTIVE > 0 ∧ s.fget (keelPg 1) F.KEEL_STATUS_TX_ACTIVE > 0)
  s.ifOperates (timePg 1) (if !(s.follows 1 || sync) || !linked then s else
    let theta := s.skew
    let s := if sync && decide (theta.natAbs > s.fget (keelPg 1) F.KEEL_REJOIN_CFG_STEP_NS * nsUnits * fineUnit) then
      s.stepTime 1 (-theta) else s
    let near := decide (theta.natAbs ≤ alignBound)
    let n := if near then min 16 ((s.timeOf 1).aligned + 1) else 0
    let (corr, s) := s.sternCorrection
    let s := s.setRate 1 ((s.freq 0 + corr : Int) : Rat)
    let s := s.setTime 1 { s.timeOf 1 with aligned := n, integ := -(s.freq 1 : Rat) }
    let s := s.bset pg F.TIME_LOCK_STATE_ALIGNED (decide (n ≥ 16))
    if s.follows 1 then s.setLockState 1 (if n ≥ 16 then s.lockState 0 else lkAcquire) else s)

/-- The stern unit stops following and holds its full rate (R317). -/
def State.unfollow (s : State) : State :=
  let s := s.setTime 1 { s.timeOf 1 with integ := -(s.freq 1 : Rat), aligned := 0 }
  ((s.bset (timePg 1) F.TIME_LOCK_STATE_FOLLOW false).bset (timePg 1) F.TIME_LOCK_STATE_ALIGNED false).enterHoldover 1

/-- R315: 1 ms without an exchange is loss of the stern unit's reference: it holds its rate, and while it follows its STATE reads
ACQUIRE. -/
def execTimeFollowLoss (s : State) : Res :=
  s.ifOperates (timePg 1) (if s.follows 1 then
    let s := s.setTime 1 { s.timeOf 1 with integ := -(s.freq 1 : Rat), aligned := 0, lastOffset := none }
    let s := (s.bset (timePg 1) F.TIME_LOCK_STATE_ALIGNED false).setRate 1 (s.freq 1 : Rat)
    ((s.raise (timePg 1) 9).cadd (timePg 1) F.TIME_HOLDOVERS).setLockState 1 lkAcquire
  else s)

/-- A unit reset of a time unit (R51, R312): a unit that follows goes on following, with its exchanges to count afresh; any other
enters FREE. `follow` is FOLLOW before the reset. -/
def State.timeReset (s : State) (d : Nat) (follow : Bool) : State :=
  let s := s.setTime d { s.timeOf d with waiting := none, aligned := 0, coarseRun := 0, fineRun := 0 }
  if follow then
    (s.bset (timePg d) F.TIME_LOCK_STATE_FOLLOW true).fset (timePg d) F.TIME_LOCK_STATE_STATE lkAcquire
  else s.enterFree d

/-- A die's time unit on entry to split operation (R294, R317). -/
def State.timeSplit (s : State) (d : Nat) : State :=
  if d = 1 then (if s.follows 1 then s.unfollow else s)
  else if 1 ≤ s.lockState 0 ∧ s.lockState 0 ≤ 3 then s.enterHoldover 0
  else s

/-! ### PPS, calibration and the stamp FIFO (R307, R321, R323, R324) -/

/-- The stamp of an edge at PPS_IN on a die, `sub` after the last tick in 2^-16 ns, corrected by TIME_PPS_IN_ADJ; none where the
input is not enabled (R323). -/
def State.ppsTime (s : State) (d sub : Nat) : Option Int :=
  if s.flag (timePg d) F.TIME_PPS_CFG_IN_EN then
    some ((s.full d : Int) + sub + (s.reg (timePg d) F.TIME_PPS_IN_ADJ.off).toInt)
  else none

/-- Hold the stamp of an edge (R323). -/
def State.ppsHold (s : State) (d : Nat) : Option Int → State
  | some t => s.setPair (timePg d) F.TIME_PPS_IN_STAMP_LO F.TIME_PPS_IN_STAMP_HI (BitVec.ofInt 64 t).toNat
  | none => s

/-- An edge feeds the servo of a unit whose reference is PPS (R310, R323). -/
def State.ppsServo (s : State) (d : Nat) : Option Int → State
  | some t =>
    if s.fget (timePg d) F.TIME_CTRL_REF_SEL = 1 ∧ !s.follows d then
      let sec : Int := 1000000000 * nsUnits
      let x := t % sec
      s.offset d (if x ≥ 500000000 * nsUnits then x - sec else x)
    else s
  | none => s

/-- R323: a rising edge at PPS_IN reaches both time units, each of which stamps it in its own time before either acts on it. -/
def execPpsInEdge (sub : BitVec 21) (s : State) : Res :=
  .next (if s.pins.pwrgood then
    let bow := s.ppsTime 0 sub.toNat
    let stern := s.ppsTime 1 sub.toNat
    (((s.ppsHold 0 bow).ppsHold 1 stern).ppsServo 0 bow).ppsServo 1 stern
  else s)

/-- R323: an expected edge is missing for 1.5 s. -/
def execPpsInMiss (d : Die) (s : State) : Res :=
  s.ifOperates (timePg d.val) (s.raiseIf (s.flag (timePg d.val) F.TIME_PPS_CFG_IN_EN) (timePg d.val) 12)

/-- The whole second that network time of the bow die, less TIME_PPS_OUT_ADJ, has passed within the last AON_CLK period; the model's
time has the resolution of one period (R324). -/
def State.ppsPassed (s : State) : Option Int :=
  let sec : Int := 1000000000 * nsUnits
  let t : Int := (s.full 0 : Int) - (s.reg (timePg 0) F.TIME_PPS_OUT_ADJ.off).toInt
  if t % sec * fineUnit < tickLength (s.freq 0) then some (t / sec) else none

/-- R324: network time of the bow die passes a whole second. -/
def execPpsOutRise (s : State) : Res :=
  let t := s.timeOf 0
  s.ifOperates (timePg 0) (match s.ppsPassed with
    | some n =>
      if s.flag (timePg 0) F.TIME_PPS_CFG_OUT_EN && !t.ppsOut && decide (t.ppsSecond ≠ some n) then
        (s.setTime 0 { t with ppsOut := true, ppsSecond := some n, ppsRise := t.mono }).emit (.pin 2 true)
      else s
    | none => s)

/-- R324: WIDTH_US after its rise, PPS_OUT falls. -/
def execPpsOutFall (s : State) : Res :=
  let t := s.timeOf 0
  let width := s.fget (timePg 0) F.TIME_PPS_CFG_WIDTH_US * 1000 * nsUnits * fineUnit
  s.ifOperates (timePg 0) (if t.ppsOut && decide (t.ppsRise + width ≤ t.mono) then
    (s.setTime 0 { t with ppsOut := false }).emit (.pin 2 false) else s)

/-- R307: the fixed latency of a port is measured after its entry to UP. -/
def execTimePortCalDone (p : Port) (s : State) : Res :=
  s.ifOperates (timePg (portDie p.val)) (if s.portUp p.val then s.bset (portPg p.val) F.TIME_PORT_CAL_DONE true else s)

/-- Read TIME_TXSTAMP_META: the head entry of the FIFO is returned and removed (R321). -/
def State.popStamp (s : State) (p : Page) : State :=
  let t := s.timeOf p.n
  match t.txFifo with
  | [] => s.bset p F.TIME_TXSTAMP_META_VALID false
  | e :: r =>
    let s := s.setTime p.n { t with txFifo := r }
    let s := s.setReg p F.TIME_TXSTAMP_META.off
      (BitVec.ofNat 32 (2 ^ 31 + fieldAt e.port 29 20 + fieldAt e.msgType 19 16 + fieldAt e.seqId 15 0))
    s.setPair p F.TIME_TXSTAMP_LO F.TIME_TXSTAMP_HI e.stamp.toNat

/-- R321: a read of TIME_TXSTAMP_META. VALID clears as it is read. -/
def execTxstampPop (src : Source) (page : PageIdx) (s : State) : Res :=
  .next (s.access src page (F.TIME_TXSTAMP_META.off, none) (fun p s =>
    if p.kind = .timeU then
      let s := s.popStamp p
      (s.emit (.readData src page.toNat F.TIME_TXSTAMP_META.off (s.reg p F.TIME_TXSTAMP_META.off))).bset p
        F.TIME_TXSTAMP_META_VALID false
    else s.countUnmapped src))

/-! ### Comparators (R327, R328) -/

/-- A write of TIME_CMP_CFG; a comparator is armed with the target that its registers hold. -/
def State.cmpArm (s : State) (p : Page) (n : Nat) (val : Word) : State :=
  if F.TIME_CMP_CFG_ARM.of val = 1 ∧ F.TIME_CMP_CFG_PERIODIC.of val = 1 ∧ s.cmpPeriod p.n n < 1000 then s.errCount p else
  let s := s.putRw p (F.TIME_CMP_CFG.at n) val
  if F.TIME_CMP_CFG_ARM.of val = 0 then s else
  (s.setCmp p.n n {}).cmpBase p.n n

/-- R328: a write of TIME_CMP_CFGn. -/
def execCmpArmWrite (src : Source) (page : PageIdx) (n : Fin 32) (val : Word) (s : State) : Res :=
  .next (s.accessKind src page .timeU (F.TIME_CMP_CFG.wr val n.val) (fun p s => s.cmpArm p n.val val))

end Sys2Proof.Machine
end

