-- ==== Sys2Proof/Machine/Keel.lean ====
section
/-!
DEFINITION. The keel: cells, credits and control messages, sub-links, split operation and rejoin (09 R283-R299; 02 R60;
07 R235, R250; 10 R317-R318).
-/
namespace Sys2Proof.Machine

/-! ### Sub-links (R289-R292) -/

def slOff : Nat := 0
def slTrain : Nat := 1
def slSpare : Nat := 2
def slActive : Nat := 3
def slFailed : Nat := 4
def slDisabled : Nat := 5

/-- State of transmitter `i` of a die, and of its receiver `i`. -/
def State.subTx (s : State) (d i : Nat) : Nat := s.fget (keelPg d) F.KEEL_SUBLINK_TX_STATE i
def State.subRx (s : State) (d i : Nat) : Nat := s.fget (keelPg d) F.KEEL_SUBLINK_RX_STATE i

def State.forced (s : State) (d : Nat) : Bool := s.flag (keelPg d) F.KEEL_CTRL_FORCE_SPLIT

/-- Transmitters of a die in a state, and receivers. -/
def State.txIn (s : State) (d st : Nat) : List Nat := (List.range 66).filter (fun i => s.subTx d i = st)
def State.rxIn (s : State) (d st : Nat) : List Nat := (List.range 66).filter (fun i => s.subRx d i = st)

/-- Bring the counts of a die's keel page up to date; a direction that falls below 64 raises DEGRADED on the sending die
(R283, R292). -/
def State.keelCount (s : State) (d : Nat) : State :=
  let pg := keelPg d
  let was := s.fget pg F.KEEL_STATUS_TX_ACTIVE
  let n := if s.forced d then 0 else (s.txIn d slActive).length
  let s := s.fset pg F.KEEL_STATUS_TX_ACTIVE n
  let s := s.fset pg F.KEEL_STATUS_RX_ACTIVE (s.rxIn d slActive).length
  let s := s.fset pg F.KEEL_CAPACITY_TX_GBPS (1600 * n)
  s.raiseIf (decide (n < 64 ∧ was ≥ 64)) pg 9

def State.keelCounts (s : State) : State := (s.keelCount 0).keelCount 1

/-- Set the state of both ends of transmitter `i` of a die. -/
def State.setSub (s : State) (d i st : Nat) : State :=
  ((s.fset (keelPg d) F.KEEL_SUBLINK_TX_STATE st i).fset (keelPg (1 - d)) F.KEEL_SUBLINK_RX_STATE st i)

/-- A side of a sub-link enters FAILED (R298, R299). -/
def State.subFailed (s : State) (d : Nat) : State := (s.cadd (keelPg d) F.KEEL_SUBLINK_FAILS).raise (keelPg d) 8

/-- The lowest-numbered SPARE of a direction becomes ACTIVE; a receiver that has already declared it failed stays so (R289). -/
def State.promote (s : State) (d : Nat) : State :=
  match s.txIn d slSpare with
  | i :: _ =>
    if s.subRx (1 - d) i = slSpare then s.setSub d i slActive
    else s.fset (keelPg d) F.KEEL_SUBLINK_TX_STATE slActive i
  | [] => s

/-- With RETRY_EN = 1 a sub-link that has failed on both sides is powered down: both enter OFF, and KEEL_RETRY runs (R289). -/
def State.powerDown (s : State) (d i : Nat) : State :=
  if s.flag (keelPg d) F.KEEL_CTRL_RETRY_EN && s.subTx d i = slFailed && s.subRx (1 - d) i = slFailed then
    let s := s.setSub d i slOff
    let k := s.keelOf d
    s.setKeel d { k with retry := if k.retry.contains i then k.retry else k.retry ++ [i] }
  else s

/-! ### Frames that the keel loses (R250, R286, R291, R294) -/

/-- Cells of a copy that will not come count as written, so that its transmission can end (R250). -/
def State.endCells (s : State) (d part : Nat) : State := s.updPasses d part (fun c => { c with written := c.cells })

/-- Lose a frame that crosses from die `d`: it is recorded once, on the egress die when that has its first cell, else on the
ingress die; `count` when R298 counts it. Its cells in flight still arrive and are discarded (R288). -/
def State.loseFrame (s : State) (d : Nat) (x : Crossing) (count : Bool) : State :=
  let k := s.keelOf d
  let s := s.setKeel d { k with tx := k.tx.filter (fun y => y.uid ≠ x.uid) }
  match s.frm x.uid with
  | none => s
  | some f =>
    if f.gone then s else
    let e := if x.first then 1 - d else d
    let s := if count then s.cadd (keelPg e) F.KEEL_LOST_FRAMES else s
    let c : Copy := { uid := x.uid, port := f.outPort, mcast := match f.target with | some (.mcast _) => true | _ => false }
    if !x.admitted then s.dropAt e x.uid c dKeel
    else if (s.admits.get [] e).contains x.uid then
      ({ s with admits := s.admits.set [] e ((s.admits.get [] e).erase x.uid) }).dropAt e x.uid c dKeel
    else ((s.updFrm x.uid (fun f => { f with lost := true })).spoil e x.uid dKeel).endCells e x.uid

/-- Frames that have crossed to die `d` go to admission in the order of their tags (R285). -/
def admitRun : List Crossing → List Nat × List Crossing
  | [] => ([], [])
  | x :: r =>
    if !x.first then ([], x :: r)
    else
      let q := admitRun r
      let x' := { x with admitted := true }
      (if x.admitted then q.1 else x.uid :: q.1, if x.got < x.cells then x' :: q.2 else q.2)

def State.admitCrossings (s : State) (d : Nat) : State :=
  let k := s.keelOf (1 - d)
  let r := admitRun k.tx
  r.1.foldl (fun s u => (s.updFrm u (fun f => { f with holder := d })).toAdmit d u) (s.setKeel (1 - d) { k with tx := r.2 })

/-- Lose a frame; those received behind its TAG go on to admission (R250, R285). -/
def State.loseCrossing (s : State) (d : Nat) (x : Crossing) (count : Bool) : State :=
  (s.loseFrame d x count).admitCrossings (1 - d)

/-! ### Cells (R284, R285, R288) -/

/-- Do control cells flow from a die: not in phase SPLIT (R294, R296)? -/
def State.ctrlFlows (s : State) (d : Nat) : Bool := decide (s.fget (keelPg d) F.KEEL_STATUS_PHASE ≠ 1)


/-- The next ACTIVE transmitter after the one used last. -/
def State.nextSub (s : State) (d : Nat) (not : Option Nat) : Option Nat :=
  let l := if s.forced d then [] else s.txIn d slActive
  let l' := match not with
    | some i => if l.length > 1 then l.filter (· ≠ i) else l
    | none => l
  match l'.find? (fun i => decide ((s.keelOf d).rot ≤ i)) with
  | some i => some i
  | none => l'.head?

/-- Kinds of cells. -/
def kIdle : Nat := 0
def kCtrl : Nat := 8
def kAck : Nat := 9
def dataKind (idx cells : Nat) : Nat := if cells = 1 then 4 else if idx = 0 then 1 else if idx + 1 = cells then 3 else 2

/-- The CTRL_TYPE of a message; the spec gives no codes. -/
def Ctrl.type : Ctrl → BitVec 8
  | .learn _ => Config.ctrlType 0
  | .pfc _ _ _ => Config.ctrlType 1
  | .subFail _ => Config.ctrlType 2
  | .void _ => Config.ctrlType 3
  | .member _ _ => Config.ctrlType 4
  | .access _ => Config.ctrlType 5
  | .answer _ _ => Config.ctrlType 6
  | .summary _ => Config.ctrlType 7
  | .budget _ _ _ => Config.ctrlType 8

/-- The header of a cell (R284). -/
def cellHeader (kind seq tag idx len dest queue mc credits type : Nat) : List Byte :=
  beBytes 16 (fieldAt kind 127 124 + fieldAt seq 123 112 + fieldAt tag 111 96 + fieldAt idx 95 90 + fieldAt len 89 82 +
    fieldAt dest 81 69 + fieldAt queue 68 65 + fieldAt mc 64 64 + fieldAt credits 63 56 + fieldAt type 55 48)

/-- A cell as it leaves: its header, extension and payload, and a CRC-32C over them (R284). The spec does not give the byte order
of the CRC; it goes most significant byte first, as the header does (DESIGN CHOICE). -/
def cellBytes (header rest : List Byte) : List Byte :=
  let b := header ++ rest
  b ++ beBytes 4 (crc32c b).toNat

/-- The payload of a cell whose format the spec does not give. -/
def openPayload (x : Fin 256 × BitVec 2048) : List Byte := (beBytes 256 x.2.toNat).take (x.1.val + 1)

/-- Put a cell on a sub-link: it takes the next sequence number and the credits that are due. -/
def State.putCell (s : State) (d sub : Nat) (body : CellBody) (bad : Bool) : KeelCell × State :=
  let k := s.keelOf d
  let seq := k.seqs.get 0 sub
  let n := min 255 k.due
  let c : KeelCell := { sub := sub, seq := seq, body := body, credits := n, bad := bad }
  (c, s.setKeel d { k with due := k.due - n, seqs := k.seqs.set 0 sub ((seq + 1) % 4096), flight := k.flight ++ [c] })

/-- Credits come back to a die. -/
def State.creditBack (s : State) (d n : Nat) : State :=
  let k := s.keelOf d
  s.setKeel d { k with used := k.used - n }

/-- Send a control message on a sub-link. -/
def State.sendCtrlCell (s : State) (d sub : Nat) (m : CtrlOut) : State :=
  let (c, s) := s.putCell d sub (.ctrl m.num m.msg) false
  let k := s.keelOf d
  let s := s.setKeel d { k with
    rot := sub + 1, ctrl := k.ctrl.map (fun x => if x.num = m.num then { x with sentOn := some (sub, c.seq) } else x) }
  let body := openPayload (Config.ctrlBody d m.num)
  s.emit (.keelCell d sub kCtrl c.seq m.num
    (cellBytes (cellHeader kCtrl c.seq 0 0 (body.length - 1) 0 0 0 c.credits m.msg.type.toNat) body))

/-- DEST, MC and QUEUE of a frame's cells. -/
def State.cellDest (s : State) (f : Frm) : Nat × Nat × Nat :=
  match f.target with
  | some (.mcast g) => (g, 1, 0)
  | some (.port p) => (p, 0, match f.kind with | .injected | .stream => f.queue | _ => s.queueOf p f.tc)
  | _ => (0, 0, 0)

/-- May the next cell of a crossing frame be sent: its last only once the frame is whole and its verdict known? -/
def State.cellReady (s : State) (x : Crossing) : Bool :=
  decide (x.sent < x.cells) && (match s.frm x.uid with
    | some f => decide (x.sent + 1 < x.cells) || (f.lastByte && f.verdict ≠ .waiting)
    | none => true)

/-- Send the next cell of a frame. -/
def State.sendDataCell (s : State) (d sub : Nat) (x : Crossing) : State :=
  let (c, s) := s.putCell d sub (.data x.uid x.sent) false
  let k := s.keelOf d
  let s := s.setKeel d { k with
    rot := sub + 1, used := k.used + 1,
    tx := k.tx.map (fun y => if y.uid = x.uid then { y with sent := y.sent + 1 } else y) }
  let s := s.cadd (keelPg d) F.KEEL_TX_CELLS
  match s.frm x.uid with
  | none => s
  | some f =>
    let body := slice (f.bytes ++ beBytes 4 f.fcs.toNat) (256 * x.sent) (min 256 (f.bytes.length + 4 - 256 * x.sent))
    let (dest, mc, q) := s.cellDest f
    let kind := dataKind x.sent x.cells
    let ext := if x.sent = 0 then beBytes 48 (Config.cellExt d x.uid).toNat else []
    (s.chargeFrm d x.uid 4 1).emit (.keelCell d sub kind c.seq x.tag
      (cellBytes (cellHeader kind c.seq x.tag x.sent (body.length - 1) dest q mc c.credits 0) (ext ++ body)))

/-- R288: a waiting cell is sent, control messages first; a frame whose data the transmit buffer cannot give back is dropped
with KEEL_DOWN (R460). -/
def execKeelCellSend (d : Die) (hold : EccErr) (s : State) : Res :=
  let d := d.val
  let k := s.keelOf d
  s.ifOperates (keelPg d) (if !s.dieUp d || !s.ctrlFlows d then s else
    match s.nextSub d none with
    | none => s
    | some sub =>
      match k.ctrl.find? (fun m => m.sentOn.isNone) with
      | some m => s.sendCtrlCell d sub m
      | none =>
        if k.used ≥ 16384 || s.apart d then s else
        match k.tx.find? s.cellReady with
        | none => s
        | some x =>
          match hold with
          | .ok => s.sendDataCell d sub x
          | .corrected => (s.integrity d 10).sendDataCell d sub x
          | .uncorr => (s.integrity d 11).loseCrossing d x false)

/-! ### Receivers (R285, R286, R288, R290) -/

/-- The cell that arrives next on a receiver of die `d`, if the receiver is in service. -/
def State.arriving (s : State) (d sub : Nat) : Option KeelCell :=
  if s.subRx d sub = slActive ∨ s.subRx d sub = slSpare then
    (s.keelOf (1 - d)).flight.find? (fun c => decide (c.sub = sub) && !c.lost)
  else none

/-- A cell fails its CRC: it is discarded and counted (R286). More errors than CRC_LIMIT in a window of 1 ms of the die are a
failure condition (R290); the windows are those from whole milliseconds on (DESIGN CHOICE: the spec gives no start). -/
def State.crcError (s : State) (d sub : Nat) : State :=
  let s := (s.cadd (keelPg d) F.KEEL_CRC_ERRORS).fsat (keelPg d) F.KEEL_SUBLINK_CRC_ERR 1 sub
  let k := s.keelOf d
  let now := s.monoNs d / 1000000
  let was := k.crcWindow.get (0, 0) sub
  let n := if was.1 = now then was.2 + 1 else 1
  let limit := s.fget (keelPg d) F.KEEL_CTRL_CRC_LIMIT
  let past := decide (limit ≠ 0 ∧ limit < n) && !k.crcOver.contains sub
  s.setKeel d { k with
    crcWindow := k.crcWindow.set (0, 0) sub (now, n), crcOver := if past then k.crcOver ++ [sub] else k.crcOver }

/-- A cell lands on a receiver of die `d`: a gap in SEQ is a failure condition (R290), a cell whose CRC fails is discarded, and a
good one brings back its credits (R286, R288). -/
def State.landCell (s : State) (d : Nat) (c : KeelCell) (good : Bool) : State :=
  let o := s.keelOf (1 - d)
  let s := s.setKeel (1 - d) { o with flight := o.flight.erase c }
  let k := s.keelOf d
  let gap := decide (k.expect.get 0 c.sub ≠ c.seq) && !k.gaps.contains c.sub
  let s := s.setKeel d { k with
    expect := k.expect.set 0 c.sub ((c.seq + 1) % 4096), gaps := if gap then k.gaps ++ [c.sub] else k.gaps }
  if good then s.creditBack d c.credits else s.crcError d c.sub

/-- IDLE cells that have reached a receiver of die `d` land: no command of the table stands for their arrival. -/
def State.landIdles (s : State) (d sub : Nat) : Nat → State
  | 0 => s
  | fuel + 1 =>
    match s.arriving d sub with
    | none => s
    | some c => if c.body = .idle then State.landIdles (s.landCell d c (!c.bad)) d sub fuel else s

/-- Land a cell, and the IDLE cells behind it. -/
def State.landed (s : State) (d : Nat) (c : KeelCell) (good : Bool) : State :=
  let s := s.landCell d c good
  s.landIdles d c.sub (s.keelOf (1 - d)).flight.length

/-- The line loses a cell: its receiver does not see it. -/
def State.loseCell (s : State) (d : Nat) (c : KeelCell) : State :=
  let o := s.keelOf (1 - d)
  s.setKeel (1 - d) { o with flight := o.flight.map (fun x => if x = c then { x with lost := true } else x) }

/-- R285: a sub-link with nothing else to send sends an IDLE cell, which arrives behind the cells that the sub-link carries. -/
def execKeelIdleSend (d : Die) (sub : IdleSend) (s : State) : Res :=
  let d := d.val
  let good := sub.good
  let sub := sub.sub
  s.ifOperates (keelPg d) (if !s.dieUp d || s.forced d || !(s.subTx d sub.val = slActive || s.subTx d sub.val = slSpare) then s else
    let (c, s) := s.putCell d sub.val .idle (!good)
    let s := s.emit (.keelCell d sub.val kIdle c.seq 0 (cellBytes (cellHeader kIdle c.seq 0 0 0 0 0 0 c.credits 0) []))
    s.landIdles (1 - d) sub.val (s.keelOf d).flight.length)

/-- The receiver owes the credit of a data cell, written or discarded (R288). -/
def State.owe (s : State) (d : Nat) : State :=
  let k := s.keelOf d
  s.setKeel d { k with due := k.due + 1 }

/-- R285, R286, R288: a data cell arrives on a receiver of a die; one of a frame that is lost is discarded. -/
def execKeelCellRx (d : Die) (sub : SubLink) (fate : CellFate) (s : State) : Res :=
  let d := d.val
  s.ifOperates (keelPg d) (if s.apart d then s else
    match s.arriving d sub.val with
    | none => s
    | some c =>
      match c.body with
      | .data uid idx =>
        if fate = .lost then s.loseCell d c else
        let s := (s.landed d c (fate = .good)).owe d
        let x := (s.keelOf (1 - d)).tx.find? (fun y => y.uid = uid)
        if fate = .bad then
          match x with
          | some x => s.loseCrossing (1 - d) x false
          | none => s
        else
          let s := s.cadd (keelPg d) F.KEEL_RX_CELLS
          let k := s.keelOf (1 - d)
          let s := s.setKeel (1 - d) { k with tx := k.tx.map (fun y =>
            if y.uid = uid then { y with got := y.got + 1, first := y.first || idx = 0 } else y) }
          s.admitCrossings d
      | _ => s)

/-! ### Control messages (R287, R291) -/

/-- Frames with a cell in flight on a sub-link, and how many such cells there are. -/
def State.cellsOn (s : State) (d i : Nat) : List Nat :=
  (s.keelOf d).flight.filterMap (fun c => match c.body with | .data u _ => if c.sub = i then some u else none | _ => none)

/-- Transmitter `i` of die `d` leaves service: frames with a cell on it are lost, and a SPARE takes its place (R291). The sender
has the credits of the cells that were lost with it again (DESIGN CHOICE: no receiver can return them). -/
def State.stopSub (s : State) (d i st : Nat) : State :=
  let was := s.subTx d i
  let s := s.fset (keelPg d) F.KEEL_SUBLINK_TX_STATE st i
  let gone := s.cellsOn d i
  let s := s.creditBack d gone.length
  let k := s.keelOf d
  let s := s.setKeel d { k with flight := k.flight.filter (fun c => c.sub ≠ i) }
  let s := ((s.keelOf d).tx.filter (fun x => gone.contains x.uid)).foldl (fun s x => s.loseCrossing d x true) s
  ((if was = slActive then s.promote d else s).powerDown d i).keelCounts

/-- A frame that MACsec refused leaves die `d`: its cells are freed without a record (R368). -/
def State.voidOn (s : State) (d uid : Nat) : State :=
  let s := (s.copies d).foldl (fun s c => if c.uid = uid then s.unqueue d c else s) s
  ({ s with admits := s.admits.set [] d ((s.admits.get [] d).erase uid) }).dropFrm uid

/-- R287: an acknowledgement reaches the die that sent the control cell: the first to arrive of those in flight. -/
def execKeelAckRx (d : Die) (fate : CellFate) (s : State) : Res :=
  let d := d.val
  let first (i : Nat) : Option (KeelCell × Nat × Nat) := (s.arriving d i).bind (fun c =>
    match c.body with | .ack sub seq => some (c, sub, seq) | _ => none)
  s.ifOperates (keelPg d) (match (List.range 66).findSome? first with
    | none => s
    | some (c, sub, seq) =>
      if fate = .lost then s.loseCell d c else
      let s := s.landed d c (fate = .good)
      if fate = .bad then s else
      let k := s.keelOf d
      s.setKeel d { k with ctrl := k.ctrl.filter (fun m => m.sentOn ≠ some (sub, seq)) })

/-- R287: a control cell that 1 µs has not seen acknowledged is sent again on another ACTIVE sub-link. -/
def execKeelCtrlResend (d : Die) (num : Nat) (s : State) : Res :=
  let d := d.val
  s.ifOperates (keelPg d) (match (s.keelOf d).ctrl.find? (fun m => m.num = num) with
    | none => s
    | some m =>
      match m.sentOn with
      | none => s
      | some (was, _) =>
        match s.nextSub d (some was) with
        | none => s
        | some sub => (s.sendCtrlCell d sub m).cadd (keelPg d) F.KEEL_CTRL_RESENT)

/-- Has a receiver met a condition of R290 that the die itself detects? Loss of lock and silence are seen on the line. -/
def State.subFault (s : State) (d i : Nat) : SubFault → Bool
  | .gap => (s.keelOf d).gaps.contains i
  | .crc => (s.keelOf d).crcOver.contains i
  | .lock | .silence => true

/-- A receiver's conditions of R290 are behind it. -/
def State.clearFaults (s : State) (d i : Nat) : State :=
  let k := s.keelOf d
  s.setKeel d { k with gaps := k.gaps.filter (· ≠ i), crcOver := k.crcOver.filter (· ≠ i), crcWindow := k.crcWindow.set (0, 0) i (0, 0) }

/-- R290: the receiver of a die declares a sub-link failed and informs the sender. -/
def execSublinkFailDetect (d : Die) (sub : SubFailure) (s : State) : Res :=
  let d := d.val
  let cause := sub.cause
  let sub := sub.sub
  s.ifOperates (keelPg d) (if (s.subRx d sub.val = slActive ∨ s.subRx d sub.val = slSpare) ∧ s.subFault d sub.val cause then
    let s := ((s.fset (keelPg d) F.KEEL_SUBLINK_RX_STATE slFailed sub.val).subFailed d).clearFaults d sub.val
    (s.sendCtrl d (.subFail sub.val)).keelCounts
  else s)

/-! ### Training (R289) -/

/-- R289: a transmitter in OFF starts training, after a failure only with RETRY_EN = 1. -/
def execSublinkTrainStart (d : Die) (sub : SubLink) (s : State) : Res :=
  let d := d.val
  let i := sub.val
  let k := s.keelOf d
  let may := s.subTx d i = slOff && (!k.retry.contains i || s.flag (keelPg d) F.KEEL_CTRL_RETRY_EN)
  s.ifOperates (keelPg d) (if s.rolled 0 && s.rolled 1 && !s.forced d && may then
    (s.setKeel d { k with retry := k.retry.filter (· ≠ i) }).setSub d i slTrain
  else s)

/-- The first training of a die's transmitters has ended when none is in OFF or TRAIN, those that have failed apart; with fewer
than 64 ACTIVE sub-links it raises DEGRADED (R292, R293). -/
def State.firstTraining (s : State) (d : Nat) : State :=
  let k := s.keelOf d
  if k.trained || (List.range 66).any (fun i => (s.subTx d i = slOff && !k.retry.contains i) || s.subTx d i = slTrain) then s
  else (s.setKeel d { k with trained := true }).raiseIf (decide ((s.txIn d slActive).length < 64)) (keelPg d) 9

/-- The receiver of a sub-link that has trained expects the sender's next SEQ. -/
def State.syncSeq (s : State) (d i : Nat) : State :=
  let e := s.keelOf (1 - d)
  (s.setKeel (1 - d) { e with expect := e.expect.set 0 i ((s.keelOf d).seqs.get 0 i) }).clearFaults (1 - d) i

/-- R289: a sub-link has trained. In the first training the 64 lowest-numbered become ACTIVE. -/
def execSublinkTrained (d : Die) (sub : SubLink) (s : State) : Res :=
  let d := d.val
  let i := sub.val
  let act := s.txIn d slActive
  s.ifOperates (keelPg d) (if s.subTx d i ≠ slTrain then s else
    let s :=
      if act.length < 64 then s.setSub d i slActive
      else match (s.keelOf d).trained, act.getLast? with
        | false, some j => if i < j then (s.setSub d j slSpare).setSub d i slActive else s.setSub d i slSpare
        | _, _ => s.setSub d i slSpare
    ((s.syncSeq d i).firstTraining d).keelCounts)

/-- R289: 1 ms has passed without training. -/
def execSublinkTrainTimeout (d : Die) (sub : SubLink) (s : State) : Res :=
  let d := d.val
  s.ifOperates (keelPg d) (if s.subTx d sub.val ≠ slTrain then s else
    (((((s.setSub d sub.val slFailed).subFailed d).subFailed (1 - d)).firstTraining d).powerDown d sub.val).keelCounts)

/-- A write of DISABLE of a sub-link: it acts on the die's transmitter (R289, R291). -/
def State.subDisable (s : State) (p : Page) (i : Nat) (val : Word) : State :=
  let d := p.n
  let was := s.subTx d i
  let s := s.putRw p (F.KEEL_SUBLINK.at i) val
  if F.KEEL_SUBLINK_DISABLE.of val = 1 then
    if was = slDisabled then s else
    (((s.stopSub d i slDisabled).setSub d i slDisabled).firstTraining d).keelCounts
  else if was = slDisabled then (s.setSub d i slOff).keelCounts
  else s

/-- R289: DISABLE written 1. -/
def execSublinkDisable (src : Source) (page : PageIdx) (sub : SubLink) (val : Word) (s : State) : Res :=
  .next (s.accessLocked src page .keel (F.KEEL_SUBLINK.at sub.val) (F.KEEL_SUBLINK_DISABLE.put val 1)
    (fun p v s => s.subDisable p sub.val v))

/-- R289: DISABLE written 0. -/
def execSublinkEnable (src : Source) (page : PageIdx) (sub : SubLink) (val : Word) (s : State) : Res :=
  .next (s.accessLocked src page .keel (F.KEEL_SUBLINK.at sub.val) (F.KEEL_SUBLINK_DISABLE.put val 0)
    (fun p v s => s.subDisable p sub.val v))

/-! ### Entry into split operation (R60, R293, R294, R317) -/

/-- Release a lock, setting ERR on its page (R60). -/
def State.loseLock (s : State) (p : Page) : State := (s.setLock p none).raise p 2

/-- The locks of a die's pages on its entry to split operation, and those of the two instances of the device page when the
first die enters: each starts from the lock held, and the instance that does not serve its holder releases it (R60). -/
def State.splitLocks (s : State) (d : Nat) (first : Bool) : State :=
  let other (l : Lock) : Bool := if d = 0 then l.src = .f1 else l.src ≠ .f1
  let s := (s.heldLocks.filter (fun x => x.1.kind ≠ .device && x.1.die = d && other x.2)).foldl (fun s x => s.loseLock x.1) s
  if !first then s else
  match s.lockOf ⟨.device, 0⟩ with
  | some l => if l.src = .f1 then (s.loseLock ⟨.device, 0⟩).setLock ⟨.device, 1⟩ (some l) else s.loseLock ⟨.device, 1⟩
  | none => s

/-- Recompute what the device pages show of their children, after the tree above the dies has changed (R48, R60). -/
def State.resyncDevice (s : State) : State :=
  let kids : List Page := [diePg 0, diePg 1, keelPg 0, keelPg 1, coxPg 0, coxPg 1, otpPg]
  let s := [0, 1].foldl (fun s dev =>
    let q : Page := ⟨.device, dev⟩
    let w := kids.foldl (fun w k => match s.irqParent k with
      | some (r, b) => if r = q && s.irqOut k then w ||| BitVec.ofNat 32 (2 ^ b) else w
      | none => w) (0 : Word)
    s.irqUpd q (fun s =>
      let s := s.setReg q F.PAGE_IRQ_CHILD.off w
      s.setReg q F.PAGE_IRQ_STATUS.off (Fld.put ⟨0x18, 0, 0, 1⟩ (s.reg q F.PAGE_IRQ_STATUS.off) (s.flag q F.PAGE_IRQ_CHILD).toNat))) s
  [0, 1].foldl (fun s dev => [1, 2, 3].foldl (fun s b => s.setStatusFrom ⟨.device, dev⟩ b 2) s) s

/-- Change KEEL_STATUS.SPLIT of a die: PAGE_STATUS.SPLIT of its die page and of the device page changes with it (R47). -/
def State.setSplit (s : State) (d : Nat) (b : Bool) : State :=
  let s := (s.bset (keelPg d) F.KEEL_STATUS_SPLIT b).resyncDevice
  (s.raise (diePg d) 1).raise ⟨.device, if b then d else 0⟩ 1

/-- The accesses to the other die's pages that are under way when the keel is lost complete as accesses to unmapped pages: writes
whose control message has not been acknowledged, and reads that have no answer (R42, R294). -/
def State.accessesLost (s : State) (d : Nat) : State :=
  let k := s.keelOf d
  let writes := k.ctrl.filterMap (fun m => match m.msg with | .access a => if a.val.isSome then some a else none | _ => none)
  let s := (writes ++ k.asked).foldl (fun s a => s.countUnmapped a.src) s
  let s := k.asked.foldl (fun s a => s.emit (.readData a.src a.page.toNat a.off 0)) s
  s.setKeel d { s.keelOf d with asked := [] }

/-- Frames of die `d` that the loss of the keel takes: those in its transmit buffer or in flight, and those in flight to it, each
recorded by the die that R291 gives (R294). -/
def State.dropCrossings (s : State) (d : Nat) : State :=
  let s := ((s.keelOf d).tx.filter (fun x => !x.first)).foldl (fun s x => s.loseFrame d x true) s
  ((s.keelOf (1 - d)).tx.filter Crossing.first).foldl (fun s x => s.loseFrame (1 - d) x true) s

/-- Discard a die's control messages that have not been acknowledged, with what they would have done at once (R294, R368). -/
def State.dropMessages (s : State) (d : Nat) : State :=
  let s := s.accessesLost d
  let s := (s.keelOf d).ctrl.foldl (fun s m => match m.msg with | .void u => s.voidOn (1 - d) u | _ => s) s
  let k := s.keelOf d
  s.setKeel d { k with ctrl := [], inHold := [], flight := [], used := 0, due := 0 }

/-- A transmitter whose receiver has declared the sub-link failed learns of it with the loss of the keel. -/
def State.settleSubs (s : State) (d : Nat) : State :=
  ((List.range 66).filter (fun i => s.subRx (1 - d) i = slFailed && (s.subTx d i = slActive || s.subTx d i = slSpare))).foldl
    (fun s i => ((s.fset (keelPg d) F.KEEL_SUBLINK_TX_STATE slFailed i).subFailed d).powerDown d i) s

/-- The pause conditions of the other die no longer act on a die's ports (R235). -/
def State.pauseApart (s : State) (d : Nat) : State := s.setBuf d { s.bufOf d with remote := [] }

/-- What die `d` does on entry to split operation (R294, R450). -/
def State.splitEnter (s : State) (d : Nat) : State :=
  let first := !s.split (1 - d)
  let s := s.dropCrossings d
  let learns := (s.keelOf d).ctrl.countP (fun m => match m.msg with | .learn _ => true | _ => false)
  let s := s.dropMessages d
  let s := if learns = 0 then s else s.cadd (keelPg d) F.KEEL_LEARN_LOST learns
  let s := s.settleSubs d
  let s := (s.splitLocks d first).fset (keelPg d) F.KEEL_STATUS_PHASE 1
  let s := ((s.setSplit d true).raise (keelPg d) 10).cadd (keelPg d) F.KEEL_SPLITS
  let s := s.pauseApart d
  let s := s.setCox d { s.coxOf d with budget := 1000 * s.fget (coxPg d) F.COX_CAP_SPLIT_W }
  let s := s.fset (coxPg d) F.COX_BUDGET_BUDGET_W (s.fget (coxPg d) F.COX_CAP_SPLIT_W)
  (s.timeSplit d).keelCounts

/-- Is the condition of R293 met for a die? -/
def State.splitCond (s : State) (d : Nat) : Bool :=
  s.forced 0 || s.forced 1 || s.split (1 - d) || (s.bootOf (1 - d)).held ||
  ((s.keelOf d).trained && s.fget (keelPg d) F.KEEL_STATUS_TX_ACTIVE = 0) ||
  ((s.keelOf (1 - d)).trained && s.fget (keelPg d) F.KEEL_STATUS_RX_ACTIVE = 0)

/-- R293, R294: a die detects that the keel is down. -/
def execSplitEnter (d : Die) (s : State) : Res :=
  .next (if s.rolled d.val && !s.split d.val && s.splitCond d.val then s.splitEnter d.val else s)

/-- End a rejoin that has not completed (R296). -/
def State.rejoinAbort (s : State) : State :=
  if s.fget (keelPg 0) F.KEEL_STATUS_PHASE < 2 then s else
  let s := [0, 1].foldl (fun s d =>
    let s := s.dropCrossings d
    let s := (s.fset (keelPg d) F.KEEL_STATUS_PHASE 1).raise (keelPg d) 13
    ((s.dropMessages d).settleSubs d).pauseApart d) s
  s.unfollow.keelCounts

/-- Phase RESUMING: each die's pause conditions for the other's ports act again, and the dies tell each other which of their
ports the tables hold as UP, where that has changed since the split (R98, R99, R235, R296). -/
def State.resuming (s : State) : State :=
  let s := (s.fset (keelPg 0) F.KEEL_STATUS_PHASE 5).fset (keelPg 1) F.KEEL_STATUS_PHASE 5
  let s := s.links.foldl (fun s kv =>
    if kv.2.eligible = kv.2.eligibleFar then s else s.sendCtrl (portDie kv.1) (.member kv.1 kv.2.eligible)) s
  [0, 1].foldl (fun s d => ((s.bufOf d).xoff.filter (fun x => portDie (x / 8) ≠ d)).foldl
    (fun s x => s.sendCtrl d (.pfc (x / 8) (x % 8) true)) s) s

/-- A write of KEEL_CTRL: FORCE_SPLIT changes only under the lock; RESUME leaves WAIT_HOST (R293, R296). -/
def State.keelCtrl (s : State) (p : Page) (val : Word) : State :=
  let d := p.n
  let was := s.forced d
  let s := s.putRw p F.KEEL_CTRL.off val
  let s := (List.range 66).foldl (fun s i => s.powerDown d i) s
  let s :=
    if F.KEEL_CTRL_FORCE_SPLIT.of val = 1 && !was then
      let s := ((List.range 66).filter (fun i => s.subTx d i ≠ slFailed && s.subTx d i ≠ slDisabled)).foldl
        (fun s i => s.fset (keelPg d) F.KEEL_SUBLINK_TX_STATE slOff i) s
      let s := s.keelCounts
      if s.split d then s.rejoinAbort else if s.rolled d then s.splitEnter d else s
    else s
  if F.KEEL_CTRL_RESUME.of val = 1 ∧ s.fget (keelPg d) F.KEEL_STATUS_PHASE = 4 then s.resuming else s
/-- R293: a write of KEEL_CTRL with FORCE_SPLIT = 1. -/
def execForceSplit (src : Source) (page : PageIdx) (val : Word) (s : State) : Res :=
  .next (s.accessLocked src page .keel F.KEEL_CTRL.off (F.KEEL_CTRL_FORCE_SPLIT.put val 1) (fun p v s => s.keelCtrl p v))

/-- R296: a write of KEEL_CTRL with RESUME = 1. -/
def execKeelResume (src : Source) (page : PageIdx) (val : Word) (s : State) : Res :=
  .next (s.accessLocked src page .keel F.KEEL_CTRL.off (F.KEEL_CTRL_RESUME.put val 1) (fun p v s => s.keelCtrl p v))

/-! ### Rejoin (R296, R297, R318) -/

/-- Control cells resume: a die expects the other's messages from the first that waits there (R287, R296). -/
def State.syncMessages (s : State) (d : Nat) : State :=
  let o := s.keelOf (1 - d)
  s.setKeel d { s.keelOf d with inNum := (o.ctrl.head?.map CtrlOut.num).getD o.nextCtrl, inHold := [] }

/-- R296: the rejoin condition is met. -/
def execRejoinStart (s : State) : Res :=
  let n := max (s.fget (keelPg 0) F.KEEL_CTRL_REJOIN_MIN) (s.fget (keelPg 1) F.KEEL_CTRL_REJOIN_MIN)
  let ready := [0, 1].all (fun d => s.split d && s.fget (keelPg d) F.KEEL_STATUS_PHASE = 1 && !s.forced d &&
    s.flag (keelPg d) F.KEEL_CTRL_AUTO_REJOIN && decide (s.fget (keelPg d) F.KEEL_STATUS_TX_ACTIVE ≥ max 1 n) &&
    decide (s.fget (keelPg d) F.KEEL_STATUS_RX_ACTIVE ≥ max 1 n))
  .next (if ready then
    let s := [0, 1].foldl State.syncMessages s
    let s := (s.fset (keelPg 0) F.KEEL_STATUS_PHASE 2).fset (keelPg 1) F.KEEL_STATUS_PHASE 2
    (s.setTime 1 { s.timeOf 1 with aligned := 0 }).bset (timePg 1) F.TIME_LOCK_STATE_ALIGNED false
  else s)

/-- R318: ALIGNED reads 1 in SYNC_TIME; the stern unit follows. -/
def execRejoinTimeAligned (s : State) : Res :=
  .next (if s.fget (keelPg 1) F.KEEL_STATUS_PHASE = 2 ∧ s.flag (timePg 1) F.TIME_LOCK_STATE_ALIGNED then
    let s := (s.fset (keelPg 0) F.KEEL_STATUS_PHASE 3).fset (keelPg 1) F.KEEL_STATUS_PHASE 3
    (s.bset (timePg 1) F.TIME_LOCK_STATE_FOLLOW true).setLockState 1 (s.lockState 0)
  else s)

/-- Addresses with a learned entry in a copy of a die. -/
def State.learnedAddrs (s : State) (d : Nat) : List (Nat × Nat) :=
  ((List.range 8).flatMap (fun i => ((s.tab (8 * d + i)).em).filterMap (fun kv =>
    let w := kv.2.toNat
    if bit w 127 && bit w 122 && bits w 126 125 = 0 then some (bits w 119 106, bits w 103 56) else none))).eraseDups

/-- The learned entry of an address on a die. -/
def State.learnedOn (s : State) (d bd mac : Nat) : Option Nat :=
  (List.range 8).findSome? (fun i => (s.learnEntry (8 * d + i) bd mac).filter (fun w => bit w 122))

/-- Change every copy whose entry of an address is absent or learned: write an entry, or delete it (R297). -/
def State.mergeWrite (s : State) (bd mac : Nat) (w : Option Nat) : State :=
  (List.range 16).foldl (fun s sl =>
    match s.learnEntry sl bd mac, w with
    | some old, w =>
      if !bit old 122 then s
      else match w with
        | some w => (s.hashInsert .em sl (keyMac bd mac) [BitVec.ofNat 128 w]).2
        | none => (s.hashDelete .em sl (keyMac bd mac)).2
    | none, some w => (s.hashInsert .em sl (keyMac bd mac) [BitVec.ofNat 128 w]).2
    | none, none => s) s

/-- The merge of one address (R297). -/
def State.mergeAddr (s : State) (bd mac : Nat) : State :=
  let bow := s.learnedOn 0 bd mac
  let stern := s.learnedOn 1 bd mac
  let on (w : Option Nat) (d : Nat) : Bool := match w with | some w => bits w 53 38 / 512 = d | none => false
  if on bow 0 && !on stern 1 then s.mergeWrite bd mac bow
  else if on stern 1 && !on bow 0 then s.mergeWrite bd mac stern
  else
    let s := s.mergeWrite bd mac none
    if bow.isSome && stern.isSome then s.cadd (keelPg 0) F.KEEL_REJOIN_CONFLICTS else s

/-- R296, R297: the learned entries are merged. -/
def execMergeLearnDone (s : State) : Res :=
  .next (if s.fget (keelPg 0) F.KEEL_STATUS_PHASE ≠ 3 then s else
    let s := ((s.learnedAddrs 0 ++ s.learnedAddrs 1).eraseDups).foldl (fun s a => s.mergeAddr a.1 a.2) s
    if s.flag (keelPg 0) F.KEEL_CTRL_HOST_RESUME || s.flag (keelPg 1) F.KEEL_CTRL_HOST_RESUME then
      [0, 1].foldl (fun s d => (s.fset (keelPg d) F.KEEL_STATUS_PHASE 4).raise (keelPg d) 11) s
    else s.resuming)

/-- R60, R296: the rejoin completes. -/
def execRejoinResumingDone (s : State) : Res :=
  .next (if s.fget (keelPg 0) F.KEEL_STATUS_PHASE ≠ 5 then s else
    let s := match s.lockOf ⟨.device, 1⟩ with
      | some _ => s.loseLock ⟨.device, 1⟩
      | none => s
    let events := (s.lrnOf 1).fifo
    let s := [0, 1].foldl (fun s d => (s.fset (keelPg d) F.KEEL_STATUS_PHASE 0).setSplit d false) s
    let s := s.setLrn 1 { s.lrnOf 1 with fifo := [] }
    let s := events.foldl (fun s e => s.arbiterTake 0 e) s
    (s.raise (keelPg 0) 12).raise (keelPg 1) 12)

/-- R296: a direction loses its last ACTIVE sub-link, or a split is forced, during a rejoin. -/
def execRejoinAbort (s : State) : Res :=
  let lost := [0, 1].any (fun d => s.forced d || s.fget (keelPg d) F.KEEL_STATUS_TX_ACTIVE = 0 ||
    s.fget (keelPg d) F.KEEL_STATUS_RX_ACTIVE = 0)
  .next (if lost then s.rejoinAbort else s)

/-- R295: the other die's presence on the always-on link changes. -/
def execPeerPresenceChange (d : Die) (present : Bool) (s : State) : Res :=
  .next (s.bset (keelPg d.val) F.KEEL_STATUS_PEER_PRESENT present)

end Sys2Proof.Machine
end

