-- ==== Sys2Proof/Machine/Queues.lean ====
section
/-!
DEFINITION. Rings, pools and host-bound queues as the read engine and the write engine of a die see them: what has work, the
strict order of R401 and the weighted round robin of R409 (13 R401-R409, R416, R419).
-/
namespace Sys2Proof.Machine

/-! ### Rings (R402-R408) -/

def State.ringAt (s : State) (d r : Nat) : Ring := (s.hostOf d).rings.get {} r
def State.setRing (s : State) (d r : Nat) (x : Ring) : State :=
  s.setHost d { s.hostOf d with rings := (s.hostOf d).rings.set {} r x }

/-- K of a ring or a pool, taken into its range of 4 to 16. -/
def clampK (k : Nat) : Nat := max 4 (min 16 k)
def Ring.k (x : Ring) : Nat := clampK (bits x.cfg.toNat 27 23)
def Ring.space (x : Ring) : Nat := bits x.cfg.toNat 31 28
/-- Indices count modulo this. -/
def Ring.modulus (x : Ring) : Nat := 2 ^ (x.k + 1)
/-- How far index `a` is ahead of `b` modulo `m`. -/
def aheadOf (m a b : Nat) : Nat := (a + m - b % m) % m

/-- HQ_ENABLE of a ring. -/
def State.ringOn (s : State) (d r : Nat) : Bool := bit (s.fget (hifPg d) F.HQ_ENABLE_RING (r / 32)) (r % 32)

/-- Does a function's host interface carry traffic: its link is up (R388, R493), and it and the translation unit operate
(R50)? -/
def State.hostUp (s : State) (d : Nat) : Bool :=
  s.rolled d && s.hostOperates d && decide (s.fget (hifPg d) F.HIF_UCIE_STATUS_IN_SERVICE ≠ 0)

/-- Is a stream of an inject ring suspended, or a delivery to a punt ring? -/
def State.ringSuspended (s : State) (d r : Nat) : Bool :=
  s.isSuspended d (fun st => match st with
    | .punt h => (((s.hostOf d).held.get none h).map Delivery.ring) = some r
    | st => st.ring? = some r)

/-- Has a ring's completion ring, or a punt ring, no free slot (R402)? -/
def Ring.full (x : Ring) (punt : Bool) : Bool :=
  if punt then decide (2 ^ x.k ≤ aheadOf x.modulus x.prod x.cons) else decide (2 ^ x.k ≤ aheadOf x.modulus x.cqProd x.cqCons)

/-- The index of the next descriptor that a ring fetches. -/
def Ring.nextFetch (x : Ring) : Nat := (x.cons + x.serving.isSome.toNat + x.fetched.length) % x.modulus

/-- Descriptors that a ring may fetch in one run: up to 2 × BURST ahead, below P, to the end of the ring (R404). -/
def Ring.fetchRun (x : Ring) : Nat :=
  let i := x.nextFetch
  let ahead := 2 * max 1 (bits x.sched.toNat 6 0) - x.fetched.length
  min (min ahead (aheadOf x.modulus x.prod i)) (2 ^ x.k - i % 2 ^ x.k)

/-! ### Pools and punt rings (R416, R419) -/

def State.poolAt (s : State) (d p : Nat) : Pool := (s.hostOf d).pools.get {} p

/-- Does a frame of a host-bound queue take buffers? -/
def Frm.buffered (f : Frm) : Bool :=
  match f.kind with
  | .postcard | .notify => false
  | _ => true

/-- The punt ring of a frame of queue `h` (R416). -/
def State.puntRing (s : State) (d h : Nat) (f : Frm) : Nat :=
  let base := s.fget (hifPg d) F.HQ_HBQ_MAP_BASE h
  if f.buffered then base + f.hash.toNat % 2 ^ s.fget (hifPg d) F.HQ_HBQ_MAP_LOG_COUNT h else base

/-! ### Weighted round robin (R409) -/

/-- The queue that a round serves next, of those that are active, in ascending order; none when none is active. A visit ends after
`burst` units, and a queue is passed over for the rest of the round once it has had `weight` units. -/
def Round.next (x : Round) (active : List Nat) (weight burst : Nat → Nat) : Option (Nat × Round) :=
  let left := active.filter (fun q => decide (x.served.get 0 q < weight q))
  if left.contains x.pos ∧ x.run < burst x.pos then some (x.pos, x) else
  match left.find? (fun q => decide (x.pos < q)), left, active with
  | some q, _, _ => some (q, { x with pos := q, run := 0 })
  | none, q :: _, _ => some (q, { x with pos := q, run := 0 })
  | none, [], q :: _ => some (q, { pos := q })
  | none, [], [] => none

/-- A queue is served `n` units. -/
def Round.count (x : Round) (q n : Nat) : Round := { x with run := x.run + n, served := x.served.upd 0 q (· + n) }

/-- The rounds of a die: the read engine's in orders 3 and 4, then the write engine's. -/
def roundKey (write high : Bool) : Nat := 2 * write.toNat + (!high).toNat

/-- Take the next turn of a round for queue `q` with `n` units, if the turn is its own. -/
def State.takeTurn (s : State) (d key : Nat) (active : List Nat) (weight burst : Nat → Nat) (q n : Nat) : Option State :=
  let h := s.hostOf d
  match (h.rounds.get {} key).next active weight burst with
  | some (q', x) => if q' = q then some (s.setHost d { h with rounds := h.rounds.set {} key (x.count q n) }) else none
  | none => none

/-! ### The read engine (R401, R409) -/

/-- Order 3 of R401. -/
def Ring.high (x : Ring) : Bool := bit x.cfg.toNat 22

/-- WEIGHT and BURST of HQ_SCHED and HQ_HBQ_SCHED. A value of 0, which the spec does not give, counts as 1 (DESIGN CHOICE). -/
def schedWeight (w : Word) : Nat := max 1 (bits w.toNat 15 8)
def schedBurst (w : Word) : Nat := max 1 (bits w.toNat 6 0)

/-- The read engine has work of order 2: descriptor fetches, free-ring fetches and XRD reads. -/
def State.readFirst (s : State) (d : Nat) : Bool :=
  (s.hostOf d).rings.any (fun kv => s.ringOn d kv.1 && decide (kv.1 < 512) && !s.isSuspended d (· == .fetch kv.1) &&
    decide (kv.2.fetchRun ≠ 0)) ||
  (s.hostOf d).pools.any (fun kv => decide (kv.2.fetching ≠ 0) && !s.isSuspended d (· == .pool kv.1)) ||
  (s.dieRoutines d).any (fun x => x.2.2.pend.any (fun p => match p.of with
    | .xrd _ _ => decide (p.got.length < 32)
    | _ => false))

/-- Is a ring's transfer in progress in the read engine? -/
def State.reading (s : State) (d r : Nat) : Bool :=
  (s.ringAt d r).serving.any (fun v => !v.reads.isEmpty) && !s.ringSuspended d r

/-- May a ring start a descriptor, turns apart: is it an active queue (R409)? -/
def State.ringReady (s : State) (d r : Nat) : Bool :=
  let x := s.ringAt d r
  s.ringOn d r && x.serving.isNone && x.done.isNone && !x.fetched.isEmpty && !x.full false && !s.ringSuspended d r

/-- Inject rings of one order that are ready, in ascending order. -/
def State.readyRings (s : State) (d : Nat) (high : Bool) : List Nat :=
  ((s.hostOf d).rings.filter (fun kv => decide (kv.1 < 512) && kv.2.high == high && s.ringReady d kv.1)).map Prod.fst

/-- The read engine has work of a higher order than a ring's. -/
def State.readAbove (s : State) (d : Nat) (high : Bool) : Bool :=
  s.readFirst d || (!high && (s.hostOf d).rings.any (fun kv => decide (kv.1 < 512) && kv.2.high &&
    (s.ringReady d kv.1 || s.reading d kv.1)))

/-- Take the read engine for the next descriptor of a ring: no higher order has work, no other ring of its order has a transfer in
progress, and the turn is its own. -/
def State.readTurn (s : State) (d r : Nat) : Option State :=
  let high := (s.ringAt d r).high
  let other := (s.hostOf d).rings.any (fun kv => kv.1 ≠ r && decide (kv.1 < 512) && kv.2.high == high && s.reading d kv.1)
  if s.readAbove d high || other then none else
  s.takeTurn d (roundKey false high) (s.readyRings d high) (fun q => schedWeight (s.ringAt d q).sched)
    (fun q => schedBurst (s.ringAt d q).sched) r 1

/-- The part of a ring's transfer that the read engine makes now: one of a lower order yields at the next 256-byte boundary while
work of a higher order waits (R401). -/
def State.readPart (s : State) (d r dva n : Nat) : Nat :=
  if s.readAbove d (s.ringAt d r).high then min n ((256 - dva % 256) % 256) else n

/-! ### The write engine (R401, R409, R416) -/

/-- Completions wait to be written: order 2. -/
def State.complWaits (s : State) (d : Nat) : Bool :=
  (s.hostOf d).rings.any (fun kv => kv.2.done.isSome && !kv.2.full false && !s.isSuspended d (· == .completion kv.1))

/-- Order 3 of R401 for a host-bound queue. -/
def State.hbqHigh (s : State) (d h : Nat) : Bool := (s.reg (hifPg d) (F.HQ_HBQ_SCHED.at h)).getLsbD 31

/-- Does the pool of a host-bound queue let a frame of `n` buffers go, be it to its drop (R419)? -/
def State.poolLets (s : State) (d h n : Nat) : Bool :=
  let p := s.poolAt d (s.fget (hifPg d) F.HQ_HBQ_MAP_POOL h)
  !(s.flag (hifPg d) F.HQ_HBQ_MAP_BP_EN h && (p.bp || decide ((if bit p.cfg.toNat 31 then p.cache.length else 0) < n)))

/-- Is a host-bound queue active: has it a delivery that goes on, or a frame that its ring and its pool let go? -/
def State.puntReady (s : State) (d h : Nat) : Bool :=
  !s.isSuspended d (· == .punt h) &&
  match (s.hostOf d).held.get none h, s.queueAt (hostQ d h) with
  | some _, _ => true
  | none, c :: _ => c.eligible && (match s.frm c.uid with
    | some f =>
      let r := s.puntRing d h f
      s.ringOn d r && decide (r < 1024) && !(s.ringAt d r).full true &&
        (!f.buffered || s.poolLets d h ((f.bytes.length + 2047) / 2048))
    | none => false)
  | none, [] => false

/-- Host-bound queues of one order that are active. -/
def State.readyPunts (s : State) (d : Nat) (high : Bool) : List Nat :=
  (List.range 64).filter (fun h => s.hbqHigh d h == high && s.puntReady d h)

/-- The write engine has transfers of rings with PRIO_HIGH = 1 to make. -/
def State.highResults (s : State) (d : Nat) : Bool :=
  (s.hostOf d).rings.any (fun kv => kv.2.high && kv.2.serving.any (fun v => v.result.isSome && !v.writes.isEmpty) &&
    !s.ringSuspended d kv.1)

/-- Take the write engine for queue `q` of an order, host-bound queue or 64 for the queue of snapshots and dumps, which is active
when `tail` says so (R401). -/
def State.writeTurn (s : State) (d : Nat) (high tail : Bool) (q n : Nat) : Option State :=
  let top := s.readyPunts d true ++ (if tail then [64] else [])
  if s.complWaits d || (!high && (!top.isEmpty || s.highResults d)) then none else
  let sched (h : Nat) : Word := s.reg (hifPg d) (F.HQ_HBQ_SCHED.at h)
  s.takeTurn d (roundKey true high) (if high then top else s.readyPunts d false)
    (fun h => if h = 64 then 16 else schedWeight (sched h)) (fun h => if h = 64 then 16 else schedBurst (sched h)) q n

/-- Queue 64 of the write engine's round: the queue of snapshot and dump writes, whose unit is 4 KiB. It comes after the
host-bound queues, and one visit serves up to its weight (DESIGN CHOICE: R401 gives it no number and no BURST). -/
def snapQueue : Nat := 64

/-- Units of a write of that queue. -/
def snapUnits (writes : List (Nat × List Byte)) : Nat := ((writes.map (fun w => w.2.length)).sum + 4095) / 4096

end Sys2Proof.Machine
end

