-- ==== Sys2Proof/Machine/Acct.lean ====
section
/-!
DEFINITION. Banks of tenant counters and their snapshots, energy attribution, dumps of performance counters, and the
registers of the collectors (11 R344, R348-R362).
-/
namespace Sys2Proof.Machine

/-! ### Banks (R349-R352) -/

/-- Add the entries of one table of numbers to another. -/
def sumInto (a b : Sparse Nat) : Sparse Nat := b.foldl (fun (m : Sparse Nat) (kv : Nat × Nat) => m.upd 0 kv.1 (· + kv.2)) a

/-- Two banks of consecutive periods as one (R352). -/
def Bank.merge (a b : Bank) : Bank :=
  { b with
    start := a.start, atStart := a.atStart || b.atStart, edge := a.edge, stepped := a.stepped || b.stepped,
    discarded := a.discarded || b.discarded, merged := true, paddle := a.paddle || b.paddle,
    counts := sumInto a.counts b.counts, acc := sumInto a.acc b.acc, settleDiscards := a.settleDiscards + b.settleDiscards,
    unattributed := a.unattributed + b.unattributed, measured := a.measured + b.measured }

/-- Is a slice of a die in Paddle mode? -/
def State.diePaddle (s : State) (d : Nat) : Bool := (List.range 8).any (fun i => s.inPaddle (8 * d + i))

/-- Frames of a die, in some bank of it. -/
def State.bankFrames (s : State) (d : Nat) (p : Frm → Bool) : List (Nat × Frm) :=
  s.frames.filterMap (fun kv => match kv.2 with
    | some f => if f.holder = d ∧ f.kind = .rx ∧ f.pass.isNone ∧ p f then some (kv.1, f) else none
    | none => none)

/-- Counts of a frame at a boundary that came after its ingress stamp: what the bank that closes has of it goes to the bank
that opens (R349). -/
def State.moveCounts (s : State) (d : Nat) (target : DWord) (old new : Bank) : Bank × Bank :=
  (s.bankFrames d (fun f => f.known && decide (stampDiff f.stamp target ≥ 0))).foldl (fun (b : Bank × Bank) x =>
    let t := x.2.tenant
    let take (m : Sparse Nat) (k n : Nat) := m.upd 0 k (· - n)
    let give (m : Sparse Nat) (k n : Nat) := m.upd 0 k (· + n)
    ({ b.1 with counts := take (take b.1.counts (7 * t) 1) (7 * t + 1) x.2.size, acc := take b.1.acc t x.2.energy },
     { b.2 with counts := give (give b.2.counts (7 * t) 1) (7 * t + 1) x.2.size, acc := give b.2.acc t x.2.energy }))
    (old, new)

/-- A bank boundary of a die at a target in ns (R349, R352, R353). -/
def State.boundary (s : State) (d target : Nat) (stepped : Bool) : State :=
  let a := s.acctOf d
  let t := stampOf (target * nsUnits)
  let new : Bank := { start := t, atStart := false, edge := t, stepped := stepped, paddle := s.diePaddle d }
  let (old, new) := s.moveCounts d t a.bank new
  let old := { old with stop := t, stepped := old.stepped || stepped }
  let (old, n) := match a.settling with
    | some x => (x.merge old, 1)
    | none => (old, 0)
  let (old, m) := match a.held with
    | some x => (x.merge old, 1)
    | none => (old, 0)
  let s := s.setAcct d { a with
    bank := new, settling := some old, held := none, writes := if a.interim.isSome then a.writes else [] }
  if n + m = 0 then s else (s.cadd (acctPg d) F.ACCT_MERGES (n + m)).raise (acctPg d) 9

/-- Cut the settling bank of a die (R350, R352, R353). -/
def State.cutBank (s : State) (d : Nat) : State :=
  let a := s.acctOf d
  match a.settling with
  | none => s
  | some b =>
    let b := { b with cut := s.stamp d, split := s.split d }
    if !s.flag (acctPg d) F.ACCT_CFG_EN then s.setAcct d { a with settling := none }
    else match a.held with
      | none => s.setAcct d { a with settling := none, held := some b, wait := false }
      | some h =>
        ((s.setAcct d { a with
          settling := none, held := some (h.merge b), wait := false, writes := if a.interim.isSome then a.writes else [] }).cadd
            (acctPg d) F.ACCT_MERGES).raise (acctPg d) 9

/-- R350: the settling counts of both dies are zero, and the bank is cut on both; in split operation each die cuts on its
own count. -/
def execBankCut (d : Die) (s : State) : Res :=
  s.ifOperates (acctPg d.val) (if !s.dieUp d.val || (s.acctOf d.val).settling.isNone || s.outstanding d.val != 0 then s
    else if s.split d.val then s.cutBank d.val
    else if s.outstanding (1 - d.val) ≠ 0 then s
    else (s.cutBank d.val).cutBank (1 - d.val))

/-! ### The settle discard (R351) -/

/-- A frame leaves the pre-classifier FIFO without a decision; the frame behind it takes over its walk. -/
def State.quitFifo (s : State) (d uid : Nat) : State :=
  let c := s.clsOf d
  match c.fifo.find? (fun w => w.uid = uid) with
  | none => s
  | some w =>
    let rest := c.fifo.filter (fun x => x.uid ≠ uid)
    let heir := (rest.find? (fun x => x.leader = some uid)).map Waiter.uid
    s.setCls d { c with fifo := rest.map (fun x =>
      if some x.uid = heir then { x with leader := none, bank := w.bank }
      else if x.leader = some uid then { x with leader := heir } else x) }

/-- Take a frame, or the egress pass of a copy, out of the dispatch queue and out of a context that has not committed. -/
def State.quitDispatch (s : State) (sl uid : Nat) : State :=
  let s := (s.routines sl).foldl (fun s x =>
    if x.2.2.uid = some uid ∧ !x.2.2.safe then s.clearCtx x.1 x.2.1 else s) s
  let x := s.sliceOf sl
  let s := s.setSlice sl { x with queue := x.queue.filter (· ≠ uid), order := x.order.filter (fun o => o.uid ≠ uid) }
  let s := s.setCs sl { s.csOf sl with holds := (s.csOf sl).holds.set none uid none }
  let s := { s with stalls := (List.range 4).foldl (fun m i => m.upd [] (64 + 4 * sl + i) (·.filter (fun x => x.1 ≠ uid))) s.stalls }
  s.releaseOrder sl

/-- Is a frame in a routine that has committed? -/
def State.inCommitted (s : State) (sl uid : Nat) : Bool := (s.routines sl).any (fun x => x.2.2.uid = some uid && x.2.2.safe)

/-- Take a frame that has not been admitted out of every place where it may wait. -/
def State.quitEarly (s : State) (uid : Nat) (f : Frm) : State :=
  let sl := portSlice f.port
  let s := s.quitDispatch sl uid
  let s := s.quitFifo f.die uid
  let pl := f.port / 16
  let s := { s with stalls := s.stalls.set [] pl ((s.stalls.get [] pl).filter (fun x => x.1 ≠ uid)) }
  let x := s.portOf f.port
  let s := s.setPort f.port { x with entry := x.entry.filter (· ≠ uid) }
  let s := { s with admits := s.admits.set [] f.holder ((s.admits.get [] f.holder).erase uid) }
  let k := s.keelOf f.die
  (s.setKeel f.die { k with tx := k.tx.filter (fun y => y.uid ≠ uid) }).admitCrossings (1 - f.die)

/-- Discard a copy in a queue with AGED. -/
def State.ageCopy (s : State) (d : Nat) (c : Copy) : State :=
  match s.frm c.uid with
  | some f => ((s.unqueue d c).fold d f c dAged none f.size 0).release c.uid
  | none => s.unqueue d c

/-- Egress passes of a frame's copies that have not started to be sent. -/
def State.waitingPasses (s : State) (uid : Nat) : List (Nat × Nat) :=
  s.frames.filterMap (fun kv => match kv.2.bind Frm.pass with
    | some c =>
      let p := c.port.getD 0
      let x := s.portOf p
      if c.uid = uid ∧ (x.tx.toList ++ x.preempted.toList).all (fun t => t.uid ≠ kv.1) then some (kv.1, p) else none
    | none => none)

/-- Discard one frame of the settling bank wherever it is held, save a copy in transmission. -/
def State.ageFrame (s : State) (d uid : Nat) : State :=
  let s := (s.copies d).foldl (fun s c => if c.uid = uid then s.ageCopy d c else s) s
  let s := (s.waitingPasses uid).foldl (fun s x =>
    if s.inCommitted (portSlice x.2) x.1 then
      s.updFrm x.1 (fun f => { f with pass := f.pass.map (fun c => { c with spoiled := some dAged }) })
    else
      let s := s.quitDispatch (portSlice x.2) x.1
      let y := s.portOf x.2
      (s.setPort x.2 { y with ready := y.ready.filter (· ≠ x.1) }).endPass x.1 dAged none) s
  match s.frm uid with
  | none => s
  | some f =>
    let waits := f.target.isNone || (s.admits.get [] d).contains uid || (s.keelOf d).tx.any (fun y => y.uid = uid && !y.first) ||
      (s.stalls.get [] (f.port / 16)).any (fun x => x.1 = uid)
    if !waits || f.gone || s.inCommitted (portSlice f.port) uid then s
    else
      let s := s.quitEarly uid f
      if f.known then s.dropEarly uid dAged
      else match f.key with
        | some k => (s.endKey f.die k.1 k.2).dropFrm uid
        | none => s.dropFrm uid

/-- R351: the settling bank of a die has settled for SETTLE_MS, and the frames of it that the die holds are discarded. -/
def execSettleTimeout (d : Die) (s : State) : Res :=
  let d := d.val
  let a := s.acctOf d
  s.ifOperates (acctPg d) (match a.settling with
    | none => s
    | some _ =>
      let held (s : State) := s.bankFrames d (fun f => a.inSettling f.stamp)
      let roots (s : State) := ((held s).map (fun x => x.2.rootOf x.1)).eraseDups
      let t := (held s).foldl (fun s x => s.ageFrame d x.1) s
      let n := ((roots s).filter (fun u => !(roots t).contains u)).length
      let s := t
      if n = 0 then s else
      let a := s.acctOf d
      let s := s.setAcct d { a with
        settling := a.settling.map (fun b => { b with discarded := true, settleDiscards := b.settleDiscards + n }) }
      (s.cadd (acctPg d) F.ACCT_SETTLE_DISCARDS n).raise (acctPg d) 10)

/-! ### Snapshots (R353, R354) -/

/-- Ring size of 2^K slots, K above 8 taken as 8. -/
def ringSlots (k : Nat) : Nat := 2 ^ min k 8

/-- The tenant records of a slot. -/
def Bank.records (b : Bank) : List Byte :=
  (List.range 16384).flatMap (fun t =>
    (List.range 7).flatMap (fun j => leBytes 8 (b.counts.get 0 (7 * t + j))) ++ leBytes 8 t)

/-- The header of a slot before its MAGIC. -/
def Bank.header (b : Bank) (d epoch : Nat) : List Byte :=
  let flags := fieldAt b.interim.toNat 0 0 + fieldAt b.split.toNat 1 1 + fieldAt b.stepped.toNat 2 2 +
    fieldAt b.discarded.toNat 3 3 + fieldAt b.merged.toNat 4 4 + fieldAt b.paddle.toNat 5 5 + fieldAt b.atStart.toNat 6 6
  leBytes 8 b.start.toNat ++ leBytes 8 b.stop.toNat ++ leBytes 8 b.cut.toNat ++ leBytes 4 epoch ++ leBytes 1 d ++
    leBytes 1 flags ++ [0, 0] ++ leBytes 8 b.settleDiscards ++ leBytes 8 (b.unattributed / 1000).floor.toNat ++
    leBytes 8 (b.measured / 1000)

/-- What is written to a slot, MAGIC last. -/
def Bank.slot (b : Bank) (d epoch slotBase : Nat) : List (Nat × List Byte) :=
  [(slotBase + 0x1000, b.records), (slotBase, b.header d epoch), (slotBase + 0x3C, [0, 0, 0, 0]),
    (slotBase + 0x38, leBytes 4 0x54434341)]

/-- The number a pair of registers holds. -/
def State.pairOf (s : State) (p : Page) (lo hi : Fld) : Nat := (s.reg p lo.off).toNat + (s.reg p hi.off).toNat * 2 ^ 32

/-- The bank that is written next. -/
def AcctSt.next (a : AcctSt) : Option Bank := a.interim.orElse (fun _ => a.held)

/-- Has a snapshot of a die no free slot to begin in (R353)? -/
def State.snapFull (s : State) (d : Nat) : Bool :=
  let n := ringSlots (s.fget (acctPg d) F.ACCT_SNAP_RING_K)
  let used := (s.fget (acctPg d) F.ACCT_SNAP_PROD_INDEX + 2 * n - s.fget (acctPg d) F.ACCT_SNAP_CONS_INDEX % (2 * n)) % (2 * n)
  (s.acctOf d).writes.isEmpty && decide (used = n)

/-- Is the snapshot write of a die ready? -/
def State.bankReady (s : State) (d : Nat) : Bool :=
  let a := s.acctOf d
  a.next.isSome && s.hostUp d && !s.isSuspended d (· == .snapshot) && !(a.wait && a.interim.isNone) && !s.snapFull d

def State.dumpOf (s : State) (d : Nat) : DumpSt := s.dumps.get {} d
def State.setDump (s : State) (d : Nat) (x : DumpSt) : State := { s with dumps := s.dumps.set {} d x }

/-- Is a dump write of a die ready? -/
def State.dumpReady (s : State) (d : Nat) : Bool :=
  !(s.dumpOf d).waiting.isEmpty && s.hostUp d && !s.isSuspended d (· == .dump)

/-- Is the queue of snapshot and dump writes active (R401)? -/
def State.snapReady (s : State) (d : Nat) : Bool := s.bankReady d || s.dumpReady d

/-- The write engine has work of order 3. -/
def State.highWrites (s : State) (d : Nat) : Bool := !(s.readyPunts d true).isEmpty || s.snapReady d || s.highResults d

/-- A slot is complete (R353, R354, R359). -/
def State.slotDone (s : State) (d : Nat) (b : Bank) : State :=
  let pg := acctPg d
  let a := s.acctOf d
  let s := s.setAcct d (if b.interim then { a with interim := none, writes := [] } else { a with held := none, writes := [] })
  let n := ringSlots (s.fget pg F.ACCT_SNAP_RING_K)
  let s := s.fset pg F.ACCT_SNAP_PROD_INDEX ((s.fget pg F.ACCT_SNAP_PROD_INDEX + 1) % (2 * n))
  let s := s.setReg pg F.PAGE_SNAPSHOT_EPOCH.off (s.reg pg F.PAGE_SNAPSHOT_EPOCH.off + 1)
  let s := s.setPair pg F.PAGE_SNAPSHOT_STAMP_LO F.PAGE_SNAPSHOT_STAMP_HI b.cut.toNat
  (s.cadd pg (if b.interim then F.ACCT_INTERIMS else F.ACCT_SNAPSHOTS)).raise pg 8

/-- R353: the next snapshot of a die is written to its slot. -/
def execSnapshotWritten (d : Die) (walks : List Walk) (s : State) : Res :=
  let d := d.val
  let pg := acctPg d
  let a := s.acctOf d
  s.ifOperates (acctPg d) (match a.next with
    | none => s
    | some b =>
      let n := ringSlots (s.fget pg F.ACCT_SNAP_RING_K)
      let prod := s.fget pg F.ACCT_SNAP_PROD_INDEX
      let base := s.pairOf pg F.ACCT_SNAP_BASE_LO F.ACCT_SNAP_BASE_HI + (prod % n) * 0x101000
      let todo := if a.writes.isEmpty then b.slot d ((s.reg pg F.PAGE_SNAPSHOT_EPOCH.off).toNat + 1) base else a.writes
      match (if s.bankReady d then s.writeTurn d true true snapQueue (snapUnits todo) else none) with
      | none => s
      | some s =>
      let (left, _, s) := s.dmaWrites d .snapshot (s.fget pg F.ACCT_SNAP_RING_SPACE) todo walks
      if left.isEmpty then s.slotDone d b else s.setAcct d { s.acctOf d with writes := left })

/-- PAGE_SNAPSHOT_CTRL.BUSY of an accounting page (R354). -/
def State.snapBusy (s : State) (d : Nat) : Bool := (s.acctOf d).next.isSome

/-- A TRIGGER on an accounting page (R354, R52): with EN = 0 the snapshot is written nowhere. -/
def State.interim (s : State) (d : Nat) : State :=
  let a := s.acctOf d
  if s.snapBusy d then s.errCount (acctPg d)
  else if !s.flag (acctPg d) F.ACCT_CFG_EN then s
  else s.setAcct d { a with
    interim := some { a.bank with interim := true, stop := s.stamp d, cut := s.stamp d, split := s.split d } }

/-- A write of ACCT_CFG: SETTLE_MS outside 1-50,000 is refused; EN = 1 restarts MINUTE_START of the open bank, EN = 0 gives
up what waits to be written (R353). -/
def State.acctCfg (s : State) (p : Page) (val : Word) : State :=
  let ms := F.ACCT_CFG_SETTLE_MS.of val
  if ms = 0 ∨ ms > 50000 then s.errCount p else
  let was := s.flag p F.ACCT_CFG_EN
  let s := s.putRw p F.ACCT_CFG.off val
  let now := s.flag p F.ACCT_CFG_EN
  let a := s.acctOf p.n
  if now && !was then s.setAcct p.n { a with bank := { a.bank with start := s.stamp p.n, atStart := true } }
  else if !now then s.setAcct p.n { a with held := none, interim := none, writes := [] }
  else s

/-! ### Energy (R357) -/

/-- Add energy in 0.01 pJ to a tenant's ENERGY counter in a bank, carrying the remainder below 10 pJ. -/
def addEnergy (x : Sparse Rat × Bank) (t : Nat) (e : Rat) : Sparse Rat × Bank :=
  let total := x.1.get 0 t + e
  let n := (total / 1000).floor.toNat
  (x.1.set 0 t (total - 1000 * (n : Rat)), { x.2 with counts := x.2.counts.upd 0 (7 * t + 6) (· + n) })

/-- Attribute the measured energy of an epoch, in 0.01 pJ. -/
def State.attribute (s : State) (d e : Nat) : State :=
  let a := s.acctOf d
  let sum (b : Bank) := (b.acc.map Prod.snd).sum
  let total := sum a.bank + (a.settling.map sum).getD 0
  let k : Rat := if total = 0 then 0 else min 1 ((e : Rat) / (total : Rat))
  let share (r : Sparse Rat) (b : Bank) : Sparse Rat × Bank :=
    b.acc.foldl (fun x (kv : Nat × Nat) => addEnergy x kv.1 (k * (kv.2 : Rat))) (r, { b with acc := [] })
  let (rest, settling) := match a.settling with
    | some b => let x := share a.rest b; (x.1, some x.2)
    | none => (a.rest, none)
  let (rest, bank) := share rest a.bank
  let residual : Rat := ((e - total : Nat) : Rat)
  let parts : List (Nat × Nat) := match s.fget (acctPg d) F.ACCT_STATIC_CFG_MODE with
    | 0 => a.weights.map (fun (kv : Nat × BitVec 8) => (kv.1, kv.2.toNat))
    | 1 => a.epochIn
    | _ => []
  let whole := (parts.map Prod.snd).sum
  let (rest, bank) := if whole = 0 then (rest, { bank with unattributed := bank.unattributed + residual })
    else parts.foldl (fun x kv => addEnergy x kv.1 (residual * (kv.2 : Rat) / (whole : Rat))) (rest, bank)
  s.setAcct d { a with
    bank := { bank with measured := bank.measured + e }, settling := settling, rest := rest, epochIn := [] }

/-! ### Registers of the accounting page -/

def execAcctSnapConsWrite (src : Source) (page : PageIdx) (val : Word) (s : State) : Res :=
  .next (s.accessKind src page .acct (F.ACCT_SNAP_CONS.wr val) (fun p s => s.putRw p F.ACCT_SNAP_CONS.off val))

/-- ACCT_WT_ADDR with OP write or read. -/
def State.weightCmd (s : State) (p : Page) (val : Word) : State :=
  let s := s.putRw p F.ACCT_WT_ADDR.off val
  let t := F.ACCT_WT_ADDR_TENANT.of val
  let a := s.acctOf p.n
  match F.ACCT_WT_ADDR_OP.of val with
  | 1 => s.setAcct p.n { a with weights := a.weights.set 0 t ((s.reg p F.ACCT_WT_DATA.off).setWidth 8) }
  | 2 => s.setReg p F.ACCT_WT_DATA.off ((a.weights.get 0 t).setWidth 32)
  | _ => s

def execAcctWeightWrite (src : Source) (page : PageIdx) (val : Word) (s : State) : Res :=
  .next (s.accessKind src page .acct (F.ACCT_WT_ADDR.cmd 1 val) (fun p s => s.weightCmd p (F.ACCT_WT_ADDR_OP.put val 1)))

def execAcctWeightRead (src : Source) (page : PageIdx) (val : Word) (s : State) : Res :=
  .next (s.accessKind src page .acct (F.ACCT_WT_ADDR.cmd 2 val) (fun p s => s.weightCmd p (F.ACCT_WT_ADDR_OP.put val 2)))

/-- ACCT_LIVE_ADDR with OP read: the seven counters of a tenant in the open bank (R348). -/
def State.liveRead (s : State) (p : Page) (val : Word) : State :=
  let s := s.putRw p F.ACCT_LIVE_ADDR.off val
  if F.ACCT_LIVE_ADDR_OP.of val ≠ 2 then s else
  let t := F.ACCT_LIVE_ADDR_TENANT.of val
  let b := (s.acctOf p.n).bank
  (List.range 14).foldl (fun s i =>
    s.setReg p (F.ACCT_LIVE_DATA.at i) (BitVec.ofNat 32 (b.counts.get 0 (7 * t + i / 2) >>> (32 * (i % 2))))) s

def execAcctLiveRead (src : Source) (page : PageIdx) (val : Word) (s : State) : Res :=
  .next (s.accessKind src page .acct (F.ACCT_LIVE_ADDR.cmd 2 val) (fun p s => s.liveRead p (F.ACCT_LIVE_ADDR_OP.put val 2)))

/-! ### Dumps of performance counters (R355, R361, R362) -/

/-- The pages of a die that hold performance counters, in ascending page index (R362). -/
def pmcPages (d : Nat) : List Page :=
  (List.range 8).map (fun i => slicePg (8 * d + i)) ++ [bufPg d] ++ (List.range 4).map (fun i => qdrPg (4 * d + i)) ++
    [keelPg d, hifPg d, cipherPg d, clsPg d]

/-- The 64-bit counters of a port in a dump: those of R102, then those of R339. -/
def State.portCounters (s : State) (p : Nat) : List DWord :=
  (List.range 12).map (fun i => s.cget (portPg p) { F.PORT_RX_FRAMES with stride := 8 } i) ++
    (List.range 22).map (fun i => s.cget (portPg p) F.TEL_DROP i)

/-- The counters of a dump; what lies outside the subtree of the written page reads zero. -/
def State.dumpBody (s : State) (d : Nat) (on : Option Page) : List Byte :=
  let covers (p : Page) : Bool := match on with | some q => s.inLineage q p | none => true
  (pmcPages d).flatMap (fun p => (List.range 8).flatMap (fun n =>
    leBytes 8 (if covers p then (s.cget p (pmcOff p.kind F.PMC_CTR) n).toNat else 0))) ++
  (if s.flag (pmcPg d) F.PMC_DUMP_CTRL_PORTS then
    (List.range 512).flatMap (fun i =>
      (s.portCounters (512 * d + i)).flatMap (fun c => leBytes 8 (if covers (portPg (512 * d + i)) then c.toNat else 0)))
  else [])

/-- Slot size of a dump ring. -/
def State.dumpSize (s : State) (d : Nat) : Nat := if s.flag (pmcPg d) F.PMC_DUMP_CTRL_PORTS then 143360 else 4096

/-- The page index of a page, as the HOST flag's header names it. -/
def Page.index (p : Page) : Nat := p.id / 2 ^ 16

/-- Cut a dump on a die; it is skipped while the ring is full. -/
def State.cutDump (s : State) (d : Nat) (on : Option Page) (snap : Bool) : State :=
  let pg := pmcPg d
  let x := s.dumpOf d
  let n := ringSlots (s.fget pg F.PMC_DUMP_CTRL_K)
  let prod := s.fget pg F.PMC_DUMP_PROD_INDEX
  let used := (prod + 2 * n - s.fget pg F.PMC_DUMP_CONS_INDEX % (2 * n)) % (2 * n) + x.waiting.length
  if used ≥ n then ((s.cadd pg F.PMC_DUMP_SKIPPED).raise pg 8).setDump d { x with skipped := true }
  else
    let base := s.pairOf pg F.PMC_DUMP_BASE_LO F.PMC_DUMP_BASE_HI + ((prod + x.waiting.length) % n) * s.dumpSize d
    let flags := fieldAt on.isSome.toNat 0 0 + fieldAt snap.toNat 1 1 + fieldAt (s.split d).toNat 2 2 + fieldAt x.skipped.toNat 3 3
    let hdr := leBytes 8 (s.stamp d).toNat ++ leBytes 4 x.seq ++ leBytes 1 d ++ leBytes 1 flags ++
      leBytes 2 (match on with | some p => p.index | none => 0xFFFF) ++ List.replicate 40 0 ++ leBytes 4 0x504D4344 ++ [0, 0, 0, 0]
    let w := { page := on.map (fun p => p.key 0), stamp := s.stamp d, space := s.fget pg F.PMC_DUMP_CTRL_SPACE,
               writes := [(base + 64, s.dumpBody d on), (base, hdr)] }
    s.setDump d { waiting := x.waiting ++ [w], seq := x.seq + 1, skipped := false }

/-- The dies that hold pages below a page (R355). -/
def State.diesBelow (s : State) (p : Page) : List Nat := if p.kind = .device ∧ !s.split p.n then [0, 1] else [p.die]

/-- Does a one-off dump of a page still wait to be written? -/
def State.dumpBusy (s : State) (p : Page) : Bool :=
  (s.diesBelow p).any (fun d => (s.dumpOf d).waiting.any (fun w => w.page = some (p.key 0)))

/-- PAGE_SNAPSHOT_CTRL.BUSY of a page other than an accounting page: a dump of it or of a page above it is being cut. -/
def State.dumpCovers (s : State) (p : Page) : Bool :=
  [0, 1].any (fun d => (s.dumpOf d).waiting.any (fun w =>
    (w.page.bind Page.ofLockKey).any (fun q => s.inLineage q p)))

/-- A TRIGGER on a page (R52, R354, R355). -/
def State.snapTrigger (s : State) (p : Page) : State :=
  if p.kind = .acct then s.interim p.n
  else if s.dumpCovers p then s.errCount p
  else (s.diesBelow p).foldl (fun s d => s.cutDump d (some p) false) s

def execInterimSnapshotTrigger (src : Source) (page : PageIdx) (s : State) : Res :=
  .next (s.access src page (0x30, some 1) (fun p s => s.snapTrigger p))

def execPmcDumpTrigger (src : Source) (page : PageIdx) (s : State) : Res :=
  .next (s.access src page (0x30, some 1) (fun p s => s.snapTrigger p))

/-- Did network time of a die pass a whole multiple of `period` ns since SEC = 0 within the last AON_CLK period? -/
def State.multiplePassed (s : State) (d period : Nat) : Bool :=
  decide (s.full d % (period * nsUnits) * fineUnit < tickLength (s.freq d))

/-- R361: network time passes a whole multiple of PERIOD_MS. -/
def execPmcDumpPeriod (d : Die) (s : State) : Res :=
  let period := s.fget (pmcPg d.val) F.PMC_DUMP_CTRL_PERIOD_MS * 1000000
  s.ifOperates (pmcPg d.val) (if s.dieUp d.val && s.flag (pmcPg d.val) F.PMC_DUMP_CTRL_EN && s.multiplePassed d.val period then
    s.cutDump d.val none false else s)

/-- A bank boundary of a comparator, with the dump that ON_SNAP asks for (R349, R361). -/
def State.bankBoundary (s : State) (d target : Nat) (stepped : Bool) : State :=
  let s := s.boundary d target stepped
  if s.flag (pmcPg d) F.PMC_DUMP_CTRL_EN && s.flag (pmcPg d) F.PMC_DUMP_CTRL_ON_SNAP then s.cutDump d none true else s

/-- Every page. -/
def allPages : List Page :=
  [Kind.lane, .port, .eight, .slice, .die, .device, .engine, .cs, .bufMgr, .qdr, .keel, .msec, .hif, .dtu, .cipher, .timeU,
    .cox, .otp, .tel, .cls, .lrn, .pmc, .ring, .acct, .aon].flatMap (fun k => (List.range k.count).map (fun n => ⟨k, n⟩))

/-- A one-off dump of a page is complete on every die it covers: PAGE_SNAPSHOT_EPOCH and STAMP of the page and of those
below it, the accounting pages apart (R47, R354, R355). -/
def State.coverPages (s : State) (p : Page) (stamp : DWord) : State :=
  (allPages.filter (fun q => q.kind ≠ .acct && s.inLineage p q)).foldl (fun s q =>
    (s.setReg q F.PAGE_SNAPSHOT_EPOCH.off (s.reg q F.PAGE_SNAPSHOT_EPOCH.off + 1)).setPair q F.PAGE_SNAPSHOT_STAMP_LO
      F.PAGE_SNAPSHOT_STAMP_HI stamp.toNat) s

/-- R361: the dump that waits longest is written to its slot, its header last. -/
def execPmcDumpWritten (d : Die) (walks : List Walk) (s : State) : Res :=
  let d := d.val
  let pg := pmcPg d
  s.ifOperates (pmcPg d) (match (s.dumpOf d).waiting with
    | [] => s
    | w :: rest =>
      match (if s.dumpReady d then s.writeTurn d true true snapQueue (snapUnits w.writes) else none) with
      | none => s
      | some s =>
      let (left, _, s) := s.dmaWrites d .dump w.space w.writes walks
      if !left.isEmpty then s.setDump d { s.dumpOf d with waiting := { w with writes := left } :: rest } else
      let s := s.setDump d { s.dumpOf d with waiting := rest }
      let n := ringSlots (s.fget pg F.PMC_DUMP_CTRL_K)
      let s := s.fset pg F.PMC_DUMP_PROD_INDEX ((s.fget pg F.PMC_DUMP_PROD_INDEX + 1) % (2 * n))
      let s := s.cadd pg F.PMC_DUMPS
      match w.page.bind Page.ofLockKey with
      | some p => if s.dumpBusy p then s else s.coverPages p w.stamp
      | none => s)

/-- A write of PMC_DUMP_CTRL: PERIOD_MS outside 1-1,000 is refused (R362). -/
def State.dumpCtrl (s : State) (p : Page) (val : Word) : State :=
  let ms := F.PMC_DUMP_CTRL_PERIOD_MS.of val
  if ms = 0 ∨ ms > 1000 then s.errCount p else s.putRw p F.PMC_DUMP_CTRL.off val

/-- A write of PMC_SEL of a page; CLEAR clears the counter and its OVF (R360). -/
def State.pmcSel (s : State) (p : Page) (n : Nat) (val : Word) : State :=
  let s := s.putRw p ((pmcOff p.kind F.PMC_SEL_EN).at n) val
  if val.getLsbD 30 then s.cset p (pmcOff p.kind F.PMC_CTR) 0 n else s

/-- The offset of PMC_SELn on the page that an access reaches. -/
def State.pmcSelOff (s : State) (src : Source) (page : PageIdx) (n : Nat) : Nat :=
  ((s.mapped src page).map (fun p => (pmcOff p.kind F.PMC_SEL_EN).at n)).getD 0

def execPmcClear (src : Source) (page : PageIdx) (n : Fin 8) (val : Word) (s : State) : Res :=
  .next (s.access src page (s.pmcSelOff src page n.val, some (val ||| 0x40000000)) (fun p s =>
    match s.targets p ((pmcOff p.kind F.PMC_SEL_EN).at n.val) with
    | [] => s.countUnmapped src
    | ts => ts.foldl (fun s t => s.pmcSel t n.val val) s))

/-! ### Collectors (R343, R344) -/

/-- R344: FLUSH_US after the first record of a frame arrived. -/
def execCollectorFlush (d : Die) (c : Fin 4) (s : State) : Res :=
  s.ifOperates (telPg d.val) (if s.dieUp d.val then s.flushCollector d.val c.val else s)

/-- A write of TEL_COLL_CFG: EN = 1 is refused for a port on the other die, a short template or a bad MAX_RECORDS; a
collector that is disabled loses what waits. -/
def State.collCfg (s : State) (p : Page) (c : Nat) (val : Word) : State :=
  let need := F.TEL_COLL_CFG_L3_OFF.of val + (if F.TEL_COLL_CFG_IPV6.of val = 1 then 48 else 28)
  let max := s.fget p F.TEL_COLL_LIMIT_MAX_RECORDS c
  let bad := portDie (F.TEL_COLL_CFG_PORT.of val) ≠ p.n ∨ F.TEL_COLL_CFG_TEMPLATE_LEN.of val < need ∨ max = 0 ∨ max > 30
  if F.TEL_COLL_CFG_EN.of val = 1 ∧ bad then s.errCount p else
  let s := s.putRw p (F.TEL_COLL_CFG.at c) val
  if F.TEL_COLL_CFG_EN.of val = 1 then s else
  let t := s.telOf p.n
  (s.setTel p.n { t with colls := t.colls.set {} c {} }).loseCards p.n (t.colls.get {} c).waiting.length

def execCollectorEnableWrite (src : Source) (page : PageIdx) (c : Fin 4) (val : Word) (s : State) : Res :=
  .next (s.accessKind src page .tel (F.TEL_COLL_CFG.wr val c.val) (fun p s => s.collCfg p c.val val))

end Sys2Proof.Machine
end

