-- ==== Sys2Proof/Machine/Cmp.lean ====
section
/-!
DEFINITION. The firing of a time comparator (10 R327-R330).
-/
namespace Sys2Proof.Machine

/-- The EVENT action: CS_EVENT.GO on a slice, which it wakes; a GO that R204 or R206 refuses is counted on the slice's page
(R327, R328, R427). -/
def State.cmpEvent (s : State) (sl : Nat) : State :=
  let none_ := ((List.range 16).map (16 * sl + ·)).all (fun e => !s.engineWorks e)
  if s.flag (csPg sl) F.CS_EVENT_PENDING then s.errCount (slicePg sl)
  else if none_ then (s.raise (csPg sl) 16).errCount (slicePg sl)
  else (s.raiseEvent sl).wakeCause sl

/-- The actions that TIME_CMP_CFG selects (R327), at the target in ns. -/
def State.cmpActions (s : State) (d n target : Nat) (stepped : Bool) : State :=
  let a := s.fget (timePg d) F.TIME_CMP_CFG_ACTIONS n
  let s := if bit a 4 then s.bankBoundary d target stepped else s
  let s := if bit a 3 then s.cmpEvent (8 * d + s.fget (timePg d) F.TIME_CMP_CFG_EVENT_SLICE n) else s
  let s := if bit a 2 then
      ((List.range 8).filter (fun i => bit (s.fget (aonPg d) F.AON_WAKE_MASK_SLICES) i)).foldl
        (fun s i => s.wakeCause (8 * d + i)) s
    else s
  s.raiseIf (bit a 0) (timePg d) 13

/-- A comparator fires (R327-R329). -/
def State.cmpFire (s : State) (d n : Nat) : State :=
  let pg := timePg d
  let c := s.cmpOf d n
  let target := s.cmpTarget d n
  let s := s.bset pg F.TIME_CMP_STATUS_FIRED true n
  let s := if c.stepped then s.bset pg F.TIME_CMP_STATUS_STEPPED true n else s
  let s := ((s.cmpActions d n target c.stepped).cmpGates d n target).setCmp d n { c with stepped := false }
  let period := s.cmpPeriod d n
  if !s.flag pg F.TIME_CMP_CFG_PERIODIC n then s.bset pg F.TIME_CMP_CFG_ARM false n
  else if period < 1000 then (s.bset pg F.TIME_CMP_CFG_ARM false n).errCount pg
  else
    let now := s.nowNs d
    let s := if c.stepped then s.fsat pg F.TIME_CMP_STATUS_MISSED ((now - target) / period) n else s
    s.cmpMove d n (nextPeriod c.base period now)

/-- R327: an armed comparator reaches its target. -/
def execCmpFire (d : Die) (n : Fin 32) (s : State) : Res :=
  s.ifOperates (timePg d.val) (if s.pins.pwrgood && s.flag (timePg d.val) F.TIME_CMP_CFG_ARM n.val &&
      decide (s.cmpTarget d.val n.val ≤ s.nowNs d.val) then s.cmpFire d.val n.val else s)

end Sys2Proof.Machine
end

