-- ==== Sys2Proof/Machine/Microword.lean ====
section
/-!
DEFINITION. Microwords: their fields, what makes them ILLEGAL, the ALU and memory operations, pending reads, staging and the
commit (06 R180-R181, R187-R198, R379). A word with a memory operation issues with its MEM_ command and is completed by its
ALU_ command; a word without one issues with its ALU_ command.
-/
namespace Sys2Proof.Machine

/-! ### Fields (R189) -/

def mwDwell (w : Nat) : Nat := bits w 255 254 + 1
def mwCommit (w : Nat) : Bool := bit w 253
def mwNext (w : Nat) : Nat := bits w 252 238
def mwBtarget (w : Nat) : Nat := bits w 237 223
def mwFlow (w : Nat) : Nat := bits w 222 220
def mwAlu (w : Nat) : Nat := bits w 219 214
def mwDst (w : Nat) : Nat := bits w 213 209
def mwSrcA (w : Nat) : Nat := bits w 208 204
def mwSrcB (w : Nat) : Nat := bits w 203 199
def mwImmEn (w : Nat) : Bool := bit w 198
def mwImm (w : Nat) : DWord := (BitVec.ofNat 32 (bits w 197 166)).signExtend 64
def mwMem (w : Nat) : Nat := bits w 165 162
def mwMemReg (w : Nat) : Nat := bits w 161 157
def mwAddrReg (w : Nat) : Nat := bits w 156 152
def mwTable (w : Nat) : Nat := bits w 151 148
def mwQchan (w : Nat) : Nat := bits w 147 146
def mwSize (w : Nat) : Nat := 2 ^ bits w 145 144
def mwMemAddr (w : Nat) : Nat := bits w 143 120

/-! ### Registers of a context (R187) -/

def Routine.reg (r : Routine) (i : Nat) : DWord := if i = 0 then 0 else r.regs.get 0 i
def Routine.setReg (r : Routine) (i : Nat) (v : DWord) : Routine :=
  if i = 0 then r else { r with regs := r.regs.set 0 i v }

/-- Write consecutive registers, the least significant 64 bits first. -/
def Routine.setRegs (r : Routine) (i n v : Nat) : Routine :=
  (List.range n).foldl (fun r j => r.setReg (i + j) (BitVec.ofNat 64 (v >>> (64 * j)))) r

/-- The number that consecutive registers hold, the first least significant. -/
def Routine.getRegs (r : Routine) (i n : Nat) : Nat :=
  (List.range n).foldl (fun a j => a + (r.reg (i + j)).toNat * 2 ^ (64 * j)) 0

/-- How many data registers a memory operation names (R192). -/
def memRegs : Nat → Nat
  | 1 | 2 | 3 | 4 => 1
  | 5 | 6 | 8 | 0xB => 2
  | 7 => 3
  | 9 | 0xA | 0xD | 0xE => 4
  | _ => 0

/-- Does a memory operation use ADDR_REG? -/
def memAddrs : Nat → Bool
  | 1 | 2 | 5 | 6 | 9 | 0xA | 0xB | 0xC | 0xD => true
  | _ => false

/-- The registers that a word reads or writes (R190). -/
def wordRegs (w : Nat) : List Nat :=
  let alu := mwAlu w
  let b := if mwImmEn w then [] else [mwSrcB w]
  let a := if alu = 0 then [] else if alu = 1 then b ++ [mwDst w]
    else if alu = 0xA then mwSrcA w :: b else mwSrcA w :: mwDst w :: b
  a ++ (List.range (memRegs (mwMem w))).map (mwMemReg w + ·) ++ (if memAddrs (mwMem w) then [mwAddrReg w] else [])

/-- Is a word held back by a read that is pending (R190)? -/
def Routine.waits (r : Routine) (w : Nat) : Bool :=
  r.pend.any (fun p => (wordRegs w).any (fun i => decide (i ≠ 0) && decide (p.reg ≤ i) && decide (i < p.reg + p.count))) ||
  (decide (mwFlow w = 4 ∨ mwFlow w = 5) && r.pend.any (fun p => match p.of with | .eml .. | .lpm .. | .cu => true | _ => false))

/-! ### ILLEGAL (R188, R189, R191, R192, R195, R202, R205, R379) -/

/-- Fields of R188 that a routine may write. -/
def metaRw (f : Nat) : Bool := decide (f ≤ 6)
/-- Fields of R188 that are read-only. -/
def metaRo (f : Nat) : Bool := decide (7 ≤ f ∧ f ≤ 0xD) || decide (0x10 ≤ f ∧ f ≤ 0x1F)

/-- Does a memory operation make a word ILLEGAL? -/
def Routine.memIllegal (r : Routine) (w : Nat) : Bool :=
  let op := mwMem w
  let t := mwTable w
  let v := (r.reg (mwMemReg w)).toNat % 2 ^ (if op = 4 then 8 * mwSize w else 64)
  let fld := bits (mwMemAddr w) 5 0
  decide (op = 0xF) || decide (mwMemReg w + memRegs op > 32) ||
  (r.committed && decide (op = 6 ∨ op = 0xA ∨ op = 0xB ∨ op = 0xC ∨ op = 0xD)) ||
  (r.uid.isNone && decide (op = 2 ∨ op = 4)) ||
  (match op with
    | 4 => metaRo fld || (decide (fld = 1) && decide (bits v 17 16 = 3))
    | 5 => decide (t > 7)
    | 6 => decide (t < 2 ∨ t > 6)
    | 8 => decide (t ≠ 8 ∧ t ≠ 9)
    | 0xC => decide (r.lockOps ≥ 8)
    | 0xE => decide (bits v 63 62 = 3 ∨ bits v 49 46 > 8 ∨ bits v 45 42 > 8 ∨ bits v 41 32 ≠ 0)
    | _ => false)

/-- Is a word ILLEGAL for a routine? -/
def Routine.illegal (r : Routine) (w : Nat) : Bool :=
  let alu := mwAlu w
  decide (bits w 119 0 ≠ 0) || decide (mwFlow w = 7) || decide (alu > 0x10) ||
  (decide (alu = 0xF) && decide (mwDwell w < 3)) || (decide (alu = 0x10) && decide (mwDwell w < 2)) ||
  (mwCommit w && r.committed) || r.memIllegal w

/-! ### Issue (R181, R201, R212) -/

/-- The word at a routine's pc. -/
def State.wordAt (s : State) (sl pc : Nat) : Nat := ((s.csOf sl).words.get 0 pc).toNat

/-- The attributes of an event that a routine causes (R360). -/
def State.engineEvent (s : State) (r : Routine) (code amount : Nat) : PmcEvent :=
  match r.uid.bind s.frm with
  | some f => { pipeEvent f code amount with src := some .engine }
  | none => { code := code, src := some .engine, amount := amount }

/-- Charge `n` events of a kind to the frame of a routine (R356). -/
def State.chargeRoutine (s : State) (d : Nat) (r : Routine) (i n : Nat) : State :=
  match r.uid with
  | some u => s.chargeFrm d u i n
  | none => s

/-- Does a COMMIT or END word wait for a table lock (R197)? -/
def State.commitHeld (s : State) (sl w : Nat) (r : Routine) : Bool :=
  (mwCommit w || (decide (mwFlow w = 6) && !r.committed)) &&
  ((r.log.any (fun x => match x with | .table t _ _ => s.granted sl t | _ => false)) ||
    (decide (mwMem w = 6) && s.granted sl (mwTable w)))

/-- Issue slots of an engine (R178). -/
def issueSlots : Nat := 4

/-- Issue slots that contexts of an engine occupy (R179, R181). -/
def State.slotsHeld (s : State) (e : Nat) : Nat := (s.routines (e / 16)).countP (fun x => x.1 = e && x.2.2.latch.isSome)

/-- Is a routine eligible for an issue slot: it occupies none and nothing holds it (R180, R190, R197)? -/
def State.eligibleToIssue (s : State) (sl : Nat) (r : Routine) : Bool :=
  let w := s.wordAt sl r.pc
  !r.committing && r.lockWait.isNone && r.latch.isNone && !r.waits w && !s.commitHeld sl w r

/-- Does the issue slot prefer one context to another: event routines first, then the earliest stamp, then the lower number (R180)? -/
def issuesBefore (a b : Nat × Routine) : Bool :=
  if a.2.uid.isNone ≠ b.2.uid.isNone then a.2.uid.isNone
  else
    let x := stampDiff a.2.stamp b.2.stamp
    decide (x < 0) || (decide (x = 0) && decide (a.1 < b.1))

/-- Does a free issue slot of an engine take context `k` next (R180)? -/
def State.chosen (s : State) (e k : Nat) (r : Routine) : Bool :=
  decide (s.slotsHeld e < issueSlots) && s.eligibleToIssue (e / 16) r &&
  (s.routines (e / 16)).all (fun x => x.1 ≠ e || x.2.1 = k || !s.eligibleToIssue (e / 16) x.2.2 || issuesBefore (k, r) x.2)

/-- Issue the word at a routine's pc, when its engine's issue slots take it next: the word and the routine as it stands then, or none where nothing issues or the
routine ends. -/
def State.issue (s : State) (e k : Nat) (fetch : EccErr) (want : Nat → Bool) : Option (Nat × Routine) × State :=
  let sl := e / 16
  match s.ctx e k with
  | none => (none, s)
  | some r =>
    let w := s.wordAt sl r.pc
    if !s.sliceRuns sl || !s.chosen e k r || !want w then (none, s)
    else if fetch = .uncorr then (none, s.csUncorr sl)
    else
      let s := if fetch = .corrected then s.csCorrected sl else s
      if s.fget (csPg sl) F.CS_CTRL_WATCHDOG ≠ 0 ∧ r.words ≥ s.fget (csPg sl) F.CS_CTRL_WATCHDOG then
        (none, s.endByCause e k 0xA none)
      else if r.illegal w then (none, s.endByCause e k 8 none)
      else
        let n := mwDwell w
        let s := ((s.cadd (enginePg e) F.SE_ISSUES n).pmcEvent (slicePg sl) (s.engineEvent r 9 n)).chargeRoutine (e / 128) r 7 n
        let l : Latch := ⟨r.reg (mwSrcA w), if mwImmEn w then mwImm w else r.reg (mwSrcB w), r.reg (mwDst w), r.hit⟩
        (some (w, { r with words := r.words + 1, latch := some l }), s)

/-! ### ALU (R190, R191) -/

/-- CRC-32C continuing from a finished CRC. -/
def crc32cNext (c : Word) (l : List Byte) : Word := ~~~ crcRun crc32cPoly (~~~ c) l

/-- The result of an ALU operation: what the flags are taken from, and whether DST is written. Bits of EXT above bit 63
are those of `hi`. -/
def aluResult (op : Nat) (l : Latch) (hi : DWord) : DWord × Bool :=
  let a := l.a
  let b := l.b
  let p := b.toNat % 64
  let n := (b.toNat >>> 8) % 64 + 1
  match op with
  | 1 => (b, true)
  | 2 => (a + b, true)
  | 3 => (a - b, true)
  | 4 => (a &&& b, true)
  | 5 => (a ||| b, true)
  | 6 => (a ^^^ b, true)
  | 7 => (a <<< p, true)
  | 8 => (a >>> p, true)
  | 9 => (a.sshiftRight p, true)
  | 0xA => (a - b, false)
  | 0xB => (if a ≤ b then a else b, true)
  | 0xC => (if a ≤ b then b else a, true)
  | 0xD => (BitVec.ofNat 64 (((a.toNat + hi.toNat * 2 ^ 64) >>> p) % 2 ^ n), true)
  | 0xE => (BitVec.ofNat 64 (putBits l.old.toNat (min 63 (p + n - 1)) p a.toNat), true)
  | 0xF => (a * b, true)
  | 0x10 => ((crc32cNext (b.setWidth 32) (beBytes 8 a.toNat)).setWidth 64, true)
  | _ => (0, false)

/-- Write an ALU result; where the same word's HRD or MRD writes the register too, what it holds is open. -/
def Routine.aluWrite (r : Routine) (w : Nat) (l : Latch) (hi clash : DWord) : Routine :=
  let op := mwAlu w
  if op = 0 then r else
  let (v, wr) := aluResult op l hi
  let r := { r with z := decide (v = 0), n := v.getLsbD 63 }
  if !wr then r
  else if (mwMem w = 1 ∨ mwMem w = 3) ∧ mwDst w = mwMemReg w then r.setReg (mwDst w) clash
  else if r.pend.any (fun p => decide (p.reg ≤ mwDst w) && decide (mwDst w < p.reg + p.count)) then r
  else r.setReg (mwDst w) v

/-- Put a metadata value into a working copy of the frame (R188). -/
def metaPut (pass : Bool) (f : Frm) (fld v : Nat) : Frm :=
  match fld with
  | 0 => { f with tc := v % 8 }
  | 1 => if pass then f else { f with dest := some (bits v 17 16, bits v 15 0) }
  | 2 => if pass then { f with destTenant := v % 2 ^ 14 } else { f with dtenSet := some (v % 2 ^ 14) }
  | 3 => { f with deny := bit v 0 }
  | 4 => if bit v 6 then { f with punt := some (v % 64) } else { f with punt := none, puntIdle := v % 64 }
  | 5 => { f with user := v % 2 ^ 64 }
  | 6 => if pass then f else { f with bdvrf := v % 2 ^ 14 }
  | _ => f

/-- Apply the log's writes to the header window and the metadata (R195, R198). -/
def Routine.applyLocal (r : Routine) : Routine :=
  r.log.foldl (fun r x => match x with
    | .hdr o b => { r with window := patch r.window o b }
    | .meta_ fld v => { r with work := metaPut r.work.pass.isSome r.work fld v }
    | _ => r) r

/-- The address that follows a word (R189). A word whose ALU operation is NOP has no result and sets no flag, so that none of BR_Z,
BR_NZ and BR_LT is taken (DEDUCED). -/
def Routine.following (r : Routine) (w : Nat) (l : Latch) : Nat :=
  let taken := match mwFlow w with
    | 1 => r.z && mwAlu w ≠ 0
    | 2 => !r.z && mwAlu w ≠ 0
    | 3 => r.n && mwAlu w ≠ 0
    | 4 => l.hit
    | 5 => !l.hit
    | _ => false
  if taken then mwBtarget w else mwNext w

/-- Complete a word: ALU result, commit and flow (R190, R195, R198). -/
def State.aluStep (s : State) (e k : Nat) (w : Nat) (r : Routine) : State :=
  match r.latch with
  | none => s
  | some l =>
    let (hi, s) := s.draw 64
    let (clash, s) := s.draw 64
    let r := { r.aluWrite w l hi clash with latch := none }
    let r := { r with pc := r.following w l }
    let last := decide (mwFlow w = 6)
    if mwCommit w || (last && !r.committed) then s.setCtx e k (some { r with committing := true, ending := last })
    else if last then s.endRoutine e k r.applyLocal
    else s.setCtx e k (some r)

/-- An ALU_ command: the word at the pc has the operation, and its memory operation, if any, has issued. -/
def State.alu (s : State) (op : Nat) (e k : Nat) (fetch : EccErr) : State :=
  let sl := e / 16
  let is (w : Nat) := decide (mwAlu w = op) || (decide (op = 0) && decide (mwAlu w > 0x10))
  match s.ctx e k with
  | none => s
  | some r =>
    let w := s.wordAt sl r.pc
    if r.latch.isSome then (if is w && r.lockWait.isNone && !r.committing then s.aluStep e k w r else s)
    else
      match s.issue e k fetch (fun w => is w && decide (mwMem w = 0)) with
      | (some (w, r), s) => s.aluStep e k w r
      | (none, s) => s

def execAluNop (e : Engine) (k : Fin 32) (fetch : EccErr) (s : State) : Res := .next (s.alu 0 e.val k.val fetch)
def execAluMov (e : Engine) (k : Fin 32) (fetch : EccErr) (s : State) : Res := .next (s.alu 1 e.val k.val fetch)
def execAluAdd (e : Engine) (k : Fin 32) (fetch : EccErr) (s : State) : Res := .next (s.alu 2 e.val k.val fetch)
def execAluSub (e : Engine) (k : Fin 32) (fetch : EccErr) (s : State) : Res := .next (s.alu 3 e.val k.val fetch)
def execAluAnd (e : Engine) (k : Fin 32) (fetch : EccErr) (s : State) : Res := .next (s.alu 4 e.val k.val fetch)
def execAluOr (e : Engine) (k : Fin 32) (fetch : EccErr) (s : State) : Res := .next (s.alu 5 e.val k.val fetch)
def execAluXor (e : Engine) (k : Fin 32) (fetch : EccErr) (s : State) : Res := .next (s.alu 6 e.val k.val fetch)
def execAluShl (e : Engine) (k : Fin 32) (fetch : EccErr) (s : State) : Res := .next (s.alu 7 e.val k.val fetch)
def execAluShr (e : Engine) (k : Fin 32) (fetch : EccErr) (s : State) : Res := .next (s.alu 8 e.val k.val fetch)
def execAluSar (e : Engine) (k : Fin 32) (fetch : EccErr) (s : State) : Res := .next (s.alu 9 e.val k.val fetch)
def execAluCmp (e : Engine) (k : Fin 32) (fetch : EccErr) (s : State) : Res := .next (s.alu 0xA e.val k.val fetch)
def execAluMin (e : Engine) (k : Fin 32) (fetch : EccErr) (s : State) : Res := .next (s.alu 0xB e.val k.val fetch)
def execAluMax (e : Engine) (k : Fin 32) (fetch : EccErr) (s : State) : Res := .next (s.alu 0xC e.val k.val fetch)
def execAluExt (e : Engine) (k : Fin 32) (fetch : EccErr) (s : State) : Res := .next (s.alu 0xD e.val k.val fetch)
def execAluIns (e : Engine) (k : Fin 32) (fetch : EccErr) (s : State) : Res := .next (s.alu 0xE e.val k.val fetch)
def execAluMul (e : Engine) (k : Fin 32) (fetch : EccErr) (s : State) : Res := .next (s.alu 0xF e.val k.val fetch)
def execAluCrc32c (e : Engine) (k : Fin 32) (fetch : EccErr) (s : State) : Res := .next (s.alu 0x10 e.val k.val fetch)

end Sys2Proof.Machine
end

