-- ==== Sys2Proof/Machine/MemOps.lean ====
section
/-!
DEFINITION. The memory operations of microwords, the arrival of their data, lock grants and the commit (06 R188, R190,
R192-R198, R202, R379).
-/
namespace Sys2Proof.Machine

/-- The header window with the log's writes (R194). -/
def Routine.windowNow (r : Routine) : List Byte :=
  r.log.foldl (fun w x => match x with | .hdr o b => patch w o b | _ => w) r.window

/-- A metadata field of R188; none for a number that the table does not list. -/
def State.metaGet (s : State) (sl : Nat) (r : Routine) (fld : Nat) : Option Nat :=
  let f := r.log.foldl (fun f x => match x with
    | .meta_ i v => metaPut r.work.pass.isSome f i v
    | _ => f) r.work
  let pass := f.pass
  if r.uid.isNone then some 0 else
  match fld with
  | 0 => some f.tc
  | 1 => some (match f.dest with | some (k, d) => k * 65536 + d | none => 3 * 65536)
  | 2 => some (if pass.isSome then f.destTenant else f.dtenSet.getD f.tenant)
  | 3 => some f.deny.toNat
  | 4 => some (match f.punt with | some q => 64 + q | none => f.puntIdle)
  | 5 => some f.user
  | 6 => some f.bdvrf
  | 7 => some f.tenant
  | 8 => some f.port
  | 9 => some f.stamp.toNat
  | 0xA => some f.size
  | 0xB => some (if pass.isSome then f.hash else s.hashOf sl 0 f).toNat
  | 0xC => some ((pass.bind Copy.port).getD 0)
  | 0xD => some ((pass.map Copy.queue).getD 0)
  | _ => if 0x10 ≤ fld ∧ fld ≤ 0x1F then
      some (match f.hdrs[fld - 0x10]? with | some (t, o) => t * 256 + o % 256 | none => 0)
    else none

/-- Stage a write (R194, R198). -/
def State.stage (s : State) (e k : Nat) (r : Routine) (x : Staged) : State :=
  if r.staged ≥ 64 then s.endByCause e k 9 none
  else s.setCtx e k (some { r with log := r.log ++ [x], staged := r.staged + 1 })

/-- Begin a read whose data arrives later (R190). -/
def State.pendRead (s : State) (e k : Nat) (r : Routine) (w : Nat) (of : ReadOf) (n : Nat) : State :=
  s.setCtx e k (some { r with pend := r.pend ++ [{ of := of, reg := mwMemReg w, count := n }] })

/-- Bytes that `size` bytes of a window from `off` spell, most significant first; bytes beyond the window are open. -/
def windowRead (win : List Byte) (off size : Nat) (free : DWord) : Nat :=
  ofBE ((List.range size).map (fun i => win.getD (off + i) (byteOf free.toNat i)))

/-- The cipher request of a CU operation (R379). -/
def cuMsg (e k reg : Nat) (g : Nat → Nat) : CipherMsg :=
  let h := g 0
  { owner := .engine e k reg, urgency := 4, slot := bits h 61 50, op := bits h 63 62, iv := beBytes 4 (bits h 31 0),
    aad := (beBytes 8 (g 1)).take (bits h 45 42), payload := (beBytes 8 (g 2)).take (bits h 49 46),
    tag := beBytes 8 (g 3), tagLen := 8 }

/-- Carry out a memory operation at its issue (R192). MRD gives, and MWR takes, the low SIZE bytes (R189; DEDUCED). -/
def State.memStart (s : State) (e k w : Nat) (r : Routine) : State :=
  let sl := e / 16
  let a := mwMemAddr w + (r.reg (mwAddrReg w)).toNat
  let off := bits (mwMemAddr w) 7 0 + (r.reg (mwAddrReg w)).toNat
  let reg := mwMemReg w
  let v := (r.reg reg).toNat
  match mwMem w with
  | 1 =>
    let (x, s) := s.draw 64
    s.setCtx e k (some (r.setReg reg (BitVec.ofNat 64 (windowRead r.windowNow off (mwSize w) x))))
  | 2 => s.stage e k r (.hdr off ((beBytes (mwSize w) v).take (r.window.length - off)))
  | 3 =>
    let (x, s) := s.draw 64
    s.setCtx e k (some (r.setReg reg (BitVec.ofNat 64 ((s.metaGet sl r (bits (mwMemAddr w) 5 0)).getD x.toNat %
      2 ^ (8 * mwSize w)))))
  | 4 => s.stage e k r (.meta_ (bits (mwMemAddr w) 5 0) (v % 2 ^ (8 * mwSize w)))
  | 5 => s.pendRead e k r w (.trd (mwTable w) a) 2
  | 6 => s.stage e k r (.table (mwTable w) a (r.getRegs reg 2))
  | 7 => s.pendRead e k r w (.eml (bits (mwTable w) 1 0) v (r.reg (reg + 1)).toNat (bits (r.reg (reg + 2)).toNat 11 0)) 2
  | 8 => s.pendRead e k r w (.lpm (decide (mwTable w = 9)) (r.getRegs reg 2)) 1
  | 9 => s.pendRead e k r w (.qrd (mwQchan w) (a % 2 ^ 23)) 4
  | 0xA => s.stage e k r (.qdr (mwQchan w) (a % 2 ^ 23) (r.getRegs reg 4))
  | 0xB => s.stage e k r (.count (bits (mwMemAddr w) 13 0 + (r.reg (mwAddrReg w)).toNat) v (r.reg (reg + 1)).toNat)
  | 0xC =>
    let id := BitVec.ofNat 24 a
    s.setCtx e k (some { r with lockOps := r.lockOps + 1, lockWait := some (Config.lockEntry id).val })
  | 0xD => s.pendRead e k r w (.xrd (mwTable w) (a % 2 ^ 64)) 4
  | 0xE =>
    let s := s.pendRead e k r w .cu 4
    s.submitMsg (e / 128) (cuMsg e k reg (fun i => (r.reg (reg + i)).toNat))
  | _ => s.setCtx e k (some r)

/-- A MEM_ command: the word at the pc has the operation and issues. -/
def State.mem (s : State) (op e k : Nat) (fetch : EccErr) : State :=
  match s.issue e k fetch (fun w => decide (mwMem w = op)) with
  | (some (w, r), s) => s.memStart e k w r
  | (none, s) => s

def execMemHrd (e : Engine) (k : Fin 32) (fetch : EccErr) (s : State) : Res := .next (s.mem 1 e.val k.val fetch)
def execMemHwr (e : Engine) (k : Fin 32) (fetch : EccErr) (s : State) : Res := .next (s.mem 2 e.val k.val fetch)
def execMemMrd (e : Engine) (k : Fin 32) (fetch : EccErr) (s : State) : Res := .next (s.mem 3 e.val k.val fetch)
def execMemMwr (e : Engine) (k : Fin 32) (fetch : EccErr) (s : State) : Res := .next (s.mem 4 e.val k.val fetch)
def execMemTrd (e : Engine) (k : Fin 32) (fetch : EccErr) (s : State) : Res := .next (s.mem 5 e.val k.val fetch)
def execMemTwr (e : Engine) (k : Fin 32) (fetch : EccErr) (s : State) : Res := .next (s.mem 6 e.val k.val fetch)
def execMemEml (e : Engine) (k : Fin 32) (fetch : EccErr) (s : State) : Res := .next (s.mem 7 e.val k.val fetch)
def execMemLpm (e : Engine) (k : Fin 32) (fetch : EccErr) (s : State) : Res := .next (s.mem 8 e.val k.val fetch)
def execMemQrd (e : Engine) (k : Fin 32) (fetch : EccErr) (s : State) : Res := .next (s.mem 9 e.val k.val fetch)
def execMemQwr (e : Engine) (k : Fin 32) (fetch : EccErr) (s : State) : Res := .next (s.mem 0xA e.val k.val fetch)
def execMemCnt (e : Engine) (k : Fin 32) (fetch : EccErr) (s : State) : Res := .next (s.mem 0xB e.val k.val fetch)
def execMemLock (e : Engine) (k : Fin 32) (fetch : EccErr) (s : State) : Res := .next (s.mem 0xC e.val k.val fetch)
def execMemXrd (e : Engine) (k : Fin 32) (fetch : EccErr) (s : State) : Res := .next (s.mem 0xD e.val k.val fetch)
def execMemCu (e : Engine) (k : Fin 32) (fetch : EccErr) (s : State) : Res := .next (s.mem 0xE e.val k.val fetch)

/-! ### Data that arrives (R190, R194, R199, R201) -/

/-- A table entry as a routine reads it: its log's write, or the slice's copy; counts of the log are added to a flow counter. -/
def State.entryFor (s : State) (sl : Nat) (r : Routine) (t i : Nat) : Nat :=
  r.log.foldl (fun v x => match x with
    | .table t' i' v' => if t' = t ∧ i' = i then v' % 2 ^ (8 * entryBytes t) else v
    | .count i' p b =>
      if t = 7 ∧ i' = i then fieldAt (bits v 127 64 + b) 127 64 + fieldAt (bits v 63 0 + p) 63 0 else v
    | _ => v) (s.tableRead sl t i)

/-- A QDR node as a routine reads it. -/
def State.nodeFor (s : State) (d : Nat) (r : Routine) (c node : Nat) : Nat :=
  r.log.foldl (fun v x => match x with
    | .qdr c' n' v' => if c' = c ∧ n' = node then v' else v
    | _ => v) (s.qdrNode (4 * d + c) node).toNat

/-- The key of an EML lookup (R151, R192); kind 3 names no key. -/
def emlKey (kind key hi vrf : Nat) : Option HashKey :=
  match kind with
  | 0 => some ⟨66, key, 1⟩
  | 1 => some ⟨66, 2 ^ 64 + key, 1⟩
  | 2 => some (keyV6 vrf (hi * 2 ^ 64 + key))
  | _ => none

/-- What a read that ends brings: a value for the data registers with HIT if it sets it, or an error of R201. -/
inductive Arrived where
  | data (v : Nat) (hit : Option Bool)
  | error
  | notYet

/-- Was a parity error reported between two states? -/
def State.reported (s t : State) (sl : Nat) : Bool :=
  decide (s.cget (slicePg sl) F.TBL_PARITY_ERRORS ≠ t.cget (slicePg sl) F.TBL_PARITY_ERRORS)

/-- Read what a pending read names (R192). -/
def State.arrive (s : State) (e k : Nat) (r : Routine) (p : Pending) (rep : ReadReport) : Arrived × State :=
  let sl := e / 16
  let d := e / 128
  match p.of with
  | .trd t i =>
    let s := s.pmcEvent (slicePg sl) (s.engineEvent r 4 1)
    if i ≥ (tableSize t).getD 0 then let (x, s) := s.draw 128; (.data x.toNat none, s)
    else if s.isBad sl t i then (.error, s.parityError sl t i)
    else (.data (s.entryFor sl r t i) none, s)
  | .eml kind key hi vrf =>
    let s := s.pmcEvent (slicePg sl) (s.engineEvent r 4 1)
    let (x, s) := s.draw 128
    match emlKey kind key hi vrf with
    | none => (.data x.toNat (some false), s)
    | some kk =>
      let (h, s') := s.hashRead .em sl kk
      if s.reported s' sl then (.error, s')
      else match h with
        | some (_, v) => (.data v.toNat (some true), s')
        | none => (.data x.toNat (some false), s')
  | .lpm v6 addr =>
    let s := s.pmcEvent (slicePg sl) (s.engineEvent r 4 1)
    let (x, s) := s.draw 64
    let (h, s') := s.lpmRead sl v6 (addr % 2 ^ lpmWidth v6)
    if s.reported s' sl then (.error, s')
    else match h with
      | some (len, v) => (.data (fieldAt len 39 32 + v.toNat) (some true), s')
      | none => (.data x.toNat (some false), s')
  | .qrd c node =>
    let q := 4 * d + c
    let s := ((s.pmcEvent (qdrPg q) (s.engineEvent r 7 1)).chargeRoutine d r 8 1).qdrReport q node rep.err
    let s := if rep.err = .corrected then s.pmcEvent (qdrPg q) { code := 0x15 } else s
    if rep.err.fails then (.error, s) else (.data (s.nodeFor d r c node) none, s)
  | .xrd _ _ => if p.got.length < 32 then (.notYet, s) else (.data (ofLE p.got) none, s)
  | .cu =>
    match s.runningMsg d (.engine e k p.reg) with
    | none => (.notYet, s)
    | some m =>
      let ((st, out, tag), met) := m.release (beBytes 8 (m.held.salt.toNat / 2 ^ 32) ++ m.iv) rep.mismatches.val rep.staging
      let s := if met then s.integrity d 8 else s
      let s := (s.countMsg d m .engine rep.mismatches.val st).endMsg d m
      let old := (r.reg p.reg).toNat + (r.reg (p.reg + 1)).toNat * 2 ^ 64
      let res := ofBE (out ++ List.replicate (8 - out.length) 0)
      let g3 := if st = 0 ∧ m.op ≠ 1 then ofBE tag else (r.reg (p.reg + 3)).toNat
      (.data (old + res * 2 ^ 128 + g3 * 2 ^ 192) (some (decide (st = 0))), s)

/-- R190: the data of a pending read arrives. -/
def execMemReadReturn (e : Engine) (k : Fin 32) (reg : Fin 32) (rep : ReadReport) (s : State) : Res :=
  let e := e.val
  let k := k.val
  .next (match s.ctx e k with
    | none => s
    | some r =>
      match r.pend.find? (fun p => p.reg = reg.val) with
      | none => s
      | some p =>
        let s := s.markBad (e / 16) rep.bad
        match s.arrive e k r p rep with
        | (.notYet, s) => s
        | (.error, s) => s.endByCause e k 3 none
        | (.data v hit, s) =>
          let r := { r.setRegs p.reg p.count v with pend := r.pend.erase p }
          s.setCtx e k (some { r with hit := hit.getD r.hit }))

/-- R202: a context that waits for a lock ID asks for it. -/
def execLockGrant (e : Engine) (k : Fin 32) (s : State) : Res :=
  .next (match (s.ctx e.val k.val).bind Routine.lockWait with
    | some entry => s.takeLock e.val k.val entry
    | none => s)

/-! ### Commit (R195-R198) -/

/-- The lock-table entries that a log's table and QDR entries map to (R195). -/
def Routine.commitLocks (d : Nat) (r : Routine) : List Nat :=
  r.log.filterMap (fun x => match x with
    | .table t i _ => some (Config.lockEntry (Config.entryLock t i)).val
    | .qdr c n _ => some (Config.lockEntry (Config.entryLock (16 + c) n)).val
    | _ => none)

/-- Apply the table, counter and QDR entries of a log (R195). -/
def State.applyLog (s : State) (e : Nat) (r : Routine) : State :=
  let sl := e / 16
  r.log.foldl (fun s x => match x with
    | .table t i v =>
      if i < (tableSize t).getD 0 then (s.tableWrite sl t i v).pmcEvent (slicePg sl) (s.engineEvent r 5 1) else s
    | .qdr c n v =>
      let q := 4 * (e / 128) + c
      ((s.setQdr q n (BitVec.ofNat 256 v)).pmcEvent (qdrPg q) (s.engineEvent r 8 1)).chargeRoutine (e / 128) r 8 1
    | .count i p b =>
      if i < 16384 then
        s.updTab sl (fun t => { t with flow := t.flow.upd 0 i (fun w =>
          BitVec.ofNat 128 (fieldAt (bits w.toNat 127 64 + b) 127 64 + fieldAt (bits w.toNat 63 0 + p) 63 0)) })
      else s
    | _ => s) s

/-- R195: the commit completes once the context's reads have and no other context holds what its log maps to; a younger
uncommitted holder gives way. -/
def execRoutineCommit (e : Engine) (k : Fin 32) (s : State) : Res :=
  let e := e.val
  let k := k.val
  .next (match s.ctx e k with
    | none => s
    | some r =>
      if !r.committing || !r.pend.isEmpty then s else
      let holders := (r.commitLocks (e / 128)).filterMap (fun x => (s.lockHolder (e / 128) x).map (fun h => (x, h)))
      let others := holders.filter (fun x => !(x.2.1 = e && x.2.2.1 = k))
      let s := others.foldl (fun s x =>
        if olderCtx (e, k, r) x.2 && !x.2.2.2.safe then s.endByCause x.2.1 x.2.2.1 4 (some (.lock x.1)) else s) s
      if others.any (fun x => !(olderCtx (e, k, r) x.2 && !x.2.2.2.safe)) then s else
      let s := (s.applyLog e r).cadd (csPg (e / 16)) F.CS_COMMITS
      let s := s.freeLocks (e / 128) r.locks
      let s := if r.uid.isNone then s.raise (csPg (e / 16)) 15 else s
      let r := { r.applyLocal with log := [], locks := [], committed := true, committing := false }
      let s := s.setCtx e k (some r)
      if r.ending then s.endRoutine e k r else s)

end Sys2Proof.Machine
end

