-- ==== Sys2Proof/Machine/ControlStore.lean ====
section
/-!
DEFINITION. The control store: words, RUN, scrub and reload, events by register, and engine faults (06 R204-R215).
-/
namespace Sys2Proof.Machine

def State.csWord (s : State) (sl a : Nat) : BitVec 256 := (s.csOf sl).words.get 0 a
def State.setCsWord (s : State) (sl a : Nat) (w : BitVec 256) : State :=
  s.setCs sl { s.csOf sl with words := (s.csOf sl).words.set 0 a w }

/-- Store a word of a control store: refused while RUN = 1, and otherwise the store is no longer verified (R209). -/
def State.csStore (s : State) (sl a : Nat) (w : BitVec 256) : State :=
  let pg := csPg sl
  if s.flag pg F.CS_CTRL_RUN then (s.bset pg F.CS_ADDR_ERR true).errCount pg
  else ((s.setCsWord sl a w).bset pg F.CS_ADDR_ERR false).bset pg F.CS_STATUS_VERIFIED false

/-- R209: a write of CS_ADDR with OP = write. -/
def State.csWrite (s : State) (sl : Nat) (val : Word) : State :=
  let pg := csPg sl
  let s := s.putRw pg F.CS_ADDR.off val
  s.csStore sl (F.CS_ADDR_ADDR.of val) (BitVec.ofNat 256 (s.words pg F.CS_DATA_DATA 8))

/-- R209: a write of CS_ADDR with OP = read. -/
def State.csRead (s : State) (sl : Nat) (val : Word) : State :=
  let pg := csPg sl
  let a := F.CS_ADDR_ADDR.of val
  let w := s.csWord sl a
  ((s.putRw pg F.CS_ADDR.off val).setWords pg F.CS_DATA_DATA 8 w.toNat).fset pg F.CS_ECC_CHECK
    (Config.csCheck (BitVec.ofNat 15 a) w).toNat

def execCsWordWrite (src : Source) (page : PageIdx) (val : Word) (s : State) : Res :=
  .next (s.accessKind src page .cs (F.CS_ADDR.cmd 1 val) (fun p s => s.csWrite p.n val))

def execCsWordRead (src : Source) (page : PageIdx) (val : Word) (s : State) : Res :=
  .next (s.accessKind src page .cs (F.CS_ADDR.cmd 2 val) (fun p s => s.csRead p.n val))

/-- R210: a write of CS_CTRL; RUN = 1 is refused while VERIFIED = 0. -/
def State.csCtrlWrite (s : State) (sl : Nat) (val : Word) : State :=
  let pg := csPg sl
  let run := decide (F.CS_CTRL_RUN.of val = 1)
  if run && !s.flag pg F.CS_STATUS_VERIFIED then s.errCount pg
  else
    let starts := run && !s.flag pg F.CS_CTRL_RUN
    let s := s.putRw pg F.CS_CTRL.off val
    let s := if starts then
        ((List.range 16).map (16 * sl + ·)).foldl (fun s e =>
          if s.engineWorks e then s.setReg (enginePg e) F.SE_UCODE_VERSION.off (s.reg pg F.CS_VERSION.off) else s) s
      else s
    s.startEvent sl

def execCsRunWrite (src : Source) (page : PageIdx) (val : Word) (s : State) : Res :=
  .next (s.accessKind src page .cs (F.CS_CTRL.wr val) (fun p s => s.csCtrlWrite p.n val))

/-- A write of CS_EVENT with GO raises the event and wakes the slice. -/
def State.eventGo (s : State) (p : Page) (val : Word) : State := ((s.putRw p F.CS_EVENT.off val).raiseEvent p.n).wakeCause p.n

/-- R204, R427: a write of CS_EVENT with GO, which wakes the slice. -/
def execCsEventGo (src : Source) (page : PageIdx) (val : Word) (s : State) : Res :=
  .next (s.accessKind src page .cs (F.CS_EVENT.wr (val ||| 0x80000000)) (fun p s => s.eventGo p val))

/-- R215: an engine detects a fault, stops and hands its frames on. -/
def execEngineFault (e : Engine) (cause : Fin 4) (s : State) : Res :=
  let e := e.val
  let pg := enginePg e
  .next (if (s.reg pg 0x10).getLsbD 9 || !s.dieUp (e / 128) then s else
    let s := s.setReg pg F.SE_FAULT.off (BitVec.ofNat 32 (2 ^ 31 + cause.val + 1))
    let s := (s.setFault pg true).raise pg 8
    let s := ((s.routines (e / 16)).filter (fun x => x.1 = e)).foldl (fun s x => s.endByCause x.1 x.2.1 6 none) s
    s.startEvent (e / 16))

/-- R212: the scrub reads every word: what it finds, in order. -/
def execCsScrub (sl : Slice) (found : List EccErr) (s : State) : Res :=
  s.ifOperates (csPg sl.val) (if s.dieUp (sliceDie sl.val) then
    found.foldl (fun s x => match x with
      | .ok => s
      | .corrected => s.csCorrected sl.val
      | .uncorr => s.csUncorr sl.val) s
  else s)

/-- R213: the copy from a donor ends; it fails on a word of the donor that is uncorrectable. -/
def execCsReloadDone (sl : Slice) (donorBad : Bool) (s : State) : Res :=
  let pg := csPg sl.val
  s.ifOperates (csPg sl.val) (if !s.flag pg F.CS_STATUS_RELOADING then s else
    let s := s.bset pg F.CS_STATUS_RELOADING false
    if donorBad then s.raise pg 11
    else
      let s := s.setCs sl.val { s.csOf sl.val with words := (s.csOf (s.fget pg F.CS_STATUS_DONOR)).words }
      ((s.bset pg F.CS_STATUS_UNCORR false).bset pg F.CS_STATUS_VERIFIED true).raise pg 10)

end Sys2Proof.Machine
end

