-- ==== Sys2Proof/Machine/Otp.lean ====
section
/-!
DEFINITION. The OTP array, its command engine, and what a roll call reads from it (17 R494-R505, R515).
-/
namespace Sys2Proof.Machine

/-- A word of the array; an unprogrammed word reads as zero (R494). -/
def State.otpWord (s : State) (a : Nat) : Word := s.otp.words.get 0 a

def State.setOtp (s : State) (o : Otp) : State := { s with otp := o }

/-- Did the last shadow copy find the word uncorrectable? -/
def State.otpBadWord (s : State) (a : Nat) : Bool := s.otp.bad.contains a

/-- Areas whose words PROGRAM refuses (R495, R497). LOCK is the one of the last roll call, since a value programmed into ROOT_KEY
takes effect at the next one (R497). -/
def otpProtected (s : State) (a : Nat) : Bool :=
  a < 0x1000 ||
  (0x1000 ≤ a && a ≤ 0x100C && (s.bootOf 0).shadow.rootLocked) ||
  (0x100D ≤ a && a ≤ 0x1015) || (0x1017 ≤ a && a ≤ 0x1FFF)

/-- The vote of the three SVN copies at bit `i` (R498). -/
def State.svnBit (s : State) (i : Nat) : Bool :=
  let copies := [0x1010, 0x1012, 0x1014].filter (fun a => !s.otpBadWord a && !s.otpBadWord (a + 1))
  let bitOf (a : Nat) := (s.otpWord (a + i / 32)).getLsbD (i % 32)
  if copies.length = 3 then decide (2 ≤ copies.countP bitOf) else copies.any bitOf

/-- The security version: leading ones of the vote from bit 0 up (R498). -/
def State.svn (s : State) : Nat :=
  let rec go : Nat → Nat → Nat
    | 0, i => i
    | fuel + 1, i => if s.svnBit i then go fuel (i + 1) else i
  go 64 0

/-- The base word of board-table generation `g` (R495). -/
def boardBase (g : Nat) : Nat := 0x2000 + 0x800 * g

/-- The 48-bit entry of lane `n` in generation `g`: bit j is region bit 48 n + j (R501). -/
def State.boardEntry (s : State) (g n : Nat) : Nat :=
  let b := 48 * n
  let w (k : Nat) := (s.otpWord (boardBase g + 4 + b / 32 + k)).toNat
  ((w 0 + w 1 * 2 ^ 32) >>> (b % 32)) % 2 ^ 48

/-- No word of the generation is programmed (R503). -/
def State.boardBlank (s : State) (g : Nat) : Bool :=
  s.otp.words.all (fun kv => kv.1 < boardBase g || boardBase g + 0x800 ≤ kv.1)

/-- The CONN values of an eight's lanes (R502). -/
def State.boardConn (s : State) (g e : Nat) : List Nat :=
  (List.range 8).map (fun i => bits (s.boardEntry g (8 * e + i)) 38 36)

/-- Is the generation VALID (R503)? -/
def State.boardValid (s : State) (g : Nat) : Bool :=
  let b := boardBase g
  let w0 := (s.otpWord b).toNat
  bits w0 31 16 = 0x534C && bits w0 15 12 = 1 &&
  s.otpWord (b + 1541) = 0x5A5AC3C3 &&
  s.otpWord (b + 1540) = crc32c ((List.range 1540).flatMap (fun i => leBytes 4 (s.otpWord (b + i)).toNat)) &&
  s.otp.bad.all (fun a => a < b || b + 0x800 ≤ a) &&
  (List.range 128).all (fun e => (List.range 8).all (fun c => (s.boardConn g e).contains c))

/-- STATE of a generation in OTP_BT_STATUS (R503). -/
def State.boardState (s : State) (g : Nat) : Nat := if s.boardBlank g then 0 else if s.boardValid g then 1 else 2

/-- The generation in use: the VALID one with the highest number (R504). -/
def State.boardSelected (s : State) : Option Nat := [3, 2, 1, 0].find? (fun g => s.boardValid g)

/-- Is FALLBACK set (R504)? -/
def State.boardFallback (s : State) : Bool :=
  match s.boardSelected with
  | some g => [0, 1, 2, 3].any (fun h => decide (g < h) && !s.boardBlank h)
  | none => [0, 1, 2, 3].any (fun h => !s.boardBlank h)

/-- The default entry of lane `n` (R504): MAIN 63, preset 7, CONN its own position. -/
def defaultEntry (n : Nat) : Nat := fieldAt (n % 8) 38 36 + fieldAt 7 33 30 + fieldAt 63 11 6

/-- The static I3C address in force (R72, R495, R496). -/
def State.i3cStatic (s : State) : Option (BitVec 7) :=
  let w := s.otpWord 0x1016
  if w.getLsbD 31 && !s.otpBadWord 0x1016 then some (w.setWidth 7) else none

/-- An IDENTITY word as the roll call reads it: zero when uncorrectable (R496). -/
def State.identity (s : State) (a : Nat) : Word := if s.otpBadWord a then 0 else s.otpWord a

/-- The device serial number (R495). -/
def State.serial (s : State) : Nat := (s.identity 1).toNat + (s.identity 2).toNat * 2 ^ 32

/-- Words of an area, by address, that a die's shadow takes (R15). -/
def State.otpShare (s : State) (d lo hi : Nat) : Sparse Word :=
  s.otp.words.filter (fun kv => decide (lo ≤ kv.1 ∧ kv.1 < hi) && Config.dieShare d kv.1)

/-- The board-table entries of a die's lanes, of the selected generation (R504); an unlisted lane has the entry 0. -/
def State.boardShare (s : State) (d : Nat) : Sparse (BitVec 48) :=
  match s.boardSelected with
  | none => []
  | some g => ((List.range 512).map (fun i => (512 * d + i, BitVec.ofNat 48 (s.boardEntry g (512 * d + i))))).filter (fun x => x.2 ≠ 0)

/-- What a die's shadow holds after the copy (R15, R496, R498, R500, R504). -/
def State.shadowNow (s : State) (d : Nat) : Shadow :=
  { board := s.boardShare d
    trims := (s.otpShare d 0x100 0xF00).filter (fun kv => !s.otpBadWord kv.1)
    fuses := s.otpShare d 0xF00 0x1000
    fuseBad := s.otp.bad.filter (fun a => decide (0xF00 ≤ a ∧ a < 0x1000))
    i3c := s.i3cStatic
    rootHash := (List.range 12).map (fun i => s.otpWord (0x1000 + i))
    rootBad := (List.range 13).any (fun i => s.otpBadWord (0x1000 + i))
    rootLocked := (s.otpWord 0x100C).getLsbD 31
    svn := s.svn
    gen := s.boardSelected }

/-- The roll call's read of the OTP array: counts, status registers and causes (R496, R504, R515). -/
def State.otpRollCall (s : State) (r : OtpReport) : State :=
  let s := s.setOtp { s.otp with bad := r.uncorr.map BitVec.toNat }
  let s := s.fset otpPg F.OTP_ECC_COUNTS_UNCORR r.uncorr.length
  let s := s.fset otpPg F.OTP_ECC_COUNTS_CORRECTED r.corrected.toNat
  let s := s.bset otpPg F.OTP_STATUS_ROOT_LOCKED (s.otpWord 0x100C |>.getLsbD 31)
  let s := s.bset otpPg F.OTP_STATUS_I3C_VALID s.i3cStatic.isSome
  let s := s.fset otpPg F.OTP_STATUS_SVN s.svn
  let s := s.bset otpPg F.OTP_BT_STATUS_DEFAULT s.boardSelected.isNone
  let s := s.bset otpPg F.OTP_BT_STATUS_FALLBACK s.boardFallback
  let s := s.fset otpPg F.OTP_BT_STATUS_SELECTED (s.boardSelected.getD 0)
  let s := s.fset otpPg F.OTP_BT_STATUS_STATE
    (s.boardState 0 + 4 * s.boardState 1 + 16 * s.boardState 2 + 64 * s.boardState 3)
  let s := s.raiseIf (!r.uncorr.isEmpty) otpPg 8
  s.raiseIf s.boardFallback otpPg 9

/-- READ returns the corrected word at once, or UNCORR and zero. -/
def State.otpReadWord (s : State) (a : Nat) : State :=
  if s.otpBadWord a then (s.setReg otpPg F.OTP_RDATA.off 0).fset otpPg F.OTP_CMD_STATUS 5
  else (s.setReg otpPg F.OTP_RDATA.off (s.otpWord a)).fset otpPg F.OTP_CMD_STATUS 0

/-- PROGRAM starts, or is refused LOCKED, PROTECTED or NOT_BLANK. -/
def State.otpProgramWord (s : State) (src : Source) (a : Nat) : State :=
  if (s.lockOf otpPg).all (fun l => l.src ≠ src) then s.fset otpPg F.OTP_CMD_STATUS 1
  else if otpProtected s a then s.fset otpPg F.OTP_CMD_STATUS 2
  else if s.otpWord a ≠ 0 ∨ s.otpBadWord a then s.fset otpPg F.OTP_CMD_STATUS 3
  else
    let s := s.setOtp { s.otp with busy := some (.program a (s.reg otpPg F.OTP_WDATA.off)) }
    s.bset otpPg F.OTP_CMD_BUSY true

/-- SVN_INC programs the next bit in all three copies; refused at 64 or without the lock. -/
def State.otpSvnNext (s : State) (src : Source) : State :=
  if (s.lockOf otpPg).all (fun l => l.src ≠ src) then s.fset otpPg F.OTP_CMD_STATUS 1
  else if 64 ≤ s.svn then s.fset otpPg F.OTP_CMD_STATUS 2
  else
    let s := s.setOtp { s.otp with busy := some (.svnInc s.svn) }
    s.bset otpPg F.OTP_CMD_BUSY true

/-- A write of OTP_CMD reaches the array only while no command is in progress. -/
def State.otpCmd (s : State) (src : Source) (op addr : Nat) : State :=
  if s.otp.busy.isSome then s else
  let s := s.fset otpPg F.OTP_CMD_ADDR addr
  match op with
  | 1 => s.otpReadWord addr
  | 2 => s.otpProgramWord src addr
  | 3 => s.otpSvnNext src
  | _ => s

/-- R497: OP = READ. -/
def execOtpRead (src : Source) (page : PageIdx) (addr : BitVec 14) (s : State) : Res :=
  .next (s.accessKind src page .otp (F.OTP_CMD.cmd3 1 (addr.setWidth 32)) (fun _ s => s.otpCmd src 1 addr.toNat))

/-- R497: OP = PROGRAM. -/
def execOtpProgram (src : Source) (page : PageIdx) (addr : BitVec 14) (s : State) : Res :=
  .next (s.accessKind src page .otp (F.OTP_CMD.cmd3 2 (addr.setWidth 32)) (fun _ s => s.otpCmd src 2 addr.toNat))

/-- R498: OP = SVN_INC. -/
def execOtpSvnInc (src : Source) (page : PageIdx) (s : State) : Res :=
  .next (s.accessKind src page .otp (F.OTP_CMD.cmd3 3 ((s.reg otpPg F.OTP_CMD.off) &&& 0x3FFF))
    (fun _ s => s.otpCmd src 3 (s.fget otpPg F.OTP_CMD_ADDR)))

/-- Program bits of a word: bits only change from 0 to 1 (R494). -/
def State.otpBurn (s : State) (a : Nat) (v : Word) : State :=
  s.setOtp { s.otp with words := s.otp.words.set 0 a (s.otpWord a ||| v) }

/-- Carry out the command in progress, with the bits that really took (all of them, or those in `took`). -/
def State.otpFinish (s : State) (took : Word) : State :=
  match s.otp.busy with
  | none => s
  | some (.program a v) => (s.otpBurn a (v &&& took)).setOtp { (s.otpBurn a (v &&& took)).otp with busy := none }
  | some (.svnInc i) =>
    let v := BitVec.ofNat 32 (2 ^ (i % 32)) &&& took
    let s := [0x1010, 0x1012, 0x1014].foldl (fun s a => s.otpBurn (a + i / 32) v) s
    s.setOtp { s.otp with busy := none }

/-- Put the OTP page's registers back to their reset values, after a RESET_N that waited (R499). -/
def State.otpPageReset (s : State) : State :=
  { s with regs := s.regs.filter (fun kv => !decide (keyKind kv.1 = Kind.otp.code))
           otp := { s.otp with resetPending := false } }

/-- R499: the command in progress ends; `took` are the bits that the array took, and a difference on read-back sets
VERIFY_FAIL. -/
def execOtpCmdDone (took : Word) (s : State) : Res :=
  match s.otp.busy with
  | none => .next s
  | some b =>
    let want : Word := match b with
      | .program _ v => v
      | .svnInc i => BitVec.ofNat 32 (2 ^ (i % 32))
    let t := (s.otpFinish took).bset otpPg F.OTP_CMD_BUSY false
    let t := t.fset otpPg F.OTP_CMD_STATUS (if want &&& took = want then 0 else 4)
    s.ifOperates otpPg (if t.otp.resetPending then t.otpPageReset else t)

end Sys2Proof.Machine
end

