-- ==== Sys2Proof/Machine/I3c.lean ====
section
/-!
DEFINITION. The I3C target of the bow die: addresses and the direct common command codes (02 R70-R73). Private reads and
writes are register accesses and stand in Access.lean.
-/
namespace Sys2Proof.Machine

/-- The target answers while power is good (R70, R490). -/
def State.i3cOn (s : State) : Bool := s.pins.pwrgood

/-- Take a dynamic address. -/
def State.setI3cAddr (s : State) (a : Option (BitVec 7)) : State := { s with pins := { s.pins with i3cAddr := a } }

/-- The 48-bit provisional ID (R71). DESIGN CHOICE: the serial number enters the CRC-32C least significant byte first; R71 gives no byte
order. -/
def State.provisionalId (s : State) : Nat :=
  let serial := s.serial
  fieldAt (bits (s.identity 3).toNat 14 0) 47 33 + 2 ^ 32 +
    fieldAt (bits (crc32c (leBytes 8 serial)).toNat 31 16) 31 16 + serial % 65536

/-- R72: the target takes part in ENTDAA only while it holds no dynamic address. -/
def execEntdaa (addr : BitVec 7) (s : State) : Res :=
  .next (if s.i3cOn ∧ s.pins.i3cAddr = none then
    (s.emit (.i3c [s.provisionalId])).setI3cAddr (some addr) else s)

/-- R72: SETDASA at the static OTP address assigns a dynamic address. -/
def execSetdasa (stat dyn : BitVec 7) (s : State) : Res :=
  .next (if s.i3cOn ∧ (s.bootOf 0).shadow.i3c = some stat then s.setI3cAddr (some dyn) else s)

/-- R72: RSTDAA drops the dynamic address. -/
def execRstdaa (s : State) : Res := .next (if s.i3cOn then s.setI3cAddr none else s)

/-- R71: GETPID returns the provisional ID. -/
def execGetpid (s : State) : Res :=
  .next (if s.i3cOn ∧ s.pins.i3cAddr.isSome then s.emit (.i3c [s.provisionalId]) else s)

/-- R70: GETBCR returns the bus characteristics register; MIPI fixes its bits, the manual gives no value. -/
def execGetbcr (s : State) : Res :=
  if s.i3cOn ∧ s.pins.i3cAddr.isSome then
    let (v, s) := s.draw 8
    .next (s.emit (.i3c [v.toNat]))
  else .next s

/-- R70: GETDCR returns the device characteristics register, which identifies the part; the manual gives no value. -/
def execGetdcr (s : State) : Res :=
  .next (if s.i3cOn ∧ s.pins.i3cAddr.isSome then s.emit (.i3c [Config.dcr.toNat]) else s)

end Sys2Proof.Machine
end

