-- ==== Sys2Proof/Machine/Power.lean ====
section
/-!
DEFINITION. Slice sleep, ratings, droop, temperature, the brake, the arbiter and the cox with its episodes (14 R424-R457).
-/
namespace Sys2Proof.Machine

/-! ### Slice sleep (R424-R429) -/

/-- Is a slice idle (R424)? -/
def State.sliceIdle (s : State) (sl : Nat) : Bool :=
  let ports := (List.range 64).map (64 * sl + ·)
  ports.all (fun p =>
    let st := s.fget (portPg p) F.PORT_STATUS_STATE
    decide (st < 3) && (s.portOf p).entry.isEmpty && (s.portOf p).tx.isNone && (s.portOf p).ready.isEmpty) &&
  ((List.range 4).all (fun i => (s.stalls.get [] (4 * sl + i)).isEmpty && (s.stalls.get [] (64 + 4 * sl + i)).isEmpty)) && (s.sliceOf sl).queue.isEmpty &&
  (s.routines sl).isEmpty && (s.csOf sl).event.isNone

/-- May an idle slice sleep: no HOLD_AWAKE, and AUTO_SLEEP or SLEEP_REQ? -/
def State.maySleep (s : State) (sl : Nat) : Bool :=
  let pg := aonPg (sliceDie sl)
  !bit (s.fget pg F.AON_SLEEP_CFG_HOLD_AWAKE) (sl % 8) &&
    (bit (s.fget pg F.AON_SLEEP_CFG_AUTO_SLEEP) (sl % 8) || s.flag (slicePg sl) F.PAGE_CONTROL_SLEEP_REQ)

/-- R424, R426: a slice has been idle for DELAY_US. -/
def execSliceSleepEnter (sl : Slice) (s : State) : Res :=
  .next (if s.dieUp (sliceDie sl.val) && s.sliceState sl.val == 0 && s.sliceIdle sl.val && s.maySleep sl.val then
    (s.setSliceState sl.val 1).setAsleep (slicePg sl.val) true
  else s)

/-- R426: the counters of a slice in ENTERING are saved. -/
def execSliceAsleep (sl : Slice) (s : State) : Res :=
  .next (if s.sliceState sl.val = 1 then (s.setSliceState sl.val 2).raise (aonPg (sliceDie sl.val)) 9 else s)

/-- R426, R427: a wake cause abandons an entry to sleep, or starts the wake of a sleeping slice. -/
def execSliceWakeStart (sl : Slice) (s : State) : Res :=
  let d := sliceDie sl.val
  let c := s.coxOf d
  .next (if !c.wakes.contains (sl.val % 8) then s else
    let t := s.setCox d { c with wakes := c.wakes.filter (· ≠ sl.val % 8) }
    match s.sliceState sl.val with
    | 1 => (t.setSliceState sl.val 0).setAsleep (slicePg sl.val) false
    | 2 => t.setSliceState sl.val 3
    | _ => t)

/-! ### Ratings (R432-R434) -/

def rCap : Nat := 0
def rThermal : Nat := 1
def rDroop : Nat := 2
def rBrake : Nat := 3
def rPhase : Nat := 4
def rHost : Nat := 5

/-- The rating that reason `r` demands of a die-local slice; 32 demands nothing. -/
def State.demand (s : State) (d r i : Nat) : Nat :=
  if r = rHost then s.fget (coxPg d) F.COX_SLICE_CFG_HOST_MAX i else (s.coxOf d).demands.get 32 (8 * r + i)

def State.setDemand (s : State) (d r i m : Nat) : State :=
  let c := s.coxOf d
  s.setCox d { c with demands := c.demands.set 32 (8 * r + i) (min 32 (max 16 m)) }

/-- Set the demand of a reason on every slice of a die. -/
def State.setDemands (s : State) (d r : Nat) (f : Nat → Nat) : State :=
  (List.range 8).foldl (fun t i => t.setDemand d r i (f i)) s

def State.floorOf (s : State) (d i : Nat) : Nat := s.fget (coxPg d) F.COX_SLICE_CFG_FLOOR i

/-- The applied rating of R432. -/
def State.appliedRating (s : State) (d i : Nat) : Nat :=
  if s.inPaddle (8 * d + i) || s.pins.tripped then 16
  else max (s.floorOf d i) (((List.range 6).map (fun r => s.demand d r i)).foldl min 32)

/-- The rating that a slice runs at. -/
def State.running (s : State) (d i : Nat) : Nat := (s.coxOf d).applied.get 16 i

def State.setRunning (s : State) (d i m : Nat) : State :=
  let c := s.coxOf d
  s.setCox d { c with applied := c.applied.set 16 i m }

/-- R428: the wake of a slice completes, at the rating that R432 gives. -/
def execSliceWakeDone (sl : Slice) (s : State) : Res :=
  let d := sliceDie sl.val
  .next (if s.sliceState sl.val = 3 then
    let s := (s.setSliceState sl.val 0).setAsleep (slicePg sl.val) false
    let s := s.setRunning d (sl.val % 8) (s.appliedRating d (sl.val % 8))
    (s.raise (aonPg d) 8).startEvent sl.val
  else s)

/-- R433, R434: a slice moves one step toward its applied rating. -/
def execRatingStep (sl : Slice) (s : State) : Res :=
  let d := sliceDie sl.val
  let i := sl.val % 8
  let m := s.running d i
  let tgt := s.appliedRating d i
  .next (if !s.sliceRuns sl.val || (s.coxOf d).droop.isSome then s
    else s.setRunning d i (if tgt > m then m + 1 else if tgt < m then m - 1 else m))

/-- Take the applied ratings of a die at once, as a brake demand and a thermal trip do. -/
def State.jumpRatings (s : State) (d : Nat) : State :=
  (List.range 8).foldl (fun t i => if t.appliedRating d i < t.running d i then t.setRunning d i (t.appliedRating d i) else t) s

/-! ### Episodes (R451-R453) -/

/-- The issue cap and the memory cap of a reason. -/
def State.capsOf (s : State) (d r : Nat) : Nat × Nat :=
  let c := s.coxOf d
  if r = rCap then (c.issue, c.mem) else if r = rBrake then (c.brakeIssue, c.brakeMem) else (16, 16)

/-- Die-local slices that a reason acts on; a cap acts on every slice. -/
def State.actsOn (s : State) (d r : Nat) : Nat :=
  let caps := s.capsOf d r
  if caps.1 < 16 ∨ caps.2 < 16 then 255 else (List.range 8).foldl (fun m i => if s.demand d r i < 32 then m + 2 ^ i else m) 0

/-- The lowest rating that a reason demands. -/
def State.lowest (s : State) (d r : Nat) : Nat := ((List.range 8).map (fun i => s.demand d r i)).foldl min 32

/-- Send a notice to every collector that takes notices (R453). -/
def State.notice (s : State) (d : Nat) (e : Episode) (close : Bool) : State :=
  let pg := coxPg d
  let c := s.coxOf d
  let now := s.monoNs d
  if !s.flag pg F.COX_NOTICE_EN then s else
  let soon := match c.noticed.get none e.reason with
    | some t => decide (now < t + 1000 * s.fget pg F.COX_NOTICE_MIN_US)
    | none => false
  if !close && soon then s.cadd pg F.COX_NOTICES_SUPPRESSED else
  let s := s.setCox d { c with noticed := c.noticed.set none e.reason (some now) }
  let w := fieldAt 0x4F4E 255 240 + fieldAt 1 239 236 + fieldAt d 235 235 + fieldAt close.toNat 234 234 + fieldAt e.reason 233 231 +
    fieldAt e.slices 230 223 + fieldAt e.rating 222 217 + fieldAt e.start.toNat 191 128 +
    fieldAt (if close then (now - e.since) / 1000 else 0) 127 96 + fieldAt e.seq 95 64 + (s.stamp d).toNat
  (List.range 4).foldl (fun s n =>
    let t := telPg d
    if s.flag t F.TEL_COLL_CFG_EN n && s.flag t F.TEL_COLL_CFG_NOTICE n &&
      !s.inPaddle (portSlice (s.fget t F.TEL_COLL_CFG_PORT n)) then
      if s.buildFill d + 32 + s.fget t F.TEL_COLL_CFG_TEMPLATE_LEN n > 65536 then s.cadd pg F.COX_NOTICES_SUPPRESSED
      else (s.sendStream d n 0 (beBytes 32 w)).cadd pg F.COX_NOTICES_SENT
    else s) s

/-- Open the episode of a reason. -/
def State.openEpisode (s : State) (d r : Nat) : State :=
  let c := s.coxOf d
  let e : Episode :=
    { reason := r, slices := s.actsOn d r, rating := s.lowest d r, issue := (s.capsOf d r).1, start := s.stamp d,
      since := s.monoNs d, seq := c.seq }
  let s := s.setCox d { c with episodes := c.episodes ++ [e], seq := c.seq + 1 }
  let s := s.fset (coxPg d) F.COX_OPEN_REASONS (s.fget (coxPg d) F.COX_OPEN_REASONS ||| 2 ^ r)
  (s.raise (coxPg d) 8).notice d e false

/-- Close an episode: its time, its log entry and its notice. -/
def State.closeEpisode (s : State) (d : Nat) (e : Episode) : State :=
  let pg := coxPg d
  let c := s.coxOf d
  let ns := s.monoNs d - e.since
  let full := decide (c.log.length ≥ 64)
  let s := s.setCox d { c with
    episodes := c.episodes.filter (fun x => x.reason ≠ e.reason),
    log := (if full then c.log.drop 1 else c.log) ++ [{ ep := e, micros := ns / 1000 }], logHead := (c.logHead + 1) % 128 }
  let s := s.fset pg F.COX_LOG_HEAD_HEAD ((c.logHead + 1) % 128)
  let s := if full then (s.cadd pg F.COX_LOG_LOST).raise pg 14 else s
  let s := s.fset pg F.COX_OPEN_REASONS (putBits (s.fget pg F.COX_OPEN_REASONS) e.reason e.reason 0)
  (((s.cadd pg F.COX_THROTTLE_NS ns e.reason).cadd pg F.COX_EPISODES).raise pg 9).notice d e true

/-- Bring the episode of a reason up to date. -/
def State.episodeOf (s : State) (d r : Nat) : State :=
  let on := decide (s.actsOn d r ≠ 0)
  match (s.coxOf d).episodes.find? (fun e => e.reason = r) with
  | none => if on then s.openEpisode d r else s
  | some e =>
    if !on then s.closeEpisode d e else
    let e := { e with
      slices := e.slices ||| s.actsOn d r, rating := min e.rating (s.lowest d r), issue := min e.issue (s.capsOf d r).1 }
    let c := s.coxOf d
    s.setCox d { c with episodes := c.episodes.map (fun x => if x.reason = r then e else x) }

/-- Bring the episodes of a die up to date (R451). -/
def State.episodes (s : State) (d : Nat) : State := (List.range 6).foldl (fun s r => s.episodeOf d r) s

/-! ### Droop (R437, R438) -/

/-- R437: VCORE lies THRESH_MV or more below its setpoint. -/
def execDroopStart (d : Die) (mv : BitVec 16) (s : State) : Res :=
  let d := d.val
  let pg := aonPg d
  let c := s.coxOf d
  s.ifOperates (aonPg d) (if !s.dieUp d then s else
    let t := s.fset pg F.AON_VCORE_MEASURED_MV mv.toNat
    if c.droop.isSome ∨ mv.toNat + s.fget pg F.AON_DROOP_CFG_THRESH_MV > s.fget pg F.AON_VCORE_SETPOINT_MV then t
    else ((t.setCox d { c with droop := some (s.monoNs d), droops := c.droops + 1 }).cadd (coxPg d) F.COX_DROOP_EVENTS).raise pg 12)

/-- R437: VCORE has stayed within RELEASE_MV of its setpoint for HOLD_NS. -/
def execDroopEnd (d : Die) (mv : BitVec 16) (s : State) : Res :=
  let d := d.val
  let pg := aonPg d
  let c := s.coxOf d
  s.ifOperates (aonPg d) (if !s.dieUp d then s else
    let t := s.fset pg F.AON_VCORE_MEASURED_MV mv.toNat
    match c.droop with
    | none => t
    | some since =>
      if mv.toNat + s.fget pg F.AON_DROOP_CFG_RELEASE_MV < s.fget pg F.AON_VCORE_SETPOINT_MV then t
      else (t.setCox d { c with droop := none }).cadd (coxPg d) F.COX_DROOP_STRETCH_NS (s.monoNs d - since))

/-- R438: a millisecond of droop counting ends. -/
def execDroopRateWindow (d : Die) (s : State) : Res :=
  let d := d.val
  s.ifOperates (aonPg d) (if !s.dieUp d then s else
    let c := s.coxOf d
    let rate := s.fget (aonPg d) F.AON_DROOP_CFG_RATE
    let many := rate ≠ 0 ∧ c.droops > rate
    let active := (List.range 8).any (fun i => decide (s.demand d rDroop i < 32))
    let quiet := if many then 0 else c.quiet + 1
    let t := s.setCox d { c with droops := 0, quiet := if quiet ≥ 10 then 0 else quiet }
    let t :=
      if many then
        t.setDemands d rDroop (fun i => if active then s.demand d rDroop i - 1 else s.appliedRating d i - 1)
      else if quiet ≥ 10 then t.setDemands d rDroop (fun i => s.demand d rDroop i + 1)
      else t
    t.episodes d)

/-! ### Temperature and the brake (R439-R441) -/

/-- A temperature threshold in the unit of a reading. -/
def State.tempLimit (s : State) (d : Nat) (f : Fld) : Int := 8 * (s.fget (aonPg d) f : Int)

/-- R439: 100 µs of the temperature loop, with the highest sensor reading. -/
def execThermalStep (d : Die) (reading : BitVec 16) (s : State) : Res :=
  let d := d.val
  let pg := aonPg d
  s.ifOperates (aonPg d) (if !s.dieUp d then s else
    let s := s.fset pg F.AON_TEMP_READING reading.toNat
    let hot := decide (reading.toInt ≥ s.tempLimit d F.AON_TEMP_CFG_WARN_C)
    let c := s.coxOf d
    let s := s.raiseIf (hot && !c.hot) pg 10
    let s := s.setCox d { c with hot := hot }
    let s :=
      if hot then s.setDemands d rThermal (fun i => s.demand d rThermal i - 1)
      else if reading.toInt < s.tempLimit d F.AON_TEMP_CFG_RELEASE_C && !s.pins.tripped then
        s.setDemands d rThermal (fun i => s.demand d rThermal i + 1)
      else s
    s.episodes d)

/-- R440: the temperature of a die is at or above TRIP_C. -/
def execThermTrip (d : Die) (reading : BitVec 16) (s : State) : Res :=
  let d := d.val
  let pg := aonPg d
  s.ifOperates (aonPg d) (if !s.dieUp d then s else
    let s := s.fset pg F.AON_TEMP_READING reading.toNat
    if s.pins.tripped ∨ reading.toInt < s.tempLimit d F.AON_TEMP_CFG_TRIP_C then s else
    let s := ({ s with pins := { s.pins with tripped := true } }).emit (.pin 1 false)
    let s := s.raise pg 11
    [0, 1].foldl (fun s e => ((s.setDemands e rThermal (fun _ => 16)).jumpRatings e).episodes e) s)

/-- What a die does when it finds PWR_BRAKE_N low (R441). -/
def State.brakeDie (s : State) (d : Nat) : State :=
  if !s.dieUp d then s else
  let pg := coxPg d
  let s := s.setDemands d rBrake (fun _ => s.fget pg F.COX_BRAKE_RATING)
  let s := s.setCox d { s.coxOf d with
    brakeIssue := min 16 (s.fget pg F.COX_BRAKE_ISSUE), brakeMem := min 16 (s.fget pg F.COX_BRAKE_MEM) }
  (((s.bset pg F.COX_STATUS_BRAKE true).raise pg 12).jumpRatings d).episodes d

/-- R441: PWR_BRAKE_N falls. -/
def execPwrBrakeFall (s : State) : Res :=
  .next (if !s.pins.brakeN then s else
    [0, 1].foldl State.brakeDie { s with pins := { s.pins with brakeN := false } })

/-- R441: PWR_BRAKE_N has risen; the demand and the caps of the brake are released by one step. -/
def execPwrBrakeRise (s : State) : Res :=
  .next (
    let s := { s with pins := { s.pins with brakeN := true } }
    [0, 1].foldl (fun s d =>
      if !s.dieUp d then s else
      let s := s.setDemands d rBrake (fun i => s.demand d rBrake i + 1)
      let c := s.coxOf d
      let s := s.setCox d { c with brakeIssue := min 16 (c.brakeIssue + 1), brakeMem := min 16 (c.brakeMem + 1) }
      (s.bset (coxPg d) F.COX_STATUS_BRAKE false).episodes d) s)

/-! ### The arbiter (R435, R436, R442-R444) -/

/-- The classes LINKS 0, MEMORY 1 and COMPUTE 2 in the order of a code of R442; of a reserved code the first order. -/
def classOrder : Nat → List Nat
  | 1 => [0, 2, 1]
  | 2 => [1, 0, 2]
  | 3 => [1, 2, 0]
  | 4 => [2, 0, 1]
  | 5 => [2, 1, 0]
  | _ => [0, 1, 2]

/-- The instance whose COX_CFG and COX_CAP govern a die (R446, R450). -/
def State.coxMaster (s : State) (d : Nat) : Nat := if s.split d then d else 0

/-- Divide a budget by the code of R442: `need` and `floor` by class. -/
def divide (order : List Nat) (need floor : List Nat) (b : Nat) : List Nat :=
  let step := fun (x : Nat × List Nat) (k : Nat) =>
    let c := order.getD k 0
    let later := ((order.drop (k + 1)).map (fun c => floor.getD c 0)).sum
    let a := min (need.getD c 0) (x.1 - later)
    (x.1 - a, x.2.set c a)
  let r := (List.range 3).foldl step (b, [0, 0, 0])
  let last := order.getD 2 0
  r.2.set last (r.2.getD last 0 + r.1)

/-- Show the budget and the allocations of a die in W. -/
def State.showAlloc (s : State) (d : Nat) : State :=
  let c := s.coxOf d
  let pg := coxPg d
  (((s.fset pg F.COX_BUDGET_BUDGET_W (c.budget / 1000)).fset pg F.COX_ALLOC_LINKS_W (c.alloc.getD 0 0 / 1000)).fset pg
    F.COX_ALLOC_MEM_W (c.alloc.getD 1 0 / 1000)).fset pg F.COX_ALLOC_COMPUTE_W (c.alloc.getD 2 0 / 1000)

/-- LINKS takes an excess over its allocation from the later classes in ORDER (R443). -/
def takeExcess (order : List Nat) (links : Nat) (a : List Nat) : List Nat :=
  let extra := links - a.getD 0 0
  if extra = 0 then a else
  let later := (order.dropWhile (· ≠ 0)).drop 1
  let r := later.foldl (fun (x : Nat × List Nat) c =>
    let t := min x.1 (x.2.getD c 0)
    (x.1 - t, x.2.set c (x.2.getD c 0 - t))) (extra, a)
  r.2.set 0 (r.2.getD 0 0 + (extra - r.1))

/-- The slice of a die that COMPUTE lowers next: the highest applied rating above its FLOOR, the highest seat among equals. -/
def State.lowerNext (s : State) (d : Nat) : Option Nat :=
  ((List.range 8).filter (fun i => !s.inPaddle (8 * d + i) && decide (s.appliedRating d i > s.floorOf d i))).foldl
    (fun b i => match b with
      | none => some i
      | some j => if s.appliedRating d i ≥ s.appliedRating d j then some i else some j) none

/-- The slice of a die that COMPUTE raises next: the lowest applied rating, the lowest seat among equals. -/
def State.raiseNext (s : State) (d : Nat) : Option Nat :=
  ((List.range 8).filter (fun i => decide (s.demand d rCap i < 32) || decide (s.demand d rPhase i < 32))).foldl
    (fun b i => match b with
      | none => some i
      | some j => if s.appliedRating d i < s.appliedRating d j then some i else some j) none

/-- Lower COMPUTE by one step under a reason (R435, R443). -/
def State.lowerCompute (s : State) (d r : Nat) : State :=
  match s.lowerNext d with
  | some i => s.setDemand d r i (s.demand d r i - 1)
  | none =>
    let c := s.coxOf d
    s.setCox d { c with issue := max (min c.issue (s.fget (coxPg (s.coxMaster d)) F.COX_CFG_ISSUE_MIN)) (c.issue - 1) }

/-- Raise COMPUTE by one step: the issue cap before any rating (R435, R443). -/
def State.raiseCompute (s : State) (d : Nat) : State :=
  let c := s.coxOf d
  if c.issue < 16 then s.setCox d { c with issue := c.issue + 1 }
  else match s.raiseNext d with
    | none => s
    | some i =>
      let a := s.demand d rCap i
      let b := s.demand d rPhase i
      let s := if a ≤ b then s.setDemand d rCap i (a + 1) else s
      if b ≤ a then s.setDemand d rPhase i (b + 1) else s

/-- R443: the arbiter samples the power of each class in mW. -/
def execArbiterSample (d : Die) (links mem compute : Nat) (s : State) : Res :=
  let d := d.val
  let cfg := coxPg (s.coxMaster d)
  s.ifOperates (coxPg d) (if !s.dieUp d then s else
    let c := s.coxOf d
    let up (n v : Nat) := max (c.high.getD n 0) v
    let s := s.setCox d { c with high := [up 0 links, up 1 mem, up 2 compute] }
    if !s.flag cfg F.COX_CFG_EN ∨ c.alloc.isEmpty then s else
    let order := classOrder (s.fget cfg F.COX_CFG_ORDER)
    let s := s.setCox d { s.coxOf d with alloc := takeExcess order links c.alloc, alloc0 := takeExcess order links c.alloc0 }
    let s := s.showAlloc d
    let c := s.coxOf d
    let minMem := s.fget cfg F.COX_CFG_MEM_MIN
    let s :=
      if mem > c.alloc.getD 1 0 then s.setCox d { c with mem := max (min c.mem minMem) (c.mem - 1), riseMem := false }
      else if c.riseMem then s.setCox d { c with mem := min 16 (c.mem + 1) }
      else s
    let s :=
      if compute > c.alloc.getD 2 0 then
        let s := s.setCox d { s.coxOf d with riseCompute := false }
        s.lowerCompute d (if compute > c.alloc0.getD 2 0 then rCap else rPhase)
      else if c.riseCompute then s.raiseCompute d
      else s
    s.episodes d)

/-- With EN = 0 the arbiter demands nothing (COX_CFG.EN). -/
def State.arbiterOff (s : State) (d : Nat) : State :=
  let s := (s.setDemands d rCap (fun _ => 32)).setDemands d rPhase (fun _ => 32)
  let c := s.coxOf d
  (s.setCox d { c with issue := 16, mem := 16, riseMem := false, riseCompute := false }).episodes d

/-- Is every slice of a die at its FLOOR with both caps at their minima (R444)? -/
def State.atMinima (s : State) (d : Nat) : Bool :=
  let cfg := coxPg (s.coxMaster d)
  let c := s.coxOf d
  (List.range 8).all (fun i => s.inPaddle (8 * d + i) || decide (s.appliedRating d i ≤ s.floorOf d i)) &&
    decide (c.issue ≤ s.fget cfg F.COX_CFG_ISSUE_MIN) && decide (c.mem ≤ s.fget cfg F.COX_CFG_MEM_MIN)

/-- R444: with PADDLE_ON_UNMET one more slice of an unmet die enters Paddle mode, until its power is within its budget. -/
def execPaddleOnUnmetStep (d : Die) (power : Nat) (s : State) : Res :=
  let d := d.val
  s.ifOperates (coxPg d) (if s.dieUp d && s.flag (coxPg d) F.COX_STATUS_UNMET && s.flag (coxPg (s.coxMaster d)) F.COX_CFG_PADDLE_ON_UNMET &&
      decide (power > (s.coxOf d).budget) then
    match ((List.range 8).reverse.map (8 * d + ·)).find? (fun sl => !s.inPaddle sl) with
    | some sl => ((s.enterPaddle sl cUnmet).raise (coxPg d) 11).episodes d
    | none => s
  else s)

/-! ### The cox: phases and budgets (R446-R450) -/

/-- The L1 distance of two signatures of eight 4-bit fields. -/
def sigDistance (a b : Nat) : Nat :=
  ((List.range 8).map (fun i =>
    let x := bits a (4 * i + 3) (4 * i)
    let y := bits b (4 * i + 3) (4 * i)
    if x ≥ y then x - y else y - x)).sum

/-- The valid slots of an instance. -/
def CoxSt.slots (c : CoxSt) : List (Nat × PhaseSlot) := c.phases.filterMap (fun kv => kv.2.map (fun p => (kv.1, p)))

/-- The slot nearest to a signature within a distance, the lowest among equals. -/
def CoxSt.nearest (c : CoxSt) (sig limit : Nat) : Option Nat :=
  ((c.slots.filter (fun x => decide (sigDistance x.2.sig sig ≤ limit))).foldl
    (fun (b : Option (Nat × Nat)) x => match b with
      | none => some (x.1, sigDistance x.2.sig sig)
      | some y => if sigDistance x.2.sig sig < y.2 then some (x.1, sigDistance x.2.sig sig) else some y) none).map Prod.fst

/-- The slot that an unmatched signature takes: a free one, else the least recently matched. -/
def CoxSt.victim (c : CoxSt) : Nat :=
  match (List.range 64).find? (fun n => (c.phases.get none n).isNone) with
  | some n => n
  | none => ((c.slots.foldl (fun (b : Option (Nat × Nat)) x => match b with
      | none => some (x.1, x.2.matched)
      | some y => if x.2.matched < y.2 then some (x.1, x.2.matched) else some y) none).map Prod.fst).getD 0

/-- Count a phase that followed; the four most frequent are kept. -/
def countSucc (l : List (Nat × Nat)) (n : Nat) : List (Nat × Nat) :=
  let l := if l.any (fun x => x.1 = n) then l.map (fun x => if x.1 = n then (n, x.2 + 1) else x) else l ++ [(n, 1)]
  if l.length ≤ 4 then l else
  let least := (l.map Prod.snd).foldl min (l.headD (0, 0)).2
  match l.findIdx? (fun x => x.2 = least) with
  | some i => l.eraseIdx i
  | none => l

/-- The most frequent successor of a slot and its count. -/
def PhaseSlot.successor (p : PhaseSlot) : Option (Nat × Nat) :=
  p.succ.foldl (fun b x => match b with
    | none => some x
    | some y => if x.2 > y.2 then some x else some y) none

/-- Learn an epoch: its signature and the power of each die and class in mW (R447, R448). -/
def State.learnPhase (s : State) (m sig : Nat) (power : List Nat) : State :=
  let pg := coxPg m
  let c := s.coxOf m
  let cur := s.fget pg F.COX_STATUS_PHASE
  let had := (c.phases.get none cur).isSome
  let hit := c.nearest sig (s.fget pg F.COX_CFG_MATCH)
  let n := hit.getD c.victim
  let fresh : PhaseSlot := { sig := sig, power := power.map (· * 8) }
  let slot := if hit.isSome then (c.phases.get none n).getD fresh else fresh
  let slot := { slot with
    power := if hit.isSome then List.zipWith (fun p v => p - p / 8 + v) slot.power power else slot.power, matched := c.epoch + 1 }
  let moved := had && decide (n ≠ cur)
  let phases := c.phases.set none n (some slot)
  let phases := if !moved then phases else
    match phases.get none cur with
    | some p => phases.set none cur (some { p with runs := p.runs + 1, epochs := p.epochs + c.lasted, succ := countSucc p.succ n })
    | none => phases
  let s := s.setCox m { c with phases := phases, lasted := if had && !moved then c.lasted + 1 else 1, epoch := c.epoch + 1 }
  s.fset pg F.COX_STATUS_PHASE n

/-- The predicted successor (R449). -/
def State.predict (s : State) (m : Nat) : Option Nat :=
  let pg := coxPg m
  let c := s.coxOf m
  match c.phases.get none (s.fget pg F.COX_STATUS_PHASE) with
  | none => none
  | some p =>
    match p.successor with
    | none => none
    | some (n, k) =>
      if s.flag pg F.COX_CFG_PREDICT_EN && decide (p.runs > 0) && decide ((c.lasted + 1) * p.runs ≥ p.epochs) &&
        decide (k ≥ s.fget pg F.COX_CFG_CONFIDENCE) && decide (2 * k ≥ (p.succ.map Prod.snd).sum) then some n else none

/-- Learned power of a die in a slot, in mW. -/
def CoxSt.learned (c : CoxSt) (n d : Nat) : Nat :=
  match c.phases.get none n with
  | some p => ((p.power.drop (3 * d)).take 3).sum / 8
  | none => 0

/-- The budgets of both dies from their needs; each gets at least its minimum. The spec states no division of CAP between
two needs of zero. -/
def State.budgets (s : State) (cap : Nat) (need least : Nat × Nat) : (Nat × Nat) × State :=
  let total := need.1 + need.2
  let (b, s) := if total = 0 then let (v, s) := s.draw 32; (min cap v.toNat, s) else (cap * need.1 / total, s)
  let b0 := max least.1 b
  let b1 := max least.2 (cap - b0)
  ((if b1 = cap - b0 then b0 else max least.1 (cap - b1), b1), s)

/-- The class powers of a die in an epoch. -/
def epochTotal (e : DieEpoch) : Nat := e.power.sum

/-- Four 4-bit signature fields as a number. -/
def epochSig (e : DieEpoch) : Nat :=
  (List.range 4).foldl (fun a i => a + (e.sig.getD i 0).val * 2 ^ (4 * i)) 0

/-- The new budget of a die and the budget without prediction: allocations, and what the arbiter may raise (R442, R443). -/
def State.setBudget (s : State) (d : Nat) (e : DieEpoch) (b b0 : Nat) : State :=
  let c := s.coxOf d
  let order := classOrder (s.fget (coxPg (s.coxMaster d)) F.COX_CFG_ORDER)
  let low (n : Nat) := !c.alloc.isEmpty && decide (20 * c.high.getD n 0 < 19 * c.alloc.getD n 0)
  (s.setCox d { c with
    budget := b, alloc := divide order e.power e.floor b, alloc0 := divide order e.power e.floor b0, high := [], riseMem := low 1,
    riseCompute := low 2 }).showAlloc d

/-- What an epoch's end does on one die before budgets: attribution, the unmet test and a calibration window (R357, R444,
R455). -/
def State.epochDie (s : State) (d : Nat) (e : DieEpoch) : State :=
  let pg := coxPg d
  let s := s.attribute d e.energy
  let s := s.fset pg F.COX_POWER_DIE_DW (min 0xFFFF (epochTotal e / 100))
  let c := s.coxOf d
  let unmet := decide (epochTotal e > c.budget) && !c.alloc.isEmpty && s.atMinima d
  let run := if unmet then c.unmetRun + 1 else 0
  let s := s.setCox d { c with unmetRun := run }
  let s := if unmet then s.cadd pg F.COX_UNMET_EPOCHS else s.bset pg F.COX_STATUS_UNMET false
  let s := if run = 5 then (s.bset pg F.COX_STATUS_UNMET true).raise pg 10 else s
  let c := s.coxOf d
  match c.cal with
  | none => s
  | some none =>
    let s := (List.range 12).foldl (fun s i => s.cset pg F.COX_CAL_EVENT 0 i) (s.cset pg F.COX_CAL_ENERGY 0)
    s.setCox d { c with cal := some (some (s.fget pg F.COX_CAL_CTRL_EPOCHS)), calRest := 0 }
  | some (some 0) => s
  | some (some (n + 1)) =>
    let x := c.calRest + e.energy
    (s.setCox d { c with cal := some (some n), calRest := x % 1000 }).cadd pg F.COX_CAL_ENERGY (x / 1000)

/-- Show the prediction of an instance. -/
def State.showPrediction (s : State) (m : Nat) (p : Option Nat) : State :=
  (s.bset (coxPg m) F.COX_STATUS_PREDICTING p.isSome).fset (coxPg m) F.COX_STATUS_PREDICTED (p.getD 0)

/-- The budgets of the next epoch take effect on a die, with the package's power (R446). -/
def State.budgetTaken (s : State) (d b b0 w : Nat) : State :=
  match (s.coxOf d).mine with
  | none => s
  | some e =>
    let s := s.setCox d { s.coxOf d with mine := none }
    ((s.setBudget d e b b0).fset (coxPg d) F.COX_POWER_PKG_W w).episodes d

/-- The stern's summary of an epoch reaches the master of a joined device, which sets its own budget and returns the stern's
(R446-R449). -/
def State.epochSummary (s : State) (stern : DieEpoch) : State :=
  match (s.coxOf 0).mine with
  | none => s
  | some bow =>
    let sig := epochSig bow + epochSig stern * 2 ^ 16
    let s := s.learnPhase 0 sig (bow.power ++ stern.power)
    let p := s.predict 0
    let s := s.showPrediction 0 p
    let c := s.coxOf 0
    let cur := s.fget (coxPg 0) F.COX_STATUS_PHASE
    let cap := 1000 * s.fget (coxPg 0) F.COX_CAP_CAP_W
    let need0 := (epochTotal bow, epochTotal stern)
    let need := match p with
      | some n => (max (c.learned cur 0) (c.learned n 0), max (c.learned cur 1) (c.learned n 1))
      | none => need0
    let least := (bow.power.getD 0 0 + bow.floor.getD 1 0, stern.power.getD 0 0 + stern.floor.getD 1 0)
    let (b, s) := s.budgets cap need least
    let (b0, s) := if p.isSome then s.budgets cap need0 least else (b, s)
    let w := min 0xFFFF ((epochTotal bow + epochTotal stern) / 1000)
    (s.budgetTaken 0 b.1 b0.1 w).sendCtrl 0 (.budget b.2 b0.2 w)

/-- A die of a split device at an epoch's end: its budget is SPLIT_W (R450). -/
def State.epochSplit (s : State) (d : Nat) (e : DieEpoch) : State :=
  let sig := epochSig e * 2 ^ (16 * d)
  let power := if d = 0 then e.power ++ [0, 0, 0] else [0, 0, 0] ++ e.power
  let s := s.learnPhase d sig power
  let s := s.showPrediction d (s.predict d)
  let b := 1000 * s.fget (coxPg d) F.COX_CAP_SPLIT_W
  let s := s.setCox d { s.coxOf d with mine := none }
  (s.setBudget d e b b).fset (coxPg d) F.COX_POWER_PKG_W (min 0xFFFF (epochTotal e / 1000))

/-- A die of a joined device at an epoch's end: it keeps its summary, and the stern sends its own to the master (R446). -/
def State.epochKeep (s : State) (d : Nat) (e : DieEpoch) : State :=
  let s := s.setCox d { s.coxOf d with mine := some e }
  if d = 1 then s.sendCtrl 1 (.summary e) else s

/-- R446: a 100 µs epoch ends, with what each die measured in it. -/
def execEpochEnd (r : EpochReport) (s : State) : Res :=
  let runs (d : Nat) : Bool := s.dieUp d && s.operates (coxPg d)
  .next (if !runs 0 && !runs 1 then s else
    let s := if runs 0 then s.epochDie 0 r.bow else s
    let s := if runs 1 then s.epochDie 1 r.stern else s
    let s := if s.split 0 || s.split 1 || !runs 0 || !runs 1 then
        let s := if runs 0 then s.epochSplit 0 r.bow else s
        if runs 1 then s.epochSplit 1 r.stern else s
      else (s.epochKeep 0 r.bow).epochKeep 1 r.stern
    (s.episodes 0).episodes 1)

/-! ### Registers of the cox (R446, R448, R455) -/

/-- A write of COX_CFG. -/
def State.coxCfg (s : State) (p : Page) (val : Word) : State :=
  let s := s.putRw p F.COX_CFG.off val
  let s := if F.COX_CFG_PHASE_CLEAR.of val = 1 then s.setCox p.n { s.coxOf p.n with phases := [], lasted := 0 } else s
  if F.COX_CFG_EN.of val = 1 then s else
  let s := if s.coxMaster 0 = p.n then s.arbiterOff 0 else s
  if s.coxMaster 1 = p.n then s.arbiterOff 1 else s

/-- A write of COX_CAP: CAP_W outside 600-1,600 is refused (R446). -/
def State.coxCap (s : State) (p : Page) (val : Word) : State :=
  let w := F.COX_CAP_CAP_W.of val
  if w < 600 ∨ w > 1600 then s.errCount p else s.putRw p F.COX_CAP.off val

/-- A write of COX_SLICE_CFG: FLOOR or HOST_MAX outside 16-32 is refused. -/
def State.coxSlice (s : State) (p : Page) (i : Nat) (val : Word) : State :=
  let a := F.COX_SLICE_CFG_FLOOR.of val
  let b := F.COX_SLICE_CFG_HOST_MAX.of val
  if a < 16 ∨ a > 32 ∨ b < 16 ∨ b > 32 then s.errCount p else (s.putRw p (F.COX_SLICE_CFG.at i) val).episodes p.n

def execCoxCfgWrite (src : Source) (page : PageIdx) (reg : CoxReg) (val : Word) (s : State) : Res :=
  .next (match reg with
    | .cfg => s.accessKind src page .cox (F.COX_CFG.wr val) (fun p s => s.coxCfg p val)
    | .cap => s.accessLocked src page .cox F.COX_CAP.off val (fun p v s => s.coxCap p v)
    | .slice i => s.accessKind src page .cox (F.COX_SLICE_CFG.wr val i.val) (fun p s => s.coxSlice p i.val val))

def execCoxPhaseClear (src : Source) (page : PageIdx) (val : Word) (s : State) : Res :=
  .next (s.accessKind src page .cox (F.COX_CFG.wr (F.COX_CFG_PHASE_CLEAR.put val 1))
    (fun p s => s.coxCfg p (F.COX_CFG_PHASE_CLEAR.put val 1)))

/-- A write of COX_CAL_CTRL: START begins a window at the next epoch boundary; while one is in progress it does nothing. -/
def State.calCtrl (s : State) (p : Page) (val : Word) : State :=
  let c := s.coxOf p.n
  let s := s.putRw p F.COX_CAL_CTRL.off val
  if F.COX_CAL_CTRL_START.of val = 0 ∨ c.cal.isSome then s
  else (s.setCox p.n { c with cal := some none }).bset p F.COX_CAL_CTRL_BUSY true

def execCoxCalStart (src : Source) (page : PageIdx) (val : Word) (s : State) : Res :=
  .next (s.accessKind src page .cox (F.COX_CAL_CTRL.wr (F.COX_CAL_CTRL_START.put val 1))
    (fun p s => s.calCtrl p (F.COX_CAL_CTRL_START.put val 1)))

/-- R455: the calibration window of a die has lasted its epochs. -/
def execCoxCalEnd (d : Die) (s : State) : Res :=
  let c := s.coxOf d.val
  s.ifOperates (coxPg d.val) (match c.cal with
    | some (some 0) =>
      ((s.setCox d.val { c with cal := none }).bset (coxPg d.val) F.COX_CAL_CTRL_BUSY false).raise (coxPg d.val) 13
    | _ => s)

end Sys2Proof.Machine
end

