-- ==== Sys2Proof/Machine/Receive.lean ====
section
/-!
DEFINITION. Reception: MACsec on receive with its tables and verdicts, the MAC's checks, PTP recognition, the
pipeline-entry buffer, and reassembly of preempted frames (01 R30-R33; 03 R100; 08 R264, R280; 10 R306, R307, R319,
R320; 12 R365-R369).
-/
namespace Sys2Proof.Machine

/-! ### The SC and SA tables (R365) -/

/-- Number of an entry of KIND in a port's tables; none for the reserved KIND. -/
def msecIndex (kind sc an : Nat) : Option Nat :=
  match kind with
  | 0 => some (0x100 + sc)
  | 1 => some (4 * sc + an)
  | 2 => some (0x200 + an)
  | _ => none

/-- The fields of an entry. -/
def msecMask (kind : Nat) (v : Nat) : BitVec 128 :=
  BitVec.ofNat 128 (if kind = 0 then fieldAt (bits v 127 94) 127 94 + bits v 63 0 else fieldAt (bits v 127 115) 127 115 + bits v 63 0)

/-- Fields of an RX_SC entry. -/
def scValid (e : BitVec 128) : Bool := e.getLsbD 127
def scReplay (e : BitVec 128) : Bool := e.getLsbD 126
def scWindow (e : BitVec 128) : Nat := bits e.toNat 125 94
def scSci (e : BitVec 128) : Nat := bits e.toNat 63 0

def State.rxSc (s : State) (p sc : Nat) : BitVec 128 := (s.msecOf p).tbl.get 0 (0x100 + sc)

/-- A write of MSEC_TBL_CMD. -/
def State.msecCmd (s : State) (pg : Page) (val : Word) : State :=
  let s := s.putRw pg F.MSEC_TBL_CMD.off val
  let kind := F.MSEC_TBL_CMD_KIND.of val
  let p := 8 * pg.n + F.MSEC_TBL_CMD_PORT.of val
  let sc := F.MSEC_TBL_CMD_SC.of val
  match msecIndex kind sc (F.MSEC_TBL_CMD_AN.of val) with
  | none => s
  | some i =>
    match F.MSEC_TBL_CMD_OP.of val with
    | 1 =>
      let e := msecMask kind (s.words pg F.MSEC_TBL_DATA 4)
      let twin := kind = 0 && scValid e && (List.range 64).any (fun n =>
        n ≠ sc && scValid (s.rxSc p n) && decide (scSci (s.rxSc p n) = scSci e))
      if twin then s.bset pg F.MSEC_TBL_CMD_ERR true
      else (s.bset pg F.MSEC_TBL_CMD_ERR false).setMsec p { s.msecOf p with tbl := (s.msecOf p).tbl.set 0 i e }
    | 2 => s.setWords pg F.MSEC_TBL_DATA 4 ((s.msecOf p).tbl.get 0 i).toNat
    | _ => s

def execMsecTblWrite (src : Source) (page : PageIdx) (val : Word) (s : State) : Res :=
  .next (s.accessKind src page .msec (F.MSEC_TBL_CMD.cmd 1 val) (fun p s => s.msecCmd p (F.MSEC_TBL_CMD_OP.put val 1)))

def execMsecTblRead (src : Source) (page : PageIdx) (val : Word) (s : State) : Res :=
  .next (s.accessKind src page .msec (F.MSEC_TBL_CMD.cmd 2 val) (fun p s => s.msecCmd p (F.MSEC_TBL_CMD_OP.put val 2)))

/-! ### Receive processing (R366, R367) -/

/-- A SecTAG: association number, whether the data is encrypted, SL, PN, SCI if it is carried, and its length. -/
structure SecTag where
  an : Nat
  enc : Bool
  sl : Nat
  pn : Nat
  sci : Option Nat
  len : Nat

/-- The SecTAG of a frame (R367), none when it is invalid. -/
def secTagOf (b : List Byte) (xpn : Bool) : Option SecTag :=
  let tci := num b 14 1
  let sc := bit tci 5
  let t : SecTag :=
    { an := tci % 4, enc := bit tci 3, sl := num b 15 1 % 64, pn := num b 16 4, sci := if sc then some (num b 20 8) else none,
      len := if sc then 16 else 8 }
  let data := b.length - (12 + t.len + 16)
  let short := decide (t.sl > data) || decide (t.sl ≥ 48) || (decide (t.sl < data) && decide (b.length > 60))
  let bad := bit tci 7 || (bit tci 6 && sc) || (sc && bit tci 4) || (!bit tci 3 && bit tci 2) || (decide (t.sl ≠ 0) && short) ||
    (decide (t.pn = 0) && !xpn) || decide (b.length < 12 + t.len + 16)
  if bad then none else some t

/-- The XPN recovery rule of IEEE 802.1AE. -/
def recoverPn (pn next : Nat) : Nat :=
  let hi := next / 2 ^ 32
  (if bit (next % 2 ^ 32) 31 && !bit pn 31 then hi + 1 else hi) % 2 ^ 32 * 2 ^ 32 + pn

/-- A frame that reject() refuses. -/
def Frm.reject (f : Frm) (why : Nat) : Frm := { f with rxDrop := if f.rxDrop = 0 then why else f.rxDrop, rejected := true }

/-- Receive processing of a frame by inline MACsec. -/
def State.msecReceive (s : State) (p : Nat) (f : Frm) : Frm × State :=
  if !s.msecRx p then (f, s) else
  let pg := msecPg (p / 8)
  let i := p % 8
  let et := num f.bytes 12 2
  let f := { f with macsec := true }
  let count (c : Fld) (n : Nat) : State := s.cadd pg c n i
  let by_ := et ≠ 0 ∧ (et = s.fget pg F.MSEC_BYPASS_ETYPE0 ∨ et = s.fget pg F.MSEC_BYPASS_ETYPE1)
  if by_ then ({ f with divert := some (s.msecField p F.MSEC_CFG_BYPASS_QUEUE, 5) }, count F.MSEC_IN_BYPASS 1)
  else if et ≠ 0x88E5 then (f.reject dIcv, count F.MSEC_IN_NO_TAG 1)
  else match secTagOf f.bytes (s.msecXpn p) with
    | none => (f.reject dIcv, count F.MSEC_IN_BAD_TAG 1)
    | some t =>
      let sci := t.sci.getD (num f.bytes 6 6 * 65536 + 1)
      match (List.range 64).find? (fun n => scValid (s.rxSc p n) && decide (scSci (s.rxSc p n) = sci)) with
      | none => (f.reject dIcv, count F.MSEC_IN_NO_SCI 1)
      | some sc =>
        let x := 4 * sc + t.an
        let sa := (s.msecOf p).tbl.get 0 x
        if !s.saUsable p sa then (f.reject dIcv, count F.MSEC_IN_NOT_USING_SA 1) else
        let pn := if s.msecXpn p then recoverPn t.pn (saPn sa) else t.pn
        let e := s.rxSc p sc
        if scReplay e && decide (pn + scWindow e < saPn sa) then (f.reject dReplay, count F.MSEC_IN_LATE 1) else
        let k := s.keySlot (portDie p) (saSlot sa)
        let secure := f.bytes.drop (12 + t.len)
        let n := if t.sl = 0 then secure.length - 16 else t.sl
        let data := secure.take n
        let icv := slice secure n 16
        let clear := if t.enc then s.confOffset p else n
        let aad := f.bytes.take (12 + t.len) ++ data.take clear
        let key := s.msecKey p k
        let iv := s.msecIv p k sci pn
        let bytes := f.bytes.take 12 ++ data.take clear ++ gctr key iv 2 (data.drop clear)
        let ok := decide (gcmTag key iv aad (data.drop clear) = icv)
        ({ f with
            bytes := bytes, size := bytes.length + 4, modified := true, verdict := .waiting, sa := some (x, pn, ok),
            key := some (saSlot sa, k.gen) },
          s.beginKey (portDie p) (saSlot sa))

/-- The verdict on a frame: the reason of a failure, or 0 with NEXT_PN moved on (R367). -/
def State.judge (s : State) (p size : Nat) (x : Nat × Nat × Bool) : Nat × State :=
  let pg := msecPg (p / 8)
  let i := p % 8
  let sc := s.rxSc p (x.1 / 4)
  let m := s.msecOf p
  let sa := m.tbl.get 0 x.1
  if !x.2.2 then (dIcv, s.cadd pg F.MSEC_IN_NOT_VALID 1 i)
  else if scReplay sc && decide (x.2.1 + scWindow sc < saPn sa) then (dReplay, s.cadd pg F.MSEC_IN_LATE 1 i)
  else
    let next := if saPn sa > x.2.1 then saPn sa else x.2.1 + 1
    let s := s.setMsec p { m with tbl := m.tbl.set 0 x.1 (saSetPn sa (next % 2 ^ 64)) }
    (0, (s.cadd pg F.MSEC_IN_OK 1 i).cadd pg F.MSEC_IN_OCTETS size i)

/-! ### PTP on receive (R319, R320, R332) -/

/-- What a port does with a PTP message it recognises. -/
def State.ptpReceive (s : State) (p : Nat) (f : Frm) : Frm × State :=
  match s.ptpOf p f.bytes with
  | none => (f, s)
  | some m =>
    let pg := portPg p
    let ev := m.event f.bytes
    let s := if ev then s.cadd pg F.TIME_PORT_PTP_EVENTS else s
    let t := m.type f.bytes
    let punt : Frm := { f with divert := some (s.fget pg F.TIME_PORT_PTP_CFG_PUNT_QUEUE, 6) }
    match s.fget pg F.TIME_PORT_PTP_CFG_MODE with
    | 0 => (f, s)
    | 1 => (if ev then { f with ptp := some (m, false) } else f, s)
    | 2 => (if t = 2 ∨ t = 3 ∨ t = 0xA then punt else if ev then { f with ptp := some (m, true) } else f, s)
    | _ => (punt, s)

/-! ### The entry buffer (R30-R33, R100, R230) -/

/-- The ingress stamp of a frame (R306, R307): `delay` is the path delay of this frame in 2^-16 ns. -/
def State.ingressStamp (s : State) (p : Nat) (delay : BitVec 32) : DWord :=
  s.stamp (portDie p) - BitVec.ofNat 64 delay.toNat - (s.reg (portPg p) F.TIME_PORT_RX_ADJ.off).signExtend 64

/-- Class of a frame before parsing: the PCP of its outermost VLAN tag (R230). -/
def rawPcp (b : List Byte) : Nat := if num b 12 2 = 0x8100 ∨ num b 12 2 = 0x88A8 then num b 14 2 / 8192 else 0

/-- Is a frame of a class and size accepted at the entry buffer (R31)? -/
def State.entryTakes (s : State) (p cls size : Nat) : Bool :=
  decide (s.entryFill p + size ≤ 32768) && (decide (s.entryFill p < 16384) || s.lossless p cls)

/-- A port whose entry buffer was empty joins the others of its pipeline where they stand (R30). -/
def State.joinService (s : State) (p : Nat) : State :=
  let x := s.portOf p
  if !x.entry.isEmpty then s else
  let l := ((List.range 16).map (16 * (p / 16) + ·)).filter (fun q => !(s.portOf q).entry.isEmpty)
  match (l.map (fun q => (s.portOf q).served)).min? with
  | some m => s.setPort p { x with served := max x.served m }
  | none => s

/-- A MAC control frame acts in the MAC (R233, R234). -/
def State.macControl (s : State) (p : Port) (b : List Byte) : State :=
  match num b 14 2 with
  | 0x0101 => (s.pfcRx p (BitVec.ofNat 8 (num b 16 2)) ((List.range 8).map (fun c => BitVec.ofNat 16 (num b (18 + 2 * c) 2)))).wakePort
      p.val
  | 0x0001 => s.cadd (portPg p.val) F.BUF_PAUSE_IGNORED
  | _ => s

/-- A codeword that FEC delivers on a silicon lane of a port (R97, R101, R102). The windows of FEC_HIGH are the milliseconds of
the time that the die's time unit counts without steps. -/
def State.codeword (s : State) (p l : Nat) (c : Codeword) : State :=
  let x := s.lanes.get {} l
  let run (n : Nat) (s : State) : State := { s with lanes := s.lanes.set {} l { x with run := n } }
  match c with
  | .ok => run 0 s
  | .corrected n => run 0 ((s.cadd (lanePg l) ⟨0x128, 0, 0, 32⟩ n).cadd (portPg p) ⟨0x1C8, 0, 0, 32⟩)
  | .uncorr =>
    let w := s.monoNs (portDie p) / 1000000
    let k := s.links.get {} p
    let n := if k.fecWindow = w then k.fecCount + 1 else 1
    let s := (run (x.run + 1) s).cadd (portPg p) ⟨0x1D0, 0, 0, 32⟩
    ({ s with links := s.links.set {} p { k with fecWindow := w, fecCount := n } }).raiseIf (decide (n = 1001)) (portPg p) 15

/-- The codewords that a lane of a port with FEC delivers. -/
def State.codewords (s : State) (p l : Nat) (cws : List Codeword) : State :=
  let fec := s.fget (portPg p) F.PORT_STATUS_FEC
  if fec = 0 ∨ fec = 4 then s else cws.foldl (fun s c => s.codeword p l c) s

/-- A frame is received on a port: the bytes before its FCS, the FCS, whether an uncorrectable codeword marks it, its stamp,
and whether its last byte is there. DESIGN CHOICE: an oversize frame counts in PORT_RX_BYTES and PORT_RX_OVERRUN_BYTES with the
bytes received, not with those left by its truncation. -/
def State.rxFrame (s : State) (p : Port) (bytes : List Byte) (fcs : Word) (uncorr : Bool) (stamp : DWord) (last : Bool) : State :=
  let pg := portPg p.val
  let d := portDie p.val
  let n := bytes.length + 4
  let maxFrame := s.fget pg F.PORT_MAC_CFG_MAX_FRAME
  let big := decide (n > maxFrame)
  let b := if big then bytes.take (maxFrame - 4) else bytes
  let bad := !big && (decide (fcs ≠ fcs32 bytes) || uncorr)
  let runt := decide (n < 64)
  let s := (s.cadd pg F.PORT_RX_FRAMES).cadd pg F.PORT_RX_BYTES n
  let s := if bad then s.cadd pg F.PORT_RX_FCS_BAD else s
  let s := if runt then s.cadd pg F.PORT_RX_RUNT else s
  let s := if big then s.cadd pg F.PORT_RX_OVERSIZE else s
  let why := if big then dOversize else if bad then dFcs else if runt then dRunt else 0
  if why = 0 ∧ num b 12 2 = 0x8808 then s.macControl p b else
  let f : Frm :=
    { port := p.val, die := d, holder := d, bytes := b, fcs := fcs, rxDrop := why, size := b.length + 4, stamp := stamp,
      lastByte := last }
  let (f, s) := s.msecReceive p.val f
  let (f, s) := if f.rejected || f.divert.isSome then (f, s) else s.ptpReceive p.val f
  if s.entryTakes p.val (rawPcp f.bytes) f.len then
    let s := s.joinService p.val
    let (uid, s) := s.newFrm f
    let x := s.portOf p.val
    (s.setPort p.val { x with entry := x.entry ++ [uid], rx := if last then x.rx else some uid }).entryPfc p.val
  else
    let s := ((s.cadd pg F.PORT_RX_OVERRUN_FRAMES).cadd pg F.PORT_RX_OVERRUN_BYTES n).raise pg 14
    let s := match f.sa with
      | some x => (s.judge p.val f.size x).2
      | none => s
    match f.key with
    | some k => s.endKey d k.1 k.2
    | none => s

/-- R31, R306: the SFD of a frame reaches the MAC of a port that is UP, after codewords that its lanes have delivered. -/
def execFrameRx (p : Port) (bytes : List Byte) (fcs : Word) (uncorr : FecReport) (delay : BitVec 32) (s : State) : Res :=
  .next (if s.portUp p.val && (s.portOf p.val).rx.isNone then
    let s := uncorr.cws.foldl (fun s x => if p.val / 8 = (p.val + x.1.val) / 8 then s.codewords p.val (p.val + x.1.val) x.2 else s) s
    s.rxFrame p bytes fcs uncorr.uncorr (s.ingressStamp p.val delay) false else s)

/-- R280: a fragment of a preemptable frame is received: whether it starts a frame, the frame count and fragment count it
carries, whether its check is right, and whether it is the last. -/
def execMmFragmentRx (p : Port) (x : Fragment) (delay : BitVec 32) (s : State) : Res :=
  let pg := portPg p.val
  .next (if !s.portUp p.val || !s.flag pg F.PORT_MM_CFG_EN then s else
    let q := s.portOf p.val
    let drop (s : State) : State := (s.setPort p.val { s.portOf p.val with assembly := none }).cadd pg F.PORT_MM_ASSY_ERRORS
    let put (s : State) (a : Assembly) : State :=
      if x.last then
        let s := if a.frags = 0 then s else s.cadd pg F.PORT_MM_RX_ASSEMBLED
        (s.setPort p.val { s.portOf p.val with assembly := none }).rxFrame p a.bytes x.fcs x.uncorr a.stamp true
      else if !x.crcOk then drop s
      else s.setPort p.val { s.portOf p.val with assembly := some a }
    if x.start then
      let s := if q.assembly.isSome then drop s else s
      put s { bytes := x.bytes, stamp := s.ingressStamp p.val delay, frags := 0, num := x.frame.val }
    else
      let s := s.cadd pg F.PORT_MM_RX_FRAGMENTS
      match q.assembly with
      | none => drop s
      | some a =>
        if a.num ≠ x.frame.val ∨ a.frags % 4 ≠ x.frag.val then drop s
        else put s { a with bytes := a.bytes ++ x.bytes, frags := a.frags + 1 })

/-! ### The last byte and the verdict (R264, R265, R367, R368) -/

/-- Frames that are a received frame or copies and parts of it. -/
def State.kin (s : State) (uid : Nat) : List Nat :=
  s.frames.filterMap (fun kv => match kv.2 with
    | some f => if kv.1 = uid ∨ f.root = uid then some kv.1 else none
    | none => none)

/-- The policers of a frame meter it, those of an egress pass with the slice of its port (R264). -/
def State.meterUid (s : State) (uid : Nat) : State :=
  match s.frm uid with
  | none => s
  | some f =>
    let sl := match f.pass with
      | some c => portSlice (c.port.getD 0)
      | none => portSlice f.port
    let r := s.meterFrm sl f
    r.2.setFrm uid r.1

/-- The policers of a frame, and of the copies and parts that come of it, meter them; a red frame is red in all its parts (R264, R265).
An egress copy that waited to be metered ends now. -/
def State.meterKin (s : State) (uid : Nat) : State :=
  let l := s.kin uid
  let s := l.foldl State.meterUid s
  let red := (s.frm uid).any Frm.red
  let s := l.foldl (fun s u => s.updFrm u (fun f => { f with red := f.red || (red && f.pass.isNone) })) s
  l.foldl (fun s u => match s.frm u with
    | some f => if f.ending then s.endUnsent u f else s
    | none => s) s

/-- The last byte of the frame that a port receives has arrived; `bad` when the port has left UP and cut the frame off, which
is a mismatch of its FCS (R100). -/
def State.lastByte (s : State) (p : Nat) (bad : Bool) : State :=
  let x := s.portOf p
  match x.rx with
  | none => s
  | some uid =>
    let s := s.setPort p { x with rx := none }
    let cut := bad && (s.frm uid).any (fun f => decide (f.rxDrop ≠ dOversize ∧ f.rxDrop ≠ dFcs))
    let s := if cut then s.cadd (portPg p) F.PORT_RX_FCS_BAD else s
    let l := s.kin uid
    let s := l.foldl (fun s u => s.updFrm u (fun f =>
      { f with lastByte := true, rxDrop := if bad && f.rxDrop ≠ dOversize then dFcs else f.rxDrop })) s
    l.foldl State.dropLate (s.meterKin uid)

/-- R264: the last byte of a received frame reaches the ingress MAC. -/
def execFrameRxEnd (p : Port) (s : State) : Res := .next (s.lastByte p.val false)

/-- The steps that were held proceed (R368). -/
def State.verdictPass (s : State) (uid : Nat) : State :=
  let s := match s.frm uid with
    | none => s
    | some f =>
      match f.learn with
      | none => s
      | some e =>
        let (ok, s) := s.raiseLearn e
        let refused := !ok && !s.flag (portPg e.port) F.LRN_PORT_CFG_EXCESS
        (s.kin uid).foldl (fun s u => s.updFrm u (fun f =>
          { f with learn := none, rxDrop := if refused && f.rxDrop = 0 then dLearn else f.rxDrop })) s
  let l := s.kin uid
  let s := l.foldl (fun s u => s.updFrm u (fun f => { f with verdict := .passed })) s
  l.foldl State.dropLate (s.meterKin uid)

/-- A frame that fails after decryption: its cells are freed on both dies, and it is recorded once with nothing taken from
its decrypted bytes (R368, R485). -/
def State.verdictFail (s : State) (uid : Nat) (f : Frm) (why : Nat) : State :=
  let f := { f with
    rxDrop := if f.rxDrop = 0 then why else f.rxDrop, hash := 0, ruleId := 0, destTenant := f.tenant, learn := none,
    verdict := .passed }
  let c : Copy := { uid := uid }
  if !f.known then s.setFrm uid { f with rejected := true }
  else if f.gone then (s.setFrm uid f).dropLate uid
  else
    let crossed := (s.keelOf f.die).tx.any (fun y => y.uid = uid && decide (y.sent > 0))
    let s := s.quitEarly uid f
    let s := ((s.kin uid).filter (· ≠ uid)).foldl (fun s u => s.voidOn f.die u) s
    let s := (s.copies f.die).foldl (fun s y => if y.uid = uid then s.unqueue f.die y else s) s
    let s := s.fold f.die f c f.rxDrop none f.size 0
    if crossed then (s.setFrm uid { f with known := false, verdict := .waiting }).sendCtrl f.die (.void uid) else s.dropFrm uid

/-- R368: the verdict on a frame is known; the frames of a port are verified in arrival order (R367). -/
def execMacsecVerdict (uid : Nat) (s : State) : Res :=
  .next (match s.frm uid with
    | none => s
    | some f =>
      match f.sa with
      | none => s
      | some x =>
        let earlier := s.frames.any (fun kv => decide (kv.1 < uid) && (match kv.2 with
          | some g => decide (g.port = f.port) && decide (g.root = 0) && g.sa.isSome
          | none => false))
        if !f.lastByte || f.root ≠ 0 || earlier || !s.operates (msecPg (f.port / 8)) then s else
        let s := match f.key with
          | some k => s.endKey f.die k.1 k.2
          | none => s
        let (why, s) := s.judge f.port f.size x
        let s := (s.kin uid).foldl (fun s u => s.updFrm u (fun f => { f with sa := none, key := none })) s
        match s.frm uid with
        | none => s
        | some f => if why = 0 then s.verdictPass uid else s.verdictFail uid f why)

end Sys2Proof.Machine
end

