-- ==== Sys2Proof/Machine/Ports.lean ====
section
/-!
DEFINITION. Arrangement of eights, equalisation limits, and the state machine of a port's link (03 R74-R101; 17 R523).
-/
namespace Sys2Proof.Machine

/-! ### Arrangement (R75-R78, R81) -/

/-- Lane rate of a technology. -/
def techRate : Nat → Nat
  | 0 => 4 | 1 => 3 | 2 => 2 | 3 => 1 | 4 => 0 | 5 => 2 | 6 => 1 | 7 => 0 | 8 => 3 | 9 => 2 | 10 => 1 | 11 => 0 | _ => 0

/-- Ports of an arrangement: first lane and width. -/
def arrPorts (arr : Nat) : List (Nat × Nat) :=
  (List.range 8).filterMap (fun i => if codeWidth (arrCode arr i) = 0 then none else some (i, codeWidth (arrCode arr i)))

/-- Every port starts at a multiple of its width and its other lanes are CONT, no other lane is CONT, and no code is
reserved (R76, R12). -/
def arrAligned (arr : Nat) : Bool :=
  (arrPorts arr).all (fun p => decide (p.1 % p.2 = 0)) &&
  (List.range 8).all (fun i =>
    let inside := (arrPorts arr).any (fun p => decide (p.1 < i ∧ i < p.1 + p.2))
    decide (arrCode arr i ≤ 5) && (decide (arrCode arr i = 0) == inside))

/-- Every port has one rate, and a technology at it. -/
def arrRated (arr rate : Nat) : Bool :=
  (arrPorts arr).all (fun p => (List.range p.2).all (fun k => decide (pairRate rate (p.1 + k) = pairRate rate p.1)) &&
    (techOf p.2 (pairRate rate p.1)).isSome)

/-- The connector lanes of each port form a block of its width that starts at a multiple of it (R81). -/
def arrWired (arr swap : Nat) : Bool :=
  (arrPorts arr).all (fun p =>
    (List.range p.2).all (fun k => decide (connLane swap (p.1 + k) / p.2 = connLane swap p.1 / p.2)))

def State.portState (s : State) (p : Nat) : Nat := s.fget (portPg p) F.PORT_STATUS_STATE

/-- The LAST_ERR code of a write that would give an eight an arrangement and rates; 0 when it takes effect (R78). DESIGN
CHOICE: of several checks that a write fails, the first in the order of the LAST_ERR table is reported. -/
def State.arrangeErr (s : State) (e arr rate : Nat) : Nat :=
  if (List.range 8).any (fun i => decide (s.portState (8 * e + i) ≠ 0)) then 1
  else if !arrAligned arr then 2
  else if !arrRated arr rate then 3
  else if !arrWired arr (s.fget (eightPg e) F.EIGHT_SWAP_CONN) then 4
  else 0

/-- The interrupt and status bits of an eight's ports follow their lanes after a change of arrangement (R48, R53, R61). -/
def State.resyncEight (s : State) (e : Nat) : State :=
  (List.range 8).foldl (fun s i =>
    let pg := portPg (8 * e + i)
    let child := (s.treeChildren pg).foldl (fun a l => if s.irqOut l then a + 2 ^ (l.n - pg.n) else a) 0
    let s := s.irqUpd pg (fun s => (s.setReg pg F.PAGE_IRQ_CHILD.off (BitVec.ofNat 32 child)).setReg pg F.PAGE_IRQ_STATUS.off
      (Fld.put ⟨0x18, 0, 0, 1⟩ (s.reg pg F.PAGE_IRQ_STATUS.off) (decide (child ≠ 0)).toNat))
    ((s.setStatusFrom pg 1 7).setStatusFrom pg 2 7).setStatusFrom pg 3 7) s

/-! ### Lanes (R79-R84, R95) -/

/-- Two's complement value of a six-bit field. -/
def tapInt (v : Nat) : Int := if v < 32 then v else (v : Int) - 64

/-- The five taps of a word laid out as LANE_TX_FIR: PRE3, PRE2, PRE1, MAIN, POST1. -/
def tapsOf (w : Nat) : List Int :=
  [tapInt (bits w 29 24), tapInt (bits w 23 18), tapInt (bits w 17 12), (bits w 11 6 : Int), tapInt (bits w 5 0)]

/-- The word of five taps. -/
def tapsWord (t : List Int) : Nat :=
  let f (i : Nat) : Nat := ((t.getD i 0) % 64).toNat
  fieldAt (f 0) 29 24 + fieldAt (f 1) 23 18 + fieldAt (f 2) 17 12 + fieldAt (f 3) 11 6 + fieldAt (f 4) 5 0

def tapSum (t : List Int) : Nat := (t.map Int.natAbs).sum

/-- Move element `i` toward zero by at most `n`. -/
def shrinkTap (t : List Int) (i n : Nat) : List Int :=
  let v := t.getD i 0
  let m := min n v.natAbs
  t.set i (if v < 0 then v + m else v - m)

/-- Starting taps brought to a sum of at most 63: MAIN gives way first, then POST1, PRE1, PRE2, PRE3 (R83). -/
def startTaps (t : List Int) : List Int :=
  [3, 4, 2, 1, 0].foldl (fun t i => shrinkTap t i (tapSum t - 63)) t

/-- The board-table taps of a lane (R79). -/
def State.boardTaps (s : State) (l : Nat) : List Int := tapsOf ((s.reg (lanePg l) F.LANE_BT_LO.off).toNat % 2 ^ 30)

/-- The taps from which a lane starts training, before R83's reduction. -/
def State.baseTaps (s : State) (l : Nat) : List Int :=
  if s.flag (lanePg l) F.LANE_TX_CTRL_OVERRIDE_EN then tapsOf (s.reg (lanePg l) F.LANE_TX_OVERRIDE.off).toNat
  else s.boardTaps l

/-- The adaptation bounds of an RX preset (R84). -/
def presetBounds (p : Nat) : Nat × Nat := (2 * p - 3, min 31 (2 * p + 5))

/-- The effective bounds of a lane under limits `lo` and `hi`. -/
def State.ctleBounds (s : State) (l lo hi : Nat) : Nat × Nat :=
  let b := presetBounds (s.fget (lanePg l) F.LANE_RX_EQ_PRESET)
  (max b.1 lo, min b.2 hi)

/-- The CTLE at its starting code, under the bounds in force (R84). -/
def State.startCtle (s : State) (l : Nat) : State :=
  let pg := lanePg l
  let b := s.ctleBounds l (s.fget pg F.LANE_RX_LIMIT_MIN) (s.fget pg F.LANE_RX_LIMIT_MAX)
  let s := (s.fset pg F.LANE_RX_EQ_BOUND_MIN b.1).fset pg F.LANE_RX_EQ_BOUND_MAX b.2
  s.fset pg F.LANE_RX_EQ_CTLE (max b.1 (min b.2 (2 * s.fget pg F.LANE_RX_EQ_PRESET + 1)))

/-- The training protocol of a lane rate (R88): Clause 72, Clause 136, Clause 162, or 0 for the IEEE 802.3dj protocol. -/
def trainProtocol : Nat → Nat
  | 0 => 0 | 1 => 162 | 2 => 136 | _ => 72

/-- A lane begins to train: it runs the protocol of its rate from the starting taps and CTLE code (R83, R84, R88). -/
def State.laneTrain (s : State) (l rate : Nat) : State :=
  let s := s.setReg (lanePg l) F.LANE_TX_FIR.off (BitVec.ofNat 32 (tapsWord (startTaps (s.baseTaps l))))
  (s.startCtle l).emit (.training l (trainProtocol rate))

/-- A lane powers down: its equalisation state is lost, and it has the board table's again (R20). -/
def State.laneDown (s : State) (l : Nat) : State :=
  (s.setReg (lanePg l) F.LANE_TX_FIR.off (BitVec.ofNat 32 (tapsWord (s.boardTaps l)))).startCtle l

/-- The slice whose REFCLK_LANE a lane takes, none for the die's disciplined clock (R82). -/
def State.laneClock (s : State) (l : Nat) : Option Nat :=
  match bits (s.reg (lanePg l) F.LANE_BT_HI.off).toNat 8 7 with
  | 1 => some (Nat.xor (l / 64) 1)
  | 2 => none
  | _ => some (l / 64)

/-- Is a lane's transmit PLL out of lock (R523)? -/
def State.pllOut (s : State) (l : Nat) : Bool :=
  match s.laneClock l with
  | some c => s.pins.refclkLost.contains c
  | none => false

def State.laneCauses (s : State) (l : Nat) : List LinkCause := (s.lanes.get {} l).causes

/-- The receive signal-to-noise ratio that a lane measures at present (LANE_RX_QUALITY). -/
def State.laneSnr (s : State) (l : Nat) : BitVec 16 := Config.laneSnr l (s.monoNs (l / 512) / 1000000)

/-- Bring a lane's status bits up to date: its state under R95, the rate it runs at, and its locks. A lane that has lost its
signal, its clock or its alignment is no longer locked: it awaits lock. -/
def State.setLane (s : State) (l st rate : Nat) (fec : Nat) : State :=
  let pg := lanePg l
  let c := s.laneCauses l
  let on (x : LinkCause) : Bool := decide (st ≥ 3) && !c.contains x
  let st := if st = 4 ∧ !(on .signal && on .cdr && on .align) then 3 else st
  let s := (s.fset pg F.LANE_STATUS_STATE st).fset pg F.LANE_STATUS_RATE (if st = 0 then 7 else rate)
  let s := if s.flag pg F.LANE_STATUS_CDR_LOCK && !on .cdr then s.fset pg F.LANE_RX_QUALITY_SNR (s.laneSnr l).toNat else s
  let s := (s.bset pg F.LANE_STATUS_SIGNAL (on .signal)).bset pg F.LANE_STATUS_CDR_LOCK (on .cdr)
  (s.bset pg F.LANE_STATUS_FEC_LOCK (decide (st = 4 ∧ fec ≠ 4) && on .align)).bset pg F.LANE_STATUS_AM_LOCK
    (decide (st = 4 ∧ fec < 3) && on .align)

/-- Put every lane of a port in a state. -/
def State.setLanes (s : State) (p st rate : Nat) : State :=
  let fec := s.fget (portPg p) F.PORT_STATUS_FEC
  (s.portLanes p).foldl (fun s l => s.setLane l st rate fec) s

/-- Do the lanes of a port lock with what they receive? Each signal stands upright once the polarity bit has acted at the
contacts, the markers name every PCS or FEC lane of the port once, in any order, and the skew lies within 180 ns (R80, R81,
R91). -/
def State.marksLock (s : State) (p : Nat) (marks : List LaneMark) : Bool :=
  let w := s.portWidth p
  decide (marks.length = w) &&
  ((s.portLanes p).zip marks).all (fun x => x.2.inverted == s.rxPol x.1) &&
  (List.range w).all (fun k => marks.any (fun m => decide (m.lane.val = k))) &&
  marks.all (fun a => marks.all (fun b => decide (a.skew ≤ b.skew + 180000)))

/-- Forget the conditions of R97 on a port's lanes, and what it receives. -/
def State.clearCauses (s : State) (p : Nat) : State :=
  let s := (s.bset (portPg p) F.PORT_STATUS_RF false).bset (portPg p) F.PORT_STATUS_LF false
  (s.portLanes p).foldl (fun s l => { s with lanes := s.lanes.set {} l {} }) s

/-- A link-down condition is present on a port (R97, R523). -/
def State.linkBad (s : State) (p : Nat) : Bool :=
  (s.portLanes p).any (fun l => decide (s.laneCauses l ≠ []) || s.pllOut l)

/-! ### Negotiation (R85-R89) -/

/-- PORT_CFG as sampled at the last exit from DISABLED. -/
def State.linkCfg (s : State) (p : Nat) : Nat := (s.links.get {} p).cfg.toNat

def State.setLink (s : State) (p : Nat) (l : LinkSt) : State := { s with links := s.links.set {} p l }

/-- Technologies that a port advertises: its width at its configured rate and, for wider ports, at lower rates, as far as
PORT_AN_ADV permits (R85, R86). -/
def State.advertised (s : State) (p : Nat) : List Nat :=
  let w := s.portWidth p
  let r := s.confRate p
  ((List.range 5).filterMap (fun x => if x = r ∨ (w ≥ 2 ∧ x > r) then techOf w x else none)).filter
    (fun t => bit (s.fget (portPg p) F.PORT_AN_ADV_TECH) t)

/-- The Technology Ability bit of Clause 73 for a technology (R85); 100GBASE-KR4 and -CR4 have one each. PRESUMED: IEEE 802.3
assigns the bits. -/
def abilityBit (cr : Bool) : Nat → Nat
  | 0 => 2 | 1 => 10 | 2 => 13 | 3 => 16 | 4 => 19 | 5 => 14 | 6 => 17 | 7 => 20
  | 8 => if cr then 8 else 7
  | 9 => 15 | 10 => 18 | 11 => 21 | _ => 22

/-- The Clause 73 FEC bits F0 to F3 that a port sets, for PORT_CFG.FEC and the technologies that it advertises (R87). -/
def fecBits (cfg : Nat) (techs : List Nat) : Nat :=
  match cfg with
  | 0 => 13
  | 2 => 5
  | 3 => 1 + (if techs.contains 0 then 2 else 0) + (if techs.contains 1 then 8 else 0)
  | 4 => 0
  | _ => 1

/-- A port in AN sends its DME pages on the negotiation lane: the Technology Ability and the FEC bits (R81, R85, R87). -/
def State.sendPages (s : State) (p : Nat) : State :=
  match s.laneOrder p with
  | [] => s
  | l :: _ =>
    let t := s.advertised p
    s.emit (.anPage l ((t.map (fun x => 2 ^ abilityBit (bit (s.linkCfg p) 1) x)).sum) (fecBits (bits (s.linkCfg p) 11 8) t))

/-- FEC modes of a technology (R77), coded as PORT_CFG.FEC. -/
def techFecs : Nat → List Nat
  | 0 => [4, 3] | 1 => [2, 3, 4] | 8 => [2] | _ => [1]

/-- The FEC mode that a technology resolves: `cfg` 0 is AUTO, `f1` the partner's request for Clause 74 FEC at 10 Gb/s; none
when a forced mode does not fit (R87). A reserved code is a mode that no technology lists. -/
def fecOf (tech cfg : Nat) (f1 : Bool) : Option Nat :=
  if cfg = 0 then some (match tech with | 0 => if f1 then 3 else 4 | 1 => 2 | 8 => 2 | _ => 1)
  else if (techFecs tech).contains cfg then some cfg else none

/-- The highest technology of those given: the one at the highest lane rate. -/
def highestTech (l : List Nat) : Option Nat :=
  l.foldl (fun a t => match a with | none => some t | some b => some (max b t)) none

/-- What negotiation with a partner resolves (R85, R87). -/
def State.anResolve (s : State) (p : Nat) (partner : BitVec 13) (f1 : Bool) : Option (Nat × Nat) :=
  match highestTech ((s.advertised p).filter (fun t => partner.getLsbD t)) with
  | none => none
  | some t => (fecOf t (bits (s.linkCfg p) 11 8) f1).map (fun f => (t, f))

/-! ### The state machine of a port (R94) -/

def State.setPortState (s : State) (p st : Nat) : State := s.fset (portPg p) F.PORT_STATUS_STATE st

/-- The technology and FEC mode of a port; 15 and 0 for none. -/
def State.setTech (s : State) (p tech fec : Nat) : State :=
  (s.fset (portPg p) F.PORT_STATUS_TECH tech).fset (portPg p) F.PORT_STATUS_FEC fec

/-- Enter TRAIN at a technology. -/
def State.enterTrain (s : State) (p tech fec : Nat) : State :=
  let s := ((s.clearCauses p).setTech p tech fec).setPortState p 2
  let s := s.setLanes p 2 (techRate tech)
  (s.portLanes p).foldl (fun s l => s.laneTrain l (techRate tech)) s

/-- Enter AN, or TRAIN at the highest-coded technology where AN_EN = 0 (R89, R94). DESIGN CHOICE: with no technology that
PORT_AN_ADV permits, or a forced FEC mode that does not fit, the port enters TRAIN with no technology and raises AN_FAIL. -/
def State.enterAn (s : State) (p : Nat) : State :=
  let s := s.setLink p { s.links.get {} p with breakLink := false }
  if bit (s.linkCfg p) 0 then
    ((((s.clearCauses p).setTech p 15 0).setPortState p 1).setLanes p 1 (s.confRate p)).sendPages p
  else
    match highestTech (s.advertised p) with
    | none => ((s.enterTrain p 15 0).setLanes p 2 (s.confRate p)).raise (portPg p) 10
    | some t =>
      match fecOf t (bits (s.linkCfg p) 11 8) false with
      | some f => s.enterTrain p t f
      | none => ((s.enterTrain p 15 0).setLanes p 2 (s.confRate p)).raise (portPg p) 10

/-- Does a member word name a port, as a LAG member or through a UNICAST next hop (R159)? -/
def State.memberNames (s : State) (sl i p : Nat) : Bool :=
  let t := s.tab sl
  let m := bits (t.member.get 0 i).toNat 15 0
  let n := (t.nexthop.get 0 m).toNat
  decide (m = p) || (bit n 127 && decide (bits n 126 125 = 0 ∧ bits n 124 115 = p))

/-- Members that name the port are pruned in the copies of a die (R98, R159). -/
def State.pruneOn (s : State) (d p : Nat) : State :=
  let l := s.links.get {} p
  let s := s.setLink p (if portDie p = d then { l with eligible := false } else { l with eligibleFar := false })
  ((List.range 8).map (8 * d + ·)).foldl (fun s sl =>
    let t := s.tab sl
    { s with tabs := s.tabs.set {} sl { t with fresh := t.fresh.filter (fun i => !s.memberNames sl i p) } }) s

/-- The membership of a port is restored in the copies of a die (R99, R159). -/
def State.restoreOn (s : State) (d p : Nat) : State :=
  let l := s.links.get {} p
  s.setLink p (if portDie p = d then { l with eligible := true } else { l with eligibleFar := true })

/-- Members that name the port are pruned in every copy: in those of its own die at once, in those of the other die by a
control cell (R98, R159). -/
def State.prunePort (s : State) (p : Nat) : State :=
  let s := s.pruneOn (portDie p) p
  if s.apart (portDie p) then s else s.sendCtrl (portDie p) (.member p false)

/-- A port that has left UP or RFAULT is pruned and flushed: frames in reception and assembly end, the operations that
MACsec had in flight end, and verification starts afresh (R98, R246, R276). -/
def State.pruneFlush (s : State) (p : Nat) : State :=
  let s := (s.prunePort p).lastByte p true
  let x := s.portOf p
  let s := (x.tx.toList ++ x.preempted.toList).foldl (fun s t => match t.key with
    | some k => s.endKey (portDie p) k.1 k.2
    | none => s) s
  let s := s.setPort p { s.portOf p with assembly := none }
  let s := (s.flushPort p).mmStart p
  s.bset (portPg p) F.TIME_PORT_CAL_DONE false

/-- Exit from UP other than by ENABLE (R101, R102). -/
def State.linkDown (s : State) (p : Nat) : State := (s.raise (portPg p) 9).cadd (portPg p) F.PORT_LINK_DOWN_EVENTS

/-- Is every condition of the exit from DISABLED met: a port at the seat, ENABLE on it and its ancestors, SHADOW_DONE
(R50, R68, R94)? A unit that failed self-test is never enabled (R66). -/
def State.mayRun (s : State) (p : Nat) : Bool :=
  s.rolled (portDie p) && (s.bootOf (portDie p)).shadowDone && decide (s.portWidth p ≠ 0) &&
  (portPg p :: s.ancestors (portPg p) 6).all (fun q => s.flag q F.PAGE_CONTROL_ENABLE && !s.failed.get false (q.key 0))

/-- Power a port's lanes up, or down, as its ENABLE ancestry asks (R94). -/
def State.portPower (s : State) (p : Nat) : State :=
  let st := s.portState p
  if s.mayRun p then
    if st = 0 then (s.setLink p { cfg := s.reg (portPg p) F.PORT_CFG.off }).enterAn p else s
  else if st = 0 then s
  else
    let s := (((s.clearCauses p).setTech p 15 0).setPortState p 0).setLanes p 0 7
    let s := (s.portLanes p).foldl State.laneDown s
    let s := s.setLink p { s.links.get {} p with breakLink := false }
    if st ≥ 5 then s.pruneFlush p else s

/-- Port seats at or below a page of the port tree. -/
def State.portsBelow (s : State) (p : Page) : List Nat := (s.targetsOf p .port).map Page.n

/-- A write of the RW bits of a page's PAGE_CONTROL (R47, R50): ports below follow ENABLE, and a slice that is neither to
sleep by itself nor on request has a wake cause (R427). SLEEP_REQ written on a die or device page reaches the slices below
(R425). -/
def State.controlWrite (s : State) (p : Page) (val : Word) : State :=
  let s := s.setReg p F.PAGE_CONTROL_ENABLE.off (val &&& 3)
  let s := (s.portsBelow p).foldl (fun s n => s.portPower n) s
  (s.targetsOf p .slice).foldl (fun s t =>
    let s := s.fset t F.PAGE_CONTROL_SLEEP_REQ (F.PAGE_CONTROL_SLEEP_REQ.of val)
    if s.maySleep t.n then s else s.wakeCause t.n) s

/-- A write of PAGE_CONTROL with ENABLE and SLEEP_REQ as given. -/
def State.portEnableWrite (s : State) (src : Source) (page : PageIdx) (en sleep : Bool) : State :=
  s.access src page (0x14, some (BitVec.ofNat 32 (en.toNat + 2 * sleep.toNat)))
    (fun p s => s.controlWrite p (BitVec.ofNat 32 (en.toNat + 2 * sleep.toNat)))

/-- R50, R94: ENABLE is written 1 on a page. -/
def execPortEnable (src : Source) (page : PageIdx) (sleep : Bool) (s : State) : Res :=
  .next (s.portEnableWrite src page true sleep)

/-- R50, R94: ENABLE is written 0 on a page. -/
def execPortDisable (src : Source) (page : PageIdx) (sleep : Bool) (s : State) : Res :=
  .next (s.portEnableWrite src page false sleep)

/-- The counters of a page, PAGE_ERR_COUNT among them, at zero: a seat that becomes vacant loses its counts (R46; DESIGN CHOICE:
the counters of a vacant seat read zero, and R46 does not say what they read once the seat is used again). -/
def State.clearCounters (s : State) (p : Page) : State :=
  let mine (k : Nat) : Bool := decide (keyKind k = p.kind.code ∧ keyNum k = p.n)
  { s with ctrs := s.ctrs.filter (fun kv => !mine kv.1) }.fset p F.PAGE_ERR_COUNT 0

/-- A write of EIGHT_ARRANGE or EIGHT_PAIR_RATE on one eight (R78). -/
def State.arrangeWrite (s : State) (p : Page) (off : Nat) (val : Word) : State :=
  let new (o : Nat) : Nat := if o = off then val.toNat % 2 ^ 24 else (s.reg p o).toNat
  match s.arrangeErr p.n (new F.EIGHT_ARRANGE.off) (new F.EIGHT_PAIR_RATE.off) with
  | 0 =>
    let s := (s.putRw p off val).resyncEight p.n
    let s := (List.range 8).foldl (fun s i => if s.portWidth (8 * p.n + i) = 0 then s.clearCounters (portPg (8 * p.n + i)) else s) s
    (List.range 8).foldl (fun s i => s.portPower (8 * p.n + i)) s
  | e => (s.fset p F.EIGHT_ARRANGE_STATUS_LAST_ERR e).errCount p

/-- R78: a write of EIGHT_ARRANGE. -/
def execEightArrangeWrite (src : Source) (page : PageIdx) (val : Word) (s : State) : Res :=
  .next (s.accessKind src page .eight (F.EIGHT_ARRANGE.wr val) (fun p s => s.arrangeWrite p F.EIGHT_ARRANGE.off val))

/-- R78: a write of EIGHT_PAIR_RATE. -/
def execEightPairRateWrite (src : Source) (page : PageIdx) (val : Word) (s : State) : Res :=
  .next (s.accessKind src page .eight (F.EIGHT_PAIR_RATE.wr val) (fun p s => s.arrangeWrite p F.EIGHT_PAIR_RATE.off val))

/-- A write of LANE_RX_LIMIT on one lane (R84). -/
def State.rxLimit (s : State) (p : Page) (val : Word) : State :=
  let b := s.ctleBounds p.n (F.LANE_RX_LIMIT_MIN.of val) (F.LANE_RX_LIMIT_MAX.of val)
  if b.1 ≤ b.2 then s.putRw p F.LANE_RX_LIMIT.off val else s.errCount p

/-- R84: a write of LANE_RX_LIMIT. -/
def execLaneRxLimitWrite (src : Source) (page : PageIdx) (val : Word) (s : State) : Res :=
  .next (s.accessLocked src page .lane F.LANE_RX_LIMIT.off val (fun p v s => s.rxLimit p v))

/-- R85-R88, R94: Clause 73 resolves a common technology, and the port trains. -/
def execAnResolved (p : Port) (partner : BitVec 13) (f1 : Bool) (s : State) : Res :=
  .next (if s.portState p.val = 1 ∧ !(s.links.get {} p.val).breakLink then
    match s.anResolve p.val partner f1 with
    | some (t, f) => s.enterTrain p.val t f
    | none => s
  else s)

/-- R87, R94: negotiation finds no technology, or a forced FEC mode does not fit. -/
def execAnFail (p : Port) (partner : BitVec 13) (f1 : Bool) (s : State) : Res :=
  .next (if s.portState p.val = 1 ∧ !(s.links.get {} p.val).breakLink ∧ (s.anResolve p.val partner f1).isNone then
    (s.setLink p.val { s.links.get {} p.val with breakLink := true }).raise (portPg p.val) 10
  else s)

/-- R94: the break-link time passes and negotiation starts again. -/
def execAnBreakLinkExpire (p : Port) (s : State) : Res :=
  .next (if s.portState p.val = 1 ∧ (s.links.get {} p.val).breakLink then
    (s.setLink p.val { s.links.get {} p.val with breakLink := false }).sendPages p.val else s)

/-- Does a tap lie within its field and within 8 steps of its board-table value (R83)? -/
def tapFits (tap : Nat) (base v : Int) : Bool :=
  decide ((if tap = 3 then 0 else -32) ≤ v ∧ v ≤ (if tap = 3 then 63 else 31) ∧ base - 8 ≤ v ∧ v ≤ base + 8)

/-- The taps that a request asks for, numbered PRE3, PRE2, PRE1, MAIN, POST1. PRESUMED: `preset` asks for all of the swing in
MAIN, `initial` for the starting taps, as in the training protocols of IEEE 802.3. -/
def State.coefTaps (s : State) (l : Nat) (up : Bool) : CoefTarget → List Int
  | .tap tap =>
    let now := tapsOf (s.reg (lanePg l) F.LANE_TX_FIR.off).toNat
    now.set tap.val (now.getD tap.val 0 + (if up then 1 else -1))
  | .preset => [0, 0, 0, 63, 0]
  | .initial => startTaps (s.baseTaps l)

/-- The taps that a request would give; none where the limits of R83 refuse it. Only taps that the request moves are held to
them. -/
def State.coefResult (s : State) (l : Nat) (r : CoefTarget) (up : Bool) : Option (List Int) :=
  let now := tapsOf (s.reg (lanePg l) F.LANE_TX_FIR.off).toNat
  let t := s.coefTaps l up r
  if s.flag (lanePg l) F.LANE_TX_CTRL_TRAIN_LOCK then none
  else if (List.range 5).all (fun i => decide (t.getD i 0 = now.getD i 0) ||
      tapFits i ((s.boardTaps l).getD i 0) (t.getD i 0)) && decide (tapSum t ≤ 63) then some t
  else none

/-- The status that answers a request outside the limits: 1 minimum, 2 maximum. -/
def coefRefusal : CoefTarget → Bool → Nat
  | .tap _, false => 1
  | _, _ => 2

/-- R83: a coefficient request of the link partner during training. -/
def execTrainCoefRequest (l : Lane) (tap : CoefTarget) (up : Bool) (s : State) : Res :=
  .next (if s.fget (lanePg l.val) F.LANE_STATUS_STATE ≠ 2 then s
    else match s.coefResult l.val tap up with
      | some t => (s.setReg (lanePg l.val) F.LANE_TX_FIR.off (BitVec.ofNat 32 (tapsWord t))).emit (.coef l.val 0)
      | none => s.emit (.coef l.val (coefRefusal tap up)))

/-- R84, R94: every lane of a port has trained, with the CTLE code that each one's adaptation ends at, within its bounds. -/
def execTrainComplete (p : Port) (ctle : List (BitVec 5)) (s : State) : Res :=
  .next (if s.portState p.val = 2 ∧ s.fget (portPg p.val) F.PORT_STATUS_TECH ≠ 15 then
    let (st, s) := s.draw 58
    let s := s.setLink p.val { s.links.get {} p.val with scrambler := some st }
    let s := ((s.portLanes p.val).zip ctle).foldl (fun s x =>
      let pg := lanePg x.1
      s.fset pg F.LANE_RX_EQ_CTLE
        (max (s.fget pg F.LANE_RX_EQ_BOUND_MIN) (min (s.fget pg F.LANE_RX_EQ_BOUND_MAX) x.2.toNat))) s
    ((s.setPortState p.val 3).setLanes p.val 3 (techRate (s.fget (portPg p.val) F.PORT_STATUS_TECH))).wakeCause
      (portSlice p.val)
  else s)

/-- R88, R94: training does not end in time. -/
def execTrainTimeout (p : Port) (s : State) : Res :=
  .next (if s.portState p.val = 2 then (s.enterAn p.val).raise (portPg p.val) 11 else s)

/-- R80, R81, R91, R94: every lane is locked and deskewed, with what each receives. -/
def execAlignLock (p : PortLock) (s : State) : Res :=
  let marks := p.marks
  let p := p.port
  .next (if s.portState p.val = 3 ∧ s.marksLock p.val marks then
    let s := s.setLink p.val { s.links.get {} p.val with order := marks.map (fun m => m.lane.val) }
    ((s.setPortState p.val 4).setLanes p.val 4 (techRate (s.fget (portPg p.val) F.PORT_STATUS_TECH))).wakeCause
      (portSlice p.val)
  else s)

/-- R94: no alignment within 10 ms. -/
def execAlignTimeout (p : Port) (s : State) : Res :=
  .next (if s.portState p.val = 3 then (s.enterAn p.val).raise (portPg p.val) 12 else s)

/-- Entry to UP (R94, R99, R276): with AUTO_READD the copies of the port's own die restore its membership at once, those of the
other die by a control cell. -/
def State.enterUp (s : State) (p : Nat) : State :=
  let s := s.setPortState p 5
  let s := if !s.flag (portPg p) F.PORT_LINK_CFG_AUTO_READD then s else
    let s := s.restoreOn (portDie p) p
    if s.apart (portDie p) then s else s.sendCtrl (portDie p) (.member p true)
  (s.mmStart p).raise (portPg p) 8

/-- R94, R99: UP_HOLDOFF passes in HOLD without a link-down condition, with the slice awake. -/
def execUpHoldoffExpire (p : Port) (s : State) : Res :=
  .next (if s.portState p.val = 4 ∧ !s.linkBad p.val ∧ s.sliceState (portSlice p.val) = 0 then s.enterUp p.val else s)

/-- R94: a link-down condition has lasted 10 ms in HOLD. -/
def execHoldFaultTimeout (p : Port) (s : State) : Res :=
  .next (if s.portState p.val = 4 ∧ s.linkBad p.val then s.enterAn p.val else s)

/-- Bring a port's lanes and LF up to date with the conditions on them. -/
def State.causesChanged (s : State) (p : Nat) : State :=
  let s := s.setLanes p 4 (techRate (s.fget (portPg p) F.PORT_STATUS_TECH))
  s.bset (portPg p) F.PORT_STATUS_LF ((s.portLanes p).any (fun l => (s.laneCauses l).contains .localFault))

/-- A port in RFAULT leaves it at a link-down condition (R94). -/
def State.rfaultCheck (s : State) (p : Nat) : State :=
  if s.portState p = 6 ∧ s.linkBad p then s.enterAn p else s

/-- Is a link-down condition on a lane that a port detects really one (R91, R97)? A run of uncorrectable codewords is as long as
UNCORR_RUN, which 0 disables; a variation of the skew, in ps, that costs alignment lies above 4 ns. -/
def State.causeHolds (s : State) (p l : Nat) (variation : Option Nat) : LinkCause → Bool
  | .uncorr =>
    let n := s.fget (portPg p) F.PORT_LINK_CFG_UNCORR_RUN
    decide (n ≠ 0 ∧ n ≤ (s.lanes.get {} l).run)
  | .align => variation.all (fun v => decide (4000 < v))
  | _ => true

/-- Set the conditions of R97 on a lane. -/
def State.setCauses (s : State) (l : Nat) (c : List LinkCause) : State :=
  { s with lanes := s.lanes.set {} l { s.lanes.get {} l with causes := c } }

/-- R97: a link-down condition is detected on a lane of a port in HOLD, UP or RFAULT, after the codewords that its FEC lane has
delivered. -/
def execLinkDownDetect (p : Port) (cause : LinkCause) (l : LaneFinding) (s : State) : Res :=
  let cws := l.cws
  let variation := l.variation
  let l := l.lane
  .next (if s.portState p.val < 4 ∨ !(s.portLanes p.val).contains l.val then s else
    let s := s.codewords p.val l.val cws
    if (s.laneCauses l.val).contains cause ∨ !s.causeHolds p.val l.val variation cause then s
    else ((s.setCauses l.val (s.laneCauses l.val ++ [cause])).causesChanged p.val).rfaultCheck p.val)

/-- R97: a link-down condition clears; one of uncorrectable codewords does so with the next codeword that is not. -/
def execLinkDownClear (p : Port) (cause : LinkCause) (l : LaneRun) (s : State) : Res :=
  let cws := l.cws
  let l := l.lane
  .next (if s.portState p.val < 4 ∨ !(s.portLanes p.val).contains l.val then s else
    let s := s.codewords p.val l.val cws
    if cause = .uncorr ∧ (s.lanes.get {} l.val).run ≠ 0 then s
    else (s.setCauses l.val ((s.laneCauses l.val).filter (· ≠ cause))).causesChanged p.val)


/-- R94, R98: a link-down condition has lasted DOWN_DEBOUNCE in UP. -/
def execDownDebounceExpire (p : Port) (s : State) : Res :=
  .next (if s.portState p.val = 5 ∧ s.linkBad p.val then ((s.enterAn p.val).pruneFlush p.val).linkDown p.val else s)

/-- R94: remote fault sequences begin to arrive. -/
def execRemoteFaultDetect (p : Port) (s : State) : Res :=
  .next (if s.portState p.val < 4 then s else s.bset (portPg p.val) F.PORT_STATUS_RF true)

/-- R94, R101: remote fault has lasted DOWN_DEBOUNCE in UP. -/
def execRemoteFaultDebounceExpire (p : Port) (s : State) : Res :=
  .next (if s.portState p.val = 5 ∧ s.flag (portPg p.val) F.PORT_STATUS_RF then
    ((((s.setPortState p.val 6).pruneFlush p.val).raise (portPg p.val) 13).linkDown p.val).rfaultCheck p.val
  else s)

/-- R94: remote fault clears. -/
def execRemoteFaultClear (p : Port) (s : State) : Res :=
  .next (let s := s.bset (portPg p.val) F.PORT_STATUS_RF false
    if s.portState p.val = 6 then s.setPortState p.val 4 else s)

/-- R523: a lane reference clock stops or leaves its range, or comes back. -/
def execRefclkLaneLoss (sl : Slice) (back : Bool) (s : State) : Res :=
  let l := s.pins.refclkLost.filter (· ≠ sl.val)
  let s := { s with pins := { s.pins with refclkLost := if back then l else l ++ [sl.val] } }
  .next ((List.range 128).foldl (fun s i => s.rfaultCheck (64 * sl.val / 128 * 128 + i)) s)

end Sys2Proof.Machine
end

