-- ==== Sys2Proof/Machine/Rings.lean ====
section
/-!
DEFINITION. The host interface: UCIe modules, MSI-X, rings and doorbells, descriptors with their reads, writes and
completions (13 R386-R415).
-/
namespace Sys2Proof.Machine

/-- HQ_IDLE of a ring (R406). -/
def State.ringIdle (s : State) (d r : Nat) : Bool :=
  let x := s.ringAt d r
  x.serving.isNone && x.done.isNone && x.fetched.isEmpty && !s.ringSuspended d r &&
  ((s.hostOf d).held.all (fun kv => (kv.2.map Delivery.ring) ≠ some r)) &&
  !(decide (r < 512) && s.ringOn d r && decide (x.prod ≠ x.cons))

/-- Set or clear a ring's HQ_CQ_FULL bit; a ring that stalls raises CQ_FULL (R407, R416, R422). -/
def State.setCqFull (s : State) (d r : Nat) (b : Bool) : State :=
  let old := s.fget (hifPg d) F.HQ_CQ_FULL_RING (r / 32)
  (s.fset (hifPg d) F.HQ_CQ_FULL_RING (putBits old (r % 32) (r % 32) b.toNat) (r / 32)).raiseIf (b && !bit old (r % 32))
    (hifPg d) 9

/-! ### Messages of rings (R393) -/

/-- An entry was written to a ring: its message is sent, or waits for MOD_US. -/
def State.ringMsg (s : State) (d r : Nat) : State :=
  let x := s.ringAt d r
  if !bit x.cfg.toNat 21 then s else
  let now := s.monoNs d
  let early := match x.lastMsg with
    | some t => decide (now < t + 1000 * bits x.cfg.toNat 9 0)
    | none => false
  if early then s.setRing d r { x with waitMsg := true }
  else (s.setRing d r { x with lastMsg := some now, waitMsg := false }).sendVector d (bits x.cfg.toNat 20 10)

/-- R393: MOD_US has passed since a ring's last message. -/
def execMsixModerationExpire (d : Die) (r : Fin 1024) (s : State) : Res :=
  let x := s.ringAt d.val r.val
  s.ifOperates (hifPg d.val) (if x.waitMsg then
    (s.setRing d.val r.val { x with lastMsg := some (s.monoNs d.val), waitMsg := false }).sendVector d.val
      (bits x.cfg.toNat 20 10)
  else s)

/-- A write of a vector's control word (R391, R392): on unmask a pending message is sent. -/
def State.vectorControl (s : State) (fn v : Nat) (masked : Bool) : State :=
  let off := msixOff v 3
  let s := s.setReg (hifPg fn) off (if masked then 0 else 1)
  let pend := bit (s.reg (hifPg fn) (0x7F00 + 4 * (v / 32))).toNat (v % 32)
  if !masked && pend then (s.setPending fn v false).sendVector fn v else s

/-- R392: a vector's mask bit is written. -/
def execMsixUnmask (src : Source) (page : PageIdx) (v : Fin 2048) (val : Word) (s : State) : Res :=
  .next (s.accessKind src page .hif (msixOff v.val 3, some val) (fun p s => s.vectorControl p.n v.val (val.getLsbD 0)))

/-! ### Doorbells and registers of rings (R403, R405) -/

/-- A doorbell that is ignored (R403, R422). -/
def State.doorbellErr (s : State) (d : Nat) (r : Option Nat) : State :=
  let s := match r with
    | some r => s.setRing d r { s.ringAt d r with dbErr := true }
    | none => s
  (s.errCount (hifPg d)).raise (hifPg d) 10

/-- May a producer index move to `v`: below the modulus, not backwards, and not past full? -/
def producerOk (k own ref v : Nat) : Bool :=
  let m := 2 ^ (k + 1)
  decide (v < m ∧ aheadOf m own ref ≤ aheadOf m v ref ∧ aheadOf m v ref ≤ 2 ^ k)

/-- May a consumer index move to `v`: below the modulus, not backwards, and not past empty? -/
def consumerOk (k own ref v : Nat) : Bool :=
  let m := 2 ^ (k + 1)
  decide (v < m ∧ aheadOf m v own ≤ aheadOf m ref own)

/-- A write of HQ_DB. -/
def State.doorbell (s : State) (d r v : Nat) : State :=
  let x := s.ringAt d r
  if r < 512 then
    (if producerOk x.k x.prod x.cons v then s.setRing d r { x with prod := v } else s.doorbellErr d (some r))
  else if consumerOk x.k x.cons x.prod v then
    let x := { x with cons := v }
    let s := s.setRing d r x
    if x.full true then s else s.setCqFull d r false
  else s.doorbellErr d (some r)

/-- R403: HQ_DB. -/
def execHqDoorbell (src : Source) (page : PageIdx) (r : Fin 1024) (val : Word) (s : State) : Res :=
  .next (s.accessKind src page .hif (0x1000 + 4 * r.val, some val) (fun p s => s.doorbell p.n r.val (val.toNat % 2 ^ 17)))

/-- A write of HQ_CQ_DB. -/
def State.cqDoorbell (s : State) (d r v : Nat) : State :=
  let x := s.ringAt d r
  if consumerOk x.k x.cqCons x.cqProd v then
    let x := { x with cqCons := v }
    let s := s.setRing d r x
    if x.full false then s else s.setCqFull d r false
  else s.doorbellErr d (some r)

/-- R403, R407: HQ_CQ_DB. -/
def execHqCqDoorbell (src : Source) (page : PageIdx) (r : Fin 512) (val : Word) (s : State) : Res :=
  .next (s.accessKind src page .hif (0x2000 + 4 * r.val, some val) (fun p s => s.cqDoorbell p.n r.val (val.toNat % 2 ^ 17)))

/-- A write of HQ_ENABLE: rings that start do so from the indices of their windows; rings that stop give up what a fetch has
begun, and their descriptors fetched and not started complete with ABORTED (R406). -/
def State.hqEnable (s : State) (d j : Nat) (val : Word) : State :=
  let old := s.fget (hifPg d) F.HQ_ENABLE_RING j
  let s := s.fset (hifPg d) F.HQ_ENABLE_RING val.toNat j
  (List.range 32).foldl (fun s b =>
    let r := 32 * j + b
    let x := s.ringAt d r
    if bit val.toNat b && !bit old b then s.setRing d r { x with batch := x.cons }
    else if !bit val.toNat b && bit old b then s.setRing d r { x with part := [] }
    else s) s

/-- R406: HQ_ENABLE. -/
def execHqEnableWrite (src : Source) (page : PageIdx) (j : Fin 32) (val : Word) (s : State) : Res :=
  .next (s.accessKind src page .hif (F.HQ_ENABLE.wr val j.val) (fun p s => s.hqEnable p.n j.val val))

def setLo (a : DWord) (v : Word) : DWord := (a &&& 0xFFFFFFFF00000000) ||| v.setWidth 64
def setHi (a : DWord) (v : Word) : DWord := (a &&& 0xFFFFFFFF) ||| ((v.setWidth 64) <<< 32)

/-- The ring with register `i` of its window (offset 0x404 + 4 × i) written. -/
def Ring.put (x : Ring) (i : Nat) (v : Word) : Ring :=
  let n := v.toNat % 2 ^ 17
  match i with
  | 0 => { x with base := setLo x.base v }
  | 1 => { x with base := setHi x.base v }
  | 2 => { x with cfg := v }
  | 3 => { x with sched := v &&& 0xFF7F }
  | 4 => { x with prod := n }
  | 5 => { x with cons := n }
  | 6 => { x with cqBase := setLo x.cqBase v }
  | 7 => { x with cqBase := setHi x.cqBase v }
  | 8 => { x with cqProd := n }
  | 9 => { x with cqCons := n }
  | _ => { x with dbErr := x.dbErr && !v.getLsbD 30 }

/-- A write of a register of the ring that HQ_SEL selects: ignored and counted unless the ring is disabled and idle
(R405). -/
def State.ringReg (s : State) (d i : Nat) (v : Word) : State :=
  let r := s.fget (hifPg d) F.HQ_SEL_RING
  if s.ringOn d r ∨ !s.ringIdle d r then s.errCount (hifPg d) else s.setRing d r ((s.ringAt d r).put i v)

/-- R405: a register of the HQ_SEL window. -/
def execHqRingRegWrite (src : Source) (page : PageIdx) (reg : Fin 11) (val : Word) (s : State) : Res :=
  .next (s.accessKind src page .hif (0x404 + 4 * reg.val, some val) (fun p s => s.ringReg p.n reg.val val))

/-- A write of HQ_HBQ_MAP (R416). -/
def State.hbqMap (s : State) (p : Page) (h : Nat) (val : Word) : State :=
  let base := F.HQ_HBQ_MAP_BASE.of val
  let n := F.HQ_HBQ_MAP_LOG_COUNT.of val
  if base < 512 ∨ n > 9 ∨ base + 2 ^ n > 1024 then s.errCount p else s.putRw p (F.HQ_HBQ_MAP.at h) val

/-- R416: HQ_HBQ_MAP. -/
def execHqHbqMapWrite (src : Source) (page : PageIdx) (h : Fin 64) (val : Word) (s : State) : Res :=
  .next (s.accessKind src page .hif (F.HQ_HBQ_MAP.wr val h.val) (fun p s => s.hbqMap p h.val val))

/-! ### The service of a descriptor (R407-R415) -/

/-- Word Wn of a descriptor. -/
def descWord (w : BitVec 512) (n : Nat) : Nat := bits w.toNat (64 * n + 63) (64 * n)
def descKind (w : BitVec 512) : Nat := bits (descWord w 0) 63 60
def descSpace (w : BitVec 512) : Nat := bits (descWord w 0) 57 54

/-- STATUS values (R415). -/
def stOk : Nat := 0
def stBad : Nat := 1
def stLength : Nat := 2
def stFault : Nat := 3
def stLocked : Nat := 4
def stRange : Nat := 5
def stAborted : Nat := 6

/-- A descriptor ends: C passes it, and its completion, if it takes one, waits to be written (R408). A descriptor whose
fetch was aborted has TAG 0 and CPL EACH. -/
def State.endServe (s : State) (d r i : Nat) (desc : Option (BitVec 512)) (status detail : Nat) : State :=
  let x := s.ringAt d r
  let w0 := match desc with | some w => descWord w 0 | none => 0
  let cpl := bits w0 59 58
  let x := { x with serving := none, cons := (i + 1) % x.modulus }
  if cpl = 1 ∧ status = stOk then s.setRing d r x
  else
    let n := if cpl = 2 then aheadOf x.modulus i x.batch + 1 else 1
    s.setRing d r { x with done := some ⟨i, bits w0 47 32, n, status, detail⟩ }

/-- The completion that a ring writes (R414), with PHASE for its index (R402). -/
def complBytes (k j : Nat) (c : Compl) : List Byte :=
  leBytes 8 (fieldAt c.tag 63 48 + fieldAt c.index 47 31 + fieldAt (c.count - 1) 30 15 + fieldAt c.status 7 0) ++
  leBytes 8 (fieldAt c.detail 63 32 + (1 - bits j k k))

/-- Write the completion that waits, if a slot is free. -/
def State.writeCompl (s : State) (d r : Nat) (ws : List Walk) : State :=
  let x := s.ringAt d r
  match x.done with
  | none => s
  | some c =>
    if !s.hostUp d || s.isSuspended d (· == .completion r) then s
    else if x.full false then s.setCqFull d r true
    else
      let a := x.cqBase.toNat + 16 * (x.cqProd % 2 ^ x.k)
      match s.dmaWrite d (.completion r) x.space 3 a (complBytes x.k x.cqProd c) ws with
      | (some _, _, s) => s
      | (none, _, s) =>
        let x := s.ringAt d r
        (s.setRing d r { x with
          done := none, cqProd := (x.cqProd + 1) % x.modulus, batch := (c.index + 1) % x.modulus }).ringMsg d r

/-- The descriptor next to be started on a ring, when none is in service and no completion waits. -/
def State.ringHead (s : State) (d r : Nat) : Option (Nat × Option (BitVec 512)) :=
  let x := s.ringAt d r
  if s.hostUp d && x.serving.isNone && x.done.isNone then x.fetched.head? else none

/-- Start the next descriptor of a ring if it is of a kind in `mine`, a slot of the completion ring can be reserved, and the ring has
the read engine's turn, which a disabled ring does not need (R401, R406, R407, R409): `start` gives its effect. -/
def State.startDesc (s : State) (d r : Nat) (mine : Nat → Bool) (start : Nat → BitVec 512 → State → State) : State :=
  match s.ringHead d r with
  | none => s
  | some (i, w) =>
    if !mine (match w with | some w => descKind w | none => 0) then s
    else
      let x := s.ringAt d r
      if x.full false then s.setCqFull d r true else
      match (if s.ringOn d r then s.readTurn d r else some s) with
      | none => s
      | some s =>
      let s := s.setRing d r { x with fetched := x.fetched.tail }
      match w with
      | none => s.endServe d r i none stFault 0
      | some w =>
        if !s.ringOn d r then s.endServe d r i (some w) (if descKind w = 4 then 0x15 else stAborted) 0
        else if bits (descWord w 0) 59 58 = 3 ∨ bits (descWord w 0) 53 48 ≠ 0 ∨ descKind w > 4 then
          s.endServe d r i (some w) stBad 0
        else start i w s

/-- Words W3 to W7 of a descriptor are zero. -/
def tailZero (w : BitVec 512) : Bool := decide (bits w.toNat 511 192 = 0)

/-- Put a descriptor in service with the reads it makes. -/
def State.serve (s : State) (d r i : Nat) (w : BitVec 512) (reads : List (Nat × Nat)) : State :=
  s.setRing d r { s.ringAt d r with
    serving := some { index := i, desc := w, reads := reads.filter (fun x => x.2 ≠ 0), stamp := s.stamp d } }

/-- The descriptor in service on a ring, of kind `k`, with its reads done and its result not yet known. -/
def State.served (s : State) (d r k : Nat) : Option Serving :=
  match (s.ringAt d r).serving with
  | some v => if descKind v.desc = k ∧ v.reads.isEmpty ∧ !v.inCipher ∧ v.result.isNone ∧ v.injected.isNone then some v else none
  | none => none

/-- The writes that a descriptor's result has still to make, then its end. -/
def State.writeResult (s : State) (d r : Nat) (st : Stream) (ws : List Walk) : List Walk × State :=
  match (s.ringAt d r).serving with
  | none => (ws, s)
  | some v =>
    match v.result with
    | none => (ws, s)
    | some (status, detail) =>
      let above := s.complWaits d || (!(s.ringAt d r).high && s.highWrites d)
      if !s.hostUp d || s.isSuspended d (· == st) || above then (ws, s) else
      let (left, ws, s) := s.dmaWrites d st (descSpace v.desc) v.writes ws
      if left.isEmpty then (ws, s.endServe d r v.index (some v.desc) status detail)
      else (ws, s.setRing d r { s.ringAt d r with serving := some { v with writes := left } })

/-- R410: a NOP, or a descriptor of no kind. -/
def execDescNop (d : Die) (r : Fin 512) (walks : List Walk) (s : State) : Res :=
  let s := s.startDesc d.val r.val (fun k => decide (k = 0 ∨ k > 4)) (fun i w s => s.endServe d.val r.val i (some w) stOk 0)
  .next (s.writeCompl d.val r.val walks)

/-! ### FRAME (R410, R411) -/

/-- Check a FRAME descriptor and start to read its frame. -/
def State.startFrame (s : State) (d r i : Nat) (w : BitVec 512) : State :=
  let w0 := descWord w 0
  let w2 := descWord w 2
  let port := bits w0 31 22
  let len := bits w2 13 0
  if bits w0 12 0 ≠ 0 ∨ bits w2 63 30 ≠ 0 ∨ bits w2 15 14 ≠ 0 ∨ !tailZero w ∨ s.portWidth port = 0 then
    s.endServe d r i (some w) stBad 0
  else if len < 60 ∨ len > 10236 then s.endServe d r i (some w) stLength 0
  else s.serve d r i w [(descWord w 1, len)]

/-- Hand a frame that has been read to admission (R411): its number; none while the keel transmit buffer has no room. -/
def State.inject (s : State) (d : Nat) (v : Serving) : Option (Nat × State) :=
  let w0 := descWord v.desc 0
  let port := bits w0 31 22
  let r := s.newFrm
    { kind := .injected, die := d, holder := d, bytes := v.got, fcs := fcs32 v.got, size := v.got.length + 4,
      stamp := v.stamp, lastByte := true, tenant := bits (descWord v.desc 2) 29 16, tc := bits w0 17 15,
      target := some (.port port), queue := bits w0 21 18, capture := bit w0 14, oneStep := bit w0 13 }
  (r.2.route d r.1).map (fun s => (r.1, s))

/-- Are cells of an injected frame still to be written on its die (R35)? -/
def State.cellsWait (s : State) (d uid : Nat) : Bool :=
  (s.admits.get [] d).contains uid || (s.copies d).any (fun c => c.part = uid && decide (c.written < c.cells))

/-- Finish a FRAME whose data has been read: its frame is handed on, and the read engine holds it until its cells are written
(R35, R411). -/
def State.finishFrame (s : State) (d r : Nat) : State :=
  let s := match s.served d r 1 with
    | none => s
    | some v =>
      match s.inject d v with
      | none => s
      | some (uid, s) =>
        (s.cadd (hifPg d) F.HQ_INJECTED).setRing d r { s.ringAt d r with serving := some { v with injected := some uid } }
  match (s.ringAt d r).serving with
  | none => s
  | some v =>
    match v.injected with
    | none => s
    | some uid => if s.cellsWait d uid then s else s.endServe d r v.index (some v.desc) stOk 0

/-- R410, R411: a FRAME descriptor: it is started, or, once its frame has been read, injected, or, once the frame's cells are
written, completed. -/
def execDescFrame (d : Die) (r : Fin 512) (walks : List Walk) (s : State) : Res :=
  let s := s.finishFrame d.val r.val
  let s := s.startDesc d.val r.val (fun k => k = 1) (fun i w s => s.startFrame d.val r.val i w)
  .next (s.writeCompl d.val r.val walks)

/-! ### TABLE_READ and TABLE_WRITE (R165, R166, R412) -/

/-- What a table descriptor reaches: table, target pages, first index and count. -/
structure TableSpan where
  table : Nat
  targets : List Nat
  first : Nat
  count : Nat
  deriving DecidableEq, Repr

/-- The span of a table descriptor, or the STATUS that refuses it. -/
def State.tableSpan (s : State) (d : Nat) (w : BitVec 512) (write : Bool) : Except Nat TableSpan :=
  let w0 := descWord w 0
  let w2 := descWord w 2
  let t := bits w0 31 28
  let first := bits w2 22 0
  let count := bits w2 49 32 + 1
  let size := if t = 15 then 2 ^ 23 else (tableSize t).getD 0
  let src := if d = 0 then Source.f0 else Source.f1
  let targets := match s.mapped src (BitVec.ofNat 16 (bits w0 15 0)) with
    | none => []
    | some p => if t = 15 then (if p.kind = .qdr then [p.n] else []) else
      match p.kind with
      | .slice | .die | .device => (s.targetsOf p .slice).map Page.n
      | _ => []
  if bits w0 27 16 ≠ 0 ∨ bits w2 63 50 ≠ 0 ∨ bits w2 31 23 ≠ 0 ∨ !tailZero w ∨ targets.isEmpty ∨ size = 0 ∨
      (write ∧ t < 2) then .error stBad
  else if first + count > size then .error stRange
  else .ok ⟨t, targets, first, count⟩

/-- One entry as a table descriptor reads it: the lowest-seated copy's, and sums of counters (R53, R165). -/
def State.spanEntry (s : State) (x : TableSpan) (i : Nat) : List Byte :=
  let v := if x.table = 15 then (s.qdrNode (x.targets.headD 0) i).toNat
    else if x.table = 7 then
      let l := x.targets.map (fun sl => s.tableRead sl 7 i)
      fieldAt ((l.map (fun v => bits v 63 0)).sum) 63 0 + fieldAt ((l.map (fun v => bits v 127 64)).sum) 127 64
    else s.tableRead (x.targets.headD 0) x.table i
  leBytes (entryBytes x.table) v

/-- Read the entries of a span in ascending index; a node whose read fails gives zeros (R131). -/
def State.readSpan (s : State) (x : TableSpan) (errs : List QdrErr) : List Byte × State :=
  (List.range x.count).foldl (fun (a : List Byte × State) k =>
    let i := x.first + k
    let e := errs.getD k .ok
    let b := a.2.spanEntry x i
    if x.table = 15 then
      let s := a.2.qdrReport (x.targets.headD 0) i e
      (a.1 ++ (if e.fails then List.replicate 32 0 else b), s)
    else
      let s := x.targets.foldl (fun (s : State) sl => s.pmcEvent (slicePg sl) { code := 4, src := some .host }) a.2
      (a.1 ++ b, s)) ([], s)

/-- Check a TABLE_READ and read its entries. -/
def State.startTableRead (s : State) (d r i : Nat) (w : BitVec 512) (errs : List QdrErr) : State :=
  match s.tableSpan d w false with
  | .error e => s.endServe d r i (some w) e 0
  | .ok x =>
    let (b, s) := s.readSpan x errs
    s.setRing d r { s.ringAt d r with
      serving := some { index := i, desc := w, result := some (stOk, x.count), writes := [(descWord w 1, b)] } }

/-- R412: a TABLE_READ descriptor. -/
def execDescTableRead (d : Die) (r : Fin 512) (errs : List QdrErr) (walks : List Walk) (s : State) : Res :=
  let s := s.startDesc d.val r.val (fun k => k = 2) (fun i w s => s.startTableRead d.val r.val i w errs)
  let (walks, s) := match (s.ringAt d.val r.val).serving with
    | some v => if descKind v.desc = 2 then s.writeResult d.val r.val (.table r.val) walks else (walks, s)
    | none => (walks, s)
  .next (s.writeCompl d.val r.val walks)

/-- May a span's table be written on every page (R166)? -/
def State.spanGranted (s : State) (x : TableSpan) : Bool :=
  x.table = 15 || x.targets.all (fun sl => s.granted sl x.table)

/-- Check a TABLE_WRITE and start to read its entries. -/
def State.startTableWrite (s : State) (d r i : Nat) (w : BitVec 512) : State :=
  match s.tableSpan d w true with
  | .error e => s.endServe d r i (some w) e 0
  | .ok x =>
    if !s.spanGranted x then s.endServe d r i (some w) stLocked 0
    else s.serve d r i w [(descWord w 1, x.count * entryBytes x.table)]

/-- Write one entry of a span. -/
def State.writeSpan (s : State) (x : TableSpan) (i v : Nat) : State :=
  if x.table = 15 then s.setQdr (x.targets.headD 0) i (BitVec.ofNat 256 v)
  else x.targets.foldl (fun s sl =>
    (s.tableWrite sl x.table i v).pmcEvent (slicePg sl) { code := 5, src := some .host }) s

/-- Write the whole entries that have arrived; a lock lost ends the write (R412). -/
def State.writeArrived (s : State) (d : Nat) (x : TableSpan) : Nat → Serving → Serving × State
  | 0, v => (v, s)
  | fuel + 1, v =>
    let n := entryBytes x.table
    if v.got.length < n then (v, s)
    else if !s.spanGranted x then ({ v with reads := [], got := [], result := some (stLocked, v.count) }, s)
    else (s.writeSpan x (x.first + v.count) (ofLE (v.got.take n))).writeArrived d x fuel
      { v with got := v.got.drop n, count := v.count + 1 }

/-- R412: a TABLE_WRITE descriptor: it is started, or, once its entries have been read and written, completed. -/
def execDescTableWrite (d : Die) (r : Fin 512) (walks : List Walk) (s : State) : Res :=
  let s := match (s.ringAt d.val r.val).serving with
    | some v => if descKind v.desc ≠ 3 ∨ !v.reads.isEmpty then s
      else match v.result with
        | some (st, n) => s.endServe d.val r.val v.index (some v.desc) st n
        | none => s.endServe d.val r.val v.index (some v.desc) stOk v.count
    | none => s
  let s := s.startDesc d.val r.val (fun k => k = 3) (fun i w s => s.startTableWrite d.val r.val i w)
  .next (s.writeCompl d.val r.val walks)

/-! ### CIPHER (R377-R382, R410, R413) -/

def tagBytes (code : Nat) : Nat := if code = 0 then 8 else if code = 1 then 12 else 16

/-- Check a CIPHER descriptor and start to read its message. -/
def State.startCipher (s : State) (d r i : Nat) (w : BitVec 512) : State :=
  let w0 := descWord w 0
  let w5 := descWord w 5
  let op := bits w0 31 30
  let n := bits w5 52 32
  if bits w0 25 12 ≠ 0 ∨ bits w5 63 53 ≠ 0 ∨ bits w5 31 16 ≠ 0 ∨ bits (descWord w 7) 63 32 ≠ 0 ∨ op = 3 then
    s.endServe d r i (some w) stBad 0
  else if n > 2 ^ 20 ∨ (op = 2 ∧ n ≠ 0) ∨ bits w0 27 26 = 3 then s.endServe d r i (some w) 0x13 0
  else s.serve d r i w
    [(descWord w 1, bits w5 15 0), (descWord w 2, n),
     (descWord w 4, if op = 1 then tagBytes (bits w0 27 26) else 0)]

/-- The message of a descriptor whose data has been read. -/
def messageOf (r : Nat) (v : Serving) : CipherMsg :=
  let w0 := descWord v.desc 0
  let w5 := descWord v.desc 5
  let a := bits w5 15 0
  let n := bits w5 52 32
  { owner := .ring r, urgency := bits w0 29 28, slot := bits w0 11 0, op := bits w0 31 30,
    iv := beBytes 12 (descWord v.desc 6 + bits (descWord v.desc 7) 31 0 * 2 ^ 64),
    aad := v.got.take a, payload := slice v.got a n, tag := v.got.drop (a + n), tagLen := tagBytes (bits w0 27 26) }

/-- Give the cipher unit a message whose data has been read. -/
def State.submitCipher (s : State) (d r : Nat) : State :=
  match s.served d r 4 with
  | none => s
  | some v =>
    (s.setRing d r { s.ringAt d r with serving := some { v with inCipher := true } }).submitMsg d (messageOf r v)

/-- R377, R378, R410: a CIPHER descriptor: it is started, or its message is given to the cipher unit, or its result is
written on. -/
def execDescCipher (d : Die) (r : Fin 512) (walks : List Walk) (s : State) : Res :=
  let s := s.startDesc d.val r.val (fun k => k = 4) (fun i w s => s.startCipher d.val r.val i w)
  let s := s.submitCipher d.val r.val
  let (walks, s) := match (s.ringAt d.val r.val).serving with
    | some v => if descKind v.desc = 4 then s.writeResult d.val r.val (.cipher r.val) walks else (walks, s)
    | none => (walks, s)
  .next (s.writeCompl d.val r.val walks)

/-- The result of a message in service on a ring. -/
def State.cipherResult (s : State) (d r : Nat) (faults : Nat) (staging : Bool) : State :=
  match s.runningMsg d (.ring r), (s.ringAt d r).serving with
  | some m, some v =>
    let ((st, out, tag), met) := m.release m.iv faults staging
    let s := if met then s.integrity d 8 else s
    let s := (s.countMsg d m .host faults st).endMsg d m
    let writes := if st = 0 then [(descWord v.desc 3, out), (descWord v.desc 4, tag)] else []
    s.setRing d r { s.ringAt d r with
      serving := some { v with
        inCipher := false, result := some (if st = 0 then 0 else 0x10 + st, 0),
        writes := writes.filter (fun x => !x.2.isEmpty) } }
  | _, _ => s

/-- R381, R382, R413: a message completes; `mismatches` counts the comparisons that failed, `staging` is an uncorrectable
error of the staging buffer at the release. -/
def execCipherMessageDone (d : Die) (r : Fin 512) (mismatches : Fin 3) (staging : Bool) (walks : List Walk) (s : State) :
    Res :=
  let s := s.cipherResult d.val r.val mismatches.val staging
  let (walks, s) := match (s.ringAt d.val r.val).serving with
    | some v => if descKind v.desc = 4 then s.writeResult d.val r.val (.cipher r.val) walks else (walks, s)
    | none => (walks, s)
  .next (s.writeCompl d.val r.val walks)

end Sys2Proof.Machine
end

