-- ==== Sys2Proof/Machine/Punt.lean ====
section
/-!
DEFINITION. The punt path and its pools, DMA reads as they return, faults resolved, invalidation, UCIe modules and the
reset of a function (13 R386-R400, R416-R423).
-/
namespace Sys2Proof.Machine

/-! ### Pools (R418, R419) -/

def State.setPool (s : State) (d p : Nat) (x : Pool) : State :=
  s.setHost d { s.hostOf d with pools := (s.hostOf d).pools.set {} p x }

def Pool.k (x : Pool) : Nat := clampK (bits x.cfg.toNat 26 22)
def Pool.en (x : Pool) : Bool := bit x.cfg.toNat 31
def Pool.space (x : Pool) : Nat := bits x.cfg.toNat 30 27
def Pool.modulus (x : Pool) : Nat := 2 ^ (x.k + 1)
/-- Entries not yet fetched. -/
def Pool.unfetched (x : Pool) : Nat := aheadOf x.modulus x.prod x.cons

/-- Back-pressure of a pool follows its available count (R419). -/
def State.poolBp (s : State) (d p : Nat) : State :=
  let x := s.poolAt d p
  let a := x.cache.length + x.unfetched
  if !x.en then s
  else if !x.bp && decide (a < bits x.warn.toNat 15 0) then (s.setPool d p { x with bp := true }).raise (hifPg d) 11
  else if x.bp && decide (bits x.warn.toNat 31 16 ≤ a) then s.setPool d p { x with bp := false }
  else s

/-- A pool goes out of service (R400, R418). -/
def Pool.stop (x : Pool) : Pool := { x with cfg := x.cfg &&& 0x7FFFFFFF, bp := false, fetching := 0, part := [] }

/-- A write of POOL_DB. -/
def State.poolDoorbell (s : State) (d p v : Nat) : State :=
  let x := s.poolAt d p
  if producerOk x.k x.prod x.cons v then (s.setPool d p { x with prod := v }).poolBp d p else s.doorbellErr d none

/-- R403, R418: POOL_DB. -/
def execPoolDoorbell (src : Source) (page : PageIdx) (p : Fin 64) (val : Word) (s : State) : Res :=
  .next (s.accessKind src page .hif (0x3000 + 4 * p.val, some val)
    (fun pg s => s.poolDoorbell pg.n p.val (val.toNat % 2 ^ 17)))

/-- A write of a register of the pool that POOL_SEL selects (offset 0x704 + 4 × i): with EN = 1 only a write that clears EN
and changes nothing else is taken (R405, R418). -/
def State.poolReg (s : State) (d i : Nat) (v : Word) : State :=
  let p := s.fget (hifPg d) F.POOL_SEL_POOL
  let x := s.poolAt d p
  let w := v &&& 0xFFC00000
  if x.en then
    (if i = 2 ∧ w = x.cfg &&& 0x7FFFFFFF then s.setPool d p x.stop else s.errCount (hifPg d))
  else match i with
    | 0 => s.setPool d p { x with base := setLo x.base v }
    | 1 => s.setPool d p { x with base := setHi x.base v }
    | 2 => (s.setPool d p { x with cfg := w }).poolBp d p
    | 3 => s.setPool d p { x with warn := v }
    | 4 => s.setPool d p { x with prod := v.toNat % 2 ^ 17 }
    | _ => s

/-- R418: a pool that holds fewer than 192 buffers starts to fetch entries. -/
def execPoolRefill (d : Die) (p : Fin 64) (s : State) : Res :=
  let x := s.poolAt d.val p.val
  let n := min 64 (min x.unfetched (256 - x.cache.length))
  .next (if s.hostUp d.val && x.en && decide (x.fetching = 0 ∧ x.cache.length < 192 ∧ n ≠ 0) &&
      !s.isSuspended d.val (· == .pool p.val) then s.setPool d.val p.val { x with fetching := n } else s)

/-- One free-ring entry has arrived (R418). -/
def State.poolEntry (s : State) (d p v : Nat) : State :=
  let x := s.poolAt d p
  let x := { x with cons := (x.cons + 1) % x.modulus, fetching := x.fetching - 1 }
  if v % 2048 ≠ 0 then (s.setPool d p x).cadd (hifPg d) F.HQ_POOL_BAD_ENTRIES
  else s.setPool d p { x with cache := x.cache ++ [v] }

/-- Whole pieces of `n` bytes of a list. -/
def pieces (n : Nat) (b : List Byte) : List (List Byte) := (List.range (b.length / n)).map (fun i => slice b (n * i) n)

/-- Bytes of a free ring arrive. -/
def State.poolArrive (s : State) (d p : Nat) (b : List Byte) : State :=
  let x := s.poolAt d p
  let all := x.part ++ b
  let s := (pieces 8 all).foldl (fun s e => s.poolEntry d p (ofLE e)) s
  (s.setPool d p { s.poolAt d p with part := all.drop (all.length / 8 * 8) }).poolBp d p

/-! ### Delivery to punt rings (R416, R417) -/

/-- Word W0 of a FRAME's punt entry, and the entry's other words (R417). -/
def puntWords (f : Frm) (h : Nat) (bufs : List Nat) : List Nat :=
  [fieldAt 1 63 60 + fieldAt bufs.length 59 56 + fieldAt h 55 50 + fieldAt f.source 49 46 + fieldAt f.tenant 43 30 +
      fieldAt f.port 29 20 + fieldAt f.bytes.length 19 6,
    f.stamp.toNat, fieldAt f.ruleId 63 44 + fieldAt f.tc 43 41] ++ bufs ++ List.replicate (5 - bufs.length) 0

/-- The entry of a frame of a host-bound queue, without its PHASE: a frame's, a postcard's or a notification's. -/
def entryOf (f : Frm) (h : Nat) (bufs : List Nat) : Nat :=
  match f.kind with
  | .postcard =>
    let w := ofLE f.bytes
    fieldAt 2 63 60 + fieldAt h 55 50 + fieldAt 7 49 46 + fieldAt (bits w 195 182) 43 30 + fieldAt (bits w 167 158) 29 20 +
      fieldAt 48 19 6 + w * 2 ^ 128
  | .notify => ofLE f.bytes
  | _ => ofLE ((puntWords f h bufs).flatMap (leBytes 8))

/-- A delivery is complete: its entry is written, and its record is formed (R333, R393, R421). -/
def State.delivered (s : State) (d h : Nat) (x : Delivery) : State :=
  let r := s.ringAt d x.ring
  let s := s.setHost d { s.hostOf d with held := (s.hostOf d).held.set none h none }
  let s := (s.setRing d x.ring { r with prod := (r.prod + 1) % r.modulus }).cadd (hifPg d) F.HQ_PUNTED
  let s := match s.frm x.copy.uid with
    | some f =>
      let s := match f.kind with
        | .postcard => s.cadd (telPg d) F.TEL_POSTCARDS
        | _ => s
      (s.fold d f x.copy 0 none (f.bytes.length + 4) 0).release x.copy.uid
    | none => s
  s.ringMsg d x.ring

/-- Write what a delivery has still to write: buffers first, then the entry with its PHASE (R390, R402, R417). -/
def State.deliver (s : State) (d h : Nat) (x : Delivery) (ws : List Walk) : State :=
  let (left, ws, s) := s.dmaWrites d (.punt h) (s.poolAt d x.pool).space x.writes ws
  let x := { x with writes := left }
  let s := s.setHost d { s.hostOf d with held := (s.hostOf d).held.set none h (some x) }
  if !left.isEmpty then s else
  let r := s.ringAt d x.ring
  let a := r.base.toNat + 64 * (r.prod % 2 ^ r.k)
  match s.dmaWrite d (.punt h) r.space 3 a (leBytes 64 (putBits x.entry 0 0 (1 - bits r.prod r.k r.k))) ws with
  | (none, _, s) => s.delivered d h x
  | (some _, _, s) => s

/-- A frame of a host-bound queue is dropped for want of buffers (R419). -/
def State.poolEmpty (s : State) (d : Nat) (c : Copy) : State :=
  let s := match s.frm c.uid with | some f => s.loseCarried d f | none => s
  (s.cadd (hifPg d) F.HQ_POOL_EMPTY_DROPS).discard d c dPool

/-- Port traffic takes every read slot of a die's buffer: its ports transmit 102.4 Tb/s (R14, R35). -/
def State.readsFull (s : State) (d : Nat) : Bool :=
  decide (((s.ports.filter (fun kv => portDie kv.1 = d && kv.2.tx.isSome)).map (fun kv => s.portSpeed kv.1)).sum ≥ 102400000)

/-- Begin the delivery of the head of a host-bound queue, in its turn of the write engine. -/
def State.puntHead (s : State) (d h : Nat) (c : Copy) (f : Frm) (u : TxUpsets) (ws : List Walk) : State :=
  let pg := hifPg d
  let r := s.puntRing d h f
  let x := s.ringAt d r
  let pool := s.fget pg F.HQ_HBQ_MAP_POOL h
  let p := s.poolAt d pool
  let n := if f.buffered then (f.bytes.length + 2047) / 2048 else 0
  let cached := if p.en then p.cache.length else 0
  if !s.ringOn d r ∨ r ≥ 1024 ∨ s.readsFull d then s
  else if x.full true then s.setCqFull d r true
  else if f.buffered && !s.poolLets d h n then s.setCqFull d r true
  else if f.buffered && decide (cached < n) then (s.unqueue d c).poolEmpty d c
  else match s.writeTurn d (s.hbqHigh d h) (s.snapReady d) h 1 with
  | none => s
  | some s =>
    let s := s.setCqFull d r false
    let (why, s) := if f.buffered then s.readCopy d f u else (0, s)
    if why ≠ 0 then (s.unqueue d c).discard d c (f.reason why) else
    let bufs := p.cache.take n
    let s := (s.setPool d pool { p with cache := p.cache.drop n }).poolBp d pool
    let writes := (List.range n).map (fun i => (bufs.getD i 0, slice f.bytes (2048 * i) 2048))
    (s.unqueue d c).deliver d h ⟨c, r, pool, bufs, writes, entryOf f h bufs⟩ ws

/-- R416, R417, R419: the host interface takes up a host-bound queue: a delivery that a fault broke off goes on, else the head
of the queue is delivered. -/
def execPuntDeliver (d : Die) (h : Fin 64) (u : TxUpsets) (walks : List Walk) (s : State) : Res :=
  .next (if !s.hostUp d.val || s.isSuspended d.val (· == .punt h.val) then s
    else match (s.hostOf d.val).held.get none h.val with
      | some x => if s.complWaits d.val || (!s.hbqHigh d.val h.val && s.highWrites d.val) then s else s.deliver d.val h.val x walks
      | none =>
        match s.queueAt (hostQ d.val h.val) with
        | [] => s
        | c :: _ =>
          match s.frm c.uid with
          | some f => if c.eligible then s.puntHead d.val h.val c f u walks else s
          | none => s)

/-! ### DMA reads as they return (R398, R404, R409, R418) -/

/-- Descriptors arrive. -/
def State.fetchArrive (s : State) (d r : Nat) (b : List Byte) : State :=
  let x := s.ringAt d r
  let all := x.part ++ b
  let i := x.nextFetch
  let new := (pieces 64 all).mapIdx (fun j e => ((i + j) % x.modulus, some (BitVec.ofNat 512 (ofLE e))))
  s.setRing d r { x with fetched := x.fetched ++ new, part := all.drop (all.length / 64 * 64) }

/-- The stream on which a descriptor's data is read (R398). -/
def dataStream (r kind : Nat) : Stream := if kind = 1 then .inject r else if kind = 3 then .table r else .cipher r

/-- Data of the descriptor in service arrives: `n` bytes from the front of its reads. -/
def State.dataArrive (s : State) (d r : Nat) (v : Serving) (b : List Byte) : State :=
  let reads := match v.reads with
    | [] => []
    | (a, n) :: rest => if b.length < n then (a + b.length, n - b.length) :: rest else rest
  let v := { v with got := v.got ++ b, reads := reads, stamp := s.stamp d }
  let (v, s) := if descKind v.desc = 3 then
      match s.tableSpan d v.desc true with
      | .ok x => s.writeArrived d x (v.got.length + 1) v
      | .error _ => (v, s)
    else (v, s)
  s.setRing d r { s.ringAt d r with serving := some v }

/-- R398: data of a DMA read arrives, or the read meets a fault. -/
def execDmaReadReturn (d : Die) (c : ReadClient) (w : Walk) (data : List Byte) (s : State) : Res :=
  let d := d.val
  .next (if !s.hostUp d then s else match c with
    | .fetch r =>
      let r := r.val
      let x := s.ringAt d r
      if !s.ringOn d r || s.isSuspended d (· == .fetch r) || x.fetchRun == 0 then s else
      let dva := x.base.toNat + 64 * (x.nextFetch % 2 ^ x.k) + x.part.length
      match s.dmaRead d (.fetch r) x.space dva (64 * x.fetchRun - x.part.length) w data with
      | (none, s) => s
      | (some b, s) => s.fetchArrive d r b
    | .data r =>
      let r := r.val
      match (s.ringAt d r).serving with
      | none => s
      | some v =>
        let st := dataStream r (descKind v.desc)
        match v.reads with
        | [] => s
        | (dva, n) :: _ =>
          let n := s.readPart d r dva n
          if s.isSuspended d (· == st) || n == 0 then s else
          match s.dmaRead d st (descSpace v.desc) dva n w data with
          | (none, s) => s
          | (some b, s) => s.dataArrive d r v b
    | .pool p =>
      let p := p.val
      let x := s.poolAt d p
      if x.fetching = 0 ∨ s.isSuspended d (· == .pool p) then s else
      let slot := x.cons % 2 ^ x.k
      let dva := x.base.toNat + 8 * slot + x.part.length
      match s.dmaRead d (.pool p) x.space dva (8 * min x.fetching (2 ^ x.k - slot) - x.part.length) w data with
      | (none, s) => s
      | (some b, s) => s.poolArrive d p b
    | .engine e k reg =>
      let e := e.val
      let k := k.val
      match s.ctx e k with
      | none => s
      | some r =>
        match r.pend.find? (fun p => p.reg = reg.val) with
        | some p =>
          match p.of with
          | .xrd space dva =>
            if e / 128 ≠ d ∨ p.got.length ≥ 32 then s else
            match s.dmaRead d (.engine e k (r.uid.getD 0)) space (dva + p.got.length) (32 - p.got.length) w data with
            | (none, s) => s.endByCause e k 5 (some .dma)
            | (some b, s) =>
              s.setCtx e k (some { r with pend := r.pend.map (fun q => if q = p then { p with got := p.got ++ b } else q) })
          | _ => s
        | none => s)

/-! ### Faults resolved (R399, R400) -/

/-- A free record goes to the stream that has waited longest without one, and to those whose fault it covers (R399). -/
def State.recRefill (s : State) (d : Nat) : State :=
  let r := (s.hostOf d).suspended.foldl (fun (a : List Suspended × State) x =>
    if x.record.isSome then (a.1 ++ [x], a.2) else let y := a.2.recTake d x; (a.1 ++ [y.1], y.2)) ([], s)
  (r.2.setHost d { r.2.hostOf d with suspended := r.1 }).pendingRecs d

/-- A suspended stream resumes: only an engine's context has anything to do at once. -/
def State.resumeStream (s : State) (st : Stream) : State :=
  match st with
  | .engine e _ uid => s.dmaResolved (e / 16) uid
  | _ => s

/-- The ring of an aborted completion is disabled (R400). -/
def State.abortCompletion (s : State) (d r : Nat) : State :=
  let x := s.ringAt d r
  let i := match x.done with | some c => (c.index + 1) % x.modulus | none => x.batch
  let s := s.setRing d r { x with done := none, batch := i, dbErr := true, part := [] }
  let old := s.fget (hifPg d) F.HQ_ENABLE_RING (r / 32)
  (s.fset (hifPg d) F.HQ_ENABLE_RING (putBits old (r % 32) (r % 32) 0) (r / 32)).raise (hifPg d) 10

/-- What an aborted delivery leaves: the frame is dropped and its buffers go back to the cache (R400). -/
def State.abortDelivery (s : State) (d h : Nat) : State :=
  match (s.hostOf d).held.get none h with
  | none => s
  | some x =>
    let s := s.setHost d { s.hostOf d with held := (s.hostOf d).held.set none h none }
    let p := s.poolAt d x.pool
    ((s.setPool d x.pool { p with cache := x.bufs ++ p.cache }).poolBp d x.pool).poolEmpty d x.copy

/-- A snapshot write that is aborted waits for the next cut; an interim one is given up (R400). -/
def State.abortSnapshot (s : State) (d : Nat) : State :=
  let a := s.acctOf d
  s.setAcct d (if a.interim.isSome then { a with interim := none, writes := [] } else { a with writes := [], wait := true })

/-- A dump that is aborted is skipped (R400). -/
def State.abortDump (s : State) (d : Nat) : State :=
  s.setDump d { s.dumpOf d with waiting := (s.dumpOf d).waiting.drop 1, skipped := true }

/-- A stream is aborted, by its source (R400). -/
def State.abortStream (s : State) (d : Nat) (st : Stream) : State :=
  match st with
  | .fetch r =>
    let x := s.ringAt d r
    s.setRing d r { x with fetched := x.fetched ++ [(x.nextFetch, none)], part := [] }
  | .inject r | .table r | .cipher r =>
    match (s.ringAt d r).serving with
    | some v => s.endServe d r v.index (some v.desc) stFault v.count
    | none => s
  | .completion r => s.abortCompletion d r
  | .punt h => s.abortDelivery d h
  | .pool p => s.setPool d p (s.poolAt d p).stop
  | .snapshot => s.abortSnapshot d
  | .dump => s.abortDump d
  | .engine e _ uid => s.dmaAborted (e / 16) uid

/-- A command frees a record, and its streams resume or are aborted (R400). -/
def State.faultCmd (s : State) (d n : Nat) (abort : Bool) : State :=
  if !s.recValid d n then s else
  let h := s.hostOf d
  let mine := h.suspended.filter (fun x => x.record = some n)
  let s := s.setHost d { h with suspended := h.suspended.filter (fun x => x.record ≠ some n) }
  let s := (s.setRecValid d n false).setReg (dtuPg d) (F.DTU_FAULT_INFO.at n) 0
  let s := mine.foldl (fun s x => if abort then s.abortStream d x.stream else s.resumeStream x.stream) s
  s.recRefill d

/-- R400: RETRY. -/
def execDtuFaultRetry (src : Source) (page : PageIdx) (val : Word) (s : State) : Res :=
  .next (s.accessKind src page .dtu (F.DTU_FAULT_CMD.cmd 1 val) (fun p s => s.faultCmd p.n (val.toNat % 64) false))

/-- R400: ABORT. -/
def execDtuFaultAbort (src : Source) (page : PageIdx) (val : Word) (s : State) : Res :=
  .next (s.accessKind src page .dtu (F.DTU_FAULT_CMD.cmd 2 val) (fun p s => s.faultCmd p.n (val.toNat % 64) true))

/-! ### Invalidation (R396) -/

/-- A command invalidates the cached translations that `hit` selects; BUSY holds until it completes. -/
def State.invalidate (s : State) (p : Page) (val : Word) (hit : Xlat → Bool) : State :=
  let s := (s.putRw p F.DTU_INV_CMD_BUSY.off val).bset p F.DTU_INV_CMD_BUSY true
  let h := s.hostOf p.n
  s.setHost p.n { h with xlats := h.xlats.filter (fun x => !hit x) }

/-- Invalidate every translation of a die, those of a space, or those of a range of a space. -/
def State.invAll (s : State) (p : Page) (val : Word) : State := s.invalidate p val (fun _ => true)

def State.invSpace (s : State) (p : Page) (val : Word) : State := s.invalidate p val (fun x => x.space = val.toNat % 16)

def State.invRange (s : State) (p : Page) (val : Word) : State :=
  let first := s.pairOf p F.DTU_INV_ADDR_LO F.DTU_INV_ADDR_HI / 4096
  let n := s.fget p F.DTU_INV_PAGES_PAGES
  s.invalidate p val (fun x => decide (x.space = val.toNat % 16 ∧ first ≤ x.page ∧ x.page < first + n))

/-- R396: ALL. -/
def execDtuInvAll (src : Source) (page : PageIdx) (val : Word) (s : State) : Res :=
  .next (s.accessKind src page .dtu (F.DTU_INV_CMD.cmd 1 val) (fun p s => s.invAll p val))

/-- R396: SPACE. -/
def execDtuInvSpace (src : Source) (page : PageIdx) (val : Word) (s : State) : Res :=
  .next (s.accessKind src page .dtu (F.DTU_INV_CMD.cmd 2 val) (fun p s => s.invSpace p val))

/-- R396: RANGE. -/
def execDtuInvRange (src : Source) (page : PageIdx) (val : Word) (s : State) : Res :=
  .next (s.accessKind src page .dtu (F.DTU_INV_CMD.cmd 3 val) (fun p s => s.invRange p val))

/-- R396: an invalidation completes. -/
def execDtuInvDone (d : Die) (s : State) : Res :=
  s.ifOperates (dtuPg d.val) (if s.flag (dtuPg d.val) F.DTU_INV_CMD_BUSY then
    (s.bset (dtuPg d.val) F.DTU_INV_CMD_BUSY false).raise (dtuPg d.val) 9 else s)

/-! ### Reset of a function (R388, R420) -/

/-- Put the registers of a page at offsets from `lo` up to `hi` back to their reset values. -/
def State.clearRange (s : State) (p : Page) (lo hi : Nat) : State :=
  { s with regs := s.regs.filter (fun kv => !decide (keyKind kv.1 = p.kind.code ∧ keyNum kv.1 = p.n ∧ lo ≤ keyOff kv.1 ∧ keyOff kv.1 < hi)) }

/-- The reset of a function (R420). -/
def State.functionReset (s : State) (d : Nat) : State :=
  let h := s.hostOf d
  let src := if d = 0 then Source.f0 else Source.f1
  let s := s.setHost d { lost := h.lost, config := h.config }
  let s := h.suspended.foldl (fun s x => match x.stream with
    | .engine e _ uid => s.dmaAborted (e / 16) uid
    | _ => s) s
  let s := h.held.foldl (fun s kv => match kv.2 with
    | some x => s.setQueue (hostQ d kv.1) (x.copy :: s.queueAt (hostQ d kv.1))
    | none => s) s
  let s := ((s.cipherOf d).msgs.filter (fun m => match m.owner with | .ring _ => true | _ => false)).foldl
    (fun s m => s.endMsg d m) s
  let s := if (s.acctOf d).next.isSome then s.abortSnapshot d else s
  let s := if (s.dumpOf d).waiting.isEmpty then s else s.abortDump d
  let s := ((s.clearRange (hifPg d) 0x108 0x10C).clearRange (hifPg d) 0x200 0x780).clearRange (hifPg d) 0x7F00 0x10000
  let s := s.clearRange (dtuPg d) 0x100 0x1000
  s.heldLocks.foldl (fun s x => if x.2.src = src then s.setLock x.1 none else s) s

/-- R420: a Function Level Reset or a reset of the host die. -/
def execFunctionReset (d : Die) (s : State) : Res := .next (if s.rolled d.val then s.functionReset d.val else s)

/-- The configuration that a function presents (R389), with the vendor ID of OTP word 3. -/
def State.funcConfig (s : State) : FuncConfig := { vendor := BitVec.ofNat 16 (bits (s.otp.words.get 0 3).toNat 31 16) }

/-- R386, R493: UCIe training completes with the modules in `mods` in service, and the function's configuration space answers; a module
that has not trained is lost. -/
def execUcieLinkUp (d : Die) (mods : BitVec 2) (s : State) : Res :=
  let d := d.val
  let pg := hifPg d
  .next (if !s.rolled d || s.fget pg F.HIF_UCIE_STATUS_IN_SERVICE != 0 || mods == 0 then s
    else
      let s := s.fset pg F.HIF_UCIE_STATUS_IN_SERVICE mods.toNat
      let lost := [0, 1].filter (fun m => !mods.getLsbD m)
      let s := s.setHost d { s.hostOf d with lost := lost, config := some s.funcConfig }
      lost.foldl (fun s _ => (s.cadd pg F.HIF_UCIE_MODULE_LOSSES).raise pg 8) s)

/-- R388: a module is lost; with both gone the function is reset. -/
def execUcieModuleLost (d : Die) (m : Fin 2) (s : State) : Res :=
  let d := d.val
  let pg := hifPg d
  let v := s.fget pg F.HIF_UCIE_STATUS_IN_SERVICE
  .next (if !bit v m.val then s
    else
      let now := putBits v m.val m.val 0
      let s := s.fset pg F.HIF_UCIE_STATUS_IN_SERVICE now
      let s := s.setHost d { s.hostOf d with lost := (s.hostOf d).lost ++ [m.val] }
      let s := (s.cadd pg F.HIF_UCIE_MODULE_LOSSES).raise pg 8
      if now = 0 then (s.functionReset d).setHost d { (s.functionReset d).hostOf d with config := none } else s)

/-- R388: lost modules are retrained; those of `ok` return to service. -/
def execUcieRetrainTimer (d : Die) (ok : BitVec 2) (s : State) : Res :=
  let d := d.val
  let pg := hifPg d
  .next (if !s.rolled d || !s.flag pg F.HIF_UCIE_CTRL_RETRAIN_EN then s
    else
      let back := (s.hostOf d).lost.filter (fun m => ok.getLsbD m)
      let s := s.fset pg F.HIF_UCIE_STATUS_IN_SERVICE
        (back.foldl (fun v m => putBits v m m 1) (s.fget pg F.HIF_UCIE_STATUS_IN_SERVICE))
      s.setHost d { s.hostOf d with
        lost := (s.hostOf d).lost.filter (fun m => !back.contains m),
        config := if back.isEmpty then (s.hostOf d).config else some s.funcConfig })

end Sys2Proof.Machine
end

