-- ==== Sys2Proof/Machine/Integrity.lean ====
section
/-!
DEFINITION. The 1 ms scrubs of configuration words and of the decision cache (15 R458, R460, R465).
-/
namespace Sys2Proof.Machine

/-! ### Configuration ECC (R460) -/

/-- The page that holds a word. -/
def configPage : ConfigWord → Option Page
  | .reg kind n _ => (Kind.ofCode kind).bind (fun k => if n < k.count then some ⟨k, n⟩ else none)
  | .ring d _ _ | .pool d _ _ => some (hifPg d.val)
  | .gate p _ _ | .shaper p _ => some (portPg p.val)
  | .mcast d _ => some (bufPg d.val)
  | .msec p _ => some (msecPg (p.val / 8))
  | .policer sl _ => some (slicePg sl.val)
  | .learning p => some (lrnPg (portDie p.val))

/-- The reset values of the window registers 0x404 to 0x42C of a ring (R404). -/
def ringReset (i : Nat) : Word := if i = 2 then 0x02000000 else if i = 3 then 0x110 else 0

/-- A pool with register `i` of its window (0x704 to 0x71C) at its reset value (R418). -/
def Pool.reset (x : Pool) (i : Nat) : Pool :=
  let z : Pool := {}
  match i with
  | 0 => { x with base := setLo x.base 0 }
  | 1 => { x with base := setHi x.base 0 }
  | 2 => { x with cfg := z.cfg }
  | 3 => { x with warn := z.warn }
  | 4 => { x with prod := 0 }
  | 5 => { x with cons := 0 }
  | _ => { x with bp := false }

/-- A register, or the counter whose low word it is, acts as its reset value. PAGE_CONTROL takes effect at once. -/
def State.revertReg (s : State) (p : Page) (off : Nat) : State :=
  match p.kind.reg? off with
  | some r =>
    if r.wide then { s with ctrs := s.ctrs.set 0 (p.key (if r.isHigh off then off - 4 else off)) 0 }
    else s.clearReg p off
  | none =>
    if off = 0x14 then s.controlWrite p (regDefault (p.key off))
    else if off = 0x18 ∨ off = 0x1C then s.irqUpd p (fun s => s.clearReg p off)
    else s.clearReg p off

/-- An uncorrectable word acts as its reset value; a gate-list entry takes its port's operational list away (R460). -/
def State.revertWord (s : State) : ConfigWord → State
  | .reg kind n off => match Kind.ofCode kind with
    | some k => s.revertReg ⟨k, n⟩ off.toNat
    | none => s
  | .ring d r i =>
    let x := s.ringAt d.val r.val
    s.setRing d.val r.val (if i.val = 10 then { x with dbErr := false } else x.put i.val (ringReset i.val))
  | .pool d p i => s.setPool d.val p.val ((s.poolAt d.val p.val).reset i.val)
  | .gate p bank i =>
    let x := s.portOf p.val
    let s := s.setPort p.val { x with gates := x.gates.set 0 (1024 * bank.val + i.val) 0, deferred := [] }
    (s.bset (portPg p.val) F.GATE_STATUS_OPER_VALID false).wakePort p.val
  | .mcast d g => { s with mcs := s.mcs.set 0 (8192 * d.val + g.val) 0 }
  | .msec p i => s.setMsec p.val { s.msecOf p.val with tbl := (s.msecOf p.val).tbl.set 0 i.val 0 }
  | .policer sl i => s.setPolicer sl.val i.val {}
  | .shaper p e =>
    let x := s.portOf p.val
    (s.setPort p.val { x with vstart := x.vstart.set 0 e.val 0 }).wakePort p.val
  | .learning p => s.setPort p.val { s.portOf p.val with tokens := none }

/-- What the scrub does about one error of die `d`. -/
def State.scrubWord (s : State) (d : Nat) (x : ConfigErr) : State :=
  match configPage x.word with
  | none => s
  | some pg =>
    if pg.die ≠ d then s
    else if !x.uncorr then s.integrity d 12
    else ((s.revertWord x.word).setFault pg true).integrity d 13

/-- R460: 1 ms of the configuration scrub of a die. -/
def execConfigScrub (d : Die) (found : List ConfigErr) (s : State) : Res :=
  s.ifOperates (diePg d.val) (if s.dieUp d.val then found.foldl (fun s x => s.scrubWord d.val x) s else s)

/-- R460: 1 ms of the decision-cache scrub: the entries with bad parity, by their place in the list, are invalidated. -/
def execDecisionCacheScrub (d : Die) (bad : List Nat) (s : State) : Res :=
  s.ifOperates (clsPg d.val) (if !s.dieUp d.val then s else
    let c := s.clsOf d.val
    let hit := (List.range c.cache.length).filter (fun i => bad.contains i)
    let kept := ((List.range c.cache.length).filter (fun i => !bad.contains i)).filterMap (fun i => c.cache[i]?)
    hit.foldl (fun s _ => s.integrity d.val 9) (s.setCls d.val { c with cache := kept }))

end Sys2Proof.Machine
end

