-- ==== Sys2Proof/Machine/Graph.lean ====
section
/-!
DEFINITION. The default parse graph that every roll call loads into nodes 0-47 and transitions 0-127 (04 R103, R104, R107).
The rule says what the graph parses; which nodes and transitions do it is the model's choice (a row of notes/assumptions).
-/
namespace Sys2Proof.Machine

/-- A node of the default graph, by the fields of R104 that it uses. -/
structure GraphNode where
  type : Nat
  base : Nat
  mode : Nat := 0
  /-- bit offset and width of the length field, which counts 4 bytes -/
  lenAt : Nat × Nat := (0, 1)
  /-- bit offset and width of the selector -/
  sel : Nat × Nat := (0, 1)
  /-- selector value and next node of each transition -/
  next : List (Nat × Nat) := []
  /-- next node when no transition matches; none ends parsing -/
  other : Option Nat := none
  /-- bit offset of a 16-bit payload length, and whether it counts from the header's end -/
  plen : Option (Nat × Bool) := none
  terminal : Bool := false

/-- Next headers by EtherType and by protocol number. -/
def byType (v4 v6 : Nat) : List (Nat × Nat) := [(0x0800, v4), (0x86DD, v6)]
def byTag (vlan v4 v6 : Nat) : List (Nat × Nat) := [(0x8100, vlan), (0x88A8, vlan)] ++ byType v4 v6
def byProto : List (Nat × Nat) := [(6, 6), (17, 7), (132, 8)]

/-- The nodes: outer Ethernet, two VLAN tags, IPv4, IPv6, fragment header, TCP, UDP, SCTP, VXLAN, Geneve, then the inner
Ethernet, VLAN, IPv4, IPv6, TCP and UDP. -/
def defaultNodes : List GraphNode :=
  [ { type := 1, base := 14, sel := (96, 16), next := byTag 1 3 4 },
    { type := 2, base := 4, sel := (16, 16), next := byTag 2 3 4 },
    { type := 2, base := 4, sel := (16, 16), next := byType 3 4 },
    { type := 3, base := 20, mode := 2, lenAt := (4, 4), sel := (72, 8), next := byProto, plen := some (16, false) },
    { type := 4, base := 40, sel := (48, 8), next := byProto ++ [(44, 5)], plen := some (32, true) },
    { type := 10, base := 8, sel := (0, 8), next := byProto },
    { type := 5, base := 20, mode := 2, lenAt := (96, 4), terminal := true },
    { type := 6, base := 8, sel := (16, 16), next := [(4789, 9), (6081, 10)] },
    { type := 7, base := 12, terminal := true },
    { type := 8, base := 8, other := some 11 },
    { type := 9, base := 8, mode := 1, lenAt := (2, 6), sel := (16, 16), next := (0x6558, 11) :: byType 13 14 },
    { type := 1, base := 14, sel := (96, 16), next := byTag 12 13 14 },
    { type := 2, base := 4, sel := (16, 16), next := byType 13 14 },
    { type := 3, base := 20, mode := 2, lenAt := (4, 4), sel := (72, 8), next := [(6, 15), (17, 16)],
      plen := some (16, false) },
    { type := 4, base := 40, sel := (48, 8), next := [(6, 15), (17, 16)], plen := some (32, true) },
    { type := 5, base := 20, mode := 2, lenAt := (96, 4), terminal := true },
    { type := 6, base := 8, terminal := true } ]

/-- A node entry whose transitions start at `t` (R104). -/
def GraphNode.word (g : GraphNode) (t : Nat) : BitVec 128 :=
  BitVec.ofNat 128 (2 ^ 127 + fieldAt g.terminal.toNat 126 126 + fieldAt g.type 125 118 + fieldAt g.base 117 110 +
    fieldAt g.lenAt.1 109 100 + fieldAt (g.lenAt.2 - 1) 99 96 + fieldAt (if g.mode = 0 then 0 else 2) 95 94 +
    fieldAt g.mode 93 92 + fieldAt g.sel.1 91 82 + fieldAt (g.sel.2 - 1) 81 78 + fieldAt t 77 68 +
    fieldAt g.next.length 67 63 + fieldAt (g.other.getD 0) 62 53 + fieldAt g.other.isNone.toNat 52 52 +
    (match g.plen with
      | some (o, fromEnd) => fieldAt o 51 42 + fieldAt 15 41 38 + 2 ^ 37 + fieldAt fromEnd.toNat 36 35
      | none => 0))

/-- A transition entry (R104). -/
def transWord (width : Nat) (x : Nat × Nat) : BitVec 64 :=
  BitVec.ofNat 64 (2 ^ 63 + fieldAt x.2 61 52 + fieldAt x.1 31 16 + (2 ^ width - 1))

/-- Node and transition memories with nodes from `n` and transitions from `t` on loaded. -/
def loadGraph : List GraphNode → Nat → Nat → Sparse (BitVec 128) × Sparse (BitVec 64) →
    Sparse (BitVec 128) × Sparse (BitVec 64)
  | [], _, _, m => m
  | g :: r, n, t, m =>
    let trans := ((List.range g.next.length).zip g.next).foldl
      (fun (x : Sparse (BitVec 64)) (y : Nat × Nat × Nat) => x.set 0 (t + y.1) (transWord g.sel.2 y.2)) m.2
    loadGraph r (n + 1) (t + g.next.length) (m.1.set 0 n (g.word t), trans)

/-- The tables of a slice after the roll call has cleared them and loaded the default graph (R107, R540). -/
def SliceTab.cleared : SliceTab :=
  let m := loadGraph defaultNodes 0 0 ([], [])
  { node := m.1, trans := m.2 }

end Sys2Proof.Machine
end

