-- ==== Sys2Proof/Machine/Wear.lean ====
section
/-!
DEFINITION. The wear monitors of a die: aging monitors, raises of the core supply, and hours of operation (15 R478-R480).
-/
namespace Sys2Proof.Machine

/-- The bank with the worst loss, and that loss. -/
def worstBank (losses : List (BitVec 16)) : Nat × Nat :=
  ((losses.take 16).foldl (fun (x : Nat × Nat × Nat) l => (x.1 + 1, if l.toNat > x.2.2 then (x.1, l.toNat) else x.2))
    (0, 0, 0)).2

/-- WEAR_WARN's condition (R479). -/
def State.wearWarns (s : State) (d : Nat) : Bool :=
  decide (s.fget (aonPg d) F.AON_WEAR_LIFE_CONSUMED ≥ 9000) || decide (s.fget (aonPg d) F.AON_WEAR_TRIM_TRIM_MV ≥ 50)

/-- R478, R479: what the always-on block of a die does with a measurement of its 16 aging monitors. -/
def State.wearMeasured (s : State) (d : Nat) (losses : List (BitVec 16)) : State :=
  let pg := aonPg d
  let (bank, worst) := worstBank losses
  let before := s.wearWarns d
  let s := (s.fset pg F.AON_WEAR_DEGRADE_BANK bank).fset pg F.AON_WEAR_DEGRADE_WORST worst
  let trim := s.fget pg F.AON_WEAR_TRIM_TRIM_MV
  let set := s.fget pg F.AON_VCORE_SETPOINT_MV
  let grown := (worst - s.wearBase.get 0 d) / 50
  let raises := min grown (min ((60 - trim) / 5) ((800 - set) / 5))
  let s := { s with wearBase := s.wearBase.upd 0 d (· + 50 * raises) }
  let s := s.fset pg F.AON_WEAR_TRIM_TRIM_MV (trim + 5 * raises)
  let s := s.fset pg F.AON_VCORE_SETPOINT_MV (set + 5 * raises)
  let s := s.fset pg F.AON_WEAR_LIFE_CONSUMED (Config.lifeConsumed (BitVec.ofNat 16 worst)).toNat
  let s := if raises = 0 then s else s.emit (.avs d (set + 5 * raises))
  s.raiseIf (s.wearWarns d && !before) pg 13

/-- R478, R479: a measurement of the aging monitors of a die, their losses in units of 0.01%. -/
def execWearMeasure (d : Die) (losses : List (BitVec 16)) (s : State) : Res :=
  s.ifOperates (aonPg d.val) (if s.pins.pwrgood then s.wearMeasured d.val losses else s)

/-- The bin of a temperature reading in 0.125 °C (R480). -/
def hourBin (reading : Int) : Nat := [65, 75, 85, 95, 100, 105, 110].countP (fun c => decide (8 * c ≤ reading))

/-- R480: a whole hour of operation counts in the bin of the present reading. -/
def execWearHourTick (d : Die) (s : State) : Res :=
  let pg := aonPg d.val
  s.ifOperates (aonPg d.val) (if !s.pins.pwrgood then s else
    s.fsat pg F.AON_WEAR_HOURS (i := hourBin (s.reg pg F.AON_TEMP_READING.off |>.setWidth 16).toInt))

/-- A write of AON_WEAR_CTRL: LOADED is set by a 1; a measurement that MEASURE asks for is a command of its own (R480). -/
def State.wearCtrl (s : State) (p : Page) (val : Word) : State :=
  if bit val.toNat 31 then s.bset p F.AON_WEAR_CTRL_LOADED true else s

def execWearHoursLoad (src : Source) (page : PageIdx) (val : Word) (s : State) : Res :=
  .next (s.accessKind src page .aon (F.AON_WEAR_CTRL.wr val) (fun p s => s.wearCtrl p val))

/-- A write of AON_WEAR_HOURSi: only while LOADED = 0 (R480). -/
def State.wearHours (s : State) (p : Page) (off : Nat) (val : Word) : State :=
  if s.flag p F.AON_WEAR_CTRL_LOADED then s else s.setReg p off val

end Sys2Proof.Machine
end

