-- ==== Sys2Proof/Machine/Startup.lean ====
section
/-!
DEFINITION. Power, reset and the roll call: what a reset keeps and clears, what the roll call of a die leaves, and the
stern shadow (02 R64-R69; 15 R474; 17 R490-R492, R496, R502-R504; 18 R519, R522, R525; R540).
-/
namespace Sys2Proof.Machine

/-! ### What a reset clears (R491, R492, R540) -/

/-- The page of a storage key. -/
def keyPage (k : Nat) : Option Page := (Kind.ofCode (keyKind k)).map (fun kd => ⟨kd, keyNum k⟩)

/-- Does a page key lie on a die? -/
def keyOn (d k : Nat) : Bool := (keyPage k).any (fun p => p.die = d)

/-- Registers that a reset of a die leaves: its wear data (R492), and the OTP page while a command runs (R499). -/
def keptReg (otpBusy : Bool) (d k : Nat) : Bool :=
  decide (keyKind k = Kind.aon.code ∧ keyNum k = d ∧ 0x200 ≤ keyOff k ∧ keyOff k < 0x234) ||
  (otpBusy && d = 0 && decide (keyKind k = Kind.otp.code))

/-- Entries whose number does not fall on die `d`. -/
def Sparse.without {α : Type} (m : Sparse α) (d : Nat) (die : Nat → Nat) : Sparse α := m.filter (fun kv => die kv.1 ≠ d)

/-- A die with everything that a reset clears at its reset value. Kept are the time that counts on, the wear data, the QDR
contents and the seconds that an OTP command still runs (R492, R499, R540). -/
def State.resetDie (s : State) (d : Nat) : State :=
  let busy := s.otp.busy.isSome
  let t := s.timeOf d
  let own : Nat → Nat := id
  { s with
    out := if d = 0 && t.ppsOut then .pin 2 false :: s.out else s.out
    regs := s.regs.filter (fun kv => !keyOn d kv.1 || keptReg busy d kv.1)
    ctrs := s.ctrs.filter (fun kv => !keyOn d kv.1)
    latch := s.latch.filter (fun kv => !keyOn d (kv.1 / 4))
    locks := s.locks.filter (fun kv => !keyOn d kv.1)
    boot := s.boot.without d own
    failed := s.failed.filter (fun kv => !keyOn d kv.1)
    resetting := s.resetting.filter (fun kv => !keyOn d kv.1)
    lanes := s.lanes.without d (· / 512)
    links := s.links.without d (· / 512)
    tabs := s.tabs.without d (· / 8)
    qdrBusy := s.qdrBusy.without d (· / 4)
    clss := s.clss.without d own
    frames := s.frames.filter (fun kv => kv.2.all (fun f => f.holder ≠ d))
    slices := s.slices.without d (· / 8)
    ports := s.ports.without d (· / 512)
    lrns := s.lrns.without d own
    keels := s.keels.without d own
    stalls := s.stalls.without d (· % 64 / 32)
    bufs := s.bufs.without d own
    mcs := s.mcs.without d (· / 8192)
    queues := s.queues.without d queueDie
    times := s.times.set {} d { fine := t.fine, mono := t.mono }
    accts := s.accts.without d own
    tels := s.tels.without d own
    dumps := s.dumps.without d own
    admits := s.admits.without d own
    ciphers := s.ciphers.without d own
    msecs := s.msecs.without d (· / 512)
    hosts := s.hosts.without d own
    coxs := s.coxs.without d own
    css := s.css.without d (· / 8) }

/-- Both dies in reset (R492). -/
def State.complexReset (s : State) : State :=
  let s := (s.resetDie 0).resetDie 1
  { s with
    pins := { s.pins with resetN := false, i3cPage := 0, i3cOff := 0 }
    otp := { s.otp with resetPending := s.otp.busy.isSome } }

/-- R492: RESET_N has been low for 10 µs. -/
def execResetNAssert (s : State) : Res := .next s.complexReset

/-- Everything that a loss of PWRGOOD_AON takes: the reset, the time, the I3C address, the wear data and the OTP command
in progress, whose word holds the bits `torn` that had already taken. LOADED lasts until VAON is lost (R480, R492). -/
def State.powerLost (s : State) (torn : Word) : State :=
  let loaded (d : Nat) : Bool := s.flag (aonPg d) F.AON_WEAR_CTRL_LOADED
  let keep := [0, 1].filter loaded
  let s := (s.otpFinish torn).complexReset
  let s := { s with
    regs := s.regs.filter (fun kv => !keptReg false 0 kv.1 && !keptReg false 1 kv.1)
    times := []
    wearBase := []
    pins := { s.pins with pwrgood := false, i3cAddr := none, tripped := false } }
  keep.foldl (fun s d => s.bset (aonPg d) F.AON_WEAR_CTRL_LOADED true) s

/-- THERM_TRIP_N is let go (R440). -/
def State.untrip (s t : State) : State := if s.pins.tripped then t.emit (.pin 1 true) else t

/-- R492: PWRGOOD_AON deasserts. -/
def execPwrgoodAonDeassert (torn : Word) (s : State) : Res :=
  let t := if s.pins.pwrgood then s.untrip (s.powerLost torn) else s
  .next { t with pins := { t.pins with aonClk := true } }

/-- R522: AON_CLK is lost: as a deassertion of PWRGOOD_AON, until PWRGOOD_AON has been deasserted. -/
def execAonClkLoss (torn : Word) (s : State) : Res :=
  let t := if s.pins.pwrgood then s.untrip (s.powerLost torn) else s
  .next { t with pins := { t.pins with aonClk := false } }

/-- R72, R480, R499: VAON or VAON_IO leaves its range. LOADED is lost too. -/
def execVaonLoss (torn : Word) (s : State) : Res :=
  let t := s.untrip (s.powerLost torn)
  .next ([0, 1].foldl (fun t d => t.bset (aonPg d) F.AON_WEAR_CTRL_LOADED false)
    { t with pins := { t.pins with vaon := false } })

/-- R490 step 2: PWRGOOD_AON asserts with VAON in range and AON_CLK running: the time units count from SEC = 0, in FREE. -/
def execPwrgoodAonAssert (s : State) : Res :=
  .next (if s.pins.pwrgood || !s.pins.aonClk then s
    else { s with pins := { s.pins with vaon := true, pwrgood := true } })

/-- R491: a core rail of a die leaves its range while RESET_N is deasserted: the die is held as if in reset, and the other
die enters split operation. -/
def execRailOutOfRange (d : Die) (s : State) : Res :=
  let d := d.val
  let e := 1 - d
  .next (if !s.dieUp d then s else
    let s := s.setBoot d { s.bootOf d with held := true }
    let s := if !s.rolled e || s.split e then s else
      let fail (s : State) (f : Fld) (i : Nat) : State :=
        if s.fget (keelPg e) f i = slActive ∨ s.fget (keelPg e) f i = slSpare then (s.fset (keelPg e) f slFailed i).subFailed e
        else s
      ((List.range 66).foldl (fun s i => fail (fail s F.KEEL_SUBLINK_TX_STATE i) F.KEEL_SUBLINK_RX_STATE i) s).splitEnter e
    (s.resetDie d).setBoot d { held := true })

/-! ### The start of the roll call (R67, R69, R496, R504, R519) -/

/-- A die's core supply setpoint: the factory value and the raise of R478, sent to its regulator (R519). -/
def State.sendSetpoint (s : State) (d : Nat) : State :=
  let mv := (Config.vcoreSetpoint d).toNat + s.fget (aonPg d) F.AON_WEAR_TRIM_TRIM_MV
  (s.fset (aonPg d) F.AON_VCORE_SETPOINT_MV mv).emit (.avs d mv)

/-- R67: RESET_N deasserts: both rings start, OTP is copied to the shadows, and the bow die sends the stern's. -/
def execResetNDeassert (otp : OtpReport) (s : State) : Res :=
  .next (if !s.pins.pwrgood || s.pins.resetN then s else
    let s := { s with pins := { s.pins with resetN := true } }
    let s := s.otpRollCall otp
    let s := [0, 1].foldl (fun s d => (s.setBoot d { s.bootOf d with shadow := s.shadowNow d }).sendSetpoint d) s
    let s := (s.emit (.shadow 0)).emit (.shadow 1)
    if s.pins.brakeN then s else [0, 1].foldl State.brakeDie s)

/-- R69: a part of the stern shadow that has not been acknowledged is sent again. -/
def execShadowFrameResend (part : Fin 2) (s : State) : Res :=
  let missing := if part.val = 0 then s.dieUp 1 && !s.rolled 1
    else s.dieUp 1 && !(s.bootOf 1).shadowDone
  .next (if s.dieUp 0 && missing then s.emit (.shadow part.val) else s)

/-! ### The end of the roll call (R64-R67) -/

/-- Show a status bit of a unit that the roll call found, on its page and the pages above it: PAGE_STATUS has these values
by the time the roll call completes, and no cause is raised for them (R11, R47, R53). -/
def State.showStatus (s : State) (p : Page) (bit : Nat) : State :=
  let s := s.setReg p 0x10 (s.reg p 0x10 ||| BitVec.ofNat 32 (2 ^ (bit + 8) + 2 ^ bit))
  match p.kind.level with
  | none => s
  | some _ => (s.ancestors p 6).foldl (fun s q => s.setReg q 0x10 (s.reg q 0x10 ||| BitVec.ofNat 32 (2 ^ bit))) s

/-- The physical positions that stand behind the 16 engine seats of a slice, in ascending order, and whether the designated
spare is among them (R65). `failed` are the positions that failed self-test. -/
def State.enrolled (s : State) (sl : Nat) (failed : List Nat) : List Nat × Bool :=
  let sh := (s.bootOf (sliceDie sl)).shadow
  let spare := (Config.spareEngine sh.fuses sl).val
  let lostSpare := sh.fuseBad.any (fun w => Config.fuseHits w sl)
  let need := (List.range 17).any (fun k => k ≠ spare && failed.contains k)
  let use := need && !lostSpare && !failed.contains spare
  ((List.range 17).filter (fun k => !failed.contains k && (k ≠ spare || use)), use)

/-- Assign the engine seats of a slice (R65, R49): the number of seats left with no working engine, and whether the spare
is enrolled. -/
def State.seatEngines (s : State) (sl : Nat) (failed : List Nat) : Nat × Bool × State :=
  let (phys, use) := s.enrolled sl failed
  let spare := (Config.spareEngine (s.bootOf (sliceDie sl)).shadow.fuses sl).val
  let s := (List.range 16).foldl (fun s i =>
    let pg := enginePg (16 * sl + i)
    match phys[i]? with
    | some k => s.setReg pg F.PAGE_PHYS_PHYS_INDEX.off (BitVec.ofNat 32 (17 * sl + k + (if k = spare then 2 ^ 31 else 0)))
    | none => (s.setReg pg F.PAGE_PHYS_PHYS_INDEX.off 0x1FFF).showStatus pg 1) s
  (16 - phys.length, use, s)

/-- The board-table entry of a lane, from its die's shadow: of the generation in use, or the default one (R15, R502, R504,
R69). -/
def State.entryOfLane (s : State) (l : Nat) : Nat :=
  let sh := (s.bootOf (l / 512)).shadow
  if sh.gen.isSome then (sh.board.get 0 l).toNat else defaultEntry l

/-- Put what the board table gives a lane into its registers, with the CTLE code that the preset starts from
(R79, R81, R83, R84). -/
def State.deriveLane (s : State) (l : Nat) : State :=
  let e := s.entryOfLane l
  let pg := lanePg l
  let taps := BitVec.ofNat 32 (bits e 29 0)
  let s := (s.setReg pg F.LANE_BT_LO.off (BitVec.ofNat 32 e)).setReg pg F.LANE_BT_HI.off (BitVec.ofNat 32 (e / 2 ^ 32))
  let s := (s.setReg pg F.LANE_TX_FIR.off taps).setReg pg F.LANE_TX_OVERRIDE.off taps
  let s := s.fset pg F.LANE_RX_EQ_PRESET (bits e 33 30)
  let b := s.ctleBounds l (s.fget pg F.LANE_RX_LIMIT_MIN) (s.fget pg F.LANE_RX_LIMIT_MAX)
  ((s.fset pg F.LANE_RX_EQ_BOUND_MIN b.1).fset pg F.LANE_RX_EQ_BOUND_MAX b.2).startCtle l

/-- EIGHT_SWAP: the connector lane of each silicon lane (R81). -/
def State.deriveEight (s : State) (e : Nat) : State :=
  s.setReg (eightPg e) F.EIGHT_SWAP.off (BitVec.ofNat 32 (((List.range 8).map (fun i =>
    fieldAt (bits (s.entryOfLane (8 * e + i)) 38 36) (3 * i + 2) (3 * i))).sum))

/-- TBL_EM_SEED and ACCT_COEF take the values that the serial number and the trims give (R154, R356). -/
def State.deriveSlice (s : State) (sl : Nat) : State :=
  [0, 1].foldl (fun s w => s.setReg (slicePg sl) (F.TBL_EM_SEED.at w) (Config.emSeed s.serial w)) s

def State.deriveAcct (s : State) (d : Nat) : State :=
  (List.range 12).foldl (fun s i => s.setReg (acctPg d) (F.ACCT_COEF.at i) (Config.coef (s.bootOf d).shadow.trims d i &&& 0xFFFF)) s

/-- The die's shadow is complete: its lanes take their board-table entries and its ports may run (R68, R94). -/
def State.shadowComplete (s : State) (d : Nat) : State :=
  let s := (List.range 512).foldl (fun s i => s.deriveLane (512 * d + i)) s
  let s := (List.range 64).foldl (fun s i => s.deriveEight (64 * d + i)) s
  let s := (s.bset (ringPg d) F.RING_ROLL_STATUS_SHADOW_DONE true).setBoot d { s.bootOf d with shadowDone := true }
  (List.range 512).foldl (fun s i => s.portPower (512 * d + i)) s

/-- A slice as the roll call leaves it: arrays cleared, the default graph with root 0, Paddle mode with cause BRINGUP
(R107, R474). -/
def State.rollSlice (s : State) (sl : Nat) (rows : Nat) : State :=
  let d := sliceDie sl
  let s := ((s.setTab sl SliceTab.cleared).deriveSlice sl).fset (slicePg sl) F.PRS_GRAPH_ROOT_ROOT 0
  let s := s.fset (csPg sl) F.CS_STATUS_SPARE_ROWS rows
  let a := s.acctOf d
  (s.setAcct d { a with bank := { a.bank with paddle := true } }).showStatus (slicePg sl) 3

/-- What the always-on block of a die has measured by the end of the roll call (R11, R439, R478). -/
def State.rollMeasure (s : State) (d : Nat) (r : RollReport) : State :=
  let s := (s.fset (aonPg d) F.AON_TEMP_READING r.temp.toNat).fset (aonPg d) F.AON_VCORE_MEASURED_MV r.mv.toNat
  s.wearMeasured d r.losses

/-- COX_BUDGET and COX_ALLOC of a die that no epoch has given a budget yet (R11: derived by the end of the roll call; the spec
gives no value of the first epoch, so each is a free value). -/
def State.rollBudget (s : State) (d : Nat) : State :=
  let (b, s) := s.draw 11
  let (a, s) := s.draw 30
  (s.setReg (coxPg d) F.COX_BUDGET_BUDGET_W.off (b.setWidth 32)).setReg (coxPg d) F.COX_ALLOC_COMPUTE_W.off (a.setWidth 32)

/-- R64-R67: the walk of a die completes. -/
def execRollCallDone (d : Die) (report : RollReport) (s : State) : Res :=
  let d := d.val
  .next (if !s.dieUp d || s.rolled d then s else
    let engines (sl : Nat) : List Nat := report.failed.filterMap (fun x =>
      if x.1 = Kind.engine.code ∧ x.2 / 17 = sl then some (x.2 % 17) else none)
    let others : List Page := report.failed.filterMap (fun x =>
      (Kind.ofCode x.1).bind (fun k => if k ≠ .engine ∧ x.2 < k.count ∧ (⟨k, x.2⟩ : Page).die = d then some ⟨k, x.2⟩ else none))
    let s := (List.range 8).foldl (fun s i => s.rollSlice (8 * d + i) ((report.rows.getD i 0).toNat)) s
    let seats := (List.range 8).foldl (fun (x : Nat × Nat × Nat × State) i =>
      let sl := 8 * d + i
      let (left, use, s) := x.2.2.2.seatEngines sl (engines sl)
      (x.1 + left, x.2.1 + use.toNat, x.2.2.1 + (engines sl).eraseDups.length, s)) (0, 0, 0, s)
    let s := others.eraseDups.foldl (fun s p => { s.showStatus p 1 with failed := (s.showStatus p 1).failed.set false (p.key 0) true })
      seats.2.2.2
    let rg := ringPg d
    let s := s.fset rg F.RING_ROLL_COUNTS_FAILED (seats.2.2.1 + others.eraseDups.length)
    let s := (s.fset rg F.RING_ROLL_COUNTS_SUBSTITUTED seats.2.1).fset rg F.RING_ROLL_COUNTS_UNFILLED seats.1
    let used := min (min 128 report.banks) (4 - report.spareBanks)
    let s := s.fset (bufPg d) F.BUF_BANKS_IN_SERVICE (128 - min 128 report.banks + used)
    let s := (s.fset (bufPg d) F.BUF_BANKS_SPARES_USED used).deriveAcct d
    let s := s.bset (keelPg d) F.KEEL_STATUS_PEER_PRESENT (s.dieUp (1 - d))
    let s := if d = 1 then (s.bset (timePg 1) F.TIME_LOCK_STATE_FOLLOW true).fset (timePg 1) F.TIME_LOCK_STATE_STATE lkAcquire else s
    let s := (s.fset rg F.RING_ROLL_STATUS_DURATION report.micros.toNat).bset rg F.RING_ROLL_STATUS_DONE true
    let s := ((s.setBoot d { s.bootOf d with rolled := true }).rollMeasure d report).rollBudget d
    if d = 0 then s.shadowComplete 0 else s)

/-! ### The stern shadow (R68, R69) -/

/-- R68: the second part of the stern shadow has arrived. -/
def execShadowDone (s : State) : Res :=
  .next (if s.rolled 1 && !(s.bootOf 1).shadowDone then s.shadowComplete 1 else s)

/-- R69: 1,000 µs without the first part: the stern die holds itself in reset. -/
def execShadowFirstPartTimeout (s : State) : Res :=
  .next (if !s.dieUp 1 || s.rolled 1 then s else
    let s := (s.resetDie 1).setBoot 1 { held := true }
    let s := s.bset (ringPg 1) F.RING_ROLL_STATUS_SHADOW_FAIL true
    s.bset (ringPg 0) F.RING_ROLL_STATUS_PEER_FAIL true)

/-- R69: 5,000 µs without the second part: default board-table entries and design-typical trims. -/
def execShadowSecondPartTimeout (s : State) : Res :=
  .next (if !s.rolled 1 || (s.bootOf 1).shadowDone then s else
    let b := s.bootOf 1
    let s := s.setBoot 1 { b with shadow := { b.shadow with gen := none, board := [], trims := [] } }
    let s := s.bset (ringPg 1) F.RING_ROLL_STATUS_SHADOW_FAIL true
    (s.bset (ringPg 0) F.RING_ROLL_STATUS_PEER_FAIL true).shadowComplete 1)

end Sys2Proof.Machine
end

