-- ==== Sys2Proof/Machine/TableCmd.lean ====
section
/-!
DEFINITION. Host commands on the hash tables, the LPM tries, the parse-graph memories and the stage configuration
(04 R103-R105, R115; 05 R141-R142, R151-R157).
-/
namespace Sys2Proof.Machine

/-! ### Parse-graph memories (R103, R105) -/

/-- PRS_MEM_ADDR with OP write or read. -/
def State.prsMem (s : State) (sl : Nat) (write : Bool) (val : Word) : State :=
  let pg := slicePg sl
  let s := s.putRw pg F.PRS_MEM_ADDR.off val
  let i := F.PRS_MEM_ADDR_INDEX.of val
  let t := s.tab sl
  match write, F.PRS_MEM_ADDR_SPACE.of val with
  | true, 0 => s.setTab sl { t with node := t.node.set 0 i (BitVec.ofNat 128 (s.words pg F.PRS_MEM_DATA 4)) }
  | true, _ => s.setTab sl { t with trans := t.trans.set 0 i (BitVec.ofNat 64 (s.words pg F.PRS_MEM_DATA 2)) }
  | false, 0 => s.setWords pg F.PRS_MEM_DATA 4 (t.node.get 0 i).toNat
  | false, _ => s.setWords pg F.PRS_MEM_DATA 2 (t.trans.get 0 i).toNat

def execPrsMemWrite (src : Source) (page : PageIdx) (val : Word) (s : State) : Res :=
  .next (s.accessKind src page .slice (F.PRS_MEM_ADDR.cmd 1 val) (fun p s => s.prsMem p.n true val))

def execPrsMemRead (src : Source) (page : PageIdx) (val : Word) (s : State) : Res :=
  .next (s.accessKind src page .slice (F.PRS_MEM_ADDR.cmd 2 val) (fun p s => s.prsMem p.n false val))

/-! ### Tenant map (R115) -/

/-- The key in PRS_TMAP_KEY_LO and KEY_HI. -/
def State.tmapKey (s : State) (sl : Nat) : HashKey :=
  let pg := slicePg sl
  keyTmap (s.flag pg F.PRS_TMAP_KEY_HI_KIND) (s.flag pg F.PRS_TMAP_KEY_HI_ANY) (s.fget pg F.PRS_TMAP_KEY_HI_PORT)
    (s.fget pg F.PRS_TMAP_KEY_LO_VALUE)

/-- The entry that an INSERT writes, laid out as in R165. -/
def State.tmapEntry (s : State) (sl : Nat) : BitVec 128 :=
  let pg := slicePg sl
  BitVec.ofNat 128 (2 ^ 63 + fieldAt (s.fget pg F.PRS_TMAP_KEY_HI_ANY) 62 62 + fieldAt (s.fget pg F.PRS_TMAP_KEY_HI_KIND) 61 61 +
    fieldAt (s.fget pg F.PRS_TMAP_KEY_HI_PORT) 60 51 + fieldAt (s.fget pg F.PRS_TMAP_KEY_LO_VALUE) 50 27 +
    fieldAt (s.fget pg F.PRS_TMAP_RESULT_TENANT) 26 13)

/-- Close a tenant-map command: STATUS, and BUSY until TMAP_CMD_DONE. -/
def State.tmapStatus (s : State) (sl st : Nat) : State :=
  (s.fset (slicePg sl) F.PRS_TMAP_CMD_STATUS st).bset (slicePg sl) F.PRS_TMAP_CMD_BUSY true

def State.tmapInsert (s : State) (sl : Nat) (val : Word) : State :=
  let s := s.putRw (slicePg sl) F.PRS_TMAP_CMD.off val
  match s.hashInsert .tmap sl (s.tmapKey sl) [s.tmapEntry sl] with
  | (.ok _, s) => s.tmapStatus sl 0
  | (.full, s) => s.tmapStatus sl 2

def State.tmapDelete (s : State) (sl : Nat) (val : Word) : State :=
  let s := s.putRw (slicePg sl) F.PRS_TMAP_CMD.off val
  let r := s.hashDelete .tmap sl (s.tmapKey sl)
  r.2.tmapStatus sl (if r.1 then 0 else 1)

def State.tmapLookup (s : State) (sl : Nat) (val : Word) : State :=
  let s := s.putRw (slicePg sl) F.PRS_TMAP_CMD.off val
  match s.hashFind .tmap sl (s.tmapKey sl) with
  | none => s.tmapStatus sl 1
  | some i => (s.fset (slicePg sl) F.PRS_TMAP_RESULT_TENANT
      (bits ((s.tab sl).tmap.get 0 i).toNat 26 13)).tmapStatus sl 0

def execTmapInsert (src : Source) (page : PageIdx) (val : Word) (s : State) : Res :=
  .next (s.accessKind src page .slice (F.PRS_TMAP_CMD.cmd 1 val) (fun p s => s.tmapInsert p.n val))

def execTmapDelete (src : Source) (page : PageIdx) (val : Word) (s : State) : Res :=
  .next (s.accessKind src page .slice (F.PRS_TMAP_CMD.cmd 2 val) (fun p s => s.tmapDelete p.n val))

def execTmapLookup (src : Source) (page : PageIdx) (val : Word) (s : State) : Res :=
  .next (s.accessKind src page .slice (F.PRS_TMAP_CMD.cmd 3 val) (fun p s => s.tmapLookup p.n val))

def execTmapCmdDone (sl : Slice) (s : State) : Res := s.ifOperates (slicePg sl.val) (s.bset (slicePg sl.val) F.PRS_TMAP_CMD_BUSY false)

/-! ### Exact match (R151-R154) -/

/-- The key that an exact-match command names; none when KIND names half of a pair with V6 = 0. -/
def State.emCmdKey (s : State) (sl : Nat) : Option HashKey :=
  let pg := slicePg sl
  let e := s.words pg F.TBL_EM_DATA 4
  if s.flag pg F.TBL_EM_CMD_V6 then some (keyV6 (s.fget pg F.TBL_EM_DATA4_VRF) e)
  else if bits e 126 125 ≤ 1 then some ⟨66, bits e 126 125 * 2 ^ 64 + bits e 119 56, 1⟩ else none

/-- The entries that a host INSERT writes: as the DATA registers give them, VALID included, with PINNED, LEARNED and AGE zero (R154).
DESIGN CHOICE: R154 writes LEARNED as zero on every host INSERT, where R175 has it cleared unless the host writes it; R154, which
owns the command, is followed. -/
def State.emCmdEntries (s : State) (sl : Nat) : List (BitVec 128) :=
  let pg := slicePg sl
  let e := s.words pg F.TBL_EM_DATA 4
  if s.flag pg F.TBL_EM_CMD_V6 then
    pairEntries (128 * s.fget pg F.TBL_EM_DATA4_VALID + 16 * s.fget pg F.TBL_EM_DATA4_STATIC) (s.fget pg F.TBL_EM_DATA4_VRF) e
      (fieldAt (s.fget pg F.TBL_EM_DATA5_DEST_KIND) 55 54 + fieldAt (s.fget pg F.TBL_EM_DATA5_DEST) 53 38 +
        fieldAt (s.fget pg F.TBL_EM_DATA5_DEST_TENANT) 37 24 + fieldAt (s.fget pg F.TBL_EM_DATA6_ACTION) 23 12)
  else [BitVec.ofNat 128 (putBits (putBits e 123 122 0) 121 120 0)]

/-- Close an exact-match command. -/
def State.emStatus (s : State) (sl st i : Nat) : State :=
  let pg := slicePg sl
  ((s.fset pg F.TBL_EM_CMD_STATUS st).fset pg F.TBL_EM_CMD_INDEX i).bset pg F.TBL_EM_CMD_BUSY true

def State.emInsert (s : State) (sl : Nat) (val : Word) : State :=
  let s := s.putRw (slicePg sl) F.TBL_EM_CMD.off val
  match s.emCmdKey sl with
  | none => s.emStatus sl 1 0
  | some k =>
    match s.hashInsert .em sl k (s.emCmdEntries sl) with
    | (.ok i, s) => s.emStatus sl 0 i
    | (.full, s) => (s.emStatus sl 2 0).raise (slicePg sl) 10

def State.emDelete (s : State) (sl : Nat) (val : Word) : State :=
  let s := s.putRw (slicePg sl) F.TBL_EM_CMD.off val
  match (s.emCmdKey sl).bind (fun k => (s.hashFind .em sl k).map (fun i => (k, i))) with
  | none => s.emStatus sl 1 0
  | some (k, i) => (s.hashDelete .em sl k).2.emStatus sl 0 i

/-- A LOOKUP returns the entry; with V6 = 0 DATA4 to DATA6 are set to zero (R154). -/
def State.emLookup (s : State) (sl : Nat) (val : Word) : State :=
  let pg := slicePg sl
  let s := s.putRw pg F.TBL_EM_CMD.off val
  let v6 := s.flag pg F.TBL_EM_CMD_V6
  let found := (s.emCmdKey sl).bind (fun k => s.hashFind .em sl k)
  let s := if v6 then s else ((s.setReg pg F.TBL_EM_DATA4.off 0).setReg pg F.TBL_EM_DATA5.off 0).setReg pg F.TBL_EM_DATA6.off 0
  match found with
  | none => s.emStatus sl 1 0
  | some i =>
    let e := ((s.tab sl).em.get 0 i).toNat
    let s :=
      if v6 then
        let s := (((s.fset pg F.TBL_EM_DATA4_VALID 1).fset pg F.TBL_EM_DATA4_STATIC (bits e 124 124)).fset pg
          F.TBL_EM_DATA4_PINNED (bits e 123 123)).fset pg F.TBL_EM_DATA4_LEARNED (bits e 122 122)
        let s := (s.fset pg F.TBL_EM_DATA4_AGE (bits e 121 120)).fset pg F.TBL_EM_DATA5_DEST_KIND (bits e 55 54)
        ((s.fset pg F.TBL_EM_DATA5_DEST (bits e 53 38)).fset pg F.TBL_EM_DATA5_DEST_TENANT (bits e 37 24)).fset pg
          F.TBL_EM_DATA6_ACTION (bits e 23 12)
      else s.setWords pg F.TBL_EM_DATA 4 e
    s.emStatus sl 0 i

def execEmInsert (src : Source) (page : PageIdx) (val : Word) (s : State) : Res :=
  .next (s.accessKind src page .slice (F.TBL_EM_CMD.cmd 1 val) (fun p s => s.emInsert p.n val))

def execEmDelete (src : Source) (page : PageIdx) (val : Word) (s : State) : Res :=
  .next (s.accessKind src page .slice (F.TBL_EM_CMD.cmd 2 val) (fun p s => s.emDelete p.n val))

def execEmLookup (src : Source) (page : PageIdx) (val : Word) (s : State) : Res :=
  .next (s.accessKind src page .slice (F.TBL_EM_CMD.cmd 3 val) (fun p s => s.emLookup p.n val))

def execEmCmdDone (sl : Slice) (s : State) : Res := s.ifOperates (slicePg sl.val) (s.bset (slicePg sl.val) F.TBL_EM_CMD_BUSY false)

/-- A write of a way seed is refused while the copy holds a valid entry hashed with it (R154). -/
def State.emSeedWrite (s : State) (sl w : Nat) (val : Word) : State :=
  let t := s.tab sl
  if t.em.any (fun e => e.2.getLsbD 127) || t.tmap.any (fun e => e.2.getLsbD 63) then s.errCount (slicePg sl)
  else s.setReg (slicePg sl) (F.TBL_EM_SEED.at w) val

def execEmSeedWrite (src : Source) (page : PageIdx) (w : Fin 2) (val : Word) (s : State) : Res :=
  .next (s.accessKind src page .slice (F.TBL_EM_SEED.wr val w.val) (fun p s => s.emSeedWrite p.n w.val val))

/-! ### LPM (R155-R157) -/

/-- The family, length and address that an LPM command names; a reserved length above the family's stands for its
largest. -/
def State.lpmCmdArgs (s : State) (sl : Nat) : Bool × Nat × Nat :=
  let pg := slicePg sl
  let v6 := s.flag pg F.TBL_LPM_CMD_FAMILY
  (v6, min (lpmWidth v6) (s.fget pg F.TBL_LPM_CMD_LEN), s.words pg F.TBL_LPM_PREFIX (if v6 then 4 else 1))

def State.lpmStatus (s : State) (sl st lvl : Nat) : State :=
  let pg := slicePg sl
  ((s.fset pg F.TBL_LPM_CMD_STATUS st).fset pg F.TBL_LPM_CMD_FULL_LEVEL lvl).bset pg F.TBL_LPM_CMD_BUSY true

def State.lpmInsertCmd (s : State) (sl : Nat) (val : Word) : State :=
  let s := s.putRw (slicePg sl) F.TBL_LPM_CMD.off val
  let (v6, len, addr) := s.lpmCmdArgs sl
  match s.lpmInsert sl v6 len addr ((s.reg (slicePg sl) F.TBL_LPM_RESULT.off).setWidth 18) with
  | (.fits, s) => s.lpmStatus sl 0 0
  | (.fullResult, s) => (s.lpmStatus sl 2 0).raise (slicePg sl) 11
  | (.fullNode i, s) => (s.lpmStatus sl 3 i).raise (slicePg sl) 11

def State.lpmDeleteCmd (s : State) (sl : Nat) (val : Word) : State :=
  let s := s.putRw (slicePg sl) F.TBL_LPM_CMD.off val
  let (v6, len, addr) := s.lpmCmdArgs sl
  let r := s.lpmDelete sl v6 len addr
  r.2.lpmStatus sl (if r.1 then 0 else 1) 0

def State.lpmLookupCmd (s : State) (sl : Nat) (val : Word) : State :=
  let pg := slicePg sl
  let s := s.putRw pg F.TBL_LPM_CMD.off val
  let (v6, _, addr) := s.lpmCmdArgs sl
  match lpmFind ((s.tab sl).lpm v6) v6 addr with
  | none => s.lpmStatus sl 1 0
  | some (len, res) =>
    ((s.setReg pg F.TBL_LPM_RESULT.off (res.setWidth 32)).fset pg F.TBL_LPM_CMD_LEN len).lpmStatus sl 0 0

def execLpmInsert (src : Source) (page : PageIdx) (val : Word) (s : State) : Res :=
  .next (s.accessKind src page .slice (F.TBL_LPM_CMD.cmd 1 val) (fun p s => s.lpmInsertCmd p.n val))

def execLpmDelete (src : Source) (page : PageIdx) (val : Word) (s : State) : Res :=
  .next (s.accessKind src page .slice (F.TBL_LPM_CMD.cmd 2 val) (fun p s => s.lpmDeleteCmd p.n val))

def execLpmLookup (src : Source) (page : PageIdx) (val : Word) (s : State) : Res :=
  .next (s.accessKind src page .slice (F.TBL_LPM_CMD.cmd 3 val) (fun p s => s.lpmLookupCmd p.n val))

def execLpmCmdDone (sl : Slice) (s : State) : Res := s.ifOperates (slicePg sl.val) (s.bset (slicePg sl.val) F.TBL_LPM_CMD_BUSY false)

/-! ### Stage configuration (R141, R142) -/

/-- The stage configurations of a slice with stage `n` given the word `v`. -/
def State.stagesWith (s : State) (sl n : Nat) (v : Nat) : List Nat :=
  (List.range 24).map (fun i => if i = n then v else (s.reg (slicePg sl) (F.TBL_STAGE_CFG.at i)).toNat)

/-- Is a set of stage configurations within the limits of R142? -/
def stagesOk (l : List Nat) : Bool :=
  let kind (i : Nat) := bits (l.getD i 0) 31 28
  let ing := List.range 16
  let egr := (List.range 8).map (16 + ·)
  decide (ing.countP (fun i => kind i = 1) ≤ 2) && decide (egr.countP (fun i => kind i = 1) ≤ 1) &&
  decide (ing.countP (fun i => kind i = 2) ≤ 1) && decide (ing.countP (fun i => kind i = 3) ≤ 1) &&
  egr.all (fun i => kind i ≠ 2 && kind i ≠ 3) &&
  ing.all (fun i => !(kind i = 2 && decide (i > 13)) && !(kind i = 3 && decide (i > 8))) &&
  (List.range 24).all (fun i => !bit (l.getD i 0) 23 ||
    (decide (i < 16) && kind i = 1 && bits (l.getD i 0) 27 24 = 1)) &&
  ing.all (fun i => bits (l.getD i 0) 27 24 ≠ 8)

def State.stageCfgWrite (s : State) (sl n : Nat) (val : Word) : State :=
  if stagesOk (s.stagesWith sl n val.toNat) then s.putRw (slicePg sl) (F.TBL_STAGE_CFG.at n) val
  else s.errCount (slicePg sl)

def execStageCfgWrite (src : Source) (page : PageIdx) (n : Fin 24) (val : Word) (s : State) : Res :=
  .next (s.accessKind src page .slice (F.TBL_STAGE_CFG.wr val n.val) (fun p s => s.stageCfgWrite p.n n.val val))

end Sys2Proof.Machine
end

