-- ==== Sys2Proof/Machine/Access.lean ====
section
/-!
DEFINITION. What a write does to one register of one unit, by the unit's kind: the registers that act when they are written,
and every other one by the access codes of its bits (01 R9, R10).
-/
namespace Sys2Proof.Machine

/-- What a write of element `i` of a register array does. -/
abbrev WriteFn := Nat → Word → State → State

/-- Registers that act when they are written: the first element, how many there are, and the effect. -/
abbrev WriteFns := List (Fld × Nat × WriteFn)

/-- The element of an array that lies at an offset. -/
def Fld.index (f : Fld) (count off : Nat) : Option Nat := (List.range count).find? (fun i => f.at i = off)

/-- A write by the access codes of the register's bits (R9). -/
def State.plainWrite (s : State) (p : Page) (off : Nat) (val : Word) : State :=
  match p.kind.reg? off with
  | none => s
  | some r =>
    let rw := BitVec.ofNat 32 (r.rw ||| r.rwl)
    let cur := s.reg p off
    s.setReg p off ((((cur &&& ~~~rw) ||| (val &&& rw)) &&& ~~~(val &&& BitVec.ofNat 32 r.w1c)) |||
      (val &&& BitVec.ofNat 32 r.w1s))

/-- A command register: the effect by its OP field, and a plain write where OP names none. -/
def State.byOp (s : State) (p : Page) (off : Nat) (val : Word) (op : Nat) (fs : List (Nat × (State → State))) : State :=
  match fs.find? (fun f => f.1 = op) with
  | some f => f.2 s
  | none => s.plainWrite p off val

/-! ### Ports and slices -/

/-- GATE_ADMIN registers are refused while a change is pending (R274). -/
def State.gateAdmin (s : State) (p : Page) (off : Nat) (val : Word) : State :=
  if s.flag p F.GATE_STATUS_PENDING then s.gateRefuse p.n 2 else s.plainWrite p off val

/-- The writes of the registers of a port that do more than hold what is written. A new BURST adds no credit from before it (R262). -/
def portWrites (p : Page) : WriteFns :=
  let burst (f : Fld) (n : Nat) : Fld × Nat × WriteFn :=
    let g : Fld := { f with off := f.off + 4 }
    (g, n, fun i v s => (s.adjustV p.n).plainWrite p (g.at i) v)
  let admin (f : Fld) : Fld × Nat × WriteFn := (f, 1, fun _ v s => s.gateAdmin p f.off v)
  [ (F.SCH_QUEUE_CFG, 16, fun i v s => s.schReg p (.queue (Fin.ofNat 16 i)) v),
    (F.SCH_GROUP_CFG, 4, fun i v s => s.schReg p (.group (Fin.ofNat 4 i)) v),
    (F.SCH_QUEUE_SHAPE_RATE, 16, fun i v s => s.rateWrite p i v),
    (F.SCH_GROUP_SHAPE_RATE, 4, fun i v s => s.rateWrite p (16 + i) v),
    (F.SCH_PORT_SHAPE_RATE, 1, fun _ v s => s.rateWrite p 20 v),
    burst F.SCH_QUEUE_SHAPE_RATE 16, burst F.SCH_GROUP_SHAPE_RATE 4, burst F.SCH_PORT_SHAPE_RATE 1,
    (F.GATE_CTRL, 1, fun _ v s =>
      if F.GATE_CTRL_CHANGE.of v = 1 then (s.putRw p F.GATE_CTRL.off v).gateChange p.n else s.plainWrite p F.GATE_CTRL.off v),
    admin F.GATE_ADMIN_CYCLE, admin F.GATE_ADMIN_EXT, admin F.GATE_ADMIN_LEN, admin F.GATE_ADMIN_BASE_NS,
    admin F.GATE_ADMIN_BASE_SEC_LO, admin F.GATE_ADMIN_BASE_SEC_HI,
    (F.GATE_LIST_ADDR, 1, fun _ v s => s.byOp p F.GATE_LIST_ADDR.off v (bits v.toNat 31 30)
      [(1, fun s => s.gateListWrite p v), (2, fun s => s.gateListRead p (1 - (s.portOf p.n).operBank).val v),
       (3, fun s => s.gateListRead p (s.portOf p.n).operBank.val v)]),
    (F.PORT_MM_CFG, 1, fun _ v s => s.mmCfg p v) ]

def sliceWrites (p : Page) : WriteFns :=
  let n := p.n
  let op2 (f : Fld) (fs : Word → List (Nat × (State → State))) : Fld × Nat × WriteFn :=
    (f, 1, fun _ v s => s.byOp p f.off v (bits v.toNat 31 30) (fs v))
  [ op2 F.PRS_MEM_ADDR (fun v => [(1, fun s => s.prsMem n true v), (2, fun s => s.prsMem n false v)]),
    op2 F.PRS_TMAP_CMD (fun v => [(1, fun s => s.tmapInsert n v), (2, fun s => s.tmapDelete n v), (3, fun s => s.tmapLookup n v)]),
    (F.TBL_TCAM_BLOCK_CFG, 16, fun i v s => s.blockCfgWrite n i v),
    (F.TBL_TCAM_ROW, 1, fun _ v s => s.byOp p F.TBL_TCAM_ROW.off v (bits v.toNat 31 29)
      [(1, fun s => s.rowValid n v false), (2, fun s => s.rowWrite n v), (3, fun s => s.rowValid n v true),
       (4, fun s => s.rowRead n v)]),
    (F.TBL_STAGE_CFG, 24, fun i v s => s.stageCfgWrite n i v),
    (F.TBL_EM_SEED, 2, fun i v s => s.emSeedWrite n i v),
    op2 F.TBL_EM_CMD (fun v => [(1, fun s => s.emInsert n v), (2, fun s => s.emDelete n v), (3, fun s => s.emLookup n v)]),
    op2 F.TBL_LPM_CMD (fun v => [(1, fun s => s.lpmInsertCmd n v), (2, fun s => s.lpmDeleteCmd n v),
      (3, fun s => s.lpmLookupCmd n v)]),
    op2 F.TBL_IDX_CMD (fun v => [(1, fun s => s.idxCmd n true v), (2, fun s => s.idxCmd n false v)]),
    (F.TBL_ACCESS_LOCK, 1, fun _ v s => s.lockWrite n v),
    op2 F.SCH_POL_ADDR (fun v => [(1, fun s => s.policerWrite p v), (2, fun s => s.policerRead p v),
      (3, fun s => s.policerReadClear p v)]),
    (F.SLICE_PADDLE_CTRL, 1, fun _ v s => s.paddleCtrl n v) ]

/-! ### Attached units -/

def clsWrites (p : Page) : WriteFns :=
  [ (F.CLS_CTRL, 1, fun _ v s => if v.getLsbD 31 then s.cacheFlush p v else s.plainWrite p F.CLS_CTRL.off v),
    (F.CLS_TT_ADDR, 1, fun _ v s => s.byOp p F.CLS_TT_ADDR.off v (bits v.toNat 31 30)
      [(1, fun s => s.ttCmd p.n true v), (2, fun s => s.ttCmd p.n false v)]),
    (F.CLS_TREE_ROOT0, 256, fun i v s => s.rootWrite p.n i 0 v),
    (F.CLS_TREE_ROOT1, 256, fun i v s => s.rootWrite p.n i 1 v),
    (F.CLS_TREE_CTRL, 256, fun i v s =>
      if v.getLsbD 31 then s.swapStart p.n i v else s.plainWrite p (F.CLS_TREE_CTRL.at i) v) ]

def qdrWrites (p : Page) : WriteFns :=
  [ (F.QDR_CMD, 1, fun _ v s => s.byOp p F.QDR_CMD.off v (bits v.toNat 31 30)
      [(1, fun s => s.qdrStart p.n true v), (2, fun s => s.qdrStart p.n false v)]) ]

def csWrites (p : Page) : WriteFns :=
  [ (F.CS_CTRL, 1, fun _ v s => s.csCtrlWrite p.n v),
    (F.CS_ADDR, 1, fun _ v s => s.byOp p F.CS_ADDR.off v (bits v.toNat 31 30)
      [(1, fun s => s.csWrite p.n v), (2, fun s => s.csRead p.n v)]),
    (F.CS_EVENT, 1, fun _ v s => if v.getLsbD 31 then s.eventGo p v else s.plainWrite p F.CS_EVENT.off v) ]

def bufWrites (p : Page) : WriteFns :=
  [ (F.BUF_SHARED_LIMIT, 1, fun _ v s => s.limitWrite p false v),
    (F.BUF_HEADROOM_LIMIT, 1, fun _ v s => s.limitWrite p true v),
    (F.BUF_HQ_CFG, 64, fun i v s => s.hqCfgWrite p i v),
    (F.BUF_MC_CMD, 1, fun _ v s => s.byOp p F.BUF_MC_CMD.off v (bits v.toNat 31 30)
      [(1, fun s => s.mcWrite p v), (2, fun s => s.mcRead p v)]) ]

/-- TIME_FREQ_INIT: in FREE the new rate is in force at once (R313). -/
def State.freqInit (s : State) (p : Page) (val : Word) : State :=
  let s := s.setReg p F.TIME_FREQ_INIT.off val
  if s.lockState p.n = lkFree then s.enterFree p.n else s

def timeWrites (p : Page) : WriteFns :=
  let own (f : WriteFn) : WriteFn := fun i v s => if s.follows p.n then s.errCount p else f i v s
  [ (F.TIME_CTRL, 1, fun _ v s => s.timeCtrl p v),
    (F.TIME_SET_CTRL, 1, fun _ v s => s.timeSetCtrl p v),
    (F.TIME_OFFSET_LO, 1, own (fun _ v s => s.plainWrite p F.TIME_OFFSET_LO.off v)),
    (F.TIME_OFFSET_HI, 1, fun _ v s => s.offsetSubmit p v),
    (F.TIME_FREQ_INIT, 1, own (fun _ v s => s.freqInit p v)),
    (F.TIME_CMP_CFG, 32, fun i v s => s.cmpArm p i v),
    (F.TIME_CMP_NS_NS, 32, fun i v s => (s.plainWrite p (F.TIME_CMP_NS_NS.at i) v).cmpBase p.n i),
    (F.TIME_CMP_SEC_LO, 32, fun i v s => (s.plainWrite p (F.TIME_CMP_SEC_LO.at i) v).cmpBase p.n i),
    (F.TIME_CMP_SEC_HI, 32, fun i v s => (s.plainWrite p (F.TIME_CMP_SEC_HI.at i) v).cmpBase p.n i) ]

/-- TEL_SEL_A: a selector whose EN is set counts its matches afresh (R342). -/
def State.telSel (s : State) (p : Page) (i : Nat) (val : Word) : State :=
  let was := s.flag p F.TEL_SEL_A_EN i
  let s := s.plainWrite p (F.TEL_SEL_A.at i) val
  if !was && decide (F.TEL_SEL_A_EN.of val = 1) then
    let t := s.telOf p.n
    s.setTel p.n { t with matched := t.matched.set 0 i 0 }
  else s

def telWrites (p : Page) : WriteFns :=
  [ (F.TEL_SEL_A, 16, fun i v s => s.telSel p i v),
    (F.TEL_COLL_CFG, 4, fun i v s => s.collCfg p i v) ]

def acctWrites (p : Page) : WriteFns :=
  [ (F.ACCT_CFG, 1, fun _ v s => s.acctCfg p v),
    (F.ACCT_WT_ADDR, 1, fun _ v s => s.weightCmd p v),
    (F.ACCT_LIVE_ADDR, 1, fun _ v s => s.liveRead p v) ]

def cipherWrites (p : Page) : WriteFns :=
  let raw (f : Fld) (n : Nat) : Fld × Nat × WriteFn := (f, n, fun i v s => s.setReg p (f.at i) v)
  [ (F.CU_KEY_CMD, 1, fun _ v s => s.byOp p F.CU_KEY_CMD.off v (bits v.toNat 31 30)
      [(1, fun s => s.keyWrite p.n v), (2, fun s => s.keyErase p.n v), (3, fun s => s.keyInfo p.n v)]),
    raw F.CU_KEY_DATA 8, raw F.CU_KEY_SALT 3, raw F.CU_KEY_SSCI 1 ]

def hifWrites (p : Page) : WriteFns :=
  let d := p.n
  [ (F.HQ_ENABLE, 32, fun i v s => s.hqEnable d i v),
    (⟨0x404, 4, 0, 32⟩, 11, fun i v s => s.ringReg d i v),
    (F.HQ_HBQ_MAP, 64, fun i v s => s.hbqMap p i v),
    (⟨0x704, 4, 0, 32⟩, 7, fun i v s => s.poolReg d i v) ]

def dtuWrites (p : Page) : WriteFns :=
  [ (F.DTU_INV_CMD, 1, fun _ v s => s.byOp p F.DTU_INV_CMD.off v (bits v.toNat 31 30)
      [(1, fun s => s.invAll p v), (2, fun s => s.invSpace p v), (3, fun s => s.invRange p v)]),
    (F.DTU_FAULT_CMD, 1, fun _ v s => s.byOp p F.DTU_FAULT_CMD.off v (bits v.toNat 31 30)
      [(1, fun s => s.faultCmd p.n (v.toNat % 64) false), (2, fun s => s.faultCmd p.n (v.toNat % 64) true)]) ]

/-- COX_BRAKE: while PWR_BRAKE_N is low the new settings are in force at once (R441). -/
def State.coxBrake (s : State) (p : Page) (val : Word) : State :=
  let s := s.plainWrite p F.COX_BRAKE.off val
  if !s.flag p F.COX_STATUS_BRAKE then s else
  let s := s.setDemands p.n rBrake (fun _ => s.fget p F.COX_BRAKE_RATING)
  let s := s.setCox p.n { s.coxOf p.n with
    brakeIssue := min 16 (s.fget p F.COX_BRAKE_ISSUE), brakeMem := min 16 (s.fget p F.COX_BRAKE_MEM) }
  (s.jumpRatings p.n).episodes p.n

def coxWrites (p : Page) : WriteFns :=
  [ (F.COX_CFG, 1, fun _ v s => s.coxCfg p v),
    (F.COX_CAP, 1, fun _ v s => s.coxCap p v),
    (F.COX_SLICE_CFG, 8, fun i v s => s.coxSlice p i v),
    (F.COX_BRAKE, 1, fun _ v s => s.coxBrake p v),
    (F.COX_CAL_CTRL, 1, fun _ v s => s.calCtrl p v) ]

/-- AON_SLEEP_CFG: HOLD_AWAKE written 1, and AUTO_SLEEP and SLEEP_REQ both 0, are wake causes (R427). -/
def State.sleepCfg (s : State) (p : Page) (val : Word) : State :=
  let s := s.plainWrite p F.AON_SLEEP_CFG.off val
  (List.range 8).foldl (fun s i => if s.maySleep (8 * p.n + i) then s else s.wakeCause (8 * p.n + i)) s

def aonWrites (p : Page) : WriteFns :=
  [ (F.AON_SLEEP_CFG, 1, fun _ v s => s.sleepCfg p v),
    (F.AON_WEAR_HOURS, 8, fun i v s => s.wearHours p (F.AON_WEAR_HOURS.at i) v),
    (F.AON_WEAR_CTRL, 1, fun _ v s => s.wearCtrl p v) ]

/-! ### Every kind -/

/-- The registers of a unit that act when they are written. -/
def Page.writes (p : Page) (src : Source) : WriteFns :=
  match p.kind with
  | .lane => [(F.LANE_RX_LIMIT, 1, fun _ v s => s.rxLimit p v)]
  | .eight => [(F.EIGHT_ARRANGE, 1, fun _ v s => s.arrangeWrite p F.EIGHT_ARRANGE.off v),
      (F.EIGHT_PAIR_RATE, 1, fun _ v s => s.arrangeWrite p F.EIGHT_PAIR_RATE.off v)]
  | .port => portWrites p
  | .slice => sliceWrites p
  | .die => [(F.DIE_WATCHDOG, 1, fun _ v s => s.watchdogWrite p v)]
  | .cls => clsWrites p
  | .qdr => qdrWrites p
  | .cs => csWrites p
  | .bufMgr => bufWrites p
  | .keel => [(F.KEEL_CTRL, 1, fun _ v s => s.keelCtrl p v), (F.KEEL_SUBLINK, 66, fun i v s => s.subDisable p i v)]
  | .timeU => timeWrites p
  | .tel => telWrites p
  | .acct => acctWrites p
  | .pmc => [(F.PMC_DUMP_CTRL, 1, fun _ v s => s.dumpCtrl p v)]
  | .cipher => cipherWrites p
  | .msec => [(F.MSEC_TBL_CMD, 1, fun _ v s => s.byOp p F.MSEC_TBL_CMD.off v (bits v.toNat 31 30)
      [(1, fun s => s.msecCmd p v), (2, fun s => s.msecCmd p v)])]
  | .hif => hifWrites p
  | .dtu => dtuWrites p
  | .cox => coxWrites p
  | .aon => aonWrites p
  | .otp => [(F.OTP_CMD, 1, fun _ v s => s.otpCmd src (bits v.toNat 31 29) (F.OTP_CMD_ADDR.of v))]
  | .device | .engine | .lrn | .ring => []

/-- PMC_SEL of the units that hold performance counters. -/
def Page.pmcWrites (p : Page) : WriteFns :=
  let f := pmcOff p.kind { F.PMC_SEL_EN with lo := 0, w := 32 }
  if (p.kind.reg? f.off).isSome then [(f, 8, fun i v s => s.pmcSel p i v)] else []

/-- A write of register `off` of a unit. -/
def State.writeUnit (s : State) (src : Source) (p : Page) (off : Nat) (val : Word) : State :=
  match (p.writes src ++ p.pmcWrites).findSome? (fun w => (w.1.index w.2.1 off).map (fun i => w.2.2 i)) with
  | some f => f val s
  | none => s.plainWrite p off val

/-! ### A write on a page -/

/-- Registers of the host interface page that lie in windows: doorbells, the MSI-X table and its pending bits (R391, R403). -/
def State.hifWindow (s : State) (d off : Nat) (val : Word) : Option State :=
  let v := val.toNat % 2 ^ 17
  if 0x1000 ≤ off ∧ off < 0x2000 then some (s.doorbell d ((off - 0x1000) / 4) v)
  else if 0x2000 ≤ off ∧ off < 0x2800 then some (s.cqDoorbell d ((off - 0x2000) / 4) v)
  else if 0x3000 ≤ off ∧ off < 0x3100 then some (s.poolDoorbell d ((off - 0x3000) / 4) v)
  else if 0x7F00 ≤ off ∧ off < 0x8000 then some s
  else if 0x8000 ≤ off then
    some (if off % 16 = 12 then s.vectorControl d ((off - 0x8000) / 16) (val.getLsbD 0) else s.setReg (hifPg d) off val)
  else none

/-- A write of a block register on a mapped page, which on a page of a group reaches every unit below it that holds the
register (R53). -/
def State.pageWrite (s : State) (src : Source) (on : Page) (off : Nat) (val : Word) : State :=
  match if on.kind = .hif then s.hifWindow on.n off val else none with
  | some s => s
  | none =>
    match s.targets on off with
    | [] => s.countUnmapped src
    | t :: ts =>
      match if t.kind = .port then F.BUF_QUEUE_CFG.index 16 off else none with
      | some q => s.queueCfgOn (t :: ts) q val
      | none => s.writeUnits src on t.kind off (t :: ts) val (fun t v s => s.writeUnit src t off v)

end Sys2Proof.Machine
end

