-- ==== Sys2Proof/Machine/Image.lean ====
section
/-!
DEFINITION. The image loader of a die: the header and section table, the records as they arrive, and the result
(17 R500, R506-R511).
-/
namespace Sys2Proof.Machine

/-! ### Results (R510) -/

def imgOk : Nat := 1
def imgFormat : Nat := 2
def imgSvn : Nat := 3
def imgKey : Nat := 4
def imgSignature : Nat := 5
def imgSection : Nat := 6
def imgNotReady : Nat := 7
def imgTooLarge : Nat := 8
def imgAborted : Nat := 9

def State.loader (s : State) (d : Nat) : Loader := (s.bootOf d).loader
def State.setLoader (s : State) (d : Nat) (l : Loader) : State := s.setBoot d { s.bootOf d with loader := l }

/-- Is a load in progress? -/
def State.imgBusy (s : State) (d : Nat) : Bool := s.flag (diePg d) F.DIE_IMG_STATUS_BUSY

/-- A load ends with a result; unless that is OK, the held records are discarded and every control store that it wrote is not
verified (R511). -/
def State.imgEnd (s : State) (d result : Nat) : State :=
  let s := if result = imgOk then s else
    (s.loader d).csWritten.foldl (fun s sl => s.bset (csPg sl) F.CS_STATUS_VERIFIED false) s
  let s := (s.fset (diePg d) F.DIE_IMG_STATUS_RESULT result).bset (diePg d) F.DIE_IMG_STATUS_BUSY false
  s.setLoader d {}

/-- START: ignored and counted while a load is in progress (R506). -/
def State.imgStart (s : State) (d : Nat) (src : Source) : State :=
  let pg := diePg d
  if s.imgBusy d then s.errCount pg else
  let s := (s.bset pg F.DIE_IMG_STATUS_BUSY true).fset pg F.DIE_IMG_STATUS_RESULT 0
  (s.setReg pg F.DIE_IMG_COUNT.off 0).setLoader d { src := src }

/-- ABORT (R506). -/
def State.imgAbort (s : State) (d : Nat) : State := if s.imgBusy d then s.imgEnd d imgAborted else s

/-! ### The header and the section table (R506, R509) -/

/-- Byte `i` on of the image, `n` bytes, least significant first. -/
def Loader.field (l : Loader) (i n : Nat) : Nat :=
  let w := l.words.reverse
  (List.range n).foldl (fun a k => a + bits ((w.getD ((i + k) / 4) 0).toNat) (8 * ((i + k) % 4) + 7) (8 * ((i + k) % 4)) * 2 ^ (8 * k)) 0

/-- The header's own fields follow R506. -/
def Loader.headerOk (l : Loader) : Bool :=
  decide (l.field 0 4 = 0x4F4C4E47 ∧ l.field 4 2 = 1 ∧ l.field 0x10 2 = 0x1024 ∧ 1 ≤ l.field 6 2 ∧ l.field 6 2 ≤ 64 ∧
    l.field 8 8 % 256 = 0 ∧ l.field 8 8 ≤ 2 ^ 32)

/-- Entry `i` of the section table. -/
def Loader.section (l : Loader) (i : Nat) : ImgSection :=
  let b := 0x100 + 32 * i
  { kind := l.field b 1, mask := l.field (b + 4) 2, off := l.field (b + 8) 8, len := l.field (b + 16) 8 }

/-- The entry's fields follow R506: zeros, kind, mask, and a place from `from_` on within the image. -/
def Loader.entryOk (l : Loader) (i from_ : Nat) : Bool :=
  let b := 0x100 + 32 * i
  let e := l.section i
  decide (l.field (b + 1) 3 = 0 ∧ l.field (b + 6) 2 = 0 ∧ l.field (b + 24) 8 = 0 ∧ 1 ≤ e.kind ∧ e.kind ≤ 4 ∧
    e.off % 256 = 0 ∧ e.len % 8 = 0 ∧ from_ ≤ e.off ∧ e.off + e.len ≤ l.field 8 8) &&
  decide (e.mask &&& l.field 0x12 2 = e.mask)

/-- The whole table follows R506. -/
def Loader.tableFits (l : Loader) : Bool :=
  let n := l.field 6 2
  ((List.range n).foldl (fun (r : Bool × Nat) i =>
    let e := l.section i
    (r.1 && l.entryOk i r.2, e.off + e.len)) (true, 0x100 + 32 * n)).1

/-- The slices of a die that a mask names. -/
def maskSlices (d mask : Nat) : List Nat := ((List.range 8).map (8 * d + ·)).filter (fun sl => mask.testBit sl)

/-- Are the slices that the header names ready for a load (R509)? -/
def State.imgReady (s : State) (d : Nat) : Bool :=
  (maskSlices d ((s.loader d).field 0x12 2)).all (fun sl => s.inPaddle sl && !s.flag (csPg sl) F.CS_CTRL_RUN)

/-- The header and the section table have been received. -/
def State.imgTable (s : State) (d : Nat) : State :=
  let l := s.loader d
  if !l.tableFits then s.imgEnd d imgFormat
  else if l.field 0x18 4 < (s.bootOf d).shadow.svn then s.imgEnd d imgSvn
  else if !s.imgReady d then s.imgEnd d imgNotReady
  else s.setLoader d { l with tableOk := true, sections := (List.range (l.field 6 2)).map l.section }

/-! ### Records (R507, R508) -/

/-- Words that one data unit of a target takes. -/
def imgUnit (target : Nat) : Nat := if target = 1 ∨ target = 3 then 8 else 1

/-- Words of a record's data with its padding. -/
def ImgRec.total (r : ImgRec) : Nat := let n := r.count * imgUnit r.target; n + n % 2

/-- May a section of this kind hold a record of this target, at these addresses (R508)? -/
def imgPermits (kind target addr count : Nat) : Bool :=
  let run (lo hi : Nat) : Bool := decide (addr % 4 = 0 ∧ (count = 0 ∨ (lo ≤ addr ∧ addr + 4 * (count - 1) ≤ hi)))
  match kind, target with
  | 1, 0 => run 0x500 0x9FC
  | 2, 0 => run 0x400 0x43C
  | 3, 1 => decide (addr + count ≤ 32768)
  | 4, 2 => run 0x1000 0x1FFC
  | 4, 3 => decide (addr % 2 ^ 23 + count ≤ 2 ^ 23)
  | _, _ => false

/-- Is a register write held for after verification (R508)? -/
def imgHolds (kind addr : Nat) : Bool := kind = 2 || (kind = 4 && (addr - 0x1000) % 16 = 8)

/-- A register write of the loader: it has the effect of the same host write on each unit that its section names. -/
def State.imgWrite (s : State) (d : Nat) (x : ImgHeld) : State :=
  let sl := maskSlices d x.mask
  let pages := if x.kind = 4 then (if sl.isEmpty then [] else [clsPg d]) else sl.map slicePg
  pages.foldl (fun s p => s.pageWrite (s.loader d).src p x.addr x.word) s

/-- The last data unit of 32 bytes, word 0 least significant. -/
def Loader.lastUnit (l : Loader) : BitVec 256 :=
  BitVec.ofNat 256 ((l.words.take 8).foldl (fun a w => a * 2 ^ 32 + w.toNat) 0)

/-- A unit of 32 bytes of a record is complete: a control-store word or a node. -/
def State.imgWide (s : State) (d : Nat) (r : ImgRec) (addr : Nat) : State :=
  let sl := maskSlices d r.mask
  let v := (s.loader d).lastUnit
  if r.target = 1 then
    sl.foldl (fun s n =>
      let took := !s.flag (csPg n) F.CS_CTRL_RUN
      let s := s.csStore n addr v
      if took then s.setLoader d { s.loader d with csWritten := n :: (s.loader d).csWritten } else s) s
  else if sl.isEmpty then s
  else s.setQdr (4 * d + bits addr 24 23) (bits addr 22 0) v

/-- A data word of a register record. -/
def State.imgNarrow (s : State) (d : Nat) (r : ImgRec) (w : Word) : State :=
  let addr := r.addr + 4 * r.seen
  let x : ImgHeld := ⟨r.kind, r.mask, addr, w⟩
  if r.kind = 1 ∧ addr = F.TBL_TCAM_ROW.off ∧ w.getLsbD 14 then s.imgEnd d imgSection
  else if imgHolds r.kind addr then
    let l := s.loader d
    let n := l.heldBytes + 4 + (if r.held then 0 else 8)
    if n > 256 * 1024 then s.imgEnd d imgTooLarge
    else s.setLoader d { l with held := l.held ++ [x], heldBytes := n }
  else s.imgWrite d x

/-- A word of a record's data. -/
def State.imgData (s : State) (d : Nat) (r : ImgRec) (w : Word) : State :=
  let next := { r with seen := r.seen + 1, held := r.held || (imgUnit r.target = 1 && imgHolds r.kind (r.addr + 4 * r.seen)) }
  let s := s.setLoader d { s.loader d with cur := if next.seen < r.total then some next else none }
  if imgUnit r.target = 1 then (if r.seen < r.count then s.imgNarrow d r w else s)
  else if r.seen % 8 = 7 then s.imgWide d r (r.addr + r.seen / 8)
  else s

/-- The head of a record: its two words, and the bytes of its section that are left after it. -/
def State.imgHead (s : State) (d : Nat) (e : ImgSection) (lo hi : Word) (left : Nat) : State :=
  let r : ImgRec := { kind := e.kind, mask := e.mask, target := bits hi.toNat 31 28, addr := bits hi.toNat 24 0, count := lo.toNat }
  if bits hi.toNat 27 25 ≠ 0 ∨ !imgPermits e.kind r.target r.addr r.count ∨ 4 * r.total > left then s.imgEnd d imgSection
  else s.setLoader d { s.loader d with low := none, cur := if r.total = 0 then none else some r }

/-- A word of a section at a byte position of the image. -/
def State.imgRecord (s : State) (d pos : Nat) (w : Word) : State :=
  let l := s.loader d
  match l.sections.find? (fun e => e.off ≤ pos && pos < e.off + e.len) with
  | none => s
  | some e =>
    match l.cur, l.low with
    | some r, _ => s.imgData d r w
    | none, none => s.setLoader d { l with low := some w }
    | none, some lo => s.imgHead d e lo w (e.off + e.len - (pos + 4))

/-- A write of DIE_IMG_DATA appends a word, least significant byte first; nothing is taken after IMAGE_LEN + 200 bytes
(R506). -/
def State.imgAppend (s : State) (d : Nat) (w : Word) : State :=
  let pg := diePg d
  if !s.imgBusy d then s.errCount pg else
  let l := s.loader d
  let pos := 4 * l.words.length
  if l.limit.any (fun n => n ≤ pos) then s else
  let s := s.setLoader d { l with words := w :: l.words }
  let s := s.setReg pg F.DIE_IMG_COUNT.off (BitVec.ofNat 32 (min 0xFFFFFFFF (pos + 4)))
  let l := s.loader d
  if pos + 4 < 0x100 then s
  else if pos + 4 = 0x100 then
    (if l.headerOk then s.setLoader d { l with limit := some (l.field 8 8 + 200) } else s.imgEnd d imgFormat)
  else if l.tableOk then s.imgRecord d pos w
  else if pos + 4 = 0x100 + 32 * l.field 6 2 then s.imgTable d
  else s

/-! ### The result (R500, R510, R511) -/

/-- What verification finds once the signature block has been received. -/
def State.imgVerify (s : State) (d : Nat) : Nat :=
  let l := s.loader d
  let sh := (s.bootOf d).shadow
  let n := l.field 8 8
  let image := l.words.reverse.flatMap (fun w => leBytes 4 w.toNat)
  let block := image.drop n
  let stored := sh.rootHash.flatMap (fun w => leBytes 4 w.toNat)
  if sh.rootBad || (sh.rootLocked && decide (sha384 (block.take 97) ≠ stored)) then imgKey
  else if block.head? = some 4 ∧ ecdsaOk (slice block 1 96) (sha384 (image.take n)) (slice block 104 96) then imgOk
  else imgSignature

/-- An image is accepted: the held records are applied, and the control stores it named are verified (R511). -/
def State.imgAccept (s : State) (d : Nat) : State :=
  let l := s.loader d
  let version := BitVec.ofNat 32 (l.field 0x14 4)
  let s := l.held.foldl (fun s x => s.imgWrite d x) s
  let named := ((l.sections.filter (fun e => e.kind = 3)).flatMap (fun e => maskSlices d e.mask)).eraseDups
  let s := named.foldl (fun s sl =>
    ((s.setReg (csPg sl) F.CS_VERSION.off version).bset (csPg sl) F.CS_STATUS_VERIFIED true).bset (csPg sl)
      F.CS_STATUS_UNCORR false) s
  let s := s.setReg (diePg d) F.DIE_IMG_VERSION.off version
  (s.bset (diePg d) F.DIE_IMG_STATUS_UNROOTED (!(s.bootOf d).shadow.rootLocked)).imgEnd d imgOk

/-- R510: the loader of a die reaches its result. -/
def execImageVerifyDone (d : Die) (s : State) : Res :=
  let d := d.val
  let l := s.loader d
  .next (if s.imgBusy d && l.limit.any (fun n => n ≤ 4 * l.words.length) then
    (match s.imgVerify d with
    | 1 => s.imgAccept d
    | r => s.imgEnd d r)
  else s)

/-- R506: START. -/
def execImageStart (src : Source) (page : PageIdx) (s : State) : Res :=
  .next (s.accessKind src page .die (F.DIE_IMG_CTRL.wr 0x80000000) (fun p s => s.imgStart p.n src))

/-- R506: ABORT. -/
def execImageAbort (src : Source) (page : PageIdx) (s : State) : Res :=
  .next (s.accessKind src page .die (F.DIE_IMG_CTRL.wr 0x40000000) (fun p s => s.imgAbort p.n))

/-- R506-R509: a word of the image. -/
def execImageDataWrite (src : Source) (page : PageIdx) (off : Fin 4096) (val : Word) (s : State) : Res :=
  .next (s.accessKind src page .die (F.DIE_IMG_DATA.wr val off.val) (fun p s => s.imgAppend p.n val))

end Sys2Proof.Machine
end

