-- ==== Sys2Proof/Machine/Register.lean ====
section
/-!
DEFINITION. Accesses to pages: page locks, unit reset, what each register reads as, and the general write and read commands
of the host and of the I3C target (01 R7-R12; 02 R40, R47-R60, R73).
-/
namespace Sys2Proof.Machine

/-! ### Locks (R56-R58) -/

/-- ACQUIRE (R56, R57). -/
def State.lockAcquire (s : State) (src : Source) (p : Page) (token : BitVec 16) : State :=
  if token = 0 then s.errCount p
  else if s.heldLocks.any (fun x => x.2.src ≠ src && (s.inLineage x.1 p || s.inLineage p x.1)) then s
  else s.setLock p (some ⟨src, token⟩)

/-- RELEASE (R57). -/
def State.lockRelease (s : State) (src : Source) (p : Page) (token : BitVec 16) : State :=
  if s.lockOf p = some ⟨src, token⟩ then s.setLock p none else s.errCount p

/-- Is a page mapped for a source (R40, R41, R45, R60, R73)? -/
def State.mapsPage (s : State) (src : Source) (p : Page) : Bool :=
  match p.kind with
  | .device => p.n = s.devInst src.die
  | .keel | .cox => p.n = src.die
  | _ => s.mapsDie src p

/-- FORCE (R58). -/
def State.lockForce (s : State) (src : Source) (p : Page) : State :=
  if p.kind ≠ .device then s.errCount p
  else (s.heldLocks.filter (fun x => s.mapsPage src x.1)).foldl (fun s x => s.setLock x.1 none) s

/-- A write of PAGE_LOCK. -/
def State.lockOp (s : State) (src : Source) (p : Page) (val : Word) : State :=
  let token := val.setWidth 16
  match bits val.toNat 31 30 with
  | 1 => s.lockAcquire src p token
  | 2 => s.lockRelease src p token
  | 3 => s.lockForce src p
  | _ => s

/-- A write of PAGE_LOCK. -/
def lockCmd (op : Nat) (token : BitVec 16) : RegWord := (0x24, some (BitVec.ofNat 32 (2 ^ 30 * op + token.toNat)))

/-- R56: ACQUIRE. -/
def execLockAcquire (src : Source) (page : PageIdx) (token : BitVec 16) (s : State) : Res :=
  .next (s.access src page (lockCmd 1 token) (fun p s => s.lockAcquire src p token))

/-- R57: RELEASE. -/
def execLockRelease (src : Source) (page : PageIdx) (token : BitVec 16) (s : State) : Res :=
  .next (s.access src page (lockCmd 2 token) (fun p s => s.lockRelease src p token))

/-- R58: FORCE. -/
def execLockForce (src : Source) (page : PageIdx) (s : State) : Res :=
  .next (s.access src page (lockCmd 3 0) (fun p s => s.lockForce src p))

/-! ### Unit reset (R51) -/

/-- A page and the pages below it in the port tree. Attached units are not below it (DESIGN CHOICE: R51 does not say whether they
are; R48 gives the tree of lanes, ports, eights, slices and dies). -/
def State.subtree (s : State) (p : Page) : List Page :=
  match p.kind with
  | .slice => p :: (p.below false 3 2 ++ p.below false 3 1 ++ p.below false 3 0)
  | .eight => p :: (p.below false 2 1 ++ p.below false 2 0)
  | .port => p :: s.treeChildren p
  | _ => [p]

/-- Offsets of registers that a unit reset leaves, by kind, each as first and past-the-last: registers with no stated reset value
that report what the roll call, the keel or the unit's surroundings give (R11), and those of work that goes on through the reset.
Every other register takes its stated reset value. -/
def Kind.live : Kind → List (Nat × Nat)
  | .ring => [(0x104, 0x108)]
  | .lane => []
  | .eight => [(0x10C, 0x110)]
  | .port => [(0x108, 0x10C), (0x400, 0x440)]
  | .bufMgr => [(0x120, 0x124)]
  | .keel => [(0x104, 0x10C), (0x200, 0x308)]
  | .hif => [(0x100, 0x104)]
  | .cox => [(0x10C, 0x114)]
  | .aon => [(0x108, 0x114), (0x11C, 0x120), (0x200, 0x234)]
  | .otp => [(0x10C, 0x118)]
  | _ => []

/-- Does a unit reset leave a register of a page? PAGE_PHYS, PAGE_STATUS, the outputs of the units below and PAGE_ERR_COUNT among
the header, and the registers above. -/
def Page.keptByReset (p : Page) (off : Nat) : Bool :=
  [0x0C, 0x10, 0x18, 0x20, 0x28].contains off || p.kind.live.any (fun r => decide (r.1 ≤ off ∧ off < r.2))

/-- The registers, latches, lock and causes of one page at their reset values. -/
def State.clearPage (s : State) (p : Page) : State :=
  let mine (k : Nat) : Bool := decide (keyKind k = p.kind.code ∧ keyNum k = p.n)
  let s := { s with
    regs := s.regs.filter (fun kv => !mine kv.1 || p.keptByReset (keyOff kv.1))
    latch := s.latch.filter (fun kv => !mine (kv.1 / 4)) }
  let s := s.setLock p none
  s.irqUpd p (fun s => (s.setReg p 0x18 (s.reg p 0x18 &&& 1)).setReg p 0x1C 0)

/-- The rings and pools of a function at reset: deliveries under way go back to the head of their queues. -/
def State.ringsReset (s : State) (d : Nat) : State :=
  let h := s.hostOf d
  let ofRing (st : Stream) : Bool := st.ring?.isSome || (match st with | .punt _ | .pool _ => true | _ => false)
  let s := s.setHost d { h with rings := [], pools := [], held := [], suspended := h.suspended.filter (fun x => !ofRing x.stream) }
  let s := h.held.foldl (fun s kv => match kv.2 with
    | some x => s.setQueue (hostQ d kv.1) (x.copy :: s.queueAt (hostQ d kv.1))
    | none => s) s
  ((s.cipherOf d).msgs.filter (fun m => match m.owner with | .ring _ => true | _ => false)).foldl (fun s m => s.endMsg d m) s

/-- What the unit does with its registers at their reset values; `old` is the state before. -/
def State.settle (old s : State) (p : Page) : State :=
  let d := p.die
  match p.kind with
  | .lane => s.deriveLane p.n
  | .port =>
    let s := (s.portPower p.n).clearReg p F.PORT_STATUS.off
    let s := s.setPort p.n { s.portOf p.n with changeAt := none, changeCmp := none }
    (List.range 16).foldl (fun s q => s.queueEn p.n q (old.flag p F.BUF_QUEUE_CFG_EN q) true) s
  | .eight => s.resyncEight p.n
  | .slice => let s := s.deriveSlice p.n; if s.maySleep p.n then s else s.wakeCause p.n
  | .cs =>
    let s := s.fset p F.CS_STATUS_SPARE_ROWS (old.fget p F.CS_STATUS_SPARE_ROWS)
    if old.flag p F.CS_EVENT_PENDING then s.bset p F.CS_EVENT_PENDING true else s
  | .bufMgr => s.fset p F.BUF_BANKS_RETIRED 0
  | .engine =>
    ((s.routines (p.n / 16)).filter (fun x => x.1 = p.n && !x.2.2.safe)).foldl (fun s x => s.abandon x.1 x.2.1 none none) s
  | .keel => (List.range 66).foldl (fun s i => s.subDisable p i 0) s
  | .timeU => s.timeReset p.n (old.follows p.n)
  | .tel =>
    let t := s.telOf d
    (List.range 4).foldl (fun s c => s.loseCards d (t.colls.get {} c).waiting.length) (s.setTel d { t with matched := [], colls := [] })
  | .acct => (s.deriveAcct d).acctCfg p (regDefault (p.key F.ACCT_CFG.off))
  | .hif => s.ringsReset d
  | .dtu =>
    let h := s.hostOf d
    (s.setHost d { h with xlats := [], suspended := h.suspended.map (fun x => { x with record := none }) }).recRefill d
  | .cox =>
    let c := s.coxOf d
    let s := s.setCox d { c with cal := none, unmetRun := 0, lasted := 0, log := [], logHead := 0 }
    let s := s.bset p F.COX_STATUS_BRAKE (!s.pins.brakeN)
    (s.fset p F.COX_OPEN_REASONS (c.episodes.foldl (fun n e => n ||| 2 ^ e.reason) 0)).episodes d
  | _ => s

/-- A write of UNIT_RESET: ignored and counted on die and device pages; else READY reads 0 until the reset completes. -/
def State.unitReset (s : State) (p : Page) : State :=
  if p.kind = .die ∨ p.kind = .device then s.errCount p else
  let pages := s.subtree p
  let s := if p.kind = .slice ∧ !s.inPaddle p.n then s.enterPaddle p.n cBringup else s
  let was := s
  let s := { s with resetting := pages.foldl (fun m q => m.set false (q.key 0) true) s.resetting }
  let t := pages.foldl (fun t q => t.clearPage q) s
  pages.foldl (fun t q => State.settle was t q) t

/-- R51: UNIT_RESET = 1. -/
def execUnitReset (src : Source) (page : PageIdx) (s : State) : Res :=
  .next (s.access src page (0x14, some 4) (fun p s => s.unitReset p))

/-- Has a unit whose reset is under way nothing to wait for? An engine waits for its committed routines (R216). -/
def State.resetEnds (s : State) (p : Page) : Bool :=
  p.kind ≠ .engine || !(s.routines (p.n / 16)).any (fun x => x.1 = p.n && x.2.2.safe)

/-- R51: the reset of a page completes. -/
def execUnitResetDone (page : PageIdx) (s : State) : Res :=
  let ends (s : State) (p : Page) : State :=
    if s.resetting.get false (p.key 0) && s.resetEnds p then { s with resetting := s.resetting.set false (p.key 0) false } else s
  .next ([0, 1].foldl (fun s d => match Page.ofIndex d (s.devInst d) page.toNat with
    | some p => (s.subtree p).foldl ends s
    | none => s) s)

/-! ### The header (R47-R52) -/

/-- The lowest reserved bit above the causes that a kind of page has (R47 and the interrupt rule of each block's chapter). -/
def Kind.causeEnd : Kind → Nat
  | .port | .slice => 16
  | .cs => 17
  | .timeU | .cox => 15
  | .keel | .aon => 14
  | .cls => 13
  | .bufMgr | .hif => 12
  | .acct | .cipher | .die | .lrn => 11
  | .tel | .msec | .dtu | .otp | .qdr => 10
  | .engine | .pmc => 9
  | .lane | .eight | .device | .ring => 8

/-- The bits of PAGE_IRQ_ENABLE and PAGE_IRQ_STATUS that a page has: those below causeEnd but [7:3]. -/
def Kind.causeMask (k : Kind) : Word := BitVec.ofNat 32 (2 ^ k.causeEnd - 1 - 0xF8)

/-- A write of a header register; the read-only ones take nothing, and ones written to reserved bits are dropped, so that these
read as zero (DESIGN CHOICE: R10 gives no behaviour for such a write). -/
def State.headerWrite (s : State) (src : Source) (p : Page) (off : Nat) (val : Word) : State :=
  match off with
  | 0x14 => if val.getLsbD 2 then s.unitReset p else s.controlWrite p val
  | 0x18 => s.irqUpd p (fun s => s.setReg p 0x18 (s.reg p 0x18 &&& ~~~(val &&& p.kind.causeMask &&& ~~~1)))
  | 0x1C => s.irqUpd p (fun s => s.setReg p 0x1C (val &&& p.kind.causeMask))
  | 0x24 => s.lockOp src p val
  | 0x30 => if val.getLsbD 0 then s.snapTrigger p else s
  | _ => s

/-- PAGE_STATUS.READY: the roll call is done and no unit reset is in progress; a vacant port seat is not ready (R46, R67). -/
def State.ready (s : State) (p : Page) : Bool :=
  !s.resetting.get false (p.key 0) &&
  (match p.kind with
    | .device => if s.split p.n then s.rolled p.n else s.rolled 0 && s.rolled 1
    | .port => s.rolled p.die && decide (s.portWidth p.n ≠ 0)
    | _ => s.rolled p.die)

/-- PAGE_STATUS. -/
def State.pageStatus (s : State) (p : Page) : Nat :=
  let split := match p.kind with | .die | .device => s.split p.n | _ => false
  (s.ready p).toNat + fieldAt (bits (s.reg p 0x10).toNat 3 1) 3 1 + fieldAt split.toNat 4 4 + fieldAt (s.lockOf p).isSome.toNat 5 5

/-- PAGE_CHILDREN (R48). -/
def State.pageChildren (s : State) (p : Page) : Nat :=
  match s.treeChildren p with
  | [] => 0
  | c :: r => (r.length + 1) * 65536 + c.n

/-- PAGE_PHYS (R49). -/
def State.pagePhys (s : State) (p : Page) : Nat :=
  if p.kind = .engine then (s.reg p 0x0C).toNat else p.id / 65536 % 8192

/-- PAGE_LOCK as it reads. -/
def State.lockWord (s : State) (p : Page) : Nat :=
  match s.lockOf p with
  | some l => 2 ^ 31 + l.src.num * 65536 + l.token.toNat
  | none => 0

/-- PAGE_SNAPSHOT_CTRL.BUSY. -/
def State.snapshotBusy (s : State) (p : Page) : Bool := if p.kind = .acct then s.snapBusy p.n else s.dumpCovers p

/-- What a header register reads as. -/
def State.headerRead (s : State) (p : Page) (off : Nat) : Word :=
  match off with
  | 0x00 => BitVec.ofNat 32 p.id
  | 0x04 => 0x00010000
  | 0x08 => BitVec.ofNat 32 (s.pageChildren p)
  | 0x0C => BitVec.ofNat 32 (s.pagePhys p)
  | 0x10 => BitVec.ofNat 32 (s.pageStatus p)
  | 0x24 => BitVec.ofNat 32 (s.lockWord p)
  | 0x2C => 0
  | 0x30 => BitVec.ofNat 32 (2 * (s.snapshotBusy p).toNat)
  | _ => s.reg p off

/-! ### Block registers that show the unit's state -/

/-- What element `i` of a register array shows. -/
abbrev ReadFn := Nat → Nat

/-- Registers whose value is computed as they are read. -/
abbrev ReadFns := List (Fld × Nat × ReadFn)

/-- The word of an array of flags. -/
def flagWord (n : Nat) (f : Nat → Bool) : Nat := ((List.range n).map (fun i => (f i).toNat * 2 ^ i)).sum

def State.portReads (s : State) (p : Page) : ReadFns :=
  [ (F.LRN_PORT_COUNT, 1, fun _ => fieldAt (s.learnFull p.n).toNat 31 31 + min (2 ^ 18 - 1) (s.learnedCount p.n)),
    (F.BUF_QUEUE_STATUS, 16, fun q => fieldAt (s.queueState p.n q) 31 29 + depthOf (s.copies p.die) p.die (portQ p.n q)),
    (F.GATE_QUEUE_MAXWIN, 16, fun q => s.maxWin p.n q) ]

/-- Is the recovered clock output `i` of a die squelched (R325)? -/
def State.squelched (s : State) (d i : Nat) : Bool :=
  let cfg := (s.reg (timePg d) F.TIME_SYNCE_CFG.off).toNat
  let lane := 512 * d + bits cfg (16 * i + 8) (16 * i)
  !bit cfg (16 * i + 15) || decide (s.fget (lanePg lane) F.LANE_STATUS_STATE ≠ 4)

/-- The episode that COX_LOG_SEL selects. -/
def State.logEntry (s : State) (d : Nat) : Option LogEntry :=
  let c := s.coxOf d
  let e := s.fget (coxPg d) F.COX_LOG_SEL_ENTRY
  let back := (c.logHead + 128 - 1 - e) % 64
  if back < c.log.length then c.log[c.log.length - 1 - back]? else none

def State.logReads (s : State) (d : Nat) : ReadFns :=
  let show_ (f : LogEntry → Nat) : ReadFn := fun _ => ((s.logEntry d).map f).getD 0
  [ (F.COX_LOG_DATA0, 1, show_ (fun e => 2 ^ 31 + fieldAt e.ep.reason 30 28 + fieldAt e.ep.slices 27 20 + fieldAt e.ep.rating 19 14 +
      fieldAt e.ep.issue 13 9)),
    (F.COX_LOG_DATA1, 1, show_ (fun e => e.ep.start.toNat % 2 ^ 32)),
    (F.COX_LOG_DATA2, 1, show_ (fun e => e.ep.start.toNat / 2 ^ 32)),
    (F.COX_LOG_DATA3, 1, show_ (fun e => min 0xFFFFFFFF e.micros)),
    (F.COX_LOG_DATA4, 1, show_ (fun e => e.ep.seq % 2 ^ 32)) ]

def State.phaseReads (s : State) (d : Nat) : ReadFns :=
  let slot := (s.coxOf d).phases.get none (s.fget (coxPg d) F.COX_PHASE_SEL_SLOT)
  let show_ (f : PhaseSlot → Nat) : ReadFn := fun _ => (slot.map f).getD 0
  let tenths (x : PhaseSlot) (i : Nat) : Nat := min 0xFFFF (((x.power.drop (3 * i)).take 3).sum / 800)
  [ (F.COX_PHASE_DATA0, 1, show_ (fun x => 2 ^ 31 + (match x.successor with
      | some y => fieldAt y.1 29 24 + fieldAt (min 255 y.2) 23 16
      | none => 0) + (if x.runs = 0 then 0 else min 0xFFFF (x.epochs / x.runs)))),
    (F.COX_PHASE_SIG, 1, show_ PhaseSlot.sig),
    (F.COX_PHASE_POWER, 1, show_ (fun x => 65536 * tenths x 0 + tenths x 1)) ]

def State.coxReads (s : State) (d : Nat) : ReadFns :=
  let c := s.coxOf d
  [ (F.COX_STATUS, 1, fun _ => putBits (s.reg (coxPg d) F.COX_STATUS.off).toNat 31 31 (decide (s.coxMaster d = d)).toNat),
    (F.COX_SLICE_STATUS, 8, fun i => fieldAt (s.running d i) 25 20 +
      fieldAt (flagWord 6 (fun r => decide (s.demand d r i < 32))) 19 14 + fieldAt (min c.issue c.brakeIssue) 13 9) ] ++
  s.logReads d ++ s.phaseReads d

/-- A ring's registers in the HQ_SEL window. -/
def State.ringRead (s : State) (d i : Nat) : Nat :=
  let r := s.fget (hifPg d) F.HQ_SEL_RING
  let x := s.ringAt d r
  match i with
  | 0 => x.base.toNat % 2 ^ 32
  | 1 => x.base.toNat / 2 ^ 32
  | 2 => x.cfg.toNat
  | 3 => x.sched.toNat
  | 4 => x.prod
  | 5 => x.cons
  | 6 => x.cqBase.toNat % 2 ^ 32
  | 7 => x.cqBase.toNat / 2 ^ 32
  | 8 => x.cqProd
  | 9 => x.cqCons
  | _ =>
    let stream (st : Stream) : Bool := match st with
      | .punt h => (((s.hostOf d).held.get none h).map Delivery.ring) = some r
      | st => st.ring? = some r
    let rec_ := ((s.hostOf d).suspended.find? (fun y => stream y.stream)).bind Suspended.record
    fieldAt (s.ringSuspended d r).toNat 31 31 + fieldAt x.dbErr.toNat 30 30 + fieldAt (rec_.getD 0) 5 0

/-- A pool's registers in the POOL_SEL window. -/
def State.poolRead (s : State) (d i : Nat) : Nat :=
  let p := s.fget (hifPg d) F.POOL_SEL_POOL
  let x := s.poolAt d p
  match i with
  | 0 => x.base.toNat % 2 ^ 32
  | 1 => x.base.toNat / 2 ^ 32
  | 2 => x.cfg.toNat
  | 3 => x.warn.toNat
  | 4 => x.prod
  | 5 => x.cons
  | _ => fieldAt x.bp.toNat 31 31 + fieldAt (s.isSuspended d (· == .pool p)).toNat 30 30 + fieldAt x.cache.length 8 0

/-- The registers of a unit that show its state as they are read. -/
def State.reads (s : State) (p : Page) : ReadFns :=
  let d := p.n
  let stored (f : Fld) := (s.reg p f.off).toNat
  match p.kind with
  | .port => s.portReads p
  | .lane => [(F.LANE_RX_QUALITY_SNR, 1, fun _ =>
      if s.flag p F.LANE_STATUS_CDR_LOCK then (s.laneSnr p.n).toNat else stored F.LANE_RX_QUALITY_SNR)]
  | .slice => [(F.SLICE_PADDLE_STATUS, 1, fun _ => putBits (stored F.SLICE_PADDLE_STATUS) 12 8 (s.paddlePresent d))]
  | .cs =>
    [ (F.CS_STATUS, 1, fun _ => putBits (stored F.CS_STATUS) 28 28 (s.flag p F.CS_CTRL_RUN || !(s.routines d).isEmpty).toNat),
      (F.CS_DISPATCH_FILL, 1, fun _ => (s.sliceOf d).queue.length) ]
  | .engine =>
    let n := (s.routines (d / 16)).countP (fun x => x.1 = d)
    [(F.SE_STATUS, 1, fun _ => fieldAt (decide (n = 0)).toNat 31 31 + n)]
  | .bufMgr =>
    let l := s.copies d
    [ (F.BUF_FREE, 1, fun _ => s.available d - s.cellsInUse d l), (F.BUF_SHARED_USED, 1, fun _ => sharedUsed l),
      (F.BUF_HEADROOM_USED, 1, fun _ => headroomUsed l), (F.BUF_RESERVED_SUM, 1, fun _ => s.reserve d),
      (F.BUF_SHARED_EFFECTIVE, 1, fun _ => s.sEff d) ]
  | .keel => [(F.KEEL_CREDIT, 1, fun _ => 16384 - (s.keelOf d).used)]
  | .timeU =>
    [ (F.TIME_SYNCE_STATUS, 1, fun _ => flagWord 2 (fun i => s.squelched d i)),
      (F.TIME_TXSTAMP_FILL, 1, fun _ => (s.timeOf d).txFifo.length) ]
  | .lrn => [(F.LRN_CTRL, 1, fun _ => stored F.LRN_CTRL + fieldAt (s.lrnMaster d).toNat 31 31)]
  | .acct =>
    let a := s.acctOf d
    [(F.ACCT_STATUS, 1, fun _ => fieldAt a.settling.isSome.toNat 31 31 + fieldAt a.held.isSome.toNat 30 30 +
      (if a.settling.isSome then s.outstanding d % 2 ^ 24 else 0))]
  | .pmc => [(F.PMC_DUMP_SIZE, 1, fun _ => s.dumpSize d)]
  | .hif =>
    [ (F.HQ_IDLE, 32, fun j => flagWord 32 (fun i => s.ringIdle d (32 * j + i))),
      (⟨0x404, 4, 0, 32⟩, 11, s.ringRead d), (⟨0x704, 4, 0, 32⟩, 7, s.poolRead d) ]
  | .cox => s.coxReads d
  | .aon => [(F.AON_PSTATE, 1, fun _ => s.diePState d + 4 * s.devPState d)]
  | _ => []

/-! ### Reads (R8, R9, R53) -/

/-- What a register of one unit shows, counters apart; WO bits read zero. -/
def State.peek (s : State) (p : Page) (off : Nat) : Word :=
  match (s.reads p).findSome? (fun r => (r.1.index r.2.1 off).map r.2.2) with
  | some v => BitVec.ofNat 32 v
  | none =>
    match p.kind.reg? off with
    | some r => s.reg p off &&& ~~~BitVec.ofNat 32 r.wo
    | none => 0

/-- RC bits of a register of one unit clear as it is read; a read of TIME_TXSTAMP_META first takes the head entry of the
FIFO (R9, R321). -/
def State.clearRead (s : State) (p : Page) (off : Nat) : State :=
  match p.kind.reg? off with
  | some r => if r.rc = 0 then s else s.setReg p off (s.reg p off &&& ~~~BitVec.ofNat 32 r.rc)
  | none => s

/-- Pairs of RO registers other than counters that a read latches, by kind, with how many there are (R8). -/
def Kind.pairs : Kind → List (Fld × Nat)
  | .lane => [(F.LANE_BT_LO, 1)]
  | .port => [(F.GATE_OPER_BASE_SEC_LO, 1)]
  | .lrn => [(F.LRN_PIN_LAST_LO, 1)]
  | .timeU => [(F.TIME_NOW_SEC_LO, 1), (F.TIME_LAST_OFFSET_LO, 1), (F.TIME_PPS_IN_STAMP_LO, 1), (F.TIME_TXSTAMP_LO, 1)]
  | .acct => [({ F.ACCT_LIVE_DATA with stride := 8 }, 7)]
  | .dtu => [(F.DTU_FAULT_VALID_LO, 1), (F.DTU_FAULT_ADDR_LO, 64)]
  | _ => []

/-- The low word's offset of the pair that a register belongs to: 64-bit counters, the snapshot stamp and the pairs above. -/
def Kind.pairLow (k : Kind) (off : Nat) : Option Nat :=
  if off = 0x38 ∨ off = 0x3C then some 0x38 else
  match k.reg? off with
  | none => none
  | some r =>
    if r.wide then some (off / 8 * 8)
    else (k.pairs.findSome? (fun f => ((List.range f.2).find? (fun i => f.1.at i = off ∨ f.1.at i + 4 = off)).map (fun i => f.1.at i)))

/-- A vacant port seat: its counters read zero (R46). -/
def State.vacant (s : State) (p : Page) : Bool := p.kind = .port && decide (s.portWidth p.n = 0)

/-- The 64-bit value of a pair at a page: a counter is summed over the units below a page of a group (R53). The counters of
the performance counters hold 63 bits with OVF above them. -/
def State.pairValue (s : State) (ts : List Page) (lo : Nat) : DWord :=
  let wide (p : Page) : Bool := (p.kind.reg? lo).any Reg.wide
  match ts with
  | [] => 0
  | p :: _ =>
    if wide p then
      let vs := ts.map (fun t => if s.vacant t then 0 else s.ctrs.get 0 (t.key lo))
      if (pmcOff p.kind F.PMC_CTR).off ≤ lo ∧ lo < (pmcOff p.kind F.PMC_CTR).off + 128 ∧ p.pmcWrites ≠ [] then
        BitVec.ofNat 64 ((vs.map (fun v => v.toNat % 2 ^ 63)).sum % 2 ^ 63 + (vs.any (·.getLsbD 63)).toNat * 2 ^ 63)
      else BitVec.ofNat 64 (vs.map BitVec.toNat).sum
    else BitVec.ofNat 64 ((if lo < 0x100 then s.headerRead p lo else s.peek p lo).toNat +
      (if lo < 0x100 then s.headerRead p (lo + 4) else s.peek p (lo + 4)).toNat * 2 ^ 32)

/-- Fields that on a page of a group show whether any unit below is busy (R154, R160, R263). -/
def busyFields : List Fld :=
  [F.PRS_TMAP_CMD_BUSY, F.TBL_TCAM_ROW_BUSY, F.TBL_EM_CMD_BUSY, F.TBL_LPM_CMD_BUSY]

/-- What a register shows on a page of a group: the lowest-seated unit's value, with a busy bit of any unit, a table lock
that every unit has granted, the Paddle status of any slice, and the sum of policer counts (R53, R167, R263). -/
def State.groupPeek (s : State) (ts : List Page) (off : Nat) : Word :=
  match ts with
  | [] => 0
  | p :: _ =>
    let v := s.peek p off
    if p.kind ≠ .slice ∨ ts.length ≤ 1 then v
    else if off = F.TBL_ACCESS_LOCK.off then
      F.TBL_ACCESS_LOCK_GRANTED.put v (ts.foldl (fun a t => a &&& s.fget t F.TBL_ACCESS_LOCK_GRANTED) 0xFF)
    else if off = F.SLICE_PADDLE_STATUS.off then
      ts.foldl (fun a t => a ||| (s.peek t off &&& 0x80001F1F)) v
    else if off = F.SCH_POL_DATA2.off ∨ off = F.SCH_POL_DATA3.off then
      let sum := (ts.map (fun t => (s.reg t F.SCH_POL_DATA2.off).toNat + (s.reg t F.SCH_POL_DATA3.off).toNat * 2 ^ 32)).sum
      BitVec.ofNat 32 (if off = F.SCH_POL_DATA2.off then sum else sum / 2 ^ 32)
    else match busyFields.find? (fun f => f.off = off) with
      | some f => f.put v (ts.any (fun t => s.flag t f)).toNat
      | none => v

/-- The value of half of a pair: the low word latches the high word for its source, and the high word shows what was
latched (R8). -/
def State.readPair (s : State) (src : Source) (on : Page) (ts : List Page) (lo off : Nat) : Word × State :=
  let k := 4 * on.key lo + src.num
  let v := s.pairValue ts lo
  let hi := BitVec.ofNat 32 (v.toNat / 2 ^ 32)
  if off = lo then (v.setWidth 32, { s with latch := s.latch.set none k (some hi) })
  else ((s.latch.get none k).getD hi, s)

/-- What the MSI-X table and its pending bits read as (R391). -/
def State.hifWindowRead (s : State) (d off : Nat) : Option Word :=
  if 0x1000 ≤ off ∧ off < 0x2000 ∨ 0x2000 ≤ off ∧ off < 0x2800 ∨ 0x3000 ≤ off ∧ off < 0x3100 then some 0
  else if 0x7F00 ≤ off ∧ off < 0x8000 then some (s.reg (hifPg d) off)
  else if 0x8000 ≤ off then
    some (if off % 16 = 12 then (if s.vecMasked d ((off - 0x8000) / 16) then 1 else 0) else s.reg (hifPg d) off)
  else none

/-- A read of a block register of a mapped page. -/
def State.blockRead (s : State) (src : Source) (on : Page) (off : Nat) : Word × State :=
  match if on.kind = .hif then s.hifWindowRead on.n off else none with
  | some v => (v, s)
  | none =>
    match s.targets on off with
    | [] => (0, s.countUnmapped src)
    | t :: ts =>
      let s := if on.kind = .timeU ∧ off = F.TIME_TXSTAMP_META.off then s.popStamp on else s
      match t.kind.pairLow off with
      | some lo =>
        let r := s.readPair src on (t :: ts) lo off
        (r.1, r.2.clearRead t off)
      | none => (s.groupPeek (t :: ts) off, s.clearRead t off)

/-- A page and, on a page of an eight, slice, die or device, the pages below it in the port tree (R53). -/
def State.counting (s : State) (p : Page) : List Page :=
  match p.kind.level with
  | some h => if 2 ≤ h then p :: (List.range h).flatMap (fun l => p.below (s.split p.die) h l) else [p]
  | none => [p]

/-- PAGE_ERR_COUNT as it reads: on a page of a group the sum over it and the pages below it, modulo its width (R53). -/
def State.errShown (s : State) (p : Page) : Nat :=
  (((s.counting p).filter (fun q => !s.vacant q)).map (fun q => s.fget q F.PAGE_ERR_COUNT)).sum % 2 ^ 16

/-- Each contribution that the read of PAGE_ERR_COUNT returned is cleared (R9, R53). -/
def State.errClear (s : State) (p : Page) : State :=
  ((s.counting p).filter (fun q => !s.vacant q && s.reg q 0x28 ≠ 0)).foldl (fun s q => s.setReg q 0x28 0) s

/-- A read of a mapped page; a slice's own page reads zero while it is asleep or waking (R429). -/
def State.pageRead (s : State) (src : Source) (on : Page) (off : Nat) : Word × State :=
  if on.kind = .slice ∧ s.sliceState on.n ≥ 2 then (0, s)
  else if off ≥ 0x100 then s.blockRead src on off
  else if off ≥ 0x40 then (0, s)
  else if off = 0x28 then (BitVec.ofNat 32 (s.errShown on), s.errClear on)
  else if off = 0x38 ∨ off = 0x3C then s.readPair src on [on] 0x38 off
  else (s.headerRead on off, s)

/-! ### Accesses -/

/-- A write of one register of a mapped page. -/
def State.regWrite (s : State) (src : Source) (on : Page) (off : Nat) (val : Word) : State :=
  if off < 0x100 then s.headerWrite src on off val else
  let dies := s.targetsOf on .die
  if dies ≠ [] ∧ off = F.DIE_IMG_CTRL.off then
    dies.foldl (fun s p => if val.getLsbD 31 then s.imgStart p.n src else if val.getLsbD 30 then s.imgAbort p.n else s) s
  else if dies ≠ [] ∧ (F.DIE_IMG_DATA.index 4096 off).isSome then dies.foldl (fun s p => s.imgAppend p.n val) s
  else s.pageWrite src on off val

/-- A parity error of the management ring: the access is counted, and has no other effect (R460). -/
def State.ringParity (s : State) (src : Source) : State := (s.countUnmapped src).integrity src.die 7

/-- An access of a size and alignment, with what the management ring does to it: other sizes and alignments have no effect
(R7). -/
def State.regAccess (s : State) (src : Source) (page : PageIdx) (w : RegWord) (size : Nat) (parity : Bool)
    (k : Page → State → State) (none_ : State → State) : State :=
  if !s.sourceUp src then s
  else if parity then none_ (s.ringParity src)
  else if size ≠ 4 ∨ w.1 % 4 ≠ 0 then none_ s
  else match s.mapped src page with
    | none => none_ (s.countUnmapped src)
    | some p => if p.far src then s.carry ⟨src, page, w.1, w.2⟩ else if s.dieUp p.die then k p s else none_ s

/-- R9: a write of a register. -/
def execRegisterWrite (src : Source) (page : PageIdx) (off : BitVec 16) (size : Nat) (val : Word) (parity : Bool) (s : State) :
    Res :=
  .next (s.regAccess src page (off.toNat, some val) size parity (fun p s => s.regWrite src p off.toNat val) id)

/-- A read, with the word it returns; one of another size or alignment returns zero (R7). -/
def State.readAccess (s : State) (src : Source) (page : PageIdx) (off size : Nat) (parity : Bool) : State :=
  let tell (v : Word) (s : State) : State := s.emit (.readData src page.toNat off v)
  s.regAccess src page (off, none) size parity (fun p s => let r := s.pageRead src p off; tell r.1 r.2) (tell 0)

/-- R8: a read of the low word of a pair, or of any other register. -/
def execCounterLowWordRead (src : Source) (page : PageIdx) (off : ReadAt) (parity : Bool) (s : State) : Res :=
  .next (s.readAccess src page off.off.toNat off.size parity)

/-! ### The I3C target's private transfers (R73) -/

/-- R73: page index, offset and data words; each word is one access at the next offset. -/
def execI3cPrivateWrite (page : PageIdx) (off : BitVec 16) (words : List Word) (s : State) : Res :=
  .next (if s.i3cOn ∧ s.pins.i3cAddr.isSome then
    let s := { s with pins := { s.pins with i3cPage := page, i3cOff := off } }
    (words.foldl (fun (r : Nat × State) w =>
      (r.1 + 4, r.2.regAccess .i3c page (r.1 % 65536, some w) 4 false (fun p s => s.regWrite .i3c p (r.1 % 65536) w) id)) (off.toNat, s)).2
  else s)

/-- R73: words from the offset last written. -/
def execI3cPrivateRead (count : Nat) (s : State) : Res :=
  .next (if s.i3cOn ∧ s.pins.i3cAddr.isSome then
    (List.range count).foldl (fun s i => s.readAccess .i3c s.pins.i3cPage ((s.pins.i3cOff.toNat + 4 * i) % 65536) 4 false) s
  else s)

end Sys2Proof.Machine
end

