-- ==== Sys2Proof/Machine/KeelCtrl.lean ====
section
/-!
DEFINITION. The control messages that reach a die over the keel, and what each does there (02 R41, R42; 03 R98, R99; 05 R169;
07 R231; 09 R287, R291; 12 R368; 14 R446).
-/
namespace Sys2Proof.Machine

/-- An access of the other die's source to a page of die `d` (R41): a write acts, and a read sends its answer back. -/
def State.accessArrives (s : State) (d : Nat) (a : RegOp) : State :=
  let found := if s.dieUp d then s.mapped a.src a.page else none
  match found, a.val with
  | some p, some v => s.regWrite a.src p a.off v
  | some p, none => let r := s.pageRead a.src p a.off; r.2.sendCtrl d (.answer a r.1)
  | none, some _ => s.countUnmapped a.src
  | none, none => (s.countUnmapped a.src).sendCtrl d (.answer a 0)

/-- The answer to a read reaches the die of its source, and the read completes. -/
def State.answerArrives (s : State) (d : Nat) (a : RegOp) (v : Word) : State :=
  let k := s.keelOf d
  if k.asked.contains a then
    (s.setKeel d { k with asked := k.asked.erase a }).emit (.readData a.src a.page.toNat a.off v)
  else s

/-- A control message acts on the die that it reaches. -/
def State.ctrlAct (s : State) (d : Nat) : Ctrl → State
  | .learn e => s.arbiterTake d e
  | .pfc p c on =>
    let b := s.bufOf d
    let l := b.remote.filter (· ≠ 8 * p + c)
    (s.setBuf d { b with remote := if on then l ++ [8 * p + c] else l }).pfcUpdate p
  | .subFail i =>
    if s.subTx d i = slActive ∨ s.subTx d i = slSpare then (s.subFailed d).stopSub d i slFailed else s
  | .void u => s.voidOn d u
  | .member p on => if on then s.restoreOn d p else s.pruneOn d p
  | .access a => s.accessArrives d a
  | .answer a v => s.answerArrives d a v
  | .summary e => s.epochSummary e
  | .budget b b0 w => s.budgetTaken d b b0 w

/-- Act on the messages that have arrived, in their order. -/
def State.ctrlDrain (s : State) (d : Nat) : Nat → State
  | 0 => s
  | fuel + 1 =>
    let k := s.keelOf d
    match k.inHold.find? (fun m => m.1 = k.inNum) with
    | none => s
    | some m =>
      let s := s.setKeel d { k with inNum := k.inNum + 1, inHold := k.inHold.filter (fun x => x.1 ≠ m.1) }
      State.ctrlDrain (s.ctrlAct d m.2) d fuel

/-- Acknowledge a CTRL cell on the next ACTIVE sub-link of the die that received it (R284, R287). -/
def State.sendAck (s : State) (d sub seq : Nat) : State :=
  match s.nextSub d none with
  | none => s
  | some i =>
    let (c, s) := s.putCell d i (.ack sub seq) false
    let body := openPayload (Config.ackBody sub seq)
    s.emit (.keelCell d i kAck c.seq 0 (cellBytes (cellHeader kAck c.seq 0 0 (body.length - 1) 0 0 0 c.credits 0) body))

/-- R287: a control cell arrives; it is acknowledged, and its message acts once and in order. -/
def execKeelCtrlCellRx (d : Die) (sub : SubLink) (fate : CellFate) (s : State) : Res :=
  let d := d.val
  s.ifOperates (keelPg d) (if !s.ctrlFlows d then s else
    match s.arriving d sub.val with
    | none => s
    | some c =>
      match c.body with
      | .ctrl num msg =>
        if fate = .lost then s.loseCell d c else
        let s := s.landed d c (fate = .good)
        if fate = .bad then s else
        let k := s.keelOf d
        let known := decide (num < k.inNum) || k.inHold.any (fun m => m.1 = num)
        let s := s.setKeel d { k with inHold := if known then k.inHold else k.inHold ++ [(num, msg)] }
        (s.sendAck d sub.val c.seq).ctrlDrain d (k.inHold.length + 1)
      | _ => s)

end Sys2Proof.Machine
end

