-- ==== Sys2Proof/Machine/Dispatch.lean ====
section
/-!
DEFINITION. One arm per command: a direct call of its meaning.
-/
namespace Sys2Proof.Machine

def exec (i : Instr) (s : State) : Host.Outcome State Fault Refusal :=
  match i with
  | .registerWrite src page off size val parity => Sys2Proof.Machine.execRegisterWrite src page off size val parity s
  | .counterLowWordRead src page off parity => Sys2Proof.Machine.execCounterLowWordRead src page off parity s
  | .unitReset src page => Sys2Proof.Machine.execUnitReset src page s
  | .unitResetDone page => Sys2Proof.Machine.execUnitResetDone page s
  | .lockAcquire src page token => Sys2Proof.Machine.execLockAcquire src page token s
  | .lockRelease src page token => Sys2Proof.Machine.execLockRelease src page token s
  | .lockForce src page => Sys2Proof.Machine.execLockForce src page s
  | .interimSnapshotTrigger src page => Sys2Proof.Machine.execInterimSnapshotTrigger src page s
  | .pmcDumpTrigger src page => Sys2Proof.Machine.execPmcDumpTrigger src page s
  | .pwrgoodAonAssert => Sys2Proof.Machine.execPwrgoodAonAssert s
  | .pwrgoodAonDeassert torn => Sys2Proof.Machine.execPwrgoodAonDeassert torn s
  | .resetNAssert => Sys2Proof.Machine.execResetNAssert s
  | .resetNDeassert otp => Sys2Proof.Machine.execResetNDeassert otp s
  | .rollCallDone d report => Sys2Proof.Machine.execRollCallDone d report s
  | .shadowFrameResend part => Sys2Proof.Machine.execShadowFrameResend part s
  | .shadowDone => Sys2Proof.Machine.execShadowDone s
  | .shadowFirstPartTimeout => Sys2Proof.Machine.execShadowFirstPartTimeout s
  | .shadowSecondPartTimeout => Sys2Proof.Machine.execShadowSecondPartTimeout s
  | .railOutOfRange d => Sys2Proof.Machine.execRailOutOfRange d s
  | .aonClkLoss torn => Sys2Proof.Machine.execAonClkLoss torn s
  | .refclkLaneLoss sl back => Sys2Proof.Machine.execRefclkLaneLoss sl back s
  | .entdaa addr => Sys2Proof.Machine.execEntdaa addr s
  | .setdasa stat dyn => Sys2Proof.Machine.execSetdasa stat dyn s
  | .rstdaa => Sys2Proof.Machine.execRstdaa s
  | .getpid => Sys2Proof.Machine.execGetpid s
  | .getbcr => Sys2Proof.Machine.execGetbcr s
  | .getdcr => Sys2Proof.Machine.execGetdcr s
  | .i3cPrivateWrite page off words => Sys2Proof.Machine.execI3cPrivateWrite page off words s
  | .i3cPrivateRead count => Sys2Proof.Machine.execI3cPrivateRead count s
  | .eightArrangeWrite src page val => Sys2Proof.Machine.execEightArrangeWrite src page val s
  | .eightPairRateWrite src page val => Sys2Proof.Machine.execEightPairRateWrite src page val s
  | .laneRxLimitWrite src page val => Sys2Proof.Machine.execLaneRxLimitWrite src page val s
  | .portEnable src page sleep => Sys2Proof.Machine.execPortEnable src page sleep s
  | .portDisable src page sleep => Sys2Proof.Machine.execPortDisable src page sleep s
  | .anResolved p partner f1 => Sys2Proof.Machine.execAnResolved p partner f1 s
  | .anFail p partner f1 => Sys2Proof.Machine.execAnFail p partner f1 s
  | .anBreakLinkExpire p => Sys2Proof.Machine.execAnBreakLinkExpire p s
  | .trainCoefRequest l tap up => Sys2Proof.Machine.execTrainCoefRequest l tap up s
  | .trainComplete p ctle => Sys2Proof.Machine.execTrainComplete p ctle s
  | .trainTimeout p => Sys2Proof.Machine.execTrainTimeout p s
  | .alignLock p => Sys2Proof.Machine.execAlignLock p s
  | .alignTimeout p => Sys2Proof.Machine.execAlignTimeout p s
  | .upHoldoffExpire p => Sys2Proof.Machine.execUpHoldoffExpire p s
  | .holdFaultTimeout p => Sys2Proof.Machine.execHoldFaultTimeout p s
  | .linkDownDetect p cause l => Sys2Proof.Machine.execLinkDownDetect p cause l s
  | .linkDownClear p cause l => Sys2Proof.Machine.execLinkDownClear p cause l s
  | .downDebounceExpire p => Sys2Proof.Machine.execDownDebounceExpire p s
  | .remoteFaultDebounceExpire p => Sys2Proof.Machine.execRemoteFaultDebounceExpire p s
  | .remoteFaultClear p => Sys2Proof.Machine.execRemoteFaultClear p s
  | .portFlushDone p q => Sys2Proof.Machine.execPortFlushDone p q s
  | .frameRx p bytes fcs uncorr delay => Sys2Proof.Machine.execFrameRx p bytes fcs uncorr delay s
  | .pauseRx p => Sys2Proof.Machine.execPauseRx p s
  | .pfcRx p enables times => Sys2Proof.Machine.execPfcRx p enables times s
  | .pfcPauseExpire p c => Sys2Proof.Machine.execPfcPauseExpire p c s
  | .mmFragmentRx p x delay => Sys2Proof.Machine.execMmFragmentRx p x delay s
  | .mmVerifyRx p => Sys2Proof.Machine.execMmVerifyRx p s
  | .mmResponseRx p => Sys2Proof.Machine.execMmResponseRx p s
  | .mmVerifyTimer p => Sys2Proof.Machine.execMmVerifyTimer p s
  | .pipelineEntry pl u => Sys2Proof.Machine.execPipelineEntry pl u s
  | .clsWalkDone d uid errs hold => Sys2Proof.Machine.execClsWalkDone d uid errs hold s
  | .treeFailedMark d c => Sys2Proof.Machine.execTreeFailedMark d c s
  | .clsFifoResume d => Sys2Proof.Machine.execClsFifoResume d s
  | .pipelineStallRelease pl => Sys2Proof.Machine.execPipelineStallRelease pl s
  | .clsTreeSwap src page t val => Sys2Proof.Machine.execClsTreeSwap src page t val s
  | .clsSwapDone d t u => Sys2Proof.Machine.execClsSwapDone d t u s
  | .clsTreeRootWrite src page t bank val => Sys2Proof.Machine.execClsTreeRootWrite src page t bank val s
  | .clsCacheFlush src page val => Sys2Proof.Machine.execClsCacheFlush src page val s
  | .clsTtWrite src page val => Sys2Proof.Machine.execClsTtWrite src page val s
  | .clsTtRead src page val => Sys2Proof.Machine.execClsTtRead src page val s
  | .qdrWrite src page val => Sys2Proof.Machine.execQdrWrite src page val s
  | .qdrRead src page val => Sys2Proof.Machine.execQdrRead src page val s
  | .qdrAccessDone c err => Sys2Proof.Machine.execQdrAccessDone c err s
  | .prsMemWrite src page val => Sys2Proof.Machine.execPrsMemWrite src page val s
  | .prsMemRead src page val => Sys2Proof.Machine.execPrsMemRead src page val s
  | .tmapInsert src page val => Sys2Proof.Machine.execTmapInsert src page val s
  | .tmapDelete src page val => Sys2Proof.Machine.execTmapDelete src page val s
  | .tmapLookup src page val => Sys2Proof.Machine.execTmapLookup src page val s
  | .tcamInvalidate src page val => Sys2Proof.Machine.execTcamInvalidate src page val s
  | .tcamWrite src page val => Sys2Proof.Machine.execTcamWrite src page val s
  | .tcamValidate src page val => Sys2Proof.Machine.execTcamValidate src page val s
  | .tcamRead src page val => Sys2Proof.Machine.execTcamRead src page val s
  | .tcamBlockCfgWrite src page b val => Sys2Proof.Machine.execTcamBlockCfgWrite src page b val s
  | .tcamScrub sl flips => Sys2Proof.Machine.execTcamScrub sl flips s
  | .stageCfgWrite src page n val => Sys2Proof.Machine.execStageCfgWrite src page n val s
  | .emInsert src page val => Sys2Proof.Machine.execEmInsert src page val s
  | .emDelete src page val => Sys2Proof.Machine.execEmDelete src page val s
  | .emLookup src page val => Sys2Proof.Machine.execEmLookup src page val s
  | .emCmdDone sl => Sys2Proof.Machine.execEmCmdDone sl s
  | .emSeedWrite src page w val => Sys2Proof.Machine.execEmSeedWrite src page w val s
  | .lpmInsert src page val => Sys2Proof.Machine.execLpmInsert src page val s
  | .lpmDelete src page val => Sys2Proof.Machine.execLpmDelete src page val s
  | .lpmLookup src page val => Sys2Proof.Machine.execLpmLookup src page val s
  | .lpmCmdDone sl => Sys2Proof.Machine.execLpmCmdDone sl s
  | .tblIdxWrite src page val => Sys2Proof.Machine.execTblIdxWrite src page val s
  | .tblIdxRead src page val => Sys2Proof.Machine.execTblIdxRead src page val s
  | .parityRepair sl => Sys2Proof.Machine.execParityRepair sl s
  | .tableLockRequest src page val => Sys2Proof.Machine.execTableLockRequest src page val s
  | .tableLockGrant sl t => Sys2Proof.Machine.execTableLockGrant sl t s
  | .tableLockRelease src page val => Sys2Proof.Machine.execTableLockRelease src page val s
  | .tableLockTimeout sl t => Sys2Proof.Machine.execTableLockTimeout sl t s
  | .learnEventApply d => Sys2Proof.Machine.execLearnEventApply d s
  | .learnUnpin d bd mac => Sys2Proof.Machine.execLearnUnpin d bd mac s
  | .learnMoveWindowExpire d bd mac => Sys2Proof.Machine.execLearnMoveWindowExpire d bd mac s
  | .ageScan d => Sys2Proof.Machine.execAgeScan d s
  | .engineDispatch sl => Sys2Proof.Machine.execEngineDispatch sl s
  | .aluNop e k fetch => Sys2Proof.Machine.execAluNop e k fetch s
  | .aluMov e k fetch => Sys2Proof.Machine.execAluMov e k fetch s
  | .aluAdd e k fetch => Sys2Proof.Machine.execAluAdd e k fetch s
  | .aluSub e k fetch => Sys2Proof.Machine.execAluSub e k fetch s
  | .aluAnd e k fetch => Sys2Proof.Machine.execAluAnd e k fetch s
  | .aluOr e k fetch => Sys2Proof.Machine.execAluOr e k fetch s
  | .aluXor e k fetch => Sys2Proof.Machine.execAluXor e k fetch s
  | .aluShl e k fetch => Sys2Proof.Machine.execAluShl e k fetch s
  | .aluShr e k fetch => Sys2Proof.Machine.execAluShr e k fetch s
  | .aluSar e k fetch => Sys2Proof.Machine.execAluSar e k fetch s
  | .aluCmp e k fetch => Sys2Proof.Machine.execAluCmp e k fetch s
  | .aluMin e k fetch => Sys2Proof.Machine.execAluMin e k fetch s
  | .aluMax e k fetch => Sys2Proof.Machine.execAluMax e k fetch s
  | .aluExt e k fetch => Sys2Proof.Machine.execAluExt e k fetch s
  | .aluIns e k fetch => Sys2Proof.Machine.execAluIns e k fetch s
  | .aluMul e k fetch => Sys2Proof.Machine.execAluMul e k fetch s
  | .aluCrc32c e k fetch => Sys2Proof.Machine.execAluCrc32c e k fetch s
  | .memHrd e k fetch => Sys2Proof.Machine.execMemHrd e k fetch s
  | .memHwr e k fetch => Sys2Proof.Machine.execMemHwr e k fetch s
  | .memMrd e k fetch => Sys2Proof.Machine.execMemMrd e k fetch s
  | .memMwr e k fetch => Sys2Proof.Machine.execMemMwr e k fetch s
  | .memTrd e k fetch => Sys2Proof.Machine.execMemTrd e k fetch s
  | .memTwr e k fetch => Sys2Proof.Machine.execMemTwr e k fetch s
  | .memEml e k fetch => Sys2Proof.Machine.execMemEml e k fetch s
  | .memLpm e k fetch => Sys2Proof.Machine.execMemLpm e k fetch s
  | .memQrd e k fetch => Sys2Proof.Machine.execMemQrd e k fetch s
  | .memQwr e k fetch => Sys2Proof.Machine.execMemQwr e k fetch s
  | .memCnt e k fetch => Sys2Proof.Machine.execMemCnt e k fetch s
  | .memLock e k fetch => Sys2Proof.Machine.execMemLock e k fetch s
  | .memXrd e k fetch => Sys2Proof.Machine.execMemXrd e k fetch s
  | .memCu e k fetch => Sys2Proof.Machine.execMemCu e k fetch s
  | .memReadReturn e k reg rep => Sys2Proof.Machine.execMemReadReturn e k reg rep s
  | .lockGrant e k => Sys2Proof.Machine.execLockGrant e k s
  | .routineCommit e k => Sys2Proof.Machine.execRoutineCommit e k s
  | .csEventGo src page val => Sys2Proof.Machine.execCsEventGo src page val s
  | .engineFault e cause => Sys2Proof.Machine.execEngineFault e cause s
  | .csDmaWaitExpire sl uid => Sys2Proof.Machine.execCsDmaWaitExpire sl uid s
  | .csWordWrite src page val => Sys2Proof.Machine.execCsWordWrite src page val s
  | .csWordRead src page val => Sys2Proof.Machine.execCsWordRead src page val s
  | .csRunWrite src page val => Sys2Proof.Machine.execCsRunWrite src page val s
  | .csScrub sl found => Sys2Proof.Machine.execCsScrub sl found s
  | .csReloadDone sl donorBad => Sys2Proof.Machine.execCsReloadDone sl donorBad s
  | .frameAdmit d uid => Sys2Proof.Machine.execFrameAdmit d uid s
  | .frameLastCell d uid parity => Sys2Proof.Machine.execFrameLastCell d uid parity s
  | .macsecVerdict uid => Sys2Proof.Machine.execMacsecVerdict uid s
  | .transmitStart p delay u => Sys2Proof.Machine.execTransmitStart p delay u s
  | .transmitEnd p errs => Sys2Proof.Machine.execTransmitEnd p errs s
  | .pfcEval d => Sys2Proof.Machine.execPfcEval d s
  | .pfcRefresh p c => Sys2Proof.Machine.execPfcRefresh p c s
  | .queueHeadAgeCheck d => Sys2Proof.Machine.execQueueHeadAgeCheck d s
  | .bufPoolLimitWrite src page reg val => Sys2Proof.Machine.execBufPoolLimitWrite src page reg val s
  | .queueDisable src page q val => Sys2Proof.Machine.execQueueDisable src page q val s
  | .queueEnable src page q val => Sys2Proof.Machine.execQueueEnable src page q val s
  | .queueDrainDone p q => Sys2Proof.Machine.execQueueDrainDone p q s
  | .mcGroupWrite src page val => Sys2Proof.Machine.execMcGroupWrite src page val s
  | .mcGroupRead src page val => Sys2Proof.Machine.execMcGroupRead src page val s
  | .shaperWheelSlot p => Sys2Proof.Machine.execShaperWheelSlot p s
  | .schCfgWrite src page reg val => Sys2Proof.Machine.execSchCfgWrite src page reg val s
  | .mmCfgWrite src page val => Sys2Proof.Machine.execMmCfgWrite src page val s
  | .policerWrite src page val => Sys2Proof.Machine.execPolicerWrite src page val s
  | .policerRead src page val => Sys2Proof.Machine.execPolicerRead src page val s
  | .policerReadClear src page val => Sys2Proof.Machine.execPolicerReadClear src page val s
  | .gateEntryBoundary p => Sys2Proof.Machine.execGateEntryBoundary p s
  | .gateChange src page val => Sys2Proof.Machine.execGateChange src page val s
  | .gateChangeApply p => Sys2Proof.Machine.execGateChangeApply p s
  | .gateListWriteAdmin src page val => Sys2Proof.Machine.execGateListWriteAdmin src page val s
  | .gateListReadAdmin src page val => Sys2Proof.Machine.execGateListReadAdmin src page val s
  | .gateListReadOper src page val => Sys2Proof.Machine.execGateListReadOper src page val s
  | .queueSample d => Sys2Proof.Machine.execQueueSample d s
  | .keelCellRx d sub fate => Sys2Proof.Machine.execKeelCellRx d sub fate s
  | .keelCellSend d hold => Sys2Proof.Machine.execKeelCellSend d hold s
  | .keelIdleSend d sub => Sys2Proof.Machine.execKeelIdleSend d sub s
  | .keelCtrlCellRx d sub fate => Sys2Proof.Machine.execKeelCtrlCellRx d sub fate s
  | .keelAckRx d fate => Sys2Proof.Machine.execKeelAckRx d fate s
  | .keelCtrlResend d num => Sys2Proof.Machine.execKeelCtrlResend d num s
  | .sublinkFailDetect d sub => Sys2Proof.Machine.execSublinkFailDetect d sub s
  | .sublinkTrainStart d sub => Sys2Proof.Machine.execSublinkTrainStart d sub s
  | .sublinkTrained d sub => Sys2Proof.Machine.execSublinkTrained d sub s
  | .sublinkTrainTimeout d sub => Sys2Proof.Machine.execSublinkTrainTimeout d sub s
  | .sublinkDisable src page sub val => Sys2Proof.Machine.execSublinkDisable src page sub val s
  | .sublinkEnable src page sub val => Sys2Proof.Machine.execSublinkEnable src page sub val s
  | .forceSplit src page val => Sys2Proof.Machine.execForceSplit src page val s
  | .splitEnter d => Sys2Proof.Machine.execSplitEnter d s
  | .rejoinStart => Sys2Proof.Machine.execRejoinStart s
  | .rejoinTimeAligned => Sys2Proof.Machine.execRejoinTimeAligned s
  | .mergeLearnDone => Sys2Proof.Machine.execMergeLearnDone s
  | .keelResume src page val => Sys2Proof.Machine.execKeelResume src page val s
  | .rejoinResumingDone => Sys2Proof.Machine.execRejoinResumingDone s
  | .rejoinAbort => Sys2Proof.Machine.execRejoinAbort s
  | .timeStepSet src page val => Sys2Proof.Machine.execTimeStepSet src page val s
  | .timeStepAdd src page val => Sys2Proof.Machine.execTimeStepAdd src page val s
  | .timeStepSubtract src page val => Sys2Proof.Machine.execTimeStepSubtract src page val s
  | .timeStepApply d => Sys2Proof.Machine.execTimeStepApply d s
  | .timeOffsetSubmit src page val => Sys2Proof.Machine.execTimeOffsetSubmit src page val s
  | .timeRefChange src page val => Sys2Proof.Machine.execTimeRefChange src page val s
  | .timeRefSelWrite src page val => Sys2Proof.Machine.execTimeRefSelWrite src page val s
  | .timeLatch src page val => Sys2Proof.Machine.execTimeLatch src page val s
  | .timeRefTimeout d => Sys2Proof.Machine.execTimeRefTimeout d s
  | .ppsInEdge sub => Sys2Proof.Machine.execPpsInEdge sub s
  | .ppsInMiss d => Sys2Proof.Machine.execPpsInMiss d s
  | .ppsOutRise => Sys2Proof.Machine.execPpsOutRise s
  | .ppsOutFall => Sys2Proof.Machine.execPpsOutFall s
  | .timeFollowExchange => Sys2Proof.Machine.execTimeFollowExchange s
  | .timeFollowLoss => Sys2Proof.Machine.execTimeFollowLoss s
  | .timePortCalDone p => Sys2Proof.Machine.execTimePortCalDone p s
  | .cmpFire d n => Sys2Proof.Machine.execCmpFire d n s
  | .cmpArmWrite src page n val => Sys2Proof.Machine.execCmpArmWrite src page n val s
  | .txstampPop src page => Sys2Proof.Machine.execTxstampPop src page s
  | .collectorFlush d c => Sys2Proof.Machine.execCollectorFlush d c s
  | .collectorEnableWrite src page c val => Sys2Proof.Machine.execCollectorEnableWrite src page c val s
  | .bankCut d => Sys2Proof.Machine.execBankCut d s
  | .settleTimeout d => Sys2Proof.Machine.execSettleTimeout d s
  | .snapshotWritten d walks => Sys2Proof.Machine.execSnapshotWritten d walks s
  | .acctSnapConsWrite src page val => Sys2Proof.Machine.execAcctSnapConsWrite src page val s
  | .acctWeightWrite src page val => Sys2Proof.Machine.execAcctWeightWrite src page val s
  | .acctWeightRead src page val => Sys2Proof.Machine.execAcctWeightRead src page val s
  | .acctLiveRead src page val => Sys2Proof.Machine.execAcctLiveRead src page val s
  | .epochEnd r => Sys2Proof.Machine.execEpochEnd r s
  | .pmcDumpPeriod d => Sys2Proof.Machine.execPmcDumpPeriod d s
  | .pmcDumpWritten d walks => Sys2Proof.Machine.execPmcDumpWritten d walks s
  | .pmcClear src page n val => Sys2Proof.Machine.execPmcClear src page n val s
  | .msecTblWrite src page val => Sys2Proof.Machine.execMsecTblWrite src page val s
  | .msecTblRead src page val => Sys2Proof.Machine.execMsecTblRead src page val s
  | .keyWrite src page val => Sys2Proof.Machine.execKeyWrite src page val s
  | .keyErase src page val => Sys2Proof.Machine.execKeyErase src page val s
  | .keyInfo src page val => Sys2Proof.Machine.execKeyInfo src page val s
  | .keyZeroise d slot => Sys2Proof.Machine.execKeyZeroise d slot s
  | .cipherMessageDone d r mismatches staging walks => Sys2Proof.Machine.execCipherMessageDone d r mismatches staging walks s
  | .ucieLinkUp d mods => Sys2Proof.Machine.execUcieLinkUp d mods s
  | .ucieModuleLost d m => Sys2Proof.Machine.execUcieModuleLost d m s
  | .ucieRetrainTimer d ok => Sys2Proof.Machine.execUcieRetrainTimer d ok s
  | .functionReset d => Sys2Proof.Machine.execFunctionReset d s
  | .msixUnmask src page v val => Sys2Proof.Machine.execMsixUnmask src page v val s
  | .msixModerationExpire d r => Sys2Proof.Machine.execMsixModerationExpire d r s
  | .dtuInvAll src page val => Sys2Proof.Machine.execDtuInvAll src page val s
  | .dtuInvSpace src page val => Sys2Proof.Machine.execDtuInvSpace src page val s
  | .dtuInvRange src page val => Sys2Proof.Machine.execDtuInvRange src page val s
  | .dtuInvDone d => Sys2Proof.Machine.execDtuInvDone d s
  | .dtuFaultRetry src page val => Sys2Proof.Machine.execDtuFaultRetry src page val s
  | .dtuFaultAbort src page val => Sys2Proof.Machine.execDtuFaultAbort src page val s
  | .hqDoorbell src page r val => Sys2Proof.Machine.execHqDoorbell src page r val s
  | .hqCqDoorbell src page r val => Sys2Proof.Machine.execHqCqDoorbell src page r val s
  | .poolDoorbell src page p val => Sys2Proof.Machine.execPoolDoorbell src page p val s
  | .hqEnableWrite src page j val => Sys2Proof.Machine.execHqEnableWrite src page j val s
  | .hqRingRegWrite src page reg val => Sys2Proof.Machine.execHqRingRegWrite src page reg val s
  | .hqHbqMapWrite src page h val => Sys2Proof.Machine.execHqHbqMapWrite src page h val s
  | .dmaReadReturn d c w data => Sys2Proof.Machine.execDmaReadReturn d c w data s
  | .descNop d r walks => Sys2Proof.Machine.execDescNop d r walks s
  | .descFrame d r walks => Sys2Proof.Machine.execDescFrame d r walks s
  | .descTableRead d r errs walks => Sys2Proof.Machine.execDescTableRead d r errs walks s
  | .descTableWrite d r walks => Sys2Proof.Machine.execDescTableWrite d r walks s
  | .descCipher d r walks => Sys2Proof.Machine.execDescCipher d r walks s
  | .puntDeliver d h u walks => Sys2Proof.Machine.execPuntDeliver d h u walks s
  | .poolRefill d p => Sys2Proof.Machine.execPoolRefill d p s
  | .sliceSleepEnter sl => Sys2Proof.Machine.execSliceSleepEnter sl s
  | .sliceAsleep sl => Sys2Proof.Machine.execSliceAsleep sl s
  | .sliceWakeStart sl => Sys2Proof.Machine.execSliceWakeStart sl s
  | .sliceWakeDone sl => Sys2Proof.Machine.execSliceWakeDone sl s
  | .ratingStep sl => Sys2Proof.Machine.execRatingStep sl s
  | .droopStart d mv => Sys2Proof.Machine.execDroopStart d mv s
  | .droopEnd d mv => Sys2Proof.Machine.execDroopEnd d mv s
  | .droopRateWindow d => Sys2Proof.Machine.execDroopRateWindow d s
  | .thermalStep d reading => Sys2Proof.Machine.execThermalStep d reading s
  | .thermTrip d reading => Sys2Proof.Machine.execThermTrip d reading s
  | .pwrBrakeFall => Sys2Proof.Machine.execPwrBrakeFall s
  | .pwrBrakeRise => Sys2Proof.Machine.execPwrBrakeRise s
  | .arbiterSample d links mem compute => Sys2Proof.Machine.execArbiterSample d links mem compute s
  | .paddleOnUnmetStep d power => Sys2Proof.Machine.execPaddleOnUnmetStep d power s
  | .coxPhaseClear src page val => Sys2Proof.Machine.execCoxPhaseClear src page val s
  | .coxCalStart src page val => Sys2Proof.Machine.execCoxCalStart src page val s
  | .coxCalEnd d => Sys2Proof.Machine.execCoxCalEnd d s
  | .coxCfgWrite src page reg val => Sys2Proof.Machine.execCoxCfgWrite src page reg val s
  | .configScrub d found => Sys2Proof.Machine.execConfigScrub d found s
  | .decisionCacheScrub d bad => Sys2Proof.Machine.execDecisionCacheScrub d bad s
  | .watchdogKick src page val => Sys2Proof.Machine.execWatchdogKick src page val s
  | .watchdogExpire d => Sys2Proof.Machine.execWatchdogExpire d s
  | .paddleEnter src page val => Sys2Proof.Machine.execPaddleEnter src page val s
  | .paddleExit src page val => Sys2Proof.Machine.execPaddleExit src page val s
  | .wearMeasure d losses => Sys2Proof.Machine.execWearMeasure d losses s
  | .wearHoursLoad src page val => Sys2Proof.Machine.execWearHoursLoad src page val s
  | .wearHourTick d => Sys2Proof.Machine.execWearHourTick d s
  | .otpRead src page addr => Sys2Proof.Machine.execOtpRead src page addr s
  | .otpProgram src page addr => Sys2Proof.Machine.execOtpProgram src page addr s
  | .otpSvnInc src page => Sys2Proof.Machine.execOtpSvnInc src page s
  | .otpCmdDone took => Sys2Proof.Machine.execOtpCmdDone took s
  | .imageStart src page => Sys2Proof.Machine.execImageStart src page s
  | .imageAbort src page => Sys2Proof.Machine.execImageAbort src page s
  | .imageDataWrite src page off val => Sys2Proof.Machine.execImageDataWrite src page off val s
  | .imageVerifyDone d => Sys2Proof.Machine.execImageVerifyDone d s
  | .remoteFaultDetect p => Sys2Proof.Machine.execRemoteFaultDetect p s
  | .peerPresenceChange d present => Sys2Proof.Machine.execPeerPresenceChange d present s
  | .vaonLoss torn => Sys2Proof.Machine.execVaonLoss torn s
  | .tmapCmdDone sl => Sys2Proof.Machine.execTmapCmdDone sl s
  | .tcamRowOpDone sl => Sys2Proof.Machine.execTcamRowOpDone sl s
  | .frameRxEnd p => Sys2Proof.Machine.execFrameRxEnd p s

end Sys2Proof.Machine
end

