-- ==== Sys2Proof/Machine/Step.lean ====
section
/-!
DEFINITION. One step: the command at the front of the queue acts; with no command waiting one AON_CLK period passes.
-/
namespace Sys2Proof.Machine

/-- The state with its command queue replaced. -/
def State.withPending (s : State) (q : List Instr) : State := { s with pending := q }

/-- The state with a command put in front of its queue. -/
def State.push (s : State) (c : Instr) : State := s.withPending (c :: s.pending)

/-- One step of the block. -/
def step (s : State) : Host.Outcome State Fault Refusal :=
  match s.pending with
  | [] => .next s.aonTick
  | c :: q => exec c (s.withPending q)

/-- The state with the command that a table word spells put in front (no row gives bits: unchanged). -/
def State.withFetchWord (s : State) (nbits w : Nat) : State :=
  match decodeTableWord nbits w with
  | some c => s.push c
  | none => s

end Sys2Proof.Machine
end

