-- ==== Sys2Proof/Safety.lean ====
section
/-!
DEFINITION. What a run of the block keeps safe, in the terms that claims use: the parts of the state, two states that agree
on a part, the canonical form of everything stored, and what no command ever takes back.
-/
namespace Sys2Proof.Machine

/-- The parts of the state, one for each field of `State`. -/
inductive Part where
  | pending | out | free | pins | otp | regs | ctrs | latch | locks | boot | failed | resetting | wearBase | lanes
  | links | tabs | qdr | qdrBusy | clss | frames | nextFrame | slices | ports | lrns | keels | stalls | bufs | mcs
  | queues | times | accts | tels | dumps | admits | ciphers | msecs | hosts | coxs | css | test
  deriving DecidableEq, Repr

/-- The number of a part. -/
def Part.idx : Part → Nat
  | .pending => 0 | .out => 1 | .free => 2 | .pins => 3 | .otp => 4 | .regs => 5 | .ctrs => 6 | .latch => 7
  | .locks => 8 | .boot => 9 | .failed => 10 | .resetting => 11 | .wearBase => 12 | .lanes => 13 | .links => 14 | .tabs => 15
  | .qdr => 16 | .qdrBusy => 17 | .clss => 18 | .frames => 19 | .nextFrame => 20 | .slices => 21 | .ports => 22 | .lrns => 23
  | .keels => 24 | .stalls => 25 | .bufs => 26 | .mcs => 27 | .queues => 28 | .times => 29 | .accts => 30 | .tels => 31
  | .dumps => 32 | .admits => 33 | .ciphers => 34 | .msecs => 35 | .hosts => 36 | .coxs => 37 | .css => 38 | .test => 39

/-- The set of parts of a list, one bit for each part. -/
def Part.mask : List Part → Nat
  | [] => 0
  | p :: r => 2 ^ p.idx ||| Part.mask r

/-- Do two states agree on a part? -/
def State.same (s t : State) : Part → Prop
  | .pending => t.pending = s.pending
  | .out => t.out = s.out
  | .free => t.free = s.free
  | .pins => t.pins = s.pins
  | .otp => t.otp = s.otp
  | .regs => t.regs = s.regs
  | .ctrs => t.ctrs = s.ctrs
  | .latch => t.latch = s.latch
  | .locks => t.locks = s.locks
  | .boot => t.boot = s.boot
  | .failed => t.failed = s.failed
  | .resetting => t.resetting = s.resetting
  | .wearBase => t.wearBase = s.wearBase
  | .lanes => t.lanes = s.lanes
  | .links => t.links = s.links
  | .tabs => t.tabs = s.tabs
  | .qdr => t.qdr = s.qdr
  | .qdrBusy => t.qdrBusy = s.qdrBusy
  | .clss => t.clss = s.clss
  | .frames => t.frames = s.frames
  | .nextFrame => t.nextFrame = s.nextFrame
  | .slices => t.slices = s.slices
  | .ports => t.ports = s.ports
  | .lrns => t.lrns = s.lrns
  | .keels => t.keels = s.keels
  | .stalls => t.stalls = s.stalls
  | .bufs => t.bufs = s.bufs
  | .mcs => t.mcs = s.mcs
  | .queues => t.queues = s.queues
  | .times => t.times = s.times
  | .accts => t.accts = s.accts
  | .tels => t.tels = s.tels
  | .dumps => t.dumps = s.dumps
  | .admits => t.admits = s.admits
  | .ciphers => t.ciphers = s.ciphers
  | .msecs => t.msecs = s.msecs
  | .hosts => t.hosts = s.hosts
  | .coxs => t.coxs = s.coxs
  | .css => t.css = s.css
  | .test => t.test = s.test

/-- Everything stored by number is in canonical form: numbers strictly rise, and nothing is listed at the value that an
unlisted number reads as. -/
structure State.Canonical (s : State) : Prop where
  otp : s.otp.words.wf (fun _ => 0)
  regs : s.regs.wf (regDefault)
  ctrs : s.ctrs.wf (fun _ => 0)
  latch : s.latch.wf (fun _ => none)
  locks : s.locks.wf (fun _ => none)
  boot : s.boot.wf (fun _ => {})
  failed : s.failed.wf (fun _ => false)
  resetting : s.resetting.wf (fun _ => false)
  wearBase : s.wearBase.wf (fun _ => 0)
  lanes : s.lanes.wf (fun _ => {})
  links : s.links.wf (fun _ => {})
  tabs : s.tabs.wf (fun _ => {})
  qdr : s.qdr.wf (fun _ => none)
  qdrBusy : s.qdrBusy.wf (fun _ => none)
  clss : s.clss.wf (fun _ => {})
  frames : s.frames.wf (fun _ => none)
  slices : s.slices.wf (fun _ => {})
  ports : s.ports.wf (fun _ => {})
  lrns : s.lrns.wf (fun _ => {})
  keels : s.keels.wf (fun _ => {})
  stalls : s.stalls.wf (fun _ => [])
  bufs : s.bufs.wf (fun _ => {})
  mcs : s.mcs.wf (fun _ => 0)
  queues : s.queues.wf (fun _ => [])
  times : s.times.wf (fun _ => {})
  accts : s.accts.wf (fun _ => {})
  tels : s.tels.wf (fun _ => {})
  dumps : s.dumps.wf (fun _ => {})
  admits : s.admits.wf (fun _ => [])
  ciphers : s.ciphers.wf (fun _ => {})
  msecs : s.msecs.wf (fun _ => {})
  hosts : s.hosts.wf (fun _ => {})
  coxs : s.coxs.wf (fun _ => {})
  css : s.css.wf (fun _ => {})

/-- What no command takes back: what has left the block, the free values and frame numbers already used, and the programmed
bits of the OTP array (R494). -/
structure State.Grows (s t : State) : Prop where
  out : ∃ l, t.out = l ++ s.out
  free : s.free ≤ t.free
  nextFrame : s.nextFrame ≤ t.nextFrame
  otp : ∀ a, s.otpWord a &&& t.otpWord a = s.otpWord a

/-- The register spaces of a list of kinds: bit 64 + c for the own registers of kind code c, bit 128 + c for its headers. -/
def Kind.mask (header : Bool) : List Kind → Nat
  | [] => 0
  | k :: r => 2 ^ (64 + k.code + if header then 64 else 0) ||| Kind.mask header r

/-- `t` comes from `s` by changes to the parts and register spaces in `m` alone, it keeps the canonical form, and it takes
nothing back. -/
structure Does (m : Nat) (s t : State) : Prop where
  keep : ∀ p : Part, m.testBit p.idx = false → s.same t p
  regs : ∀ (p : Page) (o : Nat), m.testBit (64 + p.kind.space o) = false →
    t.reg p o = s.reg p o ∧ t.ctrs.get 0 (p.key o) = s.ctrs.get 0 (p.key o)
  canonical : s.Canonical → t.Canonical
  grows : s.Grows t

/-! ### What each command may touch -/

/-- What a command may touch: parts of the state, and, within the registers and counters, the kinds of unit whose own
registers (offsets from 0x40 on) it may change, and those whose header registers it may change. -/
structure Touch where
  parts : List Part
  own : List Kind
  head : List Kind

/-- The pages that an interrupt or a status passes on its way up (R46, R61). -/
def upTree : List Kind := [.port, .eight, .slice, .die, .device]

def Kind.all : List Kind :=
  [.lane, .port, .eight, .slice, .die, .device, .engine, .cs, .bufMgr, .qdr, .keel, .msec, .hif, .dtu, .cipher, .timeU, .cox,
   .otp, .tel, .cls, .lrn, .pmc, .ring, .acct, .aon]

/-- The parts that a frame's passage through the pipelines and the buffer can change (R30-R34). -/
def passage : List Part := [.out, .free, .regs, .ctrs, .tabs, .clss, .frames, .nextFrame, .slices, .ports, .keels,
  .stalls, .accts, .tels, .admits, .ciphers, .css]

/-- The own registers and headers that a frame's passage can change. -/
def passOwn : List Kind := [.port, .slice, .die, .engine, .cs, .bufMgr, .keel, .hif, .cipher, .cox, .tel, .cls]

/-- What each command may touch, from what its rules give it. -/
def touches : Instr → Touch
  | .registerWrite .. =>
    ⟨passage ++ [.otp, .latch, .locks, .boot, .resetting, .lanes, .links, .qdr, .qdrBusy, .bufs, .mcs, .queues, .times,
      .dumps, .msecs, .hosts, .coxs],
      Kind.all, Kind.all⟩
  | .counterLowWordRead .. | .i3cPrivateRead .. =>
    ⟨[.out, .regs, .ctrs, .latch, .keels, .times],
      Kind.all, Kind.all⟩
  | .unitReset .. =>
    ⟨passage ++ [.latch, .locks, .resetting, .lanes, .links, .queues, .times, .hosts, .coxs],
      Kind.all, Kind.all⟩
  | .unitResetDone .. =>
    ⟨[.resetting],
      [], []⟩
  | .lockAcquire .. | .lockRelease .. | .lockForce .. =>
    ⟨[.out, .regs, .locks, .keels],
      [.hif], Kind.all⟩
  | .interimSnapshotTrigger .. | .pmcDumpTrigger .. =>
    ⟨[.out, .regs, .ctrs, .keels, .accts, .dumps],
      [.hif, .pmc], Kind.all⟩
  | .pwrgoodAonAssert | .setdasa .. | .rstdaa =>
    ⟨[.pins],
      [], []⟩
  | .pwrgoodAonDeassert .. | .aonClkLoss .. | .vaonLoss .. =>
    ⟨[.out, .pins, .otp, .regs, .ctrs, .latch, .locks, .boot, .failed, .resetting, .wearBase, .lanes, .links,
      .tabs, .qdrBusy, .clss, .frames, .slices, .ports, .lrns, .keels, .stalls, .bufs, .mcs, .queues, .times,
      .accts, .tels, .dumps, .admits, .ciphers, .msecs, .hosts, .coxs, .css],
      Kind.all, Kind.all⟩
  | .resetNAssert =>
    ⟨[.out, .pins, .otp, .regs, .ctrs, .latch, .locks, .boot, .failed, .resetting, .lanes, .links, .tabs,
      .qdrBusy, .clss, .frames, .slices, .ports, .lrns, .keels, .stalls, .bufs, .mcs, .queues, .times, .accts,
      .tels, .dumps, .admits, .ciphers, .msecs, .hosts, .coxs, .css],
      Kind.all, Kind.all⟩
  | .resetNDeassert .. =>
    ⟨[.out, .pins, .otp, .regs, .ctrs, .boot, .frames, .nextFrame, .admits, .coxs],
      [.hif, .cox, .otp, .aon], upTree ++ [.cox, .otp]⟩
  | .rollCallDone .. =>
    ⟨[.out, .free, .regs, .ctrs, .boot, .failed, .wearBase, .lanes, .links, .tabs, .frames, .nextFrame,
      .slices, .ports, .keels, .queues, .accts, .tels, .admits, .ciphers],
      [.lane, .port, .eight, .slice, .cs, .bufMgr, .keel, .hif, .timeU, .cox, .tel, .ring, .acct, .aon], Kind.all⟩
  | .shadowFrameResend .. | .getpid | .getdcr =>
    ⟨[.out],
      [], []⟩
  | .shadowDone | .shadowSecondPartTimeout =>
    ⟨[.out, .free, .regs, .ctrs, .boot, .lanes, .links, .tabs, .frames, .nextFrame, .slices, .ports, .keels,
      .queues, .accts, .tels, .admits, .ciphers],
      [.lane, .port, .eight, .slice, .bufMgr, .hif, .tel, .ring], upTree ++ [.tel]⟩
  | .shadowFirstPartTimeout =>
    ⟨[.out, .regs, .ctrs, .latch, .locks, .boot, .failed, .resetting, .lanes, .links, .tabs, .qdrBusy, .clss,
      .frames, .slices, .ports, .lrns, .keels, .stalls, .bufs, .mcs, .queues, .times, .accts, .tels, .dumps,
      .admits, .ciphers, .msecs, .hosts, .coxs, .css],
      Kind.all, Kind.all⟩
  | .railOutOfRange .. =>
    ⟨passage ++ [.latch, .locks, .boot, .failed, .resetting, .lanes, .links, .qdrBusy, .lrns, .bufs, .mcs, .queues,
      .times, .dumps, .msecs, .hosts, .coxs],
      Kind.all, Kind.all⟩
  | .refclkLaneLoss .. =>
    ⟨[.out, .pins, .regs, .lanes, .links],
      [.lane, .port, .hif], upTree⟩
  | .entdaa .. =>
    ⟨[.out, .pins],
      [], []⟩
  | .getbcr =>
    ⟨[.out, .free],
      [], []⟩
  | .i3cPrivateWrite .. =>
    ⟨passage ++ [.pins, .otp, .latch, .locks, .boot, .resetting, .lanes, .links, .qdr, .qdrBusy, .bufs, .mcs, .queues,
      .times, .dumps, .msecs, .hosts, .coxs],
      Kind.all, Kind.all⟩
  | .eightArrangeWrite .. | .eightPairRateWrite .. =>
    ⟨[.out, .free, .regs, .ctrs, .lanes, .links, .tabs, .frames, .nextFrame, .slices, .ports, .keels, .queues,
      .accts, .tels, .admits, .ciphers],
      [.lane, .port, .eight, .slice, .bufMgr, .hif, .tel], upTree ++ [.hif, .tel]⟩
  | .laneRxLimitWrite .. =>
    ⟨[.out, .regs, .keels],
      [.lane, .hif], Kind.all⟩
  | .portEnable .. | .portDisable .. =>
    ⟨[.out, .free, .regs, .ctrs, .lanes, .links, .tabs, .frames, .nextFrame, .slices, .ports, .keels, .queues,
      .accts, .tels, .admits, .ciphers, .coxs],
      [.lane, .port, .slice, .bufMgr, .hif, .tel], Kind.all⟩
  | .anResolved .. =>
    ⟨[.out, .regs, .lanes],
      [.lane, .port], []⟩
  | .anFail .. =>
    ⟨[.out, .regs, .links],
      [.hif], upTree⟩
  | .anBreakLinkExpire .. =>
    ⟨[.out, .links],
      [], []⟩
  | .trainCoefRequest .. =>
    ⟨[.out, .regs],
      [.lane], []⟩
  | .trainComplete .. =>
    ⟨[.free, .regs, .links, .coxs],
      [.lane, .port], []⟩
  | .trainTimeout .. | .alignTimeout .. | .holdFaultTimeout .. =>
    ⟨[.out, .regs, .lanes, .links],
      [.lane, .port, .hif], upTree⟩
  | .alignLock .. =>
    ⟨[.regs, .links, .coxs],
      [.lane, .port], []⟩
  | .upHoldoffExpire .. =>
    ⟨[.out, .free, .regs, .ctrs, .links, .ports, .keels],
      [.port, .hif], upTree⟩
  | .linkDownDetect .. | .linkDownClear .. =>
    ⟨[.out, .regs, .ctrs, .lanes, .links],
      [.lane, .port, .hif], upTree⟩
  | .downDebounceExpire .. | .remoteFaultDebounceExpire .. =>
    ⟨[.out, .free, .regs, .ctrs, .lanes, .links, .tabs, .frames, .nextFrame, .slices, .ports, .keels, .queues,
      .accts, .tels, .admits, .ciphers],
      [.lane, .port, .slice, .bufMgr, .hif, .tel], upTree ++ [.tel]⟩
  | .remoteFaultClear .. | .mmResponseRx .. | .queueDrainDone .. | .queueSample .. | .timePortCalDone .. 
  | .remoteFaultDetect .. =>
    ⟨[.regs],
      [.port], []⟩
  | .portFlushDone .. =>
    ⟨[.out, .regs, .ctrs, .frames, .nextFrame, .ports, .accts, .tels, .admits],
      [.port, .slice, .bufMgr, .hif, .tel], upTree ++ [.tel]⟩
  | .frameRx .. =>
    ⟨[.out, .free, .regs, .ctrs, .lanes, .links, .frames, .nextFrame, .ports, .ciphers, .msecs],
      [.lane, .port, .msec, .hif], upTree ++ [.msec]⟩
  | .pauseRx .. =>
    ⟨[.ctrs],
      [.port], []⟩
  | .pfcRx .. =>
    ⟨[.regs, .ctrs, .ports],
      [.port], []⟩
  | .pfcPauseExpire .. =>
    ⟨[.regs, .ports],
      [.port], []⟩
  | .mmFragmentRx .. =>
    ⟨[.out, .free, .regs, .ctrs, .links, .frames, .nextFrame, .ports, .ciphers, .msecs],
      [.port, .msec, .hif], upTree ++ [.msec]⟩
  | .mmVerifyRx .. | .pfcRefresh .. =>
    ⟨[.out, .free, .ctrs, .links, .ports],
      [.port], []⟩
  | .mmVerifyTimer .. | .gateEntryBoundary .. =>
    ⟨[.out, .free, .regs, .ctrs, .links, .ports],
      [.port], []⟩
  | .pipelineEntry .. =>
    ⟨[.out, .free, .regs, .ctrs, .links, .tabs, .clss, .frames, .nextFrame, .slices, .ports, .lrns, .keels,
      .stalls, .accts, .tels, .admits],
      [.port, .slice, .die, .cs, .bufMgr, .keel, .hif, .cox, .tel, .cls, .lrn], upTree ++ [.tel, .cls, .lrn]⟩
  | .clsWalkDone .. =>
    ⟨[.out, .regs, .ctrs, .clss, .frames, .nextFrame, .keels, .stalls, .accts, .tels, .admits],
      [.port, .slice, .die, .bufMgr, .qdr, .keel, .hif, .tel, .cls], upTree ++ [.qdr, .tel, .cls]⟩
  | .treeFailedMark .. =>
    ⟨[.out, .regs],
      [.hif, .cls], upTree ++ [.cls]⟩
  | .clsFifoResume .. | .pipelineStallRelease .. =>
    ⟨[.out, .free, .regs, .ctrs, .tabs, .clss, .frames, .nextFrame, .slices, .keels, .stalls, .accts, .tels,
      .admits],
      [.port, .slice, .die, .bufMgr, .keel, .hif, .cox, .tel, .cls], upTree ++ [.tel, .cls]⟩
  | .clsTreeSwap .. =>
    ⟨[.out, .regs, .clss, .keels],
      [.hif, .cls], upTree ++ [.hif, .cls]⟩
  | .clsSwapDone .. =>
    ⟨[.out, .free, .regs, .ctrs, .tabs, .clss, .frames, .nextFrame, .keels, .stalls, .accts, .tels, .admits],
      [.port, .slice, .die, .bufMgr, .keel, .hif, .cox, .tel, .cls], upTree ++ [.tel, .cls]⟩
  | .clsTreeRootWrite .. =>
    ⟨[.out, .regs, .keels],
      [.hif, .cls], upTree ++ [.hif, .cls]⟩
  | .clsCacheFlush .. | .clsTtWrite .. | .clsTtRead .. =>
    ⟨[.out, .regs, .clss, .keels],
      [.hif, .cls], upTree ++ [.hif]⟩
  | .qdrWrite .. | .qdrRead .. =>
    ⟨[.out, .regs, .qdrBusy, .keels],
      [.qdr, .hif], upTree ++ [.qdr, .hif]⟩
  | .qdrAccessDone .. =>
    ⟨[.out, .regs, .ctrs, .qdr, .qdrBusy, .clss],
      [.qdr, .hif], upTree ++ [.qdr]⟩
  | .prsMemWrite .. | .prsMemRead .. | .tmapDelete .. | .tcamInvalidate .. | .tcamWrite .. | .tcamValidate .. 
  | .emDelete .. | .lpmInsert .. | .lpmDelete .. | .tblIdxWrite .. | .tblIdxRead .. =>
    ⟨[.out, .regs, .tabs, .keels],
      [.slice, .hif], upTree ++ [.hif]⟩
  | .tmapInsert .. | .emInsert .. =>
    ⟨[.out, .regs, .ctrs, .tabs, .keels],
      [.slice, .hif], upTree ++ [.hif]⟩
  | .tmapLookup .. | .tcamRead .. | .tcamBlockCfgWrite .. | .stageCfgWrite .. | .emLookup .. | .emSeedWrite .. 
  | .lpmLookup .. | .tableLockRequest .. | .tableLockRelease .. | .policerRead .. =>
    ⟨[.out, .regs, .keels],
      [.slice, .hif], upTree ++ [.hif]⟩
  | .tcamScrub .. | .parityRepair .. =>
    ⟨[.ctrs, .tabs],
      [.slice], []⟩
  | .emCmdDone .. | .lpmCmdDone .. | .tableLockGrant .. | .tmapCmdDone .. | .tcamRowOpDone .. =>
    ⟨[.regs],
      [.slice], []⟩
  | .tableLockTimeout .. =>
    ⟨[.out, .regs],
      [.slice, .hif], upTree⟩
  | .learnEventApply .. =>
    ⟨[.out, .regs, .ctrs, .tabs, .frames, .nextFrame, .lrns, .admits],
      [.slice, .hif, .lrn], upTree ++ [.lrn]⟩
  | .learnUnpin .. =>
    ⟨[.tabs, .lrns],
      [], []⟩
  | .learnMoveWindowExpire .. =>
    ⟨[.lrns],
      [], []⟩
  | .ageScan .. =>
    ⟨[.ctrs, .tabs, .frames, .nextFrame, .admits],
      [.lrn], []⟩
  | .engineDispatch .. | .aluNop .. | .aluMov .. | .aluAdd .. | .aluSub .. | .aluAnd .. | .aluOr .. | .aluXor .. 
  | .aluShl .. | .aluShr .. | .aluSar .. | .aluCmp .. | .aluMin .. | .aluMax .. | .aluExt .. | .aluIns .. | .aluMul .. 
  | .aluCrc32c .. | .memHrd .. | .memHwr .. | .memMrd .. | .memMwr .. | .memTrd .. | .memTwr .. | .memEml .. | .memLpm ..
  | .memQrd .. | .memQwr .. | .memCnt .. | .memLock .. | .memXrd .. | .memCu .. | .lockGrant .. | .csScrub .. =>
    ⟨passage,
      passOwn, upTree ++ [.cs, .tel, .cls]⟩
  | .memReadReturn .. =>
    ⟨passage,
      passOwn ++ [.qdr], upTree ++ [.cs, .qdr, .cipher, .tel, .cls]⟩
  | .routineCommit .. =>
    ⟨passage ++ [.qdr],
      passOwn ++ [.qdr], upTree ++ [.cs, .tel, .cls]⟩
  | .csEventGo .. =>
    ⟨passage ++ [.coxs],
      passOwn, upTree ++ [.cs, .hif, .tel, .cls]⟩
  | .engineFault .. =>
    ⟨passage,
      passOwn, upTree ++ [.engine, .cs, .tel, .cls]⟩
  | .csDmaWaitExpire .. =>
    ⟨[.out, .free, .regs, .ctrs, .tabs, .clss, .frames, .nextFrame, .slices, .ports, .keels, .stalls, .accts,
      .tels, .admits, .css],
      [.port, .slice, .die, .cs, .bufMgr, .keel, .hif, .cox, .tel, .cls], upTree ++ [.tel, .cls]⟩
  | .csWordWrite .. =>
    ⟨[.out, .regs, .keels, .css],
      [.cs, .hif], upTree ++ [.cs, .hif]⟩
  | .csWordRead .. =>
    ⟨[.out, .regs, .keels],
      [.cs, .hif], upTree ++ [.hif]⟩
  | .csRunWrite .. =>
    ⟨passage,
      passOwn, upTree ++ [.cs, .hif, .tel, .cls]⟩
  | .csReloadDone .. =>
    ⟨[.out, .regs, .css],
      [.cs, .hif], upTree ++ [.cs]⟩
  | .frameAdmit .. =>
    ⟨[.out, .free, .regs, .ctrs, .frames, .nextFrame, .ports, .bufs, .queues, .accts, .tels, .admits],
      [.port, .slice, .bufMgr, .hif, .cox, .tel], upTree ++ [.bufMgr, .tel]⟩
  | .frameLastCell .. =>
    ⟨[.out, .regs, .ctrs, .frames, .nextFrame, .ports, .queues, .accts, .tels, .admits],
      [.port, .slice, .die, .bufMgr, .hif, .cox, .tel], upTree ++ [.tel]⟩
  | .macsecVerdict .. =>
    ⟨passage ++ [.lrns, .queues, .msecs],
      [.port, .slice, .die, .bufMgr, .keel, .msec, .hif, .cipher, .cox, .tel, .cls, .lrn], upTree ++ [.tel, .cls, .lrn]⟩
  | .transmitStart .. =>
    ⟨[.out, .free, .regs, .ctrs, .links, .tabs, .clss, .frames, .nextFrame, .slices, .ports, .lrns, .keels,
      .stalls, .bufs, .queues, .times, .accts, .tels, .admits, .ciphers, .msecs],
      [.port, .slice, .die, .cs, .bufMgr, .keel, .msec, .hif, .timeU, .cox, .tel, .cls, .lrn], upTree ++ [.bufMgr, .msec, .timeU, .tel, .cls, .lrn]⟩
  | .transmitEnd .. =>
    ⟨[.out, .free, .regs, .ctrs, .links, .frames, .nextFrame, .ports, .bufs, .accts, .tels, .admits, .ciphers],
      [.port, .slice, .bufMgr, .hif, .cox, .tel], upTree ++ [.bufMgr, .tel]⟩
  | .pfcEval .. =>
    ⟨[.out, .free, .regs, .ctrs, .links, .ports, .keels, .bufs],
      [.port], []⟩
  | .queueHeadAgeCheck .. =>
    ⟨[.out, .regs, .ctrs, .frames, .nextFrame, .ports, .queues, .accts, .tels, .admits],
      [.port, .slice, .bufMgr, .hif, .tel], upTree ++ [.tel]⟩
  | .bufPoolLimitWrite .. | .queueDisable .. | .queueEnable .. =>
    ⟨[.out, .regs, .ctrs, .frames, .nextFrame, .ports, .keels, .queues, .accts, .tels, .admits],
      Kind.all, Kind.all⟩
  | .mcGroupWrite .. =>
    ⟨[.out, .regs, .keels, .mcs],
      [.bufMgr, .hif], upTree ++ [.hif]⟩
  | .mcGroupRead .. =>
    ⟨[.out, .regs, .keels],
      [.bufMgr, .hif], upTree ++ [.hif]⟩
  | .shaperWheelSlot .. =>
    ⟨[.ports],
      [], []⟩
  | .schCfgWrite .. | .gateChange .. | .gateListWriteAdmin .. =>
    ⟨[.out, .regs, .ports, .keels],
      [.port, .hif], upTree ++ [.hif]⟩
  | .mmCfgWrite .. =>
    ⟨[.out, .free, .regs, .ctrs, .links, .ports, .keels],
      [.port, .hif], upTree ++ [.hif]⟩
  | .policerWrite .. | .policerReadClear .. =>
    ⟨[.out, .regs, .slices, .keels],
      [.slice, .hif], upTree ++ [.hif]⟩
  | .gateChangeApply .. =>
    ⟨[.regs, .ports],
      [.port], [.port]⟩
  | .gateListReadAdmin .. | .gateListReadOper .. =>
    ⟨[.out, .regs, .keels],
      [.port, .hif], upTree ++ [.hif]⟩
  | .keelCellRx .. =>
    ⟨[.out, .regs, .ctrs, .frames, .nextFrame, .ports, .keels, .queues, .accts, .tels, .admits],
      [.port, .slice, .bufMgr, .keel, .hif, .tel], upTree ++ [.tel]⟩
  | .keelCellSend .. =>
    ⟨[.out, .regs, .ctrs, .frames, .nextFrame, .ports, .keels, .queues, .accts, .tels, .admits],
      [.port, .slice, .die, .bufMgr, .keel, .hif, .cox, .tel], upTree ++ [.tel]⟩
  | .keelIdleSend .. =>
    ⟨[.out, .regs, .ctrs, .keels],
      [.keel], []⟩
  | .keelCtrlCellRx .. =>
    ⟨passage ++ [.otp, .latch, .locks, .boot, .resetting, .lanes, .links, .qdr, .qdrBusy, .lrns, .bufs, .mcs, .queues,
      .times, .dumps, .msecs, .hosts, .coxs],
      Kind.all, Kind.all⟩
  | .keelAckRx .. =>
    ⟨[.regs, .ctrs, .keels],
      [.keel], []⟩
  | .keelCtrlResend .. =>
    ⟨[.out, .ctrs, .keels],
      [.keel], []⟩
  | .sublinkFailDetect .. | .sublinkTrainTimeout .. =>
    ⟨[.out, .regs, .ctrs, .keels],
      [.keel, .hif], upTree ++ [.keel]⟩
  | .sublinkTrainStart .. =>
    ⟨[.regs, .keels],
      [.keel], []⟩
  | .sublinkTrained .. =>
    ⟨[.out, .regs, .keels],
      [.keel, .hif], upTree ++ [.keel]⟩
  | .sublinkDisable .. | .sublinkEnable .. =>
    ⟨[.out, .regs, .ctrs, .frames, .nextFrame, .ports, .keels, .queues, .accts, .tels, .admits],
      [.port, .slice, .bufMgr, .keel, .hif, .tel], Kind.all⟩
  | .forceSplit .. | .splitEnter .. | .keelResume .. =>
    ⟨[.out, .free, .regs, .ctrs, .locks, .frames, .nextFrame, .ports, .keels, .bufs, .queues, .times, .accts,
      .tels, .admits, .coxs],
      [.port, .slice, .bufMgr, .keel, .hif, .timeU, .cox, .tel], Kind.all⟩
  | .rejoinStart =>
    ⟨[.regs, .keels, .times],
      [.keel, .timeU], []⟩
  | .rejoinTimeAligned =>
    ⟨[.out, .regs],
      [.keel, .hif, .timeU], upTree ++ [.timeU]⟩
  | .mergeLearnDone =>
    ⟨[.out, .regs, .ctrs, .tabs, .keels],
      [.slice, .keel, .hif], upTree ++ [.keel]⟩
  | .rejoinResumingDone =>
    ⟨[.out, .regs, .ctrs, .locks, .lrns],
      [.keel, .hif, .lrn], upTree ++ [.keel, .lrn]⟩
  | .rejoinAbort =>
    ⟨[.out, .free, .regs, .ctrs, .frames, .nextFrame, .ports, .keels, .bufs, .queues, .times, .accts, .tels,
      .admits],
      [.port, .slice, .bufMgr, .keel, .hif, .timeU, .tel], upTree ++ [.keel, .hif, .timeU, .tel]⟩
  | .timeStepSet .. | .timeStepAdd .. | .timeStepSubtract .. =>
    ⟨[.out, .regs, .keels, .times],
      [.hif, .timeU], Kind.all⟩
  | .timeStepApply .. | .ppsInEdge .. | .timeFollowExchange =>
    ⟨[.out, .free, .regs, .ctrs, .links, .ports, .times],
      [.port, .hif, .timeU], upTree ++ [.timeU]⟩
  | .timeOffsetSubmit .. =>
    ⟨[.out, .free, .regs, .ctrs, .links, .ports, .keels, .times],
      [.port, .hif, .timeU], upTree ++ [.hif, .timeU]⟩
  | .timeRefChange .. | .timeRefSelWrite .. | .timeLatch .. =>
    ⟨[.out, .free, .regs, .ctrs, .keels, .times],
      [.hif, .timeU], upTree ++ [.hif, .timeU]⟩
  | .timeRefTimeout .. | .timeFollowLoss =>
    ⟨[.out, .free, .regs, .ctrs, .times],
      [.hif, .timeU], upTree ++ [.timeU]⟩
  | .ppsInMiss .. =>
    ⟨[.out, .regs],
      [.hif], upTree ++ [.timeU]⟩
  | .ppsOutRise | .ppsOutFall =>
    ⟨[.out, .times],
      [], []⟩
  | .cmpFire .. =>
    ⟨passage ++ [.times, .dumps, .coxs],
      passOwn ++ [.timeU, .pmc, .acct], upTree ++ [.cs, .timeU, .tel, .cls, .pmc, .acct]⟩
  | .cmpArmWrite .. =>
    ⟨[.out, .regs, .keels, .times],
      [.hif, .timeU], upTree ++ [.hif, .timeU]⟩
  | .txstampPop .. =>
    ⟨[.out, .regs, .keels, .times],
      Kind.all, upTree ++ [.hif]⟩
  | .collectorFlush .. =>
    ⟨[.regs, .frames, .nextFrame, .tels, .admits],
      [.tel], []⟩
  | .collectorEnableWrite .. =>
    ⟨[.out, .regs, .ctrs, .keels, .tels],
      [.hif, .tel], upTree ++ [.hif, .tel]⟩
  | .bankCut .. =>
    ⟨[.out, .regs, .ctrs, .accts],
      [.hif, .acct], upTree ++ [.acct]⟩
  | .settleTimeout .. =>
    ⟨passage ++ [.queues],
      [.port, .slice, .die, .bufMgr, .keel, .hif, .cipher, .cox, .tel, .cls, .acct], upTree ++ [.tel, .cls, .acct]⟩
  | .snapshotWritten .. =>
    ⟨[.out, .regs, .ctrs, .accts, .hosts],
      [.hif, .dtu, .acct], upTree ++ [.dtu, .acct]⟩
  | .acctSnapConsWrite .. | .acctLiveRead .. =>
    ⟨[.out, .regs, .keels],
      [.hif, .acct], upTree ++ [.hif]⟩
  | .acctWeightWrite .. | .acctWeightRead .. =>
    ⟨[.out, .regs, .keels, .accts],
      [.hif, .acct], upTree ++ [.hif]⟩
  | .epochEnd .. =>
    ⟨[.out, .regs, .ctrs, .frames, .nextFrame, .keels, .accts, .admits, .coxs],
      [.hif, .cox], upTree ++ [.cox]⟩
  | .pmcDumpPeriod .. =>
    ⟨[.out, .regs, .ctrs, .dumps],
      [.hif, .pmc], upTree ++ [.pmc]⟩
  | .pmcDumpWritten .. =>
    ⟨[.out, .regs, .ctrs, .dumps, .hosts],
      [.hif, .dtu, .pmc], Kind.all⟩
  | .pmcClear .. =>
    ⟨[.out, .regs, .ctrs, .keels],
      Kind.all, Kind.all⟩
  | .msecTblWrite .. | .msecTblRead .. =>
    ⟨[.out, .regs, .keels, .msecs],
      [.msec, .hif], upTree ++ [.hif]⟩
  | .keyWrite .. | .keyErase .. =>
    ⟨[.out, .regs, .keels, .ciphers],
      [.hif, .cipher], upTree ++ [.hif, .cipher]⟩
  | .keyInfo .. =>
    ⟨[.out, .regs, .keels],
      [.hif, .cipher], upTree ++ [.hif, .cipher]⟩
  | .keyZeroise .. =>
    ⟨[.out, .regs, .ciphers],
      [.hif], upTree ++ [.cipher]⟩
  | .cipherMessageDone .. =>
    ⟨[.out, .regs, .ctrs, .ciphers, .hosts],
      [.die, .hif, .dtu, .cipher], upTree ++ [.hif, .dtu, .cipher]⟩
  | .ucieLinkUp .. =>
    ⟨[.out, .regs, .ctrs, .hosts],
      [.hif], upTree ++ [.hif]⟩
  | .ucieModuleLost .. | .functionReset .. =>
    ⟨passage ++ [.locks, .queues, .dumps, .hosts],
      [.port, .slice, .die, .cs, .bufMgr, .keel, .hif, .dtu, .cipher, .cox, .tel, .cls], upTree ++ [.cs, .hif, .dtu, .tel, .cls]⟩
  | .ucieRetrainTimer .. =>
    ⟨[.regs, .hosts],
      [.hif], []⟩
  | .msixUnmask .. | .hqHbqMapWrite .. =>
    ⟨[.out, .regs, .keels],
      [.hif], upTree ++ [.hif]⟩
  | .msixModerationExpire .. =>
    ⟨[.out, .regs, .hosts],
      [.hif], []⟩
  | .dtuInvAll .. | .dtuInvSpace .. | .dtuInvRange .. =>
    ⟨[.out, .regs, .keels, .hosts],
      [.hif, .dtu], upTree ++ [.hif]⟩
  | .dtuInvDone .. =>
    ⟨[.out, .regs],
      [.hif, .dtu], upTree ++ [.dtu]⟩
  | .dtuFaultRetry .. | .dtuFaultAbort .. =>
    ⟨passage ++ [.dumps, .hosts],
      passOwn ++ [.dtu], upTree ++ [.cs, .hif, .dtu, .tel, .cls]⟩
  | .hqDoorbell .. | .hqCqDoorbell .. | .poolDoorbell .. | .hqEnableWrite .. | .hqRingRegWrite .. =>
    ⟨[.out, .regs, .keels, .hosts],
      [.hif], upTree ++ [.hif]⟩
  | .dmaReadReturn .. =>
    ⟨passage ++ [.qdr, .hosts],
      passOwn ++ [.dtu], upTree ++ [.cs, .hif, .dtu, .tel, .cls]⟩
  | .descNop .. | .descTableWrite .. =>
    ⟨[.out, .regs, .ctrs, .hosts],
      [.hif, .dtu], upTree ++ [.hif, .dtu]⟩
  | .descFrame .. =>
    ⟨[.out, .regs, .ctrs, .frames, .nextFrame, .keels, .accts, .tels, .admits, .hosts],
      [.port, .slice, .bufMgr, .keel, .hif, .dtu, .tel], upTree ++ [.hif, .dtu, .tel]⟩
  | .descTableRead .. =>
    ⟨[.out, .regs, .ctrs, .hosts],
      [.slice, .qdr, .hif, .dtu], upTree ++ [.qdr, .hif, .dtu]⟩
  | .descCipher .. =>
    ⟨[.out, .regs, .ctrs, .ciphers, .hosts],
      [.hif, .dtu, .cipher], upTree ++ [.hif, .dtu]⟩
  | .puntDeliver .. =>
    ⟨[.out, .free, .regs, .ctrs, .frames, .nextFrame, .ports, .bufs, .queues, .accts, .tels, .admits, .hosts],
      [.port, .slice, .die, .bufMgr, .hif, .dtu, .tel], upTree ++ [.bufMgr, .hif, .dtu, .tel]⟩
  | .poolRefill .. =>
    ⟨[.hosts],
      [], []⟩
  | .sliceSleepEnter .. =>
    ⟨[.out, .regs],
      [.hif, .aon], upTree⟩
  | .sliceAsleep .. =>
    ⟨[.out, .regs],
      [.hif, .aon], upTree ++ [.aon]⟩
  | .sliceWakeStart .. =>
    ⟨[.out, .regs, .coxs],
      [.hif, .aon], upTree⟩
  | .sliceWakeDone .. =>
    ⟨passage ++ [.coxs],
      passOwn ++ [.aon], upTree ++ [.cs, .tel, .cls, .aon]⟩
  | .ratingStep .. =>
    ⟨[.coxs],
      [], []⟩
  | .droopStart .. =>
    ⟨[.out, .regs, .ctrs, .coxs],
      [.hif, .cox, .aon], upTree ++ [.aon]⟩
  | .droopEnd .. =>
    ⟨[.regs, .ctrs, .coxs],
      [.cox, .aon], []⟩
  | .droopRateWindow .. | .arbiterSample .. =>
    ⟨[.out, .regs, .ctrs, .frames, .nextFrame, .admits, .coxs],
      [.hif, .cox], upTree ++ [.cox]⟩
  | .thermalStep .. =>
    ⟨[.out, .regs, .ctrs, .frames, .nextFrame, .admits, .coxs],
      [.hif, .cox, .aon], upTree ++ [.cox, .aon]⟩
  | .thermTrip .. =>
    ⟨[.out, .pins, .regs, .ctrs, .frames, .nextFrame, .admits, .coxs],
      [.hif, .cox, .aon], upTree ++ [.cox, .aon]⟩
  | .pwrBrakeFall | .pwrBrakeRise =>
    ⟨[.out, .pins, .regs, .ctrs, .frames, .nextFrame, .admits, .coxs],
      [.hif, .cox], upTree ++ [.cox]⟩
  | .paddleOnUnmetStep .. =>
    ⟨[.out, .regs, .ctrs, .frames, .nextFrame, .accts, .tels, .admits, .coxs],
      [.slice, .hif, .cox, .tel], upTree ++ [.cox, .tel]⟩
  | .coxPhaseClear .. =>
    ⟨[.out, .regs, .ctrs, .frames, .nextFrame, .keels, .admits, .coxs],
      [.hif, .cox], upTree ++ [.hif, .cox]⟩
  | .coxCalStart .. =>
    ⟨[.out, .regs, .keels, .coxs],
      [.hif, .cox], upTree ++ [.hif]⟩
  | .coxCalEnd .. =>
    ⟨[.out, .regs, .coxs],
      [.hif, .cox], upTree ++ [.cox]⟩
  | .coxCfgWrite .. =>
    ⟨[.out, .regs, .ctrs, .frames, .nextFrame, .keels, .admits, .coxs],
      [.hif, .cox], Kind.all⟩
  | .configScrub .. =>
    ⟨[.out, .free, .regs, .ctrs, .lanes, .links, .tabs, .frames, .nextFrame, .slices, .ports, .keels, .mcs,
      .queues, .accts, .tels, .admits, .ciphers, .msecs, .hosts, .coxs],
      Kind.all, Kind.all⟩
  | .decisionCacheScrub .. =>
    ⟨[.out, .regs, .ctrs, .clss],
      [.die, .hif], upTree⟩
  | .watchdogKick .. =>
    ⟨[.out, .regs, .keels],
      [.die, .hif], Kind.all⟩
  | .watchdogExpire .. =>
    ⟨[.out, .regs, .ctrs, .accts, .tels],
      [.slice, .die, .hif, .tel], upTree ++ [.tel]⟩
  | .paddleEnter .. | .paddleExit .. =>
    ⟨[.out, .regs, .ctrs, .ports, .keels, .accts, .tels],
      [.slice, .hif, .tel], upTree ++ [.hif, .tel]⟩
  | .wearMeasure .. =>
    ⟨[.out, .regs, .wearBase],
      [.hif, .aon], upTree ++ [.aon]⟩
  | .wearHoursLoad .. =>
    ⟨[.out, .regs, .keels],
      [.hif, .aon], upTree ++ [.hif]⟩
  | .wearHourTick .. =>
    ⟨[.regs],
      [.aon], []⟩
  | .otpRead .. | .otpProgram .. | .otpSvnInc .. =>
    ⟨[.out, .otp, .regs, .keels],
      [.hif, .otp], upTree ++ [.hif]⟩
  | .otpCmdDone .. =>
    ⟨[.otp, .regs],
      [.otp], [.otp]⟩
  | .imageStart .. =>
    ⟨[.out, .regs, .boot, .keels],
      [.die, .hif], upTree ++ [.hif]⟩
  | .imageAbort .. =>
    ⟨[.out, .regs, .boot, .keels],
      [.die, .cs, .hif], upTree ++ [.hif]⟩
  | .imageDataWrite .. =>
    ⟨passage ++ [.otp, .locks, .boot, .lanes, .links, .qdr, .qdrBusy, .bufs, .mcs, .queues, .times, .dumps, .msecs,
      .hosts, .coxs],
      Kind.all, Kind.all⟩
  | .imageVerifyDone .. =>
    ⟨passage ++ [.otp, .locks, .boot, .lanes, .links, .qdrBusy, .bufs, .mcs, .queues, .times, .dumps, .msecs, .hosts,
      .coxs],
      Kind.all, Kind.all⟩
  | .peerPresenceChange .. =>
    ⟨[.regs],
      [.keel], []⟩
  | .frameRxEnd .. =>
    ⟨[.out, .regs, .ctrs, .frames, .nextFrame, .slices, .ports, .queues, .accts, .tels, .admits],
      [.port, .slice, .bufMgr, .hif, .tel], upTree ++ [.tel]⟩

/-- The set of parts and register spaces of a command, as `Does` reads it. -/
def Touch.mask (x : Touch) : Nat := Part.mask x.parts ||| Kind.mask false x.own ||| Kind.mask true x.head

/-- A command of source `src` reaches page `p` at once: its path is up, the page index is mapped for it, and the page is not
one of the other die, to which keel control cells carry the access (R40, R41). -/
def State.reaches (s : State) (src : Source) (idx : PageIdx) (p : Page) : Prop :=
  s.sourceUp src = true ∧ s.mapped src idx = some p ∧ p.far src = false

/-- A command of source `src` names page `p` of the other die, to which keel control cells carry the access (R41). -/
def State.crosses (s : State) (src : Source) (idx : PageIdx) (p : Page) : Prop :=
  s.sourceUp src = true ∧ s.mapped src idx = some p ∧ p.far src = true

/-- A write of this register does what its access codes say and nothing more: no rule gives it an action of its own. -/
def State.plainAt (s : State) (src : Source) (p : Page) (off : Nat) : Bool :=
  ((p.writes src ++ p.pmcWrites).findSome? (fun w => (w.1.index w.2.1 off).map (fun i => w.2.2 i))).isNone &&
    (p.kind != .hif || (s.hifWindow p.n off 0).isNone) &&
    ((s.targetsOf p .die).isEmpty || (off != F.DIE_IMG_CTRL.off && (F.DIE_IMG_DATA.index 4096 off).isNone)) &&
    (p.kind != .port || (F.BUF_QUEUE_CFG.index 16 off).isNone)

end Sys2Proof.Machine
end

