-- ==== Sys2Proof/Certificates/Slice0/Obligations.lean ====
section
/-!
DEFINITION. The statements about the block. A statement of the form `exec c s = .next t` gives the whole next state: every
part of the state that `t` does not name is as it was.
-/
section Statements
open Sys2Proof Sys2Proof.Machine

/-- For every command c and state s, step of s with c at the front of its queue is exec of c on s with the rest of the
queue: one command, first in, first out. -/
def Obligations.StepRunsFront : Prop :=
  ∀ (c : Instr) (q : List Instr) (s : State), s.pending = c :: q → step s = exec c (s.withPending q)

/-- On an empty queue step answers the state one AON_CLK period later. That a step without a command is a tick is the
model's choice (assumption log 2); what a tick advances is R302. -/
def Obligations.IdleStepTicks : Prop :=
  ∀ s : State, s.pending = [] → step s = .next s.aonTick

/-- The table of commands gives no row any bits, so no word of any length is read as a command, and placing a word
changes no state (assumption log 1). -/
def Obligations.NoWordIsACommand : Prop :=
  ∀ (nbits w : Nat) (s : State), decodeTableWord nbits w = none ∧ s.withFetchWord nbits w = s

/-- For every command and every state exec answers a next state, never a fault and never a refusal, and leaves the queue
of waiting commands alone. -/
def Obligations.EveryCommandCompletes : Prop :=
  ∀ (c : Instr) (s : State), ∃ t, exec c s = .next t ∧ t.pending = s.pending

/-- For every command and every state: a part of the state that the table `touches` does not list for the command is the
same after it. The parts are the fields of the state: the pins, the OTP array, the register file, the counters, the
locks, each unit's tables, queues and engines, the output, the queue of commands. -/
def Obligations.CommandTouchesOnlyItsParts : Prop :=
  ∀ (c : Instr) (s t : State), exec c s = .next t → ∀ p : Part, p ∉ (touches c).parts → s.same t p

/-- For every command, every state, every page and every offset: where the table `touches` does not list the page's kind
for the command (its headers for an offset below 0x40, its own registers for any other), the register and the counter
there are the same after it. So an interrupt reaches no further than the headers on its way up, a table command of a
slice writes no register of a port, and so on for all 300 commands. -/
def Obligations.CommandTouchesOnlyItsRegisters : Prop :=
  ∀ (c : Instr) (s t : State), exec c s = .next t → ∀ (p : Page) (o : Nat),
    p.kind ∉ (if o < 0x40 then (touches c).head else (touches c).own) →
      t.reg p o = s.reg p o ∧ t.ctrs.get 0 (p.key o) = s.ctrs.get 0 (p.key o)

/-- Every store that is a field of the reset state, the OTP array among them, has its numbers strictly rising and lists
nothing that equals what an unlisted number reads as, so that equal contents are equal data. -/
def Obligations.ResetIsCanonical : Prop := State.reset.Canonical

/-- For every state in which each store that is a field of it (registers, counters, locks, QDR, queues, OTP words and
the rest, and each unit's entries by unit) is in canonical form, and every step from it, each of these stores of the
state after the step is in canonical form. -/
def Obligations.StepKeepsCanonical : Prop :=
  ∀ s t : State, s.Canonical → step s = .next t → t.Canonical

/-- For every state and every step from it: every bit of the OTP array that was 1 is 1 after the step; the output so far
stays, with anything new in front of it; and the counters that number the free values and the frames do not go back. -/
def Obligations.StepTakesNothingBack : Prop :=
  ∀ s t : State, step s = .next t → s.Grows t

/-- A write of 32 aligned bits that reaches a unit's page, to a register at or above 0x100 that no rule gives an action
of its own, with the lock held if the register has a locked field, completes: each bit with code RW or RWL takes the
written bit, a 1 written clears a W1C bit, a 1 written sets a W1S bit, every other bit (RO, RC, WO, reserved) keeps its
value, and no other register of any page changes. -/
def Obligations.RegisterWriteFollowsItsCodes : Prop :=
  ∀ (s : State) (src : Source) (page : PageIdx) (p : Page) (off : BitVec 16) (r : Reg) (val : Word),
    s.reaches src page p → s.dieUp p.die = true → 0x100 ≤ off.toNat → off.toNat % 4 = 0 →
    p.kind.reg? off.toNat = some r → s.plainAt src p off.toNat = true → (r.rwl = 0 ∨ s.holdsLock src p = true) →
    ∃ t, exec (.registerWrite src page off 4 val false) s = .next t ∧
      (∀ (q : Page) (o : Nat), q.key o ≠ p.key off.toNat → t.reg q o = s.reg q o) ∧
      ∀ i < 32, (t.reg p off.toNat).getLsbD i =
        if r.w1s.testBit i && val.getLsbD i then true
        else if r.w1c.testBit i && val.getLsbD i then false
        else if (r.rw ||| r.rwl).testBit i then val.getLsbD i
        else (s.reg p off.toNat).getLsbD i

/-- With the source's path up and the page index not mapped for it, a register write, a lock acquire, a lock release, a
lock force, a unit reset and a read of a counter's low word each complete, and the one thing they do to the registers is
count: in the host interface page of the function, or in the bow instance of the device page for the I3C source. The
read delivers zero. A write of another size than 32 bits or of another alignment does nothing, and such a read delivers
zero and does nothing else. A write or read of a page of the other die is put into a keel control message, a write
keeping everything else as it is and a read waiting for its answer. -/
def Obligations.UnmappedAccessesAreCounted : Prop :=
  (∀ (s : State) (src : Source) (page : PageIdx) (off : BitVec 16) (val : Word) (token : BitVec 16),
    s.sourceUp src = true → s.mapped src page = none → off.toNat % 4 = 0 →
    let u := s.errCount (if src = .i3c then ⟨.device, 0⟩ else hifPg src.die)
    exec (.registerWrite src page off 4 val false) s = .next u ∧ exec (.lockAcquire src page token) s = .next u ∧
      exec (.lockRelease src page token) s = .next u ∧ exec (.lockForce src page) s = .next u ∧
      exec (.unitReset src page) s = .next u ∧
      exec (.counterLowWordRead src page ⟨off, 4⟩ false) s = .next (u.emit (.readData src page.toNat off.toNat 0))) ∧
  (∀ (s : State) (src : Source) (page : PageIdx) (off : BitVec 16) (val : Word) (size : Nat),
    s.sourceUp src = true → (size ≠ 4 ∨ off.toNat % 4 ≠ 0) →
    exec (.registerWrite src page off size val false) s = .next s ∧
      exec (.counterLowWordRead src page ⟨off, size⟩ false) s = .next (s.emit (.readData src page.toNat off.toNat 0))) ∧
  (∀ (s : State) (src : Source) (page : PageIdx) (p : Page) (off : BitVec 16) (val : Word),
    s.crosses src page p → off.toNat % 4 = 0 →
    exec (.registerWrite src page off 4 val false) s =
      .next (s.sendCtrl src.die (.access ⟨src, page, off.toNat, some val⟩)) ∧
    ∃ t, exec (.counterLowWordRead src page ⟨off, 4⟩ false) s = .next t ∧ t.out = s.out ∧
      (t.keelOf src.die).asked = (s.keelOf src.die).asked ++ [⟨src, page, off.toNat, none⟩])

/-- A read of the low word of a 64-bit pair of a unit's page delivers the low word of its value at that moment, and the
high word of the same value is latched for that source and that pair alone: the latch of every other pair and source is
as it was. -/
def Obligations.CounterReadLatchesItsHighWord : Prop :=
  ∀ (s : State) (src : Source) (page : PageIdx) (p : Page) (off : BitVec 16),
    s.reaches src page p → s.dieUp p.die = true → 0x100 ≤ off.toNat → off.toNat % 4 = 0 → p.kind.level = none →
    p.kind ≠ .hif → p.kind.pairLow off.toNat = some off.toNat →
    let v := s.pairValue [p] off.toNat
    let k := 4 * p.key off.toNat + src.num
    ∃ t, exec (.counterLowWordRead src page ⟨off, 4⟩ false) s = .next t ∧
      t.out = .readData src page.toNat off.toNat (v.setWidth 32) :: s.out ∧
      t.latch.get none k = some (BitVec.ofNat 32 (v.toNat / 2 ^ 32)) ∧
      (∀ j, j ≠ k → t.latch.get none j = s.latch.get none j) ∧ t.ctrs = s.ctrs

/-- ACQUIRE with a non-zero token takes the page's lock for its source and token when no page of its lineage above or
below holds a lock of another source, and otherwise has no effect. RELEASE by the holder with its token gives the lock
up. Any other RELEASE, an ACQUIRE with token 0, and a FORCE on a page other than the device page count one refused
access and do nothing else. FORCE on the device page releases every lock held on a page mapped for its source. For the
commands that write registers whose fields are all RWL (the receive limits of a lane, the disable bit of a sub-link, the
power cap): without the lock of the page or an ancestor the command changes nothing but the count of refused writes of
the page written; with it the value takes effect. -/
def Obligations.PageLocksGuardWhatTheyLock : Prop :=
  (
    ∀ (s : State) (src : Source) (page : PageIdx) (p : Page) (token : BitVec 16), s.reaches src page p →
      exec (.lockAcquire src page token) s = .next (
        if token = 0 then s.errCount p
        else if ∃ x ∈ s.heldLocks, x.2.src ≠ src ∧ (s.inLineage x.1 p = true ∨ s.inLineage p x.1 = true) then s
        else s.setLock p (some ⟨src, token⟩)) ∧
      exec (.lockRelease src page token) s =
        .next (if s.lockOf p = some ⟨src, token⟩ then s.setLock p none else s.errCount p) ∧
      (p.kind ≠ .device → exec (.lockForce src page) s = .next (s.errCount p)) ∧
      (p.kind = .device → ∃ t, exec (.lockForce src page) s = .next t ∧
        ∀ q : Page, (t.lockOf q).isSome = true → t.lockOf q = s.lockOf q ∧
          ∀ x ∈ s.heldLocks, s.mapsPage src x.1 = true → x.1.lockKey ≠ q.lockKey)) ∧
  (
    (∀ (s : State) (src : Source) (page : PageIdx) (n : Nat) (val : Word), s.reaches src page (lanePg n) →
      exec (.laneRxLimitWrite src page val) s =
        .next (if s.holdsLock src (lanePg n) then s.rxLimit (lanePg n) val else s.errCount (lanePg n))) ∧
    (∀ (s : State) (src : Source) (page : PageIdx) (n : Nat) (i : SubLink) (val : Word), s.reaches src page (keelPg n) →
      exec (.sublinkDisable src page i val) s = .next (if s.holdsLock src (keelPg n)
        then s.subDisable (keelPg n) i.val (F.KEEL_SUBLINK_DISABLE.put val 1) else s.errCount (keelPg n)) ∧
      exec (.sublinkEnable src page i val) s = .next (if s.holdsLock src (keelPg n)
        then s.subDisable (keelPg n) i.val (F.KEEL_SUBLINK_DISABLE.put val 0) else s.errCount (keelPg n))) ∧
    (∀ (s : State) (src : Source) (page : PageIdx) (n : Nat) (val : Word), s.reaches src page (coxPg n) →
      exec (.coxCfgWrite src page .cap val) s =
        .next (if s.holdsLock src (coxPg n) then s.coxCap (coxPg n) val else s.errCount (coxPg n))))

/-- A RELEASE that reaches a page gives the lock up exactly when the page's lock is held by that source with that token;
any other RELEASE, and any ACQUIRE with token 0, changes nothing but the page's count of refused accesses. -/
def Obligations.ReleaseNeedsHolderAndToken : Prop :=
  ∀ (s : State) (src : Source) (page : PageIdx) (p : Page) (token : BitVec 16), s.reaches src page p →
    (s.lockOf p = some ⟨src, token⟩ → ∃ t, exec (.lockRelease src page token) s = .next t ∧ t.lockOf p = none ∧
      ∀ q : Page, q.lockKey ≠ p.lockKey → t.lockOf q = s.lockOf q) ∧
    (s.lockOf p ≠ some ⟨src, token⟩ → exec (.lockRelease src page token) s = .next (s.errCount p)) ∧
    exec (.lockAcquire src page 0) s = .next (s.errCount p)

/-- UNIT_RESET of a page that is no die and no device page completes with every page of its subtree not ready and
without a lock, every lock elsewhere as it was. On a die or device page it is counted and does nothing else. When the
reset completes, every page of the subtree that nothing still holds back is ready again. -/
def Obligations.UnitResetClearsAndReleases : Prop :=
  (∀ (s : State) (src : Source) (page : PageIdx) (p : Page), s.reaches src page p →
    ((p.kind = .die ∨ p.kind = .device) → exec (.unitReset src page) s = .next (s.errCount p)) ∧
    (p.kind ≠ .die → p.kind ≠ .device → ∃ t, exec (.unitReset src page) s = .next t ∧
      (∀ q ∈ s.subtree p, t.lockOf q = none ∧ t.resetting.get false (q.key 0) = true) ∧
      ∀ q : Page, (∀ q' ∈ s.subtree p, q'.lockKey ≠ q.lockKey) → t.lockOf q = s.lockOf q)) ∧
  (∀ (s : State) (page : PageIdx) (d : Fin 2) (p : Page), Page.ofIndex d.val (s.devInst d.val) page.toNat = some p →
    ∃ t, exec (.unitResetDone page) s = .next t ∧
      ∀ q ∈ s.subtree p, (s.resetEnds q = true → t.resetting.get false (q.key 0) = false) ∧
        (s.resetting.get false (q.key 0) = false → t.resetting.get false (q.key 0) = false))

/-- TRIGGER on a tenant accounting page with accounting on and no snapshot in progress sets an interim copy of the open
bank aside, stamped with the moment; during one it is counted; with accounting off it does nothing. TRIGGER on any other
page cuts a performance dump on each die below the page, or is counted while a dump that covers the page waits. -/
def Obligations.SnapshotTriggersCutDumps : Prop :=
  (∀ (s : State) (src : Source) (page : PageIdx) (d : Nat), s.reaches src page (acctPg d) →
    exec (.interimSnapshotTrigger src page) s = .next (
      if s.snapBusy d then s.errCount (acctPg d)
      else if s.flag (acctPg d) F.ACCT_CFG_EN then
        s.setAcct d { s.acctOf d with interim := some { (s.acctOf d).bank with
          interim := true, stop := s.stamp d, cut := s.stamp d, split := s.split d } }
      else s)) ∧
  (∀ (s : State) (src : Source) (page : PageIdx) (p : Page), s.reaches src page p → p.kind ≠ .acct →
    exec (.pmcDumpTrigger src page) s = .next (
      if s.dumpCovers p then s.errCount p
      else (s.diesBelow p).foldl (fun s d => s.cutDump d (some p) false) s))

/-- After an assertion of RESET_N the reset line is low, no die is up, and these are as before: the time and the
monotonic count of each die, the dynamic I3C address, the wear measurements and hour counters (always-on registers 0x200
to 0x233) and the base of wear, the words of the OTP array, and the QDR contents. -/
def Obligations.ResetKeepsWhatItMust : Prop :=
  ∀ s : State, ∃ t, exec .resetNAssert s = .next t ∧ t.pins.resetN = false ∧ t.dieUp 0 = false ∧ t.dieUp 1 = false ∧
    (∀ d < 2, (t.timeOf d).fine = (s.timeOf d).fine ∧ (t.timeOf d).mono = (s.timeOf d).mono) ∧
    t.pins.i3cAddr = s.pins.i3cAddr ∧ t.wearBase = s.wearBase ∧ t.otp.words = s.otp.words ∧ t.qdr = s.qdr ∧
    ∀ d < 2, ∀ o, 0x200 ≤ o → o < 0x234 → t.reg (aonPg d) o = s.reg (aonPg d) o

/-- With power good, a deassertion of PWRGOOD_AON, a loss of AON_CLK and a loss of VAON each leave no power good, no I3C
address, no time and no wear measurement; with no OTP programming in progress they leave the OTP words alone. After a
deassertion PWRGOOD_AON can be asserted again; after a loss of AON_CLK it cannot until a deassertion; a loss of VAON
also clears the LOADED marks of the hour counters. When a rail leaves its range on a die that is up, the die is held in
reset. When the reference clock of a slice's lanes stops, the slice is listed as without its clock, once it returns it
is not. -/
def Obligations.PowerRailsAndClocksAreGuarded : Prop :=
  (
    ∀ (s : State) (torn : Word), s.pins.pwrgood = true →
      (∃ t u v w, exec (.pwrgoodAonDeassert torn) s = .next t ∧ exec (.aonClkLoss torn) s = .next u ∧
        exec (.vaonLoss torn) s = .next v ∧ exec .pwrgoodAonAssert t = .next w ∧
        (∀ x ∈ [t, u, v], x.pins.pwrgood = false ∧ x.pins.i3cAddr = none ∧ x.times = [] ∧ x.wearBase = [] ∧ x.qdr = s.qdr ∧
          (s.otp.busy = none → x.otp.words = s.otp.words)) ∧
        w.pins.pwrgood = true ∧ exec .pwrgoodAonAssert u = .next u ∧ v.pins.vaon = false ∧
        ∀ d < 2, v.flag (aonPg d) F.AON_WEAR_CTRL_LOADED = false)) ∧
  (
    (∀ (s : State) (d : Die), s.dieUp d.val = true →
      ∃ t, exec (.railOutOfRange d) s = .next t ∧ (t.bootOf d.val).held = true ∧ t.dieUp d.val = false) ∧
    (∀ (s : State) (sl : Slice) (back : Bool), ∃ t, exec (.refclkLaneLoss sl back) s = .next t ∧
      (sl.val ∈ t.pins.refclkLost ↔ back = false) ∧ ∀ j, j ≠ sl.val → (j ∈ t.pins.refclkLost ↔ j ∈ s.pins.refclkLost)))

/-- With power good: SETDASA at the static address that OTP gave takes the assigned address, and at any other address
does nothing; ENTDAA is answered, with the provisional ID, only while no dynamic address is held, and takes the assigned
address; RSTDAA, a loss of VAON and a deassertion of PWRGOOD_AON lose the address; RESET_N alone and the sleep of a
slice leave it. -/
def Obligations.DynamicAddressIsTakenAndLost : Prop :=
  ∀ (s : State) (a b : BitVec 7) (torn : Word) (sl : Slice), s.pins.pwrgood = true →
    ((s.bootOf 0).shadow.i3c = some a → exec (.setdasa a b) s = .next (s.setI3cAddr (some b))) ∧
    ((s.bootOf 0).shadow.i3c ≠ some a → exec (.setdasa a b) s = .next s) ∧
    (s.pins.i3cAddr = none → exec (.entdaa b) s = .next ((s.emit (.i3c [s.provisionalId])).setI3cAddr (some b))) ∧
    (s.pins.i3cAddr ≠ none → exec (.entdaa b) s = .next s) ∧
    exec .rstdaa s = .next (s.setI3cAddr none) ∧
    (∃ t, exec (.vaonLoss torn) s = .next t ∧ t.pins.i3cAddr = none) ∧
    (∃ t, exec (.pwrgoodAonDeassert torn) s = .next t ∧ t.pins.i3cAddr = none) ∧
    (∃ t, exec .resetNAssert s = .next t ∧ t.pins.i3cAddr = s.pins.i3cAddr) ∧
    (∃ t, exec (.sliceSleepEnter sl) s = .next t ∧ t.pins.i3cAddr = s.pins.i3cAddr)

/-- While the target holds an address, GETPID is answered with the provisional ID of R71, GETDCR with the device
characteristics (an open constant), GETBCR with a byte the spec leaves open; a private write of one word is the register
write of that word by the I3C source at the page and offset it names, which it remembers; and a private read of one word
is the read of the register at the remembered page and offset by the I3C source. -/
def Obligations.BoardBusAnswersAndAccesses : Prop :=
  ∀ (s : State) (page : PageIdx) (off : BitVec 16) (w : Word), s.pins.pwrgood = true → s.pins.i3cAddr.isSome = true →
    exec .getpid s = .next (s.emit (.i3c [
      (s.identity 3).toNat % 2 ^ 15 * 2 ^ 33 + 2 ^ 32 + (crc32c (leBytes 8 s.serial)).toNat / 2 ^ 16 * 2 ^ 16 + s.serial % 2 ^ 16])) ∧
    exec .getdcr s = .next (s.emit (.i3c [Config.dcr.toNat])) ∧
    exec .getbcr s = .next ((s.draw 8).2.emit (.i3c [(s.draw 8).1.toNat])) ∧
    exec (.i3cPrivateWrite page off [w]) s =
      exec (.registerWrite .i3c page off 4 w false) { s with pins := { s.pins with i3cPage := page, i3cOff := off } } ∧
    exec (.i3cPrivateRead 1) s = exec (.counterLowWordRead .i3c s.pins.i3cPage ⟨s.pins.i3cOff, 4⟩ false) s

/-- With power good and RESET_N low, deasserting RESET_N raises the line, takes the static I3C address from OTP if its
word is valid and readable, counts the uncorrectable and corrected OTP words, and sends both parts of the stern shadow.
The roll call of a die that is up and not yet rolled ends with DONE set, its duration, the temperature then measured,
and (stated for the stern die) the banks in service; the bow die has its shadow at once, the stern die waits for it.
While a part of the shadow is missing in the stern die the bow die sends it again. When the second part arrives, the
stern die's SHADOW_DONE is set. When the first part is late, the stern die is held in reset with SHADOW_FAIL, and the
bow die shows PEER_FAIL. When the second part is late, the stern die goes on with the default board entry: SHADOW_FAIL,
SHADOW_DONE and the bow die's PEER_FAIL are set. -/
def Obligations.RollCallAndShadowRunTheirCourse : Prop :=
  (
    (∀ (s : State) (otp : OtpReport), s.pins.pwrgood = true → s.pins.resetN = false → s.pins.brakeN = true →
      ∃ t l, exec (.resetNDeassert otp) s = .next t ∧ t.pins.resetN = true ∧ t.out = .shadow 1 :: .shadow 0 :: l ∧
        t.fget otpPg F.OTP_ECC_COUNTS_UNCORR = otp.uncorr.length % 2 ^ F.OTP_ECC_COUNTS_UNCORR.w ∧
        (t.bootOf 0).shadow.i3c = (if (s.otpWord 0x1016).getLsbD 31 ∧ 0x1016#14 ∉ otp.uncorr
          then some ((s.otpWord 0x1016).setWidth 7) else none)) ∧
    (∀ (s : State) (d : Die) (r : RollReport), s.dieUp d.val = true → s.rolled d.val = false →
      ∃ t, exec (.rollCallDone d r) s = .next t ∧ t.rolled d.val = true ∧
        t.fget (ringPg d.val) F.RING_ROLL_STATUS_DURATION = r.micros.toNat % 2 ^ F.RING_ROLL_STATUS_DURATION.w ∧
        t.fget (aonPg d.val) F.AON_TEMP_READING = r.temp.toNat % 2 ^ F.AON_TEMP_READING.w ∧
        (d.val = 1 → t.fget (bufPg d.val) F.BUF_BANKS_IN_SERVICE =
          (128 - min 128 r.banks + min (min 128 r.banks) (4 - r.spareBanks)) % 2 ^ F.BUF_BANKS_IN_SERVICE.w) ∧
        t.flag (ringPg d.val) F.RING_ROLL_STATUS_SHADOW_DONE =
          (decide (d.val = 0) || s.flag (ringPg d.val) F.RING_ROLL_STATUS_SHADOW_DONE))) ∧
  (
    (∀ (s : State) (part : Fin 2), s.dieUp 0 = true → s.dieUp 1 = true → s.rolled 1 = false →
      (s.bootOf 1).shadowDone = false →
      exec (.shadowFrameResend part) s = .next (s.emit (.shadow part.val))) ∧
    (∀ s : State, s.rolled 1 = true → (s.bootOf 1).shadowDone = false →
      ∃ t, exec .shadowDone s = .next t ∧ t.flag (ringPg 1) F.RING_ROLL_STATUS_SHADOW_DONE = true) ∧
    (∀ s : State, s.dieUp 1 = true → s.rolled 1 = false →
      ∃ t, exec .shadowFirstPartTimeout s = .next t ∧ (t.bootOf 1).held = true ∧ t.dieUp 1 = false ∧
        t.flag (ringPg 1) F.RING_ROLL_STATUS_SHADOW_FAIL = true ∧ t.flag (ringPg 0) F.RING_ROLL_STATUS_PEER_FAIL = true) ∧
    (∀ s : State, s.rolled 1 = true → (s.bootOf 1).shadowDone = false →
      ∃ t, exec .shadowSecondPartTimeout s = .next t ∧ (t.bootOf 1).shadow.gen = none ∧
        t.flag (ringPg 1) F.RING_ROLL_STATUS_SHADOW_FAIL = true ∧ t.flag (ringPg 1) F.RING_ROLL_STATUS_SHADOW_DONE = true ∧
        t.flag (ringPg 0) F.RING_ROLL_STATUS_PEER_FAIL = true))

/-- A write of ENABLE (with SLEEP_REQ) to a page that its source reaches stores both bits in PAGE_CONTROL, lets every
port below leave or enter DISABLED as its enables now say, and passes SLEEP_REQ to the slices below. On a port's own
page, ENABLE = 0 takes a port that is past DISABLED and not yet UP to DISABLED, with no technology, and its lanes
powered down. A write of EIGHT_ARRANGE or EIGHT_PAIR_RATE that its source reaches takes effect when no port of the eight
is past DISABLED, every port is aligned, every port has one rate and a technology at it, and its connector lanes form a
block: the register is written, the eight's ports follow it, and the counters of every seat that it leaves vacant are
cleared. Otherwise nothing changes but LAST_ERR, which names the first of the four that failed, and the count of refused
writes. -/
def Obligations.PortsAreArrangedAndEnabled : Prop :=
  (
    (∀ (s : State) (src : Source) (page : PageIdx) (p : Page) (sleep : Bool), s.reaches src page p →
      exec (.portEnable src page sleep) s = .next (s.controlWrite p (BitVec.ofNat 32 (1 + 2 * sleep.toNat))) ∧
      exec (.portDisable src page sleep) s = .next (s.controlWrite p (BitVec.ofNat 32 (2 * sleep.toNat)))) ∧
    (∀ (s : State) (src : Source) (page : PageIdx) (n : Port) (sleep : Bool), s.reaches src page (portPg n.val) →
      0 < s.portState n.val → s.portState n.val < 5 →
      ∃ t, exec (.portDisable src page sleep) s = .next t ∧ t.portState n.val = 0 ∧
        t.fget (portPg n.val) F.PORT_STATUS_TECH = 15 ∧
        ∀ l ∈ s.portLanes n.val, t.fget (lanePg l) F.LANE_STATUS_STATE = 0)) ∧
  (
    ∀ (s : State) (src : Source) (page : PageIdx) (e : Nat) (val : Word), s.reaches src page (eightPg e) →
      let arr := (s.reg (eightPg e) F.EIGHT_ARRANGE.off).toNat
      let rate := (s.reg (eightPg e) F.EIGHT_PAIR_RATE.off).toNat
      let err (arr rate : Nat) : Nat :=
        if (List.range 8).any (fun i => decide (s.portState (8 * e + i) ≠ 0)) then 1
        else if !arrAligned arr then 2
        else if !arrRated arr rate then 3
        else if !arrWired arr (s.fget (eightPg e) F.EIGHT_SWAP_CONN) then 4
        else 0
      let clear (s : State) : State := (List.range 8).foldl (fun s i =>
        if s.portWidth (8 * e + i) = 0 then s.clearCounters (portPg (8 * e + i)) else s) s
      let after (s : State) : State := (List.range 8).foldl (fun s i => s.portPower (8 * e + i)) (clear (s.resyncEight e))
      exec (.eightArrangeWrite src page val) s = .next (
        if err (val.toNat % 2 ^ 24) rate = 0 then after (s.putRw (eightPg e) F.EIGHT_ARRANGE.off val)
        else (s.fset (eightPg e) F.EIGHT_ARRANGE_STATUS_LAST_ERR (err (val.toNat % 2 ^ 24) rate)).errCount (eightPg e)) ∧
      exec (.eightPairRateWrite src page val) s = .next (
        if err arr (val.toNat % 2 ^ 24) = 0 then after (s.putRw (eightPg e) F.EIGHT_PAIR_RATE.off val)
        else (s.fset (eightPg e) F.EIGHT_ARRANGE_STATUS_LAST_ERR (err arr (val.toNat % 2 ^ 24))).errCount (eightPg e)))

/-- In AN, out of its break-link time, a resolved technology and FEC mode takes the port to TRAIN with both shown; a
failed negotiation begins break-link and raises AN_FAIL, and the end of break-link ends it. In TRAIN with a technology,
completed training takes it to ALIGN. In ALIGN, a marker lock of all its lanes, each received with its board polarity,
every PCS or FEC lane once, within 180 ns of each other, takes it to HOLD. In HOLD with no link-down condition and the
slice awake, the end of hold-off takes it to UP. A timeout of training or of alignment, and a fault of 10 ms in HOLD,
leave the port in AN or TRAIN. -/
def Obligations.LinkStateMachineAdvances : Prop :=
  ∀ (s : State) (p : Port) (partner : BitVec 13) (f1 : Bool) (ctle : List (BitVec 5)) (marks : List LaneMark),
    (s.portState p.val = 1 → (s.links.get {} p.val).breakLink = false →
      (∀ tech fec, s.anResolve p.val partner f1 = some (tech, fec) →
        ∃ t, exec (.anResolved p partner f1) s = .next t ∧ t.portState p.val = 2 ∧
          t.fget (portPg p.val) F.PORT_STATUS_TECH = tech % 16 ∧
          t.fget (portPg p.val) F.PORT_STATUS_FEC = fec % 2 ^ F.PORT_STATUS_FEC.w) ∧
      (s.anResolve p.val partner f1 = none →
        ∃ t, exec (.anFail p partner f1) s = .next t ∧ (t.links.get {} p.val).breakLink = true ∧
          (t.reg (portPg p.val) F.PAGE_IRQ_STATUS.off).getLsbD 10 = true)) ∧
    (s.portState p.val = 1 →
      ∃ t, exec (.anBreakLinkExpire p) s = .next t ∧ (t.links.get {} p.val).breakLink = false) ∧
    (s.portState p.val = 2 → s.fget (portPg p.val) F.PORT_STATUS_TECH ≠ 15 →
      ∃ t, exec (.trainComplete p ctle) s = .next t ∧ t.portState p.val = 3) ∧
    (s.portState p.val = 2 → ∃ t, exec (.trainTimeout p) s = .next t ∧ (t.portState p.val = 1 ∨ t.portState p.val = 2) ∧
      (t.reg (portPg p.val) F.PAGE_IRQ_STATUS.off).getLsbD 11 = true) ∧
    (s.portState p.val = 3 → s.marksLock p.val marks = true →
      ∃ t, exec (.alignLock ⟨p, marks⟩) s = .next t ∧ t.portState p.val = 4) ∧
    (s.portState p.val = 3 → ∃ t, exec (.alignTimeout p) s = .next t ∧ (t.portState p.val = 1 ∨ t.portState p.val = 2) ∧
      (t.reg (portPg p.val) F.PAGE_IRQ_STATUS.off).getLsbD 12 = true) ∧
    (s.portState p.val = 4 → s.linkBad p.val = false → s.sliceState (portSlice p.val) = 0 →
      ∃ t, exec (.upHoldoffExpire p) s = .next t ∧
        (t.reg (portPg p.val) F.PAGE_IRQ_STATUS.off).getLsbD 8 = true) ∧
    (s.portState p.val = 4 → s.linkBad p.val = true →
      ∃ t, exec (.holdFaultTimeout p) s = .next t ∧ (t.portState p.val = 1 ∨ t.portState p.val = 2))

/-- On a port in HOLD, UP or RFAULT a new link-down condition on one of its lanes is listed there after the codewords
that came with it have been counted: a run of uncorrectable codewords only once it has reached UNCORR_RUN, which 0
disables, loss of alignment only where no lane skew is known or it varies by more than 4 ns. A cleared condition is no
longer listed, a run of uncorrectable codewords only once it has ended. Remote fault sets RF, and its end clears RF and
takes RFAULT to HOLD. A link-down condition that lasted DOWN_DEBOUNCE in UP takes the port back to negotiation, prunes
and flushes it, and counts and signals the loss; remote fault that lasted as long does the same with RFAULT as the new
state. On a lane in training without TRAIN_LOCK, a step request moves the named tap by one where the result stays in the
field's range, within 8 of the tap's board-table value, and keeps the sum of the magnitudes at 63 or less; the new taps
stand in LANE_TX_FIR and the answer is "updated". Otherwise the taps stay, and the answer is the maximum or minimum
reached. A preset or initial request (whose taps are the model's reading of the training protocol) is answered the same
way, each tap that it moves held to the same limits. A lane not in training does nothing. -/
def Obligations.LinksTrainAndFollowTheirConditions : Prop :=
  (
    ∀ (s : State) (p : Port) (cause : LinkCause) (l : Lane) (cws : List Codeword) (variation : Option Nat),
      (4 ≤ s.portState p.val → l.val ∈ s.portLanes p.val →
        let u := s.codewords p.val l.val cws
        let holds : Prop := match cause with
          | .uncorr => s.fget (portPg p.val) F.PORT_LINK_CFG_UNCORR_RUN ≠ 0 ∧
              s.fget (portPg p.val) F.PORT_LINK_CFG_UNCORR_RUN ≤ (u.lanes.get {} l.val).run
          | .align => ∀ v, variation = some v → 4000 < v
          | _ => True
        (cause ∉ s.laneCauses l.val → holds →
          exec (.linkDownDetect p cause ⟨l, cws, variation⟩) s = .next
            (((u.setCauses l.val (u.laneCauses l.val ++ [cause])).causesChanged p.val).rfaultCheck p.val)) ∧
        (∃ t, exec (.linkDownClear p cause ⟨l, cws⟩) s = .next t ∧
          (cause ≠ .uncorr ∨ (u.lanes.get {} l.val).run = 0 → cause ∉ t.laneCauses l.val) ∧
          ∀ k, k ≠ l.val → t.laneCauses k = s.laneCauses k)) ∧
      (4 ≤ s.portState p.val → exec (.remoteFaultDetect p) s = .next (s.bset (portPg p.val) F.PORT_STATUS_RF true)) ∧
      exec (.remoteFaultClear p) s = .next (
        let u := s.bset (portPg p.val) F.PORT_STATUS_RF false
        if s.portState p.val = 6 then u.setPortState p.val 4 else u) ∧
      (s.portState p.val = 5 → s.linkBad p.val = true → exec (.downDebounceExpire p) s = .next (
        (((s.enterAn p.val).pruneFlush p.val).raise (portPg p.val) 9).cadd (portPg p.val) F.PORT_LINK_DOWN_EVENTS)) ∧
      (s.portState p.val = 5 → s.flag (portPg p.val) F.PORT_STATUS_RF = true →
        exec (.remoteFaultDebounceExpire p) s = .next (((((s.setPortState p.val 6).pruneFlush p.val).raise (portPg p.val) 13
          ).linkDown p.val).rfaultCheck p.val))) ∧
  (
    ∀ (s : State) (l : Lane),
      (∀ r up, s.fget (lanePg l.val) F.LANE_STATUS_STATE ≠ 2 → exec (.trainCoefRequest l r up) s = .next s) ∧
      (s.fget (lanePg l.val) F.LANE_STATUS_STATE = 2 →
        let now := tapsOf (s.reg (lanePg l.val) F.LANE_TX_FIR.off).toNat
        let board := tapsOf ((s.reg (lanePg l.val) F.LANE_BT_LO.off).toNat % 2 ^ 30)
        let fits (i : Nat) (v : Int) : Prop :=
          (if i = 3 then 0 ≤ v ∧ v ≤ 63 else -32 ≤ v ∧ v ≤ 31) ∧ board.getD i 0 - 8 ≤ v ∧ v ≤ board.getD i 0 + 8
        let take (t : List Int) : State :=
          (s.setReg (lanePg l.val) F.LANE_TX_FIR.off (BitVec.ofNat 32 (tapsWord t))).emit (.coef l.val 0)
        let free : Prop := s.flag (lanePg l.val) F.LANE_TX_CTRL_TRAIN_LOCK = false
        (∀ (tap : Fin 5) (up : Bool),
          let v := now.getD tap.val 0 + (if up then 1 else -1)
          let ok : Prop := free ∧ fits tap.val v ∧ tapSum (now.set tap.val v) ≤ 63
          (ok → exec (.trainCoefRequest l (.tap tap) up) s = .next (take (now.set tap.val v))) ∧
          (¬ ok → exec (.trainCoefRequest l (.tap tap) up) s = .next (s.emit (.coef l.val (if up then 2 else 1))))) ∧
        (∀ r ∈ [CoefTarget.preset, .initial], ∀ up,
          let t := s.coefTaps l.val up r
          let ok : Prop := free ∧ (∀ i < 5, t.getD i 0 = now.getD i 0 ∨ fits i (t.getD i 0)) ∧ tapSum t ≤ 63
          (ok → exec (.trainCoefRequest l r up) s = .next (take t)) ∧
          (¬ ok → exec (.trainCoefRequest l r up) s = .next (s.emit (.coef l.val 2))))))

/-- On a port in UP with no frame in reception, a frame (with its FCS, FEC verdict, arrival delay and the codewords of
its lanes, which are counted first) is received with the ingress stamp that is the die's time less the delay and RX_ADJ;
a good MAC control frame of at least 64 bytes is counted in RX_FRAMES and RX_BYTES and handed to MAC control, not to the
pipeline. The last byte of a frame ends its reception on the port. A plain PAUSE is counted as received and as ignored.
On a port in UP with preemption enabled: an initial fragment with a good check opens an assembly; a continuation with
the next fragment number of the same frame and a good check extends it and counts as a fragment; the last fragment
counts the frame as assembled and receives the whole frame; a continuation out of place, or with no assembly, counts as
a fragment and as an assembly error and leaves no assembly. -/
def Obligations.FramesAndFragmentsAreReceived : Prop :=
  (
    ∀ (s : State) (p : Port) (bytes : List Byte) (fcs : Word) (uncorr : Bool) (delay : BitVec 32)
        (cws : List (Fin 8 × List Codeword)), s.portUp p.val = true →
      let v := cws.foldl (fun s x =>
        if p.val / 8 = (p.val + x.1.val) / 8 then s.codewords p.val (p.val + x.1.val) x.2 else s) s
      ((s.portOf p.val).rx = none → exec (.frameRx p bytes fcs ⟨uncorr, cws⟩ delay) s = .next (v.rxFrame p bytes fcs uncorr
        (v.stamp (portDie p.val) - BitVec.ofNat 64 delay.toNat - (v.reg (portPg p.val) F.TIME_PORT_RX_ADJ.off).signExtend 64)
        false)) ∧
      ((s.portOf p.val).rx = none → 60 ≤ bytes.length → bytes.length + 4 ≤ s.fget (portPg p.val) F.PORT_MAC_CFG_MAX_FRAME →
        num bytes 12 2 = 0x8808 → exec (.frameRx p bytes (fcs32 bytes) ⟨false, []⟩ delay) s = .next (((s.cadd (portPg p.val)
          F.PORT_RX_FRAMES).cadd (portPg p.val) F.PORT_RX_BYTES (bytes.length + 4)).macControl p bytes)) ∧
      exec (.frameRxEnd p) s = .next (s.lastByte p.val false) ∧ ((s.lastByte p.val false).portOf p.val).rx = none ∧
      exec (.pauseRx p) s = .next (((s.cadd (portPg p.val) F.PORT_RX_FRAMES).cadd (portPg p.val) F.PORT_RX_BYTES 64).cadd
        (portPg p.val) F.BUF_PAUSE_IGNORED)) ∧
  (
    ∀ (s : State) (p : Port) (x : Fragment) (delay : BitVec 32), s.portUp p.val = true →
      s.flag (portPg p.val) F.PORT_MM_CFG_EN = true →
      (x.start = true → x.last = false → x.crcOk = true → (s.portOf p.val).assembly = none →
        exec (.mmFragmentRx p x delay) s = .next (s.setPort p.val { s.portOf p.val with
          assembly := some { bytes := x.bytes, stamp := s.ingressStamp p.val delay, frags := 0, num := x.frame.val } })) ∧
      (∀ a : Assembly, x.start = false → (s.portOf p.val).assembly = some a → a.num = x.frame.val → a.frags % 4 = x.frag.val →
        let u := s.cadd (portPg p.val) F.PORT_MM_RX_FRAGMENTS
        (x.last = false → x.crcOk = true → exec (.mmFragmentRx p x delay) s = .next (u.setPort p.val { u.portOf p.val with
          assembly := some { a with bytes := a.bytes ++ x.bytes, frags := a.frags + 1 } })) ∧
        (x.last = true → exec (.mmFragmentRx p x delay) s = .next (((u.cadd (portPg p.val) F.PORT_MM_RX_ASSEMBLED).setPort
          p.val { u.portOf p.val with assembly := none }).rxFrame p (a.bytes ++ x.bytes) x.fcs x.uncorr a.stamp true))) ∧
      (x.start = false → (∀ a, (s.portOf p.val).assembly = some a → a.num ≠ x.frame.val ∨ a.frags % 4 ≠ x.frag.val) →
        ∃ t, exec (.mmFragmentRx p x delay) s = .next t ∧ (t.portOf p.val).assembly = none ∧
          t.cget (portPg p.val) F.PORT_MM_ASSY_ERRORS = s.cget (portPg p.val) F.PORT_MM_ASSY_ERRORS + 1 ∧
          t.cget (portPg p.val) F.PORT_MM_RX_FRAGMENTS = s.cget (portPg p.val) F.PORT_MM_RX_FRAGMENTS + 1))

/-- A received frame that waits for its verdict, whose last byte is in and which no earlier frame of its port precedes,
is judged when its port's MACsec unit operates: its cipher operation ends, the integrity check and then the replay check
decide it and are counted, and it passes or fails with what it became in the pipeline. A frame that waits for none, or
must still wait, changes nothing. A write command of a page that its source reaches stores the data words, without the
bits the entry does not have, in the entry that kind, secure channel and association number name; an RX secure channel
whose SCI a valid entry already has is refused with ERR. A read command puts the entry into the data words. The kind
without entries does nothing but store the command. -/
def Obligations.MacsecIsJudgedAndConfigured : Prop :=
  (
    ∀ (s : State) (uid : Nat) (f : Machine.Frm), s.frm uid = some f →
      let earlier := s.frames.any (fun kv => decide (kv.1 < uid) && (match kv.2 with
        | some g => decide (g.port = f.port) && decide (g.root = 0) && g.sa.isSome
        | none => false))
      ((f.sa = none ∨ f.lastByte = false ∨ f.root ≠ 0 ∨ earlier = true ∨ s.operates (msecPg (f.port / 8)) = false) → exec (.macsecVerdict uid) s = .next s) ∧
      (∀ x : Nat × Nat × Bool, f.sa = some x → f.lastByte = true → f.root = 0 → earlier = false →
        s.operates (msecPg (f.port / 8)) = true →
        let u := match f.key with
          | some k => s.endKey f.die k.1 k.2
          | none => s
        let v := (s.kin uid).foldl (fun s u => s.updFrm u (fun f => { f with sa := none, key := none }))
          (u.judge f.port f.size x).2
        ∀ g : Machine.Frm, v.frm uid = some g → exec (.macsecVerdict uid) s = .next (
          if (u.judge f.port f.size x).1 = 0 then v.verdictPass uid else v.verdictFail uid g (u.judge f.port f.size x).1))) ∧
  (
    ∀ (s : State) (src : Source) (page : PageIdx) (n : Nat) (val : Word), s.reaches src page (msecPg n) →
      let kind := F.MSEC_TBL_CMD_KIND.of val
      let sc := F.MSEC_TBL_CMD_SC.of val
      let p := 8 * n + F.MSEC_TBL_CMD_PORT.of val
      let w := s.putRw (msecPg n) F.MSEC_TBL_CMD.off (F.MSEC_TBL_CMD_OP.put val 1)
      let r := s.putRw (msecPg n) F.MSEC_TBL_CMD.off (F.MSEC_TBL_CMD_OP.put val 2)
      let e := msecMask kind (w.words (msecPg n) F.MSEC_TBL_DATA 4)
      let twin := kind = 0 && scValid e && (List.range 64).any (fun m =>
        m ≠ sc && scValid (w.rxSc p m) && decide (scSci (w.rxSc p m) = scSci e))
      (∀ i, msecIndex kind sc (F.MSEC_TBL_CMD_AN.of val) = some i →
        exec (.msecTblWrite src page val) s = .next (
          if twin then w.bset (msecPg n) F.MSEC_TBL_CMD_ERR true
          else (w.bset (msecPg n) F.MSEC_TBL_CMD_ERR false).setMsec p { w.msecOf p with tbl := (w.msecOf p).tbl.set 0 i e }) ∧
        exec (.msecTblRead src page val) s =
          .next (r.setWords (msecPg n) F.MSEC_TBL_DATA 4 ((r.msecOf p).tbl.get 0 i).toNat)) ∧
      (kind = 3 → exec (.msecTblWrite src page val) s = .next w ∧ exec (.msecTblRead src page val) s = .next r))

/-- On a port in UP, a PFC frame is counted as received, holds each class that it enables and PFC_RX_EN admits where its
time is not 0, frees it where it is 0, is counted in PFC_RX if it has such a class and in PAUSE_IGNORED if it names a
class that is not admitted. The end of a pause time frees its class. Queues that may send again wake. -/
def Obligations.PauseHoldsItsClasses : Prop :=
  ∀ (s : State) (p : Port) (enables : BitVec 8) (times : List (BitVec 16)) (c : Fin 8),
    (s.portUp p.val = true →
      let pg := portPg p.val
      let en := s.fget pg F.BUF_PORT_CFG_PFC_RX_EN
      let honoured := (List.range 8).filter (fun c => enables.getLsbD c && en.testBit c)
      let a := (s.cadd pg F.PORT_RX_FRAMES).cadd pg F.PORT_RX_BYTES 64
      let b := a.fset pg F.BUF_PORT_PFC_STATUS_RX_PAUSED (honoured.foldl
        (fun m c => putBits m c c (if (times.getD c 0) ≠ 0 then 1 else 0)) (s.fget pg F.BUF_PORT_PFC_STATUS_RX_PAUSED))
      let d := if honoured = [] then b else b.cadd pg F.BUF_PFC_RX
      exec (.pfcRx p enables times) s = .next ((if (List.range 8).any (fun c => enables.getLsbD c && !en.testBit c)
        then d.cadd pg F.BUF_PAUSE_IGNORED else d).wakePort p.val)) ∧
    exec (.pfcPauseExpire p c) s = .next ((s.fset (portPg p.val) F.BUF_PORT_PFC_STATUS_RX_PAUSED
      (putBits (s.fget (portPg p.val) F.BUF_PORT_PFC_STATUS_RX_PAUSED) c.val c.val 0)).wakePort p.val)

/-- A pipeline of a running slice that operates, with nothing that stalls it, takes the frame at the head of the entry
buffer of the port that the arbitration of R30 chooses, parses it and takes it through the stages; a pipeline that is
stalled, or has no frame, takes none. A pipeline's stalls for the pre-classifier FIFO, and frames behind them, end in
order once it has room; its other stalls, and those of its egress pipeline, likewise. When the walk of a waiting frame
that leads its group ends, the leaf, or the fallback decision if the walk failed, is applied to it and to every frame
that waits for the same key, each after the check of its hold. When no frame of a swapping tree waits on a walk of the
old bank, and every QDR write accepted before the swap has been committed, the swap ends: the other bank is active, BUSY
clears, FAILED clears unless the new bank's channels have failed, the swap is counted with its pause and signalled, and
the frames that waited for it are decided or walked. -/
def Obligations.FramesPassThePipelineAndTheClassifier : Prop :=
  (
    ∀ (s : State) (pl : Pipe) (u : Upsets) (d : Die),
      ((s.operates (slicePg (pl.val / 4)) = false ∨ s.sliceRuns (pl.val / 4) = false ∨ s.stalls.get [] pl.val ≠ [] ∨ s.nextPort pl.val = none) →
        exec (.pipelineEntry pl u) s = .next s) ∧
      (s.operates (slicePg (pl.val / 4)) = true → s.sliceRuns (pl.val / 4) = true → s.stalls.get [] pl.val = [] →
        ∀ (p uid : Nat) (l : List Nat) (f : Machine.Frm), s.nextPort pl.val = some p → (s.portOf p).entry = uid :: l →
          s.frm uid = some f →
          let r := (s.takeEntry p uid).parseFrm (pl.val / 4) f u
          exec (.pipelineEntry pl u) s = .next (r.2.2.ingressPass (pl.val / 4) uid r.1 r.2.1 u)) ∧
      (s.operates (clsPg d.val) = true → exec (.clsFifoResume d) s = .next ((List.range 32).foldl (fun s i =>
        s.unstall (32 * d.val + i) (fun w => w == .fifo || w == .behind) (2 * (s.stalls.get [] (32 * d.val + i)).length)) s)) ∧
      (s.operates (slicePg (pl.val / 4)) = true →
        let v := s.unstall pl.val (· != .fifo) (2 * (s.stalls.get [] pl.val).length)
        exec (.pipelineStallRelease pl) s =
          .next (v.unstall (64 + pl.val) (· != .fifo) (2 * (v.stalls.get [] (64 + pl.val)).length))) ∧
      (∀ c : Nat, (s.stalls.get [] c = []) → ∀ w, s.unstall c w (s.stalls.get [] c).length = s)) ∧
  (
    (∀ (s : State) (d : Die) (uid : Nat) (errs : List QdrErr) (hold : List EccErr) (w : Waiter) (b : Nat), s.operates (clsPg d.val) = true →
      (s.clsOf d.val).fifo.find? (fun w => w.uid = uid) = some w → w.bank = some b → w.leader = none →
      let r := s.walkDecide d.val w.tree b w.key errs
      let group := uid :: ((s.clsOf d.val).fifo.filter (fun y => y.leader = some uid)).map Waiter.uid
      let u := if r.1.fallback then r.2.cadd (clsPg d.val) F.CLS_FALLBACK_FRAMES (group.length - 1) else r.2
      exec (.clsWalkDone d uid errs hold) s = .next ((group.zip (hold ++ List.replicate group.length .ok)).foldl
        (fun s g => s.leaveFifo d.val g.1 r.1 g.2) u)) ∧
    (∀ (s : State) (d : Die) (t : Fin 256) (u : TcamUpset), s.operates (clsPg d.val) = true → s.treeBusy d.val t.val = true →
      (∀ w ∈ (s.clsOf d.val).fifo, w.tree = t.val → w.bank = none) → (s.clsOf d.val).swapWrites.get [] t.val = [] →
      let pg := clsPg d.val
      let c := s.clsOf d.val
      let paused := s.monoNs d.val - (c.swaps.get none t.val).getD (s.monoNs d.val)
      let a := s.setCls d.val { c with gens := c.gens.upd 0 t.val (· + 1), swaps := c.swaps.set none t.val none }
      let b := (a.fset pg F.CLS_TREE_CTRL_ACTIVE (1 - a.treeActive d.val t.val) t.val).bset pg F.CLS_TREE_CTRL_BUSY false t.val
      let e := if b.treeMask d.val t.val (b.treeActive d.val t.val) &&& b.fget pg F.CLS_STATUS_CHAN_FAILED = 0
        then b.bset pg F.CLS_TREE_CTRL_FAILED false t.val else b
      b.treeActive d.val t.val = 1 - s.treeActive d.val t.val ∧
      exec (.clsSwapDone d t u) s = .next
        ((((e.cadd pg F.CLS_SWAPS).cadd pg F.CLS_SWAP_PAUSE_NS paused).raise pg 9).afterSwap d.val t.val u)))

/-- On a classifier page that its source reaches: a flush empties the decision cache; a tenant-map write stores the data
register's tree in the tenant's entry, a read puts the entry there; a root write changes the inactive bank's root and
mask and is refused and counted on the active bank; a swap request makes the tree busy from now and remembers the QDR
writes it must wait for, or is counted while it is busy. When a channel has failed, each tree not yet FAILED whose
active bank uses it is marked FAILED and signalled; one that has not failed marks none. A QDR command that its source
reaches makes the channel busy with the node it names (and, for a write, with the data words); while busy it is refused
and counted. When an access of a channel that operates ends, no swap waits for it any more; when it was a write the node
holds the data. When a read ends, its ECC result is counted and signalled, ERR says whether it failed, and the data
words hold the node, or zero where it failed. With no access in progress an end changes nothing. -/
def Obligations.ClassifierAndQdrAreConfigured : Prop :=
  (
    (∀ (s : State) (src : Source) (page : PageIdx) (d : Nat) (t : Fin 256) (bank : Fin 2) (val : Word),
      s.reaches src page (clsPg d) →
      let pg := clsPg d
      let tn := F.CLS_TT_ADDR_TENANT.of val
      let a := s.putRw pg F.CLS_TT_ADDR.off val
      let c := s.putRw pg (F.CLS_TREE_CTRL.at t.val) val
      (∃ u, exec (.clsCacheFlush src page val) s = .next u ∧ (u.clsOf d).cache = []) ∧
      exec (.clsTtWrite src page val) s =
        .next (a.setCls d { s.clsOf d with tt := (s.clsOf d).tt.set 0 tn ((a.reg pg F.CLS_TT_DATA.off).setWidth 9) }) ∧
      exec (.clsTtRead src page val) s = .next (a.setReg pg F.CLS_TT_DATA.off (((s.clsOf d).tt.get 0 tn).setWidth 32)) ∧
      exec (.clsTreeRootWrite src page t bank val) s = .next (if s.treeActive d t.val = bank.val then s.errCount pg
        else s.putRw pg ((if bank.val = 0 then F.CLS_TREE_ROOT0 else F.CLS_TREE_ROOT1).at t.val) val) ∧
      exec (.clsTreeSwap src page t val) s = .next (if c.treeBusy d t.val then c.errCount pg
        else (c.bset pg F.CLS_TREE_CTRL_BUSY true t.val).setCls d { s.clsOf d with
          swaps := (s.clsOf d).swaps.set none t.val (some (s.monoNs d))
          swapWrites := (s.clsOf d).swapWrites.set [] t.val (((List.range 4).map (4 * d + ·)).filter (fun c =>
            (s.qdrBusy.get none c).any (fun a => a.data.isSome))) })) ∧
    (∀ (s : State) (d : Die) (c : Fin 4), s.operates (clsPg d.val) = true →
      exec (.treeFailedMark d c) s = .next (if bit (s.fget (clsPg d.val) F.CLS_STATUS_CHAN_FAILED) c.val then
        (List.range 256).foldl (fun s t =>
          if bit (s.treeMask d.val t (s.treeActive d.val t)) c.val ∧ !s.treeFailed d.val t then
            (s.bset (clsPg d.val) F.CLS_TREE_CTRL_FAILED true t).raise (clsPg d.val) 11
          else s) s else s))) ∧
  (
    (∀ (s : State) (src : Source) (page : PageIdx) (c : Nat) (val : Word), s.reaches src page (qdrPg c) →
      let pg := qdrPg c
      let b := (s.putRw pg F.QDR_CMD.off val).bset pg F.QDR_CMD_BUSY true
      exec (.qdrWrite src page val) s = .next (if s.flag pg F.QDR_CMD_BUSY then s.errCount pg
        else { b with
          qdrBusy := s.qdrBusy.set none c (some ⟨F.QDR_CMD_NODE.of val, some (BitVec.ofNat 256 (b.words pg F.QDR_DATA 8))⟩) }) ∧
      exec (.qdrRead src page val) s = .next (if s.flag pg F.QDR_CMD_BUSY then s.errCount pg
        else { b with qdrBusy := s.qdrBusy.set none c (some ⟨F.QDR_CMD_NODE.of val, none⟩) })) ∧
    (∀ (s : State) (c : Fin 8) (err : QdrErr) (a : QdrAccess), s.operates (qdrPg c.val) = true →
      let pg := qdrPg c.val
      let v := ({ s with qdrBusy := s.qdrBusy.set none c.val none }).bset pg F.QDR_CMD_BUSY false
      let x := s.clss.get {} (c.val / 4)
      let u := { v with clss := s.clss.set {} (c.val / 4) { x with
        swapWrites := (x.swapWrites.map (fun (kv : Nat × List Nat) => (kv.1, kv.2.erase c.val))).filter (fun kv => !kv.2.isEmpty) } }
      (s.qdrBusy.get none c.val = none → exec (.qdrAccessDone c err) s = .next s) ∧
      (s.qdrBusy.get none c.val = some a → ∀ v, a.data = some v → exec (.qdrAccessDone c err) s = .next (u.setQdr c.val a.node v)) ∧
      (s.qdrBusy.get none c.val = some a → a.data = none →
        let r := (u.qdrReport c.val a.node err).bset pg F.QDR_CMD_ERR err.fails
        exec (.qdrAccessDone c err) s =
          .next (r.setWords pg F.QDR_DATA 8 (if err.fails then 0 else (r.qdrNode c.val a.node).toNat)))))

/-- On a slice page that its source reaches, a write command stores the data words as one node (4 words) or one
transition (2 words) of the parse graph, and a read command puts the entry into the data words. A write of a stage's
configuration is stored when all stages with it satisfy R142, and is refused and counted otherwise. On a slice page that
its source reaches: an INSERT that fits stores the result of the prefix and shows OK; one that does not fit shows what
is full, with the level for a node memory, and raises LPM_FULL; a DELETE shows OK, or NOT_FOUND; a LOOKUP shows the
result and the length of the longest prefix that covers the address, and OK, or NOT_FOUND. The end of a command of a
slice that operates clears BUSY. -/
def Obligations.ParserMemoriesAndPrefixesAreCommanded : Prop :=
  (
    ∀ (s : State) (src : Source) (page : PageIdx) (n : Nat) (k : Fin 24) (val : Word), s.reaches src page (slicePg n) →
      let pg := slicePg n
      let a := s.putRw pg F.PRS_MEM_ADDR.off val
      let i := F.PRS_MEM_ADDR_INDEX.of val
      let t := s.tab n
      exec (.prsMemWrite src page val) s = .next (a.setTab n (if F.PRS_MEM_ADDR_SPACE.of val = 0
        then { t with node := t.node.set 0 i (BitVec.ofNat 128 (a.words pg F.PRS_MEM_DATA 4)) }
        else { t with trans := t.trans.set 0 i (BitVec.ofNat 64 (a.words pg F.PRS_MEM_DATA 2)) })) ∧
      exec (.prsMemRead src page val) s = .next (if F.PRS_MEM_ADDR_SPACE.of val = 0
        then a.setWords pg F.PRS_MEM_DATA 4 (t.node.get 0 i).toNat
        else a.setWords pg F.PRS_MEM_DATA 2 (t.trans.get 0 i).toNat) ∧
      exec (.stageCfgWrite src page k val) s = .next (if stagesOk (s.stagesWith n k.val val.toNat)
        then s.putRw pg (F.TBL_STAGE_CFG.at k.val) val else s.errCount pg)) ∧
  (
    (∀ (s : State) (src : Source) (page : PageIdx) (n : Nat) (val : Word), s.reaches src page (slicePg n) →
      let pg := slicePg n
      let a := s.putRw pg F.TBL_LPM_CMD.off val
      let x := a.lpmCmdArgs n
      exec (.lpmInsert src page val) s = .next (
        match a.lpmInsert n x.1 x.2.1 x.2.2 ((a.reg pg F.TBL_LPM_RESULT.off).setWidth 18) with
        | (.fits, u) => u.lpmStatus n 0 0
        | (.fullResult, u) => (u.lpmStatus n 2 0).raise pg 11
        | (.fullNode i, u) => (u.lpmStatus n 3 i).raise pg 11) ∧
      exec (.lpmDelete src page val) s = .next (
        let r := a.lpmDelete n x.1 x.2.1 x.2.2
        r.2.lpmStatus n (if r.1 then 0 else 1) 0) ∧
      (lpmFind ((a.tab n).lpm x.1) x.1 x.2.2 = none → exec (.lpmLookup src page val) s = .next (a.lpmStatus n 1 0)) ∧
      (∀ len res, lpmFind ((a.tab n).lpm x.1) x.1 x.2.2 = some (len, res) → exec (.lpmLookup src page val) s = .next
        (((a.setReg pg F.TBL_LPM_RESULT.off (res.setWidth 32)).fset pg F.TBL_LPM_CMD_LEN len).lpmStatus n 0 0))) ∧
    (∀ (s : State) (sl : Slice), s.operates (slicePg sl.val) = true →
      ∃ t, exec (.lpmCmdDone sl) s = .next t ∧ t.flag (slicePg sl.val) F.TBL_LPM_CMD_BUSY = false))

/-- On a slice page that its source reaches: an INSERT of the tenant map or of the exact-match table places the entry of
the data registers under its key and shows OK, or FULL where no relocation makes room (the exact-match table then also
raises its cause); a DELETE removes the entry and shows OK, or NOT_FOUND; a LOOKUP shows the tenant or the entry and OK,
or NOT_FOUND. The end of a command of a slice that operates clears BUSY. A seed is written only while both tables are
empty, and is refused and counted otherwise. -/
def Obligations.HashTablesAreCommanded : Prop :=
  (∀ (s : State) (src : Source) (page : PageIdx) (n : Nat) (val : Word), s.reaches src page (slicePg n) →
    let pg := slicePg n
    let a := s.putRw pg F.PRS_TMAP_CMD.off val
    let e := s.putRw pg F.TBL_EM_CMD.off val
    exec (.tmapInsert src page val) s = .next (match a.hashInsert .tmap n (a.tmapKey n) [a.tmapEntry n] with
      | (.ok _, u) => u.tmapStatus n 0
      | (.full, u) => u.tmapStatus n 2) ∧
    exec (.tmapDelete src page val) s = .next (
      let r := a.hashDelete .tmap n (a.tmapKey n)
      r.2.tmapStatus n (if r.1 then 0 else 1)) ∧
    (a.hashFind .tmap n (a.tmapKey n) = none → exec (.tmapLookup src page val) s = .next (a.tmapStatus n 1)) ∧
    (∀ i, a.hashFind .tmap n (a.tmapKey n) = some i → exec (.tmapLookup src page val) s = .next
      ((a.fset pg F.PRS_TMAP_RESULT_TENANT (bits ((a.tab n).tmap.get 0 i).toNat 26 13)).tmapStatus n 0)) ∧
    (∀ k, e.emCmdKey n = some k →
      exec (.emInsert src page val) s = .next (match e.hashInsert .em n k (e.emCmdEntries n) with
        | (.ok i, u) => u.emStatus n 0 i
        | (.full, u) => (u.emStatus n 2 0).raise pg 10) ∧
      (e.hashFind .em n k = none → exec (.emDelete src page val) s = .next (e.emStatus n 1 0)) ∧
      (∀ i, e.hashFind .em n k = some i → exec (.emDelete src page val) s = .next ((e.hashDelete .em n k).2.emStatus n 0 i) ∧
        (e.flag pg F.TBL_EM_CMD_V6 = false → exec (.emLookup src page val) s = .next
          ((((((e.setReg pg F.TBL_EM_DATA4.off 0).setReg pg F.TBL_EM_DATA5.off 0).setReg pg F.TBL_EM_DATA6.off 0)).setWords pg
            F.TBL_EM_DATA 4 ((e.tab n).em.get 0 i).toNat).emStatus n 0 i)))) ∧
    ∀ w : Fin 2, exec (.emSeedWrite src page w val) s = .next (
      if (s.tab n).em.any (fun e => e.2.getLsbD 127) || (s.tab n).tmap.any (fun e => e.2.getLsbD 63) then s.errCount pg
      else s.setReg pg (F.TBL_EM_SEED.at w.val) val)) ∧
  (∀ (s : State) (sl : Slice), s.operates (slicePg sl.val) = true →
    (∃ t, exec (.tmapCmdDone sl) s = .next t ∧ t.flag (slicePg sl.val) F.PRS_TMAP_CMD_BUSY = false) ∧
    (∃ t, exec (.emCmdDone sl) s = .next t ∧ t.flag (slicePg sl.val) F.TBL_EM_CMD_BUSY = false))

/-- On a slice page that its source reaches: an indexed write or read acts on the entry of a table and index that exist
(the two tables with their own commands are only read), and otherwise sets ERR and does nothing else; a write of
TBL_ACCESS_LOCK stores the requests and withdraws each grant whose request is gone. In a slice that operates, a
requested table's lock is granted; the timeout takes request and grant back and raises its cause. A repair of a failed
entry whose table is not locked copies it from a good copy of the die, or makes it invalid where there is none. On a
slice page that its source reaches: INVALIDATE and VALIDATE of the head row of a group set its valid flag, and of any
other row are refused; WRITE stores value, mask and metadata in the row named while the group's head row is invalid, and
is refused while it is valid; READ shows the row and the head's valid flag. Each shows its result in LAST, and its end
clears BUSY. A block configuration that changes nothing does nothing; one for a group with a valid row is refused and
counted; any other is stored. A scrub, after the bits that flipped before it, rewrites every row that differs from its
copy and counts those rows. -/
def Obligations.IndexedTablesAndTcamAreCommanded : Prop :=
  (
    (∀ (s : State) (src : Source) (page : PageIdx) (n : Nat) (val : Word), s.reaches src page (slicePg n) →
      let pg := slicePg n
      let a := s.putRw pg F.TBL_IDX_CMD.off val
      let tid := F.TBL_IDX_CMD_TABLE.of val
      let i := F.TBL_IDX_CMD_INDEX.of val
      let w := a.bset pg F.TBL_IDX_CMD_ERR false
      (∀ size, tableSize tid = some size → i < size →
        (2 ≤ tid → exec (.tblIdxWrite src page val) s = .next (w.tableWrite n tid i (w.words pg F.TBL_IDX_DATA 4))) ∧
        exec (.tblIdxRead src page val) s = .next (w.setWords pg F.TBL_IDX_DATA 4 (w.tableRead n tid i))) ∧
      ((∀ size, tableSize tid = some size → size ≤ i) →
        exec (.tblIdxWrite src page val) s = .next (a.bset pg F.TBL_IDX_CMD_ERR true) ∧
        exec (.tblIdxRead src page val) s = .next (a.bset pg F.TBL_IDX_CMD_ERR true)) ∧
      (tid < 2 → exec (.tblIdxWrite src page val) s = .next (a.bset pg F.TBL_IDX_CMD_ERR true)) ∧
      let l := s.putRw pg F.TBL_ACCESS_LOCK.off val
      let g := l.fset pg F.TBL_ACCESS_LOCK_GRANTED (l.fget pg F.TBL_ACCESS_LOCK_GRANTED &&& l.fget pg F.TBL_ACCESS_LOCK_REQ)
      exec (.tableLockRequest src page val) s = .next g ∧ exec (.tableLockRelease src page val) s = .next g) ∧
    (∀ (s : State) (sl : Slice) (t : Fin 8), s.operates (slicePg sl.val) = true →
      let pg := slicePg sl.val
      (bit (s.fget pg F.TBL_ACCESS_LOCK_REQ) t.val = true →
        ∃ u, exec (.tableLockGrant sl t) s = .next u ∧ u.granted sl.val t.val = true) ∧
      (s.granted sl.val t.val = true → s.fget pg F.TBL_LOCK_TIMEOUT_TIMEOUT ≠ 0 →
        ∃ u, exec (.tableLockTimeout sl t) s = .next u ∧ u.granted sl.val t.val = false ∧
          bit (u.fget pg F.TBL_ACCESS_LOCK_REQ) t.val = false ∧ (u.reg pg F.PAGE_IRQ_STATUS.off).getLsbD 12 = true)) ∧
    (∀ (s : State) (sl : Slice) (x : Nat × Nat), s.operates (slicePg sl.val) = true →
      (s.tab sl.val).repairs.find? (fun r => !(decide (r.1 < 8) && s.granted sl.val r.1)) = some x →
      exec (.parityRepair sl) s = .next (
        match ((List.range 8).map (8 * sliceDie sl.val + ·)).find? (fun y => y ≠ sl.val ∧ !s.isBad y x.1 x.2) with
        | some y => ((s.setTab sl.val (copyEntry (s.tab y) (s.tab sl.val) x.1 x.2)).cadd (slicePg sl.val)
            F.TBL_PARITY_REPAIRED).clearBad sl.val x.1 x.2
        | none => (s.updTab sl.val (fun t => clearValid t x.1 x.2)).clearBad sl.val x.1 x.2))) ∧
  (
    (∀ (s : State) (src : Source) (page : PageIdx) (n : Nat) (b : Fin 16) (val : Word), s.reaches src page (slicePg n) →
      let pg := slicePg n
      let a := s.putRw pg F.TBL_TCAM_ROW.off val
      let i := (a.rowSel n val).1
      let head := (a.rowSel n val).2
      (∀ v : Bool, exec (if v then .tcamValidate src page val else .tcamInvalidate src page val) s = .next (
        if i ≠ head then a.rowLast n 2 else (a.setTcamRow n i { a.tcamRow n i with valid := v }).rowLast n 0)) ∧
      exec (.tcamWrite src page val) s = .next (if (a.tcamRow n head).valid then a.rowLast n 1
        else ((a.tcamRewrite n i).setTcamRow n i
          { value := BitVec.ofNat 480 (a.words pg F.TBL_TCAM_VALUE 15),
            mask := BitVec.ofNat 480 (a.words pg F.TBL_TCAM_MASK 15), pf := a.reg pg F.TBL_TCAM_META.off,
            valid := (a.tcamRow n i).valid }).rowLast n 0) ∧
      exec (.tcamRead src page val) s = .next (
        let u := (a.setWords pg F.TBL_TCAM_VALUE 15 (a.tcamRow n i).value.toNat).setWords pg F.TBL_TCAM_MASK 15
          (a.tcamRow n i).mask.toNat
        ((u.setReg pg F.TBL_TCAM_META.off (a.tcamRow n i).pf).bset pg F.TBL_TCAM_ROW_VALID (a.tcamRow n head).valid).rowLast n 0) ∧
      let off := F.TBL_TCAM_BLOCK_CFG.at b.val
      exec (.tcamBlockCfgWrite src page b val) s = .next (
        if (s.putRw pg off val).reg pg off = s.reg pg off then s
        else if (s.tab n).tcam.any (fun kv => decide (kv.1 / 1024 = s.tcamFirst n b.val) && kv.2.valid) then
          (s.fset pg F.TBL_TCAM_ROW_LAST 3).errCount pg
        else s.putRw pg off val)) ∧
    (∀ (s : State) (sl : Slice) (flips : List TcamFlip),
      (s.operates (slicePg sl.val) = true →
        ∃ t, exec (.tcamRowOpDone sl) s = .next t ∧ t.flag (slicePg sl.val) F.TBL_TCAM_ROW_BUSY = false) ∧
      let c := s.tcamFlips sl.val flips
      exec (.tcamScrub sl flips) s = .next ((c.updTab sl.val (fun t => { t with upset := [] })).cadd (slicePg sl.val)
        F.TBL_TCAM_SCRUB_FIX (c.tab sl.val).upset.length)))

/-- For a context whose word has issued, waits for no lock and is not committing, where the word neither commits nor
ends the routine and no read of its own or pending names its DST: each operation writes its value of R191 to DST (G0
stays zero), Z and N are those of the value, every other register stays, and the next address is BTARGET or NEXT as
FLOW, Z, N and HIT say. CMP writes only the flags, NOP nothing, and a branch on Z or N in a NOP word is not taken (the
model's reading: R189 branches on flags set by this word). EXT is stated where its field ends at bit 63 or below. -/
def Obligations.AluOperationsCompute : Prop :=
  ∀ (s : State) (e : Engine) (k : Fin 32) (ft : EccErr) (r : Routine) (l : Latch),
    s.ctx e.val k.val = some r → r.latch = some l → r.lockWait = none → r.committing = false → r.pend = [] →
    let w := s.wordAt (e.val / 16) r.pc
    mwCommit w = false → mwFlow w ≠ 6 → ¬ ((mwMem w = 1 ∨ mwMem w = 3) ∧ mwDst w = mwMemReg w) →
    let next (z n : Bool) : Nat := match mwFlow w with
      | 1 => if z then mwBtarget w else mwNext w
      | 2 => if z then mwNext w else mwBtarget w
      | 3 => if n then mwBtarget w else mwNext w
      | 4 => if l.hit then mwBtarget w else mwNext w
      | 5 => if l.hit then mwNext w else mwBtarget w
      | _ => mwNext w
    let p := l.b.toNat % 64
    let n := l.b.toNat / 256 % 64 + 1
    let writes (c : Instr) (v : DWord) : Prop := ∃ t r', exec c s = .next t ∧ t.ctx e.val k.val = some r' ∧
      (∀ i, r'.reg i = if i = mwDst w ∧ i ≠ 0 then v else r.reg i) ∧
      r'.z = decide (v = 0) ∧ r'.n = v.msb ∧ r'.hit = r.hit ∧ r'.pc = next (decide (v = 0)) v.msb
    (mwAlu w = 0 → ∃ t r', exec (.aluNop e k ft) s = .next t ∧ t.ctx e.val k.val = some r' ∧ (∀ i, r'.reg i = r.reg i) ∧
      r'.z = r.z ∧ r'.n = r.n ∧
      r'.pc = if (mwFlow w = 4 ∧ l.hit = true) ∨ (mwFlow w = 5 ∧ l.hit = false) then mwBtarget w else mwNext w) ∧
    (mwAlu w = 1 → writes (.aluMov e k ft) l.b) ∧
    (mwAlu w = 2 → writes (.aluAdd e k ft) (l.a + l.b)) ∧
    (mwAlu w = 3 → writes (.aluSub e k ft) (l.a - l.b)) ∧
    (mwAlu w = 4 → writes (.aluAnd e k ft) (l.a &&& l.b)) ∧
    (mwAlu w = 5 → writes (.aluOr e k ft) (l.a ||| l.b)) ∧
    (mwAlu w = 6 → writes (.aluXor e k ft) (l.a ^^^ l.b)) ∧
    (mwAlu w = 7 → writes (.aluShl e k ft) (l.a <<< p)) ∧
    (mwAlu w = 8 → writes (.aluShr e k ft) (l.a >>> p)) ∧
    (mwAlu w = 9 → writes (.aluSar e k ft) (l.a.sshiftRight p)) ∧
    (mwAlu w = 0xA → ∃ t r', exec (.aluCmp e k ft) s = .next t ∧ t.ctx e.val k.val = some r' ∧ (∀ i, r'.reg i = r.reg i) ∧
      r'.z = decide (l.a = l.b) ∧ r'.n = (l.a - l.b).msb ∧ r'.pc = next (decide (l.a = l.b)) (l.a - l.b).msb) ∧
    (mwAlu w = 0xB → writes (.aluMin e k ft) (if l.a.toNat ≤ l.b.toNat then l.a else l.b)) ∧
    (mwAlu w = 0xC → writes (.aluMax e k ft) (if l.a.toNat ≤ l.b.toNat then l.b else l.a)) ∧
    (mwAlu w = 0xD → p + n ≤ 64 → writes (.aluExt e k ft) (BitVec.ofNat 64 (l.a.toNat / 2 ^ p % 2 ^ n))) ∧
    (mwAlu w = 0xE → writes (.aluIns e k ft) (BitVec.ofNat 64 (putBits l.old.toNat (min 63 (p + n - 1)) p l.a.toNat))) ∧
    (mwAlu w = 0xF → writes (.aluMul e k ft) (l.a * l.b)) ∧
    (mwAlu w = 0x10 → writes (.aluCrc32c e k ft)
      ((crc32cNext (l.b.setWidth 32) (beBytes 8 l.a.toNat)).setWidth 64))

/-- A context of a running slice that has no word issued takes its next word with the command of its memory operation
(with the ALU command where it has none) when its engine chooses it: a slot is free, nothing holds the word back, and no
other eligible context of the engine goes before it; otherwise nothing happens. With a good control-store read, the
watchdog not reached, and a legal word, its issue is counted, its operands are latched, and the memory operation starts
(or the ALU completes the word). At the watchdog's limit, and on an ILLEGAL word, the routine ends with that cause
instead. -/
def Obligations.WordsIssueInOrder : Prop :=
  ∀ (s : State) (e : Engine) (k : Fin 32) (r : Routine), s.ctx e.val k.val = some r →
    s.sliceRuns (e.val / 16) = true → r.latch = none →
    let sl := e.val / 16
    let w := s.wordAt sl r.pc
    let x := mwDwell w
    let l : Latch := ⟨r.reg (mwSrcA w), if mwImmEn w then mwImm w else r.reg (mwSrcB w), r.reg (mwDst w), r.hit⟩
    let r' : Routine := { r with words := r.words + 1, latch := some l }
    let u := ((s.cadd (enginePg e.val) F.SE_ISSUES x).pmcEvent (slicePg sl) (s.engineEvent r 9 x)).chargeRoutine
      (e.val / 128) r 7 x
    let limit := s.fget (csPg sl) F.CS_CTRL_WATCHDOG
    let runs (c : Instr) (t : State) : Prop := exec c s = .next (
      if s.chosen e.val k.val r = false then s else if limit ≠ 0 ∧ r.words ≥ limit then s.endByCause e.val k.val 0xA none
      else if r.illegal w then s.endByCause e.val k.val 8 none else t)
    (mwMem w = 0 →
      (mwAlu w = 0 → runs (.aluNop e k .ok) (u.aluStep e.val k.val w r')) ∧
      (mwAlu w = 2 → runs (.aluAdd e k .ok) (u.aluStep e.val k.val w r')) ∧
      (mwAlu w = 0x10 → runs (.aluCrc32c e k .ok) (u.aluStep e.val k.val w r'))) ∧
    ∀ op c, (op, c) ∈ [(1, Instr.memHrd e k .ok), (2, .memHwr e k .ok), (3, .memMrd e k .ok), (4, .memMwr e k .ok),
      (5, .memTrd e k .ok), (6, .memTwr e k .ok), (7, .memEml e k .ok), (8, .memLpm e k .ok), (9, .memQrd e k .ok),
      (0xA, .memQwr e k .ok), (0xB, .memCnt e k .ok), (0xC, .memLock e k .ok), (0xD, .memXrd e k .ok),
      (0xE, .memCu e k .ok)] → mwMem w = op → runs c (u.memStart e.val k.val w r')

/-- For a word that issues: HRD and MRD load the register from the header window, or the metadata field, as the log has
it; HWR, MWR, TWR, QWR and CNT stage their write in the log while it has room, and end the routine with STAGE_FULL when
it has none; TRD, EML, LPM, QRD, XRD and CU become pending reads of the stated number of registers, CU also a message to
the cipher unit; LOCK waits for the lock-table entry of its ID. A reserved metadata number loads a free value. -/
def Obligations.MemoryOperationsAct : Prop :=
  ∀ (s : State) (e : Engine) (k : Fin 32) (r : Routine), s.ctx e.val k.val = some r →
    s.sliceRuns (e.val / 16) = true → s.chosen e.val k.val r = true →
    let sl := e.val / 16
    let w := s.wordAt sl r.pc
    r.illegal w = false → s.fget (csPg sl) F.CS_CTRL_WATCHDOG = 0 →
    let a := mwMemAddr w + (r.reg (mwAddrReg w)).toNat
    let off := bits (mwMemAddr w) 7 0 + (r.reg (mwAddrReg w)).toNat
    let m := mwMemReg w
    let v := (r.reg m).toNat
    let stages (c : Instr) (x : Staged) : Prop := ∃ t, exec c s = .next t ∧
      (r.staged < 64 → ∃ r', t.ctx e.val k.val = some r' ∧ r'.log = r.log ++ [x] ∧ r'.staged = r.staged + 1 ∧ r'.regs = r.regs)
    let reads (c : Instr) (x : ReadOf) (n : Nat) : Prop := ∃ t r', exec c s = .next t ∧ t.ctx e.val k.val = some r' ∧
      r'.pend = r.pend ++ [{ of := x, reg := m, count := n }] ∧ r'.regs = r.regs
    (mwMem w = 1 → off + mwSize w ≤ r.windowNow.length → ∃ t r', exec (.memHrd e k .ok) s = .next t ∧
      t.ctx e.val k.val = some r' ∧ (m ≠ 0 → r'.reg m = BitVec.ofNat 64 (num r.windowNow off (mwSize w)))) ∧
    (mwMem w = 2 → stages (.memHwr e k .ok) (.hdr off ((beBytes (mwSize w) v).take (r.window.length - off)))) ∧
    (mwMem w = 3 → ∃ t r', exec (.memMrd e k .ok) s = .next t ∧ t.ctx e.val k.val = some r' ∧
      (r.uid = none → m ≠ 0 → r'.reg m = 0)) ∧
    (mwMem w = 4 → stages (.memMwr e k .ok) (.meta_ (bits (mwMemAddr w) 5 0) (v % 2 ^ (8 * mwSize w)))) ∧
    (mwMem w = 5 → reads (.memTrd e k .ok) (.trd (mwTable w) a) 2) ∧
    (mwMem w = 6 → stages (.memTwr e k .ok) (.table (mwTable w) a (r.getRegs m 2))) ∧
    (mwMem w = 7 → reads (.memEml e k .ok)
      (.eml (bits (mwTable w) 1 0) v (r.reg (m + 1)).toNat (bits (r.reg (m + 2)).toNat 11 0)) 2) ∧
    (mwMem w = 8 → reads (.memLpm e k .ok) (.lpm (decide (mwTable w = 9)) (r.getRegs m 2)) 1) ∧
    (mwMem w = 9 → reads (.memQrd e k .ok) (.qrd (mwQchan w) (a % 2 ^ 23)) 4) ∧
    (mwMem w = 0xA → stages (.memQwr e k .ok) (.qdr (mwQchan w) (a % 2 ^ 23) (r.getRegs m 4))) ∧
    (mwMem w = 0xB → stages (.memCnt e k .ok)
      (.count (bits (mwMemAddr w) 13 0 + (r.reg (mwAddrReg w)).toNat) v (r.reg (m + 1)).toNat)) ∧
    (mwMem w = 0xC → ∃ t r', exec (.memLock e k .ok) s = .next t ∧ t.ctx e.val k.val = some r' ∧
      r'.lockWait = some (Config.lockEntry (BitVec.ofNat 24 a)).val ∧ r'.lockOps = r.lockOps + 1) ∧
    (mwMem w = 0xD → reads (.memXrd e k .ok) (.xrd (mwTable w) (a % 2 ^ 64)) 4) ∧
    (mwMem w = 0xE → reads (.memCu e k .ok) .cu 4)

/-- With the control store running, the frame at the head of a slice's dispatch queue starts in a free context, or takes
the context of a victim of lower urgency. Data that arrives for a pending read goes to its registers and ends the read.
A context whose lock-table entry no other holds takes it and no longer waits. A commit with no read pending and no
foreign holder of what its log maps to applies the log, counts, frees the locks, and the routine goes on or ends. A
routine that waits out its DMA fault is aborted with its frame. -/
def Obligations.RoutinesAreDispatchedAndCommit : Prop :=
  (∀ (s : State) (sl : Slice) (u : Nat) (f : Machine.Frm),
    let v := s.startEvent sl.val
    v.headFrm sl.val = some (u, f) → v.csStarts sl.val = true →
    (∀ e k, v.placeCtx sl.val = some (e, k) → exec (.engineDispatch sl) s = .next (v.startRoutine sl.val e k u)) ∧
    (∀ e k x, v.placeCtx sl.val = none → v.victim sl.val (v.urgency sl.val f.tc) = some (e, k, x) →
      exec (.engineDispatch sl) s = .next ((v.abandon e k (some 2) none).startRoutine sl.val e k u))) ∧
  (∀ (s : State) (e : Engine) (k reg : Fin 32) (rep : ReadReport) (r : Routine) (p : Pending), s.ctx e.val k.val = some r →
    r.pend.find? (fun p => p.reg = reg.val) = some p →
    ∀ v hit u, (s.markBad (e.val / 16) rep.bad).arrive e.val k.val r p rep = (.data v hit, u) →
      ∃ t r', exec (.memReadReturn e k reg rep) s = .next t ∧ t.ctx e.val k.val = some r' ∧ r'.pend = r.pend.erase p ∧
        (∀ j < p.count, p.reg + j ≠ 0 → r'.reg (p.reg + j) = BitVec.ofNat 64 (v / 2 ^ (64 * j))) ∧
        r'.hit = hit.getD r.hit) ∧
  (∀ (s : State) (e : Engine) (k : Fin 32) (r : Routine) (x : Nat), s.ctx e.val k.val = some r → r.lockWait = some x →
    s.lockHolder (e.val / 128) x = none →
    ∃ t r', exec (.lockGrant e k) s = .next t ∧ t.ctx e.val k.val = some r' ∧ r'.lockWait = none ∧ x ∈ r'.locks) ∧
  (∀ (s : State) (e : Engine) (k : Fin 32) (r : Routine), s.ctx e.val k.val = some r → r.committing = true → r.pend = [] →
    (∀ x ∈ r.commitLocks (e.val / 128), ∀ h, s.lockHolder (e.val / 128) x = some h → h.1 = e.val ∧ h.2.1 = k.val) →
    let a := ((s.applyLog e.val r).cadd (csPg (e.val / 16)) F.CS_COMMITS).freeLocks (e.val / 128) r.locks
    let b := if r.uid.isNone then a.raise (csPg (e.val / 16)) 15 else a
    let r' : Routine := { r.applyLocal with log := [], locks := [], committed := true, committing := false }
    let c := b.setCtx e.val k.val (some r')
    exec (.routineCommit e k) s = .next (if r'.ending then c.endRoutine e.val k.val r' else c)) ∧
  (∀ (s : State) (sl : Slice) (uid : Nat),
    let c := s.csOf sl.val
    let x := s.sliceOf sl.val
    exec (.csDmaWaitExpire sl uid) s = .next (if c.holds.get none uid = some .dma then
      ((s.setCs sl.val { c with holds := c.holds.set none uid none }).setSlice sl.val
        { x with queue := x.queue.filter (· ≠ uid) }).abortFrm sl.val uid {} else s))

/-- On a control-store page that its source reaches: a word write stores the data words at the address, a word read
shows the word there with the check bits of an open code; RUN is refused and counted while the store is not verified; GO
raises an event routine, or is counted while one is pending. In a control store that operates, the scrub counts and
handles each error in turn. A reload ends with the donor's words, verified, or with its failure raised. A fault of an
engine is recorded once, marks the engine failed, signals it and ends its routines. -/
def Obligations.ControlStoreIsLoadedAndChecked : Prop :=
  (∀ (s : State) (src : Source) (page : PageIdx) (n : Nat) (val : Word), s.reaches src page (csPg n) →
    let pg := csPg n
    let adr := F.CS_ADDR_ADDR.of val
    let a := s.putRw pg F.CS_ADDR.off val
    let w := s.csWord n adr
    let g := s.putRw pg F.CS_EVENT.off val
    exec (.csWordWrite src page val) s = .next (a.csStore n adr (BitVec.ofNat 256 (a.words pg F.CS_DATA_DATA 8))) ∧
    exec (.csWordRead src page val) s = .next ((a.setWords pg F.CS_DATA_DATA 8 w.toNat).fset pg F.CS_ECC_CHECK
      (Config.csCheck (BitVec.ofNat 15 adr) w).toNat) ∧
    (F.CS_CTRL_RUN.of val = 1 → s.flag pg F.CS_STATUS_VERIFIED = false →
      exec (.csRunWrite src page val) s = .next (s.errCount pg)) ∧
    (F.CS_CTRL_RUN.of val = 0 → exec (.csRunWrite src page val) s = .next ((s.putRw pg F.CS_CTRL.off val).startEvent n)) ∧
    exec (.csEventGo src page val) s = .next ((g.raiseEvent n).wakeCause n) ∧
    (g.flag pg F.CS_EVENT_PENDING = true → g.raiseEvent n = g.errCount pg)) ∧
  (∀ (s : State) (sl : Slice) (found : List EccErr) (bad : Bool), s.operates (csPg sl.val) = true → s.dieUp (sliceDie sl.val) = true →
    exec (.csScrub sl found) s = .next (found.foldl (fun s x => match x with
      | .ok => s
      | .corrected => s.csCorrected sl.val
      | .uncorr => s.csUncorr sl.val) s) ∧
    let pg := csPg sl.val
    let u := s.bset pg F.CS_STATUS_RELOADING false
    (s.flag pg F.CS_STATUS_RELOADING = false → exec (.csReloadDone sl bad) s = .next s) ∧
    (s.flag pg F.CS_STATUS_RELOADING = true → exec (.csReloadDone sl true) s = .next (u.raise pg 11) ∧
      ∃ t, exec (.csReloadDone sl false) s = .next t ∧ t.flag pg F.CS_STATUS_VERIFIED = true ∧
        t.flag pg F.CS_STATUS_UNCORR = false ∧
        (t.csOf sl.val).words = (s.csOf (u.fget pg F.CS_STATUS_DONOR)).words)) ∧
  (∀ (s : State) (e : Engine) (cause : Fin 4), s.dieUp (e.val / 128) = true →
    let pg := enginePg e.val
    let a := ((s.setReg pg F.SE_FAULT.off (BitVec.ofNat 32 (2 ^ 31 + cause.val + 1))).setFault pg true).raise pg 8
    exec (.engineFault e cause) s = .next (if (s.reg pg 0x10).getLsbD 9 then s
      else (((a.routines (e.val / 16)).filter (fun x => x.1 = e.val)).foldl
        (fun s x => s.endByCause x.1 x.2.1 6 none) a).startEvent (e.val / 16)))

/-- On the deciding arbiter, one that operates and is not held by a lock, the first event of the FIFO leaves it: an
address that is static is counted as discarded, a pinned one as damped, an event older than the last change as stale,
any other is applied to every copy. Unpinning clears the entry's PINNED in every copy and its list of moves. The end of
a move window forgets what was kept for the address. An age scan, with ageing enabled, ages each learned address and
starts the record of hits afresh. -/
def Obligations.LearningFollowsItsRules : Prop :=
  ∀ (s : State) (d : Die) (bd : BitVec 14) (mac : BitVec 48), s.operates (lrnPg d.val) = true →
    (exec (.learnMoveWindowExpire d bd mac) s = .next (s.setLrn d.val { s.lrnOf d.val with
      kept := (s.lrnOf d.val).kept.set none (addrKey bd.toNat mac.toNat) none })) ∧
    (s.lrnMaster d.val = true →
      (∀ x l, s.learnHeld d.val = false → (s.lrnOf d.val).fifo = x :: l →
        let u := s.setLrn d.val { s.lrnOf d.val with fifo := l }
        let w := (u.learnEntry ((u.learnScope d.val).headD 0) x.bd x.mac).getD 0
        exec (.learnEventApply d) s = .next (if bit w 124 then u.cadd (lrnPg d.val) F.LRN_DISCARDED
          else if bit w 123 then u.cadd (lrnPg d.val) F.LRN_DAMPED
          else if u.isStale d.val x then u.cadd (lrnPg d.val) F.LRN_STALE
          else u.applyLearn d.val x)) ∧
      (s.learnHeld d.val = false →
        let u := (s.learnScope d.val).foldl (fun s sl =>
          s.changeEntry sl bd.toNat mac.toNat (fun w => putBits w 123 123 0)) s
        exec (.learnUnpin d bd mac) s = .next (u.setLrn d.val { u.lrnOf d.val with
          moves := (u.lrnOf d.val).moves.set [] (addrKey bd.toNat mac.toNat) [] })) ∧
      (s.learnHeld d.val = false → s.fget (lrnPg d.val) F.LRN_AGE_CFG_PERIOD_S ≠ 0 →
        let u := (s.learnedKeys d.val).foldl (fun s k => s.ageKey d.val k) s
        exec (.ageScan d) s =
          .next ((u.learnScope d.val).foldl (fun s sl => s.updTab sl (fun t => { t with hits := [] })) u)))

/-- A received frame that waits for admission on a die that is up and whose buffer manager operates, and behind none
that R239 puts before it, leaves the list and is held by the die: a frame for a port of the die is dropped with the
reason that its queue gives, or enqueued with its first cell charged to the shared pool or to headroom; a frame without
a target is dropped as NO_ROUTE. A last cell with good parity writes the rest of the cells and makes the frame's copies
eligible, or spoils them with the reason the frame has. A queue that its cut-through copy heads is assessed again. In
both cases the shapers of queues that now wait wake. -/
def Obligations.FramesAreAdmittedOrDropped : Prop :=
  (∀ (s : State) (d : Die) (uid : Nat) (f : Machine.Frm), s.operates (bufPg d.val) = true → s.dieUp d.val = true →
    s.frm uid = some f → uid ∈ s.admits.get [] d.val → f.kind = .rx → s.waitsBehind d.val uid f = false →
    let l := (s.admits.get [] d.val).erase uid
    let u := ({ s with admits := s.admits.set [] d.val l }).setFrm uid { f with holder := d.val }
    let g : Machine.Frm := f
    (f.target = none → exec (.frameAdmit d uid) s = .next ((u.dropAt d.val uid { uid := uid } dNoRoute).wakeDie d.val)) ∧
    (∀ p, f.target = some (.port p) → portDie p = d.val →
      let ls := u.copies d.val
      let c := u.portCopy d.val p uid g ls false
      exec (.frameAdmit d uid) s = .next (State.wakeDie (match u.admitPortQ d.val p c.queue g ls with
        | .drop why ll => (u.countRefusal d.val c why ll).dropAt d.val uid c why
        | .normal => (u.enqueuePort d.val p g c ls).cellsWritten d.val uid 1
        | .headroom => (u.enqueuePort d.val p g { c with head := true } ls).cellsWritten d.val uid 1) d.val))) ∧
  (∀ (s : State) (d : Die) (uid : Nat) (f : Machine.Frm), s.partFrm d.val uid = some f → f.lastByte = true →
    f.verdict ≠ .waiting → s.crossingTo d.val uid = false → (∃ c ∈ s.copies d.val, c.part = uid) →
    let u := s.writeRest d.val uid
    let why := f.reason (if f.lost then dKeel else 0)
    exec (.frameLastCell d uid false) s = .next (((if why ≠ 0 then u.spoil d.val uid why
      else u.updCopies d.val uid (fun c => { c with eligible := true })).assess d.val uid).wakeDie d.val))

/-- Where the buffer manager of the port's die operates: an age check removes from the head of every queue of the die
each copy that has aged. The end of a flush takes the queue from FLUSHING to ENABLED or DISABLED as its EN says, the end
of a drain with the queue empty to DISABLED. A write of a queue's configuration that its source reaches acts on each
port below the page: clearing EN flushes the queue or lets it drain as DISABLE_MODE says, setting it enables a draining
or disabled queue. On a buffer manager page that its source reaches, a SHARED or HEADROOM limit is stored when it fits
beside the reserve and the other limit in the cells available, and otherwise refused as OVERCOMMIT; a host queue's
configuration is stored under the same check of its minimum. A multicast command writes or reads one group's map and
flags. Where the buffer manager operates, an evaluation of XOFF finds every condition of the die anew, tells the other
die what changed for its ports while the keel is intact, and lets the ports send PFC; a refresh sends again for a class
in XOFF. -/
def Obligations.QueuesAndPoolsAreManaged : Prop :=
  (
    (∀ (s : State) (d : Die) (p : Port) (q : Fin 16), s.operates (bufPg d.val) = true → portDie p.val = d.val →
      exec (.queueHeadAgeCheck d) s = .next (((s.queues.map Prod.fst).filter (fun k => k / 8192 = d.val && decide (k < 16384))).foldl
        (fun s k => s.ageQueue (k / 16) (k % 16) (s.queueAt k).length) s) ∧
      (let u := s.purgeReady p.val
       exec (.portFlushDone p q) s = .next (if u.queueState p.val q.val = qFlush then u.setQueueState p.val q.val
          (if u.flag (portPg p.val) F.BUF_QUEUE_CFG_EN q.val then qEnabled else qDisabled) else u)) ∧
      (s.queueState p.val q.val = qDrain → s.queueAt (portQ p.val q.val) = [] →
        ∃ t, exec (.queueDrainDone p q) s = .next t ∧ t.queueState p.val q.val = qDisabled)) ∧
    (∀ (s : State) (src : Source) (page : PageIdx) (p : Page) (q : Fin 16) (val : Word), s.reaches src page p →
      s.targetsOf p .port ≠ [] →
      exec (.queueEnable src page q val) s =
        .next (s.queueCfgOn (s.targetsOf p .port) q.val (F.BUF_QUEUE_CFG_EN.put val 1)) ∧
      exec (.queueDisable src page q val) s =
        .next (s.queueCfgOn (s.targetsOf p .port) q.val (F.BUF_QUEUE_CFG_EN.put val 0)) ∧
      exec (.bufPoolLimitWrite src page (.queue q) val) s = .next (s.queueCfgOn (s.targetsOf p .port) q.val val)) ∧
    (∀ (s : State) (p q : Nat),
      (s.queueState p q = qEnabled → s.queueEn p q true false =
        if s.flag (portPg p) F.BUF_QUEUE_CFG_DISABLE_MODE q then s.flushQueue p q else s.setQueueState p q qDrain) ∧
      (s.queueState p q = qDrain ∨ s.queueState p q = qDisabled → s.queueEn p q false true = s.setQueueState p q qEnabled))) ∧
  (
    (∀ (s : State) (src : Source) (page : PageIdx) (n : Nat) (h : Fin 64) (val : Word), s.reaches src page (bufPg n) →
      let pg := bufPg n
      let lim := val.toNat % 2 ^ 21
      exec (.bufPoolLimitWrite src page .shared val) s = .next (
        if s.reserve n + lim + s.headroomLimit n > s.available n then s.overcommit n else s.putRw pg F.BUF_SHARED_LIMIT.off val) ∧
      exec (.bufPoolLimitWrite src page .headroom val) s = .next (
        if s.reserve n + lim + s.sharedLimit n > s.available n then s.overcommit n else s.putRw pg F.BUF_HEADROOM_LIMIT.off val) ∧
      exec (.bufPoolLimitWrite src page (.host h) val) s = .next (s.minWrite n (F.BUF_HQ_CFG.at h.val) val [pg]
        (fun s t => s.putRw t (F.BUF_HQ_CFG.at h.val) val)) ∧
      let a := s.putRw pg F.BUF_MC_CMD.off val
      let g := F.BUF_MC_CMD_GROUP.of val
      (∃ t, exec (.mcGroupWrite src page val) s = .next t ∧ t.mcs = s.mcs.set 0 (8192 * n + g) (BitVec.ofNat 515
        (a.words pg F.BUF_MC_MAP 16 + ((a.reg pg F.BUF_MC_FLAGS.off).toNat % 8) * 2 ^ 512))) ∧
      exec (.mcGroupRead src page val) s = .next (
        (a.setWords pg F.BUF_MC_MAP 16 ((s.mcEntry n g).toNat % 2 ^ 512)).setReg pg F.BUF_MC_FLAGS.off
          (BitVec.ofNat 32 ((s.mcEntry n g).toNat / 2 ^ 512)))) ∧
    (∀ (s : State) (d : Die) (p : Port) (c : Fin 8), s.operates (bufPg d.val) = true → portDie p.val = d.val →
      (s.dieUp d.val = true →
        let pairs := s.pfcPorts.flatMap (fun i => (List.range 8).map (fun c => (i, c)))
        let new := (pairs.filter (fun x => s.xoffNow d.val (s.copies d.val) x.1 x.2)).map (fun x => 8 * x.1 + x.2)
        let old := (s.bufOf d.val).xoff
        let u := s.setBuf d.val { s.bufOf d.val with xoff := new }
        let changed := ((old.filter (fun x => !new.contains x)) ++ (new.filter (fun x => !old.contains x))).filter
          (fun x => portDie (x / 8) ≠ d.val)
        let v := if u.apart d.val then u
          else changed.foldl (fun s x => s.sendCtrl d.val (.pfc (x / 8) (x % 8) (new.contains x))) u
        exec (.pfcEval d) s = .next ((v.pfcTouched d.val).foldl (fun s p => s.pfcUpdate p) v)) ∧
      ((s.fget (portPg p.val) F.BUF_PORT_PFC_STATUS_XOFF).testBit c.val = true → s.portUp p.val = true →
        exec (.pfcRefresh p c) s = .next (s.sendPfc p.val (2 ^ c.val) (fun _ => 0xFFFF)))))

/-- On a port page that its source reaches, a queue's or group's configuration is stored unless its WEIGHT is 0, which
is refused, and a shaper's rate under the rules of R262. On a slice page a policer command stores the configuration with
a full bucket, unless its rate is 0 or above the maximum while enabled, which sets ERR; a read shows configuration,
burst and red count, and read-and-clear also clears the count. At a wheel slot each entity whose slot is reached leaves
the wheel, or enters it again where its time lies ahead still; the others stay. The sampling of a die that is up, with
its buffer manager operating, shows each queue's depth and head delay and keeps the largest of each. -/
def Obligations.SchedulerIsConfiguredAndSampled : Prop :=
  (∀ (s : State) (src : Source) (page : PageIdx) (n : Nat) (q : Fin 16) (g : Fin 4) (e : Fin 21) (val : Word),
    s.reaches src page (portPg n) →
    exec (.schCfgWrite src page (.queue q) val) s = .next (if F.SCH_QUEUE_CFG_WEIGHT.of val = 0 then s.schRefuse (portPg n) 3
      else s.putRw (portPg n) (F.SCH_QUEUE_CFG.at q.val) val) ∧
    exec (.schCfgWrite src page (.group g) val) s = .next (if F.SCH_GROUP_CFG_WEIGHT.of val = 0 then s.schRefuse (portPg n) 3
      else s.putRw (portPg n) (F.SCH_GROUP_CFG.at g.val) val) ∧
    exec (.schCfgWrite src page (.rate e) val) s = .next (s.rateWrite (portPg n) e.val val)) ∧
  (∀ (s : State) (src : Source) (page : PageIdx) (n : Nat) (val : Word), s.reaches src page (slicePg n) →
    let pg := slicePg n
    let i := F.SCH_POL_ADDR_INDEX.of val
    let a := s.putRw pg F.SCH_POL_ADDR.off val
    let cfg := a.reg pg F.SCH_POL_DATA0.off
    let rate := F.SCH_POL_DATA0_RATE.of cfg
    let burst := a.fget pg F.SCH_POL_DATA1_BURST
    let x := a.policer n i
    let r := ((a.setReg pg F.SCH_POL_DATA0.off x.cfg).setReg pg F.SCH_POL_DATA1.off (BitVec.ofNat 32 x.burst)).setPair pg
      F.SCH_POL_DATA2 F.SCH_POL_DATA3 x.red.toNat
    exec (.policerWrite src page val) s = .next (
      if F.SCH_POL_DATA0_EN.of cfg = 1 ∧ (rate = 0 ∨ rate > 1600000) then a.bset pg F.SCH_POL_ADDR_ERR true
      else (a.setPolicer n i { x with
        cfg := cfg, burst := burst, tokens := burst * 8000 * 65536, since := a.monoUnits (sliceDie n) }).bset pg
          F.SCH_POL_ADDR_ERR false) ∧
    exec (.policerRead src page val) s = .next r ∧
    exec (.policerReadClear src page val) s = .next (r.setPolicer n i { r.policer n i with red := 0 })) ∧
  (∀ (s : State) (p : Port), (s.portOf p.val).wheel.wf (fun _ => 0) = true →
    let x := s.portOf p.val
    let now := s.monoUnits (portDie p.val)
    ∃ w : Sparse Nat, exec (.shaperWheelSlot p) s = .next ((s.setPort p.val { x with wheel := w }).wakePort p.val) ∧
      ∀ e, w.get 0 e =
        if x.wheel.get 0 e = 0 ∨ wheelSlot now + 1 < x.wheel.get 0 e then x.wheel.get 0 e
        else if wheelSlot (x.vstart.get 0 e) ≤ wheelSlot now then 0
        else min (wheelSlot (x.vstart.get 0 e)) (wheelSlot now + wheelSlots - 1) + 1) ∧
  (∀ (s : State) (d p q : Nat) (l : List Copy) (c : Copy) (cs : List Copy), q < 16 → s.queueAt (portQ p q) = c :: cs →
    let t := s.sampleQueue d p q l
    t.fget (portPg p) F.SCH_QUEUE_DEPTH_SAMPLE_DEPTH q = depthOf l d (portQ p q) % 2 ^ F.SCH_QUEUE_DEPTH_SAMPLE_DEPTH.w ∧
    t.reg (portPg p) (F.SCH_QUEUE_DELAY_SAMPLE.at q) =
      BitVec.ofNat 32 (min 0xFFFFFFFF ((stampDiff (s.stamp d) c.enq).toNat / nsUnits))) ∧
  (∀ (s : State) (d : Die), s.operates (bufPg d.val) = true → s.dieUp d.val = true →
    ∃ ps : List Nat, (∀ p ∈ ps, portDie p = d.val) ∧
      (∀ k, s.queueAt k ≠ [] → k < 16384 → portDie (k / 16) = d.val → k / 16 ∈ ps) ∧
      exec (.queueSample d) s = .next (ps.foldl (fun t p =>
        (List.range 16).foldl (fun t q => t.sampleQueue d.val p q (s.copies d.val)) t) s))

/-- On a port page that its source reaches: a write of the administrative list stores the entry in the bank not in
operation, and is refused while a change is pending; reads show an entry of either list; a CHANGE whose list R274 admits
becomes pending, at the next cycle or at a comparator's firing, any other is refused with its reason. At its time a
change makes the administrative values the operational ones and exchanges the banks. EN of preemption above 400 Gb/s is
refused and counted. A verify frame is answered; a response while verifying makes preemption active; the verify timer
tries three times, then fails. -/
def Obligations.GatesAndPreemptionFollowTheirRules : Prop :=
  (∀ (s : State) (src : Source) (page : PageIdx) (n : Nat) (val : Word), s.reaches src page (portPg n) →
    let pg := portPg n
    let a := s.putRw pg F.GATE_LIST_ADDR.off val
    let i := F.GATE_LIST_ADDR_INDEX.of val
    let bank := (s.portOf n).operBank
    let entry := BitVec.ofNat 64 ((a.reg pg F.GATE_LIST_DATA_HI.off).toNat * 2 ^ 32 + (a.reg pg F.GATE_LIST_DATA_LO.off).toNat)
    let g := s.putRw pg F.GATE_CTRL.off val
    exec (.gateListWriteAdmin src page val) s = .next (
      if a.flag pg F.GATE_STATUS_PENDING then (a.bset pg F.GATE_LIST_ADDR_ERR true).gateRefuse n 2
      else (a.setPort n { s.portOf n with gates := (s.portOf n).gates.set 0 (1024 * (1 - bank).val + i) entry }).bset pg
        F.GATE_LIST_ADDR_ERR false) ∧
    exec (.gateListReadAdmin src page val) s =
      .next (a.setPair pg F.GATE_LIST_DATA_LO F.GATE_LIST_DATA_HI (a.gateEntry n (1 - bank).val i).toNat) ∧
    exec (.gateListReadOper src page val) s =
      .next (a.setPair pg F.GATE_LIST_DATA_LO F.GATE_LIST_DATA_HI (a.gateEntry n bank.val i).toNat) ∧
    (g.changeError n ≠ 0 → exec (.gateChange src page val) s = .next (g.gateRefuse n (g.changeError n))) ∧
    (g.changeError n = 0 → ∃ t, exec (.gateChange src page val) s = .next t ∧ t.flag pg F.GATE_STATUS_PENDING = true ∧
      (g.flag pg F.GATE_CTRL_CMP_EN = true → (t.portOf n).changeCmp = some (g.fget pg F.GATE_CTRL_CMP)) ∧
      (g.flag pg F.GATE_CTRL_CMP_EN = false → (t.portOf n).changeAt.isSome = true)) ∧
    (F.PORT_MM_CFG_EN.of val = 1 → s.portSpeed n > 400000 → exec (.mmCfgWrite src page val) s = .next (s.errCount pg)) ∧
    ((F.PORT_MM_CFG_EN.of val = 0 ∨ s.portSpeed n ≤ 400000) → exec (.mmCfgWrite src page val) s = .next (
      if F.PORT_MM_CFG_EN.of (s.reg pg F.PORT_MM_CFG.off) = F.PORT_MM_CFG_EN.of val ∧
        F.PORT_MM_CFG_VERIFY_DIS.of (s.reg pg F.PORT_MM_CFG.off) = F.PORT_MM_CFG_VERIFY_DIS.of val
      then s.putRw pg F.PORT_MM_CFG.off val else (s.putRw pg F.PORT_MM_CFG.off val).mmStart n))) ∧
  (∀ (s : State) (p : Port) (tc : Nat), (s.portOf p.val).changeAt = some tc → tc ≤ s.nowNs (portDie p.val) →
    let pg := portPg p.val
    ∃ t, exec (.gateChangeApply p) s = .next t ∧ (t.portOf p.val).operBank = 1 - (s.portOf p.val).operBank ∧
      (t.portOf p.val).changeAt = none ∧ t.reg pg F.GATE_OPER_CYCLE.off = s.reg pg F.GATE_ADMIN_CYCLE.off ∧
      t.reg pg F.GATE_OPER_LEN.off = s.reg pg F.GATE_ADMIN_LEN.off ∧
      t.reg pg F.GATE_OPER_BASE_NS.off = s.reg pg F.GATE_ADMIN_BASE_NS.off ∧
      t.flag pg F.GATE_STATUS_PENDING = false ∧ t.flag pg F.GATE_STATUS_OPER_VALID = true) ∧
  (∀ (s : State) (p : Port),
    let pg := portPg p.val
    let x := s.portOf p.val
    (s.portUp p.val = true → s.portSpeed p.val ≤ 400000 → exec (.mmVerifyRx p) s = .next (s.sendMerge p.val true)) ∧
    (s.fget pg F.PORT_MM_STATUS_VERIFY = 2 →
      (∃ t, exec (.mmResponseRx p) s = .next t ∧ t.fget pg F.PORT_MM_STATUS_VERIFY = 3 ∧ t.flag pg F.PORT_MM_STATUS_ACTIVE = true) ∧
      (x.mmTries < 3 → exec (.mmVerifyTimer p) s =
        .next ((s.setPort p.val { x with mmTries := x.mmTries + 1 }).sendMerge p.val false)) ∧
      (3 ≤ x.mmTries → ∃ t, exec (.mmVerifyTimer p) s = .next t ∧ t.fget pg F.PORT_MM_STATUS_VERIFY = 4 ∧
        t.flag pg F.PORT_MM_STATUS_ACTIVE = false)) ∧
    (s.fget pg F.PORT_MM_STATUS_VERIFY ≠ 2 → exec (.mmResponseRx p) s = .next s ∧ exec (.mmVerifyTimer p) s = .next s))

/-- On a port in UP whose slice runs, with nothing to send, a start does nothing; with the MAC free and a frame to send,
when it is the port's turn in its pipeline, a secured port with a usable association (or an unsecured port) starts the
frame that is ready, resumed or scheduled; a port whose secured association is held starts none; with a preemptable
frame on the MAC and an express frame eligible, it preempts and starts the express frame. A frame on the MAC that must
end at a preemption point is preempted there. The end of a frame whose last byte is in and whose cells are written
checks the cells read and finishes it, spoiling it on an uncorrectable one. A gate boundary sets or clears HOLD under
preemption, preempts the frame whose gate closed, and frees the frames deferred to now. -/
def Obligations.FramesAreTransmitted : Prop :=
  (∀ (s : State) (p : Port) (delay : BitVec 32) (u : TxUpsets), s.portUp p.val = true → s.sliceRuns (portSlice p.val) = true →
    let n := p.val
    let h := ((((s.purgeReady n).settleHeads n).adjustV n).wakePort n).settleTx n
    let v := if (h.portOf n).tx = none then h.passTurns n else h
    let x := v.portOf n
    let waits (only : Nat → Bool) : Prop := (∃ uid ∈ x.ready, v.fromQueue only uid = true) ∨
      (v.shareTurn n = true ∧ (v.schedule n (v.inPaddle (portSlice n)) (v.candidates n only)).isSome = true)
    let busy : Prop := waits (fun _ => true) ∨ x.preempted.any (v.canResume n) = true
    (¬ busy → exec (.transmitStart p delay u) s = .next v) ∧
    (busy → x.tx = none → ∀ c w, v.saFor n = (c, w) → c ≠ .held →
      exec (.transmitStart p delay u) s = .next ((w.startFree n delay c.an u).wakePort n)) ∧
    (busy → ∀ t, x.tx = some t → v.canPreempt n t = true → x.preempted = none → waits (v.express n) →
      ∀ c w, v.saFor n = (c, w) → c ≠ .held →
        let y := w.preempt n t (w.sentBy n t)
        exec (.transmitStart p delay u) s = .next (
          (match (y.portOf n).ready.find? (y.fromQueue (y.express n)) with
            | some uid => y.launch n uid delay c.an
            | none => (y.startNext n (y.express n) delay c.an u).getD y).wakePort n)) ∧
    (busy → x.tx = none → ∀ w, v.saFor n = (.held, w) →
      exec (.transmitStart p delay u) s = .next w)) ∧
  (∀ (s : State) (p : Port) (errs : List CellErr) (t : TxSlot) (f : Machine.Frm) (c : Copy), (s.portOf p.val).tx = some t →
    s.frm t.uid = some f → f.pass = some c →
    (∀ n, s.cutPoint p.val t = some n → exec (.transmitEnd p errs) s = .next (s.preempt p.val t n)) ∧
    (s.cutPoint p.val t = none → (f.lastByte = false ∨ c.written < c.cells) → exec (.transmitEnd p errs) s = .next s) ∧
    (s.cutPoint p.val t = none → f.lastByte = true → c.cells ≤ c.written → ∀ bad v, s.cellErrors (portDie p.val) errs = (bad, v) →
      exec (.transmitEnd p errs) s = .next ((v.finish p.val t f
        (if bad then { c with spoiled := some (c.spoiled.getD dFcs) } else c)).wakePort p.val))) ∧
  (∀ (s : State) (p : Port),
    let now := s.nowNs (portDie p.val)
    ((s.portOf p.val).tx = none → (s.gateAt p.val now).1 = none → exec (.gateEntryBoundary p) s = .next ((s.setPort p.val
      { s.portOf p.val with deferred := (s.portOf p.val).deferred.filter (fun y => decide (now < y.2)) }).wakePort p.val)) ∧
    (∀ g, (s.portOf p.val).tx = none → s.mmActive p.val = true → (s.gateAt p.val now).1 = some g → gateOp g = 1 →
      let h := s.bset (portPg p.val) F.PORT_MM_STATUS_HOLD true
      exec (.gateEntryBoundary p) s = .next ((h.setPort p.val
        { h.portOf p.val with deferred := (h.portOf p.val).deferred.filter (fun y => decide (now < y.2)) }).wakePort p.val)))

/-- Stated where the keel unit operates. A die with a sub-link free sends, in this order, a control message not yet
sent, or with credit the next cell of a crossing whose holding store reads well (a cell that does not is lost and
counted). An IDLE cell returns credits and lands behind the cells before it. A good data cell that arrives is counted,
takes up a cell of credit to return, counts for its frame, and admits what is now due; a bad one loses its frame. A good
control cell is kept, acknowledged and acted on in number order; a bad one is not. A good acknowledgement ends the
message it names. A cell that the line loses does nothing else. An unacknowledged message is sent again on another sub-
link. -/
def Obligations.KeelCellsCarryFramesAndMessages : Prop :=
  (∀ (s : State) (d : Die) (sub : Nat) (hold : EccErr), s.operates (keelPg d.val) = true → s.dieUp d.val = true →
    s.ctrlFlows d.val = true → s.nextSub d.val none = some sub →
    let k := s.keelOf d.val
    (∀ m, k.ctrl.find? (fun m => m.sentOn.isNone) = some m →
      exec (.keelCellSend d hold) s = .next (s.sendCtrlCell d.val sub m)) ∧
    (k.ctrl.find? (fun m => m.sentOn.isNone) = none → k.used < 16384 → s.apart d.val = false →
      ∀ x, k.tx.find? s.cellReady = some x → exec (.keelCellSend d hold) s = .next (match hold with
        | .ok => s.sendDataCell d.val sub x
        | .corrected => (s.integrity d.val 10).sendDataCell d.val sub x
        | .uncorr => (s.integrity d.val 11).loseCrossing d.val x false)) ∧
    (k.ctrl.find? (fun m => m.sentOn.isNone) = none → (16384 ≤ k.used ∨ s.apart d.val = true) →
      exec (.keelCellSend d hold) s = .next s)) ∧
  (∀ (s : State) (d : Die) (sub : SubLink) (good : Bool), s.operates (keelPg d.val) = true → s.dieUp d.val = true →
    s.forced d.val = false → (s.subTx d.val sub.val = slActive ∨ s.subTx d.val sub.val = slSpare) →
    let r := s.putCell d.val sub.val .idle (!good)
    let u := r.2.emit (.keelCell d.val sub.val kIdle r.1.seq 0
      (cellBytes (cellHeader kIdle r.1.seq 0 0 0 0 0 0 r.1.credits 0) []))
    r.1.credits = min 255 (s.keelOf d.val).due ∧ (r.2.keelOf d.val).due = (s.keelOf d.val).due - r.1.credits ∧
    exec (.keelIdleSend d ⟨sub, good⟩) s = .next (u.landIdles (1 - d.val) sub.val (u.keelOf d.val).flight.length)) ∧
  (∀ (s : State) (d : Die) (sub : SubLink) (c : KeelCell) (uid idx : Nat), s.operates (keelPg d.val) = true →
    s.apart d.val = false → s.arriving d.val sub.val = some c → c.body = .data uid idx →
    let u := (s.landed d.val c false).owe d.val
    exec (.keelCellRx d sub .lost) s = .next (s.loseCell d.val c) ∧
    (∀ x, (u.keelOf (1 - d.val)).tx.find? (fun y => y.uid = uid) = some x →
      exec (.keelCellRx d sub .bad) s = .next (u.loseCrossing (1 - d.val) x false)) ∧
    exec (.keelCellRx d sub .good) s = .next (
      let v := ((s.landed d.val c true).owe d.val).cadd (keelPg d.val) F.KEEL_RX_CELLS
      let k := v.keelOf (1 - d.val)
      (v.setKeel (1 - d.val) { k with tx := k.tx.map (fun y =>
        if y.uid = uid then { y with got := y.got + 1, first := y.first || idx = 0 } else y) }).admitCrossings d.val)) ∧
  (∀ (s : State) (d : Die) (sub : SubLink) (c : KeelCell) (num : Nat) (msg : Ctrl), s.operates (keelPg d.val) = true →
    s.ctrlFlows d.val = true → s.arriving d.val sub.val = some c → c.body = .ctrl num msg →
    exec (.keelCtrlCellRx d sub .lost) s = .next (s.loseCell d.val c) ∧
    exec (.keelCtrlCellRx d sub .bad) s = .next (s.landed d.val c false) ∧
    (let v := s.landed d.val c true
     let k := v.keelOf d.val
     let known := decide (num < k.inNum) || k.inHold.any (fun m => m.1 = num)
     exec (.keelCtrlCellRx d sub .good) s = .next (((v.setKeel d.val { k with
        inHold := if known then k.inHold else k.inHold ++ [(num, msg)] }).sendAck d.val sub.val c.seq).ctrlDrain d.val
          (k.inHold.length + 1)))) ∧
  (∀ (s : State) (d : Die) (c : KeelCell) (sub seq i : Nat), s.operates (keelPg d.val) = true → i < 66 →
    s.arriving d.val i = some c → c.body = .ack sub seq →
    (∀ j < i, ∀ x, s.arriving d.val j = some x → ∀ a b, x.body ≠ .ack a b) →
    exec (.keelAckRx d .lost) s = .next (s.loseCell d.val c) ∧
    exec (.keelAckRx d .bad) s = .next (s.landed d.val c false) ∧
    (let u := s.landed d.val c true
     exec (.keelAckRx d .good) s = .next (u.setKeel d.val { u.keelOf d.val with
      ctrl := (u.keelOf d.val).ctrl.filter (fun m => m.sentOn ≠ some (sub, seq)) }))) ∧
  (∀ (s : State) (d : Die) (num was q sub : Nat) (m : CtrlOut), s.operates (keelPg d.val) = true →
    (s.keelOf d.val).ctrl.find? (fun m => m.num = num) = some m →
    m.sentOn = some (was, q) → s.nextSub d.val (some was) = some sub →
    exec (.keelCtrlResend d num) s = .next ((s.sendCtrlCell d.val sub m).cadd (keelPg d.val) F.KEEL_CTRL_RESENT))

/-- Stated where the keel unit operates. With both dies rolled and the split not forced, a start of training takes a
sub-link that is OFF to TRAIN on both dies; one that has failed only with RETRY_EN. A trained sub-link is ACTIVE while
fewer than 64 are; during the first training one with a lower number takes the place of the highest; any other is a
spare; its receiver then expects the sender's sequence. A training that times out makes it FAILED and counts it; so does
a failure that a receiver detects on an ACTIVE or SPARE sub-link, for which the sender is told; a gap in SEQ and too
many CRC errors count only as the receiver has seen them. The presence of the other die is shown. -/
def Obligations.SubLinksTrainAndFail : Prop :=
  ∀ (s : State) (d : Die) (i : SubLink) (present : Bool) (cause : SubFault), s.operates (keelPg d.val) = true →
    let act := s.txIn d.val slActive
    (s.rolled 0 = true → s.rolled 1 = true → s.forced d.val = false → s.subTx d.val i.val = slOff →
      ((s.keelOf d.val).retry.contains i.val = false ∨ s.flag (keelPg d.val) F.KEEL_CTRL_RETRY_EN = true) →
      ∃ t, exec (.sublinkTrainStart d i) s = .next t ∧ t.subTx d.val i.val = slTrain ∧ t.subRx (1 - d.val) i.val = slTrain) ∧
    (s.subTx d.val i.val ≠ slOff → exec (.sublinkTrainStart d i) s = .next s) ∧
    (s.subTx d.val i.val = slTrain → exec (.sublinkTrained d i) s = .next (State.keelCounts (State.firstTraining (State.syncSeq (
      if act.length < 64 then s.setSub d.val i.val slActive
      else match (s.keelOf d.val).trained, act.getLast? with
        | false, some j => if i.val < j then (s.setSub d.val j slSpare).setSub d.val i.val slActive
          else s.setSub d.val i.val slSpare
        | _, _ => s.setSub d.val i.val slSpare) d.val i.val) d.val))) ∧
    (s.subTx d.val i.val = slTrain → exec (.sublinkTrainTimeout d i) s = .next
      (((((s.setSub d.val i.val slFailed).subFailed d.val).subFailed (1 - d.val)).firstTraining d.val).powerDown d.val i.val).keelCounts) ∧
    ((s.subRx d.val i.val = slActive ∨ s.subRx d.val i.val = slSpare) →
      ((cause = .gap → (s.keelOf d.val).gaps.contains i.val = true) ∧ (cause = .crc → (s.keelOf d.val).crcOver.contains i.val = true)) →
      exec (.sublinkFailDetect d ⟨i, cause⟩) s = .next
      (((((s.fset (keelPg d.val) F.KEEL_SUBLINK_RX_STATE slFailed i.val).subFailed d.val).clearFaults d.val i.val).sendCtrl d.val
        (.subFail i.val)).keelCounts)) ∧
    (∃ t, exec (.peerPresenceChange d present) s = .next t ∧ t.flag (keelPg d.val) F.KEEL_STATUS_PEER_PRESENT = present)

/-- A die that is rolled and not split enters split operation when its condition holds: it is split, its keel page shows
the phase and counts and signals the split. When both dies are ready a rejoin takes both to SYNC_TIME; with the stern
time aligned, to MERGE_LEARN; with the learned entries merged, to HOLD_RESUME where the host is to resume, else to
RESUMING; when that is done, both leave split operation and signal it. A loss of the keel during a rejoin aborts it.
FORCE_SPLIT and RESUME are written with the keel page's lock. -/
def Obligations.SplitAndRejoinFollowTheirPhases : Prop :=
  (∀ (s : State) (d : Die), s.rolled d.val = true → s.split d.val = false → s.splitCond d.val = true →
    exec (.splitEnter d) s = .next (s.splitEnter d.val)) ∧
  (∀ (s : State) (src : Source) (page : PageIdx) (n : Nat) (val : Word), s.reaches src page (keelPg n) →
    s.holdsLock src (keelPg n) = true →
    exec (.forceSplit src page val) s = .next (s.keelCtrl (keelPg n) (F.KEEL_CTRL_FORCE_SPLIT.put val 1)) ∧
    exec (.keelResume src page val) s = .next (s.keelCtrl (keelPg n) (F.KEEL_CTRL_RESUME.put val 1))) ∧
  (∀ s : State,
    let phase (s : State) (d : Nat) : Nat := s.fget (keelPg d) F.KEEL_STATUS_PHASE
    ((∀ d < 2, s.split d = true ∧ phase s d = 1 ∧ s.forced d = false ∧ s.flag (keelPg d) F.KEEL_CTRL_AUTO_REJOIN = true ∧
        0 < s.fget (keelPg d) F.KEEL_STATUS_TX_ACTIVE ∧
        0 < s.fget (keelPg d) F.KEEL_STATUS_RX_ACTIVE ∧
        ∀ e < 2, s.fget (keelPg e) F.KEEL_CTRL_REJOIN_MIN ≤ s.fget (keelPg d) F.KEEL_STATUS_TX_ACTIVE ∧
          s.fget (keelPg e) F.KEEL_CTRL_REJOIN_MIN ≤ s.fget (keelPg d) F.KEEL_STATUS_RX_ACTIVE) →
      ∃ t, exec .rejoinStart s = .next t ∧ phase t 0 = 2 ∧ phase t 1 = 2 ∧
        t.flag (timePg 1) F.TIME_LOCK_STATE_ALIGNED = false) ∧
    (phase s 1 = 2 → s.flag (timePg 1) F.TIME_LOCK_STATE_ALIGNED = true →
      exec .rejoinTimeAligned s = .next ((((s.fset (keelPg 0) F.KEEL_STATUS_PHASE 3).fset (keelPg 1) F.KEEL_STATUS_PHASE 3).bset
        (timePg 1) F.TIME_LOCK_STATE_FOLLOW true).setLockState 1 (s.lockState 0))) ∧
    (phase s 0 = 3 →
      let u := ((s.learnedAddrs 0 ++ s.learnedAddrs 1).eraseDups).foldl (fun s a => s.mergeAddr a.1 a.2) s
      exec .mergeLearnDone s = .next (
        if u.flag (keelPg 0) F.KEEL_CTRL_HOST_RESUME || u.flag (keelPg 1) F.KEEL_CTRL_HOST_RESUME then
          (((u.fset (keelPg 0) F.KEEL_STATUS_PHASE 4).raise (keelPg 0) 11).fset (keelPg 1) F.KEEL_STATUS_PHASE 4).raise (keelPg 1) 11
        else u.resuming)) ∧
    (phase s 0 = 5 → ∃ t, exec .rejoinResumingDone s = .next t ∧
      (t.reg (keelPg 0) F.PAGE_IRQ_STATUS.off).getLsbD 12 = true ∧ (t.reg (keelPg 1) F.PAGE_IRQ_STATUS.off).getLsbD 12 = true ∧
      t.lockOf ⟨.device, 1⟩ = none) ∧
    ((∃ d < 2, s.forced d = true ∨ s.fget (keelPg d) F.KEEL_STATUS_TX_ACTIVE = 0 ∨ s.fget (keelPg d) F.KEEL_STATUS_RX_ACTIVE = 0) →
      exec .rejoinAbort s = .next s.rejoinAbort))

/-- With the time unit page's lock, on a unit that follows no other and is not busy, a SET, ADD or SUBTRACT command
waits with its value and makes the unit busy; on a unit that follows or is busy it is refused and counted. In a unit
that operates, at its application the step is made, by the stern unit too while it follows, and the unit is idle. An
offset is taken where the reference is software and the unit follows none, and refused otherwise. LATCH shows the time.
A reference timeout in ACQUIRE, COARSE or FINE enters HOLDOVER. The loss of the bow unit while following leaves the
stern in ACQUIRE and not aligned; an exchange with it, the keel up and no rejoin in SYNC_TIME, steps nothing and counts
those within the bound. -/
def Obligations.TimeIsSteppedAndFollowed : Prop :=
  (∀ (s : State) (src : Source) (page : PageIdx) (d : Nat) (val : Word), s.reaches src page (timePg d) →
    s.holdsLock src (timePg d) = true →
    let pg := timePg d
    let wait (op : Nat) (w : TimeOp) : State := ((s.putRw pg F.TIME_SET_CTRL.off (F.TIME_SET_CTRL_OP.put val op)).setTime d
      { s.timeOf d with waiting := some w }).bset pg F.TIME_SET_CTRL_BUSY true
    let refused : Prop := s.follows d = true ∨ s.flag pg F.TIME_SET_CTRL_BUSY = true
    (refused → exec (.timeStepSet src page val) s = .next (s.errCount pg) ∧
      exec (.timeStepAdd src page val) s = .next (s.errCount pg) ∧
      exec (.timeStepSubtract src page val) s = .next (s.errCount pg)) ∧
    (¬ refused → exec (.timeStepSet src page val) s = .next (wait 1 (.set (s.timeSetValue pg))) ∧
      exec (.timeStepAdd src page val) s = .next (wait 2 (.add (s.timeSetValue pg))) ∧
      exec (.timeStepSubtract src page val) s = .next (wait 3 (.add (-(s.timeSetValue pg : Int)))))) ∧
  (∀ (s : State) (d : Die) (w : TimeOp), s.operates (timePg d.val) = true → (s.timeOf d.val).waiting = some w →
    exec (.timeStepApply d) s = .next (((s.setTime d.val { s.timeOf d.val with waiting := none }).bset (timePg d.val)
      F.TIME_SET_CTRL_BUSY false).stepUnit d.val (match w with
        | .set v => ((v * fineUnit : Nat) : Int) - (s.timeOf d.val).fine
        | .add v => v * fineUnit))) ∧
  (∀ (s : State) (src : Source) (page : PageIdx) (d : Nat) (val : Word), s.reaches src page (timePg d) →
    let pg := timePg d
    ((s.follows d = true ∨ s.fget pg F.TIME_CTRL_REF_SEL ≠ 0) → exec (.timeOffsetSubmit src page val) s = .next (s.errCount pg)) ∧
    (s.follows d = false → s.fget pg F.TIME_CTRL_REF_SEL = 0 → exec (.timeOffsetSubmit src page val) s =
      .next ((s.setReg pg F.TIME_OFFSET_HI.off val).offset d
        (BitVec.ofNat 64 (val.toNat * 2 ^ 32 + (s.reg pg F.TIME_OFFSET_LO.off).toNat)).toInt)) ∧
    (s.follows d = true → F.TIME_CTRL_LATCH.of val = 0 → exec (.timeRefSelWrite src page val) s =
      .next (s.putRw pg F.TIME_CTRL.off val)) ∧
    exec (.timeRefSelWrite src page val) s = .next (s.timeCtrl pg val) ∧
    exec (.timeRefChange src page val) s = .next (s.timeCtrl pg (F.TIME_CTRL_REF_CHANGE.put val 1)) ∧
    (s.follows d = true → ∃ t, exec (.timeLatch src page val) s = .next t ∧
      t.fget pg F.TIME_NOW_NS_NS = s.nowNs d % 1000000000 ∧
      t.reg pg F.TIME_NOW_SEC_LO.off = BitVec.ofNat 32 (s.nowNs d / 1000000000))) ∧
  (∀ (s : State) (d : Die), s.operates (timePg d.val) = true → s.follows d.val = false → 1 ≤ s.lockState d.val → s.lockState d.val ≤ 3 →
    exec (.timeRefTimeout d) s = .next (s.enterHoldover d.val)) ∧
  (∀ s : State, s.operates (timePg 1) = true → s.follows 1 = true → ∃ t, exec .timeFollowLoss s = .next t ∧
    t.lockState 1 = lkAcquire ∧ t.flag (timePg 1) F.TIME_LOCK_STATE_ALIGNED = false ∧ (t.timeOf 1).aligned = 0 ∧
    (t.timeOf 1).lastOffset = none ∧ (t.timeOf 1).fine = (s.timeOf 1).fine) ∧
  (∀ s : State, s.operates (timePg 1) = true → s.follows 1 = true → 0 < s.fget (keelPg 1) F.KEEL_STATUS_RX_ACTIVE →
    0 < s.fget (keelPg 1) F.KEEL_STATUS_TX_ACTIVE → s.fget (keelPg 1) F.KEEL_STATUS_PHASE ≠ 2 →
    ∃ t, exec .timeFollowExchange s = .next t ∧ (t.timeOf 1).fine = (s.timeOf 1).fine ∧
      (t.timeOf 1).aligned = if s.skew.natAbs ≤ alignBound then min 16 ((s.timeOf 1).aligned + 1) else 0)

/-- In units that operate: an edge on PPS_IN is stamped by both dies' units before either servo acts; a missing one
raises its cause where IN_EN is 1. PPS_OUT rises with OUT_EN and from low when network time has passed a second, and
falls from high after its width. A port in UP ends its calibration. A pop of the transmit stamp FIFO shows the oldest
entry, delivers it, and leaves it invalid; on an empty FIFO the entry is invalid. Arming a periodic comparator with a
period below 1000 ns is refused. An armed comparator whose target has passed sets FIRED; a one-shot one then disarms. -/
def Obligations.PulsesStampsAndComparators : Prop :=
  (∀ (s : State) (sub : BitVec 21) (d : Die) (p : Port) (n : Nat), s.pins.pwrgood = true → s.operates (timePg d.val) = true →
    s.operates (timePg 0) = true → portDie p.val = d.val →
    exec (.ppsInEdge sub) s = .next ((((s.ppsHold 0 (s.ppsTime 0 sub.toNat)).ppsHold 1 (s.ppsTime 1 sub.toNat)).ppsServo 0
      (s.ppsTime 0 sub.toNat)).ppsServo 1 (s.ppsTime 1 sub.toNat)) ∧
    (s.flag (timePg d.val) F.TIME_PPS_CFG_IN_EN = true → exec (.ppsInMiss d) s = .next (s.raise (timePg d.val) 12)) ∧
    (s.flag (timePg d.val) F.TIME_PPS_CFG_IN_EN = false → exec (.ppsInMiss d) s = .next s) ∧
    (s.flag (timePg 0) F.TIME_PPS_CFG_OUT_EN = true → (s.timeOf 0).ppsOut = false → s.ppsPassed = some n →
      (s.timeOf 0).ppsSecond ≠ some n → exec .ppsOutRise s = .next ((s.setTime 0 { s.timeOf 0 with
        ppsOut := true, ppsSecond := some n, ppsRise := (s.timeOf 0).mono }).emit (.pin 2 true))) ∧
    ((s.timeOf 0).ppsOut = true → (s.timeOf 0).ppsRise + s.fget (timePg 0) F.TIME_PPS_CFG_WIDTH_US * 1000 * nsUnits * fineUnit ≤
        (s.timeOf 0).mono →
      exec .ppsOutFall s = .next ((s.setTime 0 { s.timeOf 0 with ppsOut := false }).emit (.pin 2 false))) ∧
    (s.portUp p.val = true → ∃ t, exec (.timePortCalDone p) s = .next t ∧ t.flag (portPg p.val) F.TIME_PORT_CAL_DONE = true)) ∧
  (∀ (s : State) (src : Source) (page : PageIdx) (d : Nat), s.reaches src page (timePg d) →
    (∀ x l, (s.timeOf d).txFifo = x :: l → ∃ t, exec (.txstampPop src page) s = .next t ∧ (t.timeOf d).txFifo = l ∧
      t.out = .readData src page.toNat F.TIME_TXSTAMP_META.off
        (BitVec.ofNat 32 (2 ^ 31 + fieldAt x.port 29 20 + fieldAt x.msgType 19 16 + fieldAt x.seqId 15 0)) :: s.out ∧
      t.reg (timePg d) F.TIME_TXSTAMP_LO.off = x.stamp.setWidth 32 ∧ t.flag (timePg d) F.TIME_TXSTAMP_META_VALID = false) ∧
    ((s.timeOf d).txFifo = [] → ∃ t, exec (.txstampPop src page) s = .next t ∧ (t.timeOf d).txFifo = [] ∧
      t.flag (timePg d) F.TIME_TXSTAMP_META_VALID = false) ∧
    ∀ (n : Fin 32) (val : Word),
      (F.TIME_CMP_CFG_ARM.of val = 1 → F.TIME_CMP_CFG_PERIODIC.of val = 1 → s.cmpPeriod d n.val < 1000 →
        exec (.cmpArmWrite src page n val) s = .next (s.errCount (timePg d))) ∧
      (F.TIME_CMP_CFG_ARM.of val = 0 →
        exec (.cmpArmWrite src page n val) s = .next (s.putRw (timePg d) (F.TIME_CMP_CFG.at n.val) val)) ∧
      (F.TIME_CMP_CFG_ARM.of val = 1 → F.TIME_CMP_CFG_PERIODIC.of val = 0 → exec (.cmpArmWrite src page n val) s =
        .next (((s.putRw (timePg d) (F.TIME_CMP_CFG.at n.val) val).setCmp d n.val {}).cmpBase d n.val))) ∧
  (∀ (s : State) (d : Die) (n : Fin 32), s.operates (timePg d.val) = true → s.pins.pwrgood = true → s.flag (timePg d.val) F.TIME_CMP_CFG_ARM n.val = true →
    s.cmpTarget d.val n.val ≤ s.nowNs d.val → exec (.cmpFire d n) s = .next (s.cmpFire d.val n.val)) ∧
  (∀ (s : State) (d n : Nat), s.flag (timePg d) F.TIME_CMP_CFG_PERIODIC n = false → (s.cmpOf d n).stepped = false →
    let c := s.cmpOf d n
    let u := (((s.bset (timePg d) F.TIME_CMP_STATUS_FIRED true n).cmpActions d n (s.cmpTarget d n) false).cmpGates d n
      (s.cmpTarget d n)).setCmp d n { c with stepped := false }
    u.flag (timePg d) F.TIME_CMP_CFG_PERIODIC n = false → s.cmpFire d n = u.bset (timePg d) F.TIME_CMP_CFG_ARM false n)

/-- On a die that is up and whose accounting unit operates, a settling bank with no frame outstanding (on both dies
unless the keel is split) is cut; a bank that has settled too long discards its frames, counted and signalled. A bank
that waits is written to the next slot of the ring when the ring has room and the write engine gives it the turn; the
last of its writes ends it. On an accounting page that its source reaches: the host's consumer index is stored, a weight
is stored or shown, a live read shows a tenant's counts of the open bank. On a die that is up, its counter unit
operating, with dumps enabled, each whole period of network time cuts a dump; a waiting dump whose turn the write engine
gives is written as far as its addresses resolve, and when the last of it is written it leaves the list and the producer
index and count advance. A write of a selection of a counted page stores it and with CLEAR zeroes its counter. A flush
of a collector of a die that is up and whose telemetry unit operates sends what waits. Enabling a collector that does
not fit its template is refused and counted; a disabled one loses what waits. -/
def Obligations.AccountsAndCountersAreDelivered : Prop :=
  (
    (∀ (s : State) (d : Die), s.operates (acctPg d.val) = true → s.dieUp d.val = true → (s.acctOf d.val).settling.isSome = true → s.outstanding d.val = 0 →
      (s.split d.val = true → exec (.bankCut d) s = .next (s.cutBank d.val)) ∧
      (s.split d.val = false → s.outstanding (1 - d.val) = 0 →
        exec (.bankCut d) s = .next ((s.cutBank d.val).cutBank (1 - d.val))) ∧
      (s.split d.val = false → s.outstanding (1 - d.val) ≠ 0 → exec (.bankCut d) s = .next s)) ∧
    (∀ (s : State) (d : Die) (b : Bank), s.operates (acctPg d.val) = true → (s.acctOf d.val).settling = some b →
      let held (s' : State) := s'.bankFrames d.val (fun f => (s.acctOf d.val).inSettling f.stamp)
      let roots (s' : State) : List Nat := ((held s').map (fun x => x.2.rootOf x.1)).eraseDups
      let u := (held s).foldl (fun s x => s.ageFrame d.val x.1) s
      let n := ((roots s).filter (fun r => !(roots u).contains r)).length
      exec (.settleTimeout d) s = .next (if n = 0 then u else
        ((u.setAcct d.val { u.acctOf d.val with settling := (u.acctOf d.val).settling.map (fun b =>
          { b with discarded := true, settleDiscards := b.settleDiscards + n }) }).cadd (acctPg d.val)
            F.ACCT_SETTLE_DISCARDS n).raise (acctPg d.val) 10)) ∧
    (∀ (s : State) (d : Die) (walks : List Walk) (b : Bank), s.operates (acctPg d.val) = true →
      (s.acctOf d.val).next = some b →
      let pg := acctPg d.val
      let n := ringSlots (s.fget pg F.ACCT_SNAP_RING_K)
      let prod := s.fget pg F.ACCT_SNAP_PROD_INDEX
      let base := s.pairOf pg F.ACCT_SNAP_BASE_LO F.ACCT_SNAP_BASE_HI + (prod % n) * 0x101000
      let todo := if (s.acctOf d.val).writes = [] then b.slot d.val ((s.reg pg F.PAGE_SNAPSHOT_EPOCH.off).toNat + 1) base
        else (s.acctOf d.val).writes
      (s.snapFull d.val = true → exec (.snapshotWritten d walks) s = .next s) ∧
      (s.hostUp d.val = true → s.isSuspended d.val (· == .snapshot) = false → s.snapFull d.val = false →
        ((s.acctOf d.val).wait = false ∨ (s.acctOf d.val).interim.isSome = true) →
        (s.writeTurn d.val true true snapQueue (snapUnits todo) = none → exec (.snapshotWritten d walks) s = .next s) ∧
        ∀ u, s.writeTurn d.val true true snapQueue (snapUnits todo) = some u →
          let r := u.dmaWrites d.val .snapshot (u.fget pg F.ACCT_SNAP_RING_SPACE) todo walks
          exec (.snapshotWritten d walks) s = .next (if r.1.isEmpty then r.2.2.slotDone d.val b
            else r.2.2.setAcct d.val { r.2.2.acctOf d.val with writes := r.1 }))) ∧
    (∀ (s : State) (src : Source) (page : PageIdx) (d : Nat) (val : Word), s.reaches src page (acctPg d) →
      let pg := acctPg d
      let t := F.ACCT_WT_ADDR_TENANT.of val
      let a := s.putRw pg F.ACCT_WT_ADDR.off (F.ACCT_WT_ADDR_OP.put val 1)
      let b := s.putRw pg F.ACCT_LIVE_ADDR.off (F.ACCT_LIVE_ADDR_OP.put val 2)
      exec (.acctSnapConsWrite src page val) s = .next (s.putRw pg F.ACCT_SNAP_CONS.off val) ∧
      exec (.acctWeightWrite src page val) s = .next (a.setAcct d { s.acctOf d with
        weights := (s.acctOf d).weights.set 0 t ((a.reg pg F.ACCT_WT_DATA.off).setWidth 8) }) ∧
      exec (.acctWeightRead src page val) s = .next ((s.putRw pg F.ACCT_WT_ADDR.off (F.ACCT_WT_ADDR_OP.put val 2)).setReg pg
        F.ACCT_WT_DATA.off (((s.acctOf d).weights.get 0 t).setWidth 32)) ∧
      exec (.acctLiveRead src page val) s = .next ((List.range 14).foldl (fun u i =>
        u.setReg pg (F.ACCT_LIVE_DATA.at i) (BitVec.ofNat 32 ((s.acctOf d).bank.counts.get 0
          (7 * F.ACCT_LIVE_ADDR_TENANT.of val + i / 2) >>> (32 * (i % 2))))) b))) ∧
  (
    (∀ (s : State) (d : Die), s.operates (pmcPg d.val) = true → s.operates (telPg d.val) = true → s.dieUp d.val = true →
      (s.flag (pmcPg d.val) F.PMC_DUMP_CTRL_EN = true →
        s.multiplePassed d.val (s.fget (pmcPg d.val) F.PMC_DUMP_CTRL_PERIOD_MS * 1000000) = true → exec (.pmcDumpPeriod d) s = .next (s.cutDump d.val none false)) ∧
      (s.flag (pmcPg d.val) F.PMC_DUMP_CTRL_EN = false → exec (.pmcDumpPeriod d) s = .next s) ∧
      ∀ c : Fin 4, exec (.collectorFlush d c) s = .next (s.flushCollector d.val c.val)) ∧
    (∀ (s g : State) (d : Die) (walks : List Walk) (w : Dump) (l : List Dump), s.operates (pmcPg d.val) = true →
      s.hostUp d.val = true → s.isSuspended d.val (· == .dump) = false → (s.dumpOf d.val).waiting = w :: l →
      s.writeTurn d.val true true snapQueue (snapUnits w.writes) = some g →
      let r := g.dmaWrites d.val .dump w.space w.writes walks
      let u := r.2.2
      (r.1 ≠ [] → exec (.pmcDumpWritten d walks) s =
        .next (u.setDump d.val { u.dumpOf d.val with waiting := { w with writes := r.1 } :: l })) ∧
      (r.1 = [] → w.page = none → exec (.pmcDumpWritten d walks) s = .next (
        let v := u.setDump d.val { u.dumpOf d.val with waiting := l }
        (v.fset (pmcPg d.val) F.PMC_DUMP_PROD_INDEX ((v.fget (pmcPg d.val) F.PMC_DUMP_PROD_INDEX + 1) %
          (2 * ringSlots (v.fget (pmcPg d.val) F.PMC_DUMP_CTRL_K)))).cadd (pmcPg d.val) F.PMC_DUMPS))) ∧
    (∀ (s : State) (src : Source) (page : PageIdx) (p : Page) (n : Fin 8) (val : Word), s.reaches src page p →
      let ts := s.targets p ((pmcOff p.kind F.PMC_SEL_EN).at n.val)
      (ts ≠ [] → exec (.pmcClear src page n val) s = .next (ts.foldl (fun s t =>
        let u := s.putRw t ((pmcOff t.kind F.PMC_SEL_EN).at n.val) val
        if val.getLsbD 30 then u.cset t (pmcOff t.kind F.PMC_CTR) 0 n.val else u) s)) ∧
      (ts = [] → exec (.pmcClear src page n val) s = .next (s.countUnmapped src))) ∧
    (∀ (s : State) (src : Source) (page : PageIdx) (d : Nat) (c : Fin 4) (val : Word), s.reaches src page (telPg d) →
      let pg := telPg d
      let need := F.TEL_COLL_CFG_L3_OFF.of val + (if F.TEL_COLL_CFG_IPV6.of val = 1 then 48 else 28)
      let max := s.fget pg F.TEL_COLL_LIMIT_MAX_RECORDS c.val
      let bad : Prop := portDie (F.TEL_COLL_CFG_PORT.of val) ≠ d ∨ F.TEL_COLL_CFG_TEMPLATE_LEN.of val < need ∨ max = 0 ∨ max > 30
      let u := s.putRw pg (F.TEL_COLL_CFG.at c.val) val
      (F.TEL_COLL_CFG_EN.of val = 1 → bad → exec (.collectorEnableWrite src page c val) s = .next (s.errCount pg)) ∧
      (F.TEL_COLL_CFG_EN.of val = 1 → ¬ bad → exec (.collectorEnableWrite src page c val) s = .next u) ∧
      (F.TEL_COLL_CFG_EN.of val = 0 → exec (.collectorEnableWrite src page c val) s = .next ((u.setTel d
        { s.telOf d with colls := (s.telOf d).colls.set {} c.val {} }).loseCards d ((s.telOf d).colls.get {} c.val).waiting.length))))

/-- On a cipher page that its source reaches: a WRITE to a slot with an erase pending, or with an operation of an older
generation in flight, shows that status and raises it; any other loads key, salt and SSCI, increments the generation,
makes the slot valid, clears the key registers and shows OK. An ERASE makes the slot invalid with the erase pending.
INFO shows the slot's flags, operations in flight and generation. In a cipher unit that operates, zeroisation of a slot
with an erase pending and nothing in flight clears it but for its generation, marks it done and raises the cause. -/
def Obligations.KeysAreLoadedAndErased : Prop :=
  (∀ (s : State) (src : Source) (page : PageIdx) (d : Nat) (val : Word), s.reaches src page (cipherPg d) →
    let pg := cipherPg d
    let i := F.CU_KEY_CMD_SLOT.of val
    let a := s.putRw pg F.CU_KEY_CMD.off val
    let k := s.keySlot d i
    (k.erasePending = true → exec (.keyWrite src page val) s = .next (a.keyStatus d 2)) ∧
    (k.erasePending = false → a.oldInFlight d i = true → exec (.keyWrite src page val) s = .next (a.keyStatus d 1)) ∧
    (k.erasePending = false → a.oldInFlight d i = false → exec (.keyWrite src page val) s = .next (((a.setKeySlot d i
      { key := BitVec.ofNat 256 (a.words pg F.CU_KEY_DATA_VALUE 8), salt := BitVec.ofNat 96 (a.words pg F.CU_KEY_SALT_VALUE 3),
        ssci := a.reg pg F.CU_KEY_SSCI.off, gen := k.gen + 1, valid := true }).clearKeyRegs d).keyStatus d 0)) ∧
    exec (.keyErase src page val) s =
      .next ((a.setKeySlot d i { k with valid := false, erasePending := true }).keyStatus d 0) ∧
    exec (.keyInfo src page val) s = .next ((a.setReg pg F.CU_KEY_INFO.off (BitVec.ofNat 32 (fieldAt k.valid.toNat 31 31 +
      fieldAt (a.oldInFlight d i).toNat 30 30 + fieldAt k.erasePending.toNat 29 29 + fieldAt k.eraseDone.toNat 28 28 +
      fieldAt (min 0xFFF (a.inFlight d i).length) 27 16 + k.gen.toNat))).keyStatus d 0)) ∧
  (∀ (s : State) (d : Die) (i : BitVec 12), s.operates (cipherPg d.val) = true → (s.keySlot d.val i.toNat).erasePending = true → s.inFlight d.val i.toNat = [] →
    ∃ t, exec (.keyZeroise d i) s = .next t ∧
      t.keySlot d.val i.toNat = { gen := (s.keySlot d.val i.toNat).gen, eraseDone := true } ∧
      (t.reg (cipherPg d.val) F.PAGE_IRQ_STATUS.off).getLsbD 8 = true)

/-- On a host interface page that its source reaches: a doorbell of a ring or of a pool that R403 admits moves the index
that the host owns, any other is an error of the ring; a ring's registers are written while it is off and idle, and
refused otherwise; a map entry that names rings beyond the punt rings is refused; a vector's mask is stored, and
unmasking one with a pending message sends it. In a host interface that operates, the end of a moderation time sends the
message that waits. -/
def Obligations.RingsAreRungAndConfigured : Prop :=
  (∀ (s : State) (src : Source) (page : PageIdx) (d : Nat) (val : Word), s.reaches src page (hifPg d) →
    let v := val.toNat % 2 ^ 17
    (∀ r : Fin 1024, let x := s.ringAt d r.val
      (r.val < 512 → exec (.hqDoorbell src page r val) s = .next (if producerOk x.k x.prod x.cons v
        then s.setRing d r.val { x with prod := v } else s.doorbellErr d (some r.val))) ∧
      (512 ≤ r.val → consumerOk x.k x.cons x.prod v = false →
        exec (.hqDoorbell src page r val) s = .next (s.doorbellErr d (some r.val))) ∧
      (512 ≤ r.val → consumerOk x.k x.cons x.prod v = true → ∃ t, exec (.hqDoorbell src page r val) s = .next t ∧
        (t.ringAt d r.val).cons = v)) ∧
    (∀ r : Fin 512, let x := s.ringAt d r.val
      (consumerOk x.k x.cqCons x.cqProd v = false →
        exec (.hqCqDoorbell src page r val) s = .next (s.doorbellErr d (some r.val))) ∧
      (consumerOk x.k x.cqCons x.cqProd v = true → ∃ t, exec (.hqCqDoorbell src page r val) s = .next t ∧
        (t.ringAt d r.val).cqCons = v)) ∧
    (∀ p : Fin 64, let x := s.poolAt d p.val
      exec (.poolDoorbell src page p val) s = .next (if producerOk x.k x.prod x.cons v
        then (s.setPool d p.val { x with prod := v }).poolBp d p.val else s.doorbellErr d none)) ∧
    (∀ j : Fin 32, ∃ t, exec (.hqEnableWrite src page j val) s = .next t ∧
      t.fget (hifPg d) F.HQ_ENABLE_RING j.val = val.toNat) ∧
    (∀ i : Fin 11, let r := s.fget (hifPg d) F.HQ_SEL_RING
      exec (.hqRingRegWrite src page i val) s = .next (if s.ringOn d r ∨ !s.ringIdle d r then s.errCount (hifPg d)
        else s.setRing d r ((s.ringAt d r).put i.val val))) ∧
    (∀ h : Fin 64, let base := F.HQ_HBQ_MAP_BASE.of val
      let n := F.HQ_HBQ_MAP_LOG_COUNT.of val
      exec (.hqHbqMapWrite src page h val) s = .next (if base < 512 ∨ n > 9 ∨ base + 2 ^ n > 1024 then s.errCount (hifPg d)
        else s.putRw (hifPg d) (F.HQ_HBQ_MAP.at h.val) val)) ∧
    (∀ n : Fin 2048, (val.getLsbD 0 = true →
        exec (.msixUnmask src page n val) s = .next (s.setReg (hifPg d) (msixOff n.val 3) 0)) ∧
      (val.getLsbD 0 = false → exec (.msixUnmask src page n val) s = .next (
        let u := s.setReg (hifPg d) (msixOff n.val 3) 1
        if bit (u.reg (hifPg d) (0x7F00 + 4 * (n.val / 32))).toNat (n.val % 32) then
          (u.setPending d n.val false).sendVector d n.val else u)))) ∧
  (∀ (s : State) (d : Die) (r : Fin 1024), s.operates (hifPg d.val) = true → let x := s.ringAt d.val r.val
    (x.waitMsg = true → exec (.msixModerationExpire d r) s = .next ((s.setRing d.val r.val
      { x with lastMsg := some (s.monoNs d.val), waitMsg := false }).sendVector d.val (bits x.cfg.toNat 20 10))) ∧
    (x.waitMsg = false → exec (.msixModerationExpire d r) s = .next s))

/-- A NOP at the head of its ring completes as OK. A FRAME whose data is in memory is injected and completed, then the
next starts; a TABLE_READ is read and its result written; a TABLE_WRITE whose data has come ends with its result or its
count; a CIPHER request goes to the cipher unit, and when its message ends its output and tag are written on success and
its status is kept. Whatever ended, its completion is written when the ring can take it. -/
def Obligations.DescriptorsAreServed : Prop :=
  ∀ (s : State) (d : Die) (r : Fin 512) (walks : List Walk) (errs : List QdrErr) (mis : Fin 3) (staging : Bool),
    let n := d.val
    let q := r.val
    let result (kind : Nat) (st : Stream) (s : State) : State := match (s.ringAt n q).serving with
      | some v => if descKind v.desc = kind then
          (s.writeResult n q st walks).2.writeCompl n q (s.writeResult n q st walks).1 else s.writeCompl n q walks
      | none => s.writeCompl n q walks
    exec (.descNop d r walks) s = .next ((s.startDesc n q (fun k => decide (k = 0 ∨ k > 4))
      (fun i w s => s.endServe n q i (some w) stOk 0)).writeCompl n q walks) ∧
    exec (.descFrame d r walks) s = .next (((s.finishFrame n q).startDesc n q (fun k => k = 1)
      (fun i w s => s.startFrame n q i w)).writeCompl n q walks) ∧
    exec (.descTableRead d r errs walks) s = .next (result 2 (.table q) (s.startDesc n q (fun k => k = 2)
      (fun i w s => s.startTableRead n q i w errs))) ∧
    (∀ v, (s.ringAt n q).serving = some v → descKind v.desc = 3 → v.reads = [] →
      exec (.descTableWrite d r walks) s = .next (((match v.result with
        | some (st, m) => s.endServe n q v.index (some v.desc) st m
        | none => s.endServe n q v.index (some v.desc) stOk v.count).startDesc n q (fun k => k = 3)
          (fun i w s => s.startTableWrite n q i w)).writeCompl n q walks)) ∧
    exec (.descCipher d r walks) s = .next (result 4 (.cipher q) ((s.startDesc n q (fun k => k = 4)
      (fun i w s => s.startCipher n q i w)).submitCipher n q)) ∧
    exec (.cipherMessageDone d r mis staging walks) s = .next (result 4 (.cipher q) (s.cipherResult n q mis.val staging))

/-- With the host up: an enabled pool with room fetches as many entries as R418 lets it; a punt delivery in progress
goes on when no completion waits and, for a queue of low priority, no write of high priority; and otherwise the eligible
frame at the head of a host-bound queue begins one; a descriptor fetch, a data read, a pool fetch and an engine's read
each take the data that a translated read brings them (an engine's read whose translation faults ends its routine with
DMA_FAULT), and a read that its stream's fault suspends changes nothing. -/
def Obligations.PuntsAndReadsReachTheHost : Prop :=
  ∀ (s : State) (d : Die) (w : Walk) (walks : List Walk) (data : List Byte) (u : TxUpsets), s.hostUp d.val = true →
    (∀ p : Fin 64, let x := s.poolAt d.val p.val
      let n := min 64 (min x.unfetched (256 - x.cache.length))
      x.en = true → x.fetching = 0 → x.cache.length < 192 → n ≠ 0 → s.isSuspended d.val (· == .pool p.val) = false →
      exec (.poolRefill d p) s = .next (s.setPool d.val p.val { x with fetching := n })) ∧
    (∀ h : Fin 64, s.isSuspended d.val (· == .punt h.val) = false →
      (∀ x, (s.hostOf d.val).held.get none h.val = some x → s.complWaits d.val = false →
        (s.hbqHigh d.val h.val = true ∨ s.highWrites d.val = false) →
        exec (.puntDeliver d h u walks) s = .next (s.deliver d.val h.val x walks)) ∧
      (∀ c l f, (s.hostOf d.val).held.get none h.val = none → s.queueAt (hostQ d.val h.val) = c :: l →
        s.frm c.uid = some f → c.eligible = true →
        exec (.puntDeliver d h u walks) s = .next (s.puntHead d.val h.val c f u walks))) ∧
    (∀ r : Fin 512, let x := s.ringAt d.val r.val
      let a := x.base.toNat + 64 * (x.nextFetch % 2 ^ x.k) + x.part.length
      s.ringOn d.val r.val = true → s.isSuspended d.val (· == .fetch r.val) = false → x.fetchRun ≠ 0 →
      ∀ b t, s.dmaRead d.val (.fetch r.val) x.space a (64 * x.fetchRun - x.part.length) w data = (some b, t) →
        exec (.dmaReadReturn d (.fetch r) w data) s = .next (t.fetchArrive d.val r.val b)) ∧
    (∀ (r : Fin 512) v a n l b t, (s.ringAt d.val r.val).serving = some v → v.reads = (a, n) :: l →
      s.isSuspended d.val (· == dataStream r.val (descKind v.desc)) = false →
      s.readPart d.val r.val a n ≠ 0 →
      s.dmaRead d.val (dataStream r.val (descKind v.desc)) (descSpace v.desc) a (s.readPart d.val r.val a n) w data = (some b, t) →
        exec (.dmaReadReturn d (.data r) w data) s = .next (t.dataArrive d.val r.val v b)) ∧
    (∀ p : Fin 64, let x := s.poolAt d.val p.val
      let slot := x.cons % 2 ^ x.k
      x.fetching ≠ 0 → s.isSuspended d.val (· == .pool p.val) = false →
      ∀ b t, s.dmaRead d.val (.pool p.val) x.space (x.base.toNat + 8 * slot + x.part.length)
          (8 * min x.fetching (2 ^ x.k - slot) - x.part.length) w data = (some b, t) →
        exec (.dmaReadReturn d (.pool p) w data) s = .next (t.poolArrive d.val p.val b)) ∧
    (∀ (e : Engine) (k reg : Fin 32) r p space a t, s.ctx e.val k.val = some r → e.val / 128 = d.val →
      r.pend.find? (fun p => p.reg = reg.val) = some p → p.of = .xrd space a → p.got.length < 32 →
      s.dmaRead d.val (.engine e.val k.val (r.uid.getD 0)) space (a + p.got.length) (32 - p.got.length) w data = (none, t) →
        exec (.dmaReadReturn d (.engine e k reg) w data) s = .next (t.endByCause e.val k.val 5 (some .dma)))

/-- On a translation page that its source reaches, a command on a valid fault record frees it and resumes or aborts
every access that waits on it, and on any other does nothing; an invalidation drops the cached translations it covers
(all, one space, a range of one space) and is busy until its end raises the cause. A link comes up with the modules that
trained, each missing one counted and signalled; the loss of a module takes it out of service, and of the last one
resets the function; the retrain timer brings back those that train. A function reset of a rolled die resets the
function. -/
def Obligations.TranslationFaultsAndLinksAreHandled : Prop :=
  (∀ (s : State) (src : Source) (page : PageIdx) (d : Nat) (val : Word), s.reaches src page (dtuPg d) →
    let n := val.toNat % 64
    let h := s.hostOf d
    let freed := ((s.setHost d { h with suspended := h.suspended.filter (fun x => x.record ≠ some n) }).setRecValid d n false
      ).setReg (dtuPg d) (F.DTU_FAULT_INFO.at n) 0
    let mine := h.suspended.filter (fun x => x.record = some n)
    (s.recValid d n = false → exec (.dtuFaultRetry src page val) s = .next s ∧ exec (.dtuFaultAbort src page val) s = .next s) ∧
    (s.recValid d n = true →
      exec (.dtuFaultRetry src page val) s = .next ((mine.foldl (fun s x => s.resumeStream x.stream) freed).recRefill d) ∧
      exec (.dtuFaultAbort src page val) s = .next ((mine.foldl (fun s x => s.abortStream d x.stream) freed).recRefill d)) ∧
    let first := s.pairOf (dtuPg d) F.DTU_INV_ADDR_LO F.DTU_INV_ADDR_HI / 4096
    let count := s.fget (dtuPg d) F.DTU_INV_PAGES_PAGES
    let drops (c : Instr) (p : Xlat → Bool) : Prop := ∃ t, exec c s = .next t ∧ t.flag (dtuPg d) F.DTU_INV_CMD_BUSY = true ∧
      (t.hostOf d).xlats = (s.hostOf d).xlats.filter (fun x => !p x)
    drops (.dtuInvAll src page val) (fun _ => true) ∧
    drops (.dtuInvSpace src page val) (fun x => x.space = val.toNat % 16) ∧
    drops (.dtuInvRange src page val)
      (fun x => decide (x.space = val.toNat % 16 ∧ first ≤ x.page ∧ x.page < first + count))) ∧
  (∀ (s : State) (d : Die),
    let pg := hifPg d.val
    let up := s.fget pg F.HIF_UCIE_STATUS_IN_SERVICE
    (s.operates (dtuPg d.val) = true → s.flag (dtuPg d.val) F.DTU_INV_CMD_BUSY = true → exec (.dtuInvDone d) s =
      .next ((s.bset (dtuPg d.val) F.DTU_INV_CMD_BUSY false).raise (dtuPg d.val) 9)) ∧
    (s.rolled d.val = true → exec (.functionReset d) s = .next (s.functionReset d.val)) ∧
    (∀ mods : BitVec 2, s.rolled d.val = true → up = 0 → mods ≠ 0 →
      ∃ t, exec (.ucieLinkUp d mods) s = .next t ∧ t.fget pg F.HIF_UCIE_STATUS_IN_SERVICE = mods.toNat ∧
        (t.hostOf d.val).lost = [0, 1].filter (fun m => !mods.getLsbD m)) ∧
    (∀ m : Fin 2, bit up m.val = true →
      let u := (((s.fset pg F.HIF_UCIE_STATUS_IN_SERVICE (putBits up m.val m.val 0)).setHost d.val { s.hostOf d.val with
        lost := (s.hostOf d.val).lost ++ [m.val] }).cadd pg F.HIF_UCIE_MODULE_LOSSES).raise pg 8
      exec (.ucieModuleLost d m) s = .next (if putBits up m.val m.val 0 = 0 then
        (u.functionReset d.val).setHost d.val { (u.functionReset d.val).hostOf d.val with config := none } else u)) ∧
    (∀ ok : BitVec 2, s.rolled d.val = true → s.flag pg F.HIF_UCIE_CTRL_RETRAIN_EN = true →
      ∃ t, exec (.ucieRetrainTimer d ok) s = .next t ∧
        (t.hostOf d.val).lost = (s.hostOf d.val).lost.filter (fun m => !ok.getLsbD m)))

/-- An active slice of a die that is up, idle and allowed to sleep, begins to sleep and reads ASLEEP in its page; going
to sleep ends asleep and is signalled. A wake cause takes a slice going to sleep back at once, and one asleep to waking;
waking ends active, no longer asleep, at its applied rating, and is signalled. A step moves the running rating of a
slice that runs by one 50 MHz step toward the applied one, and not at all during a droop. -/
def Obligations.SlicesSleepAndWake : Prop :=
  ∀ (s : State) (sl : Slice),
    let d := sliceDie sl.val
    let i := sl.val % 8
    let c := s.coxOf d
    (s.dieUp d = true → s.sliceState sl.val = 0 → s.sliceIdle sl.val = true → s.maySleep sl.val = true →
      ∃ t, exec (.sliceSleepEnter sl) s = .next t ∧ t.sliceState sl.val = 1 ∧ (t.reg (slicePg sl.val) 0x10).getLsbD 10 = true) ∧
    (s.sliceState sl.val = 1 → ∃ t, exec (.sliceAsleep sl) s = .next t ∧ t.sliceState sl.val = 2) ∧
    (s.sliceState sl.val ≠ 1 → exec (.sliceAsleep sl) s = .next s) ∧
    (c.wakes.contains i = true → ∃ t, exec (.sliceWakeStart sl) s = .next t ∧ (t.coxOf d).wakes = c.wakes.filter (· ≠ i) ∧
      (s.sliceState sl.val = 1 → t.sliceState sl.val = 0) ∧ (s.sliceState sl.val = 2 → t.sliceState sl.val = 3)) ∧
    (s.sliceState sl.val = 3 → exec (.sliceWakeDone sl) s = .next (
      let u := (s.setSliceState sl.val 0).setAsleep (slicePg sl.val) false
      ((u.setRunning d i (u.appliedRating d i)).raise (aonPg d) 8).startEvent sl.val)) ∧
    (s.sliceRuns sl.val = true → c.droop = none → ∃ t, exec (.ratingStep sl) s = .next t ∧
      t.running d i = if s.appliedRating d i > s.running d i then s.running d i + 1
        else if s.appliedRating d i < s.running d i then s.running d i - 1 else s.running d i) ∧
    (c.droop ≠ none → exec (.ratingStep sl) s = .next s)

/-- On a die that is up and whose always-on unit operates: a measurement is shown; below the setpoint by the threshold
it begins a droop, counted and signalled, and back within the release it ends one and its time is counted. Each window's
droops above RATE lower the DROOP demand by a step, ten quiet windows raise it. A hot reading is signalled once and
lowers the THERMAL demand by a step, a cool one raises it; at TRIP_C the trip output falls, it is signalled, and both
dies go to the lowest rating. The brake input falling puts the brake demand on each die; rising lifts it step by step.
-/
def Obligations.VoltageHeatAndBrakeLowerRatings : Prop :=
  (∀ (s : State) (d : Die) (mv reading : BitVec 16), s.operates (aonPg d.val) = true → s.dieUp d.val = true →
    let pg := aonPg d.val
    let c := s.coxOf d.val
    let m := s.fset pg F.AON_VCORE_MEASURED_MV mv.toNat
    let low : Prop := mv.toNat + s.fget pg F.AON_DROOP_CFG_THRESH_MV ≤ s.fget pg F.AON_VCORE_SETPOINT_MV
    let high : Prop := s.fget pg F.AON_VCORE_SETPOINT_MV ≤ mv.toNat + s.fget pg F.AON_DROOP_CFG_RELEASE_MV
    let temp := s.fset pg F.AON_TEMP_READING reading.toNat
    (c.droop = none → low → exec (.droopStart d mv) s = .next (((m.setCox d.val { c with
      droop := some (s.monoNs d.val), droops := c.droops + 1 }).cadd (coxPg d.val) F.COX_DROOP_EVENTS).raise pg 12)) ∧
    (¬ low → exec (.droopStart d mv) s = .next m) ∧
    (∀ since, c.droop = some since → high → exec (.droopEnd d mv) s = .next ((m.setCox d.val { c with droop := none }).cadd
      (coxPg d.val) F.COX_DROOP_STRETCH_NS (s.monoNs d.val - since))) ∧
    (c.droop = none → exec (.droopEnd d mv) s = .next m) ∧
    (s.fget pg F.AON_DROOP_CFG_RATE = 0 → c.quiet < 9 → exec (.droopRateWindow d) s = .next ((s.setCox d.val { c with
      droops := 0, quiet := c.quiet + 1 }).episodes d.val)) ∧
    (s.fget pg F.AON_DROOP_CFG_RATE ≠ 0 → s.fget pg F.AON_DROOP_CFG_RATE < c.droops → exec (.droopRateWindow d) s = .next (
      ((s.setCox d.val { c with droops := 0, quiet := 0 }).setDemands d.val rDroop (fun i =>
        if (List.range 8).any (fun i => decide (s.demand d.val rDroop i < 32)) then s.demand d.val rDroop i - 1
        else s.appliedRating d.val i - 1)).episodes d.val)) ∧
    (temp.tempLimit d.val F.AON_TEMP_CFG_WARN_C ≤ reading.toInt → c.hot = true → exec (.thermalStep d reading) s = .next (
      let v := temp.setCox d.val { c with hot := true }
      (v.setDemands d.val rThermal (fun i => v.demand d.val rThermal i - 1)).episodes d.val)) ∧
    (temp.tempLimit d.val F.AON_TEMP_CFG_TRIP_C ≤ reading.toInt → s.pins.tripped = false →
      exec (.thermTrip d reading) s = .next ([0, 1].foldl (fun s e =>
        ((s.setDemands e rThermal (fun _ => 16)).jumpRatings e).episodes e)
          ((({ temp with pins := { s.pins with tripped := true } }).emit (.pin 1 false)).raise pg 11)))) ∧
  (∀ s : State,
    (s.pins.brakeN = true → exec .pwrBrakeFall s = .next
      (({ s with pins := { s.pins with brakeN := false } }.brakeDie 0).brakeDie 1)) ∧
    (∃ t, exec .pwrBrakeRise s = .next t ∧ t.pins.brakeN = true ∧
      ∀ d < 2, s.dieUp d = true → t.flag (coxPg d) F.COX_STATUS_BRAKE = false))

/-- Where the arbiter operates: a sample of a die that is up keeps the highest power of each class, and with the cox on
lowers memory or compute that exceeds its allocation, or lets it rise. An unmet epoch with PADDLE_ON_UNMET and power
above the budget puts one slice, the highest-numbered that is not, into Paddle mode. An epoch's end closes it on each
die that is up; each die keeps its report (and the stern sends it to the bow), or, where one is split, budgets for
itself. A slice's limits outside 16 to 32 are refused; a clear of the phases forgets them; a calibration starts unless
one runs, and its end is signalled. -/
def Obligations.CoxFollowsItsRules : Prop :=
  (∀ (s : State) (d : Die) (links mem compute : Nat), s.operates (coxPg d.val) = true → s.dieUp d.val = true →
    let c := s.coxOf d.val
    let cfg := coxPg (s.coxMaster d.val)
    let u := s.setCox d.val { c with
      high := [max (c.high.getD 0 0) links, max (c.high.getD 1 0) mem, max (c.high.getD 2 0) compute] }
    ((s.flag cfg F.COX_CFG_EN = false ∨ c.alloc = []) → exec (.arbiterSample d links mem compute) s = .next u) ∧
    (s.flag cfg F.COX_CFG_EN = true → c.alloc ≠ [] →
      let order := classOrder (s.fget cfg F.COX_CFG_ORDER)
      let v := (u.setCox d.val { u.coxOf d.val with
        alloc := takeExcess order links c.alloc, alloc0 := takeExcess order links c.alloc0 }).showAlloc d.val
      let a := v.coxOf d.val
      mem ≤ a.alloc.getD 1 0 → compute ≤ a.alloc.getD 2 0 → a.riseMem = false → a.riseCompute = false →
        exec (.arbiterSample d links mem compute) s = .next (v.episodes d.val)) ∧
    (∀ (power sl : Nat), s.flag (coxPg d.val) F.COX_STATUS_UNMET = true → s.flag cfg F.COX_CFG_PADDLE_ON_UNMET = true →
      c.budget < power → ((List.range 8).reverse.map (8 * d.val + ·)).find? (fun sl => !s.inPaddle sl) = some sl →
      exec (.paddleOnUnmetStep d power) s = .next (((s.enterPaddle sl cUnmet).raise (coxPg d.val) 11).episodes d.val))) ∧
  (∀ (s : State) (r : EpochReport), (∀ d < 2, s.dieUp d = true ∧ s.operates (coxPg d) = true) →
    let u := (s.epochDie 0 r.bow).epochDie 1 r.stern
    (u.split 0 = false → u.split 1 = false → exec (.epochEnd r) s =
      .next ((((u.epochKeep 0 r.bow).epochKeep 1 r.stern).episodes 0).episodes 1)) ∧
    ((u.split 0 = true ∨ u.split 1 = true) → exec (.epochEnd r) s =
      .next ((((u.epochSplit 0 r.bow).epochSplit 1 r.stern).episodes 0).episodes 1))) ∧
  (∀ (s : State) (src : Source) (page : PageIdx) (d : Nat) (i : Fin 8) (val : Word), s.reaches src page (coxPg d) →
    let a := F.COX_SLICE_CFG_FLOOR.of val
    let b := F.COX_SLICE_CFG_HOST_MAX.of val
    exec (.coxCfgWrite src page .cfg val) s = .next (s.coxCfg (coxPg d) val) ∧
    exec (.coxCfgWrite src page (.slice i) val) s = .next (if a < 16 ∨ a > 32 ∨ b < 16 ∨ b > 32 then s.errCount (coxPg d)
      else (s.putRw (coxPg d) (F.COX_SLICE_CFG.at i.val) val).episodes d) ∧
    (F.COX_CFG_EN.of val = 1 → ∃ t, exec (.coxPhaseClear src page val) s = .next t ∧ (t.coxOf d).phases = [] ∧
      (t.coxOf d).lasted = 0) ∧
    ((s.coxOf d).cal = none → ∃ t, exec (.coxCalStart src page val) s = .next t ∧ (t.coxOf d).cal = some none ∧
      t.flag (coxPg d) F.COX_CAL_CTRL_BUSY = true) ∧
    ((s.coxOf d).cal ≠ none → exec (.coxCalStart src page val) s =
      .next (s.putRw (coxPg d) F.COX_CAL_CTRL.off (F.COX_CAL_CTRL_START.put val 1)))) ∧
  (∀ (s : State) (d : Die), s.operates (coxPg d.val) = true → (s.coxOf d.val).cal = some (some 0) → exec (.coxCalEnd d) s =
    .next (((s.setCox d.val { s.coxOf d.val with cal := none }).bset (coxPg d.val) F.COX_CAL_CTRL_BUSY false).raise
      (coxPg d.val) 13))

/-- In units that operate: on a die that is up, the configuration scrub handles each word in error in turn, and the
decision-cache scrub drops each entry in error and counts it. With power good a wear measurement shows the worst bank
and loss; without new loss of at least half a per cent it leaves trim and setpoint; an hour tick adds one hour to the
bin of the reading. A write of the wear control with LOADED marks the hours as loaded, one without it does nothing. On a
slice page that its source reaches, ENTER puts the slice into Paddle mode with the host's cause; EXIT takes it out only
where the rule admits it, and is refused otherwise. On a die page with its lock, a kick of the watchdog is written and
clears EXPIRED. An enabled watchdog of a die that is up and enabled that expires sets EXPIRED, signals it, and puts
every slice of the die into Paddle mode. -/
def Obligations.IntegrityAndPaddleModeAreKept : Prop :=
  (
    (∀ (s : State) (d : Die) (found : List ConfigErr) (bad : List Nat), s.operates (diePg d.val) = true →
      s.operates (clsPg d.val) = true → s.dieUp d.val = true →
      exec (.configScrub d found) s = .next (found.foldl (fun s x => s.scrubWord d.val x) s) ∧
      ∃ t, exec (.decisionCacheScrub d bad) s = .next t ∧ (t.clsOf d.val).cache =
        ((List.range (s.clsOf d.val).cache.length).filter (fun i => !bad.contains i)).filterMap (fun i => (s.clsOf d.val).cache[i]?)) ∧
    (∀ (s : State) (d : Die) (losses : List (BitVec 16)), s.operates (aonPg d.val) = true → s.pins.pwrgood = true →
      let pg := aonPg d.val
      (∃ t, exec (.wearMeasure d losses) s = .next t ∧
        t.fget pg F.AON_WEAR_DEGRADE_BANK = (worstBank losses).1 % 2 ^ F.AON_WEAR_DEGRADE_BANK.w ∧
        t.fget pg F.AON_WEAR_DEGRADE_WORST = (worstBank losses).2 % 2 ^ F.AON_WEAR_DEGRADE_WORST.w ∧
        ((worstBank losses).2 < s.wearBase.get 0 d.val + 50 →
          t.fget pg F.AON_WEAR_TRIM_TRIM_MV = s.fget pg F.AON_WEAR_TRIM_TRIM_MV ∧
          t.fget pg F.AON_VCORE_SETPOINT_MV = s.fget pg F.AON_VCORE_SETPOINT_MV)) ∧
      exec (.wearHourTick d) s = .next (s.fsat pg F.AON_WEAR_HOURS
        (i := hourBin ((s.reg pg F.AON_TEMP_READING.off).setWidth 16).toInt))) ∧
    (∀ (s : State) (src : Source) (page : PageIdx) (d : Nat) (val : Word), s.reaches src page (aonPg d) →
      exec (.wearHoursLoad src page val) s = .next (if bit val.toNat 31 then s.bset (aonPg d) F.AON_WEAR_CTRL_LOADED true else s))) ∧
  (
    (∀ (s : State) (src : Source) (page : PageIdx) (n : Nat) (val : Word), s.reaches src page (slicePg n) →
      exec (.paddleEnter src page val) s = .next (s.paddleCtrl n (F.SLICE_PADDLE_CTRL_ENTER.put val 1)) ∧
      exec (.paddleExit src page val) s =
        .next (s.paddleCtrl n (F.SLICE_PADDLE_CTRL_ENTER.put (F.SLICE_PADDLE_CTRL_EXIT.put val 1) 0))) ∧
    (∀ (s : State) (src : Source) (page : PageIdx) (n : Nat) (val : Word), s.reaches src page (diePg n) →
      s.holdsLock src (diePg n) = true → F.DIE_WATCHDOG_KICK.of val = 1 →
      ∃ t, exec (.watchdogKick src page val) s = .next t ∧ t.flag (diePg n) F.DIE_WATCHDOG_EXPIRED = false) ∧
    (∀ (s : State) (d : Die), s.operates (diePg d.val) = true → s.dieUp d.val = true → s.flag (diePg d.val) F.DIE_WATCHDOG_EN = true →
      s.flag (diePg d.val) F.DIE_WATCHDOG_EXPIRED = false →
      exec (.watchdogExpire d) s = .next (((List.range 8).foldl (fun s i => s.enterPaddle (8 * d.val + i) cWatchdog)
        (s.bset (diePg d.val) F.DIE_WATCHDOG_EXPIRED true)).raise (diePg d.val) 10)))

/-- On the OTP page a read, a program and an SVN increment are OTP commands of their source with the address given; a
command in progress of a page that operates ends with the bits that took added, and its status says whether every wanted
bit took. On a die page: START begins a load, refused where one runs; data words are appended in order; ABORT ends a
load as aborted. When the words that the header announced are in, the verification accepts the image or ends the load
with its result. -/
def Obligations.OtpAndImagesFollowTheirRules : Prop :=
  (∀ (s : State) (src : Source) (page : PageIdx) (addr : BitVec 14), s.reaches src page otpPg →
    exec (.otpRead src page addr) s = .next (s.otpCmd src 1 addr.toNat) ∧
    exec (.otpProgram src page addr) s = .next (s.otpCmd src 2 addr.toNat) ∧
    exec (.otpSvnInc src page) s = .next (s.otpCmd src 3 (s.fget otpPg F.OTP_CMD_ADDR))) ∧
  (∀ (s : State) (took : Word), (s.otp.busy = none → exec (.otpCmdDone took) s = .next s) ∧
    (∀ a v, s.otp.busy = some (.program a v) → s.otp.resetPending = false → s.operates otpPg = true → ∃ t, exec (.otpCmdDone took) s = .next t ∧
      t.flag otpPg F.OTP_CMD_BUSY = false ∧ t.otp.busy = none ∧
      t.fget otpPg F.OTP_CMD_STATUS = if v &&& took = v then 0 else 4)) ∧
  (∀ (s : State) (src : Source) (page : PageIdx) (d : Nat) (off : Fin 4096) (val : Word), s.reaches src page (diePg d) →
    exec (.imageStart src page) s = .next (s.imgStart d src) ∧
    exec (.imageAbort src page) s = .next (s.imgAbort d) ∧
    exec (.imageDataWrite src page off val) s = .next (s.imgAppend d val)) ∧
  (∀ (s : State) (d : Die) (n : Nat), s.imgBusy d.val = true → (s.loader d.val).limit = some n →
    n ≤ 4 * (s.loader d.val).words.length →
    exec (.imageVerifyDone d) s = .next (if s.imgVerify d.val = 1 then s.imgAccept d.val
      else s.imgEnd d.val (s.imgVerify d.val)))

/-- On any page that its source reaches, a command that belongs to a slice, a port or a die acts on each such unit at or
below the page in turn, as it would on the unit's own page; where the page has none, the access is counted as unmapped
and does nothing else. Stated for the table, TCAM, policer and Paddle commands of a slice, the gate, preemption and
scheduler commands of a port, and the image commands of a die. -/
def Obligations.AggregatePagesReachEveryUnit : Prop :=
  ∀ (s : State) (src : Source) (page : PageIdx) (p : Page) (val : Word) (k : Fin 24) (b : Fin 16) (q : Fin 16)
    (off : Fin 4096), s.reaches src page p →
    let acts (kind : Kind) (l : List (Instr × (Page → State → State))) : Prop := ∀ x ∈ l,
      (s.targetsOf p kind ≠ [] → exec x.1 s = .next ((s.targetsOf p kind).foldl (fun s t => x.2 t s) s)) ∧
      (s.targetsOf p kind = [] → exec x.1 s = .next (s.countUnmapped src))
    acts .slice [
      (.prsMemWrite src page val, fun t s => s.prsMem t.n true val), (.prsMemRead src page val, fun t s => s.prsMem t.n false val),
      (.tmapInsert src page val, fun t s => s.tmapInsert t.n val), (.tmapDelete src page val, fun t s => s.tmapDelete t.n val),
      (.tmapLookup src page val, fun t s => s.tmapLookup t.n val), (.emInsert src page val, fun t s => s.emInsert t.n val),
      (.emDelete src page val, fun t s => s.emDelete t.n val), (.emLookup src page val, fun t s => s.emLookup t.n val),
      (.lpmInsert src page val, fun t s => s.lpmInsertCmd t.n val), (.lpmDelete src page val, fun t s => s.lpmDeleteCmd t.n val),
      (.lpmLookup src page val, fun t s => s.lpmLookupCmd t.n val),
      (.stageCfgWrite src page k val, fun t s => s.stageCfgWrite t.n k.val val),
      (.tblIdxWrite src page val, fun t s => s.idxCmd t.n true val), (.tblIdxRead src page val, fun t s => s.idxCmd t.n false val),
      (.tcamWrite src page val, fun t s => s.rowWrite t.n val), (.tcamValidate src page val, fun t s => s.rowValid t.n val true),
      (.tcamInvalidate src page val, fun t s => s.rowValid t.n val false), (.tcamRead src page val, fun t s => s.rowRead t.n val),
      (.tcamBlockCfgWrite src page b val, fun t s => s.blockCfgWrite t.n b.val val),
      (.policerWrite src page val, fun t s => s.policerWrite t val), (.policerRead src page val, fun t s => s.policerRead t val),
      (.policerReadClear src page val, fun t s => s.policerReadClear t val),
      (.paddleEnter src page val, fun t s => s.paddleCtrl t.n (F.SLICE_PADDLE_CTRL_ENTER.put val 1))] ∧
    acts .port [
      (.gateListWriteAdmin src page val, fun t s => s.gateListWrite t val),
      (.gateChange src page val, fun t s => (s.putRw t F.GATE_CTRL.off val).gateChange t.n),
      (.mmCfgWrite src page val, fun t s => s.mmCfg t val), (.schCfgWrite src page (.queue q) val, fun t s => s.schReg t (.queue q) val)] ∧
    acts .die [
      (.imageStart src page, fun t s => s.imgStart t.n src), (.imageAbort src page, fun t s => s.imgAbort t.n),
      (.imageDataWrite src page off val, fun t s => s.imgAppend t.n val)]

end Statements
end

