-- ==== Sys2Proof/Laws/Sparse.lean ====
section
/-!
SUPPORT. Laws of the sparse storage: a number reads as it was last written, a write leaves every other number alone, and
every operation keeps the canonical form.
-/
namespace Sys2Proof.Machine

variable {α : Type}

@[simp] theorem Sparse.get_nil (d : α) (k : Nat) : Sparse.get [] d k = d := rfl

theorem Sparse.get_erase_same (m : Sparse α) (d : α) (k : Nat) : (m.erase k).get d k = d := by
  induction m with
  | nil => rfl
  | cons x r ih => unfold Sparse.erase; split <;> simp_all [Sparse.get]

theorem Sparse.get_erase_other (m : Sparse α) (d : α) {k k' : Nat} (h : k' ≠ k) :
    (m.erase k).get d k' = m.get d k' := by
  induction m with
  | nil => rfl
  | cons x r ih => unfold Sparse.erase; split <;> simp_all [Sparse.get, Ne.symm h]

theorem Sparse.get_insert (m : Sparse α) (d v : α) (k k' : Nat) (hk : ∀ w, (k, w) ∉ m) :
    (m.insert k v).get d k' = if k' = k then v else m.get d k' := by
  induction m with
  | nil => simp only [Sparse.insert, Sparse.get, eq_comm]
  | cons x r ih =>
    obtain ⟨a, b⟩ := x
    have hr : ∀ w, (k, w) ∉ r := fun w hw => hk w (List.mem_cons_of_mem _ hw)
    have hx : a ≠ k := fun e => hk b (by simp [← e])
    have ih := ih hr
    by_cases hlt : k < a
    · rw [Sparse.insert, if_pos hlt, Sparse.get]
      by_cases h : k = k'
      · rw [if_pos h, if_pos h.symm]
      · rw [if_neg h, if_neg (Ne.symm h)]
    · rw [Sparse.insert, if_neg hlt, Sparse.get, Sparse.get, ih]
      by_cases h : a = k'
      · rw [if_pos h, if_pos h, if_neg (h ▸ hx)]
      · rw [if_neg h, if_neg h]

theorem Sparse.not_mem_erase (m : Sparse α) (k : Nat) (w : α) : (k, w) ∉ m.erase k := by
  induction m with
  | nil => simp [Sparse.erase]
  | cons x r ih =>
    obtain ⟨a, b⟩ := x
    unfold Sparse.erase
    split
    · exact ih
    · intro h
      rcases List.mem_cons.mp h with e | h
      · cases e; contradiction
      · exact ih h

variable [DecidableEq α]

/-- Everything a write does to what is read. -/
theorem Sparse.get_set (m : Sparse α) (d v : α) (k k' : Nat) :
    (m.set d k v).get d k' = if k' = k then v else m.get d k' := by
  unfold Sparse.set
  split_ifs with h h'
  · subst h' h; exact Sparse.get_erase_same m v k'
  · exact Sparse.get_erase_other m d h'
  · rw [Sparse.get_insert _ _ _ _ _ (Sparse.not_mem_erase m k), if_pos ‹_›]
  · rw [Sparse.get_insert _ _ _ _ _ (Sparse.not_mem_erase m k), if_neg ‹_›,
      Sparse.get_erase_other m d ‹_›]

@[simp] theorem Sparse.get_set_same (m : Sparse α) (d v : α) (k : Nat) : (m.set d k v).get d k = v := by
  simp [Sparse.get_set]

theorem Sparse.get_set_other (m : Sparse α) (d v : α) {k k' : Nat} (h : k' ≠ k) :
    (m.set d k v).get d k' = m.get d k' := by
  simp [Sparse.get_set, h]

/-- A write at one number leaves every other alone, whatever defaults the write and the read name. -/
theorem Sparse.get_set_ne (m : Sparse α) (d d' v : α) {k k' : Nat} (h : k' ≠ k) :
    (m.set d k v).get d' k' = m.get d' k' := by
  unfold Sparse.set
  split_ifs
  · exact Sparse.get_erase_other m d' h
  · rw [Sparse.get_insert _ _ _ _ _ (Sparse.not_mem_erase m k), if_neg h,
      Sparse.get_erase_other m d' h]

/-! ### The canonical form -/

/-- The canonical form as a statement about lists. -/
theorem Sparse.wf_iff (d : Nat → α) (m : Sparse α) :
    m.wf d = true ↔ List.Pairwise (fun a b => a.1 < b.1) m ∧ ∀ x ∈ m, x.2 ≠ d x.1 := by
  have key : ∀ (m : Sparse α) (lo : Option Nat), Sparse.wfFrom d lo m = true ↔
      (∀ l, lo = some l → ∀ x ∈ m, l < x.1) ∧ List.Pairwise (fun a b => a.1 < b.1) m ∧ ∀ x ∈ m, x.2 ≠ d x.1 := by
    intro m
    induction m with
    | nil => intro lo; cases lo <;> simp [Sparse.wfFrom]
    | cons x r ih =>
      obtain ⟨k, v⟩ := x
      intro lo
      cases lo with
      | none =>
        simp only [Sparse.wfFrom, Bool.and_eq_true, decide_eq_true_eq, ih, List.pairwise_cons, List.mem_cons,
          forall_eq_or_imp]
        constructor
        · rintro ⟨hv, hk, hp, hd⟩; exact ⟨by simp, ⟨hk k rfl, hp⟩, hv, hd⟩
        · rintro ⟨-, ⟨hk, hp⟩, hv, hd⟩; exact ⟨hv, fun l e => by cases e; exact hk, hp, hd⟩
      | some lo =>
        simp only [Sparse.wfFrom, Bool.and_eq_true, decide_eq_true_eq, ih, List.pairwise_cons, List.mem_cons,
          forall_eq_or_imp, Option.some.injEq, forall_eq']
        constructor
        · rintro ⟨⟨hl, hv⟩, hk, hp, hd⟩
          exact ⟨⟨hl, fun a ha => lt_trans hl (hk a ha)⟩, ⟨hk, hp⟩, hv, hd⟩
        · rintro ⟨⟨hl, -⟩, ⟨hk, hp⟩, hv, hd⟩; exact ⟨⟨hl, hv⟩, hk, hp, hd⟩
  simpa [Sparse.wf] using key m none

@[simp] theorem Sparse.wf_nil (d : Nat → α) : Sparse.wf d ([] : Sparse α) = true := rfl

theorem Sparse.wf_filter (d : Nat → α) (m : Sparse α) (p : Nat × α → Bool) (h : m.wf d = true) :
    Sparse.wf d (m.filter p) = true := by
  rw [Sparse.wf_iff] at *
  exact ⟨h.1.filter _, fun x hx => h.2 x (List.mem_filter.mp hx).1⟩

theorem Sparse.erase_eq_filter (m : Sparse α) (k : Nat) : m.erase k = m.filter (fun x => decide (x.1 ≠ k)) := by
  induction m with
  | nil => rfl
  | cons x r ih => unfold Sparse.erase; split <;> simp_all

theorem Sparse.mem_insert (m : Sparse α) (k : Nat) (v : α) (x : Nat × α) : x ∈ m.insert k v ↔ x = (k, v) ∨ x ∈ m := by
  induction m with
  | nil => simp [Sparse.insert]
  | cons y r ih => unfold Sparse.insert; split <;> simp_all; tauto

theorem Sparse.pairwise_insert (m : Sparse α) (k : Nat) (v : α) (h : List.Pairwise (fun a b => a.1 < b.1) m)
    (hk : ∀ x ∈ m, x.1 ≠ k) : List.Pairwise (fun a b => a.1 < b.1) (m.insert k v) := by
  induction m with
  | nil => simp [Sparse.insert]
  | cons y r ih =>
    obtain ⟨k', v'⟩ := y
    rw [List.pairwise_cons] at h
    unfold Sparse.insert
    split_ifs with hlt
    · refine List.pairwise_cons.mpr ⟨?_, List.pairwise_cons.mpr h⟩
      intro x hx
      rcases List.mem_cons.mp hx with rfl | hx
      · exact hlt
      · exact lt_trans hlt (h.1 x hx)
    · refine List.pairwise_cons.mpr ⟨?_, ih h.2 (fun x hx => hk x (List.mem_cons_of_mem _ hx))⟩
      intro x hx
      rcases (Sparse.mem_insert r k v x).mp hx with rfl | hx
      · have := hk (k', v') (by simp); simp only [ne_eq] at this; omega
      · exact h.1 x hx

/-- A write keeps the canonical form. -/
theorem Sparse.wf_set (d : Nat → α) (m : Sparse α) (k : Nat) (v : α) (h : m.wf d = true) : (m.set (d k) k v).wf d = true := by
  have he : Sparse.wf d (m.erase k) = true := by rw [Sparse.erase_eq_filter]; exact Sparse.wf_filter d m _ h
  unfold Sparse.set
  split_ifs with hv
  · exact he
  · rw [Sparse.wf_iff] at *
    refine ⟨Sparse.pairwise_insert _ _ _ he.1 ?_, ?_⟩
    · rintro ⟨a, b⟩ hx rfl; exact Sparse.not_mem_erase m _ b hx
    · intro x hx
      rcases (Sparse.mem_insert _ _ _ x).mp hx with rfl | hx
      · exact hv
      · exact he.2 x hx

theorem Sparse.wf_upd (d : Nat → α) (m : Sparse α) (k : Nat) (f : α → α) (h : m.wf d = true) :
    (m.upd (d k) k f).wf d = true := Sparse.wf_set d m k _ h

/-- Taking entries out leaves every number alone that the test keeps. -/
theorem Sparse.get_filter (m : Sparse α) (d : α) (p : Nat × α → Bool) {k : Nat} (h : ∀ v, p (k, v) = true) :
    Sparse.get (m.filter p) d k = m.get d k := by
  induction m with
  | nil => rfl
  | cons x r ih =>
    obtain ⟨a, b⟩ := x
    by_cases ha : a = k
    · subst ha; simp [List.filter, h, Sparse.get]
    · by_cases hp : p (a, b) = true
      · simp [List.filter, hp, Sparse.get, ha, ih]
      · simp [List.filter, hp, Sparse.get, ha, ih]

end Sys2Proof.Machine
end

