-- ==== Sys2Proof/Laws/Does.lean ====
section
/-!
SUPPORT. How `Does` composes: it holds of no change, it chains, and a write of each part of the state does it. The laws of
the shared operations are built from these.
-/
namespace Sys2Proof.Machine

/-- Every part of `m` is one of `M`. -/
abbrev Sub (m M : Nat) : Prop := m ||| M = M

theorem Sub.trans {a b c : Nat} (h : Sub a b) (h' : Sub b c) : Sub a c := by
  unfold Sub at *; rw [← h', ← Nat.lor_assoc, h]

theorem Sub.bit {m M i : Nat} (h : Sub m M) (hi : m.testBit i = true) : M.testBit i = true := by
  rw [← h, Nat.testBit_or, hi, Bool.true_or]

theorem State.Grows.refl (s : State) : s.Grows s := ⟨⟨[], rfl⟩, le_rfl, le_rfl, fun _ => by simp⟩

theorem Does.refl {M : Nat} (s : State) : Does M s s := ⟨fun p _ => by cases p <;> rfl, fun _ _ _ => ⟨rfl, rfl⟩, id, State.Grows.refl s⟩

theorem State.same_trans {s t u : State} {p : Part} (h : s.same t p) (h' : t.same u p) : s.same u p := by
  cases p <;> exact Eq.trans h' h

theorem State.Grows.trans {s t u : State} (h : s.Grows t) (h' : t.Grows u) : s.Grows u := by
  obtain ⟨l, hl⟩ := h.out
  obtain ⟨l', hl'⟩ := h'.out
  refine ⟨⟨l' ++ l, by rw [hl', hl, List.append_assoc]⟩, h.free.trans h'.free, h.nextFrame.trans h'.nextFrame, fun a => ?_⟩
  have h1 := h.otp a
  have h2 := h'.otp a
  calc s.otpWord a &&& u.otpWord a = (s.otpWord a &&& t.otpWord a) &&& u.otpWord a := by rw [h1]
    _ = s.otpWord a &&& (t.otpWord a &&& u.otpWord a) := BitVec.and_assoc ..
    _ = s.otpWord a := by rw [h2, h1]

theorem Does.trans {M : Nat} {s t u : State} (h : Does M s t) (h' : Does M t u) : Does M s u :=
  ⟨fun p hp => State.same_trans (h.keep p hp) (h'.keep p hp),
    fun p o hp => ⟨(h'.regs p o hp).1.trans (h.regs p o hp).1, (h'.regs p o hp).2.trans (h.regs p o hp).2⟩, fun c => h'.canonical (h.canonical c), h.grows.trans h'.grows⟩

theorem Does.mono {m M : Nat} {s t : State} (hM : Sub m M) (h : Does m s t) : Does M s t :=
  ⟨fun p hp => h.keep p (by
    cases hm : m.testBit p.idx with
    | false => rfl
    | true => rw [hM.bit hm] at hp; cases hp),
  fun p o hp => h.regs p o (by
    cases hm : m.testBit (64 + p.kind.space o) with
    | false => rfl
    | true => rw [hM.bit hm] at hp; cases hp), h.canonical, h.grows⟩

/-! ### Register spaces -/

theorem Kind.code_lt (k : Kind) : k.code < 64 := by cases k <;> decide

theorem Kind.code_inj {k k' : Kind} (h : k.code = k'.code) : k = k' := by
  revert h; cases k <;> cases k' <;> decide

theorem Kind.space_lt (k : Kind) (o : Nat) : k.space o < 128 := by
  have := k.code_lt; unfold Kind.space; split <;> omega

theorem Page.key_mod (p : Page) (o : Nat) : p.key o % 128 = p.kind.space o := by
  have := p.kind.space_lt o; unfold Page.key; omega

/-- Keys of different register spaces differ. -/
theorem Page.key_ne {p q : Page} {o o' : Nat} (h : p.kind.space o ≠ q.kind.space o') : p.key o ≠ q.key o' := by
  intro e; apply h; rw [← Page.key_mod p o, e, Page.key_mod]

theorem keyKind_key (p : Page) (o : Nat) : keyKind (p.key o) = p.kind.code := by
  have h := p.kind.code_lt
  have : p.key o % 64 = p.kind.space o % 64 := by unfold Page.key; omega
  unfold keyKind; rw [this]; unfold Kind.space; split <;> omega

/-- The set of a page's own registers, and of its header. -/
def Page.blk (p : Page) : Nat := 2 ^ (64 + p.kind.code)
def Page.hdr (p : Page) : Nat := 2 ^ (128 + p.kind.code)

theorem Sub.kind {p : Page} {k : Kind} {m M : Nat} (h : p.kind = k) (hm : Sub (2 ^ (64 + k.code)) m) (hM : Sub m M) :
    Sub p.blk M := by subst h; exact Sub.trans hm hM

theorem Sub.kindH {p : Page} {k : Kind} {m M : Nat} (h : p.kind = k) (hm : Sub (2 ^ (128 + k.code)) m) (hM : Sub m M) :
    Sub p.hdr M := by subst h; exact Sub.trans hm hM

/-- The own registers of every kind, and every header. -/
theorem Sub.allBlk (p : Page) {m M : Nat} (hm : Sub 0x7FFFF007E0000000000000000 m) (hM : Sub m M) : Sub p.blk M := by
  refine Sub.trans (Sub.trans ?_ hm) hM
  unfold Page.blk
  cases p.kind <;> decide

theorem Sub.allHdr (p : Page) {m M : Nat} (hm : Sub 0x7FFFF007E00000000000000000000000000000000 m) (hM : Sub m M) :
    Sub p.hdr M := by
  refine Sub.trans (Sub.trans ?_ hm) hM
  unfold Page.hdr
  cases p.kind <;> decide

theorem Page.space_blk {p q : Page} {o o' : Nat} {M : Nat} (hp : Sub p.blk M) (ho : 0x40 ≤ o)
    (hq : M.testBit (64 + q.kind.space o') = false) : q.key o' ≠ p.key o := by
  refine Page.key_ne fun e => ?_
  have := hp.bit (i := 64 + p.kind.code) (by simp [Page.blk, Nat.testBit_two_pow_self])
  rw [e] at hq
  simp only [Kind.space, if_neg (Nat.not_lt.mpr ho), Nat.add_zero] at hq
  rw [this] at hq; cases hq

theorem Page.space_hdr {p q : Page} {o o' : Nat} {M : Nat} (hp : Sub p.hdr M) (ho : o < 0x40)
    (hq : M.testBit (64 + q.kind.space o') = false) : q.key o' ≠ p.key o := by
  refine Page.key_ne fun e => ?_
  have := hp.bit (i := 128 + p.kind.code) (by simp [Page.hdr, Nat.testBit_two_pow_self])
  rw [e] at hq
  simp only [Kind.space, if_pos ho] at hq
  rw [show 64 + (p.kind.code + 64) = 128 + p.kind.code by omega, this] at hq; cases hq

/-- The register space of one offset of a page. -/
def Page.reg (p : Page) (o : Nat) : Nat := 2 ^ (64 + p.kind.space o)

theorem Page.reg_ne {p q : Page} {o o' : Nat} {M : Nat} (hp : Sub (p.reg o) M)
    (hq : M.testBit (64 + q.kind.space o') = false) : q.key o' ≠ p.key o := by
  refine Page.key_ne fun e => ?_
  rw [e, hp.bit (i := 64 + p.kind.space o) (by simp [Page.reg, Nat.testBit_two_pow_self])] at hq
  cases hq

theorem Sub.off {p : Page} {o M : Nat} (ho : 0x40 ≤ o) (hb : Sub p.blk M) : Sub (p.reg o) M := by
  simpa only [Page.blk, Page.reg, Kind.space, if_neg (Nat.not_lt.mpr ho), Nat.add_zero] using hb

theorem Sub.offH {p : Page} {o M : Nat} (ho : o < 0x40) (hh : Sub p.hdr M) : Sub (p.reg o) M := by
  have e : 64 + (p.kind.code + 64) = 128 + p.kind.code := by omega
  simp only [Page.reg, Kind.space, if_pos ho, e]
  exact hh

theorem Sub.offB {p : Page} {o M : Nat} (hb : Sub p.blk M) (hh : Sub p.hdr M) : Sub (p.reg o) M := by
  by_cases ho : o < 0x40
  · exact Sub.offH ho hh
  · exact Sub.off (Nat.not_lt.mp ho) hb

theorem Fld.le_at {f : Fld} {a i : Nat} (h : a ≤ f.off) : a ≤ f.at i := h.trans (Nat.le_add_right _ _)

theorem Sub.fld {p : Page} {f : Fld} {M : Nat} (ho : 0x40 ≤ f.off) (hb : Sub p.blk M) (i : Nat) : Sub (p.reg (f.at i)) M :=
  Sub.off (Fld.le_at ho) hb

theorem Sub.fldH {p : Page} {f : Fld} {M : Nat} (ho : f.off < 0x40) (hs : f.stride = 0) (hh : Sub p.hdr M) (i : Nat) :
    Sub (p.reg (f.at i)) M :=
  Sub.offH (by rw [Fld.at, hs, Nat.zero_mul, Nat.add_zero]; exact ho) hh

theorem Sub.fldB {p : Page} {f : Fld} {M : Nat} (hb : Sub p.blk M) (hh : Sub p.hdr M) (i : Nat) : Sub (p.reg (f.at i)) M :=
  Sub.offB hb hh

/-- The headers that an interrupt or a status passes on its way up. -/
abbrev treeHdrs : Nat := 0x7C00000000000000000000000000000000

theorem Page.irqParent_hdr {p q : Page} {dev b : Nat} (h : p.irqParent dev = some (q, b)) : Sub q.hdr treeHdrs := by
  unfold Page.irqParent at h
  split at h <;> first
    | (simp only [Option.some.injEq, Prod.mk.injEq] at h; obtain ⟨rfl, _⟩ := h
       simp only [Page.hdr]; decide)
    | cases h

theorem State.irqParent_hdr {s : State} {p q : Page} {b : Nat} (h : s.irqParent p = some (q, b)) : Sub q.hdr treeHdrs := by
  unfold State.irqParent at h
  split at h
  · simp only [Option.some.injEq, Prod.mk.injEq] at h; obtain ⟨rfl, _⟩ := h
    simp only [Page.hdr]; decide
  · exact Page.irqParent_hdr h

theorem State.treeParent_hdr {s : State} {p q : Page} (h : s.treeParent p = some q) : Sub q.hdr treeHdrs := by
  unfold State.treeParent at h
  split at h <;> first
    | (obtain ⟨⟨a, b⟩, ha, rfl⟩ := Option.map_eq_some_iff.mp h; exact State.irqParent_hdr ha)
    | cases h

theorem State.ancestors_hdr {s : State} {n : Nat} : ∀ {p q : Page}, q ∈ s.ancestors p n → Sub q.hdr treeHdrs := by
  induction n with
  | zero => intro p q h; cases h
  | succ n ih =>
    intro p q h
    unfold State.ancestors at h
    split at h
    · cases h
    · rcases List.mem_cons.mp h with rfl | h
      · exact State.irqParent_hdr ‹_›
      · exact ih h

/-- Registers of another kind. -/
theorem Page.kind_ne {p q : Page} {o M : Nat} (hb : Sub p.blk M) (hh : Sub p.hdr M)
    (hq : M.testBit (64 + q.kind.space o) = false) : keyKind (q.key o) ≠ p.kind.code := by
  intro e
  rw [keyKind_key] at e
  have hp := (Sub.offB (p := p) (o := o) hb hh).bit (i := 64 + p.kind.space o) (by simp [Page.reg, Nat.testBit_two_pow_self])
  rw [Kind.code_inj e, hp] at hq
  cases hq

/-- A set that holds every register space. -/
theorem Page.all_reg {p : Page} {o m M : Nat} {c : Prop} (hb : Sub 0x7FFFF007E0000000000000000 m)
    (hh : Sub 0x7FFFF007E00000000000000000000000000000000 m) (hM : Sub m M) (hq : M.testBit (64 + p.kind.space o) = false) :
    c := by
  rw [(Sub.offB (o := o) (Sub.allBlk p hb hM) (Sub.allHdr p hh hM)).bit (i := 64 + p.kind.space o)
    (by simp [Page.reg, Nat.testBit_two_pow_self])] at hq
  cases hq

theorem State.targetsOf_kind {s : State} {p t : Page} {k : Kind} (h : t ∈ s.targetsOf p k) : t.kind = k := by
  unfold State.targetsOf at h
  split_ifs at h with hp
  · rw [List.mem_singleton.mp h, hp]
  · split at h
    · next l _ hl =>
      unfold Page.below at h
      split at h
      · cases h
      · obtain ⟨i, -, rfl⟩ := List.mem_map.mp h
        cases k <;> revert hl <;> simp only [Kind.level, Option.some.injEq, reduceCtorEq, false_imp_iff] <;>
          (intro e; subst e; rfl)
    · cases h

/-! ### Branches and loops -/

theorem Does.ite {M : Nat} {s0 a b : State} {c : Prop} [Decidable c] (ha : Does M s0 a) (hb : Does M s0 b) :
    Does M s0 (if c then a else b) := by split <;> assumption

theorem Does.fold {M : Nat} {s0 s : State} {β : Type} {l : List β} {f : State → β → State} (h : Does M s0 s)
    (hf : ∀ s x, Does M s0 s → Does M s0 (f s x)) : Does M s0 (l.foldl f s) := by
  induction l generalizing s with
  | nil => exact h
  | cons x r ih => exact ih (hf s x h)

theorem Does.foldMem {M : Nat} {s0 s : State} {β : Type} {l : List β} {f : State → β → State} (h : Does M s0 s)
    (hf : ∀ s x, x ∈ l → Does M s0 s → Does M s0 (f s x)) : Does M s0 (l.foldl f s) := by
  induction l generalizing s with
  | nil => exact h
  | cons x r ih => exact ih (hf s x (List.mem_cons_self ..) h) (fun s y hy => hf s y (List.mem_cons_of_mem _ hy))

/-- A loop that carries a state beside other data keeps what each turn keeps. -/
theorem Does.foldP {M : Nat} {s0 : State} {α β : Type} (π : α → State) {l : List β} {f : α → β → α} {a : α}
    (h : Does M s0 (π a)) (hf : ∀ a x, Does M s0 (π a) → Does M s0 (π (f a x))) : Does M s0 (π (l.foldl f a)) := by
  induction l generalizing a with
  | nil => exact h
  | cons x r ih => exact ih (hf a x h)

theorem Does.fold2 {M : Nat} {s0 : State} {α β : Type} {l : List β} {f : α × State → β → α × State} {a r : α × State}
    (e : l.foldl f a = r) (h : Does M s0 a.2) (hf : ∀ a x, Does M s0 a.2 → Does M s0 (f a x).2) : Does M s0 r.2 :=
  e ▸ Does.foldP (fun a : α × State => a.2) h hf

theorem Does.fold22 {M : Nat} {s0 : State} {α γ β : Type} {l : List β} {f : α × γ × State → β → α × γ × State}
    {a r : α × γ × State} (e : l.foldl f a = r) (h : Does M s0 a.2.2)
    (hf : ∀ a x, Does M s0 a.2.2 → Does M s0 (f a x).2.2) : Does M s0 r.2.2 :=
  e ▸ Does.foldP (fun a : α × γ × State => a.2.2) h hf

theorem Does.fold222 {M : Nat} {s0 : State} {α γ δ β : Type} {l : List β} {f : α × γ × δ × State → β → α × γ × δ × State}
    {a r : α × γ × δ × State} (e : l.foldl f a = r) (h : Does M s0 a.2.2.2)
    (hf : ∀ a x, Does M s0 a.2.2.2 → Does M s0 (f a x).2.2.2) : Does M s0 r.2.2.2 :=
  e ▸ Does.foldP (fun a : α × γ × δ × State => a.2.2.2) h hf

/-- Two steps to a goal, the first about a state that a definition names. -/
theorem Does.cut {M : Nat} {s0 u : State} (t : State) (h : Does M s0 t) (hu : Does M s0 t → Does M s0 u) : Does M s0 u := hu h

/-- A function that keeps what `Does` says. -/
def Keeps (M : Nat) (s0 : State) (f : State → State) : Prop := ∀ s, Does M s0 s → Does M s0 (f s)

theorem Keeps.mk {M : Nat} {s0 : State} {f : State → State} (h : ∀ s, Does M s0 s → Does M s0 (f s)) : Keeps M s0 f := h

theorem Keeps.app {M : Nat} {s0 s : State} {f : State → State} (hf : Keeps M s0 f) (h : Does M s0 s) : Does M s0 (f s) := hf s h

theorem Keeps.cut {M : Nat} {s0 u : State} (f : State → State) (hf : Keeps M s0 f) (hu : Keeps M s0 f → Does M s0 u) :
    Does M s0 u := hu hf

/-- A function that answers a state beside other data and keeps what `Does` says. -/
def KeepsP {α : Type} (M : Nat) (s0 : State) (f : State → α × State) : Prop := ∀ s, Does M s0 s → Does M s0 (f s).2

theorem KeepsP.mk {α : Type} {M : Nat} {s0 : State} {f : State → α × State} (h : ∀ s, Does M s0 s → Does M s0 (f s).2) :
    KeepsP M s0 f := h

theorem KeepsP.app {α : Type} {M : Nat} {s0 s : State} {f : State → α × State} (hf : KeepsP M s0 f) (h : Does M s0 s) :
    Does M s0 (f s).2 := hf s h

theorem KeepsP.cut {α : Type} {M : Nat} {s0 u : State} (f : State → α × State) (hf : KeepsP M s0 f)
    (hu : KeepsP M s0 f → Does M s0 u) : Does M s0 u := hu hf

theorem Does.ofIf {M : Nat} {s0 t : State} {c : Prop} [Decidable c] {a b : Option State} (e : (if c then a else b) = some t)
    (ha : a = some t → Does M s0 t) (hb : b = some t → Does M s0 t) : Does M s0 t := by
  split at e
  · exact ha e
  · exact hb e

theorem Does.getD {M : Nat} {s0 s : State} {o : Option State} (h : Does M s0 s) (ho : ∀ t, o = some t → Does M s0 t) :
    Does M s0 (o.getD s) := by
  cases o with
  | none => exact h
  | some t => exact ho t rfl

/-- The state that a definition takes out of a result. -/
theorem Does.of2 {M : Nat} {s0 s : State} {α : Type} {p : α × State} {a : α} (e : p = (a, s)) (h : Does M s0 p.2) :
    Does M s0 s := by subst e; exact h

theorem Does.of3 {M : Nat} {s0 s : State} {α β : Type} {p : α × β × State} {a : α} {b : β} (e : p = (a, b, s))
    (h : Does M s0 p.2.2) : Does M s0 s := by subst e; exact h

theorem Does.of4 {M : Nat} {s0 s : State} {α β γ : Type} {p : α × β × γ × State} {a : α} {b : β} {c : γ}
    (e : p = (a, b, c, s)) (h : Does M s0 p.2.2.2) : Does M s0 s := by subst e; exact h

/-! ### A write of each part -/

variable {M : Nat} {s0 s : State}

theorem Does.put_pending {v : List Instr} (hm : Sub 1 M) (h : Does M s0 s) : Does M s0 { s with pending := v } := by
  refine ⟨fun p hp => ?_, h.regs, fun c => ?_, h.grows.trans ⟨⟨[], rfl⟩, le_rfl, le_rfl, fun _ => BitVec.and_self⟩⟩
  · exact by
      cases p <;> first
        | exact h.keep _ hp
        | (rw [Part.idx, hm.bit (i := 0) (by decide)] at hp; cases hp)
  · have c := h.canonical c
    exact { c with }

theorem Does.put_out {o : Output} (hm : Sub 2 M) (h : Does M s0 s) : Does M s0 { s with out := o :: s.out } := by
  refine ⟨fun p hp => ?_, h.regs, fun c => ?_, h.grows.trans ⟨⟨[o], rfl⟩, le_rfl, le_rfl, fun _ => BitVec.and_self⟩⟩
  · exact by
      cases p <;> first
        | exact h.keep _ hp
        | (rw [Part.idx, hm.bit (i := 1) (by decide)] at hp; cases hp)
  · have c := h.canonical c
    exact { c with }

theorem Does.put_free {v : Nat} (hm : Sub 4 M) (h : Does M s0 s) (hv : s.free ≤ v) : Does M s0 { s with free := v } := by
  refine ⟨fun p hp => ?_, h.regs, fun c => ?_, h.grows.trans ⟨⟨[], rfl⟩, hv, le_rfl, fun _ => BitVec.and_self⟩⟩
  · exact by
      cases p <;> first
        | exact h.keep _ hp
        | (rw [Part.idx, hm.bit (i := 2) (by decide)] at hp; cases hp)
  · have c := h.canonical c
    exact { c with }

theorem Does.put_pins {v : Pins} (hm : Sub 8 M) (h : Does M s0 s) : Does M s0 { s with pins := v } := by
  refine ⟨fun p hp => ?_, h.regs, fun c => ?_, h.grows.trans ⟨⟨[], rfl⟩, le_rfl, le_rfl, fun _ => BitVec.and_self⟩⟩
  · exact by
      cases p <;> first
        | exact h.keep _ hp
        | (rw [Part.idx, hm.bit (i := 3) (by decide)] at hp; cases hp)
  · have c := h.canonical c
    exact { c with }

theorem Does.put_otp {v : Otp} (hm : Sub 16 M) (h : Does M s0 s)
    (hv : s.otp.words.wf (fun _ => 0) = true → v.words.wf (fun _ => 0) = true)
    (hg : ∀ a, s.otpWord a &&& v.words.get 0 a = s.otpWord a) : Does M s0 { s with otp := v } := by
  refine ⟨fun p hp => ?_, h.regs, fun c => ?_, h.grows.trans ⟨⟨[], rfl⟩, le_rfl, le_rfl, hg⟩⟩
  · exact by
      cases p <;> first
        | exact h.keep _ hp
        | (rw [Part.idx, hm.bit (i := 4) (by decide)] at hp; cases hp)
  · have c := h.canonical c
    exact { c with otp := hv c.otp }

theorem Does.put_regs {v : Sparse Word} (hm : Sub 32 M) (h : Does M s0 s)
    (hv : s.regs.wf (regDefault) = true → Sparse.wf (regDefault) v = true)
    (hr : ∀ (p : Page) (o : Nat), M.testBit (64 + p.kind.space o) = false →
      v.get (regDefault (p.key o)) (p.key o) = s.regs.get (regDefault (p.key o)) (p.key o)) : Does M s0 { s with regs := v } := by
  refine ⟨fun p hp => ?_, fun p o hp => ?_, fun c => ?_, h.grows.trans ⟨⟨[], rfl⟩, le_rfl, le_rfl, fun _ => BitVec.and_self⟩⟩
  · exact by
      cases p <;> first
        | exact h.keep _ hp
        | (rw [Part.idx, hm.bit (i := 5) (by decide)] at hp; cases hp)
  · exact ⟨(hr p o hp).trans (h.regs p o hp).1, (h.regs p o hp).2⟩
  · have c := h.canonical c
    exact { c with regs := hv c.regs }

theorem Does.put_ctrs {v : Sparse DWord} (hm : Sub 64 M) (h : Does M s0 s)
    (hv : s.ctrs.wf (fun _ => 0) = true → Sparse.wf (fun _ => 0) v = true)
    (hr : ∀ (p : Page) (o : Nat), M.testBit (64 + p.kind.space o) = false →
      v.get (0) (p.key o) = s.ctrs.get (0) (p.key o)) : Does M s0 { s with ctrs := v } := by
  refine ⟨fun p hp => ?_, fun p o hp => ?_, fun c => ?_, h.grows.trans ⟨⟨[], rfl⟩, le_rfl, le_rfl, fun _ => BitVec.and_self⟩⟩
  · exact by
      cases p <;> first
        | exact h.keep _ hp
        | (rw [Part.idx, hm.bit (i := 6) (by decide)] at hp; cases hp)
  · exact ⟨(h.regs p o hp).1, (hr p o hp).trans (h.regs p o hp).2⟩
  · have c := h.canonical c
    exact { c with ctrs := hv c.ctrs }

theorem Does.put_latch {v : Sparse (Option Word)} (hm : Sub 128 M) (h : Does M s0 s)
    (hv : s.latch.wf (fun _ => none) = true → Sparse.wf (fun _ => none) v = true) : Does M s0 { s with latch := v } := by
  refine ⟨fun p hp => ?_, h.regs, fun c => ?_, h.grows.trans ⟨⟨[], rfl⟩, le_rfl, le_rfl, fun _ => BitVec.and_self⟩⟩
  · exact by
      cases p <;> first
        | exact h.keep _ hp
        | (rw [Part.idx, hm.bit (i := 7) (by decide)] at hp; cases hp)
  · have c := h.canonical c
    exact { c with latch := hv c.latch }

theorem Does.put_locks {v : Sparse (Option Lock)} (hm : Sub 256 M) (h : Does M s0 s)
    (hv : s.locks.wf (fun _ => none) = true → Sparse.wf (fun _ => none) v = true) : Does M s0 { s with locks := v } := by
  refine ⟨fun p hp => ?_, h.regs, fun c => ?_, h.grows.trans ⟨⟨[], rfl⟩, le_rfl, le_rfl, fun _ => BitVec.and_self⟩⟩
  · exact by
      cases p <;> first
        | exact h.keep _ hp
        | (rw [Part.idx, hm.bit (i := 8) (by decide)] at hp; cases hp)
  · have c := h.canonical c
    exact { c with locks := hv c.locks }

theorem Does.put_boot {v : Sparse DieBoot} (hm : Sub 512 M) (h : Does M s0 s)
    (hv : s.boot.wf (fun _ => {}) = true → Sparse.wf (fun _ => {}) v = true) : Does M s0 { s with boot := v } := by
  refine ⟨fun p hp => ?_, h.regs, fun c => ?_, h.grows.trans ⟨⟨[], rfl⟩, le_rfl, le_rfl, fun _ => BitVec.and_self⟩⟩
  · exact by
      cases p <;> first
        | exact h.keep _ hp
        | (rw [Part.idx, hm.bit (i := 9) (by decide)] at hp; cases hp)
  · have c := h.canonical c
    exact { c with boot := hv c.boot }

theorem Does.put_failed {v : Sparse Bool} (hm : Sub 1024 M) (h : Does M s0 s)
    (hv : s.failed.wf (fun _ => false) = true → Sparse.wf (fun _ => false) v = true) : Does M s0 { s with failed := v } := by
  refine ⟨fun p hp => ?_, h.regs, fun c => ?_, h.grows.trans ⟨⟨[], rfl⟩, le_rfl, le_rfl, fun _ => BitVec.and_self⟩⟩
  · exact by
      cases p <;> first
        | exact h.keep _ hp
        | (rw [Part.idx, hm.bit (i := 10) (by decide)] at hp; cases hp)
  · have c := h.canonical c
    exact { c with failed := hv c.failed }

theorem Does.put_resetting {v : Sparse Bool} (hm : Sub 2048 M) (h : Does M s0 s)
    (hv : s.resetting.wf (fun _ => false) = true → Sparse.wf (fun _ => false) v = true) : Does M s0 { s with resetting := v } := by
  refine ⟨fun p hp => ?_, h.regs, fun c => ?_, h.grows.trans ⟨⟨[], rfl⟩, le_rfl, le_rfl, fun _ => BitVec.and_self⟩⟩
  · exact by
      cases p <;> first
        | exact h.keep _ hp
        | (rw [Part.idx, hm.bit (i := 11) (by decide)] at hp; cases hp)
  · have c := h.canonical c
    exact { c with resetting := hv c.resetting }

theorem Does.put_wearBase {v : Sparse Nat} (hm : Sub 4096 M) (h : Does M s0 s)
    (hv : s.wearBase.wf (fun _ => 0) = true → Sparse.wf (fun _ => 0) v = true) : Does M s0 { s with wearBase := v } := by
  refine ⟨fun p hp => ?_, h.regs, fun c => ?_, h.grows.trans ⟨⟨[], rfl⟩, le_rfl, le_rfl, fun _ => BitVec.and_self⟩⟩
  · exact by
      cases p <;> first
        | exact h.keep _ hp
        | (rw [Part.idx, hm.bit (i := 12) (by decide)] at hp; cases hp)
  · have c := h.canonical c
    exact { c with wearBase := hv c.wearBase }

theorem Does.put_lanes {v : Sparse LaneSt} (hm : Sub 8192 M) (h : Does M s0 s)
    (hv : s.lanes.wf (fun _ => {}) = true → Sparse.wf (fun _ => {}) v = true) : Does M s0 { s with lanes := v } := by
  refine ⟨fun p hp => ?_, h.regs, fun c => ?_, h.grows.trans ⟨⟨[], rfl⟩, le_rfl, le_rfl, fun _ => BitVec.and_self⟩⟩
  · exact by
      cases p <;> first
        | exact h.keep _ hp
        | (rw [Part.idx, hm.bit (i := 13) (by decide)] at hp; cases hp)
  · have c := h.canonical c
    exact { c with lanes := hv c.lanes }

theorem Does.put_links {v : Sparse LinkSt} (hm : Sub 16384 M) (h : Does M s0 s)
    (hv : s.links.wf (fun _ => {}) = true → Sparse.wf (fun _ => {}) v = true) : Does M s0 { s with links := v } := by
  refine ⟨fun p hp => ?_, h.regs, fun c => ?_, h.grows.trans ⟨⟨[], rfl⟩, le_rfl, le_rfl, fun _ => BitVec.and_self⟩⟩
  · exact by
      cases p <;> first
        | exact h.keep _ hp
        | (rw [Part.idx, hm.bit (i := 14) (by decide)] at hp; cases hp)
  · have c := h.canonical c
    exact { c with links := hv c.links }

theorem Does.put_tabs {v : Sparse SliceTab} (hm : Sub 32768 M) (h : Does M s0 s)
    (hv : s.tabs.wf (fun _ => {}) = true → Sparse.wf (fun _ => {}) v = true) : Does M s0 { s with tabs := v } := by
  refine ⟨fun p hp => ?_, h.regs, fun c => ?_, h.grows.trans ⟨⟨[], rfl⟩, le_rfl, le_rfl, fun _ => BitVec.and_self⟩⟩
  · exact by
      cases p <;> first
        | exact h.keep _ hp
        | (rw [Part.idx, hm.bit (i := 15) (by decide)] at hp; cases hp)
  · have c := h.canonical c
    exact { c with tabs := hv c.tabs }

theorem Does.put_qdr {v : Sparse (Option (BitVec 256))} (hm : Sub 65536 M) (h : Does M s0 s)
    (hv : s.qdr.wf (fun _ => none) = true → Sparse.wf (fun _ => none) v = true) : Does M s0 { s with qdr := v } := by
  refine ⟨fun p hp => ?_, h.regs, fun c => ?_, h.grows.trans ⟨⟨[], rfl⟩, le_rfl, le_rfl, fun _ => BitVec.and_self⟩⟩
  · exact by
      cases p <;> first
        | exact h.keep _ hp
        | (rw [Part.idx, hm.bit (i := 16) (by decide)] at hp; cases hp)
  · have c := h.canonical c
    exact { c with qdr := hv c.qdr }

theorem Does.put_qdrBusy {v : Sparse (Option QdrAccess)} (hm : Sub 131072 M) (h : Does M s0 s)
    (hv : s.qdrBusy.wf (fun _ => none) = true → Sparse.wf (fun _ => none) v = true) : Does M s0 { s with qdrBusy := v } := by
  refine ⟨fun p hp => ?_, h.regs, fun c => ?_, h.grows.trans ⟨⟨[], rfl⟩, le_rfl, le_rfl, fun _ => BitVec.and_self⟩⟩
  · exact by
      cases p <;> first
        | exact h.keep _ hp
        | (rw [Part.idx, hm.bit (i := 17) (by decide)] at hp; cases hp)
  · have c := h.canonical c
    exact { c with qdrBusy := hv c.qdrBusy }

theorem Does.put_clss {v : Sparse ClsSt} (hm : Sub 262144 M) (h : Does M s0 s)
    (hv : s.clss.wf (fun _ => {}) = true → Sparse.wf (fun _ => {}) v = true) : Does M s0 { s with clss := v } := by
  refine ⟨fun p hp => ?_, h.regs, fun c => ?_, h.grows.trans ⟨⟨[], rfl⟩, le_rfl, le_rfl, fun _ => BitVec.and_self⟩⟩
  · exact by
      cases p <;> first
        | exact h.keep _ hp
        | (rw [Part.idx, hm.bit (i := 18) (by decide)] at hp; cases hp)
  · have c := h.canonical c
    exact { c with clss := hv c.clss }

theorem Does.put_frames {v : Sparse (Option Frm)} (hm : Sub 524288 M) (h : Does M s0 s)
    (hv : s.frames.wf (fun _ => none) = true → Sparse.wf (fun _ => none) v = true) : Does M s0 { s with frames := v } := by
  refine ⟨fun p hp => ?_, h.regs, fun c => ?_, h.grows.trans ⟨⟨[], rfl⟩, le_rfl, le_rfl, fun _ => BitVec.and_self⟩⟩
  · exact by
      cases p <;> first
        | exact h.keep _ hp
        | (rw [Part.idx, hm.bit (i := 19) (by decide)] at hp; cases hp)
  · have c := h.canonical c
    exact { c with frames := hv c.frames }

theorem Does.put_nextFrame {v : Nat} (hm : Sub 1048576 M) (h : Does M s0 s) (hv : s.nextFrame ≤ v) : Does M s0 { s with nextFrame := v } := by
  refine ⟨fun p hp => ?_, h.regs, fun c => ?_, h.grows.trans ⟨⟨[], rfl⟩, le_rfl, hv, fun _ => BitVec.and_self⟩⟩
  · exact by
      cases p <;> first
        | exact h.keep _ hp
        | (rw [Part.idx, hm.bit (i := 20) (by decide)] at hp; cases hp)
  · have c := h.canonical c
    exact { c with }

theorem Does.put_slices {v : Sparse SliceSt} (hm : Sub 2097152 M) (h : Does M s0 s)
    (hv : s.slices.wf (fun _ => {}) = true → Sparse.wf (fun _ => {}) v = true) : Does M s0 { s with slices := v } := by
  refine ⟨fun p hp => ?_, h.regs, fun c => ?_, h.grows.trans ⟨⟨[], rfl⟩, le_rfl, le_rfl, fun _ => BitVec.and_self⟩⟩
  · exact by
      cases p <;> first
        | exact h.keep _ hp
        | (rw [Part.idx, hm.bit (i := 21) (by decide)] at hp; cases hp)
  · have c := h.canonical c
    exact { c with slices := hv c.slices }

theorem Does.put_ports {v : Sparse PortSt} (hm : Sub 4194304 M) (h : Does M s0 s)
    (hv : s.ports.wf (fun _ => {}) = true → Sparse.wf (fun _ => {}) v = true) : Does M s0 { s with ports := v } := by
  refine ⟨fun p hp => ?_, h.regs, fun c => ?_, h.grows.trans ⟨⟨[], rfl⟩, le_rfl, le_rfl, fun _ => BitVec.and_self⟩⟩
  · exact by
      cases p <;> first
        | exact h.keep _ hp
        | (rw [Part.idx, hm.bit (i := 22) (by decide)] at hp; cases hp)
  · have c := h.canonical c
    exact { c with ports := hv c.ports }

theorem Does.put_lrns {v : Sparse LrnSt} (hm : Sub 8388608 M) (h : Does M s0 s)
    (hv : s.lrns.wf (fun _ => {}) = true → Sparse.wf (fun _ => {}) v = true) : Does M s0 { s with lrns := v } := by
  refine ⟨fun p hp => ?_, h.regs, fun c => ?_, h.grows.trans ⟨⟨[], rfl⟩, le_rfl, le_rfl, fun _ => BitVec.and_self⟩⟩
  · exact by
      cases p <;> first
        | exact h.keep _ hp
        | (rw [Part.idx, hm.bit (i := 23) (by decide)] at hp; cases hp)
  · have c := h.canonical c
    exact { c with lrns := hv c.lrns }

theorem Does.put_keels {v : Sparse KeelSt} (hm : Sub 16777216 M) (h : Does M s0 s)
    (hv : s.keels.wf (fun _ => {}) = true → Sparse.wf (fun _ => {}) v = true) : Does M s0 { s with keels := v } := by
  refine ⟨fun p hp => ?_, h.regs, fun c => ?_, h.grows.trans ⟨⟨[], rfl⟩, le_rfl, le_rfl, fun _ => BitVec.and_self⟩⟩
  · exact by
      cases p <;> first
        | exact h.keep _ hp
        | (rw [Part.idx, hm.bit (i := 24) (by decide)] at hp; cases hp)
  · have c := h.canonical c
    exact { c with keels := hv c.keels }

theorem Does.put_stalls {v : Sparse (List (Nat × StallOn))} (hm : Sub 33554432 M) (h : Does M s0 s)
    (hv : s.stalls.wf (fun _ => []) = true → Sparse.wf (fun _ => []) v = true) : Does M s0 { s with stalls := v } := by
  refine ⟨fun p hp => ?_, h.regs, fun c => ?_, h.grows.trans ⟨⟨[], rfl⟩, le_rfl, le_rfl, fun _ => BitVec.and_self⟩⟩
  · exact by
      cases p <;> first
        | exact h.keep _ hp
        | (rw [Part.idx, hm.bit (i := 25) (by decide)] at hp; cases hp)
  · have c := h.canonical c
    exact { c with stalls := hv c.stalls }

theorem Does.put_bufs {v : Sparse BufSt} (hm : Sub 67108864 M) (h : Does M s0 s)
    (hv : s.bufs.wf (fun _ => {}) = true → Sparse.wf (fun _ => {}) v = true) : Does M s0 { s with bufs := v } := by
  refine ⟨fun p hp => ?_, h.regs, fun c => ?_, h.grows.trans ⟨⟨[], rfl⟩, le_rfl, le_rfl, fun _ => BitVec.and_self⟩⟩
  · exact by
      cases p <;> first
        | exact h.keep _ hp
        | (rw [Part.idx, hm.bit (i := 26) (by decide)] at hp; cases hp)
  · have c := h.canonical c
    exact { c with bufs := hv c.bufs }

theorem Does.put_mcs {v : Sparse (BitVec 515)} (hm : Sub 134217728 M) (h : Does M s0 s)
    (hv : s.mcs.wf (fun _ => 0) = true → Sparse.wf (fun _ => 0) v = true) : Does M s0 { s with mcs := v } := by
  refine ⟨fun p hp => ?_, h.regs, fun c => ?_, h.grows.trans ⟨⟨[], rfl⟩, le_rfl, le_rfl, fun _ => BitVec.and_self⟩⟩
  · exact by
      cases p <;> first
        | exact h.keep _ hp
        | (rw [Part.idx, hm.bit (i := 27) (by decide)] at hp; cases hp)
  · have c := h.canonical c
    exact { c with mcs := hv c.mcs }

theorem Does.put_queues {v : Sparse (List Copy)} (hm : Sub 268435456 M) (h : Does M s0 s)
    (hv : s.queues.wf (fun _ => []) = true → Sparse.wf (fun _ => []) v = true) : Does M s0 { s with queues := v } := by
  refine ⟨fun p hp => ?_, h.regs, fun c => ?_, h.grows.trans ⟨⟨[], rfl⟩, le_rfl, le_rfl, fun _ => BitVec.and_self⟩⟩
  · exact by
      cases p <;> first
        | exact h.keep _ hp
        | (rw [Part.idx, hm.bit (i := 28) (by decide)] at hp; cases hp)
  · have c := h.canonical c
    exact { c with queues := hv c.queues }

theorem Does.put_times {v : Sparse TimeSt} (hm : Sub 536870912 M) (h : Does M s0 s)
    (hv : s.times.wf (fun _ => {}) = true → Sparse.wf (fun _ => {}) v = true) : Does M s0 { s with times := v } := by
  refine ⟨fun p hp => ?_, h.regs, fun c => ?_, h.grows.trans ⟨⟨[], rfl⟩, le_rfl, le_rfl, fun _ => BitVec.and_self⟩⟩
  · exact by
      cases p <;> first
        | exact h.keep _ hp
        | (rw [Part.idx, hm.bit (i := 29) (by decide)] at hp; cases hp)
  · have c := h.canonical c
    exact { c with times := hv c.times }

theorem Does.put_accts {v : Sparse AcctSt} (hm : Sub 1073741824 M) (h : Does M s0 s)
    (hv : s.accts.wf (fun _ => {}) = true → Sparse.wf (fun _ => {}) v = true) : Does M s0 { s with accts := v } := by
  refine ⟨fun p hp => ?_, h.regs, fun c => ?_, h.grows.trans ⟨⟨[], rfl⟩, le_rfl, le_rfl, fun _ => BitVec.and_self⟩⟩
  · exact by
      cases p <;> first
        | exact h.keep _ hp
        | (rw [Part.idx, hm.bit (i := 30) (by decide)] at hp; cases hp)
  · have c := h.canonical c
    exact { c with accts := hv c.accts }

theorem Does.put_tels {v : Sparse TelSt} (hm : Sub 2147483648 M) (h : Does M s0 s)
    (hv : s.tels.wf (fun _ => {}) = true → Sparse.wf (fun _ => {}) v = true) : Does M s0 { s with tels := v } := by
  refine ⟨fun p hp => ?_, h.regs, fun c => ?_, h.grows.trans ⟨⟨[], rfl⟩, le_rfl, le_rfl, fun _ => BitVec.and_self⟩⟩
  · exact by
      cases p <;> first
        | exact h.keep _ hp
        | (rw [Part.idx, hm.bit (i := 31) (by decide)] at hp; cases hp)
  · have c := h.canonical c
    exact { c with tels := hv c.tels }

theorem Does.put_dumps {v : Sparse DumpSt} (hm : Sub 4294967296 M) (h : Does M s0 s)
    (hv : s.dumps.wf (fun _ => {}) = true → Sparse.wf (fun _ => {}) v = true) : Does M s0 { s with dumps := v } := by
  refine ⟨fun p hp => ?_, h.regs, fun c => ?_, h.grows.trans ⟨⟨[], rfl⟩, le_rfl, le_rfl, fun _ => BitVec.and_self⟩⟩
  · exact by
      cases p <;> first
        | exact h.keep _ hp
        | (rw [Part.idx, hm.bit (i := 32) (by decide)] at hp; cases hp)
  · have c := h.canonical c
    exact { c with dumps := hv c.dumps }

theorem Does.put_admits {v : Sparse (List Nat)} (hm : Sub 8589934592 M) (h : Does M s0 s)
    (hv : s.admits.wf (fun _ => []) = true → Sparse.wf (fun _ => []) v = true) : Does M s0 { s with admits := v } := by
  refine ⟨fun p hp => ?_, h.regs, fun c => ?_, h.grows.trans ⟨⟨[], rfl⟩, le_rfl, le_rfl, fun _ => BitVec.and_self⟩⟩
  · exact by
      cases p <;> first
        | exact h.keep _ hp
        | (rw [Part.idx, hm.bit (i := 33) (by decide)] at hp; cases hp)
  · have c := h.canonical c
    exact { c with admits := hv c.admits }

theorem Does.put_ciphers {v : Sparse CipherSt} (hm : Sub 17179869184 M) (h : Does M s0 s)
    (hv : s.ciphers.wf (fun _ => {}) = true → Sparse.wf (fun _ => {}) v = true) : Does M s0 { s with ciphers := v } := by
  refine ⟨fun p hp => ?_, h.regs, fun c => ?_, h.grows.trans ⟨⟨[], rfl⟩, le_rfl, le_rfl, fun _ => BitVec.and_self⟩⟩
  · exact by
      cases p <;> first
        | exact h.keep _ hp
        | (rw [Part.idx, hm.bit (i := 34) (by decide)] at hp; cases hp)
  · have c := h.canonical c
    exact { c with ciphers := hv c.ciphers }

theorem Does.put_msecs {v : Sparse MsecSt} (hm : Sub 34359738368 M) (h : Does M s0 s)
    (hv : s.msecs.wf (fun _ => {}) = true → Sparse.wf (fun _ => {}) v = true) : Does M s0 { s with msecs := v } := by
  refine ⟨fun p hp => ?_, h.regs, fun c => ?_, h.grows.trans ⟨⟨[], rfl⟩, le_rfl, le_rfl, fun _ => BitVec.and_self⟩⟩
  · exact by
      cases p <;> first
        | exact h.keep _ hp
        | (rw [Part.idx, hm.bit (i := 35) (by decide)] at hp; cases hp)
  · have c := h.canonical c
    exact { c with msecs := hv c.msecs }

theorem Does.put_hosts {v : Sparse HostSt} (hm : Sub 68719476736 M) (h : Does M s0 s)
    (hv : s.hosts.wf (fun _ => {}) = true → Sparse.wf (fun _ => {}) v = true) : Does M s0 { s with hosts := v } := by
  refine ⟨fun p hp => ?_, h.regs, fun c => ?_, h.grows.trans ⟨⟨[], rfl⟩, le_rfl, le_rfl, fun _ => BitVec.and_self⟩⟩
  · exact by
      cases p <;> first
        | exact h.keep _ hp
        | (rw [Part.idx, hm.bit (i := 36) (by decide)] at hp; cases hp)
  · have c := h.canonical c
    exact { c with hosts := hv c.hosts }

theorem Does.put_coxs {v : Sparse CoxSt} (hm : Sub 137438953472 M) (h : Does M s0 s)
    (hv : s.coxs.wf (fun _ => {}) = true → Sparse.wf (fun _ => {}) v = true) : Does M s0 { s with coxs := v } := by
  refine ⟨fun p hp => ?_, h.regs, fun c => ?_, h.grows.trans ⟨⟨[], rfl⟩, le_rfl, le_rfl, fun _ => BitVec.and_self⟩⟩
  · exact by
      cases p <;> first
        | exact h.keep _ hp
        | (rw [Part.idx, hm.bit (i := 37) (by decide)] at hp; cases hp)
  · have c := h.canonical c
    exact { c with coxs := hv c.coxs }

theorem Does.put_css {v : Sparse CsSt} (hm : Sub 274877906944 M) (h : Does M s0 s)
    (hv : s.css.wf (fun _ => {}) = true → Sparse.wf (fun _ => {}) v = true) : Does M s0 { s with css := v } := by
  refine ⟨fun p hp => ?_, h.regs, fun c => ?_, h.grows.trans ⟨⟨[], rfl⟩, le_rfl, le_rfl, fun _ => BitVec.and_self⟩⟩
  · exact by
      cases p <;> first
        | exact h.keep _ hp
        | (rw [Part.idx, hm.bit (i := 38) (by decide)] at hp; cases hp)
  · have c := h.canonical c
    exact { c with css := hv c.css }

end Sys2Proof.Machine
end

