-- ==== Sys2Proof/Laws/Ops.lean ====
section
/-!
SUPPORT. What each operation of Machine/Ops.lean can change, and that it takes nothing back.
-/
namespace Sys2Proof.Machine

theorem State.setKeel_does {M : Nat} {s0 s : State} {x1} {x2} (hM : Sub 16777216 M) (h : Does M s0 s) :
    Does M s0 (State.setKeel s x1 x2) := by
  unfold State.setKeel
  repeat' (first
    | with_reducible assumption
    | refine Does.put_keels (Sub.trans (by decide) hM) ?_ (fun c => Sparse.wf_set _ _ _ _ c))

theorem State.sendCtrl_does {M : Nat} {s0 s : State} {x1} {x2} (hM : Sub 16777216 M) (h : Does M s0 s) :
    Does M s0 (State.sendCtrl s x1 x2) := by
  unfold State.sendCtrl
  repeat' (first
    | with_reducible assumption
    | (extract_lets +onlyGivenNames x; revert x; intro _)
    | with_reducible refine State.setKeel_does (Sub.trans (by decide) hM) ?_)

theorem State.carry_does {M : Nat} {s0 s : State} {x1} (hM : Sub 16777216 M) (h : Does M s0 s) :
    Does M s0 (State.carry s x1) := by
  unfold State.carry
  repeat' (first
    | with_reducible assumption
    | (extract_lets +onlyGivenNames x; refine Does.cut x ?_ ?_; rotate_left; (intro hx; clear_value x; revert x; intro _ _); rotate_left; (unfold x; clear x))
    | (extract_lets +onlyGivenNames x; revert x; intro _)
    | with_reducible refine State.sendCtrl_does (Sub.trans (by decide) hM) ?_
    | with_reducible refine State.setKeel_does (Sub.trans (by decide) hM) ?_
    | with_reducible refine Does.ite ?_ ?_)

theorem State.setReg_does {M : Nat} {s0 s : State} {x1 : Page} {x2} {x3} (hM : Sub 32 M) (hP : Sub (x1.reg x2) M) (h : Does M s0 s) :
    Does M s0 (State.setReg s x1 x2 x3) := by
  unfold State.setReg
  exact Does.put_regs (Sub.trans (by decide) hM) h (fun c => Sparse.wf_set _ _ _ _ c)
    (fun _ _ hq => Sparse.get_set_ne _ _ _ _ (Page.reg_ne hP hq))

theorem State.fset_does {M : Nat} {s0 s : State} {x1 : Page} {x2} {x3} {x4} (hM : Sub 32 M) (hP : ∀ i, Sub (x1.reg (x2.at i)) M) (h : Does M s0 s) :
    Does M s0 (State.fset s x1 x2 x3 x4) := by
  unfold State.fset
  exact State.setReg_does hM (hP _) h

theorem State.fsat_does {M : Nat} {s0 s : State} {x1 : Page} {x2} {x3} {x4} (hM : Sub 32 M) (hP : ∀ i, Sub (x1.reg (x2.at i)) M) (h : Does M s0 s) :
    Does M s0 (State.fsat s x1 x2 x3 x4) := by
  unfold State.fsat
  exact State.fset_does hM hP h

theorem State.emit_does {M : Nat} {s0 s : State} {x1} (hM : Sub 2 M) (h : Does M s0 s) :
    Does M s0 (State.emit s x1) := by
  unfold State.emit
  repeat' (first
    | with_reducible assumption
    | with_reducible refine Does.put_out (Sub.trans (by decide) hM) ?_)

theorem State.setPending_does {M : Nat} {s0 s : State} {x1} {x2} {x3} (hM : Sub 0x4000000000000000000020 M) (h : Does M s0 s) :
    Does M s0 (State.setPending s x1 x2 x3) := by
  unfold State.setPending
  exact State.setReg_does (Sub.trans (by decide) hM)
    (Sub.off (Nat.le_trans (by decide) (Nat.le_add_right _ _)) (Sub.kind (k := .hif) rfl (by decide) hM)) h

theorem State.sendVector_does {M : Nat} {s0 s : State} {x1} {x2} (hM : Sub 0x4000000000000000000022 M) (h : Does M s0 s) :
    Does M s0 (State.sendVector s x1 x2) := by
  unfold State.sendVector
  repeat' (first
    | with_reducible assumption
    | (extract_lets +onlyGivenNames x; revert x; intro _)
    | with_reducible refine State.emit_does (Sub.trans (by decide) hM) ?_
    | with_reducible refine State.setPending_does (Sub.trans (by decide) hM) ?_
    | with_reducible refine Does.ite ?_ ?_)

theorem State.outputChanged_does {M : Nat} {s0 s : State} {x1 : Page} {x2} (hM : Sub 0x4000000000000000000022 M) (h : Does M s0 s) :
    Does M s0 (State.outputChanged s x1 x2) := by
  unfold State.outputChanged
  repeat' (first
    | with_reducible assumption
    | (extract_lets +onlyGivenNames x; refine Does.cut x ?_ ?_; rotate_left; (intro hx; clear_value x; revert x; intro _ _); rotate_left; (unfold x; clear x))
    | (extract_lets +onlyGivenNames x; revert x; intro _)
    | with_reducible refine State.sendVector_does (Sub.trans (by decide) hM) ?_
    | with_reducible refine State.setPending_does (Sub.trans (by decide) hM) ?_
    | with_reducible refine Does.ite ?_ ?_
    | split)

theorem State.propagate_does {M : Nat} {s0 s : State} {x1 : Page} {x2} {x3} (hM : Sub 0x7c00000000004000000000000000000022 M) (h : Does M s0 s) :
    Does M s0 (State.propagate s x1 x2 x3) := by
  induction x3 generalizing s x1 x2 with
  | zero => exact h
  | succ n ih =>
    unfold State.propagate
    extract_lets now s1
    have h1 : Does M s0 s1 := State.outputChanged_does (Sub.trans (by decide) hM) h
    split
    · exact h
    · split
      · exact h1
      · next q b hq =>
        have ht := Sub.trans (State.irqParent_hdr hq) (Sub.trans (show Sub treeHdrs 0x7c00000000004000000000000000000022 by decide) hM)
        exact ih (State.setReg_does (Sub.trans (by decide) hM) (Sub.offH (by decide) ht)
          (State.setReg_does (Sub.trans (by decide) hM) (Sub.offH (by decide) ht) h1))

theorem State.irqUpd_does {M : Nat} {s0 s : State} {x1 : Page} {x2 : State → State} (hM : Sub 0x7c00000000004000000000000000000022 M) (h : Does M s0 s) (hf2 : ∀ s, Does M s0 s → Does M s0 (x2 s)) :
    Does M s0 (State.irqUpd s x1 x2) := by
  unfold State.irqUpd
  repeat' (first
    | with_reducible assumption
    | (with_reducible refine hf2 _ ?_)
    | with_reducible refine State.propagate_does (Sub.trans (by decide) hM) ?_)

theorem State.raise_does {M : Nat} {s0 s : State} {x1 : Page} {x2} (hM : Sub 0x7c00000000004000000000000000000022 M) (hH1 : Sub x1.hdr M) (h : Does M s0 s) :
    Does M s0 (State.raise s x1 x2) := by
  unfold State.raise
  repeat' (first
    | with_reducible assumption
    | (intro _ _)
    | with_reducible refine State.irqUpd_does (Sub.trans (by decide) hM) ?_ ?_
    | with_reducible refine State.setReg_does (Sub.trans (by decide) hM) (Sub.offH (by decide) hH1) ?_)

theorem State.errCount_does {M : Nat} {s0 s : State} {x1 : Page} (hM : Sub 0x7c00000000004000000000000000000022 M) (hH1 : Sub x1.hdr M) (h : Does M s0 s) :
    Does M s0 (State.errCount s x1) := by
  unfold State.errCount
  repeat' (first
    | with_reducible assumption
    | with_reducible refine State.fsat_does (Sub.trans (by decide) hM) (Sub.fldH (by decide) rfl hH1) ?_
    | with_reducible refine State.raise_does (Sub.trans (by decide) hM) hH1 ?_)

theorem State.countUnmapped_does {M : Nat} {s0 s : State} {x1} (hM : Sub 0x40007c00000000004000000000000000000022 M) (h : Does M s0 s) :
    Does M s0 (State.countUnmapped s x1) := by
  unfold State.countUnmapped
  repeat' (first
    | with_reducible assumption
    | with_reducible refine State.errCount_does (Sub.trans (by decide) hM) (Sub.kindH (k := .hif) rfl (by decide) hM) ?_
    | with_reducible refine State.errCount_does (Sub.trans (by decide) hM) (Sub.kindH (k := .device) rfl (by decide) hM) ?_
    | split)

theorem State.access_does {M : Nat} {s0 s : State} {x1} {x2} {x3} {x4 : Page → State → State} (hM : Sub 0x40007c00000000004000000000000001000022 M) (h : Does M s0 s) (hf4 : ∀ a0 s, Does M s0 s → Does M s0 (x4 a0 s)) :
    Does M s0 (State.access s x1 x2 x3 x4) := by
  unfold State.access
  repeat' (first
    | with_reducible assumption
    | (with_reducible refine hf4 _ _ ?_)
    | with_reducible refine State.carry_does (Sub.trans (by decide) hM) ?_
    | with_reducible refine State.countUnmapped_does (Sub.trans (by decide) hM) ?_
    | with_reducible refine Does.ite ?_ ?_
    | split)

theorem State.accessKind_does {M : Nat} {s0 s : State} {x1} {x2} {x3} {x4} {x5 : Page → State → State} (hM : Sub 0x40007c00000000004000000000000001000022 M) (h : Does M s0 s) (hf5 : ∀ a0 s, a0.kind = x3 → Does M s0 s → Does M s0 (x5 a0 s)) :
    Does M s0 (State.accessKind s x1 x2 x3 x4 x5) := by
  unfold State.accessKind
  refine State.access_does (Sub.trans (by decide) hM) h (fun p s h => ?_)
  split
  · exact State.countUnmapped_does (Sub.trans (by decide) hM) h
  · exact Does.foldMem h (fun s t ht h => hf5 _ _ (State.targetsOf_kind ht) h)

theorem State.writeUnits_does {M : Nat} {s0 s : State} {x1} {x2 : Page} {x3} {x4} {x5} {x6} {x7 : Page → Word → State → State} (hM : Sub 0x7c00000000004000000000000000000022 M) (hH2 : Sub x2.hdr M) (h : Does M s0 s) (hf7 : ∀ a0 a1 s, a0 ∈ x5 → Does M s0 s → Does M s0 (x7 a0 a1 s)) :
    Does M s0 (State.writeUnits s x1 x2 x3 x4 x5 x6 x7) := by
  unfold State.writeUnits
  split
  · exact h
  · dsimp only
    split
    · exact Does.foldMem h (fun _ _ ht h => hf7 _ _ _ ht h)
    · split
      · exact Does.foldMem (State.errCount_does (Sub.trans (by decide) hM) hH2 h) (fun _ _ ht h => hf7 _ _ _ ht h)
      · exact State.errCount_does (Sub.trans (by decide) hM) hH2 h

theorem State.accessLocked_does {M : Nat} {s0 s : State} {x1} {x2} {x3} {x4} {x5} {x6 : Page → Word → State → State} (hM : Sub 0x7ffff007e00000000004000000000000001000022 M) (h : Does M s0 s) (hf6 : ∀ a0 a1 s, a0.kind = x3 → Does M s0 s → Does M s0 (x6 a0 a1 s)) :
    Does M s0 (State.accessLocked s x1 x2 x3 x4 x5 x6) := by
  unfold State.accessLocked
  refine State.access_does (Sub.trans (by decide) hM) h (fun p s h => ?_)
  split
  · exact State.countUnmapped_does (Sub.trans (by decide) hM) h
  · exact State.writeUnits_does (Sub.trans (by decide) hM) (Sub.allHdr _ (by decide) hM) h (fun t v s ht h => hf6 _ _ _ (State.targetsOf_kind ht) h)

theorem State.bset_does {M : Nat} {s0 s : State} {x1 : Page} {x2} {x3} {x4} (hM : Sub 32 M) (hP : ∀ i, Sub (x1.reg (x2.at i)) M) (h : Does M s0 s) :
    Does M s0 (State.bset s x1 x2 x3 x4) := by
  unfold State.bset
  exact State.fset_does hM hP h

theorem State.cset_does {M : Nat} {s0 s : State} {x1 : Page} {x2} {x3} {x4} (hM : Sub 64 M) (hP : ∀ i, Sub (x1.reg (x2.at i)) M) (h : Does M s0 s) :
    Does M s0 (State.cset s x1 x2 x3 x4) := by
  unfold State.cset
  exact Does.put_ctrs (Sub.trans (by decide) hM) h (fun c => Sparse.wf_set _ _ _ _ c)
    (fun _ _ hq => Sparse.get_set_ne _ _ _ _ (Page.reg_ne (hP _) hq))

theorem State.cadd_does {M : Nat} {s0 s : State} {x1 : Page} {x2} {x3} {x4} (hM : Sub 64 M) (hP : ∀ i, Sub (x1.reg (x2.at i)) M) (h : Does M s0 s) :
    Does M s0 (State.cadd s x1 x2 x3 x4) := by
  unfold State.cadd
  exact State.cset_does hM hP h

theorem State.clearReg_does {M : Nat} {s0 s : State} {x1 : Page} {x2} (hM : Sub 32 M) (hP : Sub (x1.reg x2) M) (h : Does M s0 s) :
    Does M s0 (State.clearReg s x1 x2) := by
  unfold State.clearReg
  exact State.setReg_does hM hP h

theorem State.draw_does {M : Nat} {s0 s : State} {x1} {r} (e : State.draw s x1 = r) (hM : Sub 4 M) (h : Does M s0 s) :
    Does M s0 r.2 := by
  subst e
  unfold State.draw
  repeat' (first
    | with_reducible assumption
    | with_reducible refine Does.put_free (Sub.trans (by decide) hM) ?_ (Nat.le_succ _))

theorem State.putRw_does {M : Nat} {s0 s : State} {x1 : Page} {x2} {x3} (hM : Sub 32 M) (hP : Sub (x1.reg x2) M) (h : Does M s0 s) :
    Does M s0 (State.putRw s x1 x2 x3) := by
  unfold State.putRw
  split
  · exact State.setReg_does hM hP h
  · exact h

theorem State.raiseIf_does {M : Nat} {s0 s : State} {x1} {x2 : Page} {x3} (hM : Sub 0x7c00000000004000000000000000000022 M) (hH2 : Sub x2.hdr M) (h : Does M s0 s) :
    Does M s0 (State.raiseIf s x1 x2 x3) := by
  unfold State.raiseIf
  repeat' (first
    | with_reducible assumption
    | with_reducible refine State.raise_does (Sub.trans (by decide) hM) hH2 ?_
    | with_reducible refine Does.ite ?_ ?_)

theorem State.setStatusFrom_does {M : Nat} {s0 s : State} {x1 : Page} {x2} {x3} (hM : Sub 0x7c00000000004000000000000000000022 M) (hH1 : Sub x1.hdr M) (h : Does M s0 s) :
    Does M s0 (State.setStatusFrom s x1 x2 x3) := by
  induction x3 generalizing s x1 with
  | zero => exact h
  | succ n ih =>
    unfold State.setStatusFrom
    extract_lets stored new s1 s2
    have h2 : Does M s0 s2 := State.raise_does (Sub.trans (by decide) hM) hH1 (State.setReg_does (Sub.trans (by decide) hM)
      (Sub.offH (by decide) hH1) h)
    split
    · exact h
    · split
      · exact h2
      · next q hq =>
        exact ih (Sub.trans (State.treeParent_hdr hq) (Sub.trans (show Sub treeHdrs 0x7c00000000004000000000000000000022 by decide) hM)) h2

theorem State.setOwn_does {M : Nat} {s0 s : State} {x1 : Page} {x2} {x3} (hM : Sub 0x7c00000000004000000000000000000022 M) (hH1 : Sub x1.hdr M) (h : Does M s0 s) :
    Does M s0 (State.setOwn s x1 x2 x3) := by
  unfold State.setOwn
  repeat' (first
    | with_reducible assumption
    | with_reducible refine State.setReg_does (Sub.trans (by decide) hM) (Sub.offH (by decide) hH1) ?_
    | with_reducible refine State.setStatusFrom_does (Sub.trans (by decide) hM) hH1 ?_)

theorem State.setAsleep_does {M : Nat} {s0 s : State} {x1 : Page} {x2} (hM : Sub 0x7c00000000004000000000000000000022 M) (hH1 : Sub x1.hdr M) (h : Does M s0 s) :
    Does M s0 (State.setAsleep s x1 x2) := by
  unfold State.setAsleep
  repeat' (first
    | with_reducible assumption
    | with_reducible refine State.setOwn_does (Sub.trans (by decide) hM) hH1 ?_)

theorem State.setBoot_does {M : Nat} {s0 s : State} {x1} {x2} (hM : Sub 512 M) (h : Does M s0 s) :
    Does M s0 (State.setBoot s x1 x2) := by
  unfold State.setBoot
  repeat' (first
    | with_reducible assumption
    | refine Does.put_boot (Sub.trans (by decide) hM) ?_ (fun c => Sparse.wf_set _ _ _ _ c))

theorem State.setFault_does {M : Nat} {s0 s : State} {x1 : Page} {x2} (hM : Sub 0x7c00000000004000000000000000000022 M) (hH1 : Sub x1.hdr M) (h : Does M s0 s) :
    Does M s0 (State.setFault s x1 x2) := by
  unfold State.setFault
  repeat' (first
    | with_reducible assumption
    | with_reducible refine State.setOwn_does (Sub.trans (by decide) hM) hH1 ?_)

theorem State.setLock_does {M : Nat} {s0 s : State} {x1 : Page} {x2} (hM : Sub 256 M) (h : Does M s0 s) :
    Does M s0 (State.setLock s x1 x2) := by
  unfold State.setLock
  repeat' (first
    | with_reducible assumption
    | refine Does.put_locks (Sub.trans (by decide) hM) ?_ (fun c => Sparse.wf_set _ _ _ _ c))

theorem State.setPaddle_does {M : Nat} {s0 s : State} {x1 : Page} {x2} (hM : Sub 0x7c00000000004000000000000000000022 M) (hH1 : Sub x1.hdr M) (h : Does M s0 s) :
    Does M s0 (State.setPaddle s x1 x2) := by
  unfold State.setPaddle
  repeat' (first
    | with_reducible assumption
    | with_reducible refine State.setOwn_does (Sub.trans (by decide) hM) hH1 ?_)

theorem State.setPair_does {M : Nat} {s0 s : State} {x1 : Page} {x2} {x3} {x4} (hM : Sub 32 M) (hP : Sub (x1.reg x2.off) M) (hQ : Sub (x1.reg x3.off) M) (h : Does M s0 s) :
    Does M s0 (State.setPair s x1 x2 x3 x4) := by
  unfold State.setPair
  exact State.setReg_does hM hQ (State.setReg_does hM hP h)

theorem State.setWords_does {M : Nat} {s0 s : State} {x1 : Page} {x2} {x3} {x4} (hM : Sub 32 M) (hP : ∀ i, Sub (x1.reg (x2.at i)) M) (h : Does M s0 s) :
    Does M s0 (State.setWords s x1 x2 x3 x4) := by
  unfold State.setWords
  exact Does.fold h (fun _ _ h => State.setReg_does hM (hP _) h)

end Sys2Proof.Machine
end

