-- ==== Sys2Proof/Laws/Pmc.lean ====
section
/-!
SUPPORT. What each operation of Machine/Pmc.lean can change, and that it takes nothing back.
-/
namespace Sys2Proof.Machine

theorem State.pmcEvent_does {M : Nat} {s0 s : State} {x1 : Page} {x2} (hM : Sub 64 M) (hB1 : Sub x1.blk M) (h : Does M s0 s) :
    Does M s0 (State.pmcEvent s x1 x2) := by
  unfold State.pmcEvent
  refine Does.fold h (fun _ _ h => Does.ite (State.cset_does (Sub.trans (by decide) hM) (Sub.fld ?_ hB1) h) h)
  unfold pmcOff
  split <;> decide

end Sys2Proof.Machine
end

