-- ==== Sys2Proof/Laws/Record.lean ====
section
/-!
SUPPORT. What each operation of Machine/Record.lean can change, and that it takes nothing back.
-/
namespace Sys2Proof.Machine

theorem State.setAcct_does {M : Nat} {s0 s : State} {x1} {x2} (hM : Sub 1073741824 M) (h : Does M s0 s) :
    Does M s0 (State.setAcct s x1 x2) := by
  unfold State.setAcct
  repeat' (first
    | with_reducible assumption
    | refine Does.put_accts (Sub.trans (by decide) hM) ?_ (fun c => Sparse.wf_set _ _ _ _ c))

theorem State.updBank_does {M : Nat} {s0 s : State} {x1} {x2} {x3} (hM : Sub 1073741824 M) (h : Does M s0 s) :
    Does M s0 (State.updBank s x1 x2 x3) := by
  unfold State.updBank
  repeat' (first
    | with_reducible assumption
    | (extract_lets +onlyGivenNames x; revert x; intro _)
    | with_reducible refine State.setAcct_does (Sub.trans (by decide) hM) ?_)

theorem State.acctAdd_does {M : Nat} {s0 s : State} {x1} {x2} {x3} {x4} (hM : Sub 1073741824 M) (h : Does M s0 s) :
    Does M s0 (State.acctAdd s x1 x2 x3 x4) := by
  unfold State.acctAdd
  repeat' (first
    | with_reducible assumption
    | with_reducible refine State.updBank_does (Sub.trans (by decide) hM) ?_)

theorem State.calEvent_does {M : Nat} {s0 s : State} {x1} {x2} {x3} (hM : Sub 0x40000000000000000000040 M) (h : Does M s0 s) :
    Does M s0 (State.calEvent s x1 x2 x3) := by
  unfold State.calEvent
  repeat' (first
    | with_reducible assumption
    | with_reducible refine State.cadd_does (Sub.trans (by decide) hM) (Sub.fld (by decide) (Sub.kind (k := .cox) rfl (by decide) hM)) ?_
    | split)

theorem State.chargeTenant_does {M : Nat} {s0 s : State} {x1} {x2} {x3} (hM : Sub 1073741824 M) (h : Does M s0 s) :
    Does M s0 (State.chargeTenant s x1 x2 x3) := by
  unfold State.chargeTenant
  repeat' (first
    | with_reducible assumption
    | with_reducible refine State.updBank_does (Sub.trans (by decide) hM) ?_
    | with_reducible refine Does.ite ?_ ?_)

theorem State.charge_does {M : Nat} {s0 s : State} {x1} {x2} {x3} {x4} {r} (e : State.charge s x1 x2 x3 x4 = r) (hM : Sub 0x40000000000000040000040 M) (h : Does M s0 s) :
    Does M s0 r.2 := by
  subst e
  unfold State.charge
  repeat' (first
    | with_reducible assumption
    | with_reducible refine State.calEvent_does (Sub.trans (by decide) hM) ?_
    | with_reducible refine State.chargeTenant_does (Sub.trans (by decide) hM) ?_)

theorem State.setFrm_does {M : Nat} {s0 s : State} {x1} {x2} (hM : Sub 524288 M) (h : Does M s0 s) :
    Does M s0 (State.setFrm s x1 x2) := by
  unfold State.setFrm
  repeat' (first
    | with_reducible assumption
    | refine Does.put_frames (Sub.trans (by decide) hM) ?_ (fun c => Sparse.wf_set _ _ _ _ c))

theorem State.chargeFrm_does {M : Nat} {s0 s : State} {x1} {x2} {x3} {x4} (hM : Sub 0x40000000000000040080040 M) (h : Does M s0 s) :
    Does M s0 (State.chargeFrm s x1 x2 x3 x4) := by
  unfold State.chargeFrm
  repeat' (first
    | with_reducible assumption
    | (extract_lets +onlyGivenNames x; refine Does.cut x.2 ?_ ?_; rotate_left; (intro hx; clear_value x; revert x; intro _ _); rotate_left; (unfold x; clear x))
    | with_reducible refine State.charge_does rfl (Sub.trans (by decide) hM) ?_
    | with_reducible refine State.setFrm_does (Sub.trans (by decide) hM) ?_
    | split)

theorem State.loseCards_does {M : Nat} {s0 s : State} {x1} {x2} (hM : Sub 0x1000007c00000000104000000000000000000062 M) (h : Does M s0 s) :
    Does M s0 (State.loseCards s x1 x2) := by
  unfold State.loseCards
  repeat' (first
    | with_reducible assumption
    | with_reducible refine State.cadd_does (Sub.trans (by decide) hM) (Sub.fld (by decide) (Sub.kind (k := .tel) rfl (by decide) hM)) ?_
    | with_reducible refine State.raise_does (Sub.trans (by decide) hM) (Sub.kindH (k := .tel) rfl (by decide) hM) ?_
    | with_reducible refine Does.ite ?_ ?_)

theorem State.setTel_does {M : Nat} {s0 s : State} {x1} {x2} (hM : Sub 2147483648 M) (h : Does M s0 s) :
    Does M s0 (State.setTel s x1 x2) := by
  unfold State.setTel
  repeat' (first
    | with_reducible assumption
    | refine Does.put_tels (Sub.trans (by decide) hM) ?_ (fun c => Sparse.wf_set _ _ _ _ c))

theorem State.newFrm_does {M : Nat} {s0 s : State} {x1} {r} (e : State.newFrm s x1 = r) (hM : Sub 1572864 M) (h : Does M s0 s) :
    Does M s0 r.2 := by
  subst e
  unfold State.newFrm
  repeat' (first
    | with_reducible assumption
    | with_reducible refine State.setFrm_does (Sub.trans (by decide) hM) ?_
    | with_reducible refine Does.put_nextFrame (Sub.trans (by decide) hM) ?_ (Nat.le_succ _))

theorem State.toAdmit_does {M : Nat} {s0 s : State} {x1} {x2} (hM : Sub 8589934592 M) (h : Does M s0 s) :
    Does M s0 (State.toAdmit s x1 x2) := by
  unfold State.toAdmit
  repeat' (first
    | with_reducible assumption
    | refine Does.put_admits (Sub.trans (by decide) hM) ?_ (fun c => Sparse.wf_set _ _ _ _ c))

theorem State.sendStream_does {M : Nat} {s0 s : State} {x1} {x2} {x3} {x4} (hM : Sub 8591507456 M) (h : Does M s0 s) :
    Does M s0 (State.sendStream s x1 x2 x3 x4) := by
  unfold State.sendStream
  repeat' (first
    | with_reducible assumption
    | (extract_lets +onlyGivenNames x; refine Does.cut x.2 ?_ ?_; rotate_left; (intro hx; clear_value x; revert x; intro _ _); rotate_left; (unfold x; clear x))
    | (extract_lets +onlyGivenNames x; revert x; intro _)
    | with_reducible refine State.newFrm_does rfl (Sub.trans (by decide) hM) ?_
    | with_reducible refine State.toAdmit_does (Sub.trans (by decide) hM) ?_)

theorem State.flushCollector_does {M : Nat} {s0 s : State} {x1} {x2} (hM : Sub 0x100000000000000280180020 M) (h : Does M s0 s) :
    Does M s0 (State.flushCollector s x1 x2) := by
  unfold State.flushCollector
  repeat' (first
    | with_reducible assumption
    | (extract_lets +onlyGivenNames x; refine Does.cut x ?_ ?_; rotate_left; (intro hx; clear_value x; revert x; intro _ _); rotate_left; (unfold x; clear x))
    | (extract_lets +onlyGivenNames x; revert x; intro _)
    | with_reducible refine State.sendStream_does (Sub.trans (by decide) hM) ?_
    | with_reducible refine State.setReg_does (Sub.trans (by decide) hM) (Sub.off (Fld.le_at (by decide)) (Sub.kind (k := .tel) rfl (by decide) hM)) ?_
    | with_reducible refine State.setTel_does (Sub.trans (by decide) hM) ?_
    | with_reducible refine Does.ite ?_ ?_)

theorem State.toCollector_does {M : Nat} {s0 s : State} {x1} {x2} {x3} (hM : Sub 0x1000007c00000000104000000000000280180062 M) (h : Does M s0 s) :
    Does M s0 (State.toCollector s x1 x2 x3) := by
  unfold State.toCollector
  repeat' (first
    | with_reducible assumption
    | (extract_lets +onlyGivenNames x; refine Does.cut x ?_ ?_; rotate_left; (intro hx; clear_value x; revert x; intro _ _); rotate_left; (unfold x; clear x))
    | (extract_lets +onlyGivenNames x; revert x; intro _)
    | with_reducible refine State.flushCollector_does (Sub.trans (by decide) hM) ?_
    | with_reducible refine State.loseCards_does (Sub.trans (by decide) hM) ?_
    | with_reducible refine State.setTel_does (Sub.trans (by decide) hM) ?_
    | with_reducible refine Does.ite ?_ ?_)

theorem State.toHostCard_does {M : Nat} {s0 s : State} {x1} {x2} {x3} (hM : Sub 0x1000007c00000000104000000000000200180062 M) (h : Does M s0 s) :
    Does M s0 (State.toHostCard s x1 x2 x3) := by
  unfold State.toHostCard
  repeat' (first
    | with_reducible assumption
    | (extract_lets +onlyGivenNames x; refine Does.cut x.2 ?_ ?_; rotate_left; (intro hx; clear_value x; revert x; intro _ _); rotate_left; (unfold x; clear x))
    | with_reducible refine State.loseCards_does (Sub.trans (by decide) hM) ?_
    | with_reducible refine State.newFrm_does rfl (Sub.trans (by decide) hM) ?_
    | with_reducible refine State.toAdmit_does (Sub.trans (by decide) hM) ?_
    | with_reducible refine Does.ite ?_ ?_)

theorem State.postcards_does {M : Nat} {s0 s : State} {x1} {x2} {x3} {x4} {x5} {x6} (hM : Sub 0x1000007c00000000104000000000000280180062 M) (h : Does M s0 s) :
    Does M s0 (State.postcards s x1 x2 x3 x4 x5 x6) := by
  unfold State.postcards
  repeat' (first
    | with_reducible assumption
    | (intro _ _ _)
    | (extract_lets +onlyGivenNames x; refine Does.cut x ?_ ?_; rotate_left; (intro hx; clear_value x; revert x; intro _ _); rotate_left; (unfold x; clear x))
    | (extract_lets +onlyGivenNames x; revert x; intro _)
    | with_reducible refine State.loseCards_does (Sub.trans (by decide) hM) ?_
    | with_reducible refine State.setTel_does (Sub.trans (by decide) hM) ?_
    | with_reducible refine State.toCollector_does (Sub.trans (by decide) hM) ?_
    | with_reducible refine State.toHostCard_does (Sub.trans (by decide) hM) ?_
    | with_reducible refine Does.fold ?_ ?_
    | with_reducible refine Does.ite ?_ ?_)

theorem State.fold_does {M : Nat} {s0 s : State} {x1} {x2} {x3} {x4} {x5} {x6} {x7} (hM : Sub 0x1000007c000000001044001400000002c0180062 M) (h : Does M s0 s) :
    Does M s0 (State.fold s x1 x2 x3 x4 x5 x6 x7) := by
  unfold State.fold
  repeat' (first
    | with_reducible assumption
    | (extract_lets +onlyGivenNames x; refine Does.cut x ?_ ?_; rotate_left; (intro hx; clear_value x; revert x; intro _ _); rotate_left; (unfold x; clear x))
    | (extract_lets +onlyGivenNames x; revert x; intro _)
    | with_reducible refine State.acctAdd_does (Sub.trans (by decide) hM) ?_
    | with_reducible refine State.cadd_does (Sub.trans (by decide) hM) (Sub.fld (by decide) (Sub.kind (k := .tel) rfl (by decide) hM)) ?_
    | with_reducible refine State.cadd_does (Sub.trans (by decide) hM) (Sub.fld (by decide) (Sub.kind (k := .port) rfl (by decide) hM)) ?_
    | with_reducible refine State.pmcEvent_does (Sub.trans (by decide) hM) (Sub.kind (k := .slice) rfl (by decide) hM) ?_
    | with_reducible refine State.pmcEvent_does (Sub.trans (by decide) hM) (Sub.kind (k := .bufMgr) rfl (by decide) hM) ?_
    | with_reducible refine State.postcards_does (Sub.trans (by decide) hM) ?_
    | with_reducible refine State.setTel_does (Sub.trans (by decide) hM) ?_
    | with_reducible refine Does.ite ?_ ?_
    | split)

theorem State.loseCarried_does {M : Nat} {s0 s : State} {x1} {x2} (hM : Sub 0x1000007c00000000104000000000000000000062 M) (h : Does M s0 s) :
    Does M s0 (State.loseCarried s x1 x2) := by
  unfold State.loseCarried
  repeat' (first
    | with_reducible assumption
    | with_reducible refine State.loseCards_does (Sub.trans (by decide) hM) ?_
    | split)

theorem State.dropFrm_does {M : Nat} {s0 s : State} {x1} (hM : Sub 524288 M) (h : Does M s0 s) :
    Does M s0 (State.dropFrm s x1) := by
  unfold State.dropFrm
  repeat' (first
    | with_reducible assumption
    | refine Does.put_frames (Sub.trans (by decide) hM) ?_ (fun c => Sparse.wf_set _ _ _ _ c))

theorem State.release_does {M : Nat} {s0 s : State} {x1} (hM : Sub 524288 M) (h : Does M s0 s) :
    Does M s0 (State.release s x1) := by
  unfold State.release
  repeat' (first
    | with_reducible assumption
    | with_reducible refine State.dropFrm_does (Sub.trans (by decide) hM) ?_
    | with_reducible refine State.setFrm_does (Sub.trans (by decide) hM) ?_
    | with_reducible refine Does.ite ?_ ?_
    | split)

theorem State.dropAt_does {M : Nat} {s0 s : State} {x1} {x2} {x3} {x4} (hM : Sub 0x1000007c000000001044001400000002c0180062 M) (h : Does M s0 s) :
    Does M s0 (State.dropAt s x1 x2 x3 x4) := by
  unfold State.dropAt
  repeat' (first
    | with_reducible assumption
    | with_reducible refine State.fold_does (Sub.trans (by decide) hM) ?_
    | with_reducible refine State.loseCarried_does (Sub.trans (by decide) hM) ?_
    | with_reducible refine State.release_does (Sub.trans (by decide) hM) ?_
    | with_reducible refine State.setFrm_does (Sub.trans (by decide) hM) ?_
    | with_reducible refine Does.ite ?_ ?_
    | split)

theorem State.dropEarly_does {M : Nat} {s0 s : State} {x1} {x2} (hM : Sub 0x1000007c000000001044001400000002c0180062 M) (h : Does M s0 s) :
    Does M s0 (State.dropEarly s x1 x2) := by
  unfold State.dropEarly
  repeat' (first
    | with_reducible assumption
    | with_reducible refine State.dropAt_does (Sub.trans (by decide) hM) ?_
    | split)

theorem State.dropLate_does {M : Nat} {s0 s : State} {x1} (hM : Sub 0x1000007c000000001044001400000002c0180062 M) (h : Does M s0 s) :
    Does M s0 (State.dropLate s x1) := by
  unfold State.dropLate
  repeat' (first
    | with_reducible assumption
    | (intro _ _ _)
    | with_reducible refine State.dropAt_does (Sub.trans (by decide) hM) ?_
    | with_reducible refine State.setFrm_does (Sub.trans (by decide) hM) ?_
    | with_reducible refine Does.fold ?_ ?_
    | split)

theorem State.setCs_does {M : Nat} {s0 s : State} {x1} {x2} (hM : Sub 274877906944 M) (h : Does M s0 s) :
    Does M s0 (State.setCs s x1 x2) := by
  unfold State.setCs
  repeat' (first
    | with_reducible assumption
    | refine Does.put_css (Sub.trans (by decide) hM) ?_ (fun c => Sparse.wf_set _ _ _ _ c))

theorem State.updFrm_does {M : Nat} {s0 s : State} {x1} {x2} (hM : Sub 524288 M) (h : Does M s0 s) :
    Does M s0 (State.updFrm s x1 x2) := by
  unfold State.updFrm
  repeat' (first
    | with_reducible assumption
    | with_reducible refine State.setFrm_does (Sub.trans (by decide) hM) ?_
    | split)

end Sys2Proof.Machine
end

