-- ==== Sys2Proof/Laws/Tables.lean ====
section
/-!
SUPPORT. What each operation of Machine/Tables.lean can change, and that it takes nothing back.
-/
namespace Sys2Proof.Machine

theorem State.setTab_does {M : Nat} {s0 s : State} {x1} {x2} (hM : Sub 32768 M) (h : Does M s0 s) :
    Does M s0 (State.setTab s x1 x2) := by
  unfold State.setTab
  repeat' (first
    | with_reducible assumption
    | refine Does.put_tabs (Sub.trans (by decide) hM) ?_ (fun c => Sparse.wf_set _ _ _ _ c))

theorem State.updTab_does {M : Nat} {s0 s : State} {x1} {x2} (hM : Sub 32768 M) (h : Does M s0 s) :
    Does M s0 (State.updTab s x1 x2) := by
  unfold State.updTab
  repeat' (first
    | with_reducible assumption
    | with_reducible refine State.setTab_does (Sub.trans (by decide) hM) ?_)

theorem State.clearBad_does {M : Nat} {s0 s : State} {x1} {x2} {x3} (hM : Sub 32768 M) (h : Does M s0 s) :
    Does M s0 (State.clearBad s x1 x2 x3) := by
  unfold State.clearBad
  repeat' (first
    | with_reducible assumption
    | with_reducible refine State.updTab_does (Sub.trans (by decide) hM) ?_)

theorem State.setHashTable_does {M : Nat} {s0 s : State} {x1} {x2} {x3} (hM : Sub 32768 M) (h : Does M s0 s) :
    Does M s0 (State.setHashTable s x1 x2 x3) := by
  unfold State.setHashTable
  repeat' (first
    | with_reducible assumption
    | with_reducible refine State.updTab_does (Sub.trans (by decide) hM) ?_
    | split)

theorem State.emRewrite_does {M : Nat} {s0 s : State} {x1} {x2} {x3} (hM : Sub 32768 M) (h : Does M s0 s) :
    Does M s0 (State.emRewrite s x1 x2 x3) := by
  unfold State.emRewrite
  repeat' (first
    | with_reducible assumption
    | (extract_lets +onlyGivenNames x; revert x; intro _)
    | with_reducible refine State.clearBad_does (Sub.trans (by decide) hM) ?_
    | with_reducible refine State.setHashTable_does (Sub.trans (by decide) hM) ?_)

theorem State.hashDelete_does {M : Nat} {s0 s : State} {x1} {x2} {x3} {r} (e : State.hashDelete s x1 x2 x3 = r) (hM : Sub 32768 M) (h : Does M s0 s) :
    Does M s0 r.2 := by
  subst e
  unfold State.hashDelete
  repeat' (first
    | with_reducible assumption
    | (intro _ _ _)
    | (extract_lets +onlyGivenNames x; refine Does.cut x ?_ ?_; rotate_left; (intro hx; clear_value x; revert x; intro _ _); rotate_left; (unfold x; clear x))
    | with_reducible refine State.clearBad_does (Sub.trans (by decide) hM) ?_
    | with_reducible refine State.setHashTable_does (Sub.trans (by decide) hM) ?_
    | with_reducible refine Does.fold ?_ ?_
    | split)

theorem State.hashInsert_does {M : Nat} {s0 s : State} {x1} {x2} {x3} {x4} {r} (e : State.hashInsert s x1 x2 x3 x4 = r) (hM : Sub 0x100000000000008040 M) (h : Does M s0 s) :
    Does M s0 r.2 := by
  subst e
  unfold State.hashInsert
  repeat' (first
    | with_reducible assumption
    | (intro _ _ _)
    | (extract_lets +onlyGivenNames x; revert x; intro _)
    | with_reducible refine State.cadd_does (Sub.trans (by decide) hM) (Sub.fld (by decide) (Sub.kind (k := .slice) rfl (by decide) hM)) ?_
    | with_reducible refine State.clearBad_does (Sub.trans (by decide) hM) ?_
    | with_reducible refine State.setHashTable_does (Sub.trans (by decide) hM) ?_
    | with_reducible refine Does.fold ?_ ?_
    | split)

theorem State.parityError_does {M : Nat} {s0 s : State} {x1} {x2} {x3} (hM : Sub 0x7c00000000004000100000000000008062 M) (h : Does M s0 s) :
    Does M s0 (State.parityError s x1 x2 x3) := by
  unfold State.parityError
  repeat' (first
    | with_reducible assumption
    | (extract_lets +onlyGivenNames x; refine Does.cut x ?_ ?_; rotate_left; (intro hx; clear_value x; revert x; intro _ _); rotate_left; (unfold x; clear x))
    | (extract_lets +onlyGivenNames x; revert x; intro _)
    | with_reducible refine State.cadd_does (Sub.trans (by decide) hM) (Sub.fld (by decide) (Sub.kind (k := .slice) rfl (by decide) hM)) ?_
    | with_reducible refine State.raise_does (Sub.trans (by decide) hM) (Sub.kindH (k := .slice) rfl (by decide) hM) ?_
    | with_reducible refine State.setReg_does (Sub.trans (by decide) hM) (Sub.off (by decide) (Sub.kind (k := .slice) rfl (by decide) hM)) ?_
    | with_reducible refine State.updTab_does (Sub.trans (by decide) hM) ?_
    | with_reducible refine Does.ite ?_ ?_)

theorem State.hashRead_does {M : Nat} {s0 s : State} {x1} {x2} {x3} {r} (e : State.hashRead s x1 x2 x3 = r) (hM : Sub 0x7c00000000004000100000000000008062 M) (h : Does M s0 s) :
    Does M s0 r.2 := by
  subst e
  unfold State.hashRead
  repeat' (first
    | with_reducible assumption
    | (intro _ _ _)
    | (extract_lets +onlyGivenNames x; revert x; intro _)
    | with_reducible refine State.parityError_does (Sub.trans (by decide) hM) ?_
    | with_reducible refine Does.fold ?_ ?_)

theorem State.touchMembers_does {M : Nat} {s0 s : State} {x1} {x2} {x3} (hM : Sub 32768 M) (h : Does M s0 s) :
    Does M s0 (State.touchMembers s x1 x2 x3) := by
  unfold State.touchMembers
  repeat' (first
    | with_reducible assumption
    | (extract_lets +onlyGivenNames x; revert x; intro _)
    | with_reducible refine State.updTab_does (Sub.trans (by decide) hM) ?_)

theorem State.tableWrite_does {M : Nat} {s0 s : State} {x1} {x2} {x3} {x4} (hM : Sub 32768 M) (h : Does M s0 s) :
    Does M s0 (State.tableWrite s x1 x2 x3 x4) := by
  unfold State.tableWrite
  repeat' (first
    | with_reducible assumption
    | (extract_lets +onlyGivenNames x; refine Does.cut x ?_ ?_; rotate_left; (intro hx; clear_value x; revert x; intro _ _); rotate_left; (unfold x; clear x))
    | with_reducible refine State.clearBad_does (Sub.trans (by decide) hM) ?_
    | with_reducible refine State.touchMembers_does (Sub.trans (by decide) hM) ?_
    | with_reducible refine State.updTab_does (Sub.trans (by decide) hM) ?_
    | split)

theorem State.idxCmd_does {M : Nat} {s0 s : State} {x1} {x2} {x3} (hM : Sub 0x100000000000008020 M) (h : Does M s0 s) :
    Does M s0 (State.idxCmd s x1 x2 x3) := by
  unfold State.idxCmd
  repeat' (first
    | with_reducible assumption
    | (extract_lets +onlyGivenNames x; refine Does.cut x ?_ ?_; rotate_left; (intro hx; clear_value x; revert x; intro _ _); rotate_left; (unfold x; clear x))
    | (extract_lets +onlyGivenNames x; revert x; intro _)
    | with_reducible refine State.bset_does (Sub.trans (by decide) hM) (Sub.fld (by decide) (Sub.kind (k := .slice) rfl (by decide) hM)) ?_
    | with_reducible refine State.putRw_does (Sub.trans (by decide) hM) (Sub.off (by decide) (Sub.kind (k := .slice) rfl (by decide) hM)) ?_
    | with_reducible refine State.setWords_does (Sub.trans (by decide) hM) (Sub.fld (by decide) (Sub.kind (k := .slice) rfl (by decide) hM)) ?_
    | with_reducible refine State.tableWrite_does (Sub.trans (by decide) hM) ?_
    | with_reducible refine Does.ite ?_ ?_)

theorem State.lockWrite_does {M : Nat} {s0 s : State} {x1} {x2} (hM : Sub 0x100000000000000020 M) (h : Does M s0 s) :
    Does M s0 (State.lockWrite s x1 x2) := by
  unfold State.lockWrite
  repeat' (first
    | with_reducible assumption
    | (extract_lets +onlyGivenNames x; refine Does.cut x ?_ ?_; rotate_left; (intro hx; clear_value x; revert x; intro _ _); rotate_left; (unfold x; clear x))
    | (extract_lets +onlyGivenNames x; revert x; intro _)
    | with_reducible refine State.fset_does (Sub.trans (by decide) hM) (Sub.fld (by decide) (Sub.kind (k := .slice) rfl (by decide) hM)) ?_
    | with_reducible refine State.putRw_does (Sub.trans (by decide) hM) (Sub.off (by decide) (Sub.kind (k := .slice) rfl (by decide) hM)) ?_)

theorem State.setLpm_does {M : Nat} {s0 s : State} {x1} {x2} {x3} (hM : Sub 32768 M) (h : Does M s0 s) :
    Does M s0 (State.setLpm s x1 x2 x3) := by
  unfold State.setLpm
  repeat' (first
    | with_reducible assumption
    | with_reducible refine State.updTab_does (Sub.trans (by decide) hM) ?_)

theorem State.lpmDelete_does {M : Nat} {s0 s : State} {x1} {x2} {x3} {x4} {r} (e : State.lpmDelete s x1 x2 x3 x4 = r) (hM : Sub 32768 M) (h : Does M s0 s) :
    Does M s0 r.2 := by
  subst e
  unfold State.lpmDelete
  repeat' (first
    | with_reducible assumption
    | (extract_lets +onlyGivenNames x; revert x; intro _)
    | with_reducible refine State.clearBad_does (Sub.trans (by decide) hM) ?_
    | with_reducible refine State.setLpm_does (Sub.trans (by decide) hM) ?_)

theorem State.lpmInsert_does {M : Nat} {s0 s : State} {x1} {x2} {x3} {x4} {x5} {r} (e : State.lpmInsert s x1 x2 x3 x4 x5 = r) (hM : Sub 32768 M) (h : Does M s0 s) :
    Does M s0 r.2 := by
  subst e
  unfold State.lpmInsert
  repeat' (first
    | with_reducible assumption
    | (extract_lets +onlyGivenNames x; revert x; intro _)
    | with_reducible refine State.clearBad_does (Sub.trans (by decide) hM) ?_
    | with_reducible refine State.setLpm_does (Sub.trans (by decide) hM) ?_
    | split)

theorem State.lpmRead_does {M : Nat} {s0 s : State} {x1} {x2} {x3} {r} (e : State.lpmRead s x1 x2 x3 = r) (hM : Sub 0x7c00000000004000100000000000008062 M) (h : Does M s0 s) :
    Does M s0 r.2 := by
  subst e
  unfold State.lpmRead
  repeat' (first
    | with_reducible assumption
    | (intro _ _ _)
    | with_reducible refine State.parityError_does (Sub.trans (by decide) hM) ?_
    | with_reducible refine Does.fold ?_ ?_
    | split)

theorem State.markBad_does {M : Nat} {s0 s : State} {x1} {x2} (hM : Sub 32768 M) (h : Does M s0 s) :
    Does M s0 (State.markBad s x1 x2) := by
  unfold State.markBad
  repeat' (first
    | with_reducible assumption
    | with_reducible refine State.updTab_does (Sub.trans (by decide) hM) ?_)

theorem State.repair_does {M : Nat} {s0 s : State} {x1} {x2} {x3} (hM : Sub 0x100000000000008040 M) (h : Does M s0 s) :
    Does M s0 (State.repair s x1 x2 x3) := by
  unfold State.repair
  repeat' (first
    | with_reducible assumption
    | (extract_lets +onlyGivenNames x; refine Does.cut x ?_ ?_; rotate_left; (intro hx; clear_value x; revert x; intro _ _); rotate_left; (unfold x; clear x))
    | (extract_lets +onlyGivenNames x; revert x; intro _)
    | with_reducible refine State.cadd_does (Sub.trans (by decide) hM) (Sub.fld (by decide) (Sub.kind (k := .slice) rfl (by decide) hM)) ?_
    | with_reducible refine State.clearBad_does (Sub.trans (by decide) hM) ?_
    | with_reducible refine State.setTab_does (Sub.trans (by decide) hM) ?_
    | with_reducible refine State.updTab_does (Sub.trans (by decide) hM) ?_
    | (clear_value *; split))

theorem execParityRepair_does {M : Nat} {s0 s : State} {x0} {t : State} (e : execParityRepair x0 s = .next t) (hM : Sub 0x100000000000008040 M) (h : Does M s0 s) :
    Does M s0 t := by
  revert e
  unfold execParityRepair State.ifOperates
  repeat' (first
    | with_reducible assumption
    | (intro e; with_reducible injection e with e; subst e)
    | with_reducible refine State.repair_does (Sub.trans (by decide) hM) ?_
    | with_reducible refine Does.ite ?_ ?_
    | split)

theorem execTableLockGrant_does {M : Nat} {s0 s : State} {x0} {x1} {t : State} (e : execTableLockGrant x0 x1 s = .next t) (hM : Sub 0x100000000000000020 M) (h : Does M s0 s) :
    Does M s0 t := by
  revert e
  unfold execTableLockGrant State.ifOperates
  repeat' (first
    | with_reducible assumption
    | (intro e; with_reducible injection e with e; subst e)
    | with_reducible refine State.fset_does (Sub.trans (by decide) hM) (Sub.fld (by decide) (Sub.kind (k := .slice) rfl (by decide) hM)) ?_
    | with_reducible refine Does.ite ?_ ?_)

theorem execTableLockRelease_does {M : Nat} {s0 s : State} {x0} {x1} {x2} {t : State} (e : execTableLockRelease x0 x1 x2 s = .next t) (hM : Sub 0x40007c00000000004000100000000001000022 M) (h : Does M s0 s) :
    Does M s0 t := by
  revert e
  unfold execTableLockRelease
  repeat' (first
    | with_reducible assumption
    | (intro _ _ _ _)
    | (intro e; with_reducible injection e with e; subst e)
    | with_reducible refine State.accessKind_does (Sub.trans (by decide) hM) ?_ ?_
    | with_reducible refine State.lockWrite_does (Sub.trans (by decide) hM) ?_)

theorem execTableLockRequest_does {M : Nat} {s0 s : State} {x0} {x1} {x2} {t : State} (e : execTableLockRequest x0 x1 x2 s = .next t) (hM : Sub 0x40007c00000000004000100000000001000022 M) (h : Does M s0 s) :
    Does M s0 t := by
  revert e
  unfold execTableLockRequest
  repeat' (first
    | with_reducible assumption
    | (intro _ _ _ _)
    | (intro e; with_reducible injection e with e; subst e)
    | with_reducible refine State.accessKind_does (Sub.trans (by decide) hM) ?_ ?_
    | with_reducible refine State.lockWrite_does (Sub.trans (by decide) hM) ?_)

theorem execTableLockTimeout_does {M : Nat} {s0 s : State} {x0} {x1} {t : State} (e : execTableLockTimeout x0 x1 s = .next t) (hM : Sub 0x7c00000000004000100000000000000022 M) (h : Does M s0 s) :
    Does M s0 t := by
  revert e
  unfold execTableLockTimeout State.ifOperates
  repeat' (first
    | with_reducible assumption
    | (intro e; with_reducible injection e with e; subst e)
    | (extract_lets +onlyGivenNames x; revert x; intro _)
    | with_reducible refine State.fset_does (Sub.trans (by decide) hM) (Sub.fldB (Sub.kind (k := .slice) rfl (by decide) hM) (Sub.kindH (k := .slice) rfl (by decide) hM)) ?_
    | with_reducible refine State.raise_does (Sub.trans (by decide) hM) (Sub.kindH (k := .slice) rfl (by decide) hM) ?_
    | with_reducible refine Does.ite ?_ ?_)

theorem execTblIdxRead_does {M : Nat} {s0 s : State} {x0} {x1} {x2} {t : State} (e : execTblIdxRead x0 x1 x2 s = .next t) (hM : Sub 0x40007c00000000004000100000000001008022 M) (h : Does M s0 s) :
    Does M s0 t := by
  revert e
  unfold execTblIdxRead
  repeat' (first
    | with_reducible assumption
    | (intro _ _ _ _)
    | (intro e; with_reducible injection e with e; subst e)
    | with_reducible refine State.accessKind_does (Sub.trans (by decide) hM) ?_ ?_
    | with_reducible refine State.idxCmd_does (Sub.trans (by decide) hM) ?_)

theorem execTblIdxWrite_does {M : Nat} {s0 s : State} {x0} {x1} {x2} {t : State} (e : execTblIdxWrite x0 x1 x2 s = .next t) (hM : Sub 0x40007c00000000004000100000000001008022 M) (h : Does M s0 s) :
    Does M s0 t := by
  revert e
  unfold execTblIdxWrite
  repeat' (first
    | with_reducible assumption
    | (intro _ _ _ _)
    | (intro e; with_reducible injection e with e; subst e)
    | with_reducible refine State.accessKind_does (Sub.trans (by decide) hM) ?_ ?_
    | with_reducible refine State.idxCmd_does (Sub.trans (by decide) hM) ?_)

end Sys2Proof.Machine
end

