-- ==== Sys2Proof/Laws/Tcam.lean ====
section
/-!
SUPPORT. What each operation of Machine/Tcam.lean can change, and that it takes nothing back.
-/
namespace Sys2Proof.Machine

theorem State.blockCfgWrite_does {M : Nat} {s0 s : State} {x1} {x2} {x3} (hM : Sub 0x7c00000000004000100000000000000022 M) (h : Does M s0 s) :
    Does M s0 (State.blockCfgWrite s x1 x2 x3) := by
  unfold State.blockCfgWrite
  repeat' (first
    | with_reducible assumption
    | (extract_lets +onlyGivenNames x; refine Does.cut x ?_ ?_; rotate_left; (intro hx; clear_value x; revert x; intro _ _); rotate_left; (unfold x; clear x))
    | (extract_lets +onlyGivenNames x; revert x; intro _)
    | with_reducible refine State.errCount_does (Sub.trans (by decide) hM) (Sub.kindH (k := .slice) rfl (by decide) hM) ?_
    | with_reducible refine State.fset_does (Sub.trans (by decide) hM) (Sub.fld (by decide) (Sub.kind (k := .slice) rfl (by decide) hM)) ?_
    | with_reducible refine State.putRw_does (Sub.trans (by decide) hM) (Sub.offB (Sub.kind (k := .slice) rfl (by decide) hM) (Sub.kindH (k := .slice) rfl (by decide) hM)) ?_
    | with_reducible refine Does.ite ?_ ?_)

theorem State.setTcamRow_does {M : Nat} {s0 s : State} {x1} {x2} {x3} (hM : Sub 32768 M) (h : Does M s0 s) :
    Does M s0 (State.setTcamRow s x1 x2 x3) := by
  unfold State.setTcamRow
  repeat' (first
    | with_reducible assumption
    | with_reducible refine State.updTab_does (Sub.trans (by decide) hM) ?_)

theorem State.copyLost_does {M : Nat} {s0 s : State} {x1} {x2} (hM : Sub 0x7c00000000004000100000000000008066 M) (h : Does M s0 s) :
    Does M s0 (State.copyLost s x1 x2) := by
  unfold State.copyLost
  repeat' (first
    | with_reducible assumption
    | (extract_lets +onlyGivenNames x; refine Does.cut x ?_ ?_; rotate_left; (intro hx; clear_value x; revert x; intro _ _); rotate_left; (unfold x; clear x))
    | (extract_lets +onlyGivenNames x; revert x; intro _)
    | with_reducible refine State.cadd_does (Sub.trans (by decide) hM) (Sub.fld (by decide) (Sub.kind (k := .slice) rfl (by decide) hM)) ?_
    | with_reducible refine State.draw_does rfl (Sub.trans (by decide) hM) ?_
    | with_reducible refine State.raise_does (Sub.trans (by decide) hM) (Sub.kindH (k := .slice) rfl (by decide) hM) ?_
    | with_reducible refine State.setReg_does (Sub.trans (by decide) hM) (Sub.off (by decide) (Sub.kind (k := .slice) rfl (by decide) hM)) ?_
    | with_reducible refine State.setTcamRow_does (Sub.trans (by decide) hM) ?_)

theorem State.falseHit_does {M : Nat} {s0 s : State} {x1} {x2} (hM : Sub 0x100000000000000060 M) (h : Does M s0 s) :
    Does M s0 (State.falseHit s x1 x2) := by
  unfold State.falseHit
  repeat' (first
    | with_reducible assumption
    | (extract_lets +onlyGivenNames x; revert x; intro _)
    | with_reducible refine State.cadd_does (Sub.trans (by decide) hM) (Sub.fld (by decide) (Sub.kind (k := .slice) rfl (by decide) hM)) ?_
    | with_reducible refine State.setReg_does (Sub.trans (by decide) hM) (Sub.off (by decide) (Sub.kind (k := .slice) rfl (by decide) hM)) ?_)

theorem State.tcamRewrite_does {M : Nat} {s0 s : State} {x1} {x2} (hM : Sub 32768 M) (h : Does M s0 s) :
    Does M s0 (State.tcamRewrite s x1 x2) := by
  unfold State.tcamRewrite
  repeat' (first
    | with_reducible assumption
    | with_reducible refine State.updTab_does (Sub.trans (by decide) hM) ?_)

theorem State.checkWinner_does {M : Nat} {s0 s : State} {x1} {x2} {x3} {x4} {r} (e : State.checkWinner s x1 x2 x3 x4 = r) (hM : Sub 0x7c00000000004000100000000000008066 M) (h : Does M s0 s) :
    Does M s0 r.2 := by
  induction x3 generalizing s r x1 x2 x4 with
  | zero =>
    subst e; unfold State.checkWinner
    repeat' (first
      | with_reducible assumption)
  | succ _ ih =>
    subst e; unfold State.checkWinner
    repeat' (first
      | with_reducible assumption
      | (extract_lets +onlyGivenNames x; revert x; intro _)
      | with_reducible refine ih rfl ?_
      | (intro _ _ _)
      | with_reducible refine State.cadd_does (Sub.trans (by decide) hM) (Sub.fld (by decide) (Sub.kind (k := .slice) rfl (by decide) hM)) ?_
      | with_reducible refine State.copyLost_does (Sub.trans (by decide) hM) ?_
      | with_reducible refine State.falseHit_does (Sub.trans (by decide) hM) ?_
      | with_reducible refine State.tcamRewrite_does (Sub.trans (by decide) hM) ?_
      | with_reducible refine Does.fold ?_ ?_
      | with_reducible refine Does.ite ?_ ?_
      | split)

theorem State.tcamFlips_does {M : Nat} {s0 s : State} {x1} {x2} (hM : Sub 32768 M) (h : Does M s0 s) :
    Does M s0 (State.tcamFlips s x1 x2) := by
  unfold State.tcamFlips
  repeat' (first
    | with_reducible assumption
    | with_reducible refine State.updTab_does (Sub.trans (by decide) hM) ?_)

theorem State.guardSearch_does {M : Nat} {s0 s : State} {x1} {x2} {x3} {r} (e : State.guardSearch s x1 x2 x3 = r) (hM : Sub 0x7c00000000004000100000000000008066 M) (h : Does M s0 s) :
    Does M s0 r.2 := by
  subst e
  unfold State.guardSearch
  repeat' (first
    | with_reducible assumption
    | (extract_lets +onlyGivenNames x; refine Does.cut x ?_ ?_; rotate_left; (intro hx; clear_value x; revert x; intro _ _); rotate_left; (unfold x; clear x))
    | (extract_lets +onlyGivenNames x; revert x; intro _)
    | with_reducible refine State.checkWinner_does rfl (Sub.trans (by decide) hM) ?_
    | with_reducible refine State.tcamFlips_does (Sub.trans (by decide) hM) ?_)

theorem State.rowLast_does {M : Nat} {s0 s : State} {x1} {x2} (hM : Sub 0x7c00000000004000100000000000000022 M) (h : Does M s0 s) :
    Does M s0 (State.rowLast s x1 x2) := by
  unfold State.rowLast
  repeat' (first
    | with_reducible assumption
    | (extract_lets +onlyGivenNames x; refine Does.cut x ?_ ?_; rotate_left; (intro hx; clear_value x; revert x; intro _ _); rotate_left; (unfold x; clear x))
    | (extract_lets +onlyGivenNames x; revert x; intro _)
    | with_reducible refine State.bset_does (Sub.trans (by decide) hM) (Sub.fld (by decide) (Sub.kind (k := .slice) rfl (by decide) hM)) ?_
    | with_reducible refine State.errCount_does (Sub.trans (by decide) hM) (Sub.kindH (k := .slice) rfl (by decide) hM) ?_
    | with_reducible refine State.fset_does (Sub.trans (by decide) hM) (Sub.fld (by decide) (Sub.kind (k := .slice) rfl (by decide) hM)) ?_
    | with_reducible refine Does.ite ?_ ?_)

theorem State.rowRead_does {M : Nat} {s0 s : State} {x1} {x2} (hM : Sub 0x7c00000000004000100000000000000022 M) (h : Does M s0 s) :
    Does M s0 (State.rowRead s x1 x2) := by
  unfold State.rowRead
  repeat' (first
    | with_reducible assumption
    | (extract_lets +onlyGivenNames x; refine Does.cut x ?_ ?_; rotate_left; (intro hx; clear_value x; revert x; intro _ _); rotate_left; (unfold x; clear x))
    | (extract_lets +onlyGivenNames x; revert x; intro _)
    | with_reducible refine State.bset_does (Sub.trans (by decide) hM) (Sub.fld (by decide) (Sub.kind (k := .slice) rfl (by decide) hM)) ?_
    | with_reducible refine State.putRw_does (Sub.trans (by decide) hM) (Sub.off (by decide) (Sub.kind (k := .slice) rfl (by decide) hM)) ?_
    | with_reducible refine State.rowLast_does (Sub.trans (by decide) hM) ?_
    | with_reducible refine State.setReg_does (Sub.trans (by decide) hM) (Sub.off (by decide) (Sub.kind (k := .slice) rfl (by decide) hM)) ?_
    | with_reducible refine State.setWords_does (Sub.trans (by decide) hM) (Sub.fld (by decide) (Sub.kind (k := .slice) rfl (by decide) hM)) ?_)

theorem State.rowValid_does {M : Nat} {s0 s : State} {x1} {x2} {x3} (hM : Sub 0x7c00000000004000100000000000008022 M) (h : Does M s0 s) :
    Does M s0 (State.rowValid s x1 x2 x3) := by
  unfold State.rowValid
  repeat' (first
    | with_reducible assumption
    | (extract_lets +onlyGivenNames x; refine Does.cut x ?_ ?_; rotate_left; (intro hx; clear_value x; revert x; intro _ _); rotate_left; (unfold x; clear x))
    | (extract_lets +onlyGivenNames x; revert x; intro _)
    | with_reducible refine State.putRw_does (Sub.trans (by decide) hM) (Sub.off (by decide) (Sub.kind (k := .slice) rfl (by decide) hM)) ?_
    | with_reducible refine State.rowLast_does (Sub.trans (by decide) hM) ?_
    | with_reducible refine State.setTcamRow_does (Sub.trans (by decide) hM) ?_
    | with_reducible refine Does.ite ?_ ?_)

theorem State.rowWrite_does {M : Nat} {s0 s : State} {x1} {x2} (hM : Sub 0x7c00000000004000100000000000008022 M) (h : Does M s0 s) :
    Does M s0 (State.rowWrite s x1 x2) := by
  unfold State.rowWrite
  repeat' (first
    | with_reducible assumption
    | (extract_lets +onlyGivenNames x; refine Does.cut x ?_ ?_; rotate_left; (intro hx; clear_value x; revert x; intro _ _); rotate_left; (unfold x; clear x))
    | (extract_lets +onlyGivenNames x; revert x; intro _)
    | with_reducible refine State.putRw_does (Sub.trans (by decide) hM) (Sub.off (by decide) (Sub.kind (k := .slice) rfl (by decide) hM)) ?_
    | with_reducible refine State.rowLast_does (Sub.trans (by decide) hM) ?_
    | with_reducible refine State.setTcamRow_does (Sub.trans (by decide) hM) ?_
    | with_reducible refine State.tcamRewrite_does (Sub.trans (by decide) hM) ?_
    | with_reducible refine Does.ite ?_ ?_)

theorem State.tcamSearch_does {M : Nat} {s0 s : State} {x1} {x2} {x3} {x4} {r} (e : State.tcamSearch s x1 x2 x3 x4 = r) (hM : Sub 0x7c00000000004000100000000000008066 M) (h : Does M s0 s) :
    Does M s0 r.2 := by
  subst e
  unfold State.tcamSearch
  repeat' (first
    | with_reducible assumption
    | (extract_lets +onlyGivenNames x; refine Does.cut x ?_ ?_; rotate_left; (intro hx; clear_value x; revert x; intro _ _); rotate_left; (unfold x; clear x))
    | (extract_lets +onlyGivenNames x; revert x; intro _)
    | with_reducible refine State.checkWinner_does rfl (Sub.trans (by decide) hM) ?_
    | with_reducible refine State.tcamFlips_does (Sub.trans (by decide) hM) ?_)

theorem execTcamBlockCfgWrite_does {M : Nat} {s0 s : State} {x0} {x1} {x2} {x3} {t : State} (e : execTcamBlockCfgWrite x0 x1 x2 x3 s = .next t) (hM : Sub 0x40007c00000000004000100000000001000022 M) (h : Does M s0 s) :
    Does M s0 t := by
  revert e
  unfold execTcamBlockCfgWrite
  repeat' (first
    | with_reducible assumption
    | (intro _ _ _ _)
    | (intro e; with_reducible injection e with e; subst e)
    | with_reducible refine State.accessKind_does (Sub.trans (by decide) hM) ?_ ?_
    | with_reducible refine State.blockCfgWrite_does (Sub.trans (by decide) hM) ?_)

theorem execTcamInvalidate_does {M : Nat} {s0 s : State} {x0} {x1} {x2} {t : State} (e : execTcamInvalidate x0 x1 x2 s = .next t) (hM : Sub 0x40007c00000000004000100000000001008022 M) (h : Does M s0 s) :
    Does M s0 t := by
  revert e
  unfold execTcamInvalidate
  repeat' (first
    | with_reducible assumption
    | (intro _ _ _ _)
    | (intro e; with_reducible injection e with e; subst e)
    | with_reducible refine State.accessKind_does (Sub.trans (by decide) hM) ?_ ?_
    | with_reducible refine State.rowValid_does (Sub.trans (by decide) hM) ?_)

theorem execTcamRead_does {M : Nat} {s0 s : State} {x0} {x1} {x2} {t : State} (e : execTcamRead x0 x1 x2 s = .next t) (hM : Sub 0x40007c00000000004000100000000001000022 M) (h : Does M s0 s) :
    Does M s0 t := by
  revert e
  unfold execTcamRead
  repeat' (first
    | with_reducible assumption
    | (intro _ _ _ _)
    | (intro e; with_reducible injection e with e; subst e)
    | with_reducible refine State.accessKind_does (Sub.trans (by decide) hM) ?_ ?_
    | with_reducible refine State.rowRead_does (Sub.trans (by decide) hM) ?_)

theorem execTcamRowOpDone_does {M : Nat} {s0 s : State} {x0} {t : State} (e : execTcamRowOpDone x0 s = .next t) (hM : Sub 0x100000000000000020 M) (h : Does M s0 s) :
    Does M s0 t := by
  revert e
  unfold execTcamRowOpDone State.ifOperates
  repeat' (first
    | with_reducible assumption
    | (intro e; with_reducible injection e with e; subst e)
    | with_reducible refine State.bset_does (Sub.trans (by decide) hM) (Sub.fld (by decide) (Sub.kind (k := .slice) rfl (by decide) hM)) ?_
    | with_reducible refine Does.ite ?_ ?_)

theorem execTcamScrub_does {M : Nat} {s0 s : State} {x0} {x1} {t : State} (e : execTcamScrub x0 x1 s = .next t) (hM : Sub 0x100000000000008040 M) (h : Does M s0 s) :
    Does M s0 t := by
  revert e
  unfold execTcamScrub
  repeat' (first
    | with_reducible assumption
    | (intro e; with_reducible injection e with e; subst e)
    | with_reducible refine State.cadd_does (Sub.trans (by decide) hM) (Sub.fld (by decide) (Sub.kind (k := .slice) rfl (by decide) hM)) ?_
    | with_reducible refine State.tcamFlips_does (Sub.trans (by decide) hM) ?_
    | with_reducible refine State.updTab_does (Sub.trans (by decide) hM) ?_)

theorem execTcamValidate_does {M : Nat} {s0 s : State} {x0} {x1} {x2} {t : State} (e : execTcamValidate x0 x1 x2 s = .next t) (hM : Sub 0x40007c00000000004000100000000001008022 M) (h : Does M s0 s) :
    Does M s0 t := by
  revert e
  unfold execTcamValidate
  repeat' (first
    | with_reducible assumption
    | (intro _ _ _ _)
    | (intro e; with_reducible injection e with e; subst e)
    | with_reducible refine State.accessKind_does (Sub.trans (by decide) hM) ?_ ?_
    | with_reducible refine State.rowValid_does (Sub.trans (by decide) hM) ?_)

theorem execTcamWrite_does {M : Nat} {s0 s : State} {x0} {x1} {x2} {t : State} (e : execTcamWrite x0 x1 x2 s = .next t) (hM : Sub 0x40007c00000000004000100000000001008022 M) (h : Does M s0 s) :
    Does M s0 t := by
  revert e
  unfold execTcamWrite
  repeat' (first
    | with_reducible assumption
    | (intro _ _ _ _)
    | (intro e; with_reducible injection e with e; subst e)
    | with_reducible refine State.accessKind_does (Sub.trans (by decide) hM) ?_ ?_
    | with_reducible refine State.rowWrite_does (Sub.trans (by decide) hM) ?_)

end Sys2Proof.Machine
end

