-- ==== Sys2Proof/Laws/Stages.lean ====
section
/-!
SUPPORT. What each operation of Machine/Stages.lean can change, and that it takes nothing back.
-/
namespace Sys2Proof.Machine

theorem State.countFlow_does {M : Nat} {s0 s : State} {x1} {x2} {x3} (hM : Sub 0x7c00000000004000100000000000008062 M) (h : Does M s0 s) :
    Does M s0 (State.countFlow s x1 x2 x3) := by
  unfold State.countFlow
  repeat' (first
    | with_reducible assumption
    | (extract_lets +onlyGivenNames x; refine Does.cut x ?_ ?_; rotate_left; (intro hx; clear_value x; revert x; intro _ _); rotate_left; (unfold x; clear x))
    | (extract_lets +onlyGivenNames x; revert x; intro _)
    | with_reducible refine State.clearBad_does (Sub.trans (by decide) hM) ?_
    | with_reducible refine State.parityError_does (Sub.trans (by decide) hM) ?_
    | with_reducible refine State.updTab_does (Sub.trans (by decide) hM) ?_
    | with_reducible refine Does.ite ?_ ?_)

theorem State.applyWord_does {M : Nat} {s0 s : State} {x1} {x2} {x3} {x4} {x5} {r} (e : State.applyWord s x1 x2 x3 x4 x5 = r) (hM : Sub 0x7c00000000004000100000000000008062 M) (h : Does M s0 s) :
    Does M s0 r.2 := by
  subst e
  unfold State.applyWord
  repeat' (first
    | with_reducible assumption
    | (extract_lets +onlyGivenNames x; revert x; intro _)
    | with_reducible refine State.cadd_does (Sub.trans (by decide) hM) (Sub.fld (by decide) (Sub.kind (k := .slice) rfl (by decide) hM)) ?_
    | with_reducible refine State.countFlow_does (Sub.trans (by decide) hM) ?_
    | with_reducible refine Does.ite ?_ ?_
    | split)

theorem State.countRead_does {M : Nat} {s0 s : State} {x1} {x2} (hM : Sub 0x100000000000000040 M) (h : Does M s0 s) :
    Does M s0 (State.countRead s x1 x2) := by
  unfold State.countRead
  repeat' (first
    | with_reducible assumption
    | with_reducible refine State.pmcEvent_does (Sub.trans (by decide) hM) (Sub.kind (k := .slice) rfl (by decide) hM) ?_)

theorem State.parityDrop_does {M : Nat} {s0 s : State} {x1} {x2} {r} (e : State.parityDrop s x1 x2 = r) (hM : Sub 0x7c00000000004000000000000000000022 M) (h : Does M s0 s) :
    Does M s0 r.2 := by
  subst e
  unfold State.parityDrop
  repeat' (first
    | with_reducible assumption
    | with_reducible refine State.raise_does (Sub.trans (by decide) hM) (Sub.kindH (k := .slice) rfl (by decide) hM) ?_)

theorem State.applyIndex_does {M : Nat} {s0 s : State} {x1} {x2} {x3} {x4} {x5} {x6} {r} (e : State.applyIndex s x1 x2 x3 x4 x5 x6 = r) (hM : Sub 0x7c00000000004000100000000000008062 M) (h : Does M s0 s) :
    Does M s0 r.2 := by
  subst e
  unfold State.applyIndex
  repeat' (first
    | with_reducible assumption
    | (extract_lets +onlyGivenNames x; refine Does.cut x ?_ ?_; rotate_left; (intro hx; clear_value x; revert x; intro _ _); rotate_left; (unfold x; clear x))
    | (extract_lets +onlyGivenNames x; revert x; intro _)
    | with_reducible refine State.applyWord_does rfl (Sub.trans (by decide) hM) ?_
    | with_reducible refine State.countRead_does (Sub.trans (by decide) hM) ?_
    | with_reducible refine State.parityDrop_does rfl (Sub.trans (by decide) hM) ?_
    | with_reducible refine State.parityError_does (Sub.trans (by decide) hM) ?_
    | split)

theorem State.applyTcam_does {M : Nat} {s0 s : State} {x1} {x2} {x3} {x4} {x5} {r} (e : State.applyTcam s x1 x2 x3 x4 x5 = r) (hM : Sub 0x7c00000000004000100000000000008062 M) (h : Does M s0 s) :
    Does M s0 r.2 := by
  subst e
  unfold State.applyTcam
  repeat' (first
    | with_reducible assumption
    | (extract_lets +onlyGivenNames x; refine Does.cut x ?_ ?_; rotate_left; (intro hx; clear_value x; revert x; intro _ _); rotate_left; (unfold x; clear x))
    | with_reducible refine State.applyWord_does rfl (Sub.trans (by decide) hM) ?_
    | with_reducible refine State.countRead_does (Sub.trans (by decide) hM) ?_
    | with_reducible refine State.parityDrop_does rfl (Sub.trans (by decide) hM) ?_
    | with_reducible refine State.parityError_does (Sub.trans (by decide) hM) ?_
    | split)

theorem State.setLrn_does {M : Nat} {s0 s : State} {x1} {x2} (hM : Sub 8388608 M) (h : Does M s0 s) :
    Does M s0 (State.setLrn s x1 x2) := by
  unfold State.setLrn
  repeat' (first
    | with_reducible assumption
    | refine Does.put_lrns (Sub.trans (by decide) hM) ?_ (fun c => Sparse.wf_set _ _ _ _ c))

theorem State.arbiterTake_does {M : Nat} {s0 s : State} {x1} {x2} (hM : Sub 0x4000007c00000000404000000000000000800062 M) (h : Does M s0 s) :
    Does M s0 (State.arbiterTake s x1 x2) := by
  unfold State.arbiterTake
  repeat' (first
    | with_reducible assumption
    | (extract_lets +onlyGivenNames x; refine Does.cut x ?_ ?_; rotate_left; (intro hx; clear_value x; revert x; intro _ _); rotate_left; (unfold x; clear x))
    | (extract_lets +onlyGivenNames x; revert x; intro _)
    | with_reducible refine State.cadd_does (Sub.trans (by decide) hM) (Sub.fld (by decide) (Sub.kind (k := .lrn) rfl (by decide) hM)) ?_
    | with_reducible refine State.raise_does (Sub.trans (by decide) hM) (Sub.kindH (k := .lrn) rfl (by decide) hM) ?_
    | with_reducible refine State.setLrn_does (Sub.trans (by decide) hM) ?_
    | with_reducible refine Does.ite ?_ ?_)

theorem State.emFrame_does {M : Nat} {s0 s : State} {x1} {x2} {x3} {r} (e : State.emFrame s x1 x2 x3 = r) (hM : Sub 0x7c00000000004000100000000000008062 M) (h : Does M s0 s) :
    Does M s0 r.2 := by
  subst e
  unfold State.emFrame
  repeat' (first
    | with_reducible assumption
    | (extract_lets +onlyGivenNames x; refine Does.cut x ?_ ?_; rotate_left; (intro hx; clear_value x; revert x; intro _ _); rotate_left; (unfold x; clear x))
    | with_reducible refine State.countRead_does (Sub.trans (by decide) hM) ?_
    | with_reducible refine State.hashRead_does rfl (Sub.trans (by decide) hM) ?_
    | with_reducible refine State.updTab_does (Sub.trans (by decide) hM) ?_
    | with_reducible refine Does.of2 (by with_reducible assumption) ?_
    | split)

theorem State.integrity_does {M : Nat} {s0 s : State} {x1} {x2} (hM : Sub 0x7c00000000004000200000000000000062 M) (h : Does M s0 s) :
    Does M s0 (State.integrity s x1 x2) := by
  unfold State.integrity
  refine State.raiseIf_does (Sub.trans (by decide) hM) (Sub.kindH (k := .die) rfl (by decide) hM) ?_
  exact State.cadd_does (Sub.trans (by decide) hM) (Sub.fld (Nat.le_trans (by decide) (Nat.le_add_right _ _)) (Sub.kind (k := .die) rfl (by decide) hM)) h

theorem State.setPort_does {M : Nat} {s0 s : State} {x1} {x2} (hM : Sub 4194304 M) (h : Does M s0 s) :
    Does M s0 (State.setPort s x1 x2) := by
  unfold State.setPort
  repeat' (first
    | with_reducible assumption
    | refine Does.put_ports (Sub.trans (by decide) hM) ?_ (fun c => Sparse.wf_set _ _ _ _ c))

theorem State.learnToken_does {M : Nat} {s0 s : State} {x1} {r} (e : State.learnToken s x1 = r) (hM : Sub 4194304 M) (h : Does M s0 s) :
    Does M s0 r.2 := by
  subst e
  unfold State.learnToken
  repeat' (first
    | with_reducible assumption
    | (extract_lets +onlyGivenNames x; revert x; intro _)
    | with_reducible refine State.setPort_does (Sub.trans (by decide) hM) ?_
    | split)

theorem State.raiseLearn_does {M : Nat} {s0 s : State} {x1} {r} (e : State.raiseLearn s x1 = r) (hM : Sub 0x4000007c00000000404000000000000001c00062 M) (h : Does M s0 s) :
    Does M s0 r.2 := by
  subst e
  unfold State.raiseLearn
  repeat' (first
    | with_reducible assumption
    | (extract_lets +onlyGivenNames x; revert x; intro _)
    | with_reducible refine State.arbiterTake_does (Sub.trans (by decide) hM) ?_
    | with_reducible refine State.learnToken_does rfl (Sub.trans (by decide) hM) ?_
    | with_reducible refine State.sendCtrl_does (Sub.trans (by decide) hM) ?_
    | with_reducible refine Does.ite ?_ ?_
    | with_reducible refine Does.of2 (by with_reducible assumption) ?_
    | split)

theorem State.learnStage_does {M : Nat} {s0 s : State} {x1} {x2} {x3} {r} (e : State.learnStage s x1 x2 x3 = r) (hM : Sub 0x4000007c00000000404000000000000001c00062 M) (h : Does M s0 s) :
    Does M s0 r.2 := by
  subst e
  unfold State.learnStage
  repeat' (first
    | with_reducible assumption
    | (extract_lets +onlyGivenNames x; revert x; intro _)
    | with_reducible refine State.raiseLearn_does rfl (Sub.trans (by decide) hM) ?_
    | with_reducible refine Does.of2 (by with_reducible assumption) ?_
    | split)

theorem State.lpmFrame_does {M : Nat} {s0 s : State} {x1} {x2} {x3} {x4} {r} (e : State.lpmFrame s x1 x2 x3 x4 = r) (hM : Sub 0x7c00000000004000100000000000008062 M) (h : Does M s0 s) :
    Does M s0 r.2 := by
  subst e
  unfold State.lpmFrame
  repeat' (first
    | with_reducible assumption
    | (extract_lets +onlyGivenNames x; refine Does.cut x.2 ?_ ?_; rotate_left; (intro hx; clear_value x; revert x; intro _ _); rotate_left; (unfold x; clear x))
    | with_reducible refine State.countRead_does (Sub.trans (by decide) hM) ?_
    | with_reducible refine State.lpmRead_does rfl (Sub.trans (by decide) hM) ?_)

theorem State.setSlice_does {M : Nat} {s0 s : State} {x1} {x2} (hM : Sub 2097152 M) (h : Does M s0 s) :
    Does M s0 (State.setSlice s x1 x2) := by
  unfold State.setSlice
  repeat' (first
    | with_reducible assumption
    | refine Does.put_slices (Sub.trans (by decide) hM) ?_ (fun c => Sparse.wf_set _ _ _ _ c))

theorem State.meterOne_does {M : Nat} {s0 s : State} {x1} {x2} {x3} {r} (e : State.meterOne s x1 x2 x3 = r) (hM : Sub 0x100000000000200040 M) (h : Does M s0 s) :
    Does M s0 r.2 := by
  subst e
  unfold State.meterOne
  repeat' (first
    | with_reducible assumption
    | (extract_lets +onlyGivenNames x; revert x; intro _)
    | with_reducible refine State.cadd_does (Sub.trans (by decide) hM) (Sub.fld (by decide) (Sub.kind (k := .slice) rfl (by decide) hM)) ?_
    | with_reducible refine State.setSlice_does (Sub.trans (by decide) hM) ?_
    | split)

theorem State.meterAll_does {M : Nat} {s0 s : State} {x1} {x2} {x3} {r} (e : State.meterAll s x1 x2 x3 = r) (hM : Sub 0x100000000000200040 M) (h : Does M s0 s) :
    Does M s0 r.2 := by
  induction x3 generalizing s r x1 x2 with
  | nil =>
    subst e; unfold State.meterAll
    repeat' (first
      | with_reducible assumption)
  | cons _ _ ih =>
    subst e; unfold State.meterAll
    repeat' (first
      | with_reducible assumption
      | with_reducible refine ih rfl ?_
      | with_reducible refine State.meterOne_does rfl (Sub.trans (by decide) hM) ?_
      | with_reducible refine Does.of2 (by with_reducible assumption) ?_
      | split)

theorem State.meterFrm_does {M : Nat} {s0 s : State} {x1} {x2} {r} (e : State.meterFrm s x1 x2 = r) (hM : Sub 0x100000000000200040 M) (h : Does M s0 s) :
    Does M s0 r.2 := by
  subst e
  unfold State.meterFrm
  repeat' (first
    | with_reducible assumption
    | with_reducible refine State.meterAll_does rfl (Sub.trans (by decide) hM) ?_
    | split)

theorem State.searchFor_does {M : Nat} {s0 s : State} {x1} {x2} {x3} {x4} {r} (e : State.searchFor s x1 x2 x3 x4 = r) (hM : Sub 0x7c00000000044000100000000040008066 M) (h : Does M s0 s) :
    Does M s0 r.2.2 := by
  subst e
  unfold State.searchFor
  repeat' (first
    | with_reducible assumption
    | (extract_lets +onlyGivenNames x; refine Does.cut x ?_ ?_; rotate_left; (intro hx; clear_value x; revert x; intro _ _); rotate_left; (unfold x; clear x))
    | (extract_lets +onlyGivenNames x; revert x; intro _)
    | with_reducible refine State.charge_does rfl (Sub.trans (by decide) hM) ?_
    | with_reducible refine State.pmcEvent_does (Sub.trans (by decide) hM) (Sub.kind (k := .slice) rfl (by decide) hM) ?_
    | with_reducible refine State.tcamSearch_does rfl (Sub.trans (by decide) hM) ?_)

theorem State.runStage_does {M : Nat} {s0 s : State} {x1} {x2} {x3} {x4} {x5} {r} (e : State.runStage s x1 x2 x3 x4 x5 = r) (hM : Sub 0x4000007c00000000444000100000000041c08066 M) (h : Does M s0 s) :
    Does M s0 r.2 := by
  subst e
  unfold State.runStage
  repeat' (first
    | with_reducible assumption
    | (intro _ _ _)
    | (extract_lets +onlyGivenNames x; revert x; intro _)
    | with_reducible refine State.applyIndex_does rfl (Sub.trans (by decide) hM) ?_
    | with_reducible refine State.applyTcam_does rfl (Sub.trans (by decide) hM) ?_
    | with_reducible refine State.emFrame_does rfl (Sub.trans (by decide) hM) ?_
    | with_reducible refine State.learnStage_does rfl (Sub.trans (by decide) hM) ?_
    | with_reducible refine State.lpmFrame_does rfl (Sub.trans (by decide) hM) ?_
    | with_reducible refine State.searchFor_does rfl (Sub.trans (by decide) hM) ?_
    | with_reducible refine Does.fold2 rfl ?_ ?_
    | with_reducible refine Does.of2 (by with_reducible assumption) ?_
    | with_reducible refine Does.of3 (by with_reducible assumption) ?_
    | split)

theorem State.runStages_does {M : Nat} {s0 s : State} {x1} {x2} {x3} {x4} {r} (e : State.runStages s x1 x2 x3 x4 = r) (hM : Sub 0x4000007c00000000444000100000000041c08066 M) (h : Does M s0 s) :
    Does M s0 r.2 := by
  subst e
  unfold State.runStages
  repeat' (first
    | with_reducible assumption
    | (intro _ _ _)
    | (extract_lets +onlyGivenNames x; refine Does.cut x.2 ?_ ?_; rotate_left; (intro hx; clear_value x; revert x; intro _ _); rotate_left; (unfold x; clear x))
    | with_reducible refine State.runStage_does rfl (Sub.trans (by decide) hM) ?_
    | with_reducible refine Does.fold2 rfl ?_ ?_)

end Sys2Proof.Machine
end

