-- ==== Sys2Proof/Laws/Mac.lean ====
section
/-!
SUPPORT. What each operation of Machine/Mac.lean can change, and that it takes nothing back.
-/
namespace Sys2Proof.Machine

theorem State.putWire_does {M : Nat} {s0 s : State} {x1} {x2} {x3} (hM : Sub 16390 M) (h : Does M s0 s) :
    Does M s0 (State.putWire s x1 x2 x3) := by
  unfold State.putWire
  repeat' (first
    | with_reducible assumption
    | (intro _ _ _)
    | (extract_lets +onlyGivenNames x; revert x; intro _)
    | with_reducible refine State.draw_does rfl (Sub.trans (by decide) hM) ?_
    | with_reducible refine State.emit_does (Sub.trans (by decide) hM) ?_
    | with_reducible refine Does.fold ?_ ?_
    | split
    | refine Does.put_links (Sub.trans (by decide) hM) ?_ (fun c => Sparse.wf_set _ _ _ _ c))

theorem State.sendNow_does {M : Nat} {s0 s : State} {x1} {x2} (hM : Sub 0x40000000000004046 M) (h : Does M s0 s) :
    Does M s0 (State.sendNow s x1 x2) := by
  unfold State.sendNow
  repeat' (first
    | with_reducible assumption
    | (extract_lets +onlyGivenNames x; refine Does.cut x ?_ ?_; rotate_left; (intro hx; clear_value x; revert x; intro _ _); rotate_left; (unfold x; clear x))
    | (extract_lets +onlyGivenNames x; refine Does.cut x.2 ?_ ?_; rotate_left; (intro hx; clear_value x; revert x; intro _ _); rotate_left; (unfold x; clear x))
    | with_reducible refine State.cadd_does (Sub.trans (by decide) hM) (Sub.fld (by decide) (Sub.kind (k := .port) rfl (by decide) hM)) ?_
    | with_reducible refine State.draw_does rfl (Sub.trans (by decide) hM) ?_
    | with_reducible refine State.emit_does (Sub.trans (by decide) hM) ?_
    | with_reducible refine State.putWire_does (Sub.trans (by decide) hM) ?_
    | split)

theorem State.sendCtl_does {M : Nat} {s0 s : State} {x1} {x2} (hM : Sub 0x40000000000404046 M) (h : Does M s0 s) :
    Does M s0 (State.sendCtl s x1 x2) := by
  unfold State.sendCtl
  repeat' (first
    | with_reducible assumption
    | (extract_lets +onlyGivenNames x; revert x; intro _)
    | with_reducible refine State.sendNow_does (Sub.trans (by decide) hM) ?_
    | with_reducible refine State.setPort_does (Sub.trans (by decide) hM) ?_
    | with_reducible refine Does.ite ?_ ?_)

theorem State.macSend_does {M : Nat} {s0 s : State} {x1} {x2} (hM : Sub 0x40000000000404046 M) (h : Does M s0 s) :
    Does M s0 (State.macSend s x1 x2) := by
  unfold State.macSend
  repeat' (first
    | with_reducible assumption
    | (extract_lets +onlyGivenNames x; revert x; intro _)
    | with_reducible refine State.sendCtl_does (Sub.trans (by decide) hM) ?_)

theorem State.sendPfc_does {M : Nat} {s0 s : State} {x1} {x2} {x3} (hM : Sub 0x40000000000404046 M) (h : Does M s0 s) :
    Does M s0 (State.sendPfc s x1 x2 x3) := by
  unfold State.sendPfc
  repeat' (first
    | with_reducible assumption
    | with_reducible refine State.cadd_does (Sub.trans (by decide) hM) (Sub.fld (by decide) (Sub.kind (k := .port) rfl (by decide) hM)) ?_
    | with_reducible refine State.macSend_does (Sub.trans (by decide) hM) ?_)

theorem State.pfcUpdate_does {M : Nat} {s0 s : State} {x1} (hM : Sub 0x40000000000404066 M) (h : Does M s0 s) :
    Does M s0 (State.pfcUpdate s x1) := by
  unfold State.pfcUpdate
  repeat' (first
    | with_reducible assumption
    | (extract_lets +onlyGivenNames x; refine Does.cut x ?_ ?_; rotate_left; (intro hx; clear_value x; revert x; intro _ _); rotate_left; (unfold x; clear x))
    | (extract_lets +onlyGivenNames x; revert x; intro _)
    | with_reducible refine State.fset_does (Sub.trans (by decide) hM) (Sub.fld (by decide) (Sub.kind (k := .port) rfl (by decide) hM)) ?_
    | with_reducible refine State.sendPfc_does (Sub.trans (by decide) hM) ?_
    | with_reducible refine Does.ite ?_ ?_)

theorem State.entryPfc_does {M : Nat} {s0 s : State} {x1} (hM : Sub 0x40000000000404066 M) (h : Does M s0 s) :
    Does M s0 (State.entryPfc s x1) := by
  unfold State.entryPfc
  repeat' (first
    | with_reducible assumption
    | (extract_lets +onlyGivenNames x; revert x; intro _)
    | with_reducible refine State.pfcUpdate_does (Sub.trans (by decide) hM) ?_
    | with_reducible refine State.setPort_does (Sub.trans (by decide) hM) ?_)

theorem State.flushCtl_does {M : Nat} {s0 s : State} {x1} (hM : Sub 0x40000000000404046 M) (h : Does M s0 s) :
    Does M s0 (State.flushCtl s x1) := by
  unfold State.flushCtl
  repeat' (first
    | with_reducible assumption
    | (intro _ _ _)
    | (extract_lets +onlyGivenNames x; revert x; intro _)
    | with_reducible refine State.sendNow_does (Sub.trans (by decide) hM) ?_
    | with_reducible refine State.setPort_does (Sub.trans (by decide) hM) ?_
    | with_reducible refine Does.fold ?_ ?_
    | with_reducible refine Does.ite ?_ ?_)

theorem State.setBuf_does {M : Nat} {s0 s : State} {x1} {x2} (hM : Sub 67108864 M) (h : Does M s0 s) :
    Does M s0 (State.setBuf s x1 x2) := by
  unfold State.setBuf
  repeat' (first
    | with_reducible assumption
    | refine Does.put_bufs (Sub.trans (by decide) hM) ?_ (fun c => Sparse.wf_set _ _ _ _ c))

theorem State.setCox_does {M : Nat} {s0 s : State} {x1} {x2} (hM : Sub 137438953472 M) (h : Does M s0 s) :
    Does M s0 (State.setCox s x1 x2) := by
  unfold State.setCox
  repeat' (first
    | with_reducible assumption
    | refine Does.put_coxs (Sub.trans (by decide) hM) ?_ (fun c => Sparse.wf_set _ _ _ _ c))

theorem State.setSliceState_does {M : Nat} {s0 s : State} {x1} {x2} (hM : Sub 0x4000000000000000000000020 M) (h : Does M s0 s) :
    Does M s0 (State.setSliceState s x1 x2) := by
  unfold State.setSliceState
  repeat' (first
    | with_reducible assumption
    | (extract_lets +onlyGivenNames x; revert x; intro _)
    | with_reducible refine State.fset_does (Sub.trans (by decide) hM) (Sub.fld (by decide) (Sub.kind (k := .aon) rfl (by decide) hM)) ?_)

theorem State.wakeCause_does {M : Nat} {s0 s : State} {x1} (hM : Sub 137438953472 M) (h : Does M s0 s) :
    Does M s0 (State.wakeCause s x1) := by
  unfold State.wakeCause
  repeat' (first
    | with_reducible assumption
    | (extract_lets +onlyGivenNames x; revert x; intro _)
    | with_reducible refine State.setCox_does (Sub.trans (by decide) hM) ?_
    | with_reducible refine Does.ite ?_ ?_)

end Sys2Proof.Machine
end

