-- ==== Sys2Proof/Laws/Buffer.lean ====
section
/-!
SUPPORT. What each operation of Machine/Buffer.lean can change, and that it takes nothing back.
-/
namespace Sys2Proof.Machine

theorem State.cellsWritten_does {M : Nat} {s0 s : State} {x1} {x2} {x3} (hM : Sub 0x40400000000000040080040 M) (h : Does M s0 s) :
    Does M s0 (State.cellsWritten s x1 x2 x3) := by
  unfold State.cellsWritten
  repeat' (first
    | with_reducible assumption
    | with_reducible refine State.chargeFrm_does (Sub.trans (by decide) hM) ?_
    | with_reducible refine State.pmcEvent_does (Sub.trans (by decide) hM) (Sub.kind (k := .bufMgr) rfl (by decide) hM) ?_
    | split)

theorem State.countRefusal_does {M : Nat} {s0 s : State} {x1} {x2} {x3} {x4} (hM : Sub 0x4007c00000000004400040000000000000062 M) (h : Does M s0 s) :
    Does M s0 (State.countRefusal s x1 x2 x3 x4) := by
  unfold State.countRefusal
  repeat' (first
    | with_reducible assumption
    | (extract_lets +onlyGivenNames x; refine Does.cut x ?_ ?_; rotate_left; (intro hx; clear_value x; revert x; intro _ _); rotate_left; (unfold x; clear x))
    | with_reducible refine State.cadd_does (Sub.trans (by decide) hM) (Sub.fld (by decide) (Sub.kind (k := .port) rfl (by decide) hM)) ?_
    | with_reducible refine State.cadd_does (Sub.trans (by decide) hM) (Sub.fld (by decide) (Sub.kind (k := .bufMgr) rfl (by decide) hM)) ?_
    | with_reducible refine State.raise_does (Sub.trans (by decide) hM) (Sub.kindH (k := .bufMgr) rfl (by decide) hM) ?_
    | with_reducible refine Does.ite ?_ ?_
    | split)

theorem State.ecnMark_does {M : Nat} {s0 s : State} {x1} {x2} {x3} {x4} {r} (e : State.ecnMark s x1 x2 x3 x4 = r) (hM : Sub 4 M) (h : Does M s0 s) :
    Does M s0 r.2 := by
  subst e
  unfold State.ecnMark
  repeat' (first
    | with_reducible assumption
    | (extract_lets +onlyGivenNames x; refine Does.cut x.2 ?_ ?_; rotate_left; (intro hx; clear_value x; revert x; intro _ _); rotate_left; (unfold x; clear x))
    | (extract_lets +onlyGivenNames x; revert x; intro _)
    | with_reducible refine State.draw_does rfl (Sub.trans (by decide) hM) ?_
    | split)

theorem State.setQueue_does {M : Nat} {s0 s : State} {x1} {x2} (hM : Sub 268435456 M) (h : Does M s0 s) :
    Does M s0 (State.setQueue s x1 x2) := by
  unfold State.setQueue
  repeat' (first
    | with_reducible assumption
    | refine Does.put_queues (Sub.trans (by decide) hM) ?_ (fun c => Sparse.wf_set _ _ _ _ c))

theorem State.enqueue_does {M : Nat} {s0 s : State} {x1} {x2} (hM : Sub 335544320 M) (h : Does M s0 s) :
    Does M s0 (State.enqueue s x1 x2) := by
  unfold State.enqueue
  repeat' (first
    | with_reducible assumption
    | (extract_lets +onlyGivenNames x; refine Does.cut x ?_ ?_; rotate_left; (intro hx; clear_value x; revert x; intro _ _); rotate_left; (unfold x; clear x))
    | (extract_lets +onlyGivenNames x; revert x; intro _)
    | with_reducible refine State.setBuf_does (Sub.trans (by decide) hM) ?_
    | with_reducible refine State.setQueue_does (Sub.trans (by decide) hM) ?_
    | split)

theorem State.enqueuePort_does {M : Nat} {s0 s : State} {x1} {x2} {x3} {x4} {x5} (hM : Sub 0x40000000014000044 M) (h : Does M s0 s) :
    Does M s0 (State.enqueuePort s x1 x2 x3 x4 x5) := by
  unfold State.enqueuePort
  repeat' (first
    | with_reducible assumption
    | (extract_lets +onlyGivenNames x; revert x; intro _)
    | with_reducible refine State.cadd_does (Sub.trans (by decide) hM) (Sub.fld (by decide) (Sub.kind (k := .port) rfl (by decide) hM)) ?_
    | with_reducible refine State.ecnMark_does rfl (Sub.trans (by decide) hM) ?_
    | with_reducible refine State.enqueue_does (Sub.trans (by decide) hM) ?_
    | with_reducible refine Does.ite ?_ ?_)

theorem State.mcEnqueue_does {M : Nat} {s0 s : State} {x1} {x2} {x3} {x4} {x5} {x6} {r} (e : State.mcEnqueue s x1 x2 x3 x4 x5 x6 = r) (hM : Sub 0x4007c00000000004400040000000014000066 M) (h : Does M s0 s) :
    Does M s0 r.2.2 := by
  induction x4 generalizing s r x1 x2 x3 x5 x6 with
  | nil =>
    subst e; unfold State.mcEnqueue
    repeat' (first
      | with_reducible assumption)
  | cons _ _ ih =>
    subst e; unfold State.mcEnqueue
    repeat' (first
      | with_reducible assumption
      | (extract_lets +onlyGivenNames x; revert x; intro _)
      | with_reducible refine ih rfl ?_
      | with_reducible refine State.countRefusal_does (Sub.trans (by decide) hM) ?_
      | with_reducible refine State.enqueuePort_does (Sub.trans (by decide) hM) ?_
      | split)

theorem State.admitMcast_does {M : Nat} {s0 s : State} {x1} {x2} {x3} {x4} (hM : Sub 0x1004007c000000001444001400000002d4180066 M) (h : Does M s0 s) :
    Does M s0 (State.admitMcast s x1 x2 x3 x4) := by
  unfold State.admitMcast
  repeat' (first
    | with_reducible assumption
    | (intro _ _ _)
    | (extract_lets +onlyGivenNames x; refine Does.cut x ?_ ?_; rotate_left; (intro hx; clear_value x; revert x; intro _ _); rotate_left; (unfold x; clear x))
    | (extract_lets +onlyGivenNames x; revert x; intro _)
    | with_reducible refine State.cadd_does (Sub.trans (by decide) hM) (Sub.fld (by decide) (Sub.kind (k := .bufMgr) rfl (by decide) hM)) ?_
    | with_reducible refine State.cellsWritten_does (Sub.trans (by decide) hM) ?_
    | with_reducible refine State.dropAt_does (Sub.trans (by decide) hM) ?_
    | with_reducible refine State.mcEnqueue_does rfl (Sub.trans (by decide) hM) ?_
    | with_reducible refine State.updFrm_does (Sub.trans (by decide) hM) ?_
    | with_reducible refine Does.fold ?_ ?_
    | with_reducible refine Does.ite ?_ ?_)

theorem State.admitToHost_does {M : Nat} {s0 s : State} {x1} {x2} {x3} {x4} (hM : Sub 0x1000007c000000001444001400000002d4180062 M) (h : Does M s0 s) :
    Does M s0 (State.admitToHost s x1 x2 x3 x4) := by
  unfold State.admitToHost
  repeat' (first
    | with_reducible assumption
    | (extract_lets +onlyGivenNames x; revert x; intro _)
    | with_reducible refine State.cellsWritten_does (Sub.trans (by decide) hM) ?_
    | with_reducible refine State.dropAt_does (Sub.trans (by decide) hM) ?_
    | with_reducible refine State.enqueue_does (Sub.trans (by decide) hM) ?_
    | split)

theorem State.admitToPort_does {M : Nat} {s0 s : State} {x1} {x2} {x3} {x4} (hM : Sub 0x1004007c000000001444001400000002d4180066 M) (h : Does M s0 s) :
    Does M s0 (State.admitToPort s x1 x2 x3 x4) := by
  unfold State.admitToPort
  repeat' (first
    | with_reducible assumption
    | (extract_lets +onlyGivenNames x; revert x; intro _)
    | with_reducible refine State.cellsWritten_does (Sub.trans (by decide) hM) ?_
    | with_reducible refine State.countRefusal_does (Sub.trans (by decide) hM) ?_
    | with_reducible refine State.dropAt_does (Sub.trans (by decide) hM) ?_
    | with_reducible refine State.enqueuePort_does (Sub.trans (by decide) hM) ?_
    | split)

theorem State.discard_does {M : Nat} {s0 s : State} {x1} {x2} {x3} (hM : Sub 0x1000007c000000001044001400000002c0180062 M) (h : Does M s0 s) :
    Does M s0 (State.discard s x1 x2 x3) := by
  unfold State.discard
  repeat' (first
    | with_reducible assumption
    | (extract_lets +onlyGivenNames x; refine Does.cut x ?_ ?_; rotate_left; (intro hx; clear_value x; revert x; intro _ _); rotate_left; (unfold x; clear x))
    | with_reducible refine State.cadd_does (Sub.trans (by decide) hM) (Sub.fld (by decide) (Sub.kind (k := .port) rfl (by decide) hM)) ?_
    | with_reducible refine State.fold_does (Sub.trans (by decide) hM) ?_
    | with_reducible refine State.release_does (Sub.trans (by decide) hM) ?_
    | with_reducible refine Does.ite ?_ ?_
    | split)

theorem State.emptied_does {M : Nat} {s0 s : State} {x1} (hM : Sub 4194304 M) (h : Does M s0 s) :
    Does M s0 (State.emptied s x1) := by
  unfold State.emptied
  repeat' (first
    | with_reducible assumption
    | (extract_lets +onlyGivenNames x; revert x; intro _)
    | with_reducible refine State.setPort_does (Sub.trans (by decide) hM) ?_
    | with_reducible refine Does.ite ?_ ?_)

theorem State.unqueue_does {M : Nat} {s0 s : State} {x1} {x2} (hM : Sub 272629760 M) (h : Does M s0 s) :
    Does M s0 (State.unqueue s x1 x2) := by
  unfold State.unqueue
  repeat' (first
    | with_reducible assumption
    | with_reducible refine State.emptied_does (Sub.trans (by decide) hM) ?_
    | with_reducible refine State.setQueue_does (Sub.trans (by decide) hM) ?_)

theorem State.ageQueue_does {M : Nat} {s0 s : State} {x1} {x2} {x3} (hM : Sub 0x1000007c000000001044001400000002d0580062 M) (h : Does M s0 s) :
    Does M s0 (State.ageQueue s x1 x2 x3) := by
  induction x3 generalizing s x1 x2 with
  | zero =>
    unfold State.ageQueue
    repeat' (first
      | with_reducible assumption)
  | succ _ ih =>
    unfold State.ageQueue
    repeat' (first
      | with_reducible assumption
      | with_reducible apply ih
      | with_reducible refine State.discard_does (Sub.trans (by decide) hM) ?_
      | with_reducible refine State.unqueue_does (Sub.trans (by decide) hM) ?_
      | with_reducible refine Does.ite ?_ ?_
      | split)

theorem State.bankError_does {M : Nat} {s0 s : State} {x1} {x2} (hM : Sub 0x4007c00000000004400000000000004000022 M) (h : Does M s0 s) :
    Does M s0 (State.bankError s x1 x2) := by
  unfold State.bankError
  repeat' (first
    | with_reducible assumption
    | (extract_lets +onlyGivenNames x; refine Does.cut x ?_ ?_; rotate_left; (intro hx; clear_value x; revert x; intro _ _); rotate_left; (unfold x; clear x))
    | (extract_lets +onlyGivenNames x; revert x; intro _)
    | with_reducible refine State.fsat_does (Sub.trans (by decide) hM) (Sub.fld (by decide) (Sub.kind (k := .bufMgr) rfl (by decide) hM)) ?_
    | with_reducible refine State.raise_does (Sub.trans (by decide) hM) (Sub.kindH (k := .bufMgr) rfl (by decide) hM) ?_
    | with_reducible refine State.setBuf_does (Sub.trans (by decide) hM) ?_
    | with_reducible refine Does.ite ?_ ?_)

theorem State.cellErrors_does {M : Nat} {s0 s : State} {x1} {x2} {r} (e : State.cellErrors s x1 x2 = r) (hM : Sub 0x4007c00000000004400000000000004000062 M) (h : Does M s0 s) :
    Does M s0 r.2 := by
  subst e
  unfold State.cellErrors
  repeat' (first
    | with_reducible assumption
    | (intro _ _ _)
    | (extract_lets +onlyGivenNames x; refine Does.cut x ?_ ?_; rotate_left; (intro hx; clear_value x; revert x; intro _ _); rotate_left; (unfold x; clear x))
    | (extract_lets +onlyGivenNames x; revert x; intro _)
    | with_reducible refine State.bankError_does (Sub.trans (by decide) hM) ?_
    | with_reducible refine State.cadd_does (Sub.trans (by decide) hM) (Sub.fld (by decide) (Sub.kind (k := .bufMgr) rfl (by decide) hM)) ?_
    | with_reducible refine State.pmcEvent_does (Sub.trans (by decide) hM) (Sub.kind (k := .bufMgr) rfl (by decide) hM) ?_
    | with_reducible refine State.raise_does (Sub.trans (by decide) hM) (Sub.kindH (k := .bufMgr) rfl (by decide) hM) ?_
    | with_reducible refine State.setReg_does (Sub.trans (by decide) hM) (Sub.off (by decide) (Sub.kind (k := .bufMgr) rfl (by decide) hM)) ?_
    | with_reducible refine Does.fold2 rfl ?_ ?_
    | split)

theorem State.discardFrom_does {M : Nat} {s0 s : State} {x1} {x2} {x3} (hM : Sub 0x1000007c000000001044001400000002d0580062 M) (h : Does M s0 s) :
    Does M s0 (State.discardFrom s x1 x2 x3) := by
  unfold State.discardFrom
  repeat' (first
    | with_reducible assumption
    | (intro _ _ _)
    | with_reducible refine State.discard_does (Sub.trans (by decide) hM) ?_
    | with_reducible refine State.unqueue_does (Sub.trans (by decide) hM) ?_
    | with_reducible refine Does.fold ?_ ?_)

theorem State.endPass_does {M : Nat} {s0 s : State} {x1} {x2} {x3} (hM : Sub 0x1000007c000000001044001400000002c0180062 M) (h : Does M s0 s) :
    Does M s0 (State.endPass s x1 x2 x3) := by
  unfold State.endPass
  repeat' (first
    | with_reducible assumption
    | (extract_lets +onlyGivenNames x; refine Does.cut x ?_ ?_; rotate_left; (intro hx; clear_value x; revert x; intro _ _); rotate_left; (unfold x; clear x))
    | (extract_lets +onlyGivenNames x; revert x; intro _)
    | with_reducible refine State.cadd_does (Sub.trans (by decide) hM) (Sub.fld (by decide) (Sub.kind (k := .port) rfl (by decide) hM)) ?_
    | with_reducible refine State.dropFrm_does (Sub.trans (by decide) hM) ?_
    | with_reducible refine State.fold_does (Sub.trans (by decide) hM) ?_
    | with_reducible refine State.release_does (Sub.trans (by decide) hM) ?_
    | with_reducible refine Does.ite ?_ ?_
    | split)

theorem State.setQueueState_does {M : Nat} {s0 s : State} {x1} {x2} {x3} (hM : Sub 0x40000000000000020 M) (h : Does M s0 s) :
    Does M s0 (State.setQueueState s x1 x2 x3) := by
  unfold State.setQueueState
  repeat' (first
    | with_reducible assumption
    | with_reducible refine State.fset_does (Sub.trans (by decide) hM) (Sub.fld (by decide) (Sub.kind (k := .port) rfl (by decide) hM)) ?_)

theorem State.flushQueue_does {M : Nat} {s0 s : State} {x1} {x2} (hM : Sub 0x1000007c000000001044001400000002d0580062 M) (h : Does M s0 s) :
    Does M s0 (State.flushQueue s x1 x2) := by
  unfold State.flushQueue
  repeat' (first
    | with_reducible assumption
    | with_reducible refine State.discardFrom_does (Sub.trans (by decide) hM) ?_
    | with_reducible refine State.setQueueState_does (Sub.trans (by decide) hM) ?_)

theorem State.mapPasses_does {M : Nat} {s0 s : State} {x1} (hM : Sub 524288 M) (h : Does M s0 s) :
    Does M s0 (State.mapPasses s x1) := by
  unfold State.mapPasses
  refine Does.put_frames (Sub.trans (by decide) hM) h (fun c => ?_)
  rw [Sparse.wf_iff] at c ⊢
  refine ⟨List.pairwise_map.mpr (c.1.imp id), fun x hx => ?_⟩
  obtain ⟨y, hy, rfl⟩ := List.mem_map.mp hx
  have := c.2 y hy
  revert this
  cases y.2 <;> simp

theorem State.purgeReady_does {M : Nat} {s0 s : State} {x1} (hM : Sub 0x1000007c000000001044001400000002c0580062 M) (h : Does M s0 s) :
    Does M s0 (State.purgeReady s x1) := by
  unfold State.purgeReady
  repeat' (first
    | with_reducible assumption
    | (intro _ _ _)
    | (extract_lets +onlyGivenNames x; revert x; intro _)
    | with_reducible refine State.endPass_does (Sub.trans (by decide) hM) ?_
    | with_reducible refine State.setPort_does (Sub.trans (by decide) hM) ?_
    | with_reducible refine Does.fold ?_ ?_)

theorem State.flushPort_does {M : Nat} {s0 s : State} {x1} (hM : Sub 0x1000007c000000001044001400000002d0580062 M) (h : Does M s0 s) :
    Does M s0 (State.flushPort s x1) := by
  unfold State.flushPort
  repeat' (first
    | with_reducible assumption
    | (intro _ _ _)
    | (extract_lets +onlyGivenNames x; refine Does.cut x ?_ ?_; rotate_left; (intro hx; clear_value x; revert x; intro _ _); rotate_left; (unfold x; clear x))
    | (extract_lets +onlyGivenNames x; revert x; intro _)
    | with_reducible refine State.endPass_does (Sub.trans (by decide) hM) ?_
    | with_reducible refine State.flushQueue_does (Sub.trans (by decide) hM) ?_
    | with_reducible refine State.mapPasses_does (Sub.trans (by decide) hM) ?_
    | with_reducible refine State.purgeReady_does (Sub.trans (by decide) hM) ?_
    | with_reducible refine State.setPort_does (Sub.trans (by decide) hM) ?_
    | with_reducible refine Does.fold ?_ ?_)

theorem State.frameAdmit_does {M : Nat} {s0 s : State} {x1} {x2} (hM : Sub 0x1004007c000000001444001400000002d4180066 M) (h : Does M s0 s) :
    Does M s0 (State.frameAdmit s x1 x2) := by
  unfold State.frameAdmit
  repeat' (first
    | with_reducible assumption
    | (extract_lets +onlyGivenNames x; refine Does.cut x ?_ ?_; rotate_left; (intro hx; clear_value x; revert x; intro _ _); rotate_left; (unfold x; clear x))
    | (extract_lets +onlyGivenNames x; revert x; intro _)
    | with_reducible refine State.admitMcast_does (Sub.trans (by decide) hM) ?_
    | with_reducible refine State.admitToHost_does (Sub.trans (by decide) hM) ?_
    | with_reducible refine State.admitToPort_does (Sub.trans (by decide) hM) ?_
    | with_reducible refine State.dropAt_does (Sub.trans (by decide) hM) ?_
    | with_reducible refine State.setFrm_does (Sub.trans (by decide) hM) ?_
    | with_reducible refine Does.ite ?_ ?_
    | split
    | refine Does.put_admits (Sub.trans (by decide) hM) ?_ (fun c => Sparse.wf_set _ _ _ _ c))

theorem State.updCopies_does {M : Nat} {s0 s : State} {x1} {x2} {x3} (hM : Sub 268435456 M) (h : Does M s0 s) :
    Does M s0 (State.updCopies s x1 x2 x3) := by
  unfold State.updCopies
  repeat' (first
    | with_reducible assumption
    | (intro _ _ _)
    | with_reducible refine State.setQueue_does (Sub.trans (by decide) hM) ?_
    | with_reducible refine Does.fold ?_ ?_)

theorem State.updPasses_does {M : Nat} {s0 s : State} {x1} {x2} {x3} (hM : Sub 524288 M) (h : Does M s0 s) :
    Does M s0 (State.updPasses s x1 x2 x3) := by
  unfold State.updPasses
  repeat' (first
    | with_reducible assumption
    | with_reducible refine State.mapPasses_does (Sub.trans (by decide) hM) ?_)

theorem State.spoil_does {M : Nat} {s0 s : State} {x1} {x2} {x3} (hM : Sub 0x1000007c000000001044001400000002d0580062 M) (h : Does M s0 s) :
    Does M s0 (State.spoil s x1 x2 x3) := by
  unfold State.spoil
  repeat' (first
    | with_reducible assumption
    | (intro _ _ _)
    | (extract_lets +onlyGivenNames x; refine Does.cut x ?_ ?_; rotate_left; (intro hx; clear_value x; revert x; intro _ _); rotate_left; (unfold x; clear x))
    | (extract_lets +onlyGivenNames x; revert x; intro _)
    | with_reducible refine State.discardFrom_does (Sub.trans (by decide) hM) ?_
    | with_reducible refine State.updCopies_does (Sub.trans (by decide) hM) ?_
    | with_reducible refine State.updPasses_does (Sub.trans (by decide) hM) ?_
    | with_reducible refine Does.fold ?_ ?_)

theorem State.writeRest_does {M : Nat} {s0 s : State} {x1} {x2} (hM : Sub 0x40400000000000050080040 M) (h : Does M s0 s) :
    Does M s0 (State.writeRest s x1 x2) := by
  unfold State.writeRest
  repeat' (first
    | with_reducible assumption
    | (extract_lets +onlyGivenNames x; revert x; intro _)
    | with_reducible refine State.cellsWritten_does (Sub.trans (by decide) hM) ?_
    | with_reducible refine State.updCopies_does (Sub.trans (by decide) hM) ?_
    | with_reducible refine State.updPasses_does (Sub.trans (by decide) hM) ?_)

theorem State.frameLastCell_does {M : Nat} {s0 s : State} {x1} {x2} {x3} (hM : Sub 0x1000007c000000001444003400000002d0580062 M) (h : Does M s0 s) :
    Does M s0 (State.frameLastCell s x1 x2 x3) := by
  unfold State.frameLastCell
  repeat' (first
    | with_reducible assumption
    | (extract_lets +onlyGivenNames x; refine Does.cut x ?_ ?_; rotate_left; (intro hx; clear_value x; revert x; intro _ _); rotate_left; (unfold x; clear x))
    | (extract_lets +onlyGivenNames x; revert x; intro _)
    | with_reducible refine State.integrity_does (Sub.trans (by decide) hM) ?_
    | with_reducible refine State.spoil_does (Sub.trans (by decide) hM) ?_
    | with_reducible refine State.updCopies_does (Sub.trans (by decide) hM) ?_
    | with_reducible refine State.updFrm_does (Sub.trans (by decide) hM) ?_
    | with_reducible refine State.writeRest_does (Sub.trans (by decide) hM) ?_
    | with_reducible refine Does.ite ?_ ?_
    | split)

theorem State.overcommit_does {M : Nat} {s0 s : State} {x1} (hM : Sub 0x4007c00000000004400000000000000000022 M) (h : Does M s0 s) :
    Does M s0 (State.overcommit s x1) := by
  unfold State.overcommit
  repeat' (first
    | with_reducible assumption
    | with_reducible refine State.errCount_does (Sub.trans (by decide) hM) (Sub.kindH (k := .bufMgr) rfl (by decide) hM) ?_
    | with_reducible refine State.fset_does (Sub.trans (by decide) hM) (Sub.fld (by decide) (Sub.kind (k := .bufMgr) rfl (by decide) hM)) ?_
    | with_reducible refine State.raise_does (Sub.trans (by decide) hM) (Sub.kindH (k := .bufMgr) rfl (by decide) hM) ?_)

theorem State.minWrite_does {M : Nat} {s0 s : State} {x1} {x2} {x3} {x4} {x5 : State → Page → State} (hM : Sub 0x4007c00000000004400000000000000000022 M) (h : Does M s0 s) (hf5 : ∀ s a1, Does M s0 s → Does M s0 (x5 s a1)) :
    Does M s0 (State.minWrite s x1 x2 x3 x4 x5) := by
  unfold State.minWrite
  repeat' (first
    | with_reducible assumption
    | (extract_lets +onlyGivenNames x; revert x; intro _)
    | with_reducible refine State.overcommit_does (Sub.trans (by decide) hM) ?_
    | with_reducible refine Does.fold ?_ ?_
    | with_reducible refine Does.ite ?_ ?_)

theorem State.hqCfgWrite_does {M : Nat} {s0 s : State} {x1 : Page} {x2} {x3} (hM : Sub 0x4007c00000007ffff007e0000000000000022 M) (h : Does M s0 s) :
    Does M s0 (State.hqCfgWrite s x1 x2 x3) := by
  unfold State.hqCfgWrite
  repeat' (first
    | with_reducible assumption
    | (intro _ _ _)
    | with_reducible refine State.minWrite_does (Sub.trans (by decide) hM) ?_ ?_
    | with_reducible refine State.putRw_does (Sub.trans (by decide) hM) (Sub.off (Fld.le_at (by decide)) (Sub.allBlk _ (by decide) hM)) ?_)

theorem State.limitWrite_does {M : Nat} {s0 s : State} {x1 : Page} {x2} {x3} (hM : Sub 0x4007c00000000004400000000000000000022 M) (hB1 : Sub x1.blk M) (hH1 : Sub x1.hdr M) (h : Does M s0 s) :
    Does M s0 (State.limitWrite s x1 x2 x3) := by
  unfold State.limitWrite
  repeat' (first
    | with_reducible assumption
    | (extract_lets +onlyGivenNames x; revert x; intro _)
    | with_reducible refine State.overcommit_does (Sub.trans (by decide) hM) ?_
    | with_reducible refine State.putRw_does (Sub.trans (by decide) hM) (Sub.offB hB1 hH1) ?_
    | with_reducible refine Does.ite ?_ ?_)

theorem State.mcRead_does {M : Nat} {s0 s : State} {x1 : Page} {x2} (hM : Sub 32 M) (hB1 : Sub x1.blk M) (h : Does M s0 s) :
    Does M s0 (State.mcRead s x1 x2) := by
  unfold State.mcRead
  repeat' (first
    | with_reducible assumption
    | (extract_lets +onlyGivenNames x; refine Does.cut x ?_ ?_; rotate_left; (intro hx; clear_value x; revert x; intro _ _); rotate_left; (unfold x; clear x))
    | (extract_lets +onlyGivenNames x; revert x; intro _)
    | with_reducible refine State.putRw_does (Sub.trans (by decide) hM) (Sub.off (by decide) hB1) ?_
    | with_reducible refine State.setReg_does (Sub.trans (by decide) hM) (Sub.off (by decide) hB1) ?_
    | with_reducible refine State.setWords_does (Sub.trans (by decide) hM) (Sub.fld (by decide) hB1) ?_)

theorem State.mcWrite_does {M : Nat} {s0 s : State} {x1 : Page} {x2} (hM : Sub 134217760 M) (hB1 : Sub x1.blk M) (h : Does M s0 s) :
    Does M s0 (State.mcWrite s x1 x2) := by
  unfold State.mcWrite
  repeat' (first
    | with_reducible assumption
    | (extract_lets +onlyGivenNames x; refine Does.cut x ?_ ?_; rotate_left; (intro hx; clear_value x; revert x; intro _ _); rotate_left; (unfold x; clear x))
    | (extract_lets +onlyGivenNames x; revert x; intro _)
    | with_reducible refine State.putRw_does (Sub.trans (by decide) hM) (Sub.off (by decide) hB1) ?_
    | refine Does.put_mcs (Sub.trans (by decide) hM) ?_ (fun c => Sparse.wf_set _ _ _ _ c))

theorem State.pauseExpire_does {M : Nat} {s0 s : State} {x1} {x2} (hM : Sub 0x40000000000000020 M) (h : Does M s0 s) :
    Does M s0 (State.pauseExpire s x1 x2) := by
  unfold State.pauseExpire
  repeat' (first
    | with_reducible assumption
    | (extract_lets +onlyGivenNames x; revert x; intro _)
    | with_reducible refine State.fset_does (Sub.trans (by decide) hM) (Sub.fld (by decide) (Sub.kind (k := .port) rfl (by decide) hM)) ?_)

theorem State.pfcRx_does {M : Nat} {s0 s : State} {x1} {x2} {x3} (hM : Sub 0x40000000000000060 M) (h : Does M s0 s) :
    Does M s0 (State.pfcRx s x1 x2 x3) := by
  unfold State.pfcRx
  repeat' (first
    | with_reducible assumption
    | (extract_lets +onlyGivenNames x; refine Does.cut x ?_ ?_; rotate_left; (intro hx; clear_value x; revert x; intro _ _); rotate_left; (unfold x; clear x))
    | (extract_lets +onlyGivenNames x; revert x; intro _)
    | with_reducible refine State.cadd_does (Sub.trans (by decide) hM) (Sub.fld (by decide) (Sub.kind (k := .port) rfl (by decide) hM)) ?_
    | with_reducible refine State.fset_does (Sub.trans (by decide) hM) (Sub.fld (by decide) (Sub.kind (k := .port) rfl (by decide) hM)) ?_
    | with_reducible refine Does.ite ?_ ?_)

theorem State.queueEn_does {M : Nat} {s0 s : State} {x1} {x2} {x3} {x4} (hM : Sub 0x1000007c000000001044001400000002d0580062 M) (h : Does M s0 s) :
    Does M s0 (State.queueEn s x1 x2 x3 x4) := by
  unfold State.queueEn
  repeat' (first
    | with_reducible assumption
    | (extract_lets +onlyGivenNames x; revert x; intro _)
    | with_reducible refine State.flushQueue_does (Sub.trans (by decide) hM) ?_
    | with_reducible refine State.setQueueState_does (Sub.trans (by decide) hM) ?_
    | with_reducible refine Does.ite ?_ ?_)

theorem State.queueCfgOn_does {M : Nat} {s0 s : State} {x1} {x2} {x3} (hM : Sub 0x7ffff007e00000007ffff007e00000002d0580062 M) (h : Does M s0 s) :
    Does M s0 (State.queueCfgOn s x1 x2 x3) := by
  unfold State.queueCfgOn
  repeat' (first
    | with_reducible assumption
    | (intro _ _ _)
    | (extract_lets +onlyGivenNames x; revert x; intro _)
    | with_reducible refine State.minWrite_does (Sub.trans (by decide) hM) ?_ ?_
    | with_reducible refine State.putRw_does (Sub.trans (by decide) hM) (Sub.offB (Sub.allBlk _ (by decide) hM) (Sub.allHdr _ (by decide) hM)) ?_
    | with_reducible refine State.queueEn_does (Sub.trans (by decide) hM) ?_
    | with_reducible refine Does.fold ?_ ?_)

theorem State.queueCfgWrite_does {M : Nat} {s0 s : State} {x1} {x2} {x3} {x4} (hM : Sub 0x7ffff007e00000007ffff007e00000002d1580062 M) (h : Does M s0 s) :
    Does M s0 (State.queueCfgWrite s x1 x2 x3 x4) := by
  unfold State.queueCfgWrite
  repeat' (first
    | with_reducible assumption
    | (intro _ _ _)
    | with_reducible refine State.access_does (Sub.trans (by decide) hM) ?_ ?_
    | with_reducible refine State.countUnmapped_does (Sub.trans (by decide) hM) ?_
    | with_reducible refine State.queueCfgOn_does (Sub.trans (by decide) hM) ?_
    | split)

theorem execBufPoolLimitWrite_does {M : Nat} {s0 s : State} {x0} {x1} {x2} {x3} {t : State} (e : execBufPoolLimitWrite x0 x1 x2 x3 s = .next t) (hM : Sub 0x7ffff007e00000007ffff007e00000002d1580062 M) (h : Does M s0 s) :
    Does M s0 t := by
  revert e
  unfold execBufPoolLimitWrite
  repeat' (first
    | with_reducible assumption
    | (intro _ _ _ _)
    | (intro e; with_reducible injection e with e; subst e)
    | with_reducible refine State.accessKind_does (Sub.trans (by decide) hM) ?_ ?_
    | with_reducible refine State.hqCfgWrite_does (Sub.trans (by decide) hM) ?_
    | with_reducible refine State.limitWrite_does (Sub.trans (by decide) hM) (Sub.kind (k := .bufMgr) (by with_reducible assumption) (by decide) hM) (Sub.kindH (k := .bufMgr) (by with_reducible assumption) (by decide) hM) ?_
    | with_reducible refine State.queueCfgWrite_does (Sub.trans (by decide) hM) ?_
    | split)

theorem execMcGroupRead_does {M : Nat} {s0 s : State} {x0} {x1} {x2} {t : State} (e : execMcGroupRead x0 x1 x2 s = .next t) (hM : Sub 0x40007c00000000004400000000000001000022 M) (h : Does M s0 s) :
    Does M s0 t := by
  revert e
  unfold execMcGroupRead
  repeat' (first
    | with_reducible assumption
    | (intro _ _ _ _)
    | (intro e; with_reducible injection e with e; subst e)
    | with_reducible refine State.accessKind_does (Sub.trans (by decide) hM) ?_ ?_
    | with_reducible refine State.mcRead_does (Sub.trans (by decide) hM) (Sub.kind (k := .bufMgr) (by with_reducible assumption) (by decide) hM) ?_)

theorem execMcGroupWrite_does {M : Nat} {s0 s : State} {x0} {x1} {x2} {t : State} (e : execMcGroupWrite x0 x1 x2 s = .next t) (hM : Sub 0x40007c00000000004400000000000009000022 M) (h : Does M s0 s) :
    Does M s0 t := by
  revert e
  unfold execMcGroupWrite
  repeat' (first
    | with_reducible assumption
    | (intro _ _ _ _)
    | (intro e; with_reducible injection e with e; subst e)
    | with_reducible refine State.accessKind_does (Sub.trans (by decide) hM) ?_ ?_
    | with_reducible refine State.mcWrite_does (Sub.trans (by decide) hM) (Sub.kind (k := .bufMgr) (by with_reducible assumption) (by decide) hM) ?_)

theorem execPfcEval_does {M : Nat} {s0 s : State} {x0} {t : State} (e : execPfcEval x0 s = .next t) (hM : Sub 0x40000000005404066 M) (h : Does M s0 s) :
    Does M s0 t := by
  revert e
  unfold execPfcEval State.ifOperates
  repeat' (first
    | with_reducible assumption
    | (intro _ _ _)
    | (intro e; with_reducible injection e with e; subst e)
    | (extract_lets +onlyGivenNames x; refine Does.cut x ?_ ?_; rotate_left; (intro hx; clear_value x; revert x; intro _ _); rotate_left; (unfold x; clear x))
    | (extract_lets +onlyGivenNames x; revert x; intro _)
    | with_reducible refine State.pfcUpdate_does (Sub.trans (by decide) hM) ?_
    | with_reducible refine State.sendCtrl_does (Sub.trans (by decide) hM) ?_
    | with_reducible refine State.setBuf_does (Sub.trans (by decide) hM) ?_
    | with_reducible refine Does.fold ?_ ?_
    | with_reducible refine Does.ite ?_ ?_)

theorem execPfcRefresh_does {M : Nat} {s0 s : State} {x0} {x1} {t : State} (e : execPfcRefresh x0 x1 s = .next t) (hM : Sub 0x40000000000404046 M) (h : Does M s0 s) :
    Does M s0 t := by
  revert e
  unfold execPfcRefresh State.ifOperates
  repeat' (first
    | with_reducible assumption
    | (intro e; with_reducible injection e with e; subst e)
    | with_reducible refine State.sendPfc_does (Sub.trans (by decide) hM) ?_
    | with_reducible refine Does.ite ?_ ?_)

theorem execPortFlushDone_does {M : Nat} {s0 s : State} {x0} {x1} {t : State} (e : execPortFlushDone x0 x1 s = .next t) (hM : Sub 0x1000007c000000001044001400000002c0580062 M) (h : Does M s0 s) :
    Does M s0 t := by
  revert e
  unfold execPortFlushDone
  repeat' (first
    | with_reducible assumption
    | (intro e; with_reducible injection e with e; subst e)
    | with_reducible refine State.purgeReady_does (Sub.trans (by decide) hM) ?_
    | with_reducible refine State.setQueueState_does (Sub.trans (by decide) hM) ?_
    | with_reducible refine Does.ite ?_ ?_)

theorem execQueueDisable_does {M : Nat} {s0 s : State} {x0} {x1} {x2} {x3} {t : State} (e : execQueueDisable x0 x1 x2 x3 s = .next t) (hM : Sub 0x7ffff007e00000007ffff007e00000002d1580062 M) (h : Does M s0 s) :
    Does M s0 t := by
  revert e
  unfold execQueueDisable
  repeat' (first
    | with_reducible assumption
    | (intro e; with_reducible injection e with e; subst e)
    | with_reducible refine State.queueCfgWrite_does (Sub.trans (by decide) hM) ?_)

theorem execQueueDrainDone_does {M : Nat} {s0 s : State} {x0} {x1} {t : State} (e : execQueueDrainDone x0 x1 s = .next t) (hM : Sub 0x40000000000000020 M) (h : Does M s0 s) :
    Does M s0 t := by
  revert e
  unfold execQueueDrainDone State.ifOperates
  repeat' (first
    | with_reducible assumption
    | (intro e; with_reducible injection e with e; subst e)
    | with_reducible refine State.setQueueState_does (Sub.trans (by decide) hM) ?_
    | with_reducible refine Does.ite ?_ ?_)

theorem execQueueEnable_does {M : Nat} {s0 s : State} {x0} {x1} {x2} {x3} {t : State} (e : execQueueEnable x0 x1 x2 x3 s = .next t) (hM : Sub 0x7ffff007e00000007ffff007e00000002d1580062 M) (h : Does M s0 s) :
    Does M s0 t := by
  revert e
  unfold execQueueEnable
  repeat' (first
    | with_reducible assumption
    | (intro e; with_reducible injection e with e; subst e)
    | with_reducible refine State.queueCfgWrite_does (Sub.trans (by decide) hM) ?_)

theorem execQueueHeadAgeCheck_does {M : Nat} {s0 s : State} {x0} {t : State} (e : execQueueHeadAgeCheck x0 s = .next t) (hM : Sub 0x1000007c000000001044001400000002d0580062 M) (h : Does M s0 s) :
    Does M s0 t := by
  revert e
  unfold execQueueHeadAgeCheck State.ifOperates
  repeat' (first
    | with_reducible assumption
    | (intro _ _ _)
    | (intro e; with_reducible injection e with e; subst e)
    | with_reducible refine State.ageQueue_does (Sub.trans (by decide) hM) ?_
    | with_reducible refine Does.fold ?_ ?_
    | with_reducible refine Does.ite ?_ ?_)

end Sys2Proof.Machine
end

