-- ==== Sys2Proof/Laws/Cipher.lean ====
section
/-!
SUPPORT. What each operation of Machine/Cipher.lean can change, and that it takes nothing back.
-/
namespace Sys2Proof.Machine

theorem State.setCipher_does {M : Nat} {s0 s : State} {x1} {x2} (hM : Sub 17179869184 M) (h : Does M s0 s) :
    Does M s0 (State.setCipher s x1 x2) := by
  unfold State.setCipher
  repeat' (first
    | with_reducible assumption
    | refine Does.put_ciphers (Sub.trans (by decide) hM) ?_ (fun c => Sparse.wf_set _ _ _ _ c))

theorem State.beginKey_does {M : Nat} {s0 s : State} {x1} {x2} (hM : Sub 17179869184 M) (h : Does M s0 s) :
    Does M s0 (State.beginKey s x1 x2) := by
  unfold State.beginKey
  repeat' (first
    | with_reducible assumption
    | (extract_lets +onlyGivenNames x; revert x; intro _)
    | with_reducible refine State.setCipher_does (Sub.trans (by decide) hM) ?_)

theorem State.clearKeyRegs_does {M : Nat} {s0 s : State} {x1} (hM : Sub 0x10000000000000000000020 M) (h : Does M s0 s) :
    Does M s0 (State.clearKeyRegs s x1) := by
  unfold State.clearKeyRegs
  repeat' (first
    | with_reducible assumption
    | (extract_lets +onlyGivenNames x; revert x; intro _)
    | with_reducible refine State.setReg_does (Sub.trans (by decide) hM) (Sub.off (by decide) (Sub.kind (k := .cipher) rfl (by decide) hM)) ?_
    | with_reducible refine State.setWords_does (Sub.trans (by decide) hM) (Sub.fld (by decide) (Sub.kind (k := .cipher) rfl (by decide) hM)) ?_)

theorem State.countMsg_does {M : Nat} {s0 s : State} {x1} {x2} {x3} {x4} {x5} (hM : Sub 0x100007c00000000014000000000000000000062 M) (h : Does M s0 s) :
    Does M s0 (State.countMsg s x1 x2 x3 x4 x5) := by
  unfold State.countMsg
  repeat' (first
    | with_reducible assumption
    | (extract_lets +onlyGivenNames x; refine Does.cut x ?_ ?_; rotate_left; (intro hx; clear_value x; revert x; intro _ _); rotate_left; (unfold x; clear x))
    | (extract_lets +onlyGivenNames x; revert x; intro _)
    | with_reducible refine State.cadd_does (Sub.trans (by decide) hM) (Sub.fld (by decide) (Sub.kind (k := .cipher) rfl (by decide) hM)) ?_
    | with_reducible refine State.pmcEvent_does (Sub.trans (by decide) hM) (Sub.kind (k := .cipher) rfl (by decide) hM) ?_
    | with_reducible refine State.raise_does (Sub.trans (by decide) hM) (Sub.kindH (k := .cipher) rfl (by decide) hM) ?_
    | with_reducible refine Does.ite ?_ ?_)

theorem State.endKey_does {M : Nat} {s0 s : State} {x1} {x2} {x3} (hM : Sub 17179869184 M) (h : Does M s0 s) :
    Does M s0 (State.endKey s x1 x2 x3) := by
  unfold State.endKey
  repeat' (first
    | with_reducible assumption
    | (extract_lets +onlyGivenNames x; revert x; intro _)
    | with_reducible refine State.setCipher_does (Sub.trans (by decide) hM) ?_)

theorem State.startOne_does {M : Nat} {s0 s : State} {x1} {r} (e : State.startOne s x1 = some r) (hM : Sub 0x10000000000000400000040 M) (h : Does M s0 s) :
    Does M s0 r := by
  revert e
  unfold State.startOne
  repeat' (first
    | with_reducible assumption
    | (intro e; with_reducible injection e with e; subst e)
    | (intro e; with_reducible contradiction)
    | (extract_lets +onlyGivenNames x; revert x; intro _)
    | with_reducible refine State.beginKey_does (Sub.trans (by decide) hM) ?_
    | with_reducible refine State.cadd_does (Sub.trans (by decide) hM) (Sub.fld (by decide) (Sub.kind (k := .cipher) rfl (by decide) hM)) ?_
    | with_reducible refine State.setCipher_does (Sub.trans (by decide) hM) ?_
    | with_reducible refine Does.ite ?_ ?_
    | split)

theorem State.startMsgs_does {M : Nat} {s0 s : State} {x1} {x2} (hM : Sub 0x10000000000000400000040 M) (h : Does M s0 s) :
    Does M s0 (State.startMsgs s x1 x2) := by
  induction x2 generalizing s x1 with
  | zero =>
    unfold State.startMsgs
    repeat' (first
      | with_reducible assumption)
  | succ _ ih =>
    unfold State.startMsgs
    repeat' (first
      | with_reducible assumption
      | with_reducible apply ih
      | with_reducible refine State.startOne_does (r := _) (by with_reducible assumption) (Sub.trans (by decide) hM) ?_
      | split)

theorem State.endMsg_does {M : Nat} {s0 s : State} {x1} {x2} (hM : Sub 0x10000000000000400000040 M) (h : Does M s0 s) :
    Does M s0 (State.endMsg s x1 x2) := by
  unfold State.endMsg
  repeat' (first
    | with_reducible assumption
    | (extract_lets +onlyGivenNames x; refine Does.cut x ?_ ?_; rotate_left; (intro hx; clear_value x; revert x; intro _ _); rotate_left; (unfold x; clear x))
    | (extract_lets +onlyGivenNames x; revert x; intro _)
    | with_reducible refine State.endKey_does (Sub.trans (by decide) hM) ?_
    | with_reducible refine State.setCipher_does (Sub.trans (by decide) hM) ?_
    | with_reducible refine State.startMsgs_does (Sub.trans (by decide) hM) ?_
    | with_reducible refine Does.ite ?_ ?_)

theorem State.keyStatus_does {M : Nat} {s0 s : State} {x1} {x2} (hM : Sub 0x100007c00000000014000000000000000000022 M) (h : Does M s0 s) :
    Does M s0 (State.keyStatus s x1 x2) := by
  unfold State.keyStatus
  repeat' (first
    | with_reducible assumption
    | with_reducible refine State.fset_does (Sub.trans (by decide) hM) (Sub.fld (by decide) (Sub.kind (k := .cipher) rfl (by decide) hM)) ?_
    | with_reducible refine State.raiseIf_does (Sub.trans (by decide) hM) (Sub.kindH (k := .cipher) rfl (by decide) hM) ?_)

theorem State.setKeySlot_does {M : Nat} {s0 s : State} {x1} {x2} {x3} (hM : Sub 17179869184 M) (h : Does M s0 s) :
    Does M s0 (State.setKeySlot s x1 x2 x3) := by
  unfold State.setKeySlot
  repeat' (first
    | with_reducible assumption
    | (extract_lets +onlyGivenNames x; revert x; intro _)
    | with_reducible refine State.setCipher_does (Sub.trans (by decide) hM) ?_)

theorem State.keyErase_does {M : Nat} {s0 s : State} {x1} {x2} (hM : Sub 0x100007c00000000014000000000000400000022 M) (h : Does M s0 s) :
    Does M s0 (State.keyErase s x1 x2) := by
  unfold State.keyErase
  repeat' (first
    | with_reducible assumption
    | (extract_lets +onlyGivenNames x; refine Does.cut x ?_ ?_; rotate_left; (intro hx; clear_value x; revert x; intro _ _); rotate_left; (unfold x; clear x))
    | (extract_lets +onlyGivenNames x; revert x; intro _)
    | with_reducible refine State.keyStatus_does (Sub.trans (by decide) hM) ?_
    | with_reducible refine State.putRw_does (Sub.trans (by decide) hM) (Sub.off (by decide) (Sub.kind (k := .cipher) rfl (by decide) hM)) ?_
    | with_reducible refine State.setKeySlot_does (Sub.trans (by decide) hM) ?_)

theorem State.keyInfo_does {M : Nat} {s0 s : State} {x1} {x2} (hM : Sub 0x100007c00000000014000000000000000000022 M) (h : Does M s0 s) :
    Does M s0 (State.keyInfo s x1 x2) := by
  unfold State.keyInfo
  repeat' (first
    | with_reducible assumption
    | (extract_lets +onlyGivenNames x; refine Does.cut x ?_ ?_; rotate_left; (intro hx; clear_value x; revert x; intro _ _); rotate_left; (unfold x; clear x))
    | (extract_lets +onlyGivenNames x; revert x; intro _)
    | with_reducible refine State.keyStatus_does (Sub.trans (by decide) hM) ?_
    | with_reducible refine State.putRw_does (Sub.trans (by decide) hM) (Sub.off (by decide) (Sub.kind (k := .cipher) rfl (by decide) hM)) ?_
    | with_reducible refine State.setReg_does (Sub.trans (by decide) hM) (Sub.off (by decide) (Sub.kind (k := .cipher) rfl (by decide) hM)) ?_)

theorem State.keyWrite_does {M : Nat} {s0 s : State} {x1} {x2} (hM : Sub 0x100007c00000000014000000000000400000022 M) (h : Does M s0 s) :
    Does M s0 (State.keyWrite s x1 x2) := by
  unfold State.keyWrite
  repeat' (first
    | with_reducible assumption
    | (extract_lets +onlyGivenNames x; refine Does.cut x ?_ ?_; rotate_left; (intro hx; clear_value x; revert x; intro _ _); rotate_left; (unfold x; clear x))
    | (extract_lets +onlyGivenNames x; revert x; intro _)
    | with_reducible refine State.clearKeyRegs_does (Sub.trans (by decide) hM) ?_
    | with_reducible refine State.keyStatus_does (Sub.trans (by decide) hM) ?_
    | with_reducible refine State.putRw_does (Sub.trans (by decide) hM) (Sub.off (by decide) (Sub.kind (k := .cipher) rfl (by decide) hM)) ?_
    | with_reducible refine State.setKeySlot_does (Sub.trans (by decide) hM) ?_
    | with_reducible refine Does.ite ?_ ?_)

theorem State.submitMsg_does {M : Nat} {s0 s : State} {x1} {x2} (hM : Sub 0x10000000000000400000040 M) (h : Does M s0 s) :
    Does M s0 (State.submitMsg s x1 x2) := by
  unfold State.submitMsg
  repeat' (first
    | with_reducible assumption
    | (extract_lets +onlyGivenNames x; revert x; intro _)
    | with_reducible refine State.cadd_does (Sub.trans (by decide) hM) (Sub.fld (by decide) (Sub.kind (k := .cipher) rfl (by decide) hM)) ?_
    | with_reducible refine State.setCipher_does (Sub.trans (by decide) hM) ?_
    | with_reducible refine State.startMsgs_does (Sub.trans (by decide) hM) ?_)

theorem State.zeroise_does {M : Nat} {s0 s : State} {x1} {x2} (hM : Sub 0x100007c00000000004000000000000400000022 M) (h : Does M s0 s) :
    Does M s0 (State.zeroise s x1 x2) := by
  unfold State.zeroise
  repeat' (first
    | with_reducible assumption
    | (extract_lets +onlyGivenNames x; revert x; intro _)
    | with_reducible refine State.raise_does (Sub.trans (by decide) hM) (Sub.kindH (k := .cipher) rfl (by decide) hM) ?_
    | with_reducible refine State.setKeySlot_does (Sub.trans (by decide) hM) ?_
    | with_reducible refine Does.ite ?_ ?_)

theorem execKeyErase_does {M : Nat} {s0 s : State} {x0} {x1} {x2} {t : State} (e : execKeyErase x0 x1 x2 s = .next t) (hM : Sub 0x140007c00000000014000000000000401000022 M) (h : Does M s0 s) :
    Does M s0 t := by
  revert e
  unfold execKeyErase
  repeat' (first
    | with_reducible assumption
    | (intro _ _ _ _)
    | (intro e; with_reducible injection e with e; subst e)
    | with_reducible refine State.accessKind_does (Sub.trans (by decide) hM) ?_ ?_
    | with_reducible refine State.keyErase_does (Sub.trans (by decide) hM) ?_)

theorem execKeyInfo_does {M : Nat} {s0 s : State} {x0} {x1} {x2} {t : State} (e : execKeyInfo x0 x1 x2 s = .next t) (hM : Sub 0x140007c00000000014000000000000001000022 M) (h : Does M s0 s) :
    Does M s0 t := by
  revert e
  unfold execKeyInfo
  repeat' (first
    | with_reducible assumption
    | (intro _ _ _ _)
    | (intro e; with_reducible injection e with e; subst e)
    | with_reducible refine State.accessKind_does (Sub.trans (by decide) hM) ?_ ?_
    | with_reducible refine State.keyInfo_does (Sub.trans (by decide) hM) ?_)

theorem execKeyWrite_does {M : Nat} {s0 s : State} {x0} {x1} {x2} {t : State} (e : execKeyWrite x0 x1 x2 s = .next t) (hM : Sub 0x140007c00000000014000000000000401000022 M) (h : Does M s0 s) :
    Does M s0 t := by
  revert e
  unfold execKeyWrite
  repeat' (first
    | with_reducible assumption
    | (intro _ _ _ _)
    | (intro e; with_reducible injection e with e; subst e)
    | with_reducible refine State.accessKind_does (Sub.trans (by decide) hM) ?_ ?_
    | with_reducible refine State.keyWrite_does (Sub.trans (by decide) hM) ?_)

theorem execKeyZeroise_does {M : Nat} {s0 s : State} {x0} {x1} {t : State} (e : execKeyZeroise x0 x1 s = .next t) (hM : Sub 0x100007c00000000004000000000000400000022 M) (h : Does M s0 s) :
    Does M s0 t := by
  revert e
  unfold execKeyZeroise State.ifOperates
  repeat' (first
    | with_reducible assumption
    | (intro e; with_reducible injection e with e; subst e)
    | with_reducible refine State.zeroise_does (Sub.trans (by decide) hM) ?_
    | with_reducible refine Does.ite ?_ ?_)

end Sys2Proof.Machine
end

