-- ==== Sys2Proof/Laws/Qdr.lean ====
section
/-!
SUPPORT. What each operation of Machine/Qdr.lean can change, and that it takes nothing back.
-/
namespace Sys2Proof.Machine

theorem State.qdrReport_does {M : Nat} {s0 s : State} {x1} {x2} {x3} (hM : Sub 0x8007c00000000004800000000000000000062 M) (h : Does M s0 s) :
    Does M s0 (State.qdrReport s x1 x2 x3) := by
  unfold State.qdrReport
  repeat' (first
    | with_reducible assumption
    | (extract_lets +onlyGivenNames x; revert x; intro _)
    | with_reducible refine State.cadd_does (Sub.trans (by decide) hM) (Sub.fld (by decide) (Sub.kind (k := .qdr) rfl (by decide) hM)) ?_
    | with_reducible refine State.raise_does (Sub.trans (by decide) hM) (Sub.kindH (k := .qdr) rfl (by decide) hM) ?_
    | with_reducible refine State.setReg_does (Sub.trans (by decide) hM) (Sub.off (by decide) (Sub.kind (k := .qdr) rfl (by decide) hM)) ?_
    | split)

theorem State.qdrStart_does {M : Nat} {s0 s : State} {x1} {x2} {x3} (hM : Sub 0x8007c00000000004800000000000000020022 M) (h : Does M s0 s) :
    Does M s0 (State.qdrStart s x1 x2 x3) := by
  unfold State.qdrStart
  repeat' (first
    | with_reducible assumption
    | (extract_lets +onlyGivenNames x; refine Does.cut x ?_ ?_; rotate_left; (intro hx; clear_value x; revert x; intro _ _); rotate_left; (unfold x; clear x))
    | (extract_lets +onlyGivenNames x; revert x; intro _)
    | with_reducible refine State.bset_does (Sub.trans (by decide) hM) (Sub.fld (by decide) (Sub.kind (k := .qdr) rfl (by decide) hM)) ?_
    | with_reducible refine State.errCount_does (Sub.trans (by decide) hM) (Sub.kindH (k := .qdr) rfl (by decide) hM) ?_
    | with_reducible refine State.putRw_does (Sub.trans (by decide) hM) (Sub.off (by decide) (Sub.kind (k := .qdr) rfl (by decide) hM)) ?_
    | with_reducible refine Does.ite ?_ ?_
    | refine Does.put_qdrBusy (Sub.trans (by decide) hM) ?_ (fun c => Sparse.wf_set _ _ _ _ c))

theorem State.setQdr_does {M : Nat} {s0 s : State} {x1} {x2} {x3} (hM : Sub 65536 M) (h : Does M s0 s) :
    Does M s0 (State.setQdr s x1 x2 x3) := by
  unfold State.setQdr
  repeat' (first
    | with_reducible assumption
    | refine Does.put_qdr (Sub.trans (by decide) hM) ?_ (fun c => Sparse.wf_set _ _ _ _ c))

theorem execQdrAccessDone_does {M : Nat} {s0 s : State} {x0} {x1} {t : State} (e : execQdrAccessDone x0 x1 s = .next t) (hM : Sub 0x8007c00000000004800000000000000070062 M) (h : Does M s0 s) :
    Does M s0 t := by
  revert e
  unfold execQdrAccessDone State.ifOperates
  repeat' (first
    | with_reducible assumption
    | (intro e; with_reducible injection e with e; subst e)
    | (extract_lets +onlyGivenNames x; refine Does.cut x ?_ ?_; rotate_left; (intro hx; clear_value x; revert x; intro _ _); rotate_left; (unfold x; clear x))
    | (extract_lets +onlyGivenNames x; revert x; intro _)
    | with_reducible refine State.bset_does (Sub.trans (by decide) hM) (Sub.fld (by decide) (Sub.kind (k := .qdr) rfl (by decide) hM)) ?_
    | with_reducible refine State.qdrReport_does (Sub.trans (by decide) hM) ?_
    | with_reducible refine State.setQdr_does (Sub.trans (by decide) hM) ?_
    | with_reducible refine State.setWords_does (Sub.trans (by decide) hM) (Sub.fld (by decide) (Sub.kind (k := .qdr) rfl (by decide) hM)) ?_
    | with_reducible refine Does.ite ?_ ?_
    | split
    | refine Does.put_qdrBusy (Sub.trans (by decide) hM) ?_ (fun c => Sparse.wf_set _ _ _ _ c)
    | refine Does.put_clss (Sub.trans (by decide) hM) ?_ (fun c => Sparse.wf_set _ _ _ _ c))

theorem execQdrRead_does {M : Nat} {s0 s : State} {x0} {x1} {x2} {t : State} (e : execQdrRead x0 x1 x2 s = .next t) (hM : Sub 0x48007c00000000004800000000000001020022 M) (h : Does M s0 s) :
    Does M s0 t := by
  revert e
  unfold execQdrRead
  repeat' (first
    | with_reducible assumption
    | (intro _ _ _ _)
    | (intro e; with_reducible injection e with e; subst e)
    | with_reducible refine State.accessKind_does (Sub.trans (by decide) hM) ?_ ?_
    | with_reducible refine State.qdrStart_does (Sub.trans (by decide) hM) ?_)

theorem execQdrWrite_does {M : Nat} {s0 s : State} {x0} {x1} {x2} {t : State} (e : execQdrWrite x0 x1 x2 s = .next t) (hM : Sub 0x48007c00000000004800000000000001020022 M) (h : Does M s0 s) :
    Does M s0 t := by
  revert e
  unfold execQdrWrite
  repeat' (first
    | with_reducible assumption
    | (intro _ _ _ _)
    | (intro e; with_reducible injection e with e; subst e)
    | with_reducible refine State.accessKind_does (Sub.trans (by decide) hM) ?_ ?_
    | with_reducible refine State.qdrStart_does (Sub.trans (by decide) hM) ?_)

end Sys2Proof.Machine
end

