-- ==== Sys2Proof/Laws/Classifier.lean ====
section
/-!
SUPPORT. What each operation of Machine/Classifier.lean can change, and that it takes nothing back.
-/
namespace Sys2Proof.Machine

theorem State.setCls_does {M : Nat} {s0 s : State} {x1} {x2} (hM : Sub 262144 M) (h : Does M s0 s) :
    Does M s0 (State.setCls s x1 x2) := by
  unfold State.setCls
  repeat' (first
    | with_reducible assumption
    | refine Does.put_clss (Sub.trans (by decide) hM) ?_ (fun c => Sparse.wf_set _ _ _ _ c))

theorem State.cacheFlush_does {M : Nat} {s0 s : State} {x1 : Page} {x2} (hM : Sub 262176 M) (hB1 : Sub x1.blk M) (h : Does M s0 s) :
    Does M s0 (State.cacheFlush s x1 x2) := by
  unfold State.cacheFlush
  repeat' (first
    | with_reducible assumption
    | (extract_lets +onlyGivenNames x; revert x; intro _)
    | with_reducible refine State.putRw_does (Sub.trans (by decide) hM) (Sub.off (by decide) hB1) ?_
    | with_reducible refine State.setCls_does (Sub.trans (by decide) hM) ?_)

theorem State.cacheInsert_does {M : Nat} {s0 s : State} {x1} {x2} {x3} {x4} (hM : Sub 262144 M) (h : Does M s0 s) :
    Does M s0 (State.cacheInsert s x1 x2 x3 x4) := by
  unfold State.cacheInsert
  repeat' (first
    | with_reducible assumption
    | (extract_lets +onlyGivenNames x; revert x; intro _)
    | with_reducible refine State.setCls_does (Sub.trans (by decide) hM) ?_)

theorem State.cacheLookup_does {M : Nat} {s0 s : State} {x1} {x2} {x3} {r} (e : State.cacheLookup s x1 x2 x3 = r) (hM : Sub 262144 M) (h : Does M s0 s) :
    Does M s0 r.2 := by
  subst e
  unfold State.cacheLookup
  repeat' (first
    | with_reducible assumption
    | (extract_lets +onlyGivenNames x; revert x; intro _)
    | with_reducible refine State.setCls_does (Sub.trans (by decide) hM) ?_
    | split)

theorem State.issueWalk_does {M : Nat} {s0 s : State} {x1} {x2} (hM : Sub 0x240000000000000040080040 M) (h : Does M s0 s) :
    Does M s0 (State.issueWalk s x1 x2) := by
  unfold State.issueWalk
  repeat' (first
    | with_reducible assumption
    | with_reducible refine State.cadd_does (Sub.trans (by decide) hM) (Sub.fld (by decide) (Sub.kind (k := .cls) rfl (by decide) hM)) ?_
    | with_reducible refine State.chargeFrm_does (Sub.trans (by decide) hM) ?_
    | with_reducible refine State.pmcEvent_does (Sub.trans (by decide) hM) (Sub.kind (k := .cls) rfl (by decide) hM) ?_)

theorem State.fifoPush_does {M : Nat} {s0 s : State} {x1} {x2} {x3} {x4} {x5} (hM : Sub 0x2400000000000000400c0040 M) (h : Does M s0 s) :
    Does M s0 (State.fifoPush s x1 x2 x3 x4 x5) := by
  unfold State.fifoPush
  repeat' (first
    | with_reducible assumption
    | (extract_lets +onlyGivenNames x; revert x; intro _)
    | with_reducible refine State.issueWalk_does (Sub.trans (by decide) hM) ?_
    | with_reducible refine State.setCls_does (Sub.trans (by decide) hM) ?_
    | with_reducible refine Does.ite ?_ ?_
    | split)

theorem State.rootWrite_does {M : Nat} {s0 s : State} {x1} {x2} {x3} {x4} (hM : Sub 0x2000007c00000000204000000000000000000022 M) (h : Does M s0 s) :
    Does M s0 (State.rootWrite s x1 x2 x3 x4) := by
  unfold State.rootWrite
  repeat' (first
    | with_reducible assumption
    | (extract_lets +onlyGivenNames x; revert x; intro _)
    | with_reducible refine State.errCount_does (Sub.trans (by decide) hM) (Sub.kindH (k := .cls) rfl (by decide) hM) ?_
    | with_reducible refine State.putRw_does (Sub.trans (by decide) hM) (Sub.offB (Sub.kind (k := .cls) rfl (by decide) hM) (Sub.kindH (k := .cls) rfl (by decide) hM)) ?_
    | with_reducible refine Does.ite ?_ ?_)

theorem State.swapStart_does {M : Nat} {s0 s : State} {x1} {x2} {x3} (hM : Sub 0x2000007c00000000204000000000000000040022 M) (h : Does M s0 s) :
    Does M s0 (State.swapStart s x1 x2 x3) := by
  unfold State.swapStart
  repeat' (first
    | with_reducible assumption
    | (extract_lets +onlyGivenNames x; refine Does.cut x ?_ ?_; rotate_left; (intro hx; clear_value x; revert x; intro _ _); rotate_left; (unfold x; clear x))
    | (extract_lets +onlyGivenNames x; revert x; intro _)
    | with_reducible refine State.bset_does (Sub.trans (by decide) hM) (Sub.fld (by decide) (Sub.kind (k := .cls) rfl (by decide) hM)) ?_
    | with_reducible refine State.errCount_does (Sub.trans (by decide) hM) (Sub.kindH (k := .cls) rfl (by decide) hM) ?_
    | with_reducible refine State.putRw_does (Sub.trans (by decide) hM) (Sub.off (Fld.le_at (by decide)) (Sub.kind (k := .cls) rfl (by decide) hM)) ?_
    | with_reducible refine State.setCls_does (Sub.trans (by decide) hM) ?_
    | with_reducible refine Does.ite ?_ ?_)

theorem State.tcamFallback_does {M : Nat} {s0 s : State} {x1} {x2} {x3} {x4} {x5} {r} (e : State.tcamFallback s x1 x2 x3 x4 x5 = r) (hM : Sub 0x7c00000000204000100000000000008066 M) (h : Does M s0 s) :
    Does M s0 r.2 := by
  subst e
  unfold State.tcamFallback
  repeat' (first
    | with_reducible assumption
    | with_reducible refine State.cadd_does (Sub.trans (by decide) hM) (Sub.fld (by decide) (Sub.kind (k := .cls) rfl (by decide) hM)) ?_
    | with_reducible refine State.tcamSearch_does rfl (Sub.trans (by decide) hM) ?_
    | with_reducible refine Does.of2 (by with_reducible assumption) ?_
    | split)

theorem State.ttCmd_does {M : Nat} {s0 s : State} {x1} {x2} {x3} (hM : Sub 0x200000000000000000040020 M) (h : Does M s0 s) :
    Does M s0 (State.ttCmd s x1 x2 x3) := by
  unfold State.ttCmd
  repeat' (first
    | with_reducible assumption
    | (extract_lets +onlyGivenNames x; refine Does.cut x ?_ ?_; rotate_left; (intro hx; clear_value x; revert x; intro _ _); rotate_left; (unfold x; clear x))
    | (extract_lets +onlyGivenNames x; revert x; intro _)
    | with_reducible refine State.putRw_does (Sub.trans (by decide) hM) (Sub.off (by decide) (Sub.kind (k := .cls) rfl (by decide) hM)) ?_
    | with_reducible refine State.setCls_does (Sub.trans (by decide) hM) ?_
    | with_reducible refine State.setReg_does (Sub.trans (by decide) hM) (Sub.off (by decide) (Sub.kind (k := .cls) rfl (by decide) hM)) ?_
    | with_reducible refine Does.ite ?_ ?_)

theorem State.walk_does {M : Nat} {s0 s : State} {x1} {x2} {x3} {x4} {x5} {r} (e : State.walk s x1 x2 x3 x4 x5 = r) (hM : Sub 0x8007c00000000204800000000000000000062 M) (h : Does M s0 s) :
    Does M s0 r.2 := by
  induction x3 generalizing s r x1 x2 x4 x5 with
  | zero =>
    subst e; unfold State.walk
    repeat' (first
      | with_reducible assumption)
  | succ _ ih =>
    subst e; unfold State.walk
    repeat' (first
      | with_reducible assumption
      | (extract_lets +onlyGivenNames x; refine Does.cut x ?_ ?_; rotate_left; (intro hx; clear_value x; revert x; intro _ _); rotate_left; (unfold x; clear x))
      | (extract_lets +onlyGivenNames x; revert x; intro _)
      | with_reducible refine ih rfl ?_
      | with_reducible refine State.pmcEvent_does (Sub.trans (by decide) hM) (Sub.kind (k := .qdr) rfl (by decide) hM) ?_
      | with_reducible refine State.pmcEvent_does (Sub.trans (by decide) hM) (Sub.kind (k := .cls) rfl (by decide) hM) ?_
      | with_reducible refine State.qdrReport_does (Sub.trans (by decide) hM) ?_
      | split)

theorem State.walkDecide_does {M : Nat} {s0 s : State} {x1} {x2} {x3} {x4} {x5} {r} (e : State.walkDecide s x1 x2 x3 x4 x5 = r) (hM : Sub 0x2008007c00000000204800000000000000040062 M) (h : Does M s0 s) :
    Does M s0 r.2 := by
  subst e
  unfold State.walkDecide
  repeat' (first
    | with_reducible assumption
    | (extract_lets +onlyGivenNames x; revert x; intro _)
    | with_reducible refine State.cacheInsert_does (Sub.trans (by decide) hM) ?_
    | with_reducible refine State.cadd_does (Sub.trans (by decide) hM) (Sub.fld (by decide) (Sub.kind (k := .cls) rfl (by decide) hM)) ?_
    | with_reducible refine State.fset_does (Sub.trans (by decide) hM) (Sub.fld (by decide) (Sub.kind (k := .cls) rfl (by decide) hM)) ?_
    | with_reducible refine State.raise_does (Sub.trans (by decide) hM) (Sub.kindH (k := .cls) rfl (by decide) hM) ?_
    | with_reducible refine State.walk_does rfl (Sub.trans (by decide) hM) ?_
    | with_reducible refine Does.ite ?_ ?_
    | with_reducible refine Does.of2 (by with_reducible assumption) ?_
    | split)

theorem execClsCacheFlush_does {M : Nat} {s0 s : State} {x0} {x1} {x2} {t : State} (e : execClsCacheFlush x0 x1 x2 s = .next t) (hM : Sub 0x40007c00000000204000000000000001040022 M) (h : Does M s0 s) :
    Does M s0 t := by
  revert e
  unfold execClsCacheFlush
  repeat' (first
    | with_reducible assumption
    | (intro _ _ _ _)
    | (intro e; with_reducible injection e with e; subst e)
    | with_reducible refine State.accessKind_does (Sub.trans (by decide) hM) ?_ ?_
    | with_reducible refine State.cacheFlush_does (Sub.trans (by decide) hM) (Sub.kind (k := .cls) (by with_reducible assumption) (by decide) hM) ?_)

theorem execClsTreeRootWrite_does {M : Nat} {s0 s : State} {x0} {x1} {x2} {x3} {x4} {t : State} (e : execClsTreeRootWrite x0 x1 x2 x3 x4 s = .next t) (hM : Sub 0x2040007c00000000204000000000000001000022 M) (h : Does M s0 s) :
    Does M s0 t := by
  revert e
  unfold execClsTreeRootWrite
  repeat' (first
    | with_reducible assumption
    | (intro _ _ _ _)
    | (intro e; with_reducible injection e with e; subst e)
    | with_reducible refine State.accessKind_does (Sub.trans (by decide) hM) ?_ ?_
    | with_reducible refine State.rootWrite_does (Sub.trans (by decide) hM) ?_)

theorem execClsTreeSwap_does {M : Nat} {s0 s : State} {x0} {x1} {x2} {x3} {t : State} (e : execClsTreeSwap x0 x1 x2 x3 s = .next t) (hM : Sub 0x2040007c00000000204000000000000001040022 M) (h : Does M s0 s) :
    Does M s0 t := by
  revert e
  unfold execClsTreeSwap
  repeat' (first
    | with_reducible assumption
    | (intro _ _ _ _)
    | (intro e; with_reducible injection e with e; subst e)
    | with_reducible refine State.accessKind_does (Sub.trans (by decide) hM) ?_ ?_
    | with_reducible refine State.swapStart_does (Sub.trans (by decide) hM) ?_)

theorem execClsTtRead_does {M : Nat} {s0 s : State} {x0} {x1} {x2} {t : State} (e : execClsTtRead x0 x1 x2 s = .next t) (hM : Sub 0x40007c00000000204000000000000001040022 M) (h : Does M s0 s) :
    Does M s0 t := by
  revert e
  unfold execClsTtRead
  repeat' (first
    | with_reducible assumption
    | (intro _ _ _ _)
    | (intro e; with_reducible injection e with e; subst e)
    | with_reducible refine State.accessKind_does (Sub.trans (by decide) hM) ?_ ?_
    | with_reducible refine State.ttCmd_does (Sub.trans (by decide) hM) ?_)

theorem execClsTtWrite_does {M : Nat} {s0 s : State} {x0} {x1} {x2} {t : State} (e : execClsTtWrite x0 x1 x2 s = .next t) (hM : Sub 0x40007c00000000204000000000000001040022 M) (h : Does M s0 s) :
    Does M s0 t := by
  revert e
  unfold execClsTtWrite
  repeat' (first
    | with_reducible assumption
    | (intro _ _ _ _)
    | (intro e; with_reducible injection e with e; subst e)
    | with_reducible refine State.accessKind_does (Sub.trans (by decide) hM) ?_ ?_
    | with_reducible refine State.ttCmd_does (Sub.trans (by decide) hM) ?_)

theorem execTreeFailedMark_does {M : Nat} {s0 s : State} {x0} {x1} {t : State} (e : execTreeFailedMark x0 x1 s = .next t) (hM : Sub 0x2000007c00000000204000000000000000000022 M) (h : Does M s0 s) :
    Does M s0 t := by
  revert e
  unfold execTreeFailedMark State.ifOperates
  repeat' (first
    | with_reducible assumption
    | (intro _ _ _)
    | (intro e; with_reducible injection e with e; subst e)
    | with_reducible refine State.bset_does (Sub.trans (by decide) hM) (Sub.fld (by decide) (Sub.kind (k := .cls) rfl (by decide) hM)) ?_
    | with_reducible refine State.raise_does (Sub.trans (by decide) hM) (Sub.kindH (k := .cls) rfl (by decide) hM) ?_
    | with_reducible refine Does.fold ?_ ?_
    | with_reducible refine Does.ite ?_ ?_)

end Sys2Proof.Machine
end

