-- ==== Sys2Proof/Laws/Dma.lean ====
section
/-!
SUPPORT. What each operation of Machine/Dma.lean can change, and that it takes nothing back.
-/
namespace Sys2Proof.Machine

theorem State.dmaBytes_does {M : Nat} {s0 s : State} {x1} {x2} (hM : Sub 0x4000000000000000000040 M) (h : Does M s0 s) :
    Does M s0 (State.dmaBytes s x1 x2) := by
  unfold State.dmaBytes
  repeat' (first
    | with_reducible assumption
    | with_reducible refine State.pmcEvent_does (Sub.trans (by decide) hM) (Sub.kind (k := .hif) rfl (by decide) hM) ?_)

theorem State.pendingRecs_does {M : Nat} {s0 s : State} {x1} (hM : Sub 0x8000000000000000000020 M) (h : Does M s0 s) :
    Does M s0 (State.pendingRecs s x1) := by
  unfold State.pendingRecs
  repeat' (first
    | with_reducible assumption
    | with_reducible refine State.fset_does (Sub.trans (by decide) hM) (Sub.fld (by decide) (Sub.kind (k := .dtu) rfl (by decide) hM)) ?_)

theorem State.setRecValid_does {M : Nat} {s0 s : State} {x1} {x2} {x3} (hM : Sub 0x80000000000000008000000000000000000020 M) (h : Does M s0 s) :
    Does M s0 (State.setRecValid s x1 x2 x3) := by
  unfold State.setRecValid
  repeat' (first
    | with_reducible assumption
    | (extract_lets +onlyGivenNames x; revert x; intro _)
    | with_reducible refine State.bset_does (Sub.trans (by decide) hM) (Sub.fld (by decide) (Sub.kind (k := .dtu) rfl (by decide) hM)) ?_
    | with_reducible refine State.fset_does (Sub.trans (by decide) hM) (Sub.fldB (Sub.kind (k := .dtu) rfl (by decide) hM) (Sub.kindH (k := .dtu) rfl (by decide) hM)) ?_)

theorem State.recTake_does {M : Nat} {s0 s : State} {x1} {x2} {r} (e : State.recTake s x1 x2 = r) (hM : Sub 0x80007c0000000000c000000000000000000022 M) (h : Does M s0 s) :
    Does M s0 r.2 := by
  subst e
  unfold State.recTake
  repeat' (first
    | with_reducible assumption
    | (extract_lets +onlyGivenNames x; refine Does.cut x ?_ ?_; rotate_left; (intro hx; clear_value x; revert x; intro _ _); rotate_left; (unfold x; clear x))
    | (extract_lets +onlyGivenNames x; revert x; intro _)
    | with_reducible refine State.fsat_does (Sub.trans (by decide) hM) (Sub.fld (by decide) (Sub.kind (k := .dtu) rfl (by decide) hM)) ?_
    | with_reducible refine State.raise_does (Sub.trans (by decide) hM) (Sub.kindH (k := .dtu) rfl (by decide) hM) ?_
    | with_reducible refine State.setRecValid_does (Sub.trans (by decide) hM) ?_
    | with_reducible refine State.setReg_does (Sub.trans (by decide) hM) (Sub.off (Fld.le_at (by decide)) (Sub.kind (k := .dtu) rfl (by decide) hM)) ?_
    | split)

theorem State.setHost_does {M : Nat} {s0 s : State} {x1} {x2} (hM : Sub 68719476736 M) (h : Does M s0 s) :
    Does M s0 (State.setHost s x1 x2) := by
  unfold State.setHost
  repeat' (first
    | with_reducible assumption
    | refine Does.put_hosts (Sub.trans (by decide) hM) ?_ (fun c => Sparse.wf_set _ _ _ _ c))

theorem State.dmaFault_does {M : Nat} {s0 s : State} {x1} {x2} {x3} {x4} {x5} {x6} (hM : Sub 0x80007c0000000000c000000000001000000022 M) (h : Does M s0 s) :
    Does M s0 (State.dmaFault s x1 x2 x3 x4 x5 x6) := by
  unfold State.dmaFault
  repeat' (first
    | with_reducible assumption
    | with_reducible refine State.pendingRecs_does (Sub.trans (by decide) hM) ?_
    | with_reducible refine State.recTake_does rfl (Sub.trans (by decide) hM) ?_
    | with_reducible refine State.setHost_does (Sub.trans (by decide) hM) ?_)

theorem State.translate_does {M : Nat} {s0 s : State} {x1} {x2} {x3} {x4} {x5} {r} (e : State.translate s x1 x2 x3 x4 x5 = r) (hM : Sub 68719476736 M) (h : Does M s0 s) :
    Does M s0 r.2 := by
  subst e
  unfold State.translate
  repeat' (first
    | with_reducible assumption
    | (extract_lets +onlyGivenNames x; revert x; intro _)
    | with_reducible refine State.setHost_does (Sub.trans (by decide) hM) ?_
    | split
    | (clear_value *; split))

theorem State.dmaRead_does {M : Nat} {s0 s : State} {x1} {x2} {x3} {x4} {x5} {x6} {x7} {r} (e : State.dmaRead s x1 x2 x3 x4 x5 x6 x7 = r) (hM : Sub 0x80007c0000000000c000000000001000000062 M) (h : Does M s0 s) :
    Does M s0 r.2 := by
  subst e
  unfold State.dmaRead
  repeat' (first
    | with_reducible assumption
    | (extract_lets +onlyGivenNames x; revert x; intro _)
    | with_reducible refine State.dmaBytes_does (Sub.trans (by decide) hM) ?_
    | with_reducible refine State.dmaFault_does (Sub.trans (by decide) hM) ?_
    | with_reducible refine State.translate_does rfl (Sub.trans (by decide) hM) ?_
    | with_reducible refine Does.of2 (by with_reducible assumption) ?_
    | split)

theorem State.dmaWrite_does {M : Nat} {s0 s : State} {x1} {x2} {x3} {x4} {x5} {x6} {x7} {r} (e : State.dmaWrite s x1 x2 x3 x4 x5 x6 x7 = r) (hM : Sub 0x80007c0000000000c000000000001000000062 M) (h : Does M s0 s) :
    Does M s0 r.2.2 := by
  induction x4 generalizing s r x1 x2 x3 x5 x6 x7 with
  | zero =>
    subst e; unfold State.dmaWrite
    repeat' (first
      | with_reducible assumption)
  | succ _ ih =>
    subst e; unfold State.dmaWrite
    repeat' (first
      | with_reducible assumption
      | (extract_lets +onlyGivenNames x; revert x; intro _)
      | with_reducible refine ih rfl ?_
      | with_reducible refine State.dmaBytes_does (Sub.trans (by decide) hM) ?_
      | with_reducible refine State.dmaFault_does (Sub.trans (by decide) hM) ?_
      | with_reducible refine State.emit_does (Sub.trans (by decide) hM) ?_
      | with_reducible refine State.translate_does rfl (Sub.trans (by decide) hM) ?_
      | with_reducible refine Does.of2 (by with_reducible assumption) ?_
      | split)

theorem State.dmaWrites_does {M : Nat} {s0 s : State} {x1} {x2} {x3} {x4} {x5} {r} (e : State.dmaWrites s x1 x2 x3 x4 x5 = r) (hM : Sub 0x80007c0000000000c000000000001000000062 M) (h : Does M s0 s) :
    Does M s0 r.2.2 := by
  induction x4 generalizing s r x1 x2 x3 x5 with
  | nil =>
    subst e; unfold State.dmaWrites
    repeat' (first
      | with_reducible assumption)
  | cons _ _ ih =>
    subst e; unfold State.dmaWrites
    repeat' (first
      | with_reducible assumption
      | with_reducible refine ih rfl ?_
      | with_reducible refine State.dmaWrite_does rfl (Sub.trans (by decide) hM) ?_
      | with_reducible refine Does.of3 (by with_reducible assumption) ?_
      | split)

end Sys2Proof.Machine
end

