-- ==== Sys2Proof/Laws/Forward.lean ====
section
/-!
SUPPORT. What each operation of Machine/Forward.lean can change, and that it takes nothing back.
-/
namespace Sys2Proof.Machine

theorem State.dropFirst_does {M : Nat} {s0 s : State} {x1} {r} (e : State.dropFirst s x1 = r) (hM : Sub 0x1000007c000000001044001400000002c0180062 M) (h : Does M s0 s) :
    Does M s0 r.2 := by
  subst e
  unfold State.dropFirst
  repeat' (first
    | with_reducible assumption
    | (extract_lets +onlyGivenNames x; refine Does.cut x.2 ?_ ?_; rotate_left; (intro hx; clear_value x; revert x; intro _ _); rotate_left; (unfold x; clear x))
    | with_reducible refine State.dropEarly_does (Sub.trans (by decide) hM) ?_
    | with_reducible refine State.newFrm_does rfl (Sub.trans (by decide) hM) ?_
    | split)

theorem State.choose_does {M : Nat} {s0 s : State} {x1} {x2} {x3} {r} (e : State.choose s x1 x2 x3 = r) (hM : Sub 0x7c00000000004000100000000000008062 M) (h : Does M s0 s) :
    Does M s0 r.2 := by
  subst e
  unfold State.choose
  repeat' (first
    | with_reducible assumption
    | (extract_lets +onlyGivenNames x; refine Does.cut x ?_ ?_; rotate_left; (intro hx; clear_value x; revert x; intro _ _); rotate_left; (unfold x; clear x))
    | (extract_lets +onlyGivenNames x; revert x; intro _)
    | with_reducible refine State.countRead_does (Sub.trans (by decide) hM) ?_
    | with_reducible refine State.parityError_does (Sub.trans (by decide) hM) ?_
    | split)

theorem State.resolveHop_does {M : Nat} {s0 s : State} {x1} {x2} {x3} {r} (e : State.resolveHop s x1 x2 x3 = r) (hM : Sub 0x7c00000000004000100000000000008062 M) (h : Does M s0 s) :
    Does M s0 r.2.2 := by
  subst e
  unfold State.resolveHop
  repeat' (first
    | with_reducible assumption
    | (extract_lets +onlyGivenNames x; refine Does.cut x ?_ ?_; rotate_left; (intro hx; clear_value x; revert x; intro _ _); rotate_left; (unfold x; clear x))
    | (extract_lets +onlyGivenNames x; revert x; intro _)
    | with_reducible refine State.choose_does rfl (Sub.trans (by decide) hM) ?_
    | with_reducible refine State.countRead_does (Sub.trans (by decide) hM) ?_
    | with_reducible refine State.parityError_does (Sub.trans (by decide) hM) ?_
    | with_reducible refine Does.of2 (by with_reducible assumption) ?_
    | split)

theorem State.resolveDest_does {M : Nat} {s0 s : State} {x1} {x2} {r} (e : State.resolveDest s x1 x2 = r) (hM : Sub 0x7c00000000004000100000000000008062 M) (h : Does M s0 s) :
    Does M s0 r.2.2 := by
  subst e
  unfold State.resolveDest
  repeat' (first
    | with_reducible assumption
    | (extract_lets +onlyGivenNames x; revert x; intro _)
    | with_reducible refine State.choose_does rfl (Sub.trans (by decide) hM) ?_
    | with_reducible refine State.resolveHop_does rfl (Sub.trans (by decide) hM) ?_
    | with_reducible refine Does.of2 (by with_reducible assumption) ?_
    | split)

theorem State.resolve_does {M : Nat} {s0 s : State} {x1} {x2} {r} (e : State.resolve s x1 x2 = r) (hM : Sub 0x7c00000000004000100000000000008062 M) (h : Does M s0 s) :
    Does M s0 r.2 := by
  subst e
  unfold State.resolve
  repeat' (first
    | with_reducible assumption
    | (extract_lets +onlyGivenNames x; revert x; intro _)
    | with_reducible refine State.raiseIf_does (Sub.trans (by decide) hM) (Sub.kindH (k := .slice) rfl (by decide) hM) ?_
    | with_reducible refine State.resolveDest_does rfl (Sub.trans (by decide) hM) ?_
    | split)

theorem State.stall_does {M : Nat} {s0 s : State} {x1} {x2} {x3} (hM : Sub 33554432 M) (h : Does M s0 s) :
    Does M s0 (State.stall s x1 x2 x3) := by
  unfold State.stall
  repeat' (first
    | with_reducible assumption
    | split
    | refine Does.put_stalls (Sub.trans (by decide) hM) ?_ (fun c => Sparse.wf_set _ _ _ _ c))

theorem State.decideFrm_does {M : Nat} {s0 s : State} {x1} {x2} {x3} {r} (e : State.decideFrm s x1 x2 x3 = r) (hM : Sub 0x1000007c000000001044001400000002c0180062 M) (h : Does M s0 s) :
    Does M s0 r.2 := by
  subst e
  unfold State.decideFrm
  repeat' (first
    | with_reducible assumption
    | (extract_lets +onlyGivenNames x; refine Does.cut x ?_ ?_; rotate_left; (intro hx; clear_value x; revert x; intro _ _); rotate_left; (unfold x; clear x))
    | (extract_lets +onlyGivenNames x; refine Does.cut x.2 ?_ ?_; rotate_left; (intro hx; clear_value x; revert x; intro _ _); rotate_left; (unfold x; clear x))
    | (extract_lets +onlyGivenNames x; revert x; intro _)
    | with_reducible refine State.dropEarly_does (Sub.trans (by decide) hM) ?_
    | with_reducible refine State.dropFrm_does (Sub.trans (by decide) hM) ?_
    | with_reducible refine State.newFrm_does rfl (Sub.trans (by decide) hM) ?_
    | with_reducible refine State.setFrm_does (Sub.trans (by decide) hM) ?_
    | with_reducible refine State.toAdmit_does (Sub.trans (by decide) hM) ?_
    | with_reducible refine Does.ite ?_ ?_
    | split)

theorem State.keelPush_does {M : Nat} {s0 s : State} {x1} {x2} (hM : Sub 0x1000000000000001080040 M) (h : Does M s0 s) :
    Does M s0 (State.keelPush s x1 x2) := by
  unfold State.keelPush
  repeat' (first
    | with_reducible assumption
    | (extract_lets +onlyGivenNames x; refine Does.cut x ?_ ?_; rotate_left; (intro hx; clear_value x; revert x; intro _ _); rotate_left; (unfold x; clear x))
    | (extract_lets +onlyGivenNames x; revert x; intro _)
    | with_reducible refine State.pmcEvent_does (Sub.trans (by decide) hM) (Sub.kind (k := .keel) rfl (by decide) hM) ?_
    | with_reducible refine State.setFrm_does (Sub.trans (by decide) hM) ?_
    | with_reducible refine State.setKeel_does (Sub.trans (by decide) hM) ?_
    | split)

theorem State.routeMcast_does {M : Nat} {s0 s : State} {x1} {x2} {x3} {x4} {r} (e : State.routeMcast s x1 x2 x3 x4 = some r) (hM : Sub 0x1000007c000000001054001400000002c1180062 M) (h : Does M s0 s) :
    Does M s0 r := by
  unfold State.routeMcast at e
  extract_lets me here cross omitted s1 at e
  have h1 : Does M s0 s1 := Does.ite (State.cadd_does (Sub.trans (by decide) hM) (Sub.fld (by decide) (Sub.kind (k := .bufMgr) rfl (by decide) hM)) h) h
  clear_value s1
  by_cases c1 : (!mcValid me) = true
  · rw [if_pos c1] at e; injection e with e; subst e
    exact State.dropEarly_does (Sub.trans (by decide) hM) h
  rw [if_neg c1] at e
  by_cases c2 : (cross && !s1.keelRoom x1 x4) = true
  · rw [if_pos c2] at e; cases e
  rw [if_neg c2] at e
  by_cases c3 : (here && cross) = true
  · rw [if_pos c3] at e; injection e with e; subst e
    exact State.keelPush_does (Sub.trans (by decide) hM) (State.toAdmit_does (Sub.trans (by decide) hM) (State.newFrm_does rfl (Sub.trans (by decide) hM) h1))
  rw [if_neg c3] at e
  by_cases c4 : cross = true
  · rw [if_pos c4] at e; injection e with e; subst e
    exact State.keelPush_does (Sub.trans (by decide) hM) h1
  rw [if_neg c4] at e
  by_cases c5 : here = true
  · rw [if_pos c5] at e; injection e with e; subst e
    exact State.toAdmit_does (Sub.trans (by decide) hM) h1
  · rw [if_neg c5] at e; injection e with e; subst e
    exact State.dropEarly_does (Sub.trans (by decide) hM) h1

theorem State.route_does {M : Nat} {s0 s : State} {x1} {x2} {r} (e : State.route s x1 x2 = some r) (hM : Sub 0x1000007c000000001054001400000002c1180062 M) (h : Does M s0 s) :
    Does M s0 r := by
  revert e
  unfold State.route
  repeat' (first
    | with_reducible assumption
    | (intro e; with_reducible injection e with e; subst e)
    | (intro e; with_reducible contradiction)
    | with_reducible refine State.dropEarly_does (Sub.trans (by decide) hM) ?_
    | with_reducible refine State.keelPush_does (Sub.trans (by decide) hM) ?_
    | (intro e; with_reducible refine State.routeMcast_does e (Sub.trans (by decide) hM) ?_)
    | with_reducible refine State.toAdmit_does (Sub.trans (by decide) hM) ?_
    | split)

theorem State.applyDecision_does {M : Nat} {s0 s : State} {x1} {x2} {x3} {x4} (hM : Sub 0x1000007c000000001054001400000002c3180062 M) (h : Does M s0 s) :
    Does M s0 (State.applyDecision s x1 x2 x3 x4) := by
  unfold State.applyDecision
  repeat' (first
    | with_reducible assumption
    | with_reducible refine State.decideFrm_does rfl (Sub.trans (by decide) hM) ?_
    | with_reducible refine State.route_does (r := _) (by with_reducible assumption) (Sub.trans (by decide) hM) ?_
    | with_reducible refine State.stall_does (Sub.trans (by decide) hM) ?_
    | with_reducible refine Does.of2 (by with_reducible assumption) ?_
    | split)

theorem State.cacheUpset_does {M : Nat} {s0 s : State} {x1} {x2} {x3} (hM : Sub 0x7c00000000004000200000000000040062 M) (h : Does M s0 s) :
    Does M s0 (State.cacheUpset s x1 x2 x3) := by
  unfold State.cacheUpset
  repeat' (first
    | with_reducible assumption
    | (extract_lets +onlyGivenNames x; revert x; intro _)
    | with_reducible refine State.integrity_does (Sub.trans (by decide) hM) ?_
    | with_reducible refine State.setCls_does (Sub.trans (by decide) hM) ?_
    | split)

theorem State.classify_does {M : Nat} {s0 s : State} {x1} {x2} {x3} {x4} {r} (e : State.classify s x1 x2 x3 x4 = some r) (hM : Sub 0x1000007c000000003454003400000002c31c8066 M) (h : Does M s0 s) :
    Does M s0 r := by
  revert e
  unfold State.classify
  repeat' (first
    | with_reducible assumption
    | (intro e; with_reducible injection e with e; subst e)
    | (intro e; with_reducible contradiction)
    | (extract_lets +onlyGivenNames x; revert x; intro _)
    | with_reducible refine State.applyDecision_does (Sub.trans (by decide) hM) ?_
    | with_reducible refine State.cacheLookup_does rfl (Sub.trans (by decide) hM) ?_
    | with_reducible refine State.cacheUpset_does (Sub.trans (by decide) hM) ?_
    | with_reducible refine State.cadd_does (Sub.trans (by decide) hM) (Sub.fld (by decide) (Sub.kind (k := .cls) rfl (by decide) hM)) ?_
    | with_reducible refine State.fifoPush_does (Sub.trans (by decide) hM) ?_
    | with_reducible refine State.pmcEvent_does (Sub.trans (by decide) hM) (Sub.kind (k := .cls) rfl (by decide) hM) ?_
    | with_reducible refine State.tcamFallback_does rfl (Sub.trans (by decide) hM) ?_
    | with_reducible refine Does.ite ?_ ?_
    | with_reducible refine Does.of2 (by with_reducible assumption) ?_
    | split)

theorem State.toClassifier_does {M : Nat} {s0 s : State} {x1} {x2} {x3} {x4} (hM : Sub 0x3000007c000000003454003400000002c31c8066 M) (h : Does M s0 s) :
    Does M s0 (State.toClassifier s x1 x2 x3 x4) := by
  unfold State.toClassifier
  repeat' (first
    | with_reducible assumption
    | with_reducible refine State.cadd_does (Sub.trans (by decide) hM) (Sub.fld (by decide) (Sub.kind (k := .cls) rfl (by decide) hM)) ?_
    | with_reducible refine State.classify_does (r := _) (by with_reducible assumption) (Sub.trans (by decide) hM) ?_
    | with_reducible refine State.raise_does (Sub.trans (by decide) hM) (Sub.kindH (k := .cls) rfl (by decide) hM) ?_
    | with_reducible refine State.stall_does (Sub.trans (by decide) hM) ?_
    | split)

theorem State.proceed_does {M : Nat} {s0 s : State} {x1} {x2} (hM : Sub 0x3000007c000000003454003400000002c35c8066 M) (h : Does M s0 s) :
    Does M s0 (State.proceed s x1 x2) := by
  unfold State.proceed
  repeat' (first
    | with_reducible assumption
    | (extract_lets +onlyGivenNames x; revert x; intro _)
    | with_reducible refine State.dropFirst_does rfl (Sub.trans (by decide) hM) ?_
    | with_reducible refine State.resolve_does rfl (Sub.trans (by decide) hM) ?_
    | with_reducible refine State.setFrm_does (Sub.trans (by decide) hM) ?_
    | with_reducible refine State.setPort_does (Sub.trans (by decide) hM) ?_
    | with_reducible refine State.stall_does (Sub.trans (by decide) hM) ?_
    | with_reducible refine State.toClassifier_does (Sub.trans (by decide) hM) ?_
    | with_reducible refine Does.ite ?_ ?_
    | split)

theorem State.releaseOrder_does {M : Nat} {s0 s : State} {x1} (hM : Sub 0x3000007c000000003454003400000002c37c8066 M) (h : Does M s0 s) :
    Does M s0 (State.releaseOrder s x1) := by
  unfold State.releaseOrder
  repeat' (first
    | with_reducible assumption
    | (intro _ _ _)
    | (extract_lets +onlyGivenNames x; revert x; intro _)
    | with_reducible refine State.proceed_does (Sub.trans (by decide) hM) ?_
    | with_reducible refine State.setSlice_does (Sub.trans (by decide) hM) ?_
    | with_reducible refine Does.fold ?_ ?_)

theorem State.passed_does {M : Nat} {s0 s : State} {x1} {x2} {x3} (hM : Sub 0x3000007c000000003454003400000002c37c8066 M) (h : Does M s0 s) :
    Does M s0 (State.passed s x1 x2 x3) := by
  unfold State.passed
  repeat' (first
    | with_reducible assumption
    | (extract_lets +onlyGivenNames x; revert x; intro _)
    | with_reducible refine State.proceed_does (Sub.trans (by decide) hM) ?_
    | with_reducible refine State.releaseOrder_does (Sub.trans (by decide) hM) ?_
    | with_reducible refine State.setSlice_does (Sub.trans (by decide) hM) ?_
    | with_reducible refine Does.ite ?_ ?_)

theorem State.abortFrm_does {M : Nat} {s0 s : State} {x1} {x2} {x3} (hM : Sub 0x3000007c000000003456003400000002c37c8066 M) (h : Does M s0 s) :
    Does M s0 (State.abortFrm s x1 x2 x3) := by
  unfold State.abortFrm
  repeat' (first
    | with_reducible assumption
    | (extract_lets +onlyGivenNames x; refine Does.cut x ?_ ?_; rotate_left; (intro hx; clear_value x; revert x; intro _ _); rotate_left; (unfold x; clear x))
    | (extract_lets +onlyGivenNames x; revert x; intro _)
    | with_reducible refine State.cadd_does (Sub.trans (by decide) hM) (Sub.fld (by decide) (Sub.kind (k := .cs) rfl (by decide) hM)) ?_
    | with_reducible refine State.dropEarly_does (Sub.trans (by decide) hM) ?_
    | with_reducible refine State.passed_does (Sub.trans (by decide) hM) ?_
    | with_reducible refine State.releaseOrder_does (Sub.trans (by decide) hM) ?_
    | with_reducible refine State.setFrm_does (Sub.trans (by decide) hM) ?_
    | with_reducible refine State.setSlice_does (Sub.trans (by decide) hM) ?_
    | split)

theorem State.leaveFifo_does {M : Nat} {s0 s : State} {x1} {x2} {x3} {x4} (hM : Sub 0x1000007c000000001054003400000002c31c0062 M) (h : Does M s0 s) :
    Does M s0 (State.leaveFifo s x1 x2 x3 x4) := by
  unfold State.leaveFifo
  repeat' (first
    | with_reducible assumption
    | (extract_lets +onlyGivenNames x; refine Does.cut x ?_ ?_; rotate_left; (intro hx; clear_value x; revert x; intro _ _); rotate_left; (unfold x; clear x))
    | (extract_lets +onlyGivenNames x; revert x; intro _)
    | with_reducible refine State.applyDecision_does (Sub.trans (by decide) hM) ?_
    | with_reducible refine State.dropEarly_does (Sub.trans (by decide) hM) ?_
    | with_reducible refine State.integrity_does (Sub.trans (by decide) hM) ?_
    | with_reducible refine State.setCls_does (Sub.trans (by decide) hM) ?_
    | split)

theorem State.afterSwap_does {M : Nat} {s0 s : State} {x1} {x2} {x3} (hM : Sub 0x1000007c000000003454003400000002c31c8066 M) (h : Does M s0 s) :
    Does M s0 (State.afterSwap s x1 x2 x3) := by
  unfold State.afterSwap
  repeat' (first
    | with_reducible assumption
    | (intro _ _ _)
    | (extract_lets +onlyGivenNames x; refine Does.cut x ?_ ?_; rotate_left; (intro hx; clear_value x; revert x; intro _ _); rotate_left; (unfold x; clear x))
    | (extract_lets +onlyGivenNames x; revert x; intro _)
    | with_reducible refine State.issueWalk_does (Sub.trans (by decide) hM) ?_
    | with_reducible refine State.leaveFifo_does (Sub.trans (by decide) hM) ?_
    | with_reducible refine State.setCls_does (Sub.trans (by decide) hM) ?_
    | with_reducible refine State.tcamFallback_does rfl (Sub.trans (by decide) hM) ?_
    | with_reducible refine Does.fold ?_ ?_
    | with_reducible refine Does.ite ?_ ?_)

theorem State.queueInsert_does {M : Nat} {s0 s : State} {x1} {x2} (hM : Sub 2097152 M) (h : Does M s0 s) :
    Does M s0 (State.queueInsert s x1 x2) := by
  unfold State.queueInsert
  repeat' (first
    | with_reducible assumption
    | (extract_lets +onlyGivenNames x; revert x; intro _)
    | with_reducible refine State.setSlice_does (Sub.trans (by decide) hM) ?_)

theorem State.enqueueExt_does {M : Nat} {s0 s : State} {x1} {x2} {r} (e : State.enqueueExt s x1 x2 = some r) (hM : Sub 2097152 M) (h : Does M s0 s) :
    Does M s0 r := by
  revert e
  unfold State.enqueueExt
  repeat' (first
    | with_reducible assumption
    | (intro e; with_reducible injection e with e; subst e)
    | (intro e; with_reducible contradiction)
    | (extract_lets +onlyGivenNames x; revert x; intro _)
    | with_reducible refine State.queueInsert_does (Sub.trans (by decide) hM) ?_
    | split)

theorem State.atDispatch_does {M : Nat} {s0 s : State} {x1} {x2} {x3} (hM : Sub 0x3000007c000000003456003400000002c37c8066 M) (h : Does M s0 s) :
    Does M s0 (State.atDispatch s x1 x2 x3) := by
  unfold State.atDispatch
  repeat' (first
    | with_reducible assumption
    | (extract_lets +onlyGivenNames x; revert x; intro _)
    | with_reducible refine State.abortFrm_does (Sub.trans (by decide) hM) ?_
    | with_reducible refine State.cadd_does (Sub.trans (by decide) hM) (Sub.fld (by decide) (Sub.kind (k := .cs) rfl (by decide) hM)) ?_
    | with_reducible refine State.enqueueExt_does (r := _) (by with_reducible assumption) (Sub.trans (by decide) hM) ?_
    | with_reducible refine State.meterFrm_does rfl (Sub.trans (by decide) hM) ?_
    | with_reducible refine State.passed_does (Sub.trans (by decide) hM) ?_
    | with_reducible refine State.setFrm_does (Sub.trans (by decide) hM) ?_
    | with_reducible refine State.setSlice_does (Sub.trans (by decide) hM) ?_
    | with_reducible refine State.stall_does (Sub.trans (by decide) hM) ?_
    | with_reducible refine Does.ite ?_ ?_
    | split)

theorem State.guard_does {M : Nat} {s0 s : State} {x1} {x2} {x3} (hM : Sub 0x1000007c000000001054001400000002c3188066 M) (h : Does M s0 s) :
    Does M s0 (State.guard s x1 x2 x3) := by
  unfold State.guard
  repeat' (first
    | with_reducible assumption
    | with_reducible refine State.applyDecision_does (Sub.trans (by decide) hM) ?_
    | with_reducible refine State.dropFirst_does rfl (Sub.trans (by decide) hM) ?_
    | with_reducible refine State.guardSearch_does rfl (Sub.trans (by decide) hM) ?_
    | split)

theorem State.stallStep_does {M : Nat} {s0 s : State} {x1} {x2} {r} (e : State.stallStep s x1 x2 = some r) (hM : Sub 0x3000007c000000003454003400000002c33c8066 M) (h : Does M s0 s) :
    Does M s0 r := by
  revert e
  unfold State.stallStep
  repeat' (first
    | with_reducible assumption
    | (intro e; with_reducible injection e with e; subst e)
    | (intro e; with_reducible contradiction)
    | (extract_lets +onlyGivenNames x; revert x; intro _)
    | (intro e; with_reducible refine State.classify_does e (Sub.trans (by decide) hM) ?_)
    | (intro e; with_reducible refine State.enqueueExt_does e (Sub.trans (by decide) hM) ?_)
    | (intro e; with_reducible refine State.route_does e (Sub.trans (by decide) hM) ?_)
    | with_reducible refine State.toClassifier_does (Sub.trans (by decide) hM) ?_
    | split
    | refine Does.put_stalls (Sub.trans (by decide) hM) ?_ (fun c => Sparse.wf_set _ _ _ _ c))

theorem State.unstall_does {M : Nat} {s0 s : State} {x1} {x2} {x3} (hM : Sub 0x3000007c000000003454003400000002c33c8066 M) (h : Does M s0 s) :
    Does M s0 (State.unstall s x1 x2 x3) := by
  induction x3 generalizing s x1 x2 with
  | zero =>
    unfold State.unstall
    repeat' (first
      | with_reducible assumption)
  | succ _ ih =>
    unfold State.unstall
    repeat' (first
      | with_reducible assumption
      | with_reducible apply ih
      | with_reducible refine State.stallStep_does (r := _) (by with_reducible assumption) (Sub.trans (by decide) hM) ?_
      | split)

theorem execClsFifoResume_does {M : Nat} {s0 s : State} {x0} {t : State} (e : execClsFifoResume x0 s = .next t) (hM : Sub 0x3000007c000000003454003400000002c33c8066 M) (h : Does M s0 s) :
    Does M s0 t := by
  revert e
  unfold execClsFifoResume State.ifOperates
  repeat' (first
    | with_reducible assumption
    | (intro _ _ _)
    | (intro e; with_reducible injection e with e; subst e)
    | with_reducible refine State.unstall_does (Sub.trans (by decide) hM) ?_
    | with_reducible refine Does.fold ?_ ?_
    | with_reducible refine Does.ite ?_ ?_)

theorem execClsSwapDone_does {M : Nat} {s0 s : State} {x0} {x1} {x2} {t : State} (e : execClsSwapDone x0 x1 x2 s = .next t) (hM : Sub 0x3000007c000000003454003400000002c31c8066 M) (h : Does M s0 s) :
    Does M s0 t := by
  revert e
  unfold execClsSwapDone State.ifOperates
  repeat' (first
    | with_reducible assumption
    | (intro e; with_reducible injection e with e; subst e)
    | (extract_lets +onlyGivenNames x; refine Does.cut x ?_ ?_; rotate_left; (intro hx; clear_value x; revert x; intro _ _); rotate_left; (unfold x; clear x))
    | (extract_lets +onlyGivenNames x; revert x; intro _)
    | with_reducible refine State.afterSwap_does (Sub.trans (by decide) hM) ?_
    | with_reducible refine State.bset_does (Sub.trans (by decide) hM) (Sub.fld (by decide) (Sub.kind (k := .cls) rfl (by decide) hM)) ?_
    | with_reducible refine State.cadd_does (Sub.trans (by decide) hM) (Sub.fld (by decide) (Sub.kind (k := .cls) rfl (by decide) hM)) ?_
    | with_reducible refine State.fset_does (Sub.trans (by decide) hM) (Sub.fld (by decide) (Sub.kind (k := .cls) rfl (by decide) hM)) ?_
    | with_reducible refine State.raise_does (Sub.trans (by decide) hM) (Sub.kindH (k := .cls) rfl (by decide) hM) ?_
    | with_reducible refine State.setCls_does (Sub.trans (by decide) hM) ?_
    | with_reducible refine Does.ite ?_ ?_)

theorem execClsWalkDone_does {M : Nat} {s0 s : State} {x0} {x1} {x2} {x3} {t : State} (e : execClsWalkDone x0 x1 x2 x3 s = .next t) (hM : Sub 0x3008007c00000000305c003400000002c31c0062 M) (h : Does M s0 s) :
    Does M s0 t := by
  revert e
  unfold execClsWalkDone State.ifOperates
  repeat' (first
    | with_reducible assumption
    | (intro _ _ _)
    | (intro e; with_reducible injection e with e; subst e)
    | with_reducible refine State.cadd_does (Sub.trans (by decide) hM) (Sub.fld (by decide) (Sub.kind (k := .cls) rfl (by decide) hM)) ?_
    | with_reducible refine State.leaveFifo_does (Sub.trans (by decide) hM) ?_
    | with_reducible refine State.walkDecide_does rfl (Sub.trans (by decide) hM) ?_
    | with_reducible refine Does.fold ?_ ?_
    | with_reducible refine Does.ite ?_ ?_
    | split)

theorem execPipelineStallRelease_does {M : Nat} {s0 s : State} {x0} {t : State} (e : execPipelineStallRelease x0 s = .next t) (hM : Sub 0x3000007c000000003454003400000002c33c8066 M) (h : Does M s0 s) :
    Does M s0 t := by
  revert e
  unfold execPipelineStallRelease State.ifOperates
  repeat' (first
    | with_reducible assumption
    | (intro e; with_reducible injection e with e; subst e)
    | with_reducible refine State.unstall_does (Sub.trans (by decide) hM) ?_
    | with_reducible refine Does.ite ?_ ?_)

end Sys2Proof.Machine
end

