-- ==== Sys2Proof/Laws/Paddle.lean ====
section
/-!
SUPPORT. What each operation of Machine/Paddle.lean can change, and that it takes nothing back.
-/
namespace Sys2Proof.Machine

theorem State.clearDeficits_does {M : Nat} {s0 s : State} {x1} (hM : Sub 4194304 M) (h : Does M s0 s) :
    Does M s0 (State.clearDeficits s x1) := by
  unfold State.clearDeficits
  refine Does.put_ports (Sub.trans (by decide) hM) h (fun c => ?_)
  have key : ∀ (l : List Nat) (m : Sparse PortSt), m.wf (fun _ => ({} : PortSt)) = true →
      Sparse.wf (fun _ => ({} : PortSt)) (l.foldl (fun m i => m.upd {} (64 * x1 + i) (fun x => { x with deficit := [] })) m) = true := by
    intro l
    induction l with
    | nil => intro m hm; exact hm
    | cons i r ih => intro m hm; exact ih _ (Sparse.wf_upd _ _ _ _ hm)
  exact key _ _ c

theorem State.loseWaiting_does {M : Nat} {s0 s : State} {x1} (hM : Sub 0x1000007c00000000104000000000000080000062 M) (h : Does M s0 s) :
    Does M s0 (State.loseWaiting s x1) := by
  unfold State.loseWaiting
  repeat' (first
    | with_reducible assumption
    | (intro _ _ _)
    | (extract_lets +onlyGivenNames x; revert x; intro _)
    | with_reducible refine State.loseCards_does (Sub.trans (by decide) hM) ?_
    | with_reducible refine State.setTel_does (Sub.trans (by decide) hM) ?_
    | with_reducible refine Does.fold ?_ ?_
    | with_reducible refine Does.ite ?_ ?_)

theorem State.enterPaddle_does {M : Nat} {s0 s : State} {x1} {x2} (hM : Sub 0x1000007c000000001040001000000000c0000062 M) (h : Does M s0 s) :
    Does M s0 (State.enterPaddle s x1 x2) := by
  unfold State.enterPaddle
  repeat' (first
    | with_reducible assumption
    | (extract_lets +onlyGivenNames x; refine Does.cut x ?_ ?_; rotate_left; (intro hx; clear_value x; revert x; intro _ _); rotate_left; (unfold x; clear x))
    | (extract_lets +onlyGivenNames x; revert x; intro _)
    | with_reducible refine State.bset_does (Sub.trans (by decide) hM) (Sub.fld (by decide) (Sub.kind (k := .slice) rfl (by decide) hM)) ?_
    | with_reducible refine State.fset_does (Sub.trans (by decide) hM) (Sub.fld (by decide) (Sub.kind (k := .slice) rfl (by decide) hM)) ?_
    | with_reducible refine State.loseWaiting_does (Sub.trans (by decide) hM) ?_
    | with_reducible refine State.raise_does (Sub.trans (by decide) hM) (Sub.kindH (k := .slice) rfl (by decide) hM) ?_
    | with_reducible refine State.setAcct_does (Sub.trans (by decide) hM) ?_
    | with_reducible refine State.setPaddle_does (Sub.trans (by decide) hM) (Sub.kindH (k := .slice) rfl (by decide) hM) ?_
    | with_reducible refine Does.ite ?_ ?_)

theorem State.exitPaddle_does {M : Nat} {s0 s : State} {x1} (hM : Sub 0x7c00000000004000100000000000400022 M) (h : Does M s0 s) :
    Does M s0 (State.exitPaddle s x1) := by
  unfold State.exitPaddle
  repeat' (first
    | with_reducible assumption
    | (extract_lets +onlyGivenNames x; revert x; intro _)
    | with_reducible refine State.bset_does (Sub.trans (by decide) hM) (Sub.fld (by decide) (Sub.kind (k := .slice) rfl (by decide) hM)) ?_
    | with_reducible refine State.clearDeficits_does (Sub.trans (by decide) hM) ?_
    | with_reducible refine State.errCount_does (Sub.trans (by decide) hM) (Sub.kindH (k := .slice) rfl (by decide) hM) ?_
    | with_reducible refine State.fset_does (Sub.trans (by decide) hM) (Sub.fld (by decide) (Sub.kind (k := .slice) rfl (by decide) hM)) ?_
    | with_reducible refine State.raise_does (Sub.trans (by decide) hM) (Sub.kindH (k := .slice) rfl (by decide) hM) ?_
    | with_reducible refine State.setPaddle_does (Sub.trans (by decide) hM) (Sub.kindH (k := .slice) rfl (by decide) hM) ?_
    | with_reducible refine Does.ite ?_ ?_)

theorem State.paddleCtrl_does {M : Nat} {s0 s : State} {x1} {x2} (hM : Sub 0x1000007c000000001040001000000000c0400062 M) (h : Does M s0 s) :
    Does M s0 (State.paddleCtrl s x1 x2) := by
  unfold State.paddleCtrl
  repeat' (first
    | with_reducible assumption
    | with_reducible refine State.enterPaddle_does (Sub.trans (by decide) hM) ?_
    | with_reducible refine State.exitPaddle_does (Sub.trans (by decide) hM) ?_
    | with_reducible refine Does.ite ?_ ?_)

theorem State.watchdogWrite_does {M : Nat} {s0 s : State} {x1 : Page} {x2} (hM : Sub 32 M) (hB1 : Sub x1.blk M) (h : Does M s0 s) :
    Does M s0 (State.watchdogWrite s x1 x2) := by
  unfold State.watchdogWrite
  repeat' (first
    | with_reducible assumption
    | (extract_lets +onlyGivenNames x; refine Does.cut x ?_ ?_; rotate_left; (intro hx; clear_value x; revert x; intro _ _); rotate_left; (unfold x; clear x))
    | with_reducible refine State.bset_does (Sub.trans (by decide) hM) (Sub.fld (by decide) hB1) ?_
    | with_reducible refine State.putRw_does (Sub.trans (by decide) hM) (Sub.off (by decide) hB1) ?_
    | with_reducible refine Does.ite ?_ ?_)

theorem execPaddleEnter_does {M : Nat} {s0 s : State} {x0} {x1} {x2} {t : State} (e : execPaddleEnter x0 x1 x2 s = .next t) (hM : Sub 0x1040007c000000001040001000000000c1400062 M) (h : Does M s0 s) :
    Does M s0 t := by
  revert e
  unfold execPaddleEnter
  repeat' (first
    | with_reducible assumption
    | (intro _ _ _ _)
    | (intro e; with_reducible injection e with e; subst e)
    | with_reducible refine State.accessKind_does (Sub.trans (by decide) hM) ?_ ?_
    | with_reducible refine State.paddleCtrl_does (Sub.trans (by decide) hM) ?_)

theorem execPaddleExit_does {M : Nat} {s0 s : State} {x0} {x1} {x2} {t : State} (e : execPaddleExit x0 x1 x2 s = .next t) (hM : Sub 0x1040007c000000001040001000000000c1400062 M) (h : Does M s0 s) :
    Does M s0 t := by
  revert e
  unfold execPaddleExit
  repeat' (first
    | with_reducible assumption
    | (intro _ _ _ _)
    | (intro e; with_reducible injection e with e; subst e)
    | with_reducible refine State.accessKind_does (Sub.trans (by decide) hM) ?_ ?_
    | with_reducible refine State.paddleCtrl_does (Sub.trans (by decide) hM) ?_)

theorem execWatchdogExpire_does {M : Nat} {s0 s : State} {x0} {t : State} (e : execWatchdogExpire x0 s = .next t) (hM : Sub 0x1000007c000000001040003000000000c0000062 M) (h : Does M s0 s) :
    Does M s0 t := by
  revert e
  unfold execWatchdogExpire State.ifOperates
  repeat' (first
    | with_reducible assumption
    | (intro _ _ _)
    | (intro e; with_reducible injection e with e; subst e)
    | (extract_lets +onlyGivenNames x; refine Does.cut x ?_ ?_; rotate_left; (intro hx; clear_value x; revert x; intro _ _); rotate_left; (unfold x; clear x))
    | with_reducible refine State.bset_does (Sub.trans (by decide) hM) (Sub.fld (by decide) (Sub.kind (k := .die) rfl (by decide) hM)) ?_
    | with_reducible refine State.enterPaddle_does (Sub.trans (by decide) hM) ?_
    | with_reducible refine State.raise_does (Sub.trans (by decide) hM) (Sub.kindH (k := .die) rfl (by decide) hM) ?_
    | with_reducible refine Does.fold ?_ ?_
    | with_reducible refine Does.ite ?_ ?_)

theorem execWatchdogKick_does {M : Nat} {s0 s : State} {x0} {x1} {x2} {t : State} (e : execWatchdogKick x0 x1 x2 s = .next t) (hM : Sub 0x7ffff007e00000000004000200000000001000022 M) (h : Does M s0 s) :
    Does M s0 t := by
  revert e
  unfold execWatchdogKick
  repeat' (first
    | with_reducible assumption
    | (intro _ _ _ _ _)
    | (intro e; with_reducible injection e with e; subst e)
    | with_reducible refine State.accessLocked_does (Sub.trans (by decide) hM) ?_ ?_
    | with_reducible refine State.watchdogWrite_does (Sub.trans (by decide) hM) (Sub.kind (k := .die) (by with_reducible assumption) (by decide) hM) ?_)

end Sys2Proof.Machine
end

