-- ==== Sys2Proof/Laws/EngineCore.lean ====
section
/-!
SUPPORT. What each operation of Machine/EngineCore.lean can change, and that it takes nothing back.
-/
namespace Sys2Proof.Machine

theorem State.freeLocks_does {M : Nat} {s0 s : State} {x1} {x2} (hM : Sub 274877906944 M) (h : Does M s0 s) :
    Does M s0 (State.freeLocks s x1 x2) := by
  unfold State.freeLocks
  repeat' (first
    | with_reducible assumption
    | (intro _ _ _)
    | (extract_lets +onlyGivenNames x; revert x; intro _)
    | with_reducible refine State.setCs_does (Sub.trans (by decide) hM) ?_
    | with_reducible refine Does.fold ?_ ?_)

theorem State.setCtx_does {M : Nat} {s0 s : State} {x1} {x2} {x3} (hM : Sub 274877906944 M) (h : Does M s0 s) :
    Does M s0 (State.setCtx s x1 x2 x3) := by
  unfold State.setCtx
  repeat' (first
    | with_reducible assumption
    | (extract_lets +onlyGivenNames x; revert x; intro _)
    | with_reducible refine State.setCs_does (Sub.trans (by decide) hM) ?_)

theorem State.clearCtx_does {M : Nat} {s0 s : State} {x1} {x2} (hM : Sub 0x10000000000004400000040 M) (h : Does M s0 s) :
    Does M s0 (State.clearCtx s x1 x2) := by
  unfold State.clearCtx
  repeat' (first
    | with_reducible assumption
    | (intro _ _ _)
    | (extract_lets +onlyGivenNames x; refine Does.cut x ?_ ?_; rotate_left; (intro hx; clear_value x; revert x; intro _ _); rotate_left; (unfold x; clear x))
    | with_reducible refine State.endMsg_does (Sub.trans (by decide) hM) ?_
    | with_reducible refine State.freeLocks_does (Sub.trans (by decide) hM) ?_
    | with_reducible refine State.setCtx_does (Sub.trans (by decide) hM) ?_
    | with_reducible refine Does.fold ?_ ?_
    | split)

theorem State.lastAbort_does {M : Nat} {s0 s : State} {x1} {x2} {x3} {x4} (hM : Sub 0x100000000000000000020 M) (h : Does M s0 s) :
    Does M s0 (State.lastAbort s x1 x2 x3 x4) := by
  unfold State.lastAbort
  repeat' (first
    | with_reducible assumption
    | with_reducible refine State.setReg_does (Sub.trans (by decide) hM) (Sub.off (by decide) (Sub.kind (k := .engine) rfl (by decide) hM)) ?_)

theorem State.queueReturn_does {M : Nat} {s0 s : State} {x1} {x2} {x3} (hM : Sub 274880004096 M) (h : Does M s0 s) :
    Does M s0 (State.queueReturn s x1 x2 x3) := by
  unfold State.queueReturn
  repeat' (first
    | with_reducible assumption
    | (extract_lets +onlyGivenNames x; refine Does.cut x ?_ ?_; rotate_left; (intro hx; clear_value x; revert x; intro _ _); rotate_left; (unfold x; clear x))
    | (extract_lets +onlyGivenNames x; revert x; intro _)
    | with_reducible refine State.setCs_does (Sub.trans (by decide) hM) ?_
    | with_reducible refine State.setSlice_does (Sub.trans (by decide) hM) ?_
    | split)

theorem State.eventFailed_does {M : Nat} {s0 s : State} {x1} (hM : Sub 0x2007c00000000004200000000000000000022 M) (h : Does M s0 s) :
    Does M s0 (State.eventFailed s x1) := by
  unfold State.eventFailed
  repeat' (first
    | with_reducible assumption
    | with_reducible refine State.bset_does (Sub.trans (by decide) hM) (Sub.fld (by decide) (Sub.kind (k := .cs) rfl (by decide) hM)) ?_
    | with_reducible refine State.raise_does (Sub.trans (by decide) hM) (Sub.kindH (k := .cs) rfl (by decide) hM) ?_)

theorem State.routineDrop_does {M : Nat} {s0 s : State} {x1} {x2} (hM : Sub 0x3002007c000000003456003400000002c37c8066 M) (h : Does M s0 s) :
    Does M s0 (State.routineDrop s x1 x2) := by
  unfold State.routineDrop
  repeat' (first
    | with_reducible assumption
    | with_reducible refine State.abortFrm_does (Sub.trans (by decide) hM) ?_
    | with_reducible refine State.eventFailed_does (Sub.trans (by decide) hM) ?_
    | split)

theorem State.abandon_does {M : Nat} {s0 s : State} {x1} {x2} {x3} {x4} (hM : Sub 0x3002007c000000003557003400000046c37c8066 M) (h : Does M s0 s) :
    Does M s0 (State.abandon s x1 x2 x3 x4) := by
  unfold State.abandon
  repeat' (first
    | with_reducible assumption
    | (extract_lets +onlyGivenNames x; refine Does.cut x ?_ ?_; rotate_left; (intro hx; clear_value x; revert x; intro _ _); rotate_left; (unfold x; clear x))
    | (extract_lets +onlyGivenNames x; revert x; intro _)
    | with_reducible refine State.cadd_does (Sub.trans (by decide) hM) (Sub.fld (by decide) (Sub.kind (k := .engine) rfl (by decide) hM)) ?_
    | with_reducible refine State.cadd_does (Sub.trans (by decide) hM) (Sub.fldB (Sub.kind (k := .cs) rfl (by decide) hM) (Sub.kindH (k := .cs) rfl (by decide) hM)) ?_
    | with_reducible refine State.clearCtx_does (Sub.trans (by decide) hM) ?_
    | with_reducible refine State.lastAbort_does (Sub.trans (by decide) hM) ?_
    | with_reducible refine State.queueReturn_does (Sub.trans (by decide) hM) ?_
    | with_reducible refine State.raise_does (Sub.trans (by decide) hM) (Sub.kindH (k := .cs) rfl (by decide) hM) ?_
    | with_reducible refine State.routineDrop_does (Sub.trans (by decide) hM) ?_
    | with_reducible refine State.setCs_does (Sub.trans (by decide) hM) ?_
    | with_reducible refine State.updFrm_does (Sub.trans (by decide) hM) ?_
    | with_reducible refine Does.ite ?_ ?_
    | split)

theorem State.csCorrected_does {M : Nat} {s0 s : State} {x1} (hM : Sub 0x200100000000000000040 M) (h : Does M s0 s) :
    Does M s0 (State.csCorrected s x1) := by
  unfold State.csCorrected
  repeat' (first
    | with_reducible assumption
    | with_reducible refine State.cadd_does (Sub.trans (by decide) hM) (Sub.fld (by decide) (Sub.kind (k := .cs) rfl (by decide) hM)) ?_
    | with_reducible refine State.pmcEvent_does (Sub.trans (by decide) hM) (Sub.kind (k := .slice) rfl (by decide) hM) ?_)

theorem State.returnFrm_does {M : Nat} {s0 s : State} {x1} {x2} (hM : Sub 0x3000007c000000003456003400000002c37c8066 M) (h : Does M s0 s) :
    Does M s0 (State.returnFrm s x1 x2) := by
  unfold State.returnFrm
  repeat' (first
    | with_reducible assumption
    | with_reducible refine State.bset_does (Sub.trans (by decide) hM) (Sub.fld (by decide) (Sub.kind (k := .cs) rfl (by decide) hM)) ?_
    | with_reducible refine State.passed_does (Sub.trans (by decide) hM) ?_
    | with_reducible refine State.updFrm_does (Sub.trans (by decide) hM) ?_
    | split)

theorem State.startEvent_does {M : Nat} {s0 s : State} {x1} (hM : Sub 0x3002007c000000003557003400000046c37c8066 M) (h : Does M s0 s) :
    Does M s0 (State.startEvent s x1) := by
  unfold State.startEvent
  repeat' (first
    | with_reducible assumption
    | (extract_lets +onlyGivenNames x; refine Does.cut x ?_ ?_; rotate_left; (intro hx; clear_value x; revert x; intro _ _); rotate_left; (unfold x; clear x))
    | (extract_lets +onlyGivenNames x; revert x; intro _)
    | with_reducible refine State.abandon_does (Sub.trans (by decide) hM) ?_
    | with_reducible refine State.setCs_does (Sub.trans (by decide) hM) ?_
    | with_reducible refine State.setCtx_does (Sub.trans (by decide) hM) ?_
    | with_reducible refine Does.ite ?_ ?_
    | split
    | (clear_value *; split))

theorem State.postCommit_does {M : Nat} {s0 s : State} {x1} {x2} {x3} {x4} (hM : Sub 0x3002007c000000003557003400000046c37c8066 M) (h : Does M s0 s) :
    Does M s0 (State.postCommit s x1 x2 x3 x4) := by
  unfold State.postCommit
  repeat' (first
    | with_reducible assumption
    | (extract_lets +onlyGivenNames x; refine Does.cut x ?_ ?_; rotate_left; (intro hx; clear_value x; revert x; intro _ _); rotate_left; (unfold x; clear x))
    | (extract_lets +onlyGivenNames x; revert x; intro _)
    | with_reducible refine State.abortFrm_does (Sub.trans (by decide) hM) ?_
    | with_reducible refine State.bset_does (Sub.trans (by decide) hM) (Sub.fld (by decide) (Sub.kind (k := .cs) rfl (by decide) hM)) ?_
    | with_reducible refine State.cadd_does (Sub.trans (by decide) hM) (Sub.fld (by decide) (Sub.kind (k := .cs) rfl (by decide) hM)) ?_
    | with_reducible refine State.clearCtx_does (Sub.trans (by decide) hM) ?_
    | with_reducible refine State.lastAbort_does (Sub.trans (by decide) hM) ?_
    | with_reducible refine State.raise_does (Sub.trans (by decide) hM) (Sub.kindH (k := .cs) rfl (by decide) hM) ?_
    | with_reducible refine State.returnFrm_does (Sub.trans (by decide) hM) ?_
    | with_reducible refine State.startEvent_does (Sub.trans (by decide) hM) ?_
    | with_reducible refine Does.ite ?_ ?_
    | split)

theorem State.endByCause_does {M : Nat} {s0 s : State} {x1} {x2} {x3} {x4} (hM : Sub 0x3002007c000000003557003400000046c37c8066 M) (h : Does M s0 s) :
    Does M s0 (State.endByCause s x1 x2 x3 x4) := by
  unfold State.endByCause
  repeat' (first
    | with_reducible assumption
    | (extract_lets +onlyGivenNames x; refine Does.cut x ?_ ?_; rotate_left; (intro hx; clear_value x; revert x; intro _ _); rotate_left; (unfold x; clear x))
    | (extract_lets +onlyGivenNames x; revert x; intro _)
    | with_reducible refine State.abandon_does (Sub.trans (by decide) hM) ?_
    | with_reducible refine State.cadd_does (Sub.trans (by decide) hM) (Sub.fld (by decide) (Sub.kind (k := .engine) rfl (by decide) hM)) ?_
    | with_reducible refine State.clearCtx_does (Sub.trans (by decide) hM) ?_
    | with_reducible refine State.lastAbort_does (Sub.trans (by decide) hM) ?_
    | with_reducible refine State.postCommit_does (Sub.trans (by decide) hM) ?_
    | with_reducible refine State.raise_does (Sub.trans (by decide) hM) (Sub.kindH (k := .cs) rfl (by decide) hM) ?_
    | with_reducible refine State.routineDrop_does (Sub.trans (by decide) hM) ?_
    | with_reducible refine State.startEvent_does (Sub.trans (by decide) hM) ?_
    | with_reducible refine Does.ite ?_ ?_
    | split)

theorem State.csUncorr_does {M : Nat} {s0 s : State} {x1} (hM : Sub 0x3002007c000000003557003400000046c37c8066 M) (h : Does M s0 s) :
    Does M s0 (State.csUncorr s x1) := by
  unfold State.csUncorr
  repeat' (first
    | with_reducible assumption
    | (intro _ _ _)
    | (extract_lets +onlyGivenNames x; refine Does.cut x ?_ ?_; rotate_left; (intro hx; clear_value x; revert x; intro _ _); rotate_left; (unfold x; clear x))
    | (extract_lets +onlyGivenNames x; revert x; intro _)
    | with_reducible refine State.bset_does (Sub.trans (by decide) hM) (Sub.fld (by decide) (Sub.kind (k := .cs) rfl (by decide) hM)) ?_
    | with_reducible refine State.cadd_does (Sub.trans (by decide) hM) (Sub.fld (by decide) (Sub.kind (k := .cs) rfl (by decide) hM)) ?_
    | with_reducible refine State.endByCause_does (Sub.trans (by decide) hM) ?_
    | with_reducible refine State.enterPaddle_does (Sub.trans (by decide) hM) ?_
    | with_reducible refine State.fset_does (Sub.trans (by decide) hM) (Sub.fld (by decide) (Sub.kind (k := .cs) rfl (by decide) hM)) ?_
    | with_reducible refine State.raise_does (Sub.trans (by decide) hM) (Sub.kindH (k := .cs) rfl (by decide) hM) ?_
    | with_reducible refine Does.fold ?_ ?_
    | split)

theorem State.dmaAborted_does {M : Nat} {s0 s : State} {x1} {x2} (hM : Sub 0x3002007c000000003456003400000042c37c8066 M) (h : Does M s0 s) :
    Does M s0 (State.dmaAborted s x1 x2) := by
  unfold State.dmaAborted
  repeat' (first
    | with_reducible assumption
    | (extract_lets +onlyGivenNames x; revert x; intro _)
    | with_reducible refine State.abortFrm_does (Sub.trans (by decide) hM) ?_
    | with_reducible refine State.eventFailed_does (Sub.trans (by decide) hM) ?_
    | with_reducible refine State.setCs_does (Sub.trans (by decide) hM) ?_
    | with_reducible refine State.setSlice_does (Sub.trans (by decide) hM) ?_
    | with_reducible refine Does.ite ?_ ?_)

theorem State.dmaResolved_does {M : Nat} {s0 s : State} {x1} {x2} (hM : Sub 0x3002007c000000003557003400000046c37c8066 M) (h : Does M s0 s) :
    Does M s0 (State.dmaResolved s x1 x2) := by
  unfold State.dmaResolved
  repeat' (first
    | with_reducible assumption
    | (extract_lets +onlyGivenNames x; refine Does.cut x ?_ ?_; rotate_left; (intro hx; clear_value x; revert x; intro _ _); rotate_left; (unfold x; clear x))
    | (extract_lets +onlyGivenNames x; revert x; intro _)
    | with_reducible refine State.setCs_does (Sub.trans (by decide) hM) ?_
    | with_reducible refine State.startEvent_does (Sub.trans (by decide) hM) ?_
    | with_reducible refine Does.ite ?_ ?_)

theorem State.endRoutine_does {M : Nat} {s0 s : State} {x1} {x2} {x3} (hM : Sub 0x3002007c000000003557003400000046c37c8066 M) (h : Does M s0 s) :
    Does M s0 (State.endRoutine s x1 x2 x3) := by
  unfold State.endRoutine
  repeat' (first
    | with_reducible assumption
    | (extract_lets +onlyGivenNames x; refine Does.cut x ?_ ?_; rotate_left; (intro hx; clear_value x; revert x; intro _ _); rotate_left; (unfold x; clear x))
    | with_reducible refine State.cadd_does (Sub.trans (by decide) hM) (Sub.fld (by decide) (Sub.kind (k := .engine) rfl (by decide) hM)) ?_
    | with_reducible refine State.clearCtx_does (Sub.trans (by decide) hM) ?_
    | with_reducible refine State.returnFrm_does (Sub.trans (by decide) hM) ?_
    | with_reducible refine State.startEvent_does (Sub.trans (by decide) hM) ?_)

theorem State.raiseEvent_does {M : Nat} {s0 s : State} {x1} (hM : Sub 0x3002007c000000003557003400000046c37c8066 M) (h : Does M s0 s) :
    Does M s0 (State.raiseEvent s x1) := by
  unfold State.raiseEvent
  repeat' (first
    | with_reducible assumption
    | (extract_lets +onlyGivenNames x; refine Does.cut x ?_ ?_; rotate_left; (intro hx; clear_value x; revert x; intro _ _); rotate_left; (unfold x; clear x))
    | (extract_lets +onlyGivenNames x; revert x; intro _)
    | with_reducible refine State.bset_does (Sub.trans (by decide) hM) (Sub.fld (by decide) (Sub.kind (k := .cs) rfl (by decide) hM)) ?_
    | with_reducible refine State.cadd_does (Sub.trans (by decide) hM) (Sub.fld (by decide) (Sub.kind (k := .cs) rfl (by decide) hM)) ?_
    | with_reducible refine State.errCount_does (Sub.trans (by decide) hM) (Sub.kindH (k := .cs) rfl (by decide) hM) ?_
    | with_reducible refine State.raise_does (Sub.trans (by decide) hM) (Sub.kindH (k := .cs) rfl (by decide) hM) ?_
    | with_reducible refine State.setCs_does (Sub.trans (by decide) hM) ?_
    | with_reducible refine State.startEvent_does (Sub.trans (by decide) hM) ?_
    | with_reducible refine Does.ite ?_ ?_)

theorem State.startRoutine_does {M : Nat} {s0 s : State} {x1} {x2} {x3} {x4} (hM : Sub 0x200000000004000200040 M) (h : Does M s0 s) :
    Does M s0 (State.startRoutine s x1 x2 x3 x4) := by
  unfold State.startRoutine
  repeat' (first
    | with_reducible assumption
    | (extract_lets +onlyGivenNames x; refine Does.cut x ?_ ?_; rotate_left; (intro hx; clear_value x; revert x; intro _ _); rotate_left; (unfold x; clear x))
    | (extract_lets +onlyGivenNames x; revert x; intro _)
    | with_reducible refine State.cadd_does (Sub.trans (by decide) hM) (Sub.fld (by decide) (Sub.kind (k := .cs) rfl (by decide) hM)) ?_
    | with_reducible refine State.setCtx_does (Sub.trans (by decide) hM) ?_
    | with_reducible refine State.setSlice_does (Sub.trans (by decide) hM) ?_
    | with_reducible refine Does.ite ?_ ?_
    | split)

theorem State.takeLock_does {M : Nat} {s0 s : State} {x1} {x2} {x3} (hM : Sub 0x3002007c000000003557003400000046c37c8066 M) (h : Does M s0 s) :
    Does M s0 (State.takeLock s x1 x2 x3) := by
  unfold State.takeLock
  repeat' (first
    | with_reducible assumption
    | (extract_lets +onlyGivenNames x; refine Keeps.cut x ?_ ?_; rotate_left; (intro hx; clear_value x; revert x; intro _ _); rotate_left; (unfold x; clear x; refine Keeps.mk fun _ _ => ?_))
    | with_reducible refine Keeps.app (by with_reducible assumption) ?_
    | with_reducible refine State.endByCause_does (Sub.trans (by decide) hM) ?_
    | with_reducible refine State.setCtx_does (Sub.trans (by decide) hM) ?_
    | with_reducible refine Does.ite ?_ ?_
    | split)

theorem execCsDmaWaitExpire_does {M : Nat} {s0 s : State} {x0} {x1} {t : State} (e : execCsDmaWaitExpire x0 x1 s = .next t) (hM : Sub 0x3000007c000000003456003400000042c37c8066 M) (h : Does M s0 s) :
    Does M s0 t := by
  revert e
  unfold execCsDmaWaitExpire
  repeat' (first
    | with_reducible assumption
    | (intro e; with_reducible injection e with e; subst e)
    | with_reducible refine State.abortFrm_does (Sub.trans (by decide) hM) ?_
    | with_reducible refine State.setCs_does (Sub.trans (by decide) hM) ?_
    | with_reducible refine State.setSlice_does (Sub.trans (by decide) hM) ?_
    | with_reducible refine Does.ite ?_ ?_)

theorem execEngineDispatch_does {M : Nat} {s0 s : State} {x0} {t : State} (e : execEngineDispatch x0 s = .next t) (hM : Sub 0x3002007c000000003557003400000046c37c8066 M) (h : Does M s0 s) :
    Does M s0 t := by
  revert e
  unfold execEngineDispatch
  repeat' (first
    | with_reducible assumption
    | (intro e; with_reducible injection e with e; subst e)
    | (extract_lets +onlyGivenNames x; refine Does.cut x ?_ ?_; rotate_left; (intro hx; clear_value x; revert x; intro _ _); rotate_left; (unfold x; clear x))
    | (extract_lets +onlyGivenNames x; revert x; intro _)
    | with_reducible refine State.abandon_does (Sub.trans (by decide) hM) ?_
    | with_reducible refine State.abortFrm_does (Sub.trans (by decide) hM) ?_
    | with_reducible refine State.cadd_does (Sub.trans (by decide) hM) (Sub.fld (by decide) (Sub.kind (k := .cs) rfl (by decide) hM)) ?_
    | with_reducible refine State.passed_does (Sub.trans (by decide) hM) ?_
    | with_reducible refine State.setFrm_does (Sub.trans (by decide) hM) ?_
    | with_reducible refine State.setSlice_does (Sub.trans (by decide) hM) ?_
    | with_reducible refine State.startEvent_does (Sub.trans (by decide) hM) ?_
    | with_reducible refine State.startRoutine_does (Sub.trans (by decide) hM) ?_
    | with_reducible refine Does.ite ?_ ?_
    | split)

end Sys2Proof.Machine
end

