-- ==== Sys2Proof/Laws/Clock.lean ====
section
/-!
SUPPORT. What each operation of Machine/Clock.lean can change, and that it takes nothing back.
-/
namespace Sys2Proof.Machine

theorem State.setTime_does {M : Nat} {s0 s : State} {x1} {x2} (hM : Sub 536870912 M) (h : Does M s0 s) :
    Does M s0 (State.setTime s x1 x2) := by
  unfold State.setTime
  repeat' (first
    | with_reducible assumption
    | refine Does.put_times (Sub.trans (by decide) hM) ?_ (fun c => Sparse.wf_set _ _ _ _ c))

theorem State.tickDie_does {M : Nat} {s0 s : State} {x1} (hM : Sub 536870912 M) (h : Does M s0 s) :
    Does M s0 (State.tickDie s x1) := by
  unfold State.tickDie
  repeat' (first
    | with_reducible assumption
    | (extract_lets +onlyGivenNames x; revert x; intro _)
    | with_reducible refine State.setTime_does (Sub.trans (by decide) hM) ?_)

theorem State.aonTick_does {M : Nat} {s0 s : State} (hM : Sub 536870912 M) (h : Does M s0 s) :
    Does M s0 (State.aonTick s) := by
  unfold State.aonTick
  repeat' (first
    | with_reducible assumption
    | with_reducible refine State.tickDie_does (Sub.trans (by decide) hM) ?_
    | with_reducible refine Does.ite ?_ ?_)

end Sys2Proof.Machine
end

