-- ==== Sys2Proof/Laws/Egress.lean ====
section
/-!
SUPPORT. What each operation of Machine/Egress.lean can change, and that it takes nothing back.
-/
namespace Sys2Proof.Machine

theorem State.msecHold_does {M : Nat} {s0 s : State} {x1} {x2} (hM : Sub 0x2000000000000000000020 M) (h : Does M s0 s) :
    Does M s0 (State.msecHold s x1 x2) := by
  unfold State.msecHold
  repeat' (first
    | with_reducible assumption
    | (extract_lets +onlyGivenNames x; revert x; intro _)
    | with_reducible refine State.fset_does (Sub.trans (by decide) hM) (Sub.fld (by decide) (Sub.kind (k := .msec) rfl (by decide) hM)) ?_)

theorem State.setMsec_does {M : Nat} {s0 s : State} {x1} {x2} (hM : Sub 34359738368 M) (h : Does M s0 s) :
    Does M s0 (State.setMsec s x1 x2) := by
  unfold State.setMsec
  repeat' (first
    | with_reducible assumption
    | refine Does.put_msecs (Sub.trans (by decide) hM) ?_ (fun c => Sparse.wf_set _ _ _ _ c))

theorem State.protect_does {M : Nat} {s0 s : State} {x1} {x2} {x3} {r} (e : State.protect s x1 x2 x3 = r) (hM : Sub 0x20007c00000000006000000000000c00000062 M) (h : Does M s0 s) :
    Does M s0 r.2.2 := by
  subst e
  unfold State.protect
  repeat' (first
    | with_reducible assumption
    | (extract_lets +onlyGivenNames x; refine Does.cut x ?_ ?_; rotate_left; (intro hx; clear_value x; revert x; intro _ _); rotate_left; (unfold x; clear x))
    | (extract_lets +onlyGivenNames x; revert x; intro _)
    | with_reducible refine State.beginKey_does (Sub.trans (by decide) hM) ?_
    | with_reducible refine State.cadd_does (Sub.trans (by decide) hM) (Sub.fld (by decide) (Sub.kind (k := .msec) rfl (by decide) hM)) ?_
    | with_reducible refine State.cadd_does (Sub.trans (by decide) hM) (Sub.fldB (Sub.kind (k := .msec) rfl (by decide) hM) (Sub.kindH (k := .msec) rfl (by decide) hM)) ?_
    | with_reducible refine State.raiseIf_does (Sub.trans (by decide) hM) (Sub.kindH (k := .msec) rfl (by decide) hM) ?_
    | with_reducible refine State.setMsec_does (Sub.trans (by decide) hM) ?_)

theorem State.settleSa_does {M : Nat} {s0 s : State} {x1} {r} (e : State.settleSa s x1 = r) (hM : Sub 0x20007c00000000006000000000000000000022 M) (h : Does M s0 s) :
    Does M s0 r.2 := by
  subst e
  unfold State.settleSa
  repeat' (first
    | with_reducible assumption
    | (extract_lets +onlyGivenNames x; refine KeepsP.cut x ?_ ?_; rotate_left; (intro hx; clear_value x; revert x; intro _ _); rotate_left; (unfold x; clear x; refine KeepsP.mk fun _ _ => ?_))
    | with_reducible refine KeepsP.app (by with_reducible assumption) ?_
    | (extract_lets +onlyGivenNames x; refine Does.cut x ?_ ?_; rotate_left; (intro hx; clear_value x; revert x; intro _ _); rotate_left; (unfold x; clear x))
    | (extract_lets +onlyGivenNames x; revert x; intro _)
    | with_reducible refine State.fset_does (Sub.trans (by decide) hM) (Sub.fld (by decide) (Sub.kind (k := .msec) rfl (by decide) hM)) ?_
    | with_reducible refine State.msecHold_does (Sub.trans (by decide) hM) ?_
    | with_reducible refine State.raise_does (Sub.trans (by decide) hM) (Sub.kindH (k := .msec) rfl (by decide) hM) ?_
    | split)

end Sys2Proof.Machine
end

