-- ==== Sys2Proof/Laws/Parser.lean ====
section
/-!
SUPPORT. What each operation of Machine/Parser.lean can change, and that it takes nothing back.
-/
namespace Sys2Proof.Machine

theorem State.tmapRead_does {M : Nat} {s0 s : State} {x1} {x2} {x3} {x4} {x5} {r} (e : State.tmapRead s x1 x2 x3 x4 x5 = r) (hM : Sub 0x7c00000000004000100000000000008062 M) (h : Does M s0 s) :
    Does M s0 r.2 := by
  subst e
  unfold State.tmapRead
  repeat' (first
    | with_reducible assumption
    | with_reducible refine State.hashRead_does rfl (Sub.trans (by decide) hM) ?_
    | with_reducible refine Does.of2 (by with_reducible assumption) ?_
    | split)

theorem State.tmapPair_does {M : Nat} {s0 s : State} {x1} {x2} {x3} {x4} {r} (e : State.tmapPair s x1 x2 x3 x4 = r) (hM : Sub 0x7c00000000004000100000000000008062 M) (h : Does M s0 s) :
    Does M s0 r.2 := by
  subst e
  unfold State.tmapPair
  repeat' (first
    | with_reducible assumption
    | with_reducible refine State.tmapRead_does rfl (Sub.trans (by decide) hM) ?_
    | with_reducible refine Does.of2 (by with_reducible assumption) ?_
    | split)

theorem State.assignTenant_does {M : Nat} {s0 s : State} {x1} {x2} {x3} {x4} {r} (e : State.assignTenant s x1 x2 x3 x4 = r) (hM : Sub 0x7c00000000004000100000000000008062 M) (h : Does M s0 s) :
    Does M s0 r.2.2 := by
  subst e
  unfold State.assignTenant
  repeat' (first
    | with_reducible assumption
    | (extract_lets +onlyGivenNames x; revert x; intro _)
    | with_reducible refine State.cadd_does (Sub.trans (by decide) hM) (Sub.fld (by decide) (Sub.kind (k := .slice) rfl (by decide) hM)) ?_
    | with_reducible refine State.tmapPair_does rfl (Sub.trans (by decide) hM) ?_
    | with_reducible refine Does.of2 (by with_reducible assumption) ?_
    | split
    | (clear_value *; split))

theorem State.parse_does {M : Nat} {s0 s : State} {x1} {x2} {r} (e : State.parse s x1 x2 = r) (hM : Sub 4 M) (h : Does M s0 s) :
    Does M s0 r.2 := by
  subst e
  unfold State.parse
  repeat' (first
    | with_reducible assumption
    | with_reducible refine State.draw_does rfl (Sub.trans (by decide) hM) ?_)

end Sys2Proof.Machine
end

