-- ==== Sys2Proof/Laws/Sched.lean ====
section
/-!
SUPPORT. What each operation of Machine/Sched.lean can change, and that it takes nothing back.
-/
namespace Sys2Proof.Machine

theorem State.adjustV_does {M : Nat} {s0 s : State} {x1} (hM : Sub 4194304 M) (h : Does M s0 s) :
    Does M s0 (State.adjustV s x1) := by
  unfold State.adjustV
  repeat' (first
    | with_reducible assumption
    | (extract_lets +onlyGivenNames x; revert x; intro _)
    | with_reducible refine State.setPort_does (Sub.trans (by decide) hM) ?_
    | with_reducible refine Does.ite ?_ ?_)

theorem State.missQueue_does {M : Nat} {s0 s : State} {x1} {x2} {x3} (hM : Sub 0x1000007c000000001044001400000002d0580062 M) (h : Does M s0 s) :
    Does M s0 (State.missQueue s x1 x2 x3) := by
  induction x3 generalizing s x1 x2 with
  | zero =>
    unfold State.missQueue
    repeat' (first
      | with_reducible assumption)
  | succ _ ih =>
    unfold State.missQueue
    repeat' (first
      | with_reducible assumption
      | (extract_lets +onlyGivenNames x; revert x; intro _)
      | with_reducible apply ih
      | with_reducible refine State.cadd_does (Sub.trans (by decide) hM) (Sub.fld (by decide) (Sub.kind (k := .port) rfl (by decide) hM)) ?_
      | with_reducible refine State.discard_does (Sub.trans (by decide) hM) ?_
      | with_reducible refine State.setPort_does (Sub.trans (by decide) hM) ?_
      | with_reducible refine State.unqueue_does (Sub.trans (by decide) hM) ?_
      | split)

theorem State.assess_does {M : Nat} {s0 s : State} {x1} {x2} (hM : Sub 0x1000007c000000001044001400000002d0580062 M) (h : Does M s0 s) :
    Does M s0 (State.assess s x1 x2) := by
  unfold State.assess
  repeat' (first
    | with_reducible assumption
    | (intro _ _ _)
    | (extract_lets +onlyGivenNames x; revert x; intro _)
    | with_reducible refine State.missQueue_does (Sub.trans (by decide) hM) ?_
    | with_reducible refine Does.fold ?_ ?_)

theorem State.countControl_does {M : Nat} {s0 s : State} {x1} (hM : Sub 0x40000000000000040 M) (h : Does M s0 s) :
    Does M s0 (State.countControl s x1) := by
  unfold State.countControl
  repeat' (first
    | with_reducible assumption
    | with_reducible refine State.cadd_does (Sub.trans (by decide) hM) (Sub.fld (by decide) (Sub.kind (k := .port) rfl (by decide) hM)) ?_
    | with_reducible refine Does.ite ?_ ?_)

theorem State.passTurns_does {M : Nat} {s0 s : State} {x1} (hM : Sub 4194304 M) (h : Does M s0 s) :
    Does M s0 (State.passTurns s x1) := by
  unfold State.passTurns
  repeat' (first
    | with_reducible assumption
    | (extract_lets +onlyGivenNames x; revert x; intro _)
    | with_reducible refine State.setPort_does (Sub.trans (by decide) hM) ?_)

theorem State.policerRead_does {M : Nat} {s0 s : State} {x1 : Page} {x2} (hM : Sub 32 M) (hB1 : Sub x1.blk M) (h : Does M s0 s) :
    Does M s0 (State.policerRead s x1 x2) := by
  unfold State.policerRead
  repeat' (first
    | with_reducible assumption
    | (extract_lets +onlyGivenNames x; refine Does.cut x ?_ ?_; rotate_left; (intro hx; clear_value x; revert x; intro _ _); rotate_left; (unfold x; clear x))
    | (extract_lets +onlyGivenNames x; revert x; intro _)
    | with_reducible refine State.putRw_does (Sub.trans (by decide) hM) (Sub.off (by decide) hB1) ?_
    | with_reducible refine State.setPair_does (Sub.trans (by decide) hM) (Sub.off (by decide) hB1) (Sub.off (by decide) hB1) ?_
    | with_reducible refine State.setReg_does (Sub.trans (by decide) hM) (Sub.off (by decide) hB1) ?_)

theorem State.setPolicer_does {M : Nat} {s0 s : State} {x1} {x2} {x3} (hM : Sub 2097152 M) (h : Does M s0 s) :
    Does M s0 (State.setPolicer s x1 x2 x3) := by
  unfold State.setPolicer
  repeat' (first
    | with_reducible assumption
    | (extract_lets +onlyGivenNames x; revert x; intro _)
    | with_reducible refine State.setSlice_does (Sub.trans (by decide) hM) ?_)

theorem State.policerReadClear_does {M : Nat} {s0 s : State} {x1 : Page} {x2} (hM : Sub 2097184 M) (hB1 : Sub x1.blk M) (h : Does M s0 s) :
    Does M s0 (State.policerReadClear s x1 x2) := by
  unfold State.policerReadClear
  repeat' (first
    | with_reducible assumption
    | (extract_lets +onlyGivenNames x; refine Does.cut x ?_ ?_; rotate_left; (intro hx; clear_value x; revert x; intro _ _); rotate_left; (unfold x; clear x))
    | (extract_lets +onlyGivenNames x; revert x; intro _)
    | with_reducible refine State.policerRead_does (Sub.trans (by decide) hM) hB1 ?_
    | with_reducible refine State.setPolicer_does (Sub.trans (by decide) hM) ?_)

theorem State.policerWrite_does {M : Nat} {s0 s : State} {x1 : Page} {x2} (hM : Sub 2097184 M) (hB1 : Sub x1.blk M) (h : Does M s0 s) :
    Does M s0 (State.policerWrite s x1 x2) := by
  unfold State.policerWrite
  repeat' (first
    | with_reducible assumption
    | (extract_lets +onlyGivenNames x; refine Does.cut x ?_ ?_; rotate_left; (intro hx; clear_value x; revert x; intro _ _); rotate_left; (unfold x; clear x))
    | (extract_lets +onlyGivenNames x; revert x; intro _)
    | with_reducible refine State.bset_does (Sub.trans (by decide) hM) (Sub.fld (by decide) hB1) ?_
    | with_reducible refine State.putRw_does (Sub.trans (by decide) hM) (Sub.off (by decide) hB1) ?_
    | with_reducible refine State.setPolicer_does (Sub.trans (by decide) hM) ?_
    | with_reducible refine Does.ite ?_ ?_)

theorem State.schRefuse_does {M : Nat} {s0 s : State} {x1 : Page} {x2} (hM : Sub 0x7c00000000004000000000000000000022 M) (hB1 : Sub x1.blk M) (hH1 : Sub x1.hdr M) (h : Does M s0 s) :
    Does M s0 (State.schRefuse s x1 x2) := by
  unfold State.schRefuse
  repeat' (first
    | with_reducible assumption
    | with_reducible refine State.errCount_does (Sub.trans (by decide) hM) hH1 ?_
    | with_reducible refine State.fset_does (Sub.trans (by decide) hM) (Sub.fld (by decide) hB1) ?_)

theorem State.rateWrite_does {M : Nat} {s0 s : State} {x1 : Page} {x2} {x3} (hM : Sub 0x7c00000000004000000000000000400022 M) (hB1 : Sub x1.blk M) (hH1 : Sub x1.hdr M) (h : Does M s0 s) :
    Does M s0 (State.rateWrite s x1 x2 x3) := by
  unfold State.rateWrite
  repeat' (first
    | with_reducible assumption
    | (extract_lets +onlyGivenNames x; revert x; intro _)
    | with_reducible refine State.adjustV_does (Sub.trans (by decide) hM) ?_
    | with_reducible refine State.putRw_does (Sub.trans (by decide) hM) (Sub.offB hB1 hH1) ?_
    | with_reducible refine State.schRefuse_does (Sub.trans (by decide) hM) hB1 hH1 ?_
    | with_reducible refine Does.ite ?_ ?_)

theorem State.sampleQueue_does {M : Nat} {s0 s : State} {x1} {x2} {x3} {x4} (hM : Sub 0x40000000000000020 M) (h : Does M s0 s) :
    Does M s0 (State.sampleQueue s x1 x2 x3 x4) := by
  unfold State.sampleQueue
  repeat' (first
    | with_reducible assumption
    | (extract_lets +onlyGivenNames x; refine Does.cut x ?_ ?_; rotate_left; (intro hx; clear_value x; revert x; intro _ _); rotate_left; (unfold x; clear x))
    | (extract_lets +onlyGivenNames x; revert x; intro _)
    | with_reducible refine State.fset_does (Sub.trans (by decide) hM) (Sub.fld (by decide) (Sub.kind (k := .port) rfl (by decide) hM)) ?_
    | with_reducible refine State.setReg_does (Sub.trans (by decide) hM) (Sub.off (Fld.le_at (by decide)) (Sub.kind (k := .port) rfl (by decide) hM)) ?_)

theorem State.schReg_does {M : Nat} {s0 s : State} {x1 : Page} {x2} {x3} (hM : Sub 0x7c00000000004000000000000000400022 M) (hB1 : Sub x1.blk M) (hH1 : Sub x1.hdr M) (h : Does M s0 s) :
    Does M s0 (State.schReg s x1 x2 x3) := by
  unfold State.schReg
  repeat' (first
    | with_reducible assumption
    | with_reducible refine State.putRw_does (Sub.trans (by decide) hM) (Sub.off (Fld.le_at (by decide)) hB1) ?_
    | with_reducible refine State.rateWrite_does (Sub.trans (by decide) hM) hB1 hH1 ?_
    | with_reducible refine State.schRefuse_does (Sub.trans (by decide) hM) hB1 hH1 ?_
    | with_reducible refine Does.ite ?_ ?_
    | split)

theorem State.shapeCharge_does {M : Nat} {s0 s : State} {x1} {x2} {x3} (hM : Sub 4194304 M) (h : Does M s0 s) :
    Does M s0 (State.shapeCharge s x1 x2 x3) := by
  unfold State.shapeCharge
  repeat' (first
    | with_reducible assumption
    | (extract_lets +onlyGivenNames x; revert x; intro _)
    | with_reducible refine State.setPort_does (Sub.trans (by decide) hM) ?_
    | with_reducible refine Does.ite ?_ ?_)

theorem State.wakePort_does {M : Nat} {s0 s : State} {x1} (hM : Sub 4194304 M) (h : Does M s0 s) :
    Does M s0 (State.wakePort s x1) := by
  unfold State.wakePort
  repeat' (first
    | with_reducible assumption
    | (extract_lets +onlyGivenNames x; revert x; intro _)
    | with_reducible refine State.setPort_does (Sub.trans (by decide) hM) ?_
    | with_reducible refine Does.ite ?_ ?_)

theorem State.wakeDie_does {M : Nat} {s0 s : State} {x1} (hM : Sub 4194304 M) (h : Does M s0 s) :
    Does M s0 (State.wakeDie s x1) := by
  unfold State.wakeDie
  repeat' (first
    | with_reducible assumption
    | (intro _ _ _)
    | (extract_lets +onlyGivenNames x; revert x; intro _)
    | with_reducible refine State.wakePort_does (Sub.trans (by decide) hM) ?_
    | with_reducible refine Does.fold ?_ ?_)

theorem execFrameAdmit_does {M : Nat} {s0 s : State} {x0} {x1} {t : State} (e : execFrameAdmit x0 x1 s = .next t) (hM : Sub 0x1004007c000000001444001400000002d4580066 M) (h : Does M s0 s) :
    Does M s0 t := by
  revert e
  unfold execFrameAdmit State.ifOperates
  repeat' (first
    | with_reducible assumption
    | (intro e; with_reducible injection e with e; subst e)
    | with_reducible refine State.frameAdmit_does (Sub.trans (by decide) hM) ?_
    | with_reducible refine State.wakeDie_does (Sub.trans (by decide) hM) ?_
    | with_reducible refine Does.ite ?_ ?_)

theorem execFrameLastCell_does {M : Nat} {s0 s : State} {x0} {x1} {x2} {t : State} (e : execFrameLastCell x0 x1 x2 s = .next t) (hM : Sub 0x1000007c000000001444003400000002d0580062 M) (h : Does M s0 s) :
    Does M s0 t := by
  revert e
  unfold execFrameLastCell
  repeat' (first
    | with_reducible assumption
    | (intro e; with_reducible injection e with e; subst e)
    | with_reducible refine State.assess_does (Sub.trans (by decide) hM) ?_
    | with_reducible refine State.frameLastCell_does (Sub.trans (by decide) hM) ?_
    | with_reducible refine State.wakeDie_does (Sub.trans (by decide) hM) ?_)

theorem execPauseRx_does {M : Nat} {s0 s : State} {x0} {t : State} (e : execPauseRx x0 s = .next t) (hM : Sub 0x40000000000000040 M) (h : Does M s0 s) :
    Does M s0 t := by
  revert e
  unfold execPauseRx
  repeat' (first
    | with_reducible assumption
    | (intro e; with_reducible injection e with e; subst e)
    | with_reducible refine State.cadd_does (Sub.trans (by decide) hM) (Sub.fld (by decide) (Sub.kind (k := .port) rfl (by decide) hM)) ?_
    | with_reducible refine State.countControl_does (Sub.trans (by decide) hM) ?_
    | with_reducible refine Does.ite ?_ ?_)

theorem execPfcPauseExpire_does {M : Nat} {s0 s : State} {x0} {x1} {t : State} (e : execPfcPauseExpire x0 x1 s = .next t) (hM : Sub 0x40000000000400020 M) (h : Does M s0 s) :
    Does M s0 t := by
  revert e
  unfold execPfcPauseExpire
  repeat' (first
    | with_reducible assumption
    | (intro e; with_reducible injection e with e; subst e)
    | with_reducible refine State.pauseExpire_does (Sub.trans (by decide) hM) ?_
    | with_reducible refine State.wakePort_does (Sub.trans (by decide) hM) ?_)

theorem execPfcRx_does {M : Nat} {s0 s : State} {x0} {x1} {x2} {t : State} (e : execPfcRx x0 x1 x2 s = .next t) (hM : Sub 0x40000000000400060 M) (h : Does M s0 s) :
    Does M s0 t := by
  revert e
  unfold execPfcRx
  repeat' (first
    | with_reducible assumption
    | (intro e; with_reducible injection e with e; subst e)
    | with_reducible refine State.countControl_does (Sub.trans (by decide) hM) ?_
    | with_reducible refine State.pfcRx_does (Sub.trans (by decide) hM) ?_
    | with_reducible refine State.wakePort_does (Sub.trans (by decide) hM) ?_)

theorem execPolicerRead_does {M : Nat} {s0 s : State} {x0} {x1} {x2} {t : State} (e : execPolicerRead x0 x1 x2 s = .next t) (hM : Sub 0x40007c00000000004000100000000001000022 M) (h : Does M s0 s) :
    Does M s0 t := by
  revert e
  unfold execPolicerRead
  repeat' (first
    | with_reducible assumption
    | (intro _ _ _ _)
    | (intro e; with_reducible injection e with e; subst e)
    | with_reducible refine State.accessKind_does (Sub.trans (by decide) hM) ?_ ?_
    | with_reducible refine State.policerRead_does (Sub.trans (by decide) hM) (Sub.kind (k := .slice) (by with_reducible assumption) (by decide) hM) ?_)

theorem execPolicerReadClear_does {M : Nat} {s0 s : State} {x0} {x1} {x2} {t : State} (e : execPolicerReadClear x0 x1 x2 s = .next t) (hM : Sub 0x40007c00000000004000100000000001200022 M) (h : Does M s0 s) :
    Does M s0 t := by
  revert e
  unfold execPolicerReadClear
  repeat' (first
    | with_reducible assumption
    | (intro _ _ _ _)
    | (intro e; with_reducible injection e with e; subst e)
    | with_reducible refine State.accessKind_does (Sub.trans (by decide) hM) ?_ ?_
    | with_reducible refine State.policerReadClear_does (Sub.trans (by decide) hM) (Sub.kind (k := .slice) (by with_reducible assumption) (by decide) hM) ?_)

theorem execPolicerWrite_does {M : Nat} {s0 s : State} {x0} {x1} {x2} {t : State} (e : execPolicerWrite x0 x1 x2 s = .next t) (hM : Sub 0x40007c00000000004000100000000001200022 M) (h : Does M s0 s) :
    Does M s0 t := by
  revert e
  unfold execPolicerWrite
  repeat' (first
    | with_reducible assumption
    | (intro _ _ _ _)
    | (intro e; with_reducible injection e with e; subst e)
    | with_reducible refine State.accessKind_does (Sub.trans (by decide) hM) ?_ ?_
    | with_reducible refine State.policerWrite_does (Sub.trans (by decide) hM) (Sub.kind (k := .slice) (by with_reducible assumption) (by decide) hM) ?_)

theorem execQueueSample_does {M : Nat} {s0 s : State} {x0} {t : State} (e : execQueueSample x0 s = .next t) (hM : Sub 0x40000000000000020 M) (h : Does M s0 s) :
    Does M s0 t := by
  revert e
  unfold execQueueSample State.ifOperates
  repeat' (first
    | with_reducible assumption
    | (intro _ _ _)
    | (intro e; with_reducible injection e with e; subst e)
    | with_reducible refine State.sampleQueue_does (Sub.trans (by decide) hM) ?_
    | with_reducible refine Does.fold ?_ ?_
    | with_reducible refine Does.ite ?_ ?_)

theorem execSchCfgWrite_does {M : Nat} {s0 s : State} {x0} {x1} {x2} {x3} {t : State} (e : execSchCfgWrite x0 x1 x2 x3 s = .next t) (hM : Sub 0x40007c00000000004000040000000001400022 M) (h : Does M s0 s) :
    Does M s0 t := by
  revert e
  unfold execSchCfgWrite
  repeat' (first
    | with_reducible assumption
    | (intro _ _ _ _)
    | (intro e; with_reducible injection e with e; subst e)
    | with_reducible refine State.accessKind_does (Sub.trans (by decide) hM) ?_ ?_
    | with_reducible refine State.schReg_does (Sub.trans (by decide) hM) (Sub.kind (k := .port) (by with_reducible assumption) (by decide) hM) (Sub.kindH (k := .port) (by with_reducible assumption) (by decide) hM) ?_)

theorem execShaperWheelSlot_does {M : Nat} {s0 s : State} {x0} {t : State} (e : execShaperWheelSlot x0 s = .next t) (hM : Sub 4194304 M) (h : Does M s0 s) :
    Does M s0 t := by
  revert e
  unfold execShaperWheelSlot
  repeat' (first
    | with_reducible assumption
    | (intro e; with_reducible injection e with e; subst e)
    | with_reducible refine State.setPort_does (Sub.trans (by decide) hM) ?_
    | with_reducible refine State.wakePort_does (Sub.trans (by decide) hM) ?_)

end Sys2Proof.Machine
end

