-- ==== Sys2Proof/Laws/Transmit.lean ====
section
/-!
SUPPORT. What each operation of Machine/Transmit.lean can change, and that it takes nothing back.
-/
namespace Sys2Proof.Machine

theorem State.captureStamp_does {M : Nat} {s0 s : State} {x1} {x2} {x3} {x4} (hM : Sub 0x200007c00000000024000000000000020000062 M) (h : Does M s0 s) :
    Does M s0 (State.captureStamp s x1 x2 x3 x4) := by
  unfold State.captureStamp
  repeat' (first
    | with_reducible assumption
    | (extract_lets +onlyGivenNames x; revert x; intro _)
    | with_reducible refine State.cadd_does (Sub.trans (by decide) hM) (Sub.fld (by decide) (Sub.kind (k := .timeU) rfl (by decide) hM)) ?_
    | with_reducible refine State.raise_does (Sub.trans (by decide) hM) (Sub.kindH (k := .timeU) rfl (by decide) hM) ?_
    | with_reducible refine State.setTime_does (Sub.trans (by decide) hM) ?_
    | with_reducible refine Does.ite ?_ ?_
    | split)

theorem State.chargeCopy_does {M : Nat} {s0 s : State} {x1} {x2} {x3} {x4} {x5} {r} (e : State.chargeCopy s x1 x2 x3 x4 x5 = r) (hM : Sub 0x40000000000000040000040 M) (h : Does M s0 s) :
    Does M s0 r.2 := by
  subst e
  unfold State.chargeCopy
  repeat' (first
    | with_reducible assumption
    | with_reducible refine State.calEvent_does (Sub.trans (by decide) hM) ?_
    | with_reducible refine State.chargeTenant_does (Sub.trans (by decide) hM) ?_)

theorem State.countShare_does {M : Nat} {s0 s : State} {x1} (hM : Sub 4194304 M) (h : Does M s0 s) :
    Does M s0 (State.countShare s x1) := by
  unfold State.countShare
  repeat' (first
    | with_reducible assumption
    | (intro _ _ _)
    | (extract_lets +onlyGivenNames x; refine Does.cut x ?_ ?_; rotate_left; (intro hx; clear_value x; revert x; intro _ _); rotate_left; (unfold x; clear x))
    | (extract_lets +onlyGivenNames x; revert x; intro _)
    | with_reducible refine State.setPort_does (Sub.trans (by decide) hM) ?_
    | with_reducible refine Does.fold ?_ ?_)

theorem State.cutClosed_does {M : Nat} {s0 s : State} {x1} (hM : Sub 4194304 M) (h : Does M s0 s) :
    Does M s0 (State.cutClosed s x1) := by
  unfold State.cutClosed
  repeat' (first
    | with_reducible assumption
    | (extract_lets +onlyGivenNames x; revert x; intro _)
    | with_reducible refine State.setPort_does (Sub.trans (by decide) hM) ?_
    | with_reducible refine Does.ite ?_ ?_
    | split)

theorem State.egressPass_does {M : Nat} {s0 s : State} {x1} {x2} {x3} (hM : Sub 0x7000007c000000007456003400000002c3fc8066 M) (h : Does M s0 s) :
    Does M s0 (State.egressPass s x1 x2 x3) := by
  unfold State.egressPass
  repeat' (first
    | with_reducible assumption
    | (extract_lets +onlyGivenNames x; refine Does.cut x ?_ ?_; rotate_left; (intro hx; clear_value x; revert x; intro _ _); rotate_left; (unfold x; clear x))
    | (extract_lets +onlyGivenNames x; refine Does.cut x.2 ?_ ?_; rotate_left; (intro hx; clear_value x; revert x; intro _ _); rotate_left; (unfold x; clear x))
    | (extract_lets +onlyGivenNames x; revert x; intro _)
    | with_reducible refine State.atDispatch_does (Sub.trans (by decide) hM) ?_
    | with_reducible refine State.integrity_does (Sub.trans (by decide) hM) ?_
    | with_reducible refine State.markBad_does (Sub.trans (by decide) hM) ?_
    | with_reducible refine State.newFrm_does rfl (Sub.trans (by decide) hM) ?_
    | with_reducible refine State.parse_does rfl (Sub.trans (by decide) hM) ?_
    | with_reducible refine State.runStages_does rfl (Sub.trans (by decide) hM) ?_
    | split)

theorem State.readCopy_does {M : Nat} {s0 s : State} {x1} {x2} {x3} {r} (e : State.readCopy s x1 x2 x3 = r) (hM : Sub 0x4007c00000000004400200000000004000066 M) (h : Does M s0 s) :
    Does M s0 r.2 := by
  subst e
  unfold State.readCopy
  repeat' (first
    | with_reducible assumption
    | (extract_lets +onlyGivenNames x; refine Does.cut x ?_ ?_; rotate_left; (intro hx; clear_value x; revert x; intro _ _); rotate_left; (unfold x; clear x))
    | (extract_lets +onlyGivenNames x; revert x; intro _)
    | with_reducible refine State.cellErrors_does rfl (Sub.trans (by decide) hM) ?_
    | with_reducible refine State.draw_does rfl (Sub.trans (by decide) hM) ?_
    | with_reducible refine State.integrity_does (Sub.trans (by decide) hM) ?_
    | with_reducible refine Does.ite ?_ ?_
    | with_reducible refine Does.of2 (by with_reducible assumption) ?_
    | split)

theorem State.dequeue_does {M : Nat} {s0 s : State} {x1} {x2} {x3} (hM : Sub 0x7004007c000000007456003400000002d7fc8066 M) (h : Does M s0 s) :
    Does M s0 (State.dequeue s x1 x2 x3) := by
  unfold State.dequeue
  repeat' (first
    | with_reducible assumption
    | (extract_lets +onlyGivenNames x; revert x; intro _)
    | with_reducible refine State.chargeCopy_does rfl (Sub.trans (by decide) hM) ?_
    | with_reducible refine State.discard_does (Sub.trans (by decide) hM) ?_
    | with_reducible refine State.egressPass_does (Sub.trans (by decide) hM) ?_
    | with_reducible refine State.pmcEvent_does (Sub.trans (by decide) hM) (Sub.kind (k := .bufMgr) rfl (by decide) hM) ?_
    | with_reducible refine State.readCopy_does rfl (Sub.trans (by decide) hM) ?_
    | with_reducible refine State.unqueue_does (Sub.trans (by decide) hM) ?_
    | with_reducible refine Does.ite ?_ ?_
    | split)

theorem State.egressPunt_does {M : Nat} {s0 s : State} {x1} {x2} {x3} {x4} (hM : Sub 268959744 M) (h : Does M s0 s) :
    Does M s0 (State.egressPunt s x1 x2 x3 x4) := by
  unfold State.egressPunt
  repeat' (first
    | with_reducible assumption
    | (extract_lets +onlyGivenNames x; refine Does.cut x ?_ ?_; rotate_left; (intro hx; clear_value x; revert x; intro _ _); rotate_left; (unfold x; clear x))
    | (extract_lets +onlyGivenNames x; revert x; intro _)
    | with_reducible refine State.release_does (Sub.trans (by decide) hM) ?_
    | with_reducible refine State.setFrm_does (Sub.trans (by decide) hM) ?_
    | with_reducible refine State.setQueue_does (Sub.trans (by decide) hM) ?_)

theorem State.endUnsent_does {M : Nat} {s0 s : State} {x1} {x2} (hM : Sub 0x1000007c000000001044001400000002d0180062 M) (h : Does M s0 s) :
    Does M s0 (State.endUnsent s x1 x2) := by
  unfold State.endUnsent
  repeat' (first
    | with_reducible assumption
    | with_reducible refine State.egressPunt_does (Sub.trans (by decide) hM) ?_
    | with_reducible refine State.endPass_does (Sub.trans (by decide) hM) ?_
    | with_reducible refine Does.ite ?_ ?_
    | split)

theorem State.putPart_does {M : Nat} {s0 s : State} {x1} {x2} {x3} {x4} (hM : Sub 16390 M) (h : Does M s0 s) :
    Does M s0 (State.putPart s x1 x2 x3 x4) := by
  unfold State.putPart
  repeat' (first
    | with_reducible assumption
    | (extract_lets +onlyGivenNames x; refine Does.cut x.2 ?_ ?_; rotate_left; (intro hx; clear_value x; revert x; intro _ _); rotate_left; (unfold x; clear x))
    | (extract_lets +onlyGivenNames x; revert x; intro _)
    | with_reducible refine State.draw_does rfl (Sub.trans (by decide) hM) ?_
    | with_reducible refine State.putWire_does (Sub.trans (by decide) hM) ?_
    | with_reducible refine Does.ite ?_ ?_)

theorem State.finish_does {M : Nat} {s0 s : State} {x1} {x2} {x3} {x4} (hM : Sub 0x1000007c000000001444001400000006c0584066 M) (h : Does M s0 s) :
    Does M s0 (State.finish s x1 x2 x3 x4) := by
  unfold State.finish
  repeat' (first
    | with_reducible assumption
    | (extract_lets +onlyGivenNames x; refine Does.cut x ?_ ?_; rotate_left; (intro hx; clear_value x; revert x; intro _ _); rotate_left; (unfold x; clear x))
    | (extract_lets +onlyGivenNames x; revert x; intro _)
    | with_reducible refine State.cadd_does (Sub.trans (by decide) hM) (Sub.fld (by decide) (Sub.kind (k := .tel) rfl (by decide) hM)) ?_
    | with_reducible refine State.cadd_does (Sub.trans (by decide) hM) (Sub.fld (by decide) (Sub.kind (k := .port) rfl (by decide) hM)) ?_
    | with_reducible refine State.chargeCopy_does rfl (Sub.trans (by decide) hM) ?_
    | with_reducible refine State.dropFrm_does (Sub.trans (by decide) hM) ?_
    | with_reducible refine State.emit_does (Sub.trans (by decide) hM) ?_
    | with_reducible refine State.endKey_does (Sub.trans (by decide) hM) ?_
    | with_reducible refine State.flushCtl_does (Sub.trans (by decide) hM) ?_
    | with_reducible refine State.fold_does (Sub.trans (by decide) hM) ?_
    | with_reducible refine State.loseCarried_does (Sub.trans (by decide) hM) ?_
    | with_reducible refine State.putPart_does (Sub.trans (by decide) hM) ?_
    | with_reducible refine State.release_does (Sub.trans (by decide) hM) ?_
    | with_reducible refine State.setPort_does (Sub.trans (by decide) hM) ?_
    | with_reducible refine Does.ite ?_ ?_
    | split)

theorem State.preempt_does {M : Nat} {s0 s : State} {x1} {x2} {x3} (hM : Sub 0x40000000000404046 M) (h : Does M s0 s) :
    Does M s0 (State.preempt s x1 x2 x3) := by
  unfold State.preempt
  repeat' (first
    | with_reducible assumption
    | (extract_lets +onlyGivenNames x; revert x; intro _)
    | with_reducible refine State.cadd_does (Sub.trans (by decide) hM) (Sub.fld (by decide) (Sub.kind (k := .port) rfl (by decide) hM)) ?_
    | with_reducible refine State.flushCtl_does (Sub.trans (by decide) hM) ?_
    | with_reducible refine State.putPart_does (Sub.trans (by decide) hM) ?_
    | with_reducible refine State.setPort_does (Sub.trans (by decide) hM) ?_)

theorem State.settleTx_does {M : Nat} {s0 s : State} {x1} (hM : Sub 0x40000000000404046 M) (h : Does M s0 s) :
    Does M s0 (State.settleTx s x1) := by
  unfold State.settleTx
  repeat' (first
    | with_reducible assumption
    | with_reducible refine State.preempt_does (Sub.trans (by decide) hM) ?_
    | with_reducible refine Does.ite ?_ ?_
    | split)

theorem State.gateBoundary_does {M : Nat} {s0 s : State} {x1} (hM : Sub 0x40000000000404066 M) (h : Does M s0 s) :
    Does M s0 (State.gateBoundary s x1) := by
  unfold State.gateBoundary
  repeat' (first
    | with_reducible assumption
    | (extract_lets +onlyGivenNames x; refine Does.cut x ?_ ?_; rotate_left; (intro hx; clear_value x; revert x; intro _ _); rotate_left; (unfold x; clear x))
    | (extract_lets +onlyGivenNames x; revert x; intro _)
    | with_reducible refine State.bset_does (Sub.trans (by decide) hM) (Sub.fld (by decide) (Sub.kind (k := .port) rfl (by decide) hM)) ?_
    | with_reducible refine State.setPort_does (Sub.trans (by decide) hM) ?_
    | with_reducible refine State.settleTx_does (Sub.trans (by decide) hM) ?_
    | with_reducible refine State.wakePort_does (Sub.trans (by decide) hM) ?_
    | with_reducible refine Does.ite ?_ ?_
    | split)

theorem State.sendFcs_does {M : Nat} {s0 s : State} {x1} {x2} {x3} {x4} {r} (e : State.sendFcs s x1 x2 x3 x4 = r) (hM : Sub 0x40000000000000040 M) (h : Does M s0 s) :
    Does M s0 r.2.2 := by
  subst e
  unfold State.sendFcs
  repeat' (first
    | with_reducible assumption
    | (extract_lets +onlyGivenNames x; revert x; intro _)
    | with_reducible refine State.cadd_does (Sub.trans (by decide) hM) (Sub.fld (by decide) (Sub.kind (k := .port) rfl (by decide) hM)) ?_
    | split)

theorem State.startWire_does {M : Nat} {s0 s : State} {x1} {x2} {x3} {x4} {x5} {x6} (hM : Sub 0x1220007c00000000126000040000000c20480062 M) (h : Does M s0 s) :
    Does M s0 (State.startWire s x1 x2 x3 x4 x5 x6) := by
  unfold State.startWire
  repeat' (first
    | with_reducible assumption
    | (extract_lets +onlyGivenNames x; refine Does.cut x.2.2 ?_ ?_; rotate_left; (intro hx; clear_value x; revert x; intro _ _); rotate_left; (unfold x; clear x))
    | (extract_lets +onlyGivenNames x; revert x; intro _)
    | with_reducible refine State.cadd_does (Sub.trans (by decide) hM) (Sub.fld (by decide) (Sub.kind (k := .tel) rfl (by decide) hM)) ?_
    | with_reducible refine State.cadd_does (Sub.trans (by decide) hM) (Sub.fld (by decide) (Sub.kind (k := .port) rfl (by decide) hM)) ?_
    | with_reducible refine State.captureStamp_does (Sub.trans (by decide) hM) ?_
    | with_reducible refine State.protect_does rfl (Sub.trans (by decide) hM) ?_
    | with_reducible refine State.raise_does (Sub.trans (by decide) hM) (Sub.kindH (k := .tel) rfl (by decide) hM) ?_
    | with_reducible refine State.sendFcs_does rfl (Sub.trans (by decide) hM) ?_
    | with_reducible refine State.setFrm_does (Sub.trans (by decide) hM) ?_
    | with_reducible refine State.setPort_does (Sub.trans (by decide) hM) ?_
    | with_reducible refine Does.ite ?_ ?_
    | split)

theorem State.launch_does {M : Nat} {s0 s : State} {x1} {x2} {x3} {x4} (hM : Sub 0x1220007c00000000126400140000000ef0580062 M) (h : Does M s0 s) :
    Does M s0 (State.launch s x1 x2 x3 x4) := by
  unfold State.launch
  repeat' (first
    | with_reducible assumption
    | (extract_lets +onlyGivenNames x; refine Does.cut x ?_ ?_; rotate_left; (intro hx; clear_value x; revert x; intro _ _); rotate_left; (unfold x; clear x))
    | (extract_lets +onlyGivenNames x; revert x; intro _)
    | with_reducible refine State.endPass_does (Sub.trans (by decide) hM) ?_
    | with_reducible refine State.endUnsent_does (Sub.trans (by decide) hM) ?_
    | with_reducible refine State.setFrm_does (Sub.trans (by decide) hM) ?_
    | with_reducible refine State.setPort_does (Sub.trans (by decide) hM) ?_
    | with_reducible refine State.startWire_does (Sub.trans (by decide) hM) ?_
    | with_reducible refine Does.ite ?_ ?_
    | split)

theorem State.resume_does {M : Nat} {s0 s : State} {x1} {x2} (hM : Sub 4194304 M) (h : Does M s0 s) :
    Does M s0 (State.resume s x1 x2) := by
  unfold State.resume
  repeat' (first
    | with_reducible assumption
    | (extract_lets +onlyGivenNames x; revert x; intro _)
    | with_reducible refine State.setPort_does (Sub.trans (by decide) hM) ?_)

theorem State.saFor_does {M : Nat} {s0 s : State} {x1} {r} (e : State.saFor s x1 = r) (hM : Sub 0x20007c00000000006000000000000000000022 M) (h : Does M s0 s) :
    Does M s0 r.2 := by
  subst e
  unfold State.saFor
  repeat' (first
    | with_reducible assumption
    | with_reducible refine State.settleSa_does rfl (Sub.trans (by decide) hM) ?_
    | with_reducible refine Does.of2 (by with_reducible assumption) ?_
    | split)

theorem State.settleHeads_does {M : Nat} {s0 s : State} {x1} (hM : Sub 0x1000007c000000001044001400000002d0580062 M) (h : Does M s0 s) :
    Does M s0 (State.settleHeads s x1) := by
  unfold State.settleHeads
  repeat' (first
    | with_reducible assumption
    | (intro _ _ _)
    | (extract_lets +onlyGivenNames x; revert x; intro _)
    | with_reducible refine State.ageQueue_does (Sub.trans (by decide) hM) ?_
    | with_reducible refine State.missQueue_does (Sub.trans (by decide) hM) ?_
    | with_reducible refine Does.fold ?_ ?_
    | with_reducible refine Does.ite ?_ ?_)

theorem State.startNext_does {M : Nat} {s0 s : State} {x1} {x2} {x3} {x4} {x5} {r} (e : State.startNext s x1 x2 x3 x4 x5 = some r) (hM : Sub 0x7224007c00000000767600340000000ef7fc8066 M) (h : Does M s0 s) :
    Does M s0 r := by
  revert e
  unfold State.startNext
  repeat' (first
    | with_reducible assumption
    | (intro _ _ _)
    | (intro e; with_reducible injection e with e; subst e)
    | (intro e; with_reducible contradiction)
    | (extract_lets +onlyGivenNames x; revert x; intro _)
    | with_reducible refine State.countShare_does (Sub.trans (by decide) hM) ?_
    | with_reducible refine State.dequeue_does (Sub.trans (by decide) hM) ?_
    | with_reducible refine State.launch_does (Sub.trans (by decide) hM) ?_
    | with_reducible refine State.setPort_does (Sub.trans (by decide) hM) ?_
    | with_reducible refine State.shapeCharge_does (Sub.trans (by decide) hM) ?_
    | with_reducible refine Does.fold ?_ ?_
    | split)

theorem State.startFree_does {M : Nat} {s0 s : State} {x1} {x2} {x3} {x4} (hM : Sub 0x7224007c00000000767600340000000ef7fc8066 M) (h : Does M s0 s) :
    Does M s0 (State.startFree s x1 x2 x3 x4) := by
  unfold State.startFree
  extract_lets x ex
  have ht : ∀ t, ex = some t → Does M s0 t := by
    intro t e
    unfold ex at e
    split at e
    · exact State.startNext_does e (Sub.trans (by decide) hM) h
    · cases e
  clear_value ex
  split
  · exact State.launch_does (Sub.trans (by decide) hM) h
  · split
    · exact Does.getD h (fun _ e => State.startNext_does e (Sub.trans (by decide) hM) h)
    · split
      · exact ht _ rfl
      · exact Does.ite (State.resume_does (Sub.trans (by decide) hM) h) h

theorem execGateEntryBoundary_does {M : Nat} {s0 s : State} {x0} {t : State} (e : execGateEntryBoundary x0 s = .next t) (hM : Sub 0x40000000000404066 M) (h : Does M s0 s) :
    Does M s0 t := by
  revert e
  unfold execGateEntryBoundary
  repeat' (first
    | with_reducible assumption
    | (intro e; with_reducible injection e with e; subst e)
    | with_reducible refine State.gateBoundary_does (Sub.trans (by decide) hM) ?_)

theorem execTransmitEnd_does {M : Nat} {s0 s : State} {x0} {x1} {t : State} (e : execTransmitEnd x0 x1 s = .next t) (hM : Sub 0x1004007c000000001444001400000006c4584066 M) (h : Does M s0 s) :
    Does M s0 t := by
  revert e
  unfold execTransmitEnd
  repeat' (first
    | with_reducible assumption
    | (intro e; with_reducible injection e with e; subst e)
    | (extract_lets +onlyGivenNames x; revert x; intro _)
    | with_reducible refine State.cellErrors_does rfl (Sub.trans (by decide) hM) ?_
    | with_reducible refine State.finish_does (Sub.trans (by decide) hM) ?_
    | with_reducible refine State.preempt_does (Sub.trans (by decide) hM) ?_
    | with_reducible refine State.setPort_does (Sub.trans (by decide) hM) ?_
    | with_reducible refine State.wakePort_does (Sub.trans (by decide) hM) ?_
    | with_reducible refine Does.ite ?_ ?_
    | split)

theorem execTransmitStart_does {M : Nat} {s0 s : State} {x0} {x1} {x2} {t : State} (e : execTransmitStart x0 x1 x2 s = .next t) (hM : Sub 0x7224007c00000000767600340000000ef7fcc066 M) (h : Does M s0 s) :
    Does M s0 t := by
  revert e
  unfold execTransmitStart
  repeat' (first
    | with_reducible assumption
    | (intro e; with_reducible injection e with e; subst e)
    | (extract_lets +onlyGivenNames x; refine Does.cut x ?_ ?_; rotate_left; (intro hx; clear_value x; revert x; intro _ _); rotate_left; (unfold x; clear x))
    | (extract_lets +onlyGivenNames x; revert x; intro _)
    | with_reducible refine State.adjustV_does (Sub.trans (by decide) hM) ?_
    | with_reducible refine State.launch_does (Sub.trans (by decide) hM) ?_
    | with_reducible refine State.passTurns_does (Sub.trans (by decide) hM) ?_
    | with_reducible refine State.preempt_does (Sub.trans (by decide) hM) ?_
    | with_reducible refine State.purgeReady_does (Sub.trans (by decide) hM) ?_
    | with_reducible refine State.saFor_does rfl (Sub.trans (by decide) hM) ?_
    | with_reducible refine State.settleHeads_does (Sub.trans (by decide) hM) ?_
    | with_reducible refine State.settleTx_does (Sub.trans (by decide) hM) ?_
    | with_reducible refine State.startFree_does (Sub.trans (by decide) hM) ?_
    | (intro _ e; with_reducible refine State.startNext_does e (Sub.trans (by decide) hM) ?_)
    | with_reducible refine Does.getD ?_ ?_
    | with_reducible refine State.wakePort_does (Sub.trans (by decide) hM) ?_
    | with_reducible refine Does.ite ?_ ?_
    | with_reducible refine Does.of2 (by with_reducible assumption) ?_
    | split)

end Sys2Proof.Machine
end

