-- ==== Sys2Proof/Laws/Time.lean ====
section
/-!
SUPPORT. What each operation of Machine/Time.lean can change, and that it takes nothing back.
-/
namespace Sys2Proof.Machine

theorem State.setCmp_does {M : Nat} {s0 s : State} {x1} {x2} {x3} (hM : Sub 536870912 M) (h : Does M s0 s) :
    Does M s0 (State.setCmp s x1 x2 x3) := by
  unfold State.setCmp
  repeat' (first
    | with_reducible assumption
    | (extract_lets +onlyGivenNames x; revert x; intro _)
    | with_reducible refine State.setTime_does (Sub.trans (by decide) hM) ?_)

theorem State.cmpBase_does {M : Nat} {s0 s : State} {x1} {x2} (hM : Sub 536870912 M) (h : Does M s0 s) :
    Does M s0 (State.cmpBase s x1 x2) := by
  unfold State.cmpBase
  repeat' (first
    | with_reducible assumption
    | (extract_lets +onlyGivenNames x; revert x; intro _)
    | with_reducible refine State.setCmp_does (Sub.trans (by decide) hM) ?_)

theorem State.cmpArm_does {M : Nat} {s0 s : State} {x1 : Page} {x2} {x3} (hM : Sub 0x7c00000000004000000000000020000022 M) (hB1 : Sub x1.blk M) (hH1 : Sub x1.hdr M) (h : Does M s0 s) :
    Does M s0 (State.cmpArm s x1 x2 x3) := by
  unfold State.cmpArm
  repeat' (first
    | with_reducible assumption
    | (extract_lets +onlyGivenNames x; refine Does.cut x ?_ ?_; rotate_left; (intro hx; clear_value x; revert x; intro _ _); rotate_left; (unfold x; clear x))
    | with_reducible refine State.cmpBase_does (Sub.trans (by decide) hM) ?_
    | with_reducible refine State.errCount_does (Sub.trans (by decide) hM) hH1 ?_
    | with_reducible refine State.putRw_does (Sub.trans (by decide) hM) (Sub.off (Fld.le_at (by decide)) hB1) ?_
    | with_reducible refine State.setCmp_does (Sub.trans (by decide) hM) ?_
    | with_reducible refine Does.ite ?_ ?_)

theorem State.cmpMove_does {M : Nat} {s0 s : State} {x1} {x2} {x3} (hM : Sub 0x20000000000000000000020 M) (h : Does M s0 s) :
    Does M s0 (State.cmpMove s x1 x2 x3) := by
  unfold State.cmpMove
  repeat' (first
    | with_reducible assumption
    | (extract_lets +onlyGivenNames x; revert x; intro _)
    | with_reducible refine State.fset_does (Sub.trans (by decide) hM) (Sub.fld (by decide) (Sub.kind (k := .timeU) rfl (by decide) hM)) ?_
    | with_reducible refine State.setReg_does (Sub.trans (by decide) hM) (Sub.off (Fld.le_at (by decide)) (Sub.kind (k := .timeU) rfl (by decide) hM)) ?_)

theorem State.cmpStep_does {M : Nat} {s0 s : State} {x1} {x2} {x3} {x4} (hM : Sub 0x20000000000000020000020 M) (h : Does M s0 s) :
    Does M s0 (State.cmpStep s x1 x2 x3 x4) := by
  unfold State.cmpStep
  repeat' (first
    | with_reducible assumption
    | (extract_lets +onlyGivenNames x; revert x; intro _)
    | with_reducible refine State.cmpMove_does (Sub.trans (by decide) hM) ?_
    | with_reducible refine State.setCmp_does (Sub.trans (by decide) hM) ?_
    | with_reducible refine Does.ite ?_ ?_)

theorem State.setLockState_does {M : Nat} {s0 s : State} {x1} {x2} (hM : Sub 0x200007c00000000024000000000000000000022 M) (h : Does M s0 s) :
    Does M s0 (State.setLockState s x1 x2) := by
  unfold State.setLockState
  repeat' (first
    | with_reducible assumption
    | with_reducible refine State.fset_does (Sub.trans (by decide) hM) (Sub.fld (by decide) (Sub.kind (k := .timeU) rfl (by decide) hM)) ?_
    | with_reducible refine State.raise_does (Sub.trans (by decide) hM) (Sub.kindH (k := .timeU) rfl (by decide) hM) ?_
    | with_reducible refine Does.ite ?_ ?_)

theorem State.enterFree_does {M : Nat} {s0 s : State} {x1} (hM : Sub 0x200007c00000000024000000000000020000022 M) (h : Does M s0 s) :
    Does M s0 (State.enterFree s x1) := by
  unfold State.enterFree
  repeat' (first
    | with_reducible assumption
    | (extract_lets +onlyGivenNames x; revert x; intro _)
    | with_reducible refine State.setLockState_does (Sub.trans (by decide) hM) ?_
    | with_reducible refine State.setReg_does (Sub.trans (by decide) hM) (Sub.off (by decide) (Sub.kind (k := .timeU) rfl (by decide) hM)) ?_
    | with_reducible refine State.setTime_does (Sub.trans (by decide) hM) ?_)

theorem State.setRate_does {M : Nat} {s0 s : State} {x1} {x2} (hM : Sub 0x200007c00000000024000000000000000000026 M) (h : Does M s0 s) :
    Does M s0 (State.setRate s x1 x2) := by
  unfold State.setRate
  repeat' (first
    | with_reducible assumption
    | (extract_lets +onlyGivenNames x; refine Does.cut x.2 ?_ ?_; rotate_left; (intro hx; clear_value x; revert x; intro _ _); rotate_left; (unfold x; clear x))
    | (extract_lets +onlyGivenNames x; revert x; intro _)
    | with_reducible refine State.draw_does rfl (Sub.trans (by decide) hM) ?_
    | with_reducible refine State.raiseIf_does (Sub.trans (by decide) hM) (Sub.kindH (k := .timeU) rfl (by decide) hM) ?_
    | with_reducible refine State.setReg_does (Sub.trans (by decide) hM) (Sub.off (by decide) (Sub.kind (k := .timeU) rfl (by decide) hM)) ?_
    | split)

theorem State.enterHoldover_does {M : Nat} {s0 s : State} {x1} (hM : Sub 0x200007c00000000024000000000000020000066 M) (h : Does M s0 s) :
    Does M s0 (State.enterHoldover s x1) := by
  unfold State.enterHoldover
  repeat' (first
    | with_reducible assumption
    | (extract_lets +onlyGivenNames x; refine Does.cut x ?_ ?_; rotate_left; (intro hx; clear_value x; revert x; intro _ _); rotate_left; (unfold x; clear x))
    | (extract_lets +onlyGivenNames x; revert x; intro _)
    | with_reducible refine State.cadd_does (Sub.trans (by decide) hM) (Sub.fld (by decide) (Sub.kind (k := .timeU) rfl (by decide) hM)) ?_
    | with_reducible refine State.raise_does (Sub.trans (by decide) hM) (Sub.kindH (k := .timeU) rfl (by decide) hM) ?_
    | with_reducible refine State.setLockState_does (Sub.trans (by decide) hM) ?_
    | with_reducible refine State.setRate_does (Sub.trans (by decide) hM) ?_
    | with_reducible refine State.setTime_does (Sub.trans (by decide) hM) ?_)

theorem State.lockOffset_does {M : Nat} {s0 s : State} {x1} {x2} (hM : Sub 0x200007c00000000024000000000000020000022 M) (h : Does M s0 s) :
    Does M s0 (State.lockOffset s x1 x2) := by
  unfold State.lockOffset
  repeat' (first
    | with_reducible assumption
    | (extract_lets +onlyGivenNames x; refine Does.cut x ?_ ?_; rotate_left; (intro hx; clear_value x; revert x; intro _ _); rotate_left; (unfold x; clear x))
    | (extract_lets +onlyGivenNames x; revert x; intro _)
    | with_reducible refine State.setLockState_does (Sub.trans (by decide) hM) ?_
    | with_reducible refine State.setTime_does (Sub.trans (by decide) hM) ?_
    | with_reducible refine Does.ite ?_ ?_
    | split)

theorem State.steer_does {M : Nat} {s0 s : State} {x1} {x2} (hM : Sub 0x200007c00000000024000000000000020000026 M) (h : Does M s0 s) :
    Does M s0 (State.steer s x1 x2) := by
  unfold State.steer
  repeat' (first
    | with_reducible assumption
    | (extract_lets +onlyGivenNames x; refine Does.cut x.2 ?_ ?_; rotate_left; (intro hx; clear_value x; revert x; intro _ _); rotate_left; (unfold x; clear x))
    | (extract_lets +onlyGivenNames x; revert x; intro _)
    | with_reducible refine State.draw_does rfl (Sub.trans (by decide) hM) ?_
    | with_reducible refine State.setRate_does (Sub.trans (by decide) hM) ?_
    | with_reducible refine State.setTime_does (Sub.trans (by decide) hM) ?_
    | split)

theorem State.stepTime_does {M : Nat} {s0 s : State} {x1} {x2} (hM : Sub 0x200007c00000000024000040000000020404066 M) (h : Does M s0 s) :
    Does M s0 (State.stepTime s x1 x2) := by
  unfold State.stepTime
  repeat' (first
    | with_reducible assumption
    | (intro _ _ _)
    | (extract_lets +onlyGivenNames x; refine Does.cut x.2 ?_ ?_; rotate_left; (intro hx; clear_value x; revert x; intro _ _); rotate_left; (unfold x; clear x))
    | (extract_lets +onlyGivenNames x; revert x; intro _)
    | with_reducible refine State.cadd_does (Sub.trans (by decide) hM) (Sub.fld (by decide) (Sub.kind (k := .timeU) rfl (by decide) hM)) ?_
    | with_reducible refine State.cmpStep_does (Sub.trans (by decide) hM) ?_
    | with_reducible refine State.cutClosed_does (Sub.trans (by decide) hM) ?_
    | with_reducible refine State.draw_does rfl (Sub.trans (by decide) hM) ?_
    | with_reducible refine State.gateBoundary_does (Sub.trans (by decide) hM) ?_
    | with_reducible refine State.raise_does (Sub.trans (by decide) hM) (Sub.kindH (k := .timeU) rfl (by decide) hM) ?_
    | with_reducible refine State.setPort_does (Sub.trans (by decide) hM) ?_
    | with_reducible refine State.setTime_does (Sub.trans (by decide) hM) ?_
    | with_reducible refine Does.fold ?_ ?_
    | split)

theorem State.stepUnit_does {M : Nat} {s0 s : State} {x1} {x2} (hM : Sub 0x200007c00000000024000040000000020404066 M) (h : Does M s0 s) :
    Does M s0 (State.stepUnit s x1 x2) := by
  unfold State.stepUnit
  repeat' (first
    | with_reducible assumption
    | (extract_lets +onlyGivenNames x; refine Does.cut x ?_ ?_; rotate_left; (intro hx; clear_value x; revert x; intro _ _); rotate_left; (unfold x; clear x))
    | with_reducible refine State.stepTime_does (Sub.trans (by decide) hM) ?_
    | with_reducible refine Does.ite ?_ ?_)

theorem State.offset_does {M : Nat} {s0 s : State} {x1} {x2} (hM : Sub 0x200007c00000000024000040000000020404066 M) (h : Does M s0 s) :
    Does M s0 (State.offset s x1 x2) := by
  unfold State.offset
  repeat' (first
    | with_reducible assumption
    | (extract_lets +onlyGivenNames x; refine Does.cut x ?_ ?_; rotate_left; (intro hx; clear_value x; revert x; intro _ _); rotate_left; (unfold x; clear x))
    | (extract_lets +onlyGivenNames x; revert x; intro _)
    | with_reducible refine State.cadd_does (Sub.trans (by decide) hM) (Sub.fld (by decide) (Sub.kind (k := .timeU) rfl (by decide) hM)) ?_
    | with_reducible refine State.lockOffset_does (Sub.trans (by decide) hM) ?_
    | with_reducible refine State.setPair_does (Sub.trans (by decide) hM) (Sub.off (by decide) (Sub.kind (k := .timeU) rfl (by decide) hM)) (Sub.off (by decide) (Sub.kind (k := .timeU) rfl (by decide) hM)) ?_
    | with_reducible refine State.setTime_does (Sub.trans (by decide) hM) ?_
    | with_reducible refine State.steer_does (Sub.trans (by decide) hM) ?_
    | with_reducible refine State.stepUnit_does (Sub.trans (by decide) hM) ?_
    | with_reducible refine Does.ite ?_ ?_)

theorem State.offsetSubmit_does {M : Nat} {s0 s : State} {x1 : Page} {x2} (hM : Sub 0x200007c00000000024000040000000020404066 M) (hB1 : Sub x1.blk M) (hH1 : Sub x1.hdr M) (h : Does M s0 s) :
    Does M s0 (State.offsetSubmit s x1 x2) := by
  unfold State.offsetSubmit
  repeat' (first
    | with_reducible assumption
    | (extract_lets +onlyGivenNames x; refine Does.cut x ?_ ?_; rotate_left; (intro hx; clear_value x; revert x; intro _ _); rotate_left; (unfold x; clear x))
    | with_reducible refine State.errCount_does (Sub.trans (by decide) hM) hH1 ?_
    | with_reducible refine State.offset_does (Sub.trans (by decide) hM) ?_
    | with_reducible refine State.setReg_does (Sub.trans (by decide) hM) (Sub.off (by decide) hB1) ?_
    | with_reducible refine Does.ite ?_ ?_)

theorem State.popStamp_does {M : Nat} {s0 s : State} {x1 : Page} (hM : Sub 536870944 M) (hB1 : Sub x1.blk M) (h : Does M s0 s) :
    Does M s0 (State.popStamp s x1) := by
  unfold State.popStamp
  repeat' (first
    | with_reducible assumption
    | (extract_lets +onlyGivenNames x; refine Does.cut x ?_ ?_; rotate_left; (intro hx; clear_value x; revert x; intro _ _); rotate_left; (unfold x; clear x))
    | (extract_lets +onlyGivenNames x; revert x; intro _)
    | with_reducible refine State.bset_does (Sub.trans (by decide) hM) (Sub.fld (by decide) hB1) ?_
    | with_reducible refine State.setPair_does (Sub.trans (by decide) hM) (Sub.off (by decide) hB1) (Sub.off (by decide) hB1) ?_
    | with_reducible refine State.setReg_does (Sub.trans (by decide) hM) (Sub.off (by decide) hB1) ?_
    | with_reducible refine State.setTime_does (Sub.trans (by decide) hM) ?_
    | split)

theorem State.ppsHold_does {M : Nat} {s0 s : State} {x1} {x2} (hM : Sub 0x20000000000000000000020 M) (h : Does M s0 s) :
    Does M s0 (State.ppsHold s x1 x2) := by
  unfold State.ppsHold
  repeat' (first
    | with_reducible assumption
    | with_reducible refine State.setPair_does (Sub.trans (by decide) hM) (Sub.off (by decide) (Sub.kind (k := .timeU) rfl (by decide) hM)) (Sub.off (by decide) (Sub.kind (k := .timeU) rfl (by decide) hM)) ?_
    | split)

theorem State.ppsServo_does {M : Nat} {s0 s : State} {x1} {x2} (hM : Sub 0x200007c00000000024000040000000020404066 M) (h : Does M s0 s) :
    Does M s0 (State.ppsServo s x1 x2) := by
  unfold State.ppsServo
  repeat' (first
    | with_reducible assumption
    | (extract_lets +onlyGivenNames x; revert x; intro _)
    | with_reducible refine State.offset_does (Sub.trans (by decide) hM) ?_
    | with_reducible refine Does.ite ?_ ?_
    | split)

theorem State.sternCorrection_does {M : Nat} {s0 s : State} {r} (e : State.sternCorrection s = r) (hM : Sub 4 M) (h : Does M s0 s) :
    Does M s0 r.2 := by
  subst e
  unfold State.sternCorrection
  repeat' (first
    | with_reducible assumption
    | (extract_lets +onlyGivenNames x; refine Does.cut x.2 ?_ ?_; rotate_left; (intro hx; clear_value x; revert x; intro _ _); rotate_left; (unfold x; clear x))
    | (extract_lets +onlyGivenNames x; revert x; intro _)
    | with_reducible refine State.draw_does rfl (Sub.trans (by decide) hM) ?_
    | split)

theorem State.timeCtrl_does {M : Nat} {s0 s : State} {x1 : Page} {x2} (hM : Sub 0x200007c00000000024000000000000020000066 M) (hB1 : Sub x1.blk M) (h : Does M s0 s) :
    Does M s0 (State.timeCtrl s x1 x2) := by
  unfold State.timeCtrl
  repeat' (first
    | with_reducible assumption
    | (extract_lets +onlyGivenNames x; refine Does.cut x ?_ ?_; rotate_left; (intro hx; clear_value x; revert x; intro _ _); rotate_left; (unfold x; clear x))
    | (extract_lets +onlyGivenNames x; revert x; intro _)
    | with_reducible refine State.enterFree_does (Sub.trans (by decide) hM) ?_
    | with_reducible refine State.enterHoldover_does (Sub.trans (by decide) hM) ?_
    | with_reducible refine State.fset_does (Sub.trans (by decide) hM) (Sub.fld (by decide) hB1) ?_
    | with_reducible refine State.putRw_does (Sub.trans (by decide) hM) (Sub.off (by decide) hB1) ?_
    | with_reducible refine State.setPair_does (Sub.trans (by decide) hM) (Sub.off (by decide) hB1) (Sub.off (by decide) hB1) ?_
    | with_reducible refine Does.ite ?_ ?_)

theorem State.timeReset_does {M : Nat} {s0 s : State} {x1} {x2} (hM : Sub 0x200007c00000000024000000000000020000022 M) (h : Does M s0 s) :
    Does M s0 (State.timeReset s x1 x2) := by
  unfold State.timeReset
  repeat' (first
    | with_reducible assumption
    | (extract_lets +onlyGivenNames x; refine Does.cut x ?_ ?_; rotate_left; (intro hx; clear_value x; revert x; intro _ _); rotate_left; (unfold x; clear x))
    | (extract_lets +onlyGivenNames x; revert x; intro _)
    | with_reducible refine State.bset_does (Sub.trans (by decide) hM) (Sub.fld (by decide) (Sub.kind (k := .timeU) rfl (by decide) hM)) ?_
    | with_reducible refine State.enterFree_does (Sub.trans (by decide) hM) ?_
    | with_reducible refine State.fset_does (Sub.trans (by decide) hM) (Sub.fld (by decide) (Sub.kind (k := .timeU) rfl (by decide) hM)) ?_
    | with_reducible refine State.setTime_does (Sub.trans (by decide) hM) ?_
    | with_reducible refine Does.ite ?_ ?_)

theorem State.timeSetCtrl_does {M : Nat} {s0 s : State} {x1 : Page} {x2} (hM : Sub 0x7c00000000004000000000000020000022 M) (hB1 : Sub x1.blk M) (hH1 : Sub x1.hdr M) (h : Does M s0 s) :
    Does M s0 (State.timeSetCtrl s x1 x2) := by
  unfold State.timeSetCtrl
  repeat' (first
    | with_reducible assumption
    | (extract_lets +onlyGivenNames x; revert x; intro _)
    | with_reducible refine State.bset_does (Sub.trans (by decide) hM) (Sub.fld (by decide) hB1) ?_
    | with_reducible refine State.errCount_does (Sub.trans (by decide) hM) hH1 ?_
    | with_reducible refine State.putRw_does (Sub.trans (by decide) hM) (Sub.off (by decide) hB1) ?_
    | with_reducible refine State.setTime_does (Sub.trans (by decide) hM) ?_
    | with_reducible refine Does.ite ?_ ?_)

theorem State.timeSetWrite_does {M : Nat} {s0 s : State} {x1} {x2} {x3} {x4} (hM : Sub 0x7ffff007e00000000024000000000000021000022 M) (h : Does M s0 s) :
    Does M s0 (State.timeSetWrite s x1 x2 x3 x4) := by
  unfold State.timeSetWrite
  repeat' (first
    | with_reducible assumption
    | (intro _ _ _ _ _)
    | with_reducible refine State.accessLocked_does (Sub.trans (by decide) hM) ?_ ?_
    | with_reducible refine State.timeSetCtrl_does (Sub.trans (by decide) hM) (Sub.kind (k := .timeU) (by with_reducible assumption) (by decide) hM) (Sub.kindH (k := .timeU) (by with_reducible assumption) (by decide) hM) ?_)

theorem State.unfollow_does {M : Nat} {s0 s : State} (hM : Sub 0x200007c00000000024000000000000020000066 M) (h : Does M s0 s) :
    Does M s0 (State.unfollow s) := by
  unfold State.unfollow
  repeat' (first
    | with_reducible assumption
    | (extract_lets +onlyGivenNames x; refine Does.cut x ?_ ?_; rotate_left; (intro hx; clear_value x; revert x; intro _ _); rotate_left; (unfold x; clear x))
    | (extract_lets +onlyGivenNames x; revert x; intro _)
    | with_reducible refine State.bset_does (Sub.trans (by decide) hM) (Sub.fld (by decide) (Sub.kind (k := .timeU) rfl (by decide) hM)) ?_
    | with_reducible refine State.enterHoldover_does (Sub.trans (by decide) hM) ?_
    | with_reducible refine State.setTime_does (Sub.trans (by decide) hM) ?_)

theorem State.timeSplit_does {M : Nat} {s0 s : State} {x1} (hM : Sub 0x200007c00000000024000000000000020000066 M) (h : Does M s0 s) :
    Does M s0 (State.timeSplit s x1) := by
  unfold State.timeSplit
  repeat' (first
    | with_reducible assumption
    | with_reducible refine State.enterHoldover_does (Sub.trans (by decide) hM) ?_
    | with_reducible refine State.unfollow_does (Sub.trans (by decide) hM) ?_
    | with_reducible refine Does.ite ?_ ?_)

theorem execCmpArmWrite_does {M : Nat} {s0 s : State} {x0} {x1} {x2} {x3} {t : State} (e : execCmpArmWrite x0 x1 x2 x3 s = .next t) (hM : Sub 0x240007c00000000024000000000000021000022 M) (h : Does M s0 s) :
    Does M s0 t := by
  revert e
  unfold execCmpArmWrite
  repeat' (first
    | with_reducible assumption
    | (intro _ _ _ _)
    | (intro e; with_reducible injection e with e; subst e)
    | with_reducible refine State.accessKind_does (Sub.trans (by decide) hM) ?_ ?_
    | with_reducible refine State.cmpArm_does (Sub.trans (by decide) hM) (Sub.kind (k := .timeU) (by with_reducible assumption) (by decide) hM) (Sub.kindH (k := .timeU) (by with_reducible assumption) (by decide) hM) ?_)

theorem execPpsInEdge_does {M : Nat} {s0 s : State} {x0} {t : State} (e : execPpsInEdge x0 s = .next t) (hM : Sub 0x200007c00000000024000040000000020404066 M) (h : Does M s0 s) :
    Does M s0 t := by
  revert e
  unfold execPpsInEdge
  repeat' (first
    | with_reducible assumption
    | (intro e; with_reducible injection e with e; subst e)
    | (extract_lets +onlyGivenNames x; revert x; intro _)
    | with_reducible refine State.ppsHold_does (Sub.trans (by decide) hM) ?_
    | with_reducible refine State.ppsServo_does (Sub.trans (by decide) hM) ?_
    | with_reducible refine Does.ite ?_ ?_)

theorem execPpsInMiss_does {M : Nat} {s0 s : State} {x0} {t : State} (e : execPpsInMiss x0 s = .next t) (hM : Sub 0x200007c00000000004000000000000000000022 M) (h : Does M s0 s) :
    Does M s0 t := by
  revert e
  unfold execPpsInMiss State.ifOperates
  repeat' (first
    | with_reducible assumption
    | (intro e; with_reducible injection e with e; subst e)
    | with_reducible refine State.raiseIf_does (Sub.trans (by decide) hM) (Sub.kindH (k := .timeU) rfl (by decide) hM) ?_
    | with_reducible refine Does.ite ?_ ?_)

theorem execPpsOutFall_does {M : Nat} {s0 s : State} {t : State} (e : execPpsOutFall s = .next t) (hM : Sub 536870914 M) (h : Does M s0 s) :
    Does M s0 t := by
  revert e
  unfold execPpsOutFall State.ifOperates
  repeat' (first
    | with_reducible assumption
    | (intro e; with_reducible injection e with e; subst e)
    | with_reducible refine State.emit_does (Sub.trans (by decide) hM) ?_
    | with_reducible refine State.setTime_does (Sub.trans (by decide) hM) ?_
    | with_reducible refine Does.ite ?_ ?_)

theorem execPpsOutRise_does {M : Nat} {s0 s : State} {t : State} (e : execPpsOutRise s = .next t) (hM : Sub 536870914 M) (h : Does M s0 s) :
    Does M s0 t := by
  revert e
  unfold execPpsOutRise State.ifOperates
  repeat' (first
    | with_reducible assumption
    | (intro e; with_reducible injection e with e; subst e)
    | with_reducible refine State.emit_does (Sub.trans (by decide) hM) ?_
    | with_reducible refine State.setTime_does (Sub.trans (by decide) hM) ?_
    | with_reducible refine Does.ite ?_ ?_
    | split)

theorem execTimeFollowExchange_does {M : Nat} {s0 s : State} {t : State} (e : execTimeFollowExchange s = .next t) (hM : Sub 0x200007c00000000024000040000000020404066 M) (h : Does M s0 s) :
    Does M s0 t := by
  revert e
  unfold execTimeFollowExchange State.ifOperates
  repeat' (first
    | with_reducible assumption
    | (intro e; with_reducible injection e with e; subst e)
    | (extract_lets +onlyGivenNames x; refine Does.cut x ?_ ?_; rotate_left; (intro hx; clear_value x; revert x; intro _ _); rotate_left; (unfold x; clear x))
    | (extract_lets +onlyGivenNames x; revert x; intro _)
    | with_reducible refine State.bset_does (Sub.trans (by decide) hM) (Sub.fld (by decide) (Sub.kind (k := .timeU) rfl (by decide) hM)) ?_
    | with_reducible refine State.setLockState_does (Sub.trans (by decide) hM) ?_
    | with_reducible refine State.setRate_does (Sub.trans (by decide) hM) ?_
    | with_reducible refine State.setTime_does (Sub.trans (by decide) hM) ?_
    | with_reducible refine State.stepTime_does (Sub.trans (by decide) hM) ?_
    | with_reducible refine State.sternCorrection_does rfl (Sub.trans (by decide) hM) ?_
    | with_reducible refine Does.ite ?_ ?_)

theorem execTimeFollowLoss_does {M : Nat} {s0 s : State} {t : State} (e : execTimeFollowLoss s = .next t) (hM : Sub 0x200007c00000000024000000000000020000066 M) (h : Does M s0 s) :
    Does M s0 t := by
  revert e
  unfold execTimeFollowLoss State.ifOperates
  repeat' (first
    | with_reducible assumption
    | (intro e; with_reducible injection e with e; subst e)
    | (extract_lets +onlyGivenNames x; refine Does.cut x ?_ ?_; rotate_left; (intro hx; clear_value x; revert x; intro _ _); rotate_left; (unfold x; clear x))
    | (extract_lets +onlyGivenNames x; revert x; intro _)
    | with_reducible refine State.bset_does (Sub.trans (by decide) hM) (Sub.fld (by decide) (Sub.kind (k := .timeU) rfl (by decide) hM)) ?_
    | with_reducible refine State.cadd_does (Sub.trans (by decide) hM) (Sub.fld (by decide) (Sub.kind (k := .timeU) rfl (by decide) hM)) ?_
    | with_reducible refine State.raise_does (Sub.trans (by decide) hM) (Sub.kindH (k := .timeU) rfl (by decide) hM) ?_
    | with_reducible refine State.setLockState_does (Sub.trans (by decide) hM) ?_
    | with_reducible refine State.setRate_does (Sub.trans (by decide) hM) ?_
    | with_reducible refine State.setTime_does (Sub.trans (by decide) hM) ?_
    | with_reducible refine Does.ite ?_ ?_)

theorem execTimeLatch_does {M : Nat} {s0 s : State} {x0} {x1} {x2} {t : State} (e : execTimeLatch x0 x1 x2 s = .next t) (hM : Sub 0x240007c00000000024000000000000021000066 M) (h : Does M s0 s) :
    Does M s0 t := by
  revert e
  unfold execTimeLatch
  repeat' (first
    | with_reducible assumption
    | (intro _ _ _ _)
    | (intro e; with_reducible injection e with e; subst e)
    | with_reducible refine State.accessKind_does (Sub.trans (by decide) hM) ?_ ?_
    | with_reducible refine State.timeCtrl_does (Sub.trans (by decide) hM) (Sub.kind (k := .timeU) (by with_reducible assumption) (by decide) hM) ?_)

theorem execTimeOffsetSubmit_does {M : Nat} {s0 s : State} {x0} {x1} {x2} {t : State} (e : execTimeOffsetSubmit x0 x1 x2 s = .next t) (hM : Sub 0x240007c00000000024000040000000021404066 M) (h : Does M s0 s) :
    Does M s0 t := by
  revert e
  unfold execTimeOffsetSubmit
  repeat' (first
    | with_reducible assumption
    | (intro _ _ _ _)
    | (intro e; with_reducible injection e with e; subst e)
    | with_reducible refine State.accessKind_does (Sub.trans (by decide) hM) ?_ ?_
    | with_reducible refine State.offsetSubmit_does (Sub.trans (by decide) hM) (Sub.kind (k := .timeU) (by with_reducible assumption) (by decide) hM) (Sub.kindH (k := .timeU) (by with_reducible assumption) (by decide) hM) ?_)

theorem execTimePortCalDone_does {M : Nat} {s0 s : State} {x0} {t : State} (e : execTimePortCalDone x0 s = .next t) (hM : Sub 0x40000000000000020 M) (h : Does M s0 s) :
    Does M s0 t := by
  revert e
  unfold execTimePortCalDone State.ifOperates
  repeat' (first
    | with_reducible assumption
    | (intro e; with_reducible injection e with e; subst e)
    | with_reducible refine State.bset_does (Sub.trans (by decide) hM) (Sub.fld (by decide) (Sub.kind (k := .port) rfl (by decide) hM)) ?_
    | with_reducible refine Does.ite ?_ ?_)

theorem execTimeRefChange_does {M : Nat} {s0 s : State} {x0} {x1} {x2} {t : State} (e : execTimeRefChange x0 x1 x2 s = .next t) (hM : Sub 0x240007c00000000024000000000000021000066 M) (h : Does M s0 s) :
    Does M s0 t := by
  revert e
  unfold execTimeRefChange
  repeat' (first
    | with_reducible assumption
    | (intro _ _ _ _)
    | (intro e; with_reducible injection e with e; subst e)
    | with_reducible refine State.accessKind_does (Sub.trans (by decide) hM) ?_ ?_
    | with_reducible refine State.timeCtrl_does (Sub.trans (by decide) hM) (Sub.kind (k := .timeU) (by with_reducible assumption) (by decide) hM) ?_)

theorem execTimeRefSelWrite_does {M : Nat} {s0 s : State} {x0} {x1} {x2} {t : State} (e : execTimeRefSelWrite x0 x1 x2 s = .next t) (hM : Sub 0x240007c00000000024000000000000021000066 M) (h : Does M s0 s) :
    Does M s0 t := by
  revert e
  unfold execTimeRefSelWrite
  repeat' (first
    | with_reducible assumption
    | (intro _ _ _ _)
    | (intro e; with_reducible injection e with e; subst e)
    | with_reducible refine State.accessKind_does (Sub.trans (by decide) hM) ?_ ?_
    | with_reducible refine State.timeCtrl_does (Sub.trans (by decide) hM) (Sub.kind (k := .timeU) (by with_reducible assumption) (by decide) hM) ?_)

theorem execTimeRefTimeout_does {M : Nat} {s0 s : State} {x0} {t : State} (e : execTimeRefTimeout x0 s = .next t) (hM : Sub 0x200007c00000000024000000000000020000066 M) (h : Does M s0 s) :
    Does M s0 t := by
  revert e
  unfold execTimeRefTimeout State.ifOperates
  repeat' (first
    | with_reducible assumption
    | (intro e; with_reducible injection e with e; subst e)
    | with_reducible refine State.enterHoldover_does (Sub.trans (by decide) hM) ?_
    | with_reducible refine Does.ite ?_ ?_)

theorem execTimeStepAdd_does {M : Nat} {s0 s : State} {x0} {x1} {x2} {t : State} (e : execTimeStepAdd x0 x1 x2 s = .next t) (hM : Sub 0x7ffff007e00000000024000000000000021000022 M) (h : Does M s0 s) :
    Does M s0 t := by
  revert e
  unfold execTimeStepAdd
  repeat' (first
    | with_reducible assumption
    | (intro e; with_reducible injection e with e; subst e)
    | with_reducible refine State.timeSetWrite_does (Sub.trans (by decide) hM) ?_)

theorem execTimeStepApply_does {M : Nat} {s0 s : State} {x0} {t : State} (e : execTimeStepApply x0 s = .next t) (hM : Sub 0x200007c00000000024000040000000020404066 M) (h : Does M s0 s) :
    Does M s0 t := by
  revert e
  unfold execTimeStepApply State.ifOperates
  repeat' (first
    | with_reducible assumption
    | (intro e; with_reducible injection e with e; subst e)
    | (extract_lets +onlyGivenNames x; revert x; intro _)
    | with_reducible refine State.bset_does (Sub.trans (by decide) hM) (Sub.fld (by decide) (Sub.kind (k := .timeU) rfl (by decide) hM)) ?_
    | with_reducible refine State.setTime_does (Sub.trans (by decide) hM) ?_
    | with_reducible refine State.stepUnit_does (Sub.trans (by decide) hM) ?_
    | with_reducible refine Does.ite ?_ ?_
    | split)

theorem execTimeStepSet_does {M : Nat} {s0 s : State} {x0} {x1} {x2} {t : State} (e : execTimeStepSet x0 x1 x2 s = .next t) (hM : Sub 0x7ffff007e00000000024000000000000021000022 M) (h : Does M s0 s) :
    Does M s0 t := by
  revert e
  unfold execTimeStepSet
  repeat' (first
    | with_reducible assumption
    | (intro e; with_reducible injection e with e; subst e)
    | with_reducible refine State.timeSetWrite_does (Sub.trans (by decide) hM) ?_)

theorem execTimeStepSubtract_does {M : Nat} {s0 s : State} {x0} {x1} {x2} {t : State} (e : execTimeStepSubtract x0 x1 x2 s = .next t) (hM : Sub 0x7ffff007e00000000024000000000000021000022 M) (h : Does M s0 s) :
    Does M s0 t := by
  revert e
  unfold execTimeStepSubtract
  repeat' (first
    | with_reducible assumption
    | (intro e; with_reducible injection e with e; subst e)
    | with_reducible refine State.timeSetWrite_does (Sub.trans (by decide) hM) ?_)

theorem execTxstampPop_does {M : Nat} {s0 s : State} {x0} {x1} {t : State} (e : execTxstampPop x0 x1 s = .next t) (hM : Sub 0x40007c00000007ffff007e0000000021000022 M) (h : Does M s0 s) :
    Does M s0 t := by
  revert e
  unfold execTxstampPop
  repeat' (first
    | with_reducible assumption
    | (intro _ _ _)
    | (intro e; with_reducible injection e with e; subst e)
    | (extract_lets +onlyGivenNames x; refine Does.cut x ?_ ?_; rotate_left; (intro hx; clear_value x; revert x; intro _ _); rotate_left; (unfold x; clear x))
    | with_reducible refine State.access_does (Sub.trans (by decide) hM) ?_ ?_
    | with_reducible refine State.bset_does (Sub.trans (by decide) hM) (Sub.fld (by decide) (Sub.allBlk _ (by decide) hM)) ?_
    | with_reducible refine State.countUnmapped_does (Sub.trans (by decide) hM) ?_
    | with_reducible refine State.emit_does (Sub.trans (by decide) hM) ?_
    | with_reducible refine State.popStamp_does (Sub.trans (by decide) hM) (Sub.allBlk _ (by decide) hM) ?_
    | with_reducible refine Does.ite ?_ ?_)

end Sys2Proof.Machine
end

