-- ==== Sys2Proof/Laws/Keel.lean ====
section
/-!
SUPPORT. What each operation of Machine/Keel.lean can change, and that it takes nothing back.
-/
namespace Sys2Proof.Machine

theorem State.accessesLost_does {M : Nat} {s0 s : State} {x1} (hM : Sub 0x40007c00000000004000000000000001000022 M) (h : Does M s0 s) :
    Does M s0 (State.accessesLost s x1) := by
  unfold State.accessesLost
  repeat' (first
    | with_reducible assumption
    | (intro _ _ _)
    | (extract_lets +onlyGivenNames x; refine Does.cut x ?_ ?_; rotate_left; (intro hx; clear_value x; revert x; intro _ _); rotate_left; (unfold x; clear x))
    | (extract_lets +onlyGivenNames x; revert x; intro _)
    | with_reducible refine State.countUnmapped_does (Sub.trans (by decide) hM) ?_
    | with_reducible refine State.emit_does (Sub.trans (by decide) hM) ?_
    | with_reducible refine State.setKeel_does (Sub.trans (by decide) hM) ?_
    | with_reducible refine Does.fold ?_ ?_)

theorem State.admitCrossings_does {M : Nat} {s0 s : State} {x1} (hM : Sub 8607236096 M) (h : Does M s0 s) :
    Does M s0 (State.admitCrossings s x1) := by
  unfold State.admitCrossings
  repeat' (first
    | with_reducible assumption
    | (intro _ _ _)
    | (extract_lets +onlyGivenNames x; revert x; intro _)
    | with_reducible refine State.setKeel_does (Sub.trans (by decide) hM) ?_
    | with_reducible refine State.toAdmit_does (Sub.trans (by decide) hM) ?_
    | with_reducible refine State.updFrm_does (Sub.trans (by decide) hM) ?_
    | with_reducible refine Does.fold ?_ ?_)

theorem State.clearFaults_does {M : Nat} {s0 s : State} {x1} {x2} (hM : Sub 16777216 M) (h : Does M s0 s) :
    Does M s0 (State.clearFaults s x1 x2) := by
  unfold State.clearFaults
  repeat' (first
    | with_reducible assumption
    | (extract_lets +onlyGivenNames x; revert x; intro _)
    | with_reducible refine State.setKeel_does (Sub.trans (by decide) hM) ?_)

theorem State.crcError_does {M : Nat} {s0 s : State} {x1} {x2} (hM : Sub 0x1000000000000001000060 M) (h : Does M s0 s) :
    Does M s0 (State.crcError s x1 x2) := by
  unfold State.crcError
  repeat' (first
    | with_reducible assumption
    | (extract_lets +onlyGivenNames x; refine Does.cut x ?_ ?_; rotate_left; (intro hx; clear_value x; revert x; intro _ _); rotate_left; (unfold x; clear x))
    | (extract_lets +onlyGivenNames x; revert x; intro _)
    | with_reducible refine State.cadd_does (Sub.trans (by decide) hM) (Sub.fld (by decide) (Sub.kind (k := .keel) rfl (by decide) hM)) ?_
    | with_reducible refine State.fsat_does (Sub.trans (by decide) hM) (Sub.fld (by decide) (Sub.kind (k := .keel) rfl (by decide) hM)) ?_
    | with_reducible refine State.setKeel_does (Sub.trans (by decide) hM) ?_)

theorem State.creditBack_does {M : Nat} {s0 s : State} {x1} {x2} (hM : Sub 16777216 M) (h : Does M s0 s) :
    Does M s0 (State.creditBack s x1 x2) := by
  unfold State.creditBack
  repeat' (first
    | with_reducible assumption
    | (extract_lets +onlyGivenNames x; revert x; intro _)
    | with_reducible refine State.setKeel_does (Sub.trans (by decide) hM) ?_)

theorem State.endCells_does {M : Nat} {s0 s : State} {x1} {x2} (hM : Sub 524288 M) (h : Does M s0 s) :
    Does M s0 (State.endCells s x1 x2) := by
  unfold State.endCells
  repeat' (first
    | with_reducible assumption
    | with_reducible refine State.updPasses_does (Sub.trans (by decide) hM) ?_)

theorem State.loseFrame_does {M : Nat} {s0 s : State} {x1} {x2} {x3} (hM : Sub 0x1000007c000000001054001400000002d1580062 M) (h : Does M s0 s) :
    Does M s0 (State.loseFrame s x1 x2 x3) := by
  unfold State.loseFrame
  repeat' (first
    | with_reducible assumption
    | (extract_lets +onlyGivenNames x; refine Does.cut x ?_ ?_; rotate_left; (intro hx; clear_value x; revert x; intro _ _); rotate_left; (unfold x; clear x))
    | (extract_lets +onlyGivenNames x; revert x; intro _)
    | with_reducible refine State.cadd_does (Sub.trans (by decide) hM) (Sub.fld (by decide) (Sub.kind (k := .keel) rfl (by decide) hM)) ?_
    | with_reducible refine State.dropAt_does (Sub.trans (by decide) hM) ?_
    | with_reducible refine State.endCells_does (Sub.trans (by decide) hM) ?_
    | with_reducible refine State.setKeel_does (Sub.trans (by decide) hM) ?_
    | with_reducible refine State.spoil_does (Sub.trans (by decide) hM) ?_
    | with_reducible refine State.updFrm_does (Sub.trans (by decide) hM) ?_
    | with_reducible refine Does.ite ?_ ?_
    | split
    | refine Does.put_admits (Sub.trans (by decide) hM) ?_ (fun c => Sparse.wf_set _ _ _ _ c))

theorem State.dropCrossings_does {M : Nat} {s0 s : State} {x1} (hM : Sub 0x1000007c000000001054001400000002d1580062 M) (h : Does M s0 s) :
    Does M s0 (State.dropCrossings s x1) := by
  unfold State.dropCrossings
  repeat' (first
    | with_reducible assumption
    | (intro _ _ _)
    | (extract_lets +onlyGivenNames x; refine Does.cut x ?_ ?_; rotate_left; (intro hx; clear_value x; revert x; intro _ _); rotate_left; (unfold x; clear x))
    | with_reducible refine State.loseFrame_does (Sub.trans (by decide) hM) ?_
    | with_reducible refine Does.fold ?_ ?_)

theorem State.voidOn_does {M : Nat} {s0 s : State} {x1} {x2} (hM : Sub 8863088640 M) (h : Does M s0 s) :
    Does M s0 (State.voidOn s x1 x2) := by
  unfold State.voidOn
  repeat' (first
    | with_reducible assumption
    | (intro _ _ _)
    | (extract_lets +onlyGivenNames x; refine Does.cut x ?_ ?_; rotate_left; (intro hx; clear_value x; revert x; intro _ _); rotate_left; (unfold x; clear x))
    | with_reducible refine State.dropFrm_does (Sub.trans (by decide) hM) ?_
    | with_reducible refine State.unqueue_does (Sub.trans (by decide) hM) ?_
    | with_reducible refine Does.fold ?_ ?_
    | with_reducible refine Does.ite ?_ ?_
    | refine Does.put_admits (Sub.trans (by decide) hM) ?_ (fun c => Sparse.wf_set _ _ _ _ c))

theorem State.dropMessages_does {M : Nat} {s0 s : State} {x1} (hM : Sub 0x40007c00000000004000000000000211480022 M) (h : Does M s0 s) :
    Does M s0 (State.dropMessages s x1) := by
  unfold State.dropMessages
  repeat' (first
    | with_reducible assumption
    | (intro _ _ _)
    | (extract_lets +onlyGivenNames x; refine Does.cut x ?_ ?_; rotate_left; (intro hx; clear_value x; revert x; intro _ _); rotate_left; (unfold x; clear x))
    | (extract_lets +onlyGivenNames x; revert x; intro _)
    | with_reducible refine State.accessesLost_does (Sub.trans (by decide) hM) ?_
    | with_reducible refine State.setKeel_does (Sub.trans (by decide) hM) ?_
    | with_reducible refine State.voidOn_does (Sub.trans (by decide) hM) ?_
    | with_reducible refine Does.fold ?_ ?_
    | split)

theorem State.firstTraining_does {M : Nat} {s0 s : State} {x1} (hM : Sub 0x10007c00000000004000000000000001000022 M) (h : Does M s0 s) :
    Does M s0 (State.firstTraining s x1) := by
  unfold State.firstTraining
  repeat' (first
    | with_reducible assumption
    | (extract_lets +onlyGivenNames x; revert x; intro _)
    | with_reducible refine State.raiseIf_does (Sub.trans (by decide) hM) (Sub.kindH (k := .keel) rfl (by decide) hM) ?_
    | with_reducible refine State.setKeel_does (Sub.trans (by decide) hM) ?_
    | with_reducible refine Does.ite ?_ ?_)

theorem State.keelCount_does {M : Nat} {s0 s : State} {x1} (hM : Sub 0x10007c00000000005000000000000000000022 M) (h : Does M s0 s) :
    Does M s0 (State.keelCount s x1) := by
  unfold State.keelCount
  repeat' (first
    | with_reducible assumption
    | (extract_lets +onlyGivenNames x; refine Does.cut x ?_ ?_; rotate_left; (intro hx; clear_value x; revert x; intro _ _); rotate_left; (unfold x; clear x))
    | (extract_lets +onlyGivenNames x; revert x; intro _)
    | with_reducible refine State.fset_does (Sub.trans (by decide) hM) (Sub.fld (by decide) (Sub.kind (k := .keel) rfl (by decide) hM)) ?_
    | with_reducible refine State.raiseIf_does (Sub.trans (by decide) hM) (Sub.kindH (k := .keel) rfl (by decide) hM) ?_)

theorem State.keelCounts_does {M : Nat} {s0 s : State} (hM : Sub 0x10007c00000000005000000000000000000022 M) (h : Does M s0 s) :
    Does M s0 (State.keelCounts s) := by
  unfold State.keelCounts
  repeat' (first
    | with_reducible assumption
    | with_reducible refine State.keelCount_does (Sub.trans (by decide) hM) ?_)

theorem State.setSub_does {M : Nat} {s0 s : State} {x1} {x2} {x3} (hM : Sub 0x1000000000000000000020 M) (h : Does M s0 s) :
    Does M s0 (State.setSub s x1 x2 x3) := by
  unfold State.setSub
  repeat' (first
    | with_reducible assumption
    | with_reducible refine State.fset_does (Sub.trans (by decide) hM) (Sub.fld (by decide) (Sub.kind (k := .keel) rfl (by decide) hM)) ?_)

theorem State.powerDown_does {M : Nat} {s0 s : State} {x1} {x2} (hM : Sub 0x1000000000000001000020 M) (h : Does M s0 s) :
    Does M s0 (State.powerDown s x1 x2) := by
  unfold State.powerDown
  repeat' (first
    | with_reducible assumption
    | (extract_lets +onlyGivenNames x; refine Does.cut x ?_ ?_; rotate_left; (intro hx; clear_value x; revert x; intro _ _); rotate_left; (unfold x; clear x))
    | (extract_lets +onlyGivenNames x; revert x; intro _)
    | with_reducible refine State.setKeel_does (Sub.trans (by decide) hM) ?_
    | with_reducible refine State.setSub_does (Sub.trans (by decide) hM) ?_
    | with_reducible refine Does.ite ?_ ?_)

theorem State.pauseApart_does {M : Nat} {s0 s : State} {x1} (hM : Sub 67108864 M) (h : Does M s0 s) :
    Does M s0 (State.pauseApart s x1) := by
  unfold State.pauseApart
  repeat' (first
    | with_reducible assumption
    | (extract_lets +onlyGivenNames x; revert x; intro _)
    | with_reducible refine State.setBuf_does (Sub.trans (by decide) hM) ?_)

theorem State.subFailed_does {M : Nat} {s0 s : State} {x1} (hM : Sub 0x10007c00000000005000000000000000000062 M) (h : Does M s0 s) :
    Does M s0 (State.subFailed s x1) := by
  unfold State.subFailed
  repeat' (first
    | with_reducible assumption
    | with_reducible refine State.cadd_does (Sub.trans (by decide) hM) (Sub.fld (by decide) (Sub.kind (k := .keel) rfl (by decide) hM)) ?_
    | with_reducible refine State.raise_does (Sub.trans (by decide) hM) (Sub.kindH (k := .keel) rfl (by decide) hM) ?_)

theorem State.settleSubs_does {M : Nat} {s0 s : State} {x1} (hM : Sub 0x10007c00000000005000000000000001000062 M) (h : Does M s0 s) :
    Does M s0 (State.settleSubs s x1) := by
  unfold State.settleSubs
  repeat' (first
    | with_reducible assumption
    | (intro _ _ _)
    | with_reducible refine State.fset_does (Sub.trans (by decide) hM) (Sub.fld (by decide) (Sub.kind (k := .keel) rfl (by decide) hM)) ?_
    | with_reducible refine State.powerDown_does (Sub.trans (by decide) hM) ?_
    | with_reducible refine State.subFailed_does (Sub.trans (by decide) hM) ?_
    | with_reducible refine Does.fold ?_ ?_)

theorem State.rejoinAbort_does {M : Nat} {s0 s : State} (hM : Sub 0x1250007c000000001254001400000002f5580066 M) (h : Does M s0 s) :
    Does M s0 (State.rejoinAbort s) := by
  unfold State.rejoinAbort
  repeat' (first
    | with_reducible assumption
    | (intro _ _ _)
    | (extract_lets +onlyGivenNames x; refine Does.cut x ?_ ?_; rotate_left; (intro hx; clear_value x; revert x; intro _ _); rotate_left; (unfold x; clear x))
    | with_reducible refine State.dropCrossings_does (Sub.trans (by decide) hM) ?_
    | with_reducible refine State.dropMessages_does (Sub.trans (by decide) hM) ?_
    | with_reducible refine State.fset_does (Sub.trans (by decide) hM) (Sub.fld (by decide) (Sub.kind (k := .keel) rfl (by decide) hM)) ?_
    | with_reducible refine State.keelCounts_does (Sub.trans (by decide) hM) ?_
    | with_reducible refine State.pauseApart_does (Sub.trans (by decide) hM) ?_
    | with_reducible refine State.raise_does (Sub.trans (by decide) hM) (Sub.kindH (k := .keel) rfl (by decide) hM) ?_
    | with_reducible refine State.settleSubs_does (Sub.trans (by decide) hM) ?_
    | with_reducible refine State.unfollow_does (Sub.trans (by decide) hM) ?_
    | with_reducible refine Does.fold ?_ ?_
    | with_reducible refine Does.ite ?_ ?_)

theorem State.resuming_does {M : Nat} {s0 s : State} (hM : Sub 0x1000000000000001000020 M) (h : Does M s0 s) :
    Does M s0 (State.resuming s) := by
  unfold State.resuming
  repeat' (first
    | with_reducible assumption
    | (intro _ _ _)
    | (extract_lets +onlyGivenNames x; refine Does.cut x ?_ ?_; rotate_left; (intro hx; clear_value x; revert x; intro _ _); rotate_left; (unfold x; clear x))
    | with_reducible refine State.fset_does (Sub.trans (by decide) hM) (Sub.fld (by decide) (Sub.kind (k := .keel) rfl (by decide) hM)) ?_
    | with_reducible refine State.sendCtrl_does (Sub.trans (by decide) hM) ?_
    | with_reducible refine Does.fold ?_ ?_
    | with_reducible refine Does.ite ?_ ?_)

theorem State.resyncDevice_does {M : Nat} {s0 s : State} (hM : Sub 0x7c00000000004000000000000000000022 M) (h : Does M s0 s) :
    Does M s0 (State.resyncDevice s) := by
  unfold State.resyncDevice
  repeat' (first
    | with_reducible assumption
    | (intro _ _ _)
    | (intro _ _)
    | (extract_lets +onlyGivenNames x; refine Does.cut x ?_ ?_; rotate_left; (intro hx; clear_value x; revert x; intro _ _); rotate_left; (unfold x; clear x))
    | (extract_lets +onlyGivenNames x; revert x; intro _)
    | with_reducible refine State.irqUpd_does (Sub.trans (by decide) hM) ?_ ?_
    | with_reducible refine State.setReg_does (Sub.trans (by decide) hM) (Sub.offH (by decide) (Sub.kindH (k := .device) rfl (by decide) hM)) ?_
    | with_reducible refine State.setStatusFrom_does (Sub.trans (by decide) hM) (Sub.kindH (k := .device) rfl (by decide) hM) ?_
    | with_reducible refine Does.fold ?_ ?_)

theorem State.setSplit_does {M : Nat} {s0 s : State} {x1} {x2} (hM : Sub 0x7c00000000005000000000000000000022 M) (h : Does M s0 s) :
    Does M s0 (State.setSplit s x1 x2) := by
  unfold State.setSplit
  repeat' (first
    | with_reducible assumption
    | (extract_lets +onlyGivenNames x; refine Does.cut x ?_ ?_; rotate_left; (intro hx; clear_value x; revert x; intro _ _); rotate_left; (unfold x; clear x))
    | with_reducible refine State.bset_does (Sub.trans (by decide) hM) (Sub.fld (by decide) (Sub.kind (k := .keel) rfl (by decide) hM)) ?_
    | with_reducible refine State.raise_does (Sub.trans (by decide) hM) (Sub.kindH (k := .die) rfl (by decide) hM) ?_
    | with_reducible refine State.raise_does (Sub.trans (by decide) hM) (Sub.kindH (k := .device) rfl (by decide) hM) ?_
    | with_reducible refine State.resyncDevice_does (Sub.trans (by decide) hM) ?_)

theorem State.loseLock_does {M : Nat} {s0 s : State} {x1 : Page} (hM : Sub 0x7c00000000004000000000000000000122 M) (hH1 : Sub x1.hdr M) (h : Does M s0 s) :
    Does M s0 (State.loseLock s x1) := by
  unfold State.loseLock
  repeat' (first
    | with_reducible assumption
    | with_reducible refine State.raise_does (Sub.trans (by decide) hM) hH1 ?_
    | with_reducible refine State.setLock_does (Sub.trans (by decide) hM) ?_)

theorem State.splitLocks_does {M : Nat} {s0 s : State} {x1} {x2} (hM : Sub 0x7ffff007e00000000004000000000000000000122 M) (h : Does M s0 s) :
    Does M s0 (State.splitLocks s x1 x2) := by
  unfold State.splitLocks
  repeat' (first
    | with_reducible assumption
    | (intro _ _ _)
    | (extract_lets +onlyGivenNames x; refine Does.cut x ?_ ?_; rotate_left; (intro hx; clear_value x; revert x; intro _ _); rotate_left; (unfold x; clear x))
    | (extract_lets +onlyGivenNames x; revert x; intro _)
    | with_reducible refine State.loseLock_does (Sub.trans (by decide) hM) (Sub.allHdr _ (by decide) hM) ?_
    | with_reducible refine State.setLock_does (Sub.trans (by decide) hM) ?_
    | with_reducible refine Does.fold ?_ ?_
    | with_reducible refine Does.ite ?_ ?_
    | split)

theorem State.splitEnter_does {M : Nat} {s0 s : State} {x1} (hM : Sub 0x7ffff007e000000001654001400000022f5580166 M) (h : Does M s0 s) :
    Does M s0 (State.splitEnter s x1) := by
  unfold State.splitEnter
  repeat' (first
    | with_reducible assumption
    | (extract_lets +onlyGivenNames x; refine Does.cut x ?_ ?_; rotate_left; (intro hx; clear_value x; revert x; intro _ _); rotate_left; (unfold x; clear x))
    | (extract_lets +onlyGivenNames x; revert x; intro _)
    | with_reducible refine State.cadd_does (Sub.trans (by decide) hM) (Sub.fld (by decide) (Sub.kind (k := .keel) rfl (by decide) hM)) ?_
    | with_reducible refine State.dropCrossings_does (Sub.trans (by decide) hM) ?_
    | with_reducible refine State.dropMessages_does (Sub.trans (by decide) hM) ?_
    | with_reducible refine State.fset_does (Sub.trans (by decide) hM) (Sub.fld (by decide) (Sub.kind (k := .cox) rfl (by decide) hM)) ?_
    | with_reducible refine State.fset_does (Sub.trans (by decide) hM) (Sub.fld (by decide) (Sub.kind (k := .keel) rfl (by decide) hM)) ?_
    | with_reducible refine State.keelCounts_does (Sub.trans (by decide) hM) ?_
    | with_reducible refine State.pauseApart_does (Sub.trans (by decide) hM) ?_
    | with_reducible refine State.raise_does (Sub.trans (by decide) hM) (Sub.kindH (k := .keel) rfl (by decide) hM) ?_
    | with_reducible refine State.setCox_does (Sub.trans (by decide) hM) ?_
    | with_reducible refine State.setSplit_does (Sub.trans (by decide) hM) ?_
    | with_reducible refine State.settleSubs_does (Sub.trans (by decide) hM) ?_
    | with_reducible refine State.splitLocks_does (Sub.trans (by decide) hM) ?_
    | with_reducible refine State.timeSplit_does (Sub.trans (by decide) hM) ?_
    | with_reducible refine Does.ite ?_ ?_)

theorem State.keelCtrl_does {M : Nat} {s0 s : State} {x1 : Page} {x2} (hM : Sub 0x7ffff007e000000001654001400000022f5580166 M) (hB1 : Sub x1.blk M) (h : Does M s0 s) :
    Does M s0 (State.keelCtrl s x1 x2) := by
  unfold State.keelCtrl
  repeat' (first
    | with_reducible assumption
    | (intro _ _ _)
    | (extract_lets +onlyGivenNames x; refine Does.cut x ?_ ?_; rotate_left; (intro hx; clear_value x; revert x; intro _ _); rotate_left; (unfold x; clear x))
    | (extract_lets +onlyGivenNames x; revert x; intro _)
    | with_reducible refine State.fset_does (Sub.trans (by decide) hM) (Sub.fld (by decide) (Sub.kind (k := .keel) rfl (by decide) hM)) ?_
    | with_reducible refine State.keelCounts_does (Sub.trans (by decide) hM) ?_
    | with_reducible refine State.powerDown_does (Sub.trans (by decide) hM) ?_
    | with_reducible refine State.putRw_does (Sub.trans (by decide) hM) (Sub.off (by decide) hB1) ?_
    | with_reducible refine State.rejoinAbort_does (Sub.trans (by decide) hM) ?_
    | with_reducible refine State.resuming_does (Sub.trans (by decide) hM) ?_
    | with_reducible refine State.splitEnter_does (Sub.trans (by decide) hM) ?_
    | with_reducible refine Does.fold ?_ ?_
    | with_reducible refine Does.ite ?_ ?_)

theorem State.landCell_does {M : Nat} {s0 s : State} {x1} {x2} {x3} (hM : Sub 0x1000000000000001000060 M) (h : Does M s0 s) :
    Does M s0 (State.landCell s x1 x2 x3) := by
  unfold State.landCell
  repeat' (first
    | with_reducible assumption
    | (extract_lets +onlyGivenNames x; refine Does.cut x ?_ ?_; rotate_left; (intro hx; clear_value x; revert x; intro _ _); rotate_left; (unfold x; clear x))
    | (extract_lets +onlyGivenNames x; revert x; intro _)
    | with_reducible refine State.crcError_does (Sub.trans (by decide) hM) ?_
    | with_reducible refine State.creditBack_does (Sub.trans (by decide) hM) ?_
    | with_reducible refine State.setKeel_does (Sub.trans (by decide) hM) ?_
    | with_reducible refine Does.ite ?_ ?_)

theorem State.landIdles_does {M : Nat} {s0 s : State} {x1} {x2} {x3} (hM : Sub 0x1000000000000001000060 M) (h : Does M s0 s) :
    Does M s0 (State.landIdles s x1 x2 x3) := by
  induction x3 generalizing s x1 x2 with
  | zero =>
    unfold State.landIdles
    repeat' (first
      | with_reducible assumption)
  | succ _ ih =>
    unfold State.landIdles
    repeat' (first
      | with_reducible assumption
      | with_reducible apply ih
      | with_reducible refine State.landCell_does (Sub.trans (by decide) hM) ?_
      | with_reducible refine Does.ite ?_ ?_
      | split)

theorem State.landed_does {M : Nat} {s0 s : State} {x1} {x2} {x3} (hM : Sub 0x1000000000000001000060 M) (h : Does M s0 s) :
    Does M s0 (State.landed s x1 x2 x3) := by
  unfold State.landed
  repeat' (first
    | with_reducible assumption
    | (extract_lets +onlyGivenNames x; refine Does.cut x ?_ ?_; rotate_left; (intro hx; clear_value x; revert x; intro _ _); rotate_left; (unfold x; clear x))
    | with_reducible refine State.landCell_does (Sub.trans (by decide) hM) ?_
    | with_reducible refine State.landIdles_does (Sub.trans (by decide) hM) ?_)

theorem State.loseCell_does {M : Nat} {s0 s : State} {x1} {x2} (hM : Sub 16777216 M) (h : Does M s0 s) :
    Does M s0 (State.loseCell s x1 x2) := by
  unfold State.loseCell
  repeat' (first
    | with_reducible assumption
    | (extract_lets +onlyGivenNames x; revert x; intro _)
    | with_reducible refine State.setKeel_does (Sub.trans (by decide) hM) ?_)

theorem State.loseCrossing_does {M : Nat} {s0 s : State} {x1} {x2} {x3} (hM : Sub 0x1000007c000000001054001400000002d1580062 M) (h : Does M s0 s) :
    Does M s0 (State.loseCrossing s x1 x2 x3) := by
  unfold State.loseCrossing
  repeat' (first
    | with_reducible assumption
    | with_reducible refine State.admitCrossings_does (Sub.trans (by decide) hM) ?_
    | with_reducible refine State.loseFrame_does (Sub.trans (by decide) hM) ?_)

theorem State.mergeWrite_does {M : Nat} {s0 s : State} {x1} {x2} {x3} (hM : Sub 0x100000000000008040 M) (h : Does M s0 s) :
    Does M s0 (State.mergeWrite s x1 x2 x3) := by
  unfold State.mergeWrite
  repeat' (first
    | with_reducible assumption
    | (intro _ _ _)
    | with_reducible refine State.hashDelete_does rfl (Sub.trans (by decide) hM) ?_
    | with_reducible refine State.hashInsert_does rfl (Sub.trans (by decide) hM) ?_
    | with_reducible refine Does.fold ?_ ?_
    | with_reducible refine Does.ite ?_ ?_
    | split)

theorem State.mergeAddr_does {M : Nat} {s0 s : State} {x1} {x2} (hM : Sub 0x1000100000000000008040 M) (h : Does M s0 s) :
    Does M s0 (State.mergeAddr s x1 x2) := by
  unfold State.mergeAddr
  repeat' (first
    | with_reducible assumption
    | (extract_lets +onlyGivenNames x; refine Does.cut x ?_ ?_; rotate_left; (intro hx; clear_value x; revert x; intro _ _); rotate_left; (unfold x; clear x))
    | (extract_lets +onlyGivenNames x; revert x; intro _)
    | with_reducible refine State.cadd_does (Sub.trans (by decide) hM) (Sub.fld (by decide) (Sub.kind (k := .keel) rfl (by decide) hM)) ?_
    | with_reducible refine State.mergeWrite_does (Sub.trans (by decide) hM) ?_
    | with_reducible refine Does.ite ?_ ?_)

theorem State.owe_does {M : Nat} {s0 s : State} {x1} (hM : Sub 16777216 M) (h : Does M s0 s) :
    Does M s0 (State.owe s x1) := by
  unfold State.owe
  repeat' (first
    | with_reducible assumption
    | (extract_lets +onlyGivenNames x; revert x; intro _)
    | with_reducible refine State.setKeel_does (Sub.trans (by decide) hM) ?_)

theorem State.promote_does {M : Nat} {s0 s : State} {x1} (hM : Sub 0x1000000000000000000020 M) (h : Does M s0 s) :
    Does M s0 (State.promote s x1) := by
  unfold State.promote
  repeat' (first
    | with_reducible assumption
    | with_reducible refine State.fset_does (Sub.trans (by decide) hM) (Sub.fld (by decide) (Sub.kind (k := .keel) rfl (by decide) hM)) ?_
    | with_reducible refine State.setSub_does (Sub.trans (by decide) hM) ?_
    | with_reducible refine Does.ite ?_ ?_
    | split)

theorem State.putCell_does {M : Nat} {s0 s : State} {x1} {x2} {x3} {x4} {r} (e : State.putCell s x1 x2 x3 x4 = r) (hM : Sub 16777216 M) (h : Does M s0 s) :
    Does M s0 r.2 := by
  subst e
  unfold State.putCell
  repeat' (first
    | with_reducible assumption
    | (extract_lets +onlyGivenNames x; revert x; intro _)
    | with_reducible refine State.setKeel_does (Sub.trans (by decide) hM) ?_)

theorem State.sendCtrlCell_does {M : Nat} {s0 s : State} {x1} {x2} {x3} (hM : Sub 16777218 M) (h : Does M s0 s) :
    Does M s0 (State.sendCtrlCell s x1 x2 x3) := by
  unfold State.sendCtrlCell
  repeat' (first
    | with_reducible assumption
    | (extract_lets +onlyGivenNames x; revert x; intro _)
    | with_reducible refine State.emit_does (Sub.trans (by decide) hM) ?_
    | with_reducible refine State.putCell_does rfl (Sub.trans (by decide) hM) ?_
    | with_reducible refine State.setKeel_does (Sub.trans (by decide) hM) ?_)

theorem State.sendDataCell_does {M : Nat} {s0 s : State} {x1} {x2} {x3} (hM : Sub 0x41000000000000041080042 M) (h : Does M s0 s) :
    Does M s0 (State.sendDataCell s x1 x2 x3) := by
  unfold State.sendDataCell
  repeat' (first
    | with_reducible assumption
    | (extract_lets +onlyGivenNames x; refine Does.cut x ?_ ?_; rotate_left; (intro hx; clear_value x; revert x; intro _ _); rotate_left; (unfold x; clear x))
    | (extract_lets +onlyGivenNames x; revert x; intro _)
    | with_reducible refine State.cadd_does (Sub.trans (by decide) hM) (Sub.fld (by decide) (Sub.kind (k := .keel) rfl (by decide) hM)) ?_
    | with_reducible refine State.chargeFrm_does (Sub.trans (by decide) hM) ?_
    | with_reducible refine State.emit_does (Sub.trans (by decide) hM) ?_
    | with_reducible refine State.putCell_does rfl (Sub.trans (by decide) hM) ?_
    | with_reducible refine State.setKeel_does (Sub.trans (by decide) hM) ?_
    | with_reducible refine Does.of2 (by with_reducible assumption) ?_
    | split)

theorem State.stopSub_does {M : Nat} {s0 s : State} {x1} {x2} {x3} (hM : Sub 0x1010007c000000001054001400000002d1580062 M) (h : Does M s0 s) :
    Does M s0 (State.stopSub s x1 x2 x3) := by
  unfold State.stopSub
  repeat' (first
    | with_reducible assumption
    | (intro _ _ _)
    | (extract_lets +onlyGivenNames x; refine Does.cut x ?_ ?_; rotate_left; (intro hx; clear_value x; revert x; intro _ _); rotate_left; (unfold x; clear x))
    | (extract_lets +onlyGivenNames x; revert x; intro _)
    | with_reducible refine State.creditBack_does (Sub.trans (by decide) hM) ?_
    | with_reducible refine State.fset_does (Sub.trans (by decide) hM) (Sub.fld (by decide) (Sub.kind (k := .keel) rfl (by decide) hM)) ?_
    | with_reducible refine State.keelCounts_does (Sub.trans (by decide) hM) ?_
    | with_reducible refine State.loseCrossing_does (Sub.trans (by decide) hM) ?_
    | with_reducible refine State.powerDown_does (Sub.trans (by decide) hM) ?_
    | with_reducible refine State.promote_does (Sub.trans (by decide) hM) ?_
    | with_reducible refine State.setKeel_does (Sub.trans (by decide) hM) ?_
    | with_reducible refine Does.fold ?_ ?_
    | with_reducible refine Does.ite ?_ ?_)

theorem State.subDisable_does {M : Nat} {s0 s : State} {x1 : Page} {x2} {x3} (hM : Sub 0x1010007c000000001054001400000002d1580062 M) (hB1 : Sub x1.blk M) (h : Does M s0 s) :
    Does M s0 (State.subDisable s x1 x2 x3) := by
  unfold State.subDisable
  repeat' (first
    | with_reducible assumption
    | (extract_lets +onlyGivenNames x; refine Does.cut x ?_ ?_; rotate_left; (intro hx; clear_value x; revert x; intro _ _); rotate_left; (unfold x; clear x))
    | (extract_lets +onlyGivenNames x; revert x; intro _)
    | with_reducible refine State.firstTraining_does (Sub.trans (by decide) hM) ?_
    | with_reducible refine State.keelCounts_does (Sub.trans (by decide) hM) ?_
    | with_reducible refine State.putRw_does (Sub.trans (by decide) hM) (Sub.off (Fld.le_at (by decide)) hB1) ?_
    | with_reducible refine State.setSub_does (Sub.trans (by decide) hM) ?_
    | with_reducible refine State.stopSub_does (Sub.trans (by decide) hM) ?_
    | with_reducible refine Does.ite ?_ ?_)

theorem State.syncMessages_does {M : Nat} {s0 s : State} {x1} (hM : Sub 16777216 M) (h : Does M s0 s) :
    Does M s0 (State.syncMessages s x1) := by
  unfold State.syncMessages
  repeat' (first
    | with_reducible assumption
    | (extract_lets +onlyGivenNames x; revert x; intro _)
    | with_reducible refine State.setKeel_does (Sub.trans (by decide) hM) ?_)

theorem State.syncSeq_does {M : Nat} {s0 s : State} {x1} {x2} (hM : Sub 16777216 M) (h : Does M s0 s) :
    Does M s0 (State.syncSeq s x1 x2) := by
  unfold State.syncSeq
  repeat' (first
    | with_reducible assumption
    | (extract_lets +onlyGivenNames x; revert x; intro _)
    | with_reducible refine State.clearFaults_does (Sub.trans (by decide) hM) ?_
    | with_reducible refine State.setKeel_does (Sub.trans (by decide) hM) ?_)

theorem execForceSplit_does {M : Nat} {s0 s : State} {x0} {x1} {x2} {t : State} (e : execForceSplit x0 x1 x2 s = .next t) (hM : Sub 0x7ffff007e000000001654001400000022f5580166 M) (h : Does M s0 s) :
    Does M s0 t := by
  revert e
  unfold execForceSplit
  repeat' (first
    | with_reducible assumption
    | (intro _ _ _ _ _)
    | (intro e; with_reducible injection e with e; subst e)
    | with_reducible refine State.accessLocked_does (Sub.trans (by decide) hM) ?_ ?_
    | with_reducible refine State.keelCtrl_does (Sub.trans (by decide) hM) (Sub.kind (k := .keel) (by with_reducible assumption) (by decide) hM) ?_)

theorem execKeelAckRx_does {M : Nat} {s0 s : State} {x0} {x1} {t : State} (e : execKeelAckRx x0 x1 s = .next t) (hM : Sub 0x1000000000000001000060 M) (h : Does M s0 s) :
    Does M s0 t := by
  revert e
  unfold execKeelAckRx State.ifOperates
  repeat' (first
    | with_reducible assumption
    | (intro e; with_reducible injection e with e; subst e)
    | (extract_lets +onlyGivenNames x; refine Does.cut x ?_ ?_; rotate_left; (intro hx; clear_value x; revert x; intro _ _); rotate_left; (unfold x; clear x))
    | (extract_lets +onlyGivenNames x; revert x; intro _)
    | with_reducible refine State.landed_does (Sub.trans (by decide) hM) ?_
    | with_reducible refine State.loseCell_does (Sub.trans (by decide) hM) ?_
    | with_reducible refine State.setKeel_does (Sub.trans (by decide) hM) ?_
    | with_reducible refine Does.ite ?_ ?_
    | split)

theorem execKeelCellRx_does {M : Nat} {s0 s : State} {x0} {x1} {x2} {t : State} (e : execKeelCellRx x0 x1 x2 s = .next t) (hM : Sub 0x1000007c000000001054001400000002d1580062 M) (h : Does M s0 s) :
    Does M s0 t := by
  revert e
  unfold execKeelCellRx State.ifOperates
  repeat' (first
    | with_reducible assumption
    | (intro e; with_reducible injection e with e; subst e)
    | (extract_lets +onlyGivenNames x; refine Does.cut x ?_ ?_; rotate_left; (intro hx; clear_value x; revert x; intro _ _); rotate_left; (unfold x; clear x))
    | (extract_lets +onlyGivenNames x; revert x; intro _)
    | with_reducible refine State.admitCrossings_does (Sub.trans (by decide) hM) ?_
    | with_reducible refine State.cadd_does (Sub.trans (by decide) hM) (Sub.fld (by decide) (Sub.kind (k := .keel) rfl (by decide) hM)) ?_
    | with_reducible refine State.landed_does (Sub.trans (by decide) hM) ?_
    | with_reducible refine State.loseCell_does (Sub.trans (by decide) hM) ?_
    | with_reducible refine State.loseCrossing_does (Sub.trans (by decide) hM) ?_
    | with_reducible refine State.owe_does (Sub.trans (by decide) hM) ?_
    | with_reducible refine State.setKeel_does (Sub.trans (by decide) hM) ?_
    | with_reducible refine Does.ite ?_ ?_
    | split
    | (clear_value *; split))

theorem execKeelCellSend_does {M : Nat} {s0 s : State} {x0} {x1} {t : State} (e : execKeelCellSend x0 x1 s = .next t) (hM : Sub 0x1000007c000000001454003400000002d1580062 M) (h : Does M s0 s) :
    Does M s0 t := by
  revert e
  unfold execKeelCellSend State.ifOperates
  repeat' (first
    | with_reducible assumption
    | (intro e; with_reducible injection e with e; subst e)
    | with_reducible refine State.integrity_does (Sub.trans (by decide) hM) ?_
    | with_reducible refine State.loseCrossing_does (Sub.trans (by decide) hM) ?_
    | with_reducible refine State.sendCtrlCell_does (Sub.trans (by decide) hM) ?_
    | with_reducible refine State.sendDataCell_does (Sub.trans (by decide) hM) ?_
    | with_reducible refine Does.ite ?_ ?_
    | split)

theorem execKeelCtrlResend_does {M : Nat} {s0 s : State} {x0} {x1} {t : State} (e : execKeelCtrlResend x0 x1 s = .next t) (hM : Sub 0x1000000000000001000042 M) (h : Does M s0 s) :
    Does M s0 t := by
  revert e
  unfold execKeelCtrlResend State.ifOperates
  repeat' (first
    | with_reducible assumption
    | (intro e; with_reducible injection e with e; subst e)
    | with_reducible refine State.cadd_does (Sub.trans (by decide) hM) (Sub.fld (by decide) (Sub.kind (k := .keel) rfl (by decide) hM)) ?_
    | with_reducible refine State.sendCtrlCell_does (Sub.trans (by decide) hM) ?_
    | with_reducible refine Does.ite ?_ ?_
    | split)

theorem execKeelIdleSend_does {M : Nat} {s0 s : State} {x0} {x1} {t : State} (e : execKeelIdleSend x0 x1 s = .next t) (hM : Sub 0x1000000000000001000062 M) (h : Does M s0 s) :
    Does M s0 t := by
  revert e
  unfold execKeelIdleSend State.ifOperates
  repeat' (first
    | with_reducible assumption
    | (intro e; with_reducible injection e with e; subst e)
    | with_reducible refine State.emit_does (Sub.trans (by decide) hM) ?_
    | with_reducible refine State.landIdles_does (Sub.trans (by decide) hM) ?_
    | with_reducible refine State.putCell_does rfl (Sub.trans (by decide) hM) ?_
    | with_reducible refine Does.ite ?_ ?_)

theorem execKeelResume_does {M : Nat} {s0 s : State} {x0} {x1} {x2} {t : State} (e : execKeelResume x0 x1 x2 s = .next t) (hM : Sub 0x7ffff007e000000001654001400000022f5580166 M) (h : Does M s0 s) :
    Does M s0 t := by
  revert e
  unfold execKeelResume
  repeat' (first
    | with_reducible assumption
    | (intro _ _ _ _ _)
    | (intro e; with_reducible injection e with e; subst e)
    | with_reducible refine State.accessLocked_does (Sub.trans (by decide) hM) ?_ ?_
    | with_reducible refine State.keelCtrl_does (Sub.trans (by decide) hM) (Sub.kind (k := .keel) (by with_reducible assumption) (by decide) hM) ?_)

theorem execMergeLearnDone_does {M : Nat} {s0 s : State} {t : State} (e : execMergeLearnDone s = .next t) (hM : Sub 0x10007c00000000005000100000000001008062 M) (h : Does M s0 s) :
    Does M s0 t := by
  revert e
  unfold execMergeLearnDone
  repeat' (first
    | with_reducible assumption
    | (intro _ _ _)
    | (intro e; with_reducible injection e with e; subst e)
    | (extract_lets +onlyGivenNames x; refine Does.cut x ?_ ?_; rotate_left; (intro hx; clear_value x; revert x; intro _ _); rotate_left; (unfold x; clear x))
    | with_reducible refine State.fset_does (Sub.trans (by decide) hM) (Sub.fld (by decide) (Sub.kind (k := .keel) rfl (by decide) hM)) ?_
    | with_reducible refine State.mergeAddr_does (Sub.trans (by decide) hM) ?_
    | with_reducible refine State.raise_does (Sub.trans (by decide) hM) (Sub.kindH (k := .keel) rfl (by decide) hM) ?_
    | with_reducible refine State.resuming_does (Sub.trans (by decide) hM) ?_
    | with_reducible refine Does.fold ?_ ?_
    | with_reducible refine Does.ite ?_ ?_)

theorem execPeerPresenceChange_does {M : Nat} {s0 s : State} {x0} {x1} {t : State} (e : execPeerPresenceChange x0 x1 s = .next t) (hM : Sub 0x1000000000000000000020 M) (h : Does M s0 s) :
    Does M s0 t := by
  revert e
  unfold execPeerPresenceChange
  repeat' (first
    | with_reducible assumption
    | (intro e; with_reducible injection e with e; subst e)
    | with_reducible refine State.bset_does (Sub.trans (by decide) hM) (Sub.fld (by decide) (Sub.kind (k := .keel) rfl (by decide) hM)) ?_)

theorem execRejoinAbort_does {M : Nat} {s0 s : State} {t : State} (e : execRejoinAbort s = .next t) (hM : Sub 0x1250007c000000001254001400000002f5580066 M) (h : Does M s0 s) :
    Does M s0 t := by
  revert e
  unfold execRejoinAbort
  repeat' (first
    | with_reducible assumption
    | (intro e; with_reducible injection e with e; subst e)
    | with_reducible refine State.rejoinAbort_does (Sub.trans (by decide) hM) ?_
    | with_reducible refine Does.ite ?_ ?_)

theorem execRejoinResumingDone_does {M : Nat} {s0 s : State} {t : State} (e : execRejoinResumingDone s = .next t) (hM : Sub 0x4010007c00000000405000000000000000800162 M) (h : Does M s0 s) :
    Does M s0 t := by
  revert e
  unfold execRejoinResumingDone
  repeat' (first
    | with_reducible assumption
    | (intro _ _ _)
    | (intro e; with_reducible injection e with e; subst e)
    | (extract_lets +onlyGivenNames x; refine Does.cut x ?_ ?_; rotate_left; (intro hx; clear_value x; revert x; intro _ _); rotate_left; (unfold x; clear x))
    | (extract_lets +onlyGivenNames x; revert x; intro _)
    | with_reducible refine State.arbiterTake_does (Sub.trans (by decide) hM) ?_
    | with_reducible refine State.fset_does (Sub.trans (by decide) hM) (Sub.fld (by decide) (Sub.kind (k := .keel) rfl (by decide) hM)) ?_
    | with_reducible refine State.loseLock_does (Sub.trans (by decide) hM) (Sub.kindH (k := .device) rfl (by decide) hM) ?_
    | with_reducible refine State.raise_does (Sub.trans (by decide) hM) (Sub.kindH (k := .keel) rfl (by decide) hM) ?_
    | with_reducible refine State.setLrn_does (Sub.trans (by decide) hM) ?_
    | with_reducible refine State.setSplit_does (Sub.trans (by decide) hM) ?_
    | with_reducible refine Does.fold ?_ ?_
    | with_reducible refine Does.ite ?_ ?_
    | split)

theorem execRejoinStart_does {M : Nat} {s0 s : State} {t : State} (e : execRejoinStart s = .next t) (hM : Sub 0x21000000000000021000020 M) (h : Does M s0 s) :
    Does M s0 t := by
  revert e
  unfold execRejoinStart
  repeat' (first
    | with_reducible assumption
    | (intro _ _ _)
    | (intro e; with_reducible injection e with e; subst e)
    | (extract_lets +onlyGivenNames x; refine Does.cut x ?_ ?_; rotate_left; (intro hx; clear_value x; revert x; intro _ _); rotate_left; (unfold x; clear x))
    | (extract_lets +onlyGivenNames x; revert x; intro _)
    | with_reducible refine State.bset_does (Sub.trans (by decide) hM) (Sub.fld (by decide) (Sub.kind (k := .timeU) rfl (by decide) hM)) ?_
    | with_reducible refine State.fset_does (Sub.trans (by decide) hM) (Sub.fld (by decide) (Sub.kind (k := .keel) rfl (by decide) hM)) ?_
    | with_reducible refine State.setTime_does (Sub.trans (by decide) hM) ?_
    | with_reducible refine State.syncMessages_does (Sub.trans (by decide) hM) ?_
    | with_reducible refine Does.fold ?_ ?_
    | with_reducible refine Does.ite ?_ ?_)

theorem execRejoinTimeAligned_does {M : Nat} {s0 s : State} {t : State} (e : execRejoinTimeAligned s = .next t) (hM : Sub 0x200007c00000000025000000000000000000022 M) (h : Does M s0 s) :
    Does M s0 t := by
  revert e
  unfold execRejoinTimeAligned
  repeat' (first
    | with_reducible assumption
    | (intro e; with_reducible injection e with e; subst e)
    | (extract_lets +onlyGivenNames x; refine Does.cut x ?_ ?_; rotate_left; (intro hx; clear_value x; revert x; intro _ _); rotate_left; (unfold x; clear x))
    | with_reducible refine State.bset_does (Sub.trans (by decide) hM) (Sub.fld (by decide) (Sub.kind (k := .timeU) rfl (by decide) hM)) ?_
    | with_reducible refine State.fset_does (Sub.trans (by decide) hM) (Sub.fld (by decide) (Sub.kind (k := .keel) rfl (by decide) hM)) ?_
    | with_reducible refine State.setLockState_does (Sub.trans (by decide) hM) ?_
    | with_reducible refine Does.ite ?_ ?_)

theorem execSplitEnter_does {M : Nat} {s0 s : State} {x0} {t : State} (e : execSplitEnter x0 s = .next t) (hM : Sub 0x7ffff007e000000001654001400000022f5580166 M) (h : Does M s0 s) :
    Does M s0 t := by
  revert e
  unfold execSplitEnter
  repeat' (first
    | with_reducible assumption
    | (intro e; with_reducible injection e with e; subst e)
    | with_reducible refine State.splitEnter_does (Sub.trans (by decide) hM) ?_
    | with_reducible refine Does.ite ?_ ?_)

theorem execSublinkDisable_does {M : Nat} {s0 s : State} {x0} {x1} {x2} {x3} {t : State} (e : execSublinkDisable x0 x1 x2 x3 s = .next t) (hM : Sub 0x7ffff007e000000001054001400000002d1580062 M) (h : Does M s0 s) :
    Does M s0 t := by
  revert e
  unfold execSublinkDisable
  repeat' (first
    | with_reducible assumption
    | (intro _ _ _ _ _)
    | (intro e; with_reducible injection e with e; subst e)
    | with_reducible refine State.accessLocked_does (Sub.trans (by decide) hM) ?_ ?_
    | with_reducible refine State.subDisable_does (Sub.trans (by decide) hM) (Sub.kind (k := .keel) (by with_reducible assumption) (by decide) hM) ?_)

theorem execSublinkEnable_does {M : Nat} {s0 s : State} {x0} {x1} {x2} {x3} {t : State} (e : execSublinkEnable x0 x1 x2 x3 s = .next t) (hM : Sub 0x7ffff007e000000001054001400000002d1580062 M) (h : Does M s0 s) :
    Does M s0 t := by
  revert e
  unfold execSublinkEnable
  repeat' (first
    | with_reducible assumption
    | (intro _ _ _ _ _)
    | (intro e; with_reducible injection e with e; subst e)
    | with_reducible refine State.accessLocked_does (Sub.trans (by decide) hM) ?_ ?_
    | with_reducible refine State.subDisable_does (Sub.trans (by decide) hM) (Sub.kind (k := .keel) (by with_reducible assumption) (by decide) hM) ?_)

theorem execSublinkFailDetect_does {M : Nat} {s0 s : State} {x0} {x1} {t : State} (e : execSublinkFailDetect x0 x1 s = .next t) (hM : Sub 0x10007c00000000005000000000000001000062 M) (h : Does M s0 s) :
    Does M s0 t := by
  revert e
  unfold execSublinkFailDetect State.ifOperates
  repeat' (first
    | with_reducible assumption
    | (intro e; with_reducible injection e with e; subst e)
    | (extract_lets +onlyGivenNames x; refine Does.cut x ?_ ?_; rotate_left; (intro hx; clear_value x; revert x; intro _ _); rotate_left; (unfold x; clear x))
    | with_reducible refine State.clearFaults_does (Sub.trans (by decide) hM) ?_
    | with_reducible refine State.fset_does (Sub.trans (by decide) hM) (Sub.fld (by decide) (Sub.kind (k := .keel) rfl (by decide) hM)) ?_
    | with_reducible refine State.keelCounts_does (Sub.trans (by decide) hM) ?_
    | with_reducible refine State.sendCtrl_does (Sub.trans (by decide) hM) ?_
    | with_reducible refine State.subFailed_does (Sub.trans (by decide) hM) ?_
    | with_reducible refine Does.ite ?_ ?_)

theorem execSublinkTrainStart_does {M : Nat} {s0 s : State} {x0} {x1} {t : State} (e : execSublinkTrainStart x0 x1 s = .next t) (hM : Sub 0x1000000000000001000020 M) (h : Does M s0 s) :
    Does M s0 t := by
  revert e
  unfold execSublinkTrainStart State.ifOperates
  repeat' (first
    | with_reducible assumption
    | (intro e; with_reducible injection e with e; subst e)
    | with_reducible refine State.setKeel_does (Sub.trans (by decide) hM) ?_
    | with_reducible refine State.setSub_does (Sub.trans (by decide) hM) ?_
    | with_reducible refine Does.ite ?_ ?_)

theorem execSublinkTrainTimeout_does {M : Nat} {s0 s : State} {x0} {x1} {t : State} (e : execSublinkTrainTimeout x0 x1 s = .next t) (hM : Sub 0x10007c00000000005000000000000001000062 M) (h : Does M s0 s) :
    Does M s0 t := by
  revert e
  unfold execSublinkTrainTimeout State.ifOperates
  repeat' (first
    | with_reducible assumption
    | (intro e; with_reducible injection e with e; subst e)
    | with_reducible refine State.firstTraining_does (Sub.trans (by decide) hM) ?_
    | with_reducible refine State.keelCounts_does (Sub.trans (by decide) hM) ?_
    | with_reducible refine State.powerDown_does (Sub.trans (by decide) hM) ?_
    | with_reducible refine State.setSub_does (Sub.trans (by decide) hM) ?_
    | with_reducible refine State.subFailed_does (Sub.trans (by decide) hM) ?_
    | with_reducible refine Does.ite ?_ ?_)

theorem execSublinkTrained_does {M : Nat} {s0 s : State} {x0} {x1} {t : State} (e : execSublinkTrained x0 x1 s = .next t) (hM : Sub 0x10007c00000000005000000000000001000022 M) (h : Does M s0 s) :
    Does M s0 t := by
  revert e
  unfold execSublinkTrained State.ifOperates
  repeat' (first
    | with_reducible assumption
    | (intro e; with_reducible injection e with e; subst e)
    | (extract_lets +onlyGivenNames x; refine Does.cut x ?_ ?_; rotate_left; (intro hx; clear_value x; revert x; intro _ _); rotate_left; (unfold x; clear x))
    | with_reducible refine State.firstTraining_does (Sub.trans (by decide) hM) ?_
    | with_reducible refine State.keelCounts_does (Sub.trans (by decide) hM) ?_
    | with_reducible refine State.setSub_does (Sub.trans (by decide) hM) ?_
    | with_reducible refine State.syncSeq_does (Sub.trans (by decide) hM) ?_
    | with_reducible refine Does.ite ?_ ?_
    | split)

end Sys2Proof.Machine
end

