-- ==== Sys2Proof/Laws/Queues.lean ====
section
/-!
SUPPORT. What each operation of Machine/Queues.lean can change, and that it takes nothing back.
-/
namespace Sys2Proof.Machine

theorem State.takeTurn_does {M : Nat} {s0 s : State} {x1} {x2} {x3} {x4} {x5} {x6} {x7} {r} (e : State.takeTurn s x1 x2 x3 x4 x5 x6 x7 = some r) (hM : Sub 68719476736 M) (h : Does M s0 s) :
    Does M s0 r := by
  revert e
  unfold State.takeTurn
  repeat' (first
    | with_reducible assumption
    | (intro e; with_reducible injection e with e; subst e)
    | (intro e; with_reducible contradiction)
    | (extract_lets +onlyGivenNames x; revert x; intro _)
    | with_reducible refine State.setHost_does (Sub.trans (by decide) hM) ?_
    | split)

theorem State.readTurn_does {M : Nat} {s0 s : State} {x1} {x2} {r} (e : State.readTurn s x1 x2 = some r) (hM : Sub 68719476736 M) (h : Does M s0 s) :
    Does M s0 r := by
  revert e
  unfold State.readTurn
  repeat' (first
    | with_reducible assumption
    | (intro e; with_reducible contradiction)
    | (extract_lets +onlyGivenNames x; revert x; intro _)
    | (intro e; with_reducible refine State.takeTurn_does e (Sub.trans (by decide) hM) ?_)
    | split)

theorem State.setRing_does {M : Nat} {s0 s : State} {x1} {x2} {x3} (hM : Sub 68719476736 M) (h : Does M s0 s) :
    Does M s0 (State.setRing s x1 x2 x3) := by
  unfold State.setRing
  repeat' (first
    | with_reducible assumption
    | (extract_lets +onlyGivenNames x; revert x; intro _)
    | with_reducible refine State.setHost_does (Sub.trans (by decide) hM) ?_)

theorem State.writeTurn_does {M : Nat} {s0 s : State} {x1} {x2} {x3} {x4} {x5} {r} (e : State.writeTurn s x1 x2 x3 x4 x5 = some r) (hM : Sub 68719476736 M) (h : Does M s0 s) :
    Does M s0 r := by
  revert e
  unfold State.writeTurn
  repeat' (first
    | with_reducible assumption
    | (intro e; with_reducible contradiction)
    | (extract_lets +onlyGivenNames x; revert x; intro _)
    | (intro e; with_reducible refine State.takeTurn_does e (Sub.trans (by decide) hM) ?_)
    | split)

end Sys2Proof.Machine
end

