-- ==== Sys2Proof/Laws/Acct.lean ====
section
/-!
SUPPORT. What each operation of Machine/Acct.lean can change, and that it takes nothing back.
-/
namespace Sys2Proof.Machine

theorem State.acctCfg_does {M : Nat} {s0 s : State} {x1 : Page} {x2} (hM : Sub 0x7c00000000004000000000000040000022 M) (hB1 : Sub x1.blk M) (hH1 : Sub x1.hdr M) (h : Does M s0 s) :
    Does M s0 (State.acctCfg s x1 x2) := by
  unfold State.acctCfg
  repeat' (first
    | with_reducible assumption
    | (extract_lets +onlyGivenNames x; refine Does.cut x ?_ ?_; rotate_left; (intro hx; clear_value x; revert x; intro _ _); rotate_left; (unfold x; clear x))
    | (extract_lets +onlyGivenNames x; revert x; intro _)
    | with_reducible refine State.errCount_does (Sub.trans (by decide) hM) hH1 ?_
    | with_reducible refine State.putRw_does (Sub.trans (by decide) hM) (Sub.off (by decide) hB1) ?_
    | with_reducible refine State.setAcct_does (Sub.trans (by decide) hM) ?_
    | with_reducible refine Does.ite ?_ ?_)

theorem State.ageCopy_does {M : Nat} {s0 s : State} {x1} {x2} (hM : Sub 0x1000007c000000001044001400000002d0580062 M) (h : Does M s0 s) :
    Does M s0 (State.ageCopy s x1 x2) := by
  unfold State.ageCopy
  repeat' (first
    | with_reducible assumption
    | with_reducible refine State.fold_does (Sub.trans (by decide) hM) ?_
    | with_reducible refine State.release_does (Sub.trans (by decide) hM) ?_
    | with_reducible refine State.unqueue_does (Sub.trans (by decide) hM) ?_
    | split)

theorem State.quitDispatch_does {M : Nat} {s0 s : State} {x1} {x2} (hM : Sub 0x3000007c000000003554003400000046c37c8066 M) (h : Does M s0 s) :
    Does M s0 (State.quitDispatch s x1 x2) := by
  unfold State.quitDispatch
  extract_lets s1 x s2 c s3
  have h1 : Does M s0 s1 := Does.fold h (fun _ _ h => Does.ite (State.clearCtx_does (Sub.trans (by decide) hM) h) h)
  have h3 : Does M s0 s3 := State.setCs_does (Sub.trans (by decide) hM) (State.setSlice_does (Sub.trans (by decide) hM) h1)
  refine State.releaseOrder_does (Sub.trans (by decide) hM) ?_
  refine Does.put_stalls (Sub.trans (by decide) hM) h3 (fun c => ?_)
  have key : ∀ (l : List Nat) (m : Sparse (List (Nat × StallOn))), m.wf (fun _ => ([] : List (Nat × StallOn))) = true →
      Sparse.wf (fun _ => ([] : List (Nat × StallOn)))
        (l.foldl (fun m i => m.upd [] (64 + 4 * x1 + i) (·.filter (fun x => x.1 ≠ x2))) m) = true := by
    intro l
    induction l with
    | nil => intro m hm; exact hm
    | cons i r ih => intro m hm; exact ih _ (Sparse.wf_upd _ _ _ _ hm)
  exact key _ _ c

theorem State.quitFifo_does {M : Nat} {s0 s : State} {x1} {x2} (hM : Sub 262144 M) (h : Does M s0 s) :
    Does M s0 (State.quitFifo s x1 x2) := by
  unfold State.quitFifo
  repeat' (first
    | with_reducible assumption
    | (extract_lets +onlyGivenNames x; revert x; intro _)
    | with_reducible refine State.setCls_does (Sub.trans (by decide) hM) ?_
    | split)

theorem State.quitEarly_does {M : Nat} {s0 s : State} {x1} {x2} (hM : Sub 0x3000007c000000003554003400000046c37c8066 M) (h : Does M s0 s) :
    Does M s0 (State.quitEarly s x1 x2) := by
  unfold State.quitEarly
  repeat' (first
    | with_reducible assumption
    | (extract_lets +onlyGivenNames x; refine Does.cut x ?_ ?_; rotate_left; (intro hx; clear_value x; revert x; intro _ _); rotate_left; (unfold x; clear x))
    | (extract_lets +onlyGivenNames x; revert x; intro _)
    | with_reducible refine State.admitCrossings_does (Sub.trans (by decide) hM) ?_
    | with_reducible refine State.quitDispatch_does (Sub.trans (by decide) hM) ?_
    | with_reducible refine State.quitFifo_does (Sub.trans (by decide) hM) ?_
    | with_reducible refine State.setKeel_does (Sub.trans (by decide) hM) ?_
    | with_reducible refine State.setPort_does (Sub.trans (by decide) hM) ?_
    | refine Does.put_stalls (Sub.trans (by decide) hM) ?_ (fun c => Sparse.wf_set _ _ _ _ c)
    | refine Does.put_admits (Sub.trans (by decide) hM) ?_ (fun c => Sparse.wf_set _ _ _ _ c))

theorem State.ageFrame_does {M : Nat} {s0 s : State} {x1} {x2} (hM : Sub 0x3000007c000000003554003400000046d37c8066 M) (h : Does M s0 s) :
    Does M s0 (State.ageFrame s x1 x2) := by
  unfold State.ageFrame
  repeat' (first
    | with_reducible assumption
    | (intro _ _ _)
    | (extract_lets +onlyGivenNames x; refine Does.cut x ?_ ?_; rotate_left; (intro hx; clear_value x; revert x; intro _ _); rotate_left; (unfold x; clear x))
    | (extract_lets +onlyGivenNames x; revert x; intro _)
    | with_reducible refine State.ageCopy_does (Sub.trans (by decide) hM) ?_
    | with_reducible refine State.dropEarly_does (Sub.trans (by decide) hM) ?_
    | with_reducible refine State.dropFrm_does (Sub.trans (by decide) hM) ?_
    | with_reducible refine State.endKey_does (Sub.trans (by decide) hM) ?_
    | with_reducible refine State.endPass_does (Sub.trans (by decide) hM) ?_
    | with_reducible refine State.quitDispatch_does (Sub.trans (by decide) hM) ?_
    | with_reducible refine State.quitEarly_does (Sub.trans (by decide) hM) ?_
    | with_reducible refine State.setPort_does (Sub.trans (by decide) hM) ?_
    | with_reducible refine State.updFrm_does (Sub.trans (by decide) hM) ?_
    | with_reducible refine Does.fold ?_ ?_
    | with_reducible refine Does.ite ?_ ?_
    | split)

theorem State.attribute_does {M : Nat} {s0 s : State} {x1} {x2} (hM : Sub 1073741824 M) (h : Does M s0 s) :
    Does M s0 (State.attribute s x1 x2) := by
  unfold State.attribute
  repeat' (first
    | with_reducible assumption
    | (extract_lets +onlyGivenNames x; revert x; intro _)
    | with_reducible refine State.setAcct_does (Sub.trans (by decide) hM) ?_)

theorem State.boundary_does {M : Nat} {s0 s : State} {x1} {x2} {x3} (hM : Sub 0x20000007c00000002004000000000000040000062 M) (h : Does M s0 s) :
    Does M s0 (State.boundary s x1 x2 x3) := by
  unfold State.boundary
  repeat' (first
    | with_reducible assumption
    | (extract_lets +onlyGivenNames x; revert x; intro _)
    | with_reducible refine State.cadd_does (Sub.trans (by decide) hM) (Sub.fld (by decide) (Sub.kind (k := .acct) rfl (by decide) hM)) ?_
    | with_reducible refine State.raise_does (Sub.trans (by decide) hM) (Sub.kindH (k := .acct) rfl (by decide) hM) ?_
    | with_reducible refine State.setAcct_does (Sub.trans (by decide) hM) ?_
    | with_reducible refine Does.ite ?_ ?_)

theorem State.setDump_does {M : Nat} {s0 s : State} {x1} {x2} (hM : Sub 4294967296 M) (h : Does M s0 s) :
    Does M s0 (State.setDump s x1 x2) := by
  unfold State.setDump
  repeat' (first
    | with_reducible assumption
    | refine Does.put_dumps (Sub.trans (by decide) hM) ?_ (fun c => Sparse.wf_set _ _ _ _ c))

theorem State.cutDump_does {M : Nat} {s0 s : State} {x1} {x2} {x3} (hM : Sub 0x8000007c00000000804000000000000100000062 M) (h : Does M s0 s) :
    Does M s0 (State.cutDump s x1 x2 x3) := by
  unfold State.cutDump
  repeat' (first
    | with_reducible assumption
    | (extract_lets +onlyGivenNames x; revert x; intro _)
    | with_reducible refine State.cadd_does (Sub.trans (by decide) hM) (Sub.fld (by decide) (Sub.kind (k := .pmc) rfl (by decide) hM)) ?_
    | with_reducible refine State.raise_does (Sub.trans (by decide) hM) (Sub.kindH (k := .pmc) rfl (by decide) hM) ?_
    | with_reducible refine State.setDump_does (Sub.trans (by decide) hM) ?_
    | with_reducible refine Does.ite ?_ ?_)

theorem State.bankBoundary_does {M : Nat} {s0 s : State} {x1} {x2} {x3} (hM : Sub 0x28000007c00000002804000000000000140000062 M) (h : Does M s0 s) :
    Does M s0 (State.bankBoundary s x1 x2 x3) := by
  unfold State.bankBoundary
  repeat' (first
    | with_reducible assumption
    | (extract_lets +onlyGivenNames x; refine Does.cut x ?_ ?_; rotate_left; (intro hx; clear_value x; revert x; intro _ _); rotate_left; (unfold x; clear x))
    | with_reducible refine State.boundary_does (Sub.trans (by decide) hM) ?_
    | with_reducible refine State.cutDump_does (Sub.trans (by decide) hM) ?_
    | with_reducible refine Does.ite ?_ ?_)

theorem State.collCfg_does {M : Nat} {s0 s : State} {x1 : Page} {x2} {x3} (hM : Sub 0x1000007c00000000104000000000000080000062 M) (hB1 : Sub x1.blk M) (hH1 : Sub x1.hdr M) (h : Does M s0 s) :
    Does M s0 (State.collCfg s x1 x2 x3) := by
  unfold State.collCfg
  repeat' (first
    | with_reducible assumption
    | (extract_lets +onlyGivenNames x; refine Does.cut x ?_ ?_; rotate_left; (intro hx; clear_value x; revert x; intro _ _); rotate_left; (unfold x; clear x))
    | (extract_lets +onlyGivenNames x; revert x; intro _)
    | with_reducible refine State.errCount_does (Sub.trans (by decide) hM) hH1 ?_
    | with_reducible refine State.loseCards_does (Sub.trans (by decide) hM) ?_
    | with_reducible refine State.putRw_does (Sub.trans (by decide) hM) (Sub.off (Fld.le_at (by decide)) hB1) ?_
    | with_reducible refine State.setTel_does (Sub.trans (by decide) hM) ?_
    | with_reducible refine Does.ite ?_ ?_)

theorem State.coverPages_does {M : Nat} {s0 s : State} {x1 : Page} {x2} (hM : Sub 0x7ffff007e00000000000000000000000000000020 M) (h : Does M s0 s) :
    Does M s0 (State.coverPages s x1 x2) := by
  unfold State.coverPages
  repeat' (first
    | with_reducible assumption
    | (intro _ _ _)
    | with_reducible refine State.setPair_does (Sub.trans (by decide) hM) (Sub.offH (by decide) (Sub.allHdr _ (by decide) hM)) (Sub.offH (by decide) (Sub.allHdr _ (by decide) hM)) ?_
    | with_reducible refine State.setReg_does (Sub.trans (by decide) hM) (Sub.offH (by decide) (Sub.allHdr _ (by decide) hM)) ?_
    | with_reducible refine Does.fold ?_ ?_)

theorem State.cutBank_does {M : Nat} {s0 s : State} {x1} (hM : Sub 0x20000007c00000002004000000000000040000062 M) (h : Does M s0 s) :
    Does M s0 (State.cutBank s x1) := by
  unfold State.cutBank
  repeat' (first
    | with_reducible assumption
    | (extract_lets +onlyGivenNames x; revert x; intro _)
    | with_reducible refine State.cadd_does (Sub.trans (by decide) hM) (Sub.fld (by decide) (Sub.kind (k := .acct) rfl (by decide) hM)) ?_
    | with_reducible refine State.raise_does (Sub.trans (by decide) hM) (Sub.kindH (k := .acct) rfl (by decide) hM) ?_
    | with_reducible refine State.setAcct_does (Sub.trans (by decide) hM) ?_
    | with_reducible refine Does.ite ?_ ?_
    | split)

theorem State.dumpCtrl_does {M : Nat} {s0 s : State} {x1 : Page} {x2} (hM : Sub 0x7c00000000004000000000000000000022 M) (hB1 : Sub x1.blk M) (hH1 : Sub x1.hdr M) (h : Does M s0 s) :
    Does M s0 (State.dumpCtrl s x1 x2) := by
  unfold State.dumpCtrl
  repeat' (first
    | with_reducible assumption
    | (extract_lets +onlyGivenNames x; revert x; intro _)
    | with_reducible refine State.errCount_does (Sub.trans (by decide) hM) hH1 ?_
    | with_reducible refine State.putRw_does (Sub.trans (by decide) hM) (Sub.off (by decide) hB1) ?_
    | with_reducible refine Does.ite ?_ ?_)

theorem State.interim_does {M : Nat} {s0 s : State} {x1} (hM : Sub 0x20000007c00000000004000000000000040000022 M) (h : Does M s0 s) :
    Does M s0 (State.interim s x1) := by
  unfold State.interim
  repeat' (first
    | with_reducible assumption
    | (extract_lets +onlyGivenNames x; revert x; intro _)
    | with_reducible refine State.errCount_does (Sub.trans (by decide) hM) (Sub.kindH (k := .acct) rfl (by decide) hM) ?_
    | with_reducible refine State.setAcct_does (Sub.trans (by decide) hM) ?_
    | with_reducible refine Does.ite ?_ ?_)

theorem State.liveRead_does {M : Nat} {s0 s : State} {x1 : Page} {x2} (hM : Sub 32 M) (hB1 : Sub x1.blk M) (h : Does M s0 s) :
    Does M s0 (State.liveRead s x1 x2) := by
  unfold State.liveRead
  repeat' (first
    | with_reducible assumption
    | (intro _ _ _)
    | (extract_lets +onlyGivenNames x; refine Does.cut x ?_ ?_; rotate_left; (intro hx; clear_value x; revert x; intro _ _); rotate_left; (unfold x; clear x))
    | (extract_lets +onlyGivenNames x; revert x; intro _)
    | with_reducible refine State.putRw_does (Sub.trans (by decide) hM) (Sub.off (by decide) hB1) ?_
    | with_reducible refine State.setReg_does (Sub.trans (by decide) hM) (Sub.off (Fld.le_at (by decide)) hB1) ?_
    | with_reducible refine Does.fold ?_ ?_
    | with_reducible refine Does.ite ?_ ?_)

theorem State.pmcSel_does {M : Nat} {s0 s : State} {x1 : Page} {x2} {x3} (hM : Sub 96 M) (hB1 : Sub x1.blk M) (hH1 : Sub x1.hdr M) (h : Does M s0 s) :
    Does M s0 (State.pmcSel s x1 x2 x3) := by
  unfold State.pmcSel
  repeat' (first
    | with_reducible assumption
    | (extract_lets +onlyGivenNames x; refine Does.cut x ?_ ?_; rotate_left; (intro hx; clear_value x; revert x; intro _ _); rotate_left; (unfold x; clear x))
    | with_reducible refine State.cset_does (Sub.trans (by decide) hM) (Sub.fldB hB1 hH1) ?_
    | with_reducible refine State.putRw_does (Sub.trans (by decide) hM) (Sub.offB hB1 hH1) ?_
    | with_reducible refine Does.ite ?_ ?_)

theorem State.slotDone_does {M : Nat} {s0 s : State} {x1} {x2} (hM : Sub 0x20000007c00000002004000000000000040000062 M) (h : Does M s0 s) :
    Does M s0 (State.slotDone s x1 x2) := by
  unfold State.slotDone
  repeat' (first
    | with_reducible assumption
    | (extract_lets +onlyGivenNames x; refine Does.cut x ?_ ?_; rotate_left; (intro hx; clear_value x; revert x; intro _ _); rotate_left; (unfold x; clear x))
    | (extract_lets +onlyGivenNames x; revert x; intro _)
    | with_reducible refine State.cadd_does (Sub.trans (by decide) hM) (Sub.fldB (Sub.kind (k := .acct) rfl (by decide) hM) (Sub.kindH (k := .acct) rfl (by decide) hM)) ?_
    | with_reducible refine State.fset_does (Sub.trans (by decide) hM) (Sub.fld (by decide) (Sub.kind (k := .acct) rfl (by decide) hM)) ?_
    | with_reducible refine State.raise_does (Sub.trans (by decide) hM) (Sub.kindH (k := .acct) rfl (by decide) hM) ?_
    | with_reducible refine State.setAcct_does (Sub.trans (by decide) hM) ?_
    | with_reducible refine State.setPair_does (Sub.trans (by decide) hM) (Sub.offH (by decide) (Sub.kindH (k := .acct) rfl (by decide) hM)) (Sub.offH (by decide) (Sub.kindH (k := .acct) rfl (by decide) hM)) ?_
    | with_reducible refine State.setReg_does (Sub.trans (by decide) hM) (Sub.offH (by decide) (Sub.kindH (k := .acct) rfl (by decide) hM)) ?_)

theorem State.snapTrigger_does {M : Nat} {s0 s : State} {x1 : Page} (hM : Sub 0x28000007c00000000804000000000000140000062 M) (hH1 : Sub x1.hdr M) (h : Does M s0 s) :
    Does M s0 (State.snapTrigger s x1) := by
  unfold State.snapTrigger
  repeat' (first
    | with_reducible assumption
    | (intro _ _ _)
    | with_reducible refine State.cutDump_does (Sub.trans (by decide) hM) ?_
    | with_reducible refine State.errCount_does (Sub.trans (by decide) hM) hH1 ?_
    | with_reducible refine State.interim_does (Sub.trans (by decide) hM) ?_
    | with_reducible refine Does.fold ?_ ?_
    | with_reducible refine Does.ite ?_ ?_)

theorem State.weightCmd_does {M : Nat} {s0 s : State} {x1 : Page} {x2} (hM : Sub 1073741856 M) (hB1 : Sub x1.blk M) (h : Does M s0 s) :
    Does M s0 (State.weightCmd s x1 x2) := by
  unfold State.weightCmd
  repeat' (first
    | with_reducible assumption
    | (extract_lets +onlyGivenNames x; refine Does.cut x ?_ ?_; rotate_left; (intro hx; clear_value x; revert x; intro _ _); rotate_left; (unfold x; clear x))
    | (extract_lets +onlyGivenNames x; revert x; intro _)
    | with_reducible refine State.putRw_does (Sub.trans (by decide) hM) (Sub.off (by decide) hB1) ?_
    | with_reducible refine State.setAcct_does (Sub.trans (by decide) hM) ?_
    | with_reducible refine State.setReg_does (Sub.trans (by decide) hM) (Sub.off (by decide) hB1) ?_
    | split)

theorem execAcctLiveRead_does {M : Nat} {s0 s : State} {x0} {x1} {x2} {t : State} (e : execAcctLiveRead x0 x1 x2 s = .next t) (hM : Sub 0x40007c00000002004000000000000001000022 M) (h : Does M s0 s) :
    Does M s0 t := by
  revert e
  unfold execAcctLiveRead
  repeat' (first
    | with_reducible assumption
    | (intro _ _ _ _)
    | (intro e; with_reducible injection e with e; subst e)
    | with_reducible refine State.accessKind_does (Sub.trans (by decide) hM) ?_ ?_
    | with_reducible refine State.liveRead_does (Sub.trans (by decide) hM) (Sub.kind (k := .acct) (by with_reducible assumption) (by decide) hM) ?_)

theorem execAcctSnapConsWrite_does {M : Nat} {s0 s : State} {x0} {x1} {x2} {t : State} (e : execAcctSnapConsWrite x0 x1 x2 s = .next t) (hM : Sub 0x40007c00000002004000000000000001000022 M) (h : Does M s0 s) :
    Does M s0 t := by
  revert e
  unfold execAcctSnapConsWrite
  repeat' (first
    | with_reducible assumption
    | (intro _ _ _ _)
    | (intro e; with_reducible injection e with e; subst e)
    | with_reducible refine State.accessKind_does (Sub.trans (by decide) hM) ?_ ?_
    | with_reducible refine State.putRw_does (Sub.trans (by decide) hM) (Sub.off (by decide) (Sub.kind (k := .acct) (by with_reducible assumption) (by decide) hM)) ?_)

theorem execAcctWeightRead_does {M : Nat} {s0 s : State} {x0} {x1} {x2} {t : State} (e : execAcctWeightRead x0 x1 x2 s = .next t) (hM : Sub 0x40007c00000002004000000000000041000022 M) (h : Does M s0 s) :
    Does M s0 t := by
  revert e
  unfold execAcctWeightRead
  repeat' (first
    | with_reducible assumption
    | (intro _ _ _ _)
    | (intro e; with_reducible injection e with e; subst e)
    | with_reducible refine State.accessKind_does (Sub.trans (by decide) hM) ?_ ?_
    | with_reducible refine State.weightCmd_does (Sub.trans (by decide) hM) (Sub.kind (k := .acct) (by with_reducible assumption) (by decide) hM) ?_)

theorem execAcctWeightWrite_does {M : Nat} {s0 s : State} {x0} {x1} {x2} {t : State} (e : execAcctWeightWrite x0 x1 x2 s = .next t) (hM : Sub 0x40007c00000002004000000000000041000022 M) (h : Does M s0 s) :
    Does M s0 t := by
  revert e
  unfold execAcctWeightWrite
  repeat' (first
    | with_reducible assumption
    | (intro _ _ _ _)
    | (intro e; with_reducible injection e with e; subst e)
    | with_reducible refine State.accessKind_does (Sub.trans (by decide) hM) ?_ ?_
    | with_reducible refine State.weightCmd_does (Sub.trans (by decide) hM) (Sub.kind (k := .acct) (by with_reducible assumption) (by decide) hM) ?_)

theorem execBankCut_does {M : Nat} {s0 s : State} {x0} {t : State} (e : execBankCut x0 s = .next t) (hM : Sub 0x20000007c00000002004000000000000040000062 M) (h : Does M s0 s) :
    Does M s0 t := by
  revert e
  unfold execBankCut State.ifOperates
  repeat' (first
    | with_reducible assumption
    | (intro e; with_reducible injection e with e; subst e)
    | with_reducible refine State.cutBank_does (Sub.trans (by decide) hM) ?_
    | with_reducible refine Does.ite ?_ ?_)

theorem execCollectorEnableWrite_does {M : Nat} {s0 s : State} {x0} {x1} {x2} {x3} {t : State} (e : execCollectorEnableWrite x0 x1 x2 x3 s = .next t) (hM : Sub 0x1040007c00000000104000000000000081000062 M) (h : Does M s0 s) :
    Does M s0 t := by
  revert e
  unfold execCollectorEnableWrite
  repeat' (first
    | with_reducible assumption
    | (intro _ _ _ _)
    | (intro e; with_reducible injection e with e; subst e)
    | with_reducible refine State.accessKind_does (Sub.trans (by decide) hM) ?_ ?_
    | with_reducible refine State.collCfg_does (Sub.trans (by decide) hM) (Sub.kind (k := .tel) (by with_reducible assumption) (by decide) hM) (Sub.kindH (k := .tel) (by with_reducible assumption) (by decide) hM) ?_)

theorem execCollectorFlush_does {M : Nat} {s0 s : State} {x0} {x1} {t : State} (e : execCollectorFlush x0 x1 s = .next t) (hM : Sub 0x100000000000000280180020 M) (h : Does M s0 s) :
    Does M s0 t := by
  revert e
  unfold execCollectorFlush State.ifOperates
  repeat' (first
    | with_reducible assumption
    | (intro e; with_reducible injection e with e; subst e)
    | with_reducible refine State.flushCollector_does (Sub.trans (by decide) hM) ?_
    | with_reducible refine Does.ite ?_ ?_)

theorem execInterimSnapshotTrigger_does {M : Nat} {s0 s : State} {x0} {x1} {t : State} (e : execInterimSnapshotTrigger x0 x1 s = .next t) (hM : Sub 0x7ffff007e00000000804000000000000141000062 M) (h : Does M s0 s) :
    Does M s0 t := by
  revert e
  unfold execInterimSnapshotTrigger
  repeat' (first
    | with_reducible assumption
    | (intro _ _ _)
    | (intro e; with_reducible injection e with e; subst e)
    | with_reducible refine State.access_does (Sub.trans (by decide) hM) ?_ ?_
    | with_reducible refine State.snapTrigger_does (Sub.trans (by decide) hM) (Sub.allHdr _ (by decide) hM) ?_)

theorem execPmcClear_does {M : Nat} {s0 s : State} {x0} {x1} {x2} {x3} {t : State} (e : execPmcClear x0 x1 x2 x3 s = .next t) (hM : Sub 0x7ffff007e00000007ffff007e0000000001000062 M) (h : Does M s0 s) :
    Does M s0 t := by
  revert e
  unfold execPmcClear
  repeat' (first
    | with_reducible assumption
    | (intro _ _ _)
    | (intro e; with_reducible injection e with e; subst e)
    | with_reducible refine State.access_does (Sub.trans (by decide) hM) ?_ ?_
    | with_reducible refine State.countUnmapped_does (Sub.trans (by decide) hM) ?_
    | with_reducible refine State.pmcSel_does (Sub.trans (by decide) hM) (Sub.allBlk _ (by decide) hM) (Sub.allHdr _ (by decide) hM) ?_
    | with_reducible refine Does.fold ?_ ?_
    | split)

theorem execPmcDumpPeriod_does {M : Nat} {s0 s : State} {x0} {t : State} (e : execPmcDumpPeriod x0 s = .next t) (hM : Sub 0x8000007c00000000804000000000000100000062 M) (h : Does M s0 s) :
    Does M s0 t := by
  revert e
  unfold execPmcDumpPeriod State.ifOperates
  repeat' (first
    | with_reducible assumption
    | (intro e; with_reducible injection e with e; subst e)
    | with_reducible refine State.cutDump_does (Sub.trans (by decide) hM) ?_
    | with_reducible refine Does.ite ?_ ?_)

theorem execPmcDumpTrigger_does {M : Nat} {s0 s : State} {x0} {x1} {t : State} (e : execPmcDumpTrigger x0 x1 s = .next t) (hM : Sub 0x7ffff007e00000000804000000000000141000062 M) (h : Does M s0 s) :
    Does M s0 t := by
  revert e
  unfold execPmcDumpTrigger
  repeat' (first
    | with_reducible assumption
    | (intro _ _ _)
    | (intro e; with_reducible injection e with e; subst e)
    | with_reducible refine State.access_does (Sub.trans (by decide) hM) ?_ ?_
    | with_reducible refine State.snapTrigger_does (Sub.trans (by decide) hM) (Sub.allHdr _ (by decide) hM) ?_)

theorem execPmcDumpWritten_does {M : Nat} {s0 s : State} {x0} {x1} {t : State} (e : execPmcDumpWritten x0 x1 s = .next t) (hM : Sub 0x7ffff007e0000000080c000000000001100000062 M) (h : Does M s0 s) :
    Does M s0 t := by
  revert e
  unfold execPmcDumpWritten State.ifOperates
  repeat' (first
    | with_reducible assumption
    | (intro e; with_reducible injection e with e; subst e)
    | (extract_lets +onlyGivenNames x; refine Does.cut x ?_ ?_; rotate_left; (intro hx; clear_value x; revert x; intro _ _); rotate_left; (unfold x; clear x))
    | (extract_lets +onlyGivenNames x; revert x; intro _)
    | with_reducible refine State.cadd_does (Sub.trans (by decide) hM) (Sub.fld (by decide) (Sub.kind (k := .pmc) rfl (by decide) hM)) ?_
    | with_reducible refine State.coverPages_does (Sub.trans (by decide) hM) ?_
    | with_reducible refine State.dmaWrites_does rfl (Sub.trans (by decide) hM) ?_
    | with_reducible refine State.fset_does (Sub.trans (by decide) hM) (Sub.fld (by decide) (Sub.kind (k := .pmc) rfl (by decide) hM)) ?_
    | with_reducible refine State.setDump_does (Sub.trans (by decide) hM) ?_
    | (intro e; with_reducible refine State.writeTurn_does e (Sub.trans (by decide) hM) ?_)
    | with_reducible refine Does.ofIf (by with_reducible assumption) ?_ ?_
    | (intro e; with_reducible contradiction)
    | with_reducible refine Does.ite ?_ ?_
    | split)

theorem execSettleTimeout_does {M : Nat} {s0 s : State} {x0} {t : State} (e : execSettleTimeout x0 s = .next t) (hM : Sub 0x23000007c000000023554003400000046d37c8066 M) (h : Does M s0 s) :
    Does M s0 t := by
  revert e
  unfold execSettleTimeout State.ifOperates
  repeat' (first
    | with_reducible assumption
    | (intro _ _ _)
    | (intro e; with_reducible injection e with e; subst e)
    | (extract_lets +onlyGivenNames x; refine Does.cut x ?_ ?_; rotate_left; (intro hx; clear_value x; revert x; intro _ _); rotate_left; (unfold x; clear x))
    | (extract_lets +onlyGivenNames x; revert x; intro _)
    | with_reducible refine State.ageFrame_does (Sub.trans (by decide) hM) ?_
    | with_reducible refine State.cadd_does (Sub.trans (by decide) hM) (Sub.fld (by decide) (Sub.kind (k := .acct) rfl (by decide) hM)) ?_
    | with_reducible refine State.raise_does (Sub.trans (by decide) hM) (Sub.kindH (k := .acct) rfl (by decide) hM) ?_
    | with_reducible refine State.setAcct_does (Sub.trans (by decide) hM) ?_
    | with_reducible refine Does.fold ?_ ?_
    | with_reducible refine Does.ite ?_ ?_
    | split)

theorem execSnapshotWritten_does {M : Nat} {s0 s : State} {x0} {x1} {t : State} (e : execSnapshotWritten x0 x1 s = .next t) (hM : Sub 0x20080007c0000000200c000000000001040000062 M) (h : Does M s0 s) :
    Does M s0 t := by
  revert e
  unfold execSnapshotWritten State.ifOperates
  repeat' (first
    | with_reducible assumption
    | (intro e; with_reducible injection e with e; subst e)
    | (extract_lets +onlyGivenNames x; revert x; intro _)
    | with_reducible refine State.dmaWrites_does rfl (Sub.trans (by decide) hM) ?_
    | with_reducible refine State.setAcct_does (Sub.trans (by decide) hM) ?_
    | with_reducible refine State.slotDone_does (Sub.trans (by decide) hM) ?_
    | (intro e; with_reducible refine State.writeTurn_does e (Sub.trans (by decide) hM) ?_)
    | with_reducible refine Does.ofIf (by with_reducible assumption) ?_ ?_
    | (intro e; with_reducible contradiction)
    | with_reducible refine Does.ite ?_ ?_
    | split)

end Sys2Proof.Machine
end

