-- ==== Sys2Proof/Laws/ControlStore.lean ====
section
/-!
SUPPORT. What each operation of Machine/ControlStore.lean can change, and that it takes nothing back.
-/
namespace Sys2Proof.Machine

theorem State.csCtrlWrite_does {M : Nat} {s0 s : State} {x1} {x2} (hM : Sub 0x3002007c000000003557003400000046c37c8066 M) (h : Does M s0 s) :
    Does M s0 (State.csCtrlWrite s x1 x2) := by
  unfold State.csCtrlWrite
  repeat' (first
    | with_reducible assumption
    | (intro _ _ _)
    | (extract_lets +onlyGivenNames x; refine Does.cut x ?_ ?_; rotate_left; (intro hx; clear_value x; revert x; intro _ _); rotate_left; (unfold x; clear x))
    | (extract_lets +onlyGivenNames x; revert x; intro _)
    | with_reducible refine State.errCount_does (Sub.trans (by decide) hM) (Sub.kindH (k := .cs) rfl (by decide) hM) ?_
    | with_reducible refine State.putRw_does (Sub.trans (by decide) hM) (Sub.off (by decide) (Sub.kind (k := .cs) rfl (by decide) hM)) ?_
    | with_reducible refine State.setReg_does (Sub.trans (by decide) hM) (Sub.off (by decide) (Sub.kind (k := .engine) rfl (by decide) hM)) ?_
    | with_reducible refine State.startEvent_does (Sub.trans (by decide) hM) ?_
    | with_reducible refine Does.fold ?_ ?_
    | with_reducible refine Does.ite ?_ ?_)

theorem State.csRead_does {M : Nat} {s0 s : State} {x1} {x2} (hM : Sub 0x200000000000000000020 M) (h : Does M s0 s) :
    Does M s0 (State.csRead s x1 x2) := by
  unfold State.csRead
  repeat' (first
    | with_reducible assumption
    | (extract_lets +onlyGivenNames x; revert x; intro _)
    | with_reducible refine State.fset_does (Sub.trans (by decide) hM) (Sub.fld (by decide) (Sub.kind (k := .cs) rfl (by decide) hM)) ?_
    | with_reducible refine State.putRw_does (Sub.trans (by decide) hM) (Sub.off (by decide) (Sub.kind (k := .cs) rfl (by decide) hM)) ?_
    | with_reducible refine State.setWords_does (Sub.trans (by decide) hM) (Sub.fld (by decide) (Sub.kind (k := .cs) rfl (by decide) hM)) ?_)

theorem State.setCsWord_does {M : Nat} {s0 s : State} {x1} {x2} {x3} (hM : Sub 274877906944 M) (h : Does M s0 s) :
    Does M s0 (State.setCsWord s x1 x2 x3) := by
  unfold State.setCsWord
  repeat' (first
    | with_reducible assumption
    | (extract_lets +onlyGivenNames x; revert x; intro _)
    | with_reducible refine State.setCs_does (Sub.trans (by decide) hM) ?_)

theorem State.csStore_does {M : Nat} {s0 s : State} {x1} {x2} {x3} (hM : Sub 0x2007c00000000004200000000004000000022 M) (h : Does M s0 s) :
    Does M s0 (State.csStore s x1 x2 x3) := by
  unfold State.csStore
  repeat' (first
    | with_reducible assumption
    | (extract_lets +onlyGivenNames x; revert x; intro _)
    | with_reducible refine State.bset_does (Sub.trans (by decide) hM) (Sub.fld (by decide) (Sub.kind (k := .cs) rfl (by decide) hM)) ?_
    | with_reducible refine State.errCount_does (Sub.trans (by decide) hM) (Sub.kindH (k := .cs) rfl (by decide) hM) ?_
    | with_reducible refine State.setCsWord_does (Sub.trans (by decide) hM) ?_
    | with_reducible refine Does.ite ?_ ?_)

theorem State.csWrite_does {M : Nat} {s0 s : State} {x1} {x2} (hM : Sub 0x2007c00000000004200000000004000000022 M) (h : Does M s0 s) :
    Does M s0 (State.csWrite s x1 x2) := by
  unfold State.csWrite
  repeat' (first
    | with_reducible assumption
    | (extract_lets +onlyGivenNames x; refine Does.cut x ?_ ?_; rotate_left; (intro hx; clear_value x; revert x; intro _ _); rotate_left; (unfold x; clear x))
    | (extract_lets +onlyGivenNames x; revert x; intro _)
    | with_reducible refine State.csStore_does (Sub.trans (by decide) hM) ?_
    | with_reducible refine State.putRw_does (Sub.trans (by decide) hM) (Sub.off (by decide) (Sub.kind (k := .cs) rfl (by decide) hM)) ?_)

theorem State.eventGo_does {M : Nat} {s0 s : State} {x1 : Page} {x2} (hM : Sub 0x3002007c000000003557003400000066c37c8066 M) (hB1 : Sub x1.blk M) (h : Does M s0 s) :
    Does M s0 (State.eventGo s x1 x2) := by
  unfold State.eventGo
  repeat' (first
    | with_reducible assumption
    | with_reducible refine State.putRw_does (Sub.trans (by decide) hM) (Sub.off (by decide) hB1) ?_
    | with_reducible refine State.raiseEvent_does (Sub.trans (by decide) hM) ?_
    | with_reducible refine State.wakeCause_does (Sub.trans (by decide) hM) ?_)

theorem execCsEventGo_does {M : Nat} {s0 s : State} {x0} {x1} {x2} {t : State} (e : execCsEventGo x0 x1 x2 s = .next t) (hM : Sub 0x3042007c000000003557003400000066c37c8066 M) (h : Does M s0 s) :
    Does M s0 t := by
  revert e
  unfold execCsEventGo
  repeat' (first
    | with_reducible assumption
    | (intro _ _ _ _)
    | (intro e; with_reducible injection e with e; subst e)
    | with_reducible refine State.accessKind_does (Sub.trans (by decide) hM) ?_ ?_
    | with_reducible refine State.eventGo_does (Sub.trans (by decide) hM) (Sub.kind (k := .cs) (by with_reducible assumption) (by decide) hM) ?_)

theorem execCsReloadDone_does {M : Nat} {s0 s : State} {x0} {x1} {t : State} (e : execCsReloadDone x0 x1 s = .next t) (hM : Sub 0x2007c00000000004200000000004000000022 M) (h : Does M s0 s) :
    Does M s0 t := by
  revert e
  unfold execCsReloadDone State.ifOperates
  repeat' (first
    | with_reducible assumption
    | (intro e; with_reducible injection e with e; subst e)
    | (extract_lets +onlyGivenNames x; refine Does.cut x ?_ ?_; rotate_left; (intro hx; clear_value x; revert x; intro _ _); rotate_left; (unfold x; clear x))
    | (extract_lets +onlyGivenNames x; revert x; intro _)
    | with_reducible refine State.bset_does (Sub.trans (by decide) hM) (Sub.fld (by decide) (Sub.kind (k := .cs) rfl (by decide) hM)) ?_
    | with_reducible refine State.raise_does (Sub.trans (by decide) hM) (Sub.kindH (k := .cs) rfl (by decide) hM) ?_
    | with_reducible refine State.setCs_does (Sub.trans (by decide) hM) ?_
    | with_reducible refine Does.ite ?_ ?_)

theorem execCsRunWrite_does {M : Nat} {s0 s : State} {x0} {x1} {x2} {t : State} (e : execCsRunWrite x0 x1 x2 s = .next t) (hM : Sub 0x3042007c000000003557003400000046c37c8066 M) (h : Does M s0 s) :
    Does M s0 t := by
  revert e
  unfold execCsRunWrite
  repeat' (first
    | with_reducible assumption
    | (intro _ _ _ _)
    | (intro e; with_reducible injection e with e; subst e)
    | with_reducible refine State.accessKind_does (Sub.trans (by decide) hM) ?_ ?_
    | with_reducible refine State.csCtrlWrite_does (Sub.trans (by decide) hM) ?_)

theorem execCsScrub_does {M : Nat} {s0 s : State} {x0} {x1} {t : State} (e : execCsScrub x0 x1 s = .next t) (hM : Sub 0x3002007c000000003557003400000046c37c8066 M) (h : Does M s0 s) :
    Does M s0 t := by
  revert e
  unfold execCsScrub State.ifOperates
  repeat' (first
    | with_reducible assumption
    | (intro _ _ _)
    | (intro e; with_reducible injection e with e; subst e)
    | with_reducible refine State.csCorrected_does (Sub.trans (by decide) hM) ?_
    | with_reducible refine State.csUncorr_does (Sub.trans (by decide) hM) ?_
    | with_reducible refine Does.fold ?_ ?_
    | with_reducible refine Does.ite ?_ ?_
    | split)

theorem execCsWordRead_does {M : Nat} {s0 s : State} {x0} {x1} {x2} {t : State} (e : execCsWordRead x0 x1 x2 s = .next t) (hM : Sub 0x40007c00000000004200000000000001000022 M) (h : Does M s0 s) :
    Does M s0 t := by
  revert e
  unfold execCsWordRead
  repeat' (first
    | with_reducible assumption
    | (intro _ _ _ _)
    | (intro e; with_reducible injection e with e; subst e)
    | with_reducible refine State.accessKind_does (Sub.trans (by decide) hM) ?_ ?_
    | with_reducible refine State.csRead_does (Sub.trans (by decide) hM) ?_)

theorem execCsWordWrite_does {M : Nat} {s0 s : State} {x0} {x1} {x2} {t : State} (e : execCsWordWrite x0 x1 x2 s = .next t) (hM : Sub 0x42007c00000000004200000000004001000022 M) (h : Does M s0 s) :
    Does M s0 t := by
  revert e
  unfold execCsWordWrite
  repeat' (first
    | with_reducible assumption
    | (intro _ _ _ _)
    | (intro e; with_reducible injection e with e; subst e)
    | with_reducible refine State.accessKind_does (Sub.trans (by decide) hM) ?_ ?_
    | with_reducible refine State.csWrite_does (Sub.trans (by decide) hM) ?_)

theorem execEngineFault_does {M : Nat} {s0 s : State} {x0} {x1} {t : State} (e : execEngineFault x0 x1 s = .next t) (hM : Sub 0x3003007c000000003557003400000046c37c8066 M) (h : Does M s0 s) :
    Does M s0 t := by
  revert e
  unfold execEngineFault
  repeat' (first
    | with_reducible assumption
    | (intro _ _ _)
    | (intro e; with_reducible injection e with e; subst e)
    | (extract_lets +onlyGivenNames x; refine Does.cut x ?_ ?_; rotate_left; (intro hx; clear_value x; revert x; intro _ _); rotate_left; (unfold x; clear x))
    | with_reducible refine State.endByCause_does (Sub.trans (by decide) hM) ?_
    | with_reducible refine State.raise_does (Sub.trans (by decide) hM) (Sub.kindH (k := .engine) rfl (by decide) hM) ?_
    | with_reducible refine State.setFault_does (Sub.trans (by decide) hM) (Sub.kindH (k := .engine) rfl (by decide) hM) ?_
    | with_reducible refine State.setReg_does (Sub.trans (by decide) hM) (Sub.off (by decide) (Sub.kind (k := .engine) rfl (by decide) hM)) ?_
    | with_reducible refine State.startEvent_does (Sub.trans (by decide) hM) ?_
    | with_reducible refine Does.fold ?_ ?_
    | with_reducible refine Does.ite ?_ ?_)

end Sys2Proof.Machine
end

