-- ==== Sys2Proof/Laws/Gates.lean ====
section
/-!
SUPPORT. What each operation of Machine/Gates.lean can change, and that it takes nothing back.
-/
namespace Sys2Proof.Machine

theorem State.setChange_does {M : Nat} {s0 s : State} {x1} {x2} (hM : Sub 4194304 M) (h : Does M s0 s) :
    Does M s0 (State.setChange s x1 x2) := by
  unfold State.setChange
  repeat' (first
    | with_reducible assumption
    | (extract_lets +onlyGivenNames x; revert x; intro _)
    | with_reducible refine State.setPort_does (Sub.trans (by decide) hM) ?_)

theorem State.cmpGates_does {M : Nat} {s0 s : State} {x1} {x2} {x3} (hM : Sub 4194304 M) (h : Does M s0 s) :
    Does M s0 (State.cmpGates s x1 x2 x3) := by
  unfold State.cmpGates
  repeat' (first
    | with_reducible assumption
    | (intro _ _ _)
    | with_reducible refine State.setChange_does (Sub.trans (by decide) hM) ?_
    | with_reducible refine Does.fold ?_ ?_)

theorem State.gateRefuse_does {M : Nat} {s0 s : State} {x1} {x2} (hM : Sub 0x7c00000000004000040000000000000022 M) (h : Does M s0 s) :
    Does M s0 (State.gateRefuse s x1 x2) := by
  unfold State.gateRefuse
  repeat' (first
    | with_reducible assumption
    | with_reducible refine State.errCount_does (Sub.trans (by decide) hM) (Sub.kindH (k := .port) rfl (by decide) hM) ?_
    | with_reducible refine State.fset_does (Sub.trans (by decide) hM) (Sub.fld (by decide) (Sub.kind (k := .port) rfl (by decide) hM)) ?_)

theorem State.gateChange_does {M : Nat} {s0 s : State} {x1} (hM : Sub 0x7c00000000004000040000000000400022 M) (h : Does M s0 s) :
    Does M s0 (State.gateChange s x1) := by
  unfold State.gateChange
  repeat' (first
    | with_reducible assumption
    | (extract_lets +onlyGivenNames x; refine Does.cut x ?_ ?_; rotate_left; (intro hx; clear_value x; revert x; intro _ _); rotate_left; (unfold x; clear x))
    | (extract_lets +onlyGivenNames x; revert x; intro _)
    | with_reducible refine State.bset_does (Sub.trans (by decide) hM) (Sub.fld (by decide) (Sub.kind (k := .port) rfl (by decide) hM)) ?_
    | with_reducible refine State.gateRefuse_does (Sub.trans (by decide) hM) ?_
    | with_reducible refine State.setChange_does (Sub.trans (by decide) hM) ?_
    | with_reducible refine State.setPort_does (Sub.trans (by decide) hM) ?_
    | with_reducible refine Does.ite ?_ ?_)

theorem State.gateListRead_does {M : Nat} {s0 s : State} {x1 : Page} {x2} {x3} (hM : Sub 32 M) (hB1 : Sub x1.blk M) (h : Does M s0 s) :
    Does M s0 (State.gateListRead s x1 x2 x3) := by
  unfold State.gateListRead
  repeat' (first
    | with_reducible assumption
    | (extract_lets +onlyGivenNames x; refine Does.cut x ?_ ?_; rotate_left; (intro hx; clear_value x; revert x; intro _ _); rotate_left; (unfold x; clear x))
    | with_reducible refine State.putRw_does (Sub.trans (by decide) hM) (Sub.off (by decide) hB1) ?_
    | with_reducible refine State.setPair_does (Sub.trans (by decide) hM) (Sub.off (by decide) hB1) (Sub.off (by decide) hB1) ?_)

theorem State.gateListWrite_does {M : Nat} {s0 s : State} {x1 : Page} {x2} (hM : Sub 0x7c00000000004000040000000000400022 M) (hB1 : Sub x1.blk M) (h : Does M s0 s) :
    Does M s0 (State.gateListWrite s x1 x2) := by
  unfold State.gateListWrite
  repeat' (first
    | with_reducible assumption
    | (extract_lets +onlyGivenNames x; refine Does.cut x ?_ ?_; rotate_left; (intro hx; clear_value x; revert x; intro _ _); rotate_left; (unfold x; clear x))
    | (extract_lets +onlyGivenNames x; revert x; intro _)
    | with_reducible refine State.bset_does (Sub.trans (by decide) hM) (Sub.fld (by decide) hB1) ?_
    | with_reducible refine State.gateRefuse_does (Sub.trans (by decide) hM) ?_
    | with_reducible refine State.putRw_does (Sub.trans (by decide) hM) (Sub.off (by decide) hB1) ?_
    | with_reducible refine State.setPort_does (Sub.trans (by decide) hM) ?_
    | with_reducible refine Does.ite ?_ ?_)

theorem State.mmSet_does {M : Nat} {s0 s : State} {x1} {x2} {x3} (hM : Sub 0x40000000000000020 M) (h : Does M s0 s) :
    Does M s0 (State.mmSet s x1 x2 x3) := by
  unfold State.mmSet
  repeat' (first
    | with_reducible assumption
    | (extract_lets +onlyGivenNames x; refine Does.cut x ?_ ?_; rotate_left; (intro hx; clear_value x; revert x; intro _ _); rotate_left; (unfold x; clear x))
    | (extract_lets +onlyGivenNames x; revert x; intro _)
    | with_reducible refine State.bset_does (Sub.trans (by decide) hM) (Sub.fld (by decide) (Sub.kind (k := .port) rfl (by decide) hM)) ?_
    | with_reducible refine State.fset_does (Sub.trans (by decide) hM) (Sub.fld (by decide) (Sub.kind (k := .port) rfl (by decide) hM)) ?_
    | with_reducible refine Does.ite ?_ ?_)

theorem State.sendMerge_does {M : Nat} {s0 s : State} {x1} {x2} (hM : Sub 0x40000000000404046 M) (h : Does M s0 s) :
    Does M s0 (State.sendMerge s x1 x2) := by
  unfold State.sendMerge
  repeat' (first
    | with_reducible assumption
    | with_reducible refine State.sendCtl_does (Sub.trans (by decide) hM) ?_)

theorem State.mmStart_does {M : Nat} {s0 s : State} {x1} (hM : Sub 0x40000000000404066 M) (h : Does M s0 s) :
    Does M s0 (State.mmStart s x1) := by
  unfold State.mmStart
  repeat' (first
    | with_reducible assumption
    | (extract_lets +onlyGivenNames x; revert x; intro _)
    | with_reducible refine State.mmSet_does (Sub.trans (by decide) hM) ?_
    | with_reducible refine State.sendMerge_does (Sub.trans (by decide) hM) ?_
    | with_reducible refine State.setPort_does (Sub.trans (by decide) hM) ?_
    | with_reducible refine Does.ite ?_ ?_)

theorem State.mmCfg_does {M : Nat} {s0 s : State} {x1 : Page} {x2} (hM : Sub 0x7c00000000004000040000000000404066 M) (hB1 : Sub x1.blk M) (hH1 : Sub x1.hdr M) (h : Does M s0 s) :
    Does M s0 (State.mmCfg s x1 x2) := by
  unfold State.mmCfg
  repeat' (first
    | with_reducible assumption
    | (extract_lets +onlyGivenNames x; refine Does.cut x ?_ ?_; rotate_left; (intro hx; clear_value x; revert x; intro _ _); rotate_left; (unfold x; clear x))
    | (extract_lets +onlyGivenNames x; revert x; intro _)
    | with_reducible refine State.errCount_does (Sub.trans (by decide) hM) hH1 ?_
    | with_reducible refine State.mmStart_does (Sub.trans (by decide) hM) ?_
    | with_reducible refine State.putRw_does (Sub.trans (by decide) hM) (Sub.off (by decide) hB1) ?_
    | with_reducible refine Does.ite ?_ ?_)

theorem execGateChange_does {M : Nat} {s0 s : State} {x0} {x1} {x2} {t : State} (e : execGateChange x0 x1 x2 s = .next t) (hM : Sub 0x40007c00000000004000040000000001400022 M) (h : Does M s0 s) :
    Does M s0 t := by
  revert e
  unfold execGateChange
  repeat' (first
    | with_reducible assumption
    | (intro _ _ _ _)
    | (intro e; with_reducible injection e with e; subst e)
    | with_reducible refine State.accessKind_does (Sub.trans (by decide) hM) ?_ ?_
    | with_reducible refine State.gateChange_does (Sub.trans (by decide) hM) ?_
    | with_reducible refine State.putRw_does (Sub.trans (by decide) hM) (Sub.off (by decide) (Sub.kind (k := .port) (by with_reducible assumption) (by decide) hM)) ?_)

theorem execGateChangeApply_does {M : Nat} {s0 s : State} {x0} {t : State} (e : execGateChangeApply x0 s = .next t) (hM : Sub 0x400000000000000040000000000400020 M) (h : Does M s0 s) :
    Does M s0 t := by
  revert e
  unfold execGateChangeApply
  repeat' (first
    | with_reducible assumption
    | (intro e; with_reducible injection e with e; subst e)
    | (extract_lets +onlyGivenNames x; refine Does.cut x ?_ ?_; rotate_left; (intro hx; clear_value x; revert x; intro _ _); rotate_left; (unfold x; clear x))
    | (extract_lets +onlyGivenNames x; revert x; intro _)
    | with_reducible refine State.bset_does (Sub.trans (by decide) hM) (Sub.fld (by decide) (Sub.kind (k := .port) rfl (by decide) hM)) ?_
    | with_reducible refine State.setPort_does (Sub.trans (by decide) hM) ?_
    | with_reducible refine State.setReg_does (Sub.trans (by decide) hM) (Sub.offB (Sub.kind (k := .port) rfl (by decide) hM) (Sub.kindH (k := .port) rfl (by decide) hM)) ?_
    | with_reducible refine Does.ite ?_ ?_
    | split)

theorem execGateListReadAdmin_does {M : Nat} {s0 s : State} {x0} {x1} {x2} {t : State} (e : execGateListReadAdmin x0 x1 x2 s = .next t) (hM : Sub 0x40007c00000000004000040000000001000022 M) (h : Does M s0 s) :
    Does M s0 t := by
  revert e
  unfold execGateListReadAdmin
  repeat' (first
    | with_reducible assumption
    | (intro _ _ _ _)
    | (intro e; with_reducible injection e with e; subst e)
    | with_reducible refine State.accessKind_does (Sub.trans (by decide) hM) ?_ ?_
    | with_reducible refine State.gateListRead_does (Sub.trans (by decide) hM) (Sub.kind (k := .port) (by with_reducible assumption) (by decide) hM) ?_)

theorem execGateListReadOper_does {M : Nat} {s0 s : State} {x0} {x1} {x2} {t : State} (e : execGateListReadOper x0 x1 x2 s = .next t) (hM : Sub 0x40007c00000000004000040000000001000022 M) (h : Does M s0 s) :
    Does M s0 t := by
  revert e
  unfold execGateListReadOper
  repeat' (first
    | with_reducible assumption
    | (intro _ _ _ _)
    | (intro e; with_reducible injection e with e; subst e)
    | with_reducible refine State.accessKind_does (Sub.trans (by decide) hM) ?_ ?_
    | with_reducible refine State.gateListRead_does (Sub.trans (by decide) hM) (Sub.kind (k := .port) (by with_reducible assumption) (by decide) hM) ?_)

theorem execGateListWriteAdmin_does {M : Nat} {s0 s : State} {x0} {x1} {x2} {t : State} (e : execGateListWriteAdmin x0 x1 x2 s = .next t) (hM : Sub 0x40007c00000000004000040000000001400022 M) (h : Does M s0 s) :
    Does M s0 t := by
  revert e
  unfold execGateListWriteAdmin
  repeat' (first
    | with_reducible assumption
    | (intro _ _ _ _)
    | (intro e; with_reducible injection e with e; subst e)
    | with_reducible refine State.accessKind_does (Sub.trans (by decide) hM) ?_ ?_
    | with_reducible refine State.gateListWrite_does (Sub.trans (by decide) hM) (Sub.kind (k := .port) (by with_reducible assumption) (by decide) hM) ?_)

theorem execMmCfgWrite_does {M : Nat} {s0 s : State} {x0} {x1} {x2} {t : State} (e : execMmCfgWrite x0 x1 x2 s = .next t) (hM : Sub 0x40007c00000000004000040000000001404066 M) (h : Does M s0 s) :
    Does M s0 t := by
  revert e
  unfold execMmCfgWrite
  repeat' (first
    | with_reducible assumption
    | (intro _ _ _ _)
    | (intro e; with_reducible injection e with e; subst e)
    | with_reducible refine State.accessKind_does (Sub.trans (by decide) hM) ?_ ?_
    | with_reducible refine State.mmCfg_does (Sub.trans (by decide) hM) (Sub.kind (k := .port) (by with_reducible assumption) (by decide) hM) (Sub.kindH (k := .port) (by with_reducible assumption) (by decide) hM) ?_)

theorem execMmResponseRx_does {M : Nat} {s0 s : State} {x0} {t : State} (e : execMmResponseRx x0 s = .next t) (hM : Sub 0x40000000000000020 M) (h : Does M s0 s) :
    Does M s0 t := by
  revert e
  unfold execMmResponseRx
  repeat' (first
    | with_reducible assumption
    | (intro e; with_reducible injection e with e; subst e)
    | with_reducible refine State.mmSet_does (Sub.trans (by decide) hM) ?_
    | with_reducible refine Does.ite ?_ ?_)

theorem execMmVerifyRx_does {M : Nat} {s0 s : State} {x0} {t : State} (e : execMmVerifyRx x0 s = .next t) (hM : Sub 0x40000000000404046 M) (h : Does M s0 s) :
    Does M s0 t := by
  revert e
  unfold execMmVerifyRx
  repeat' (first
    | with_reducible assumption
    | (intro e; with_reducible injection e with e; subst e)
    | with_reducible refine State.sendMerge_does (Sub.trans (by decide) hM) ?_
    | with_reducible refine Does.ite ?_ ?_)

theorem execMmVerifyTimer_does {M : Nat} {s0 s : State} {x0} {t : State} (e : execMmVerifyTimer x0 s = .next t) (hM : Sub 0x40000000000404066 M) (h : Does M s0 s) :
    Does M s0 t := by
  revert e
  unfold execMmVerifyTimer
  repeat' (first
    | with_reducible assumption
    | (intro e; with_reducible injection e with e; subst e)
    | with_reducible refine State.mmSet_does (Sub.trans (by decide) hM) ?_
    | with_reducible refine State.sendMerge_does (Sub.trans (by decide) hM) ?_
    | with_reducible refine State.setPort_does (Sub.trans (by decide) hM) ?_
    | with_reducible refine Does.ite ?_ ?_)

end Sys2Proof.Machine
end

