-- ==== Sys2Proof/Laws/Otp.lean ====
section
/-!
SUPPORT. What each operation of Machine/Otp.lean can change, and that it takes nothing back.
-/
namespace Sys2Proof.Machine

theorem State.setOtp_does {M : Nat} {s0 s : State} {v : Otp} (hM : Sub 16 M) (h : Does M s0 s)
    (hv : s.otp.words.wf (fun _ => 0) = true → v.words.wf (fun _ => 0) = true)
    (hg : ∀ a, s.otpWord a &&& v.words.get 0 a = s.otpWord a) : Does M s0 (s.setOtp v) := Does.put_otp hM h hv hg

theorem State.otpBurn_does {M : Nat} {s0 s : State} {x1} {x2} (hM : Sub 16 M) (h : Does M s0 s) :
    Does M s0 (State.otpBurn s x1 x2) := by
  unfold State.otpBurn
  refine State.setOtp_does (Sub.trans (by decide) hM) h (fun c => Sparse.wf_set _ _ _ _ c) (fun b => ?_)
  rw [Sparse.get_set]
  split_ifs with hb
  · subst hb; ext i; simp only [BitVec.getLsbD_and, BitVec.getLsbD_or, BitVec.getElem_and, BitVec.getElem_or]; cases (s.otpWord b)[i] <;> simp
  · exact BitVec.and_self

theorem State.otpProgramWord_does {M : Nat} {s0 s : State} {x1} {x2} (hM : Sub 0x80000000000000000000030 M) (h : Does M s0 s) :
    Does M s0 (State.otpProgramWord s x1 x2) := by
  unfold State.otpProgramWord
  repeat' (first
    | with_reducible assumption
    | (extract_lets +onlyGivenNames x; refine Does.cut x ?_ ?_; rotate_left; (intro hx; clear_value x; revert x; intro _ _); rotate_left; (unfold x; clear x))
    | (extract_lets +onlyGivenNames x; revert x; intro _)
    | with_reducible refine State.bset_does (Sub.trans (by decide) hM) (Sub.fld (by decide) (Sub.kind (k := .otp) rfl (by decide) hM)) ?_
    | with_reducible refine State.fset_does (Sub.trans (by decide) hM) (Sub.fld (by decide) (Sub.kind (k := .otp) rfl (by decide) hM)) ?_
    | with_reducible refine Does.ite ?_ ?_
    | refine State.setOtp_does (Sub.trans (by decide) hM) ?_ (fun c => c) (fun _ => BitVec.and_self))

theorem State.otpReadWord_does {M : Nat} {s0 s : State} {x1} (hM : Sub 0x80000000000000000000020 M) (h : Does M s0 s) :
    Does M s0 (State.otpReadWord s x1) := by
  unfold State.otpReadWord
  repeat' (first
    | with_reducible assumption
    | with_reducible refine State.fset_does (Sub.trans (by decide) hM) (Sub.fld (by decide) (Sub.kind (k := .otp) rfl (by decide) hM)) ?_
    | with_reducible refine State.setReg_does (Sub.trans (by decide) hM) (Sub.off (by decide) (Sub.kind (k := .otp) rfl (by decide) hM)) ?_
    | with_reducible refine Does.ite ?_ ?_)

theorem State.otpSvnNext_does {M : Nat} {s0 s : State} {x1} (hM : Sub 0x80000000000000000000030 M) (h : Does M s0 s) :
    Does M s0 (State.otpSvnNext s x1) := by
  unfold State.otpSvnNext
  repeat' (first
    | with_reducible assumption
    | (extract_lets +onlyGivenNames x; refine Does.cut x ?_ ?_; rotate_left; (intro hx; clear_value x; revert x; intro _ _); rotate_left; (unfold x; clear x))
    | (extract_lets +onlyGivenNames x; revert x; intro _)
    | with_reducible refine State.bset_does (Sub.trans (by decide) hM) (Sub.fld (by decide) (Sub.kind (k := .otp) rfl (by decide) hM)) ?_
    | with_reducible refine State.fset_does (Sub.trans (by decide) hM) (Sub.fld (by decide) (Sub.kind (k := .otp) rfl (by decide) hM)) ?_
    | with_reducible refine Does.ite ?_ ?_
    | refine State.setOtp_does (Sub.trans (by decide) hM) ?_ (fun c => c) (fun _ => BitVec.and_self))

theorem State.otpCmd_does {M : Nat} {s0 s : State} {x1} {x2} {x3} (hM : Sub 0x80000000000000000000030 M) (h : Does M s0 s) :
    Does M s0 (State.otpCmd s x1 x2 x3) := by
  unfold State.otpCmd
  repeat' (first
    | with_reducible assumption
    | (extract_lets +onlyGivenNames x; refine Does.cut x ?_ ?_; rotate_left; (intro hx; clear_value x; revert x; intro _ _); rotate_left; (unfold x; clear x))
    | with_reducible refine State.fset_does (Sub.trans (by decide) hM) (Sub.fld (by decide) (Sub.kind (k := .otp) rfl (by decide) hM)) ?_
    | with_reducible refine State.otpProgramWord_does (Sub.trans (by decide) hM) ?_
    | with_reducible refine State.otpReadWord_does (Sub.trans (by decide) hM) ?_
    | with_reducible refine State.otpSvnNext_does (Sub.trans (by decide) hM) ?_
    | with_reducible refine Does.ite ?_ ?_
    | split)

theorem State.otpFinish_does {M : Nat} {s0 s : State} {x1} (hM : Sub 16 M) (h : Does M s0 s) :
    Does M s0 (State.otpFinish s x1) := by
  unfold State.otpFinish
  split
  · exact h
  · refine State.setOtp_does (Sub.trans (by decide) hM) ?_ (fun c => c) (fun _ => BitVec.and_self)
    exact State.otpBurn_does (Sub.trans (by decide) hM) h
  · refine State.setOtp_does (Sub.trans (by decide) hM) ?_ (fun c => c) (fun _ => BitVec.and_self)
    exact Does.fold h (fun _ _ h => State.otpBurn_does (Sub.trans (by decide) hM) h)

theorem State.otpPageReset_does {M : Nat} {s0 s : State} (hM : Sub 0x800000000000000080000000000000000000030 M) (h : Does M s0 s) :
    Does M s0 (State.otpPageReset s) := by
  unfold State.otpPageReset
  have hb : Sub otpPg.blk M := Sub.kind (k := .otp) rfl (by decide) hM
  have hh : Sub otpPg.hdr M := Sub.kindH (k := .otp) rfl (by decide) hM
  exact Does.put_otp (Sub.trans (by decide) hM) (Does.put_regs (Sub.trans (by decide) hM) h (fun c => Sparse.wf_filter _ _ _ c)
    (fun q o hq => Sparse.get_filter _ _ _ (fun _ => by simp [Page.kind_ne hb hh hq]))) (fun c => c)
    (fun _ => BitVec.and_self)

theorem State.otpRollCall_does {M : Nat} {s0 s : State} {x1} (hM : Sub 0x800007c00000000084000000000000000000032 M) (h : Does M s0 s) :
    Does M s0 (State.otpRollCall s x1) := by
  unfold State.otpRollCall
  repeat' (first
    | with_reducible assumption
    | (extract_lets +onlyGivenNames x; refine Does.cut x ?_ ?_; rotate_left; (intro hx; clear_value x; revert x; intro _ _); rotate_left; (unfold x; clear x))
    | (extract_lets +onlyGivenNames x; revert x; intro _)
    | with_reducible refine State.bset_does (Sub.trans (by decide) hM) (Sub.fld (by decide) (Sub.kind (k := .otp) rfl (by decide) hM)) ?_
    | with_reducible refine State.fset_does (Sub.trans (by decide) hM) (Sub.fld (by decide) (Sub.kind (k := .otp) rfl (by decide) hM)) ?_
    | with_reducible refine State.raiseIf_does (Sub.trans (by decide) hM) (Sub.kindH (k := .otp) rfl (by decide) hM) ?_
    | refine State.setOtp_does (Sub.trans (by decide) hM) ?_ (fun c => c) (fun _ => BitVec.and_self))

theorem execOtpCmdDone_does {M : Nat} {s0 s : State} {x0} {t : State} (e : execOtpCmdDone x0 s = .next t) (hM : Sub 0x800000000000000080000000000000000000030 M) (h : Does M s0 s) :
    Does M s0 t := by
  revert e
  unfold execOtpCmdDone State.ifOperates
  repeat' (first
    | with_reducible assumption
    | (intro e; with_reducible injection e with e; subst e)
    | (extract_lets +onlyGivenNames x; revert x; intro _)
    | with_reducible refine State.bset_does (Sub.trans (by decide) hM) (Sub.fld (by decide) (Sub.kind (k := .otp) rfl (by decide) hM)) ?_
    | with_reducible refine State.fset_does (Sub.trans (by decide) hM) (Sub.fld (by decide) (Sub.kind (k := .otp) rfl (by decide) hM)) ?_
    | with_reducible refine State.otpFinish_does (Sub.trans (by decide) hM) ?_
    | with_reducible refine State.otpPageReset_does (Sub.trans (by decide) hM) ?_
    | with_reducible refine Does.ite ?_ ?_
    | split)

theorem execOtpProgram_does {M : Nat} {s0 s : State} {x0} {x1} {x2} {t : State} (e : execOtpProgram x0 x1 x2 s = .next t) (hM : Sub 0x40007c00000000084000000000000001000032 M) (h : Does M s0 s) :
    Does M s0 t := by
  revert e
  unfold execOtpProgram
  repeat' (first
    | with_reducible assumption
    | (intro _ _ _ _)
    | (intro e; with_reducible injection e with e; subst e)
    | with_reducible refine State.accessKind_does (Sub.trans (by decide) hM) ?_ ?_
    | with_reducible refine State.otpCmd_does (Sub.trans (by decide) hM) ?_)

theorem execOtpRead_does {M : Nat} {s0 s : State} {x0} {x1} {x2} {t : State} (e : execOtpRead x0 x1 x2 s = .next t) (hM : Sub 0x40007c00000000084000000000000001000032 M) (h : Does M s0 s) :
    Does M s0 t := by
  revert e
  unfold execOtpRead
  repeat' (first
    | with_reducible assumption
    | (intro _ _ _ _)
    | (intro e; with_reducible injection e with e; subst e)
    | with_reducible refine State.accessKind_does (Sub.trans (by decide) hM) ?_ ?_
    | with_reducible refine State.otpCmd_does (Sub.trans (by decide) hM) ?_)

theorem execOtpSvnInc_does {M : Nat} {s0 s : State} {x0} {x1} {t : State} (e : execOtpSvnInc x0 x1 s = .next t) (hM : Sub 0x40007c00000000084000000000000001000032 M) (h : Does M s0 s) :
    Does M s0 t := by
  revert e
  unfold execOtpSvnInc
  repeat' (first
    | with_reducible assumption
    | (intro _ _ _ _)
    | (intro e; with_reducible injection e with e; subst e)
    | with_reducible refine State.accessKind_does (Sub.trans (by decide) hM) ?_ ?_
    | with_reducible refine State.otpCmd_does (Sub.trans (by decide) hM) ?_)

end Sys2Proof.Machine
end

