-- ==== Sys2Proof/Laws/Receive.lean ====
section
/-!
SUPPORT. What each operation of Machine/Receive.lean can change, and that it takes nothing back.
-/
namespace Sys2Proof.Machine

theorem State.codeword_does {M : Nat} {s0 s : State} {x1} {x2} {x3} (hM : Sub 0x7c00000000004000060000000000006062 M) (h : Does M s0 s) :
    Does M s0 (State.codeword s x1 x2 x3) := by
  unfold State.codeword
  repeat' (first
    | with_reducible assumption
    | (extract_lets +onlyGivenNames x; refine Does.cut x ?_ ?_; rotate_left; (intro hx; clear_value x; revert x; intro _ _); rotate_left; (unfold x; clear x))
    | (extract_lets +onlyGivenNames x; revert x; intro _)
    | with_reducible refine State.cadd_does (Sub.trans (by decide) hM) (Sub.fld (by decide) (Sub.kind (k := .port) rfl (by decide) hM)) ?_
    | with_reducible refine State.cadd_does (Sub.trans (by decide) hM) (Sub.fld (by decide) (Sub.kind (k := .lane) rfl (by decide) hM)) ?_
    | with_reducible refine State.raiseIf_does (Sub.trans (by decide) hM) (Sub.kindH (k := .port) rfl (by decide) hM) ?_
    | split
    | refine Does.put_lanes (Sub.trans (by decide) hM) ?_ (fun c => Sparse.wf_set _ _ _ _ c)
    | refine Does.put_links (Sub.trans (by decide) hM) ?_ (fun c => Sparse.wf_set _ _ _ _ c))

theorem State.codewords_does {M : Nat} {s0 s : State} {x1} {x2} {x3} (hM : Sub 0x7c00000000004000060000000000006062 M) (h : Does M s0 s) :
    Does M s0 (State.codewords s x1 x2 x3) := by
  unfold State.codewords
  repeat' (first
    | with_reducible assumption
    | (intro _ _ _)
    | (extract_lets +onlyGivenNames x; revert x; intro _)
    | with_reducible refine State.codeword_does (Sub.trans (by decide) hM) ?_
    | with_reducible refine Does.fold ?_ ?_
    | with_reducible refine Does.ite ?_ ?_)

theorem State.joinService_does {M : Nat} {s0 s : State} {x1} (hM : Sub 4194304 M) (h : Does M s0 s) :
    Does M s0 (State.joinService s x1) := by
  unfold State.joinService
  repeat' (first
    | with_reducible assumption
    | (extract_lets +onlyGivenNames x; revert x; intro _)
    | with_reducible refine State.setPort_does (Sub.trans (by decide) hM) ?_
    | with_reducible refine Does.ite ?_ ?_
    | split)

theorem State.judge_does {M : Nat} {s0 s : State} {x1} {x2} {x3} {r} (e : State.judge s x1 x2 x3 = r) (hM : Sub 0x2000000000000800000040 M) (h : Does M s0 s) :
    Does M s0 r.2 := by
  subst e
  unfold State.judge
  repeat' (first
    | with_reducible assumption
    | (extract_lets +onlyGivenNames x; refine Does.cut x ?_ ?_; rotate_left; (intro hx; clear_value x; revert x; intro _ _); rotate_left; (unfold x; clear x))
    | (extract_lets +onlyGivenNames x; revert x; intro _)
    | with_reducible refine State.cadd_does (Sub.trans (by decide) hM) (Sub.fld (by decide) (Sub.kind (k := .msec) rfl (by decide) hM)) ?_
    | with_reducible refine State.setMsec_does (Sub.trans (by decide) hM) ?_
    | split)

theorem State.meterUid_does {M : Nat} {s0 s : State} {x1} (hM : Sub 0x100000000000280040 M) (h : Does M s0 s) :
    Does M s0 (State.meterUid s x1) := by
  unfold State.meterUid
  repeat' (first
    | with_reducible assumption
    | (extract_lets +onlyGivenNames x; refine Does.cut x.2 ?_ ?_; rotate_left; (intro hx; clear_value x; revert x; intro _ _); rotate_left; (unfold x; clear x))
    | (extract_lets +onlyGivenNames x; revert x; intro _)
    | with_reducible refine State.meterFrm_does rfl (Sub.trans (by decide) hM) ?_
    | with_reducible refine State.setFrm_does (Sub.trans (by decide) hM) ?_
    | split)

theorem State.meterKin_does {M : Nat} {s0 s : State} {x1} (hM : Sub 0x1000007c000000001044001400000002d0380062 M) (h : Does M s0 s) :
    Does M s0 (State.meterKin s x1) := by
  unfold State.meterKin
  repeat' (first
    | with_reducible assumption
    | (intro _ _ _)
    | (extract_lets +onlyGivenNames x; refine Does.cut x ?_ ?_; rotate_left; (intro hx; clear_value x; revert x; intro _ _); rotate_left; (unfold x; clear x))
    | (extract_lets +onlyGivenNames x; revert x; intro _)
    | with_reducible refine State.endUnsent_does (Sub.trans (by decide) hM) ?_
    | with_reducible refine State.meterUid_does (Sub.trans (by decide) hM) ?_
    | with_reducible refine State.updFrm_does (Sub.trans (by decide) hM) ?_
    | with_reducible refine Does.fold ?_ ?_
    | with_reducible refine Does.ite ?_ ?_
    | split)

theorem State.lastByte_does {M : Nat} {s0 s : State} {x1} {x2} (hM : Sub 0x1000007c000000001044001400000002d0780062 M) (h : Does M s0 s) :
    Does M s0 (State.lastByte s x1 x2) := by
  unfold State.lastByte
  repeat' (first
    | with_reducible assumption
    | (intro _ _ _)
    | (extract_lets +onlyGivenNames x; refine Does.cut x ?_ ?_; rotate_left; (intro hx; clear_value x; revert x; intro _ _); rotate_left; (unfold x; clear x))
    | (extract_lets +onlyGivenNames x; revert x; intro _)
    | with_reducible refine State.cadd_does (Sub.trans (by decide) hM) (Sub.fld (by decide) (Sub.kind (k := .port) rfl (by decide) hM)) ?_
    | with_reducible refine State.dropLate_does (Sub.trans (by decide) hM) ?_
    | with_reducible refine State.meterKin_does (Sub.trans (by decide) hM) ?_
    | with_reducible refine State.setPort_does (Sub.trans (by decide) hM) ?_
    | with_reducible refine State.updFrm_does (Sub.trans (by decide) hM) ?_
    | with_reducible refine Does.fold ?_ ?_
    | with_reducible refine Does.ite ?_ ?_
    | split)

theorem State.macControl_does {M : Nat} {s0 s : State} {x1} {x2} (hM : Sub 0x40000000000400060 M) (h : Does M s0 s) :
    Does M s0 (State.macControl s x1 x2) := by
  unfold State.macControl
  repeat' (first
    | with_reducible assumption
    | with_reducible refine State.cadd_does (Sub.trans (by decide) hM) (Sub.fld (by decide) (Sub.kind (k := .port) rfl (by decide) hM)) ?_
    | with_reducible refine State.pfcRx_does (Sub.trans (by decide) hM) ?_
    | with_reducible refine State.wakePort_does (Sub.trans (by decide) hM) ?_
    | split)

theorem State.msecCmd_does {M : Nat} {s0 s : State} {x1 : Page} {x2} (hM : Sub 34359738400 M) (hB1 : Sub x1.blk M) (h : Does M s0 s) :
    Does M s0 (State.msecCmd s x1 x2) := by
  unfold State.msecCmd
  repeat' (first
    | with_reducible assumption
    | (extract_lets +onlyGivenNames x; refine Does.cut x ?_ ?_; rotate_left; (intro hx; clear_value x; revert x; intro _ _); rotate_left; (unfold x; clear x))
    | (extract_lets +onlyGivenNames x; revert x; intro _)
    | with_reducible refine State.bset_does (Sub.trans (by decide) hM) (Sub.fld (by decide) hB1) ?_
    | with_reducible refine State.putRw_does (Sub.trans (by decide) hM) (Sub.off (by decide) hB1) ?_
    | with_reducible refine State.setMsec_does (Sub.trans (by decide) hM) ?_
    | with_reducible refine State.setWords_does (Sub.trans (by decide) hM) (Sub.fld (by decide) hB1) ?_
    | with_reducible refine Does.ite ?_ ?_
    | split)

theorem State.msecReceive_does {M : Nat} {s0 s : State} {x1} {x2} {r} (e : State.msecReceive s x1 x2 = r) (hM : Sub 0x20000000000000002000000000000400000040 M) (h : Does M s0 s) :
    Does M s0 r.2 := by
  subst e
  unfold State.msecReceive
  repeat' (first
    | with_reducible assumption
    | (extract_lets +onlyGivenNames x; revert x; intro _)
    | with_reducible refine State.beginKey_does (Sub.trans (by decide) hM) ?_
    | with_reducible refine State.cadd_does (Sub.trans (by decide) hM) (Sub.fldB (Sub.kind (k := .msec) rfl (by decide) hM) (Sub.kindH (k := .msec) rfl (by decide) hM)) ?_
    | split)

theorem State.ptpReceive_does {M : Nat} {s0 s : State} {x1} {x2} {r} (e : State.ptpReceive s x1 x2 = r) (hM : Sub 0x40000000000000040 M) (h : Does M s0 s) :
    Does M s0 r.2 := by
  subst e
  unfold State.ptpReceive
  repeat' (first
    | with_reducible assumption
    | (extract_lets +onlyGivenNames x; refine Does.cut x ?_ ?_; rotate_left; (intro hx; clear_value x; revert x; intro _ _); rotate_left; (unfold x; clear x))
    | (extract_lets +onlyGivenNames x; revert x; intro _)
    | with_reducible refine State.cadd_does (Sub.trans (by decide) hM) (Sub.fld (by decide) (Sub.kind (k := .port) rfl (by decide) hM)) ?_
    | with_reducible refine Does.ite ?_ ?_
    | split)

theorem State.rxFrame_does {M : Nat} {s0 s : State} {x1} {x2} {x3} {x4} {x5} {x6} (hM : Sub 0x20007c00000000006000040000000c00584066 M) (h : Does M s0 s) :
    Does M s0 (State.rxFrame s x1 x2 x3 x4 x5 x6) := by
  unfold State.rxFrame
  repeat' (first
    | with_reducible assumption
    | (extract_lets +onlyGivenNames x; refine Does.cut x ?_ ?_; rotate_left; (intro hx; clear_value x; revert x; intro _ _); rotate_left; (unfold x; clear x))
    | (extract_lets +onlyGivenNames x; revert x; intro _)
    | with_reducible refine State.cadd_does (Sub.trans (by decide) hM) (Sub.fld (by decide) (Sub.kind (k := .port) rfl (by decide) hM)) ?_
    | with_reducible refine State.endKey_does (Sub.trans (by decide) hM) ?_
    | with_reducible refine State.entryPfc_does (Sub.trans (by decide) hM) ?_
    | with_reducible refine State.joinService_does (Sub.trans (by decide) hM) ?_
    | with_reducible refine State.judge_does rfl (Sub.trans (by decide) hM) ?_
    | with_reducible refine State.macControl_does (Sub.trans (by decide) hM) ?_
    | with_reducible refine State.msecReceive_does rfl (Sub.trans (by decide) hM) ?_
    | with_reducible refine State.newFrm_does rfl (Sub.trans (by decide) hM) ?_
    | with_reducible refine State.ptpReceive_does rfl (Sub.trans (by decide) hM) ?_
    | with_reducible refine State.raise_does (Sub.trans (by decide) hM) (Sub.kindH (k := .port) rfl (by decide) hM) ?_
    | with_reducible refine State.setPort_does (Sub.trans (by decide) hM) ?_
    | with_reducible refine Does.ite ?_ ?_
    | split)

theorem State.verdictFail_does {M : Nat} {s0 s : State} {x1} {x2} {x3} (hM : Sub 0x3000007c000000003554003400000046d37c8066 M) (h : Does M s0 s) :
    Does M s0 (State.verdictFail s x1 x2 x3) := by
  unfold State.verdictFail
  repeat' (first
    | with_reducible assumption
    | (intro _ _ _)
    | (extract_lets +onlyGivenNames x; refine Does.cut x ?_ ?_; rotate_left; (intro hx; clear_value x; revert x; intro _ _); rotate_left; (unfold x; clear x))
    | (extract_lets +onlyGivenNames x; revert x; intro _)
    | with_reducible refine State.dropFrm_does (Sub.trans (by decide) hM) ?_
    | with_reducible refine State.dropLate_does (Sub.trans (by decide) hM) ?_
    | with_reducible refine State.fold_does (Sub.trans (by decide) hM) ?_
    | with_reducible refine State.quitEarly_does (Sub.trans (by decide) hM) ?_
    | with_reducible refine State.sendCtrl_does (Sub.trans (by decide) hM) ?_
    | with_reducible refine State.setFrm_does (Sub.trans (by decide) hM) ?_
    | with_reducible refine State.unqueue_does (Sub.trans (by decide) hM) ?_
    | with_reducible refine State.voidOn_does (Sub.trans (by decide) hM) ?_
    | with_reducible refine Does.fold ?_ ?_
    | with_reducible refine Does.ite ?_ ?_)

theorem State.verdictPass_does {M : Nat} {s0 s : State} {x1} (hM : Sub 0x5000007c000000005044001400000002d1f80062 M) (h : Does M s0 s) :
    Does M s0 (State.verdictPass s x1) := by
  unfold State.verdictPass
  repeat' (first
    | with_reducible assumption
    | (intro _ _ _)
    | (extract_lets +onlyGivenNames x; refine Does.cut x ?_ ?_; rotate_left; (intro hx; clear_value x; revert x; intro _ _); rotate_left; (unfold x; clear x))
    | (extract_lets +onlyGivenNames x; revert x; intro _)
    | with_reducible refine State.dropLate_does (Sub.trans (by decide) hM) ?_
    | with_reducible refine State.meterKin_does (Sub.trans (by decide) hM) ?_
    | with_reducible refine State.raiseLearn_does rfl (Sub.trans (by decide) hM) ?_
    | with_reducible refine State.updFrm_does (Sub.trans (by decide) hM) ?_
    | with_reducible refine Does.fold ?_ ?_
    | split)

theorem execFrameRx_does {M : Nat} {s0 s : State} {x0} {x1} {x2} {x3} {x4} {t : State} (e : execFrameRx x0 x1 x2 x3 x4 s = .next t) (hM : Sub 0x20007c00000000006000060000000c00586066 M) (h : Does M s0 s) :
    Does M s0 t := by
  revert e
  unfold execFrameRx
  repeat' (first
    | with_reducible assumption
    | (intro _ _ _)
    | (intro e; with_reducible injection e with e; subst e)
    | (extract_lets +onlyGivenNames x; refine Does.cut x ?_ ?_; rotate_left; (intro hx; clear_value x; revert x; intro _ _); rotate_left; (unfold x; clear x))
    | with_reducible refine State.codewords_does (Sub.trans (by decide) hM) ?_
    | with_reducible refine State.rxFrame_does (Sub.trans (by decide) hM) ?_
    | with_reducible refine Does.fold ?_ ?_
    | with_reducible refine Does.ite ?_ ?_)

theorem execFrameRxEnd_does {M : Nat} {s0 s : State} {x0} {t : State} (e : execFrameRxEnd x0 s = .next t) (hM : Sub 0x1000007c000000001044001400000002d0780062 M) (h : Does M s0 s) :
    Does M s0 t := by
  revert e
  unfold execFrameRxEnd
  repeat' (first
    | with_reducible assumption
    | (intro e; with_reducible injection e with e; subst e)
    | with_reducible refine State.lastByte_does (Sub.trans (by decide) hM) ?_)

theorem execMacsecVerdict_does {M : Nat} {s0 s : State} {x0} {t : State} (e : execMacsecVerdict x0 s = .next t) (hM : Sub 0x7000007c00000000757400340000004ed3fc8066 M) (h : Does M s0 s) :
    Does M s0 t := by
  revert e
  unfold execMacsecVerdict
  repeat' (first
    | with_reducible assumption
    | (intro _ _ _)
    | (intro e; with_reducible injection e with e; subst e)
    | (extract_lets +onlyGivenNames x; refine Does.cut x ?_ ?_; rotate_left; (intro hx; clear_value x; revert x; intro _ _); rotate_left; (unfold x; clear x))
    | (extract_lets +onlyGivenNames x; revert x; intro _)
    | with_reducible refine State.endKey_does (Sub.trans (by decide) hM) ?_
    | with_reducible refine State.judge_does rfl (Sub.trans (by decide) hM) ?_
    | with_reducible refine State.updFrm_does (Sub.trans (by decide) hM) ?_
    | with_reducible refine State.verdictFail_does (Sub.trans (by decide) hM) ?_
    | with_reducible refine State.verdictPass_does (Sub.trans (by decide) hM) ?_
    | with_reducible refine Does.fold ?_ ?_
    | with_reducible refine Does.ite ?_ ?_
    | with_reducible refine Does.of2 (by with_reducible assumption) ?_
    | split)

theorem execMmFragmentRx_does {M : Nat} {s0 s : State} {x0} {x1} {x2} {t : State} (e : execMmFragmentRx x0 x1 x2 s = .next t) (hM : Sub 0x20007c00000000006000040000000c00584066 M) (h : Does M s0 s) :
    Does M s0 t := by
  revert e
  unfold execMmFragmentRx
  repeat' (first
    | with_reducible assumption
    | (intro e; with_reducible injection e with e; subst e)
    | (extract_lets +onlyGivenNames x; refine Does.cut x ?_ ?_; rotate_left; (intro hx; clear_value x; revert x; intro _ _); rotate_left; (unfold x; clear x))
    | (extract_lets +onlyGivenNames x; revert x; intro _)
    | with_reducible refine State.cadd_does (Sub.trans (by decide) hM) (Sub.fld (by decide) (Sub.kind (k := .port) rfl (by decide) hM)) ?_
    | with_reducible refine State.rxFrame_does (Sub.trans (by decide) hM) ?_
    | with_reducible refine State.setPort_does (Sub.trans (by decide) hM) ?_
    | with_reducible refine Does.ite ?_ ?_
    | split)

theorem execMsecTblRead_does {M : Nat} {s0 s : State} {x0} {x1} {x2} {t : State} (e : execMsecTblRead x0 x1 x2 s = .next t) (hM : Sub 0x40007c00000000006000000000000801000022 M) (h : Does M s0 s) :
    Does M s0 t := by
  revert e
  unfold execMsecTblRead
  repeat' (first
    | with_reducible assumption
    | (intro _ _ _ _)
    | (intro e; with_reducible injection e with e; subst e)
    | with_reducible refine State.accessKind_does (Sub.trans (by decide) hM) ?_ ?_
    | with_reducible refine State.msecCmd_does (Sub.trans (by decide) hM) (Sub.kind (k := .msec) (by with_reducible assumption) (by decide) hM) ?_)

theorem execMsecTblWrite_does {M : Nat} {s0 s : State} {x0} {x1} {x2} {t : State} (e : execMsecTblWrite x0 x1 x2 s = .next t) (hM : Sub 0x40007c00000000006000000000000801000022 M) (h : Does M s0 s) :
    Does M s0 t := by
  revert e
  unfold execMsecTblWrite
  repeat' (first
    | with_reducible assumption
    | (intro _ _ _ _)
    | (intro e; with_reducible injection e with e; subst e)
    | with_reducible refine State.accessKind_does (Sub.trans (by decide) hM) ?_ ?_
    | with_reducible refine State.msecCmd_does (Sub.trans (by decide) hM) (Sub.kind (k := .msec) (by with_reducible assumption) (by decide) hM) ?_)

end Sys2Proof.Machine
end

