-- ==== Sys2Proof/Laws/Ports.lean ====
section
/-!
SUPPORT. What each operation of Machine/Ports.lean can change, and that it takes nothing back.
-/
namespace Sys2Proof.Machine

theorem State.clearCounters_does {M : Nat} {s0 s : State} {x1 : Page} (hM : Sub 96 M) (hB1 : Sub x1.blk M) (hH1 : Sub x1.hdr M) (h : Does M s0 s) :
    Does M s0 (State.clearCounters s x1) := by
  unfold State.clearCounters
  dsimp only
  refine State.fset_does (x2 := F.PAGE_ERR_COUNT) (Sub.trans (by decide)  hM) (Sub.fldH (by decide) rfl hH1) ?_
  exact Does.put_ctrs (Sub.trans (by decide) hM) h (fun c => Sparse.wf_filter _ _ _ c)
    (fun q o hq => Sparse.get_filter _ _ _ (fun _ => by simp [Page.kind_ne hB1 hH1 hq]))

theorem State.clearCauses_does {M : Nat} {s0 s : State} {x1} (hM : Sub 0x40000000000002020 M) (h : Does M s0 s) :
    Does M s0 (State.clearCauses s x1) := by
  unfold State.clearCauses
  repeat' (first
    | with_reducible assumption
    | (intro _ _ _)
    | (extract_lets +onlyGivenNames x; refine Does.cut x ?_ ?_; rotate_left; (intro hx; clear_value x; revert x; intro _ _); rotate_left; (unfold x; clear x))
    | with_reducible refine State.bset_does (Sub.trans (by decide) hM) (Sub.fld (by decide) (Sub.kind (k := .port) rfl (by decide) hM)) ?_
    | with_reducible refine Does.fold ?_ ?_
    | refine Does.put_lanes (Sub.trans (by decide) hM) ?_ (fun c => Sparse.wf_set _ _ _ _ c))

theorem State.startCtle_does {M : Nat} {s0 s : State} {x1} (hM : Sub 0x20000000000000020 M) (h : Does M s0 s) :
    Does M s0 (State.startCtle s x1) := by
  unfold State.startCtle
  repeat' (first
    | with_reducible assumption
    | (extract_lets +onlyGivenNames x; refine Does.cut x ?_ ?_; rotate_left; (intro hx; clear_value x; revert x; intro _ _); rotate_left; (unfold x; clear x))
    | (extract_lets +onlyGivenNames x; revert x; intro _)
    | with_reducible refine State.fset_does (Sub.trans (by decide) hM) (Sub.fld (by decide) (Sub.kind (k := .lane) rfl (by decide) hM)) ?_)

theorem State.laneTrain_does {M : Nat} {s0 s : State} {x1} {x2} (hM : Sub 0x20000000000000022 M) (h : Does M s0 s) :
    Does M s0 (State.laneTrain s x1 x2) := by
  unfold State.laneTrain
  repeat' (first
    | with_reducible assumption
    | (extract_lets +onlyGivenNames x; refine Does.cut x ?_ ?_; rotate_left; (intro hx; clear_value x; revert x; intro _ _); rotate_left; (unfold x; clear x))
    | with_reducible refine State.emit_does (Sub.trans (by decide) hM) ?_
    | with_reducible refine State.setReg_does (Sub.trans (by decide) hM) (Sub.off (by decide) (Sub.kind (k := .lane) rfl (by decide) hM)) ?_
    | with_reducible refine State.startCtle_does (Sub.trans (by decide) hM) ?_)

theorem State.setLane_does {M : Nat} {s0 s : State} {x1} {x2} {x3} {x4} (hM : Sub 0x20000000000000020 M) (h : Does M s0 s) :
    Does M s0 (State.setLane s x1 x2 x3 x4) := by
  unfold State.setLane
  repeat' (first
    | with_reducible assumption
    | (extract_lets +onlyGivenNames x; refine Does.cut x ?_ ?_; rotate_left; (intro hx; clear_value x; revert x; intro _ _); rotate_left; (unfold x; clear x))
    | (extract_lets +onlyGivenNames x; revert x; intro _)
    | with_reducible refine State.bset_does (Sub.trans (by decide) hM) (Sub.fld (by decide) (Sub.kind (k := .lane) rfl (by decide) hM)) ?_
    | with_reducible refine State.fset_does (Sub.trans (by decide) hM) (Sub.fld (by decide) (Sub.kind (k := .lane) rfl (by decide) hM)) ?_
    | with_reducible refine Does.ite ?_ ?_)

theorem State.setLanes_does {M : Nat} {s0 s : State} {x1} {x2} {x3} (hM : Sub 0x20000000000000020 M) (h : Does M s0 s) :
    Does M s0 (State.setLanes s x1 x2 x3) := by
  unfold State.setLanes
  repeat' (first
    | with_reducible assumption
    | (intro _ _ _)
    | (extract_lets +onlyGivenNames x; revert x; intro _)
    | with_reducible refine State.setLane_does (Sub.trans (by decide) hM) ?_
    | with_reducible refine Does.fold ?_ ?_)

theorem State.setPortState_does {M : Nat} {s0 s : State} {x1} {x2} (hM : Sub 0x40000000000000020 M) (h : Does M s0 s) :
    Does M s0 (State.setPortState s x1 x2) := by
  unfold State.setPortState
  repeat' (first
    | with_reducible assumption
    | with_reducible refine State.fset_does (Sub.trans (by decide) hM) (Sub.fld (by decide) (Sub.kind (k := .port) rfl (by decide) hM)) ?_)

theorem State.setTech_does {M : Nat} {s0 s : State} {x1} {x2} {x3} (hM : Sub 0x40000000000000020 M) (h : Does M s0 s) :
    Does M s0 (State.setTech s x1 x2 x3) := by
  unfold State.setTech
  repeat' (first
    | with_reducible assumption
    | with_reducible refine State.fset_does (Sub.trans (by decide) hM) (Sub.fld (by decide) (Sub.kind (k := .port) rfl (by decide) hM)) ?_)

theorem State.enterTrain_does {M : Nat} {s0 s : State} {x1} {x2} {x3} (hM : Sub 0x60000000000002022 M) (h : Does M s0 s) :
    Does M s0 (State.enterTrain s x1 x2 x3) := by
  unfold State.enterTrain
  repeat' (first
    | with_reducible assumption
    | (intro _ _ _)
    | (extract_lets +onlyGivenNames x; refine Does.cut x ?_ ?_; rotate_left; (intro hx; clear_value x; revert x; intro _ _); rotate_left; (unfold x; clear x))
    | with_reducible refine State.clearCauses_does (Sub.trans (by decide) hM) ?_
    | with_reducible refine State.laneTrain_does (Sub.trans (by decide) hM) ?_
    | with_reducible refine State.setLanes_does (Sub.trans (by decide) hM) ?_
    | with_reducible refine State.setPortState_does (Sub.trans (by decide) hM) ?_
    | with_reducible refine State.setTech_does (Sub.trans (by decide) hM) ?_
    | with_reducible refine Does.fold ?_ ?_)

theorem State.sendPages_does {M : Nat} {s0 s : State} {x1} (hM : Sub 2 M) (h : Does M s0 s) :
    Does M s0 (State.sendPages s x1) := by
  unfold State.sendPages
  repeat' (first
    | with_reducible assumption
    | (extract_lets +onlyGivenNames x; revert x; intro _)
    | with_reducible refine State.emit_does (Sub.trans (by decide) hM) ?_
    | split)

theorem State.setLink_does {M : Nat} {s0 s : State} {x1} {x2} (hM : Sub 16384 M) (h : Does M s0 s) :
    Does M s0 (State.setLink s x1 x2) := by
  unfold State.setLink
  repeat' (first
    | with_reducible assumption
    | refine Does.put_links (Sub.trans (by decide) hM) ?_ (fun c => Sparse.wf_set _ _ _ _ c))

theorem State.enterAn_does {M : Nat} {s0 s : State} {x1} (hM : Sub 0x7c00000000004000060000000000006022 M) (h : Does M s0 s) :
    Does M s0 (State.enterAn s x1) := by
  unfold State.enterAn
  repeat' (first
    | with_reducible assumption
    | (extract_lets +onlyGivenNames x; refine Does.cut x ?_ ?_; rotate_left; (intro hx; clear_value x; revert x; intro _ _); rotate_left; (unfold x; clear x))
    | (extract_lets +onlyGivenNames x; revert x; intro _)
    | with_reducible refine State.clearCauses_does (Sub.trans (by decide) hM) ?_
    | with_reducible refine State.enterTrain_does (Sub.trans (by decide) hM) ?_
    | with_reducible refine State.raise_does (Sub.trans (by decide) hM) (Sub.kindH (k := .port) rfl (by decide) hM) ?_
    | with_reducible refine State.sendPages_does (Sub.trans (by decide) hM) ?_
    | with_reducible refine State.setLanes_does (Sub.trans (by decide) hM) ?_
    | with_reducible refine State.setLink_does (Sub.trans (by decide) hM) ?_
    | with_reducible refine State.setPortState_does (Sub.trans (by decide) hM) ?_
    | with_reducible refine State.setTech_does (Sub.trans (by decide) hM) ?_
    | with_reducible refine Does.ite ?_ ?_
    | split)

theorem State.laneDown_does {M : Nat} {s0 s : State} {x1} (hM : Sub 0x20000000000000020 M) (h : Does M s0 s) :
    Does M s0 (State.laneDown s x1) := by
  unfold State.laneDown
  repeat' (first
    | with_reducible assumption
    | with_reducible refine State.setReg_does (Sub.trans (by decide) hM) (Sub.off (by decide) (Sub.kind (k := .lane) rfl (by decide) hM)) ?_
    | with_reducible refine State.startCtle_does (Sub.trans (by decide) hM) ?_)

theorem State.pruneOn_does {M : Nat} {s0 s : State} {x1} {x2} (hM : Sub 49152 M) (h : Does M s0 s) :
    Does M s0 (State.pruneOn s x1 x2) := by
  unfold State.pruneOn
  repeat' (first
    | with_reducible assumption
    | (intro _ _ _)
    | (extract_lets +onlyGivenNames x; refine Does.cut x ?_ ?_; rotate_left; (intro hx; clear_value x; revert x; intro _ _); rotate_left; (unfold x; clear x))
    | (extract_lets +onlyGivenNames x; revert x; intro _)
    | with_reducible refine State.setLink_does (Sub.trans (by decide) hM) ?_
    | with_reducible refine Does.fold ?_ ?_
    | refine Does.put_tabs (Sub.trans (by decide) hM) ?_ (fun c => Sparse.wf_set _ _ _ _ c))

theorem State.prunePort_does {M : Nat} {s0 s : State} {x1} (hM : Sub 16826368 M) (h : Does M s0 s) :
    Does M s0 (State.prunePort s x1) := by
  unfold State.prunePort
  repeat' (first
    | with_reducible assumption
    | (extract_lets +onlyGivenNames x; refine Does.cut x ?_ ?_; rotate_left; (intro hx; clear_value x; revert x; intro _ _); rotate_left; (unfold x; clear x))
    | with_reducible refine State.pruneOn_does (Sub.trans (by decide) hM) ?_
    | with_reducible refine State.sendCtrl_does (Sub.trans (by decide) hM) ?_
    | with_reducible refine Does.ite ?_ ?_)

theorem State.pruneFlush_does {M : Nat} {s0 s : State} {x1} (hM : Sub 0x1000007c000000001044001400000006d178c066 M) (h : Does M s0 s) :
    Does M s0 (State.pruneFlush s x1) := by
  unfold State.pruneFlush
  repeat' (first
    | with_reducible assumption
    | (intro _ _ _)
    | (extract_lets +onlyGivenNames x; refine Does.cut x ?_ ?_; rotate_left; (intro hx; clear_value x; revert x; intro _ _); rotate_left; (unfold x; clear x))
    | (extract_lets +onlyGivenNames x; revert x; intro _)
    | with_reducible refine State.bset_does (Sub.trans (by decide) hM) (Sub.fld (by decide) (Sub.kind (k := .port) rfl (by decide) hM)) ?_
    | with_reducible refine State.endKey_does (Sub.trans (by decide) hM) ?_
    | with_reducible refine State.flushPort_does (Sub.trans (by decide) hM) ?_
    | with_reducible refine State.lastByte_does (Sub.trans (by decide) hM) ?_
    | with_reducible refine State.mmStart_does (Sub.trans (by decide) hM) ?_
    | with_reducible refine State.prunePort_does (Sub.trans (by decide) hM) ?_
    | with_reducible refine State.setPort_does (Sub.trans (by decide) hM) ?_
    | with_reducible refine Does.fold ?_ ?_
    | split)

theorem State.portPower_does {M : Nat} {s0 s : State} {x1} (hM : Sub 0x1000007c000000001044001600000006d178e066 M) (h : Does M s0 s) :
    Does M s0 (State.portPower s x1) := by
  unfold State.portPower
  repeat' (first
    | with_reducible assumption
    | (intro _ _ _)
    | (extract_lets +onlyGivenNames x; refine Does.cut x ?_ ?_; rotate_left; (intro hx; clear_value x; revert x; intro _ _); rotate_left; (unfold x; clear x))
    | (extract_lets +onlyGivenNames x; revert x; intro _)
    | with_reducible refine State.clearCauses_does (Sub.trans (by decide) hM) ?_
    | with_reducible refine State.enterAn_does (Sub.trans (by decide) hM) ?_
    | with_reducible refine State.laneDown_does (Sub.trans (by decide) hM) ?_
    | with_reducible refine State.pruneFlush_does (Sub.trans (by decide) hM) ?_
    | with_reducible refine State.setLanes_does (Sub.trans (by decide) hM) ?_
    | with_reducible refine State.setLink_does (Sub.trans (by decide) hM) ?_
    | with_reducible refine State.setPortState_does (Sub.trans (by decide) hM) ?_
    | with_reducible refine State.setTech_does (Sub.trans (by decide) hM) ?_
    | with_reducible refine Does.fold ?_ ?_
    | with_reducible refine Does.ite ?_ ?_)

theorem State.resyncEight_does {M : Nat} {s0 s : State} {x1} (hM : Sub 0x7c00000000004000000000000000000022 M) (h : Does M s0 s) :
    Does M s0 (State.resyncEight s x1) := by
  unfold State.resyncEight
  repeat' (first
    | with_reducible assumption
    | (intro _ _ _)
    | (intro _ _)
    | (extract_lets +onlyGivenNames x; refine Does.cut x ?_ ?_; rotate_left; (intro hx; clear_value x; revert x; intro _ _); rotate_left; (unfold x; clear x))
    | (extract_lets +onlyGivenNames x; revert x; intro _)
    | with_reducible refine State.irqUpd_does (Sub.trans (by decide) hM) ?_ ?_
    | with_reducible refine State.setReg_does (Sub.trans (by decide) hM) (Sub.offH (by decide) (Sub.kindH (k := .port) rfl (by decide) hM)) ?_
    | with_reducible refine State.setStatusFrom_does (Sub.trans (by decide) hM) (Sub.kindH (k := .port) rfl (by decide) hM) ?_
    | with_reducible refine Does.fold ?_ ?_)

theorem State.arrangeWrite_does {M : Nat} {s0 s : State} {x1 : Page} {x2} {x3} (hM : Sub 0x1000007c000000001044001600000006d178e066 M) (hB1 : Sub x1.blk M) (hH1 : Sub x1.hdr M) (h : Does M s0 s) :
    Does M s0 (State.arrangeWrite s x1 x2 x3) := by
  unfold State.arrangeWrite
  repeat' (first
    | with_reducible assumption
    | (intro _ _ _)
    | (extract_lets +onlyGivenNames x; refine Does.cut x ?_ ?_; rotate_left; (intro hx; clear_value x; revert x; intro _ _); rotate_left; (unfold x; clear x))
    | (extract_lets +onlyGivenNames x; revert x; intro _)
    | with_reducible refine State.clearCounters_does (Sub.trans (by decide) hM) (Sub.kind (k := .port) rfl (by decide) hM) (Sub.kindH (k := .port) rfl (by decide) hM) ?_
    | with_reducible refine State.errCount_does (Sub.trans (by decide) hM) hH1 ?_
    | with_reducible refine State.fset_does (Sub.trans (by decide) hM) (Sub.fld (by decide) hB1) ?_
    | with_reducible refine State.portPower_does (Sub.trans (by decide) hM) ?_
    | with_reducible refine State.putRw_does (Sub.trans (by decide) hM) (Sub.offB hB1 hH1) ?_
    | with_reducible refine State.resyncEight_does (Sub.trans (by decide) hM) ?_
    | with_reducible refine Does.fold ?_ ?_
    | with_reducible refine Does.ite ?_ ?_
    | split)

theorem State.causesChanged_does {M : Nat} {s0 s : State} {x1} (hM : Sub 0x60000000000000020 M) (h : Does M s0 s) :
    Does M s0 (State.causesChanged s x1) := by
  unfold State.causesChanged
  repeat' (first
    | with_reducible assumption
    | (extract_lets +onlyGivenNames x; refine Does.cut x ?_ ?_; rotate_left; (intro hx; clear_value x; revert x; intro _ _); rotate_left; (unfold x; clear x))
    | with_reducible refine State.bset_does (Sub.trans (by decide) hM) (Sub.fld (by decide) (Sub.kind (k := .port) rfl (by decide) hM)) ?_
    | with_reducible refine State.setLanes_does (Sub.trans (by decide) hM) ?_)

theorem State.controlWrite_does {M : Nat} {s0 s : State} {x1 : Page} {x2} (hM : Sub 0x7ffff007e000000001044001600000026d178e066 M) (hH1 : Sub x1.hdr M) (h : Does M s0 s) :
    Does M s0 (State.controlWrite s x1 x2) := by
  unfold State.controlWrite
  repeat' (first
    | with_reducible assumption
    | (intro _ _ _)
    | (extract_lets +onlyGivenNames x; refine Does.cut x ?_ ?_; rotate_left; (intro hx; clear_value x; revert x; intro _ _); rotate_left; (unfold x; clear x))
    | with_reducible refine State.fset_does (Sub.trans (by decide) hM) (Sub.fldH (by decide) rfl (Sub.allHdr _ (by decide) hM)) ?_
    | with_reducible refine State.portPower_does (Sub.trans (by decide) hM) ?_
    | with_reducible refine State.setReg_does (Sub.trans (by decide) hM) (Sub.offH (by decide) hH1) ?_
    | with_reducible refine State.wakeCause_does (Sub.trans (by decide) hM) ?_
    | with_reducible refine Does.fold ?_ ?_
    | with_reducible refine Does.ite ?_ ?_)

theorem State.restoreOn_does {M : Nat} {s0 s : State} {x1} {x2} (hM : Sub 16384 M) (h : Does M s0 s) :
    Does M s0 (State.restoreOn s x1 x2) := by
  unfold State.restoreOn
  repeat' (first
    | with_reducible assumption
    | (extract_lets +onlyGivenNames x; revert x; intro _)
    | with_reducible refine State.setLink_does (Sub.trans (by decide) hM) ?_)

theorem State.enterUp_does {M : Nat} {s0 s : State} {x1} (hM : Sub 0x7c00000000004000040000000001404066 M) (h : Does M s0 s) :
    Does M s0 (State.enterUp s x1) := by
  unfold State.enterUp
  repeat' (first
    | with_reducible assumption
    | (extract_lets +onlyGivenNames x; refine Does.cut x ?_ ?_; rotate_left; (intro hx; clear_value x; revert x; intro _ _); rotate_left; (unfold x; clear x))
    | with_reducible refine State.mmStart_does (Sub.trans (by decide) hM) ?_
    | with_reducible refine State.raise_does (Sub.trans (by decide) hM) (Sub.kindH (k := .port) rfl (by decide) hM) ?_
    | with_reducible refine State.restoreOn_does (Sub.trans (by decide) hM) ?_
    | with_reducible refine State.sendCtrl_does (Sub.trans (by decide) hM) ?_
    | with_reducible refine State.setPortState_does (Sub.trans (by decide) hM) ?_
    | with_reducible refine Does.ite ?_ ?_)

theorem State.linkDown_does {M : Nat} {s0 s : State} {x1} (hM : Sub 0x7c00000000004000040000000000000062 M) (h : Does M s0 s) :
    Does M s0 (State.linkDown s x1) := by
  unfold State.linkDown
  repeat' (first
    | with_reducible assumption
    | with_reducible refine State.cadd_does (Sub.trans (by decide) hM) (Sub.fld (by decide) (Sub.kind (k := .port) rfl (by decide) hM)) ?_
    | with_reducible refine State.raise_does (Sub.trans (by decide) hM) (Sub.kindH (k := .port) rfl (by decide) hM) ?_)

theorem State.portEnableWrite_does {M : Nat} {s0 s : State} {x1} {x2} {x3} {x4} (hM : Sub 0x7ffff007e000000001044001600000026d178e066 M) (h : Does M s0 s) :
    Does M s0 (State.portEnableWrite s x1 x2 x3 x4) := by
  unfold State.portEnableWrite
  repeat' (first
    | with_reducible assumption
    | (intro _ _ _)
    | with_reducible refine State.access_does (Sub.trans (by decide) hM) ?_ ?_
    | with_reducible refine State.controlWrite_does (Sub.trans (by decide) hM) (Sub.allHdr _ (by decide) hM) ?_)

theorem State.rfaultCheck_does {M : Nat} {s0 s : State} {x1} (hM : Sub 0x7c00000000004000060000000000006022 M) (h : Does M s0 s) :
    Does M s0 (State.rfaultCheck s x1) := by
  unfold State.rfaultCheck
  repeat' (first
    | with_reducible assumption
    | with_reducible refine State.enterAn_does (Sub.trans (by decide) hM) ?_
    | with_reducible refine Does.ite ?_ ?_)

theorem State.rxLimit_does {M : Nat} {s0 s : State} {x1 : Page} {x2} (hM : Sub 0x7c00000000004000000000000000000022 M) (hB1 : Sub x1.blk M) (hH1 : Sub x1.hdr M) (h : Does M s0 s) :
    Does M s0 (State.rxLimit s x1 x2) := by
  unfold State.rxLimit
  repeat' (first
    | with_reducible assumption
    | (extract_lets +onlyGivenNames x; revert x; intro _)
    | with_reducible refine State.errCount_does (Sub.trans (by decide) hM) hH1 ?_
    | with_reducible refine State.putRw_does (Sub.trans (by decide) hM) (Sub.off (by decide) hB1) ?_
    | with_reducible refine Does.ite ?_ ?_)

theorem State.setCauses_does {M : Nat} {s0 s : State} {x1} {x2} (hM : Sub 8192 M) (h : Does M s0 s) :
    Does M s0 (State.setCauses s x1 x2) := by
  unfold State.setCauses
  repeat' (first
    | with_reducible assumption
    | (extract_lets +onlyGivenNames x; revert x; intro _)
    | refine Does.put_lanes (Sub.trans (by decide) hM) ?_ (fun c => Sparse.wf_set _ _ _ _ c))

theorem execAlignLock_does {M : Nat} {s0 s : State} {x0} {t : State} (e : execAlignLock x0 s = .next t) (hM : Sub 0x60000002000004020 M) (h : Does M s0 s) :
    Does M s0 t := by
  revert e
  unfold execAlignLock
  repeat' (first
    | with_reducible assumption
    | (intro e; with_reducible injection e with e; subst e)
    | (extract_lets +onlyGivenNames x; refine Does.cut x ?_ ?_; rotate_left; (intro hx; clear_value x; revert x; intro _ _); rotate_left; (unfold x; clear x))
    | (extract_lets +onlyGivenNames x; revert x; intro _)
    | with_reducible refine State.setLanes_does (Sub.trans (by decide) hM) ?_
    | with_reducible refine State.setLink_does (Sub.trans (by decide) hM) ?_
    | with_reducible refine State.setPortState_does (Sub.trans (by decide) hM) ?_
    | with_reducible refine State.wakeCause_does (Sub.trans (by decide) hM) ?_
    | with_reducible refine Does.ite ?_ ?_)

theorem execAlignTimeout_does {M : Nat} {s0 s : State} {x0} {t : State} (e : execAlignTimeout x0 s = .next t) (hM : Sub 0x7c00000000004000060000000000006022 M) (h : Does M s0 s) :
    Does M s0 t := by
  revert e
  unfold execAlignTimeout
  repeat' (first
    | with_reducible assumption
    | (intro e; with_reducible injection e with e; subst e)
    | with_reducible refine State.enterAn_does (Sub.trans (by decide) hM) ?_
    | with_reducible refine State.raise_does (Sub.trans (by decide) hM) (Sub.kindH (k := .port) rfl (by decide) hM) ?_
    | with_reducible refine Does.ite ?_ ?_)

theorem execAnBreakLinkExpire_does {M : Nat} {s0 s : State} {x0} {t : State} (e : execAnBreakLinkExpire x0 s = .next t) (hM : Sub 16386 M) (h : Does M s0 s) :
    Does M s0 t := by
  revert e
  unfold execAnBreakLinkExpire
  repeat' (first
    | with_reducible assumption
    | (intro e; with_reducible injection e with e; subst e)
    | (extract_lets +onlyGivenNames x; revert x; intro _)
    | with_reducible refine State.sendPages_does (Sub.trans (by decide) hM) ?_
    | with_reducible refine State.setLink_does (Sub.trans (by decide) hM) ?_
    | with_reducible refine Does.ite ?_ ?_)

theorem execAnFail_does {M : Nat} {s0 s : State} {x0} {x1} {x2} {t : State} (e : execAnFail x0 x1 x2 s = .next t) (hM : Sub 0x7c00000000004000000000000000004022 M) (h : Does M s0 s) :
    Does M s0 t := by
  revert e
  unfold execAnFail
  repeat' (first
    | with_reducible assumption
    | (intro e; with_reducible injection e with e; subst e)
    | (extract_lets +onlyGivenNames x; revert x; intro _)
    | with_reducible refine State.raise_does (Sub.trans (by decide) hM) (Sub.kindH (k := .port) rfl (by decide) hM) ?_
    | with_reducible refine State.setLink_does (Sub.trans (by decide) hM) ?_
    | with_reducible refine Does.ite ?_ ?_)

theorem execAnResolved_does {M : Nat} {s0 s : State} {x0} {x1} {x2} {t : State} (e : execAnResolved x0 x1 x2 s = .next t) (hM : Sub 0x60000000000002022 M) (h : Does M s0 s) :
    Does M s0 t := by
  revert e
  unfold execAnResolved
  repeat' (first
    | with_reducible assumption
    | (intro e; with_reducible injection e with e; subst e)
    | with_reducible refine State.enterTrain_does (Sub.trans (by decide) hM) ?_
    | with_reducible refine Does.ite ?_ ?_
    | split)

theorem execDownDebounceExpire_does {M : Nat} {s0 s : State} {x0} {t : State} (e : execDownDebounceExpire x0 s = .next t) (hM : Sub 0x1000007c000000001044001600000006d178e066 M) (h : Does M s0 s) :
    Does M s0 t := by
  revert e
  unfold execDownDebounceExpire
  repeat' (first
    | with_reducible assumption
    | (intro e; with_reducible injection e with e; subst e)
    | with_reducible refine State.enterAn_does (Sub.trans (by decide) hM) ?_
    | with_reducible refine State.linkDown_does (Sub.trans (by decide) hM) ?_
    | with_reducible refine State.pruneFlush_does (Sub.trans (by decide) hM) ?_
    | with_reducible refine Does.ite ?_ ?_)

theorem execEightArrangeWrite_does {M : Nat} {s0 s : State} {x0} {x1} {x2} {t : State} (e : execEightArrangeWrite x0 x1 x2 s = .next t) (hM : Sub 0x1040007c000000001044001e00000006d178e066 M) (h : Does M s0 s) :
    Does M s0 t := by
  revert e
  unfold execEightArrangeWrite
  repeat' (first
    | with_reducible assumption
    | (intro _ _ _ _)
    | (intro e; with_reducible injection e with e; subst e)
    | with_reducible refine State.accessKind_does (Sub.trans (by decide) hM) ?_ ?_
    | with_reducible refine State.arrangeWrite_does (Sub.trans (by decide) hM) (Sub.kind (k := .eight) (by with_reducible assumption) (by decide) hM) (Sub.kindH (k := .eight) (by with_reducible assumption) (by decide) hM) ?_)

theorem execEightPairRateWrite_does {M : Nat} {s0 s : State} {x0} {x1} {x2} {t : State} (e : execEightPairRateWrite x0 x1 x2 s = .next t) (hM : Sub 0x1040007c000000001044001e00000006d178e066 M) (h : Does M s0 s) :
    Does M s0 t := by
  revert e
  unfold execEightPairRateWrite
  repeat' (first
    | with_reducible assumption
    | (intro _ _ _ _)
    | (intro e; with_reducible injection e with e; subst e)
    | with_reducible refine State.accessKind_does (Sub.trans (by decide) hM) ?_ ?_
    | with_reducible refine State.arrangeWrite_does (Sub.trans (by decide) hM) (Sub.kind (k := .eight) (by with_reducible assumption) (by decide) hM) (Sub.kindH (k := .eight) (by with_reducible assumption) (by decide) hM) ?_)

theorem execHoldFaultTimeout_does {M : Nat} {s0 s : State} {x0} {t : State} (e : execHoldFaultTimeout x0 s = .next t) (hM : Sub 0x7c00000000004000060000000000006022 M) (h : Does M s0 s) :
    Does M s0 t := by
  revert e
  unfold execHoldFaultTimeout
  repeat' (first
    | with_reducible assumption
    | (intro e; with_reducible injection e with e; subst e)
    | with_reducible refine State.enterAn_does (Sub.trans (by decide) hM) ?_
    | with_reducible refine Does.ite ?_ ?_)

theorem execLaneRxLimitWrite_does {M : Nat} {s0 s : State} {x0} {x1} {x2} {t : State} (e : execLaneRxLimitWrite x0 x1 x2 s = .next t) (hM : Sub 0x7ffff007e00000000004000020000000001000022 M) (h : Does M s0 s) :
    Does M s0 t := by
  revert e
  unfold execLaneRxLimitWrite
  repeat' (first
    | with_reducible assumption
    | (intro _ _ _ _ _)
    | (intro e; with_reducible injection e with e; subst e)
    | with_reducible refine State.accessLocked_does (Sub.trans (by decide) hM) ?_ ?_
    | with_reducible refine State.rxLimit_does (Sub.trans (by decide) hM) (Sub.kind (k := .lane) (by with_reducible assumption) (by decide) hM) (Sub.kindH (k := .lane) (by with_reducible assumption) (by decide) hM) ?_)

theorem execLinkDownClear_does {M : Nat} {s0 s : State} {x0} {x1} {x2} {t : State} (e : execLinkDownClear x0 x1 x2 s = .next t) (hM : Sub 0x7c00000000004000060000000000006062 M) (h : Does M s0 s) :
    Does M s0 t := by
  revert e
  unfold execLinkDownClear
  repeat' (first
    | with_reducible assumption
    | (intro e; with_reducible injection e with e; subst e)
    | (extract_lets +onlyGivenNames x; refine Does.cut x ?_ ?_; rotate_left; (intro hx; clear_value x; revert x; intro _ _); rotate_left; (unfold x; clear x))
    | with_reducible refine State.causesChanged_does (Sub.trans (by decide) hM) ?_
    | with_reducible refine State.codewords_does (Sub.trans (by decide) hM) ?_
    | with_reducible refine State.setCauses_does (Sub.trans (by decide) hM) ?_
    | with_reducible refine Does.ite ?_ ?_)

theorem execLinkDownDetect_does {M : Nat} {s0 s : State} {x0} {x1} {x2} {t : State} (e : execLinkDownDetect x0 x1 x2 s = .next t) (hM : Sub 0x7c00000000004000060000000000006062 M) (h : Does M s0 s) :
    Does M s0 t := by
  revert e
  unfold execLinkDownDetect
  repeat' (first
    | with_reducible assumption
    | (intro e; with_reducible injection e with e; subst e)
    | (extract_lets +onlyGivenNames x; refine Does.cut x ?_ ?_; rotate_left; (intro hx; clear_value x; revert x; intro _ _); rotate_left; (unfold x; clear x))
    | with_reducible refine State.causesChanged_does (Sub.trans (by decide) hM) ?_
    | with_reducible refine State.codewords_does (Sub.trans (by decide) hM) ?_
    | with_reducible refine State.rfaultCheck_does (Sub.trans (by decide) hM) ?_
    | with_reducible refine State.setCauses_does (Sub.trans (by decide) hM) ?_
    | with_reducible refine Does.ite ?_ ?_)

theorem execPortDisable_does {M : Nat} {s0 s : State} {x0} {x1} {x2} {t : State} (e : execPortDisable x0 x1 x2 s = .next t) (hM : Sub 0x7ffff007e000000001044001600000026d178e066 M) (h : Does M s0 s) :
    Does M s0 t := by
  revert e
  unfold execPortDisable
  repeat' (first
    | with_reducible assumption
    | (intro e; with_reducible injection e with e; subst e)
    | with_reducible refine State.portEnableWrite_does (Sub.trans (by decide) hM) ?_)

theorem execPortEnable_does {M : Nat} {s0 s : State} {x0} {x1} {x2} {t : State} (e : execPortEnable x0 x1 x2 s = .next t) (hM : Sub 0x7ffff007e000000001044001600000026d178e066 M) (h : Does M s0 s) :
    Does M s0 t := by
  revert e
  unfold execPortEnable
  repeat' (first
    | with_reducible assumption
    | (intro e; with_reducible injection e with e; subst e)
    | with_reducible refine State.portEnableWrite_does (Sub.trans (by decide) hM) ?_)

theorem execRefclkLaneLoss_does {M : Nat} {s0 s : State} {x0} {x1} {t : State} (e : execRefclkLaneLoss x0 x1 s = .next t) (hM : Sub 0x7c0000000000400006000000000000602a M) (h : Does M s0 s) :
    Does M s0 t := by
  revert e
  unfold execRefclkLaneLoss
  repeat' (first
    | with_reducible assumption
    | (intro _ _ _)
    | (intro e; with_reducible injection e with e; subst e)
    | (extract_lets +onlyGivenNames x; revert x; intro _)
    | with_reducible refine State.rfaultCheck_does (Sub.trans (by decide) hM) ?_
    | with_reducible refine Does.fold ?_ ?_
    | split
    | with_reducible refine Does.put_pins (Sub.trans (by decide) hM) ?_)

theorem execRemoteFaultClear_does {M : Nat} {s0 s : State} {x0} {t : State} (e : execRemoteFaultClear x0 s = .next t) (hM : Sub 0x40000000000000020 M) (h : Does M s0 s) :
    Does M s0 t := by
  revert e
  unfold execRemoteFaultClear
  repeat' (first
    | with_reducible assumption
    | (intro e; with_reducible injection e with e; subst e)
    | (extract_lets +onlyGivenNames x; refine Does.cut x ?_ ?_; rotate_left; (intro hx; clear_value x; revert x; intro _ _); rotate_left; (unfold x; clear x))
    | with_reducible refine State.bset_does (Sub.trans (by decide) hM) (Sub.fld (by decide) (Sub.kind (k := .port) rfl (by decide) hM)) ?_
    | with_reducible refine State.setPortState_does (Sub.trans (by decide) hM) ?_
    | with_reducible refine Does.ite ?_ ?_)

theorem execRemoteFaultDebounceExpire_does {M : Nat} {s0 s : State} {x0} {t : State} (e : execRemoteFaultDebounceExpire x0 s = .next t) (hM : Sub 0x1000007c000000001044001600000006d178e066 M) (h : Does M s0 s) :
    Does M s0 t := by
  revert e
  unfold execRemoteFaultDebounceExpire
  repeat' (first
    | with_reducible assumption
    | (intro e; with_reducible injection e with e; subst e)
    | with_reducible refine State.linkDown_does (Sub.trans (by decide) hM) ?_
    | with_reducible refine State.pruneFlush_does (Sub.trans (by decide) hM) ?_
    | with_reducible refine State.raise_does (Sub.trans (by decide) hM) (Sub.kindH (k := .port) rfl (by decide) hM) ?_
    | with_reducible refine State.rfaultCheck_does (Sub.trans (by decide) hM) ?_
    | with_reducible refine State.setPortState_does (Sub.trans (by decide) hM) ?_
    | with_reducible refine Does.ite ?_ ?_)

theorem execRemoteFaultDetect_does {M : Nat} {s0 s : State} {x0} {t : State} (e : execRemoteFaultDetect x0 s = .next t) (hM : Sub 0x40000000000000020 M) (h : Does M s0 s) :
    Does M s0 t := by
  revert e
  unfold execRemoteFaultDetect
  repeat' (first
    | with_reducible assumption
    | (intro e; with_reducible injection e with e; subst e)
    | with_reducible refine State.bset_does (Sub.trans (by decide) hM) (Sub.fld (by decide) (Sub.kind (k := .port) rfl (by decide) hM)) ?_
    | with_reducible refine Does.ite ?_ ?_)

theorem execTrainCoefRequest_does {M : Nat} {s0 s : State} {x0} {x1} {x2} {t : State} (e : execTrainCoefRequest x0 x1 x2 s = .next t) (hM : Sub 0x20000000000000022 M) (h : Does M s0 s) :
    Does M s0 t := by
  revert e
  unfold execTrainCoefRequest
  repeat' (first
    | with_reducible assumption
    | (intro e; with_reducible injection e with e; subst e)
    | with_reducible refine State.emit_does (Sub.trans (by decide) hM) ?_
    | with_reducible refine State.setReg_does (Sub.trans (by decide) hM) (Sub.off (by decide) (Sub.kind (k := .lane) rfl (by decide) hM)) ?_
    | with_reducible refine Does.ite ?_ ?_
    | split)

theorem execTrainComplete_does {M : Nat} {s0 s : State} {x0} {x1} {t : State} (e : execTrainComplete x0 x1 s = .next t) (hM : Sub 0x60000002000004024 M) (h : Does M s0 s) :
    Does M s0 t := by
  revert e
  unfold execTrainComplete
  repeat' (first
    | with_reducible assumption
    | (intro _ _ _)
    | (intro e; with_reducible injection e with e; subst e)
    | (extract_lets +onlyGivenNames x; revert x; intro _)
    | with_reducible refine State.draw_does rfl (Sub.trans (by decide) hM) ?_
    | with_reducible refine State.fset_does (Sub.trans (by decide) hM) (Sub.fld (by decide) (Sub.kind (k := .lane) rfl (by decide) hM)) ?_
    | with_reducible refine State.setLanes_does (Sub.trans (by decide) hM) ?_
    | with_reducible refine State.setLink_does (Sub.trans (by decide) hM) ?_
    | with_reducible refine State.setPortState_does (Sub.trans (by decide) hM) ?_
    | with_reducible refine State.wakeCause_does (Sub.trans (by decide) hM) ?_
    | with_reducible refine Does.fold ?_ ?_
    | with_reducible refine Does.ite ?_ ?_)

theorem execTrainTimeout_does {M : Nat} {s0 s : State} {x0} {t : State} (e : execTrainTimeout x0 s = .next t) (hM : Sub 0x7c00000000004000060000000000006022 M) (h : Does M s0 s) :
    Does M s0 t := by
  revert e
  unfold execTrainTimeout
  repeat' (first
    | with_reducible assumption
    | (intro e; with_reducible injection e with e; subst e)
    | with_reducible refine State.enterAn_does (Sub.trans (by decide) hM) ?_
    | with_reducible refine State.raise_does (Sub.trans (by decide) hM) (Sub.kindH (k := .port) rfl (by decide) hM) ?_
    | with_reducible refine Does.ite ?_ ?_)

theorem execUpHoldoffExpire_does {M : Nat} {s0 s : State} {x0} {t : State} (e : execUpHoldoffExpire x0 s = .next t) (hM : Sub 0x7c00000000004000040000000001404066 M) (h : Does M s0 s) :
    Does M s0 t := by
  revert e
  unfold execUpHoldoffExpire
  repeat' (first
    | with_reducible assumption
    | (intro e; with_reducible injection e with e; subst e)
    | with_reducible refine State.enterUp_does (Sub.trans (by decide) hM) ?_
    | with_reducible refine Does.ite ?_ ?_)

end Sys2Proof.Machine
end

