-- ==== Sys2Proof/Laws/Power.lean ====
section
/-!
SUPPORT. What each operation of Machine/Power.lean can change, and that it takes nothing back.
-/
namespace Sys2Proof.Machine

theorem State.notice_does {M : Nat} {s0 s : State} {x1} {x2} {x3} (hM : Sub 0x40000000000002200180040 M) (h : Does M s0 s) :
    Does M s0 (State.notice s x1 x2 x3) := by
  unfold State.notice
  repeat' (first
    | with_reducible assumption
    | (intro _ _ _)
    | (extract_lets +onlyGivenNames x; refine Does.cut x ?_ ?_; rotate_left; (intro hx; clear_value x; revert x; intro _ _); rotate_left; (unfold x; clear x))
    | (extract_lets +onlyGivenNames x; revert x; intro _)
    | with_reducible refine State.cadd_does (Sub.trans (by decide) hM) (Sub.fld (by decide) (Sub.kind (k := .cox) rfl (by decide) hM)) ?_
    | with_reducible refine State.sendStream_does (Sub.trans (by decide) hM) ?_
    | with_reducible refine State.setCox_does (Sub.trans (by decide) hM) ?_
    | with_reducible refine Does.fold ?_ ?_
    | with_reducible refine Does.ite ?_ ?_)

theorem State.closeEpisode_does {M : Nat} {s0 s : State} {x1} {x2} (hM : Sub 0x400007c00000000044000000000002200180062 M) (h : Does M s0 s) :
    Does M s0 (State.closeEpisode s x1 x2) := by
  unfold State.closeEpisode
  repeat' (first
    | with_reducible assumption
    | (extract_lets +onlyGivenNames x; refine Does.cut x ?_ ?_; rotate_left; (intro hx; clear_value x; revert x; intro _ _); rotate_left; (unfold x; clear x))
    | (extract_lets +onlyGivenNames x; revert x; intro _)
    | with_reducible refine State.cadd_does (Sub.trans (by decide) hM) (Sub.fld (by decide) (Sub.kind (k := .cox) rfl (by decide) hM)) ?_
    | with_reducible refine State.fset_does (Sub.trans (by decide) hM) (Sub.fld (by decide) (Sub.kind (k := .cox) rfl (by decide) hM)) ?_
    | with_reducible refine State.notice_does (Sub.trans (by decide) hM) ?_
    | with_reducible refine State.raise_does (Sub.trans (by decide) hM) (Sub.kindH (k := .cox) rfl (by decide) hM) ?_
    | with_reducible refine State.setCox_does (Sub.trans (by decide) hM) ?_
    | with_reducible refine Does.ite ?_ ?_)

theorem State.openEpisode_does {M : Nat} {s0 s : State} {x1} {x2} (hM : Sub 0x400007c00000000044000000000002200180062 M) (h : Does M s0 s) :
    Does M s0 (State.openEpisode s x1 x2) := by
  unfold State.openEpisode
  repeat' (first
    | with_reducible assumption
    | (extract_lets +onlyGivenNames x; refine Does.cut x ?_ ?_; rotate_left; (intro hx; clear_value x; revert x; intro _ _); rotate_left; (unfold x; clear x))
    | (extract_lets +onlyGivenNames x; revert x; intro _)
    | with_reducible refine State.fset_does (Sub.trans (by decide) hM) (Sub.fld (by decide) (Sub.kind (k := .cox) rfl (by decide) hM)) ?_
    | with_reducible refine State.notice_does (Sub.trans (by decide) hM) ?_
    | with_reducible refine State.raise_does (Sub.trans (by decide) hM) (Sub.kindH (k := .cox) rfl (by decide) hM) ?_
    | with_reducible refine State.setCox_does (Sub.trans (by decide) hM) ?_)

theorem State.episodeOf_does {M : Nat} {s0 s : State} {x1} {x2} (hM : Sub 0x400007c00000000044000000000002200180062 M) (h : Does M s0 s) :
    Does M s0 (State.episodeOf s x1 x2) := by
  unfold State.episodeOf
  repeat' (first
    | with_reducible assumption
    | (extract_lets +onlyGivenNames x; revert x; intro _)
    | with_reducible refine State.closeEpisode_does (Sub.trans (by decide) hM) ?_
    | with_reducible refine State.openEpisode_does (Sub.trans (by decide) hM) ?_
    | with_reducible refine State.setCox_does (Sub.trans (by decide) hM) ?_
    | with_reducible refine Does.ite ?_ ?_
    | split)

theorem State.episodes_does {M : Nat} {s0 s : State} {x1} (hM : Sub 0x400007c00000000044000000000002200180062 M) (h : Does M s0 s) :
    Does M s0 (State.episodes s x1) := by
  unfold State.episodes
  repeat' (first
    | with_reducible assumption
    | (intro _ _ _)
    | with_reducible refine State.episodeOf_does (Sub.trans (by decide) hM) ?_
    | with_reducible refine Does.fold ?_ ?_)

theorem State.setDemand_does {M : Nat} {s0 s : State} {x1} {x2} {x3} {x4} (hM : Sub 137438953472 M) (h : Does M s0 s) :
    Does M s0 (State.setDemand s x1 x2 x3 x4) := by
  unfold State.setDemand
  repeat' (first
    | with_reducible assumption
    | (extract_lets +onlyGivenNames x; revert x; intro _)
    | with_reducible refine State.setCox_does (Sub.trans (by decide) hM) ?_)

theorem State.setDemands_does {M : Nat} {s0 s : State} {x1} {x2} {x3} (hM : Sub 137438953472 M) (h : Does M s0 s) :
    Does M s0 (State.setDemands s x1 x2 x3) := by
  unfold State.setDemands
  repeat' (first
    | with_reducible assumption
    | (intro _ _ _)
    | with_reducible refine State.setDemand_does (Sub.trans (by decide) hM) ?_
    | with_reducible refine Does.fold ?_ ?_)

theorem State.arbiterOff_does {M : Nat} {s0 s : State} {x1} (hM : Sub 0x400007c00000000044000000000002200180062 M) (h : Does M s0 s) :
    Does M s0 (State.arbiterOff s x1) := by
  unfold State.arbiterOff
  repeat' (first
    | with_reducible assumption
    | (extract_lets +onlyGivenNames x; refine Does.cut x ?_ ?_; rotate_left; (intro hx; clear_value x; revert x; intro _ _); rotate_left; (unfold x; clear x))
    | (extract_lets +onlyGivenNames x; revert x; intro _)
    | with_reducible refine State.episodes_does (Sub.trans (by decide) hM) ?_
    | with_reducible refine State.setCox_does (Sub.trans (by decide) hM) ?_
    | with_reducible refine State.setDemands_does (Sub.trans (by decide) hM) ?_)

theorem State.setRunning_does {M : Nat} {s0 s : State} {x1} {x2} {x3} (hM : Sub 137438953472 M) (h : Does M s0 s) :
    Does M s0 (State.setRunning s x1 x2 x3) := by
  unfold State.setRunning
  repeat' (first
    | with_reducible assumption
    | (extract_lets +onlyGivenNames x; revert x; intro _)
    | with_reducible refine State.setCox_does (Sub.trans (by decide) hM) ?_)

theorem State.jumpRatings_does {M : Nat} {s0 s : State} {x1} (hM : Sub 137438953472 M) (h : Does M s0 s) :
    Does M s0 (State.jumpRatings s x1) := by
  unfold State.jumpRatings
  repeat' (first
    | with_reducible assumption
    | (intro _ _ _)
    | with_reducible refine State.setRunning_does (Sub.trans (by decide) hM) ?_
    | with_reducible refine Does.fold ?_ ?_
    | with_reducible refine Does.ite ?_ ?_)

theorem State.brakeDie_does {M : Nat} {s0 s : State} {x1} (hM : Sub 0x400007c00000000044000000000002200180062 M) (h : Does M s0 s) :
    Does M s0 (State.brakeDie s x1) := by
  unfold State.brakeDie
  repeat' (first
    | with_reducible assumption
    | (extract_lets +onlyGivenNames x; refine Does.cut x ?_ ?_; rotate_left; (intro hx; clear_value x; revert x; intro _ _); rotate_left; (unfold x; clear x))
    | (extract_lets +onlyGivenNames x; revert x; intro _)
    | with_reducible refine State.bset_does (Sub.trans (by decide) hM) (Sub.fld (by decide) (Sub.kind (k := .cox) rfl (by decide) hM)) ?_
    | with_reducible refine State.episodes_does (Sub.trans (by decide) hM) ?_
    | with_reducible refine State.jumpRatings_does (Sub.trans (by decide) hM) ?_
    | with_reducible refine State.raise_does (Sub.trans (by decide) hM) (Sub.kindH (k := .cox) rfl (by decide) hM) ?_
    | with_reducible refine State.setCox_does (Sub.trans (by decide) hM) ?_
    | with_reducible refine State.setDemands_does (Sub.trans (by decide) hM) ?_
    | with_reducible refine Does.ite ?_ ?_)

theorem State.showAlloc_does {M : Nat} {s0 s : State} {x1} (hM : Sub 0x40000000000000000000020 M) (h : Does M s0 s) :
    Does M s0 (State.showAlloc s x1) := by
  unfold State.showAlloc
  repeat' (first
    | with_reducible assumption
    | (extract_lets +onlyGivenNames x; revert x; intro _)
    | with_reducible refine State.fset_does (Sub.trans (by decide) hM) (Sub.fld (by decide) (Sub.kind (k := .cox) rfl (by decide) hM)) ?_)

theorem State.setBudget_does {M : Nat} {s0 s : State} {x1} {x2} {x3} {x4} (hM : Sub 0x40000000000002000000020 M) (h : Does M s0 s) :
    Does M s0 (State.setBudget s x1 x2 x3 x4) := by
  unfold State.setBudget
  repeat' (first
    | with_reducible assumption
    | (extract_lets +onlyGivenNames x; revert x; intro _)
    | with_reducible refine State.setCox_does (Sub.trans (by decide) hM) ?_
    | with_reducible refine State.showAlloc_does (Sub.trans (by decide) hM) ?_)

theorem State.budgetTaken_does {M : Nat} {s0 s : State} {x1} {x2} {x3} {x4} (hM : Sub 0x400007c00000000044000000000002200180062 M) (h : Does M s0 s) :
    Does M s0 (State.budgetTaken s x1 x2 x3 x4) := by
  unfold State.budgetTaken
  repeat' (first
    | with_reducible assumption
    | (extract_lets +onlyGivenNames x; refine Does.cut x ?_ ?_; rotate_left; (intro hx; clear_value x; revert x; intro _ _); rotate_left; (unfold x; clear x))
    | (extract_lets +onlyGivenNames x; revert x; intro _)
    | with_reducible refine State.episodes_does (Sub.trans (by decide) hM) ?_
    | with_reducible refine State.fset_does (Sub.trans (by decide) hM) (Sub.fld (by decide) (Sub.kind (k := .cox) rfl (by decide) hM)) ?_
    | with_reducible refine State.setBudget_does (Sub.trans (by decide) hM) ?_
    | with_reducible refine State.setCox_does (Sub.trans (by decide) hM) ?_
    | split)

theorem State.budgets_does {M : Nat} {s0 s : State} {x1} {x2} {x3} {r} (e : State.budgets s x1 x2 x3 = r) (hM : Sub 4 M) (h : Does M s0 s) :
    Does M s0 r.2 := by
  subst e
  unfold State.budgets
  repeat' (first
    | with_reducible assumption
    | (extract_lets +onlyGivenNames x; revert x; intro _)
    | with_reducible refine State.draw_does rfl (Sub.trans (by decide) hM) ?_
    | with_reducible refine Does.of2 (by with_reducible assumption) ?_
    | split)

theorem State.calCtrl_does {M : Nat} {s0 s : State} {x1 : Page} {x2} (hM : Sub 137438953504 M) (hB1 : Sub x1.blk M) (h : Does M s0 s) :
    Does M s0 (State.calCtrl s x1 x2) := by
  unfold State.calCtrl
  repeat' (first
    | with_reducible assumption
    | (extract_lets +onlyGivenNames x; refine Does.cut x ?_ ?_; rotate_left; (intro hx; clear_value x; revert x; intro _ _); rotate_left; (unfold x; clear x))
    | (extract_lets +onlyGivenNames x; revert x; intro _)
    | with_reducible refine State.bset_does (Sub.trans (by decide) hM) (Sub.fld (by decide) hB1) ?_
    | with_reducible refine State.putRw_does (Sub.trans (by decide) hM) (Sub.off (by decide) hB1) ?_
    | with_reducible refine State.setCox_does (Sub.trans (by decide) hM) ?_
    | with_reducible refine Does.ite ?_ ?_)

theorem State.coxCap_does {M : Nat} {s0 s : State} {x1 : Page} {x2} (hM : Sub 0x7c00000000004000000000000000000022 M) (hB1 : Sub x1.blk M) (hH1 : Sub x1.hdr M) (h : Does M s0 s) :
    Does M s0 (State.coxCap s x1 x2) := by
  unfold State.coxCap
  repeat' (first
    | with_reducible assumption
    | (extract_lets +onlyGivenNames x; revert x; intro _)
    | with_reducible refine State.errCount_does (Sub.trans (by decide) hM) hH1 ?_
    | with_reducible refine State.putRw_does (Sub.trans (by decide) hM) (Sub.off (by decide) hB1) ?_
    | with_reducible refine Does.ite ?_ ?_)

theorem State.coxCfg_does {M : Nat} {s0 s : State} {x1 : Page} {x2} (hM : Sub 0x400007c00000000044000000000002200180062 M) (hB1 : Sub x1.blk M) (h : Does M s0 s) :
    Does M s0 (State.coxCfg s x1 x2) := by
  unfold State.coxCfg
  repeat' (first
    | with_reducible assumption
    | (extract_lets +onlyGivenNames x; refine Does.cut x ?_ ?_; rotate_left; (intro hx; clear_value x; revert x; intro _ _); rotate_left; (unfold x; clear x))
    | (extract_lets +onlyGivenNames x; revert x; intro _)
    | with_reducible refine State.arbiterOff_does (Sub.trans (by decide) hM) ?_
    | with_reducible refine State.putRw_does (Sub.trans (by decide) hM) (Sub.off (by decide) hB1) ?_
    | with_reducible refine State.setCox_does (Sub.trans (by decide) hM) ?_
    | with_reducible refine Does.ite ?_ ?_)

theorem State.coxSlice_does {M : Nat} {s0 s : State} {x1 : Page} {x2} {x3} (hM : Sub 0x400007c00000000044000000000002200180062 M) (hB1 : Sub x1.blk M) (hH1 : Sub x1.hdr M) (h : Does M s0 s) :
    Does M s0 (State.coxSlice s x1 x2 x3) := by
  unfold State.coxSlice
  repeat' (first
    | with_reducible assumption
    | (extract_lets +onlyGivenNames x; revert x; intro _)
    | with_reducible refine State.episodes_does (Sub.trans (by decide) hM) ?_
    | with_reducible refine State.errCount_does (Sub.trans (by decide) hM) hH1 ?_
    | with_reducible refine State.putRw_does (Sub.trans (by decide) hM) (Sub.off (Fld.le_at (by decide)) hB1) ?_
    | with_reducible refine Does.ite ?_ ?_)

theorem State.epochDie_does {M : Nat} {s0 s : State} {x1} {x2} (hM : Sub 0x400007c00000000044000000000002040000062 M) (h : Does M s0 s) :
    Does M s0 (State.epochDie s x1 x2) := by
  unfold State.epochDie
  repeat' (first
    | with_reducible assumption
    | (intro _ _ _)
    | (extract_lets +onlyGivenNames x; refine Does.cut x ?_ ?_; rotate_left; (intro hx; clear_value x; revert x; intro _ _); rotate_left; (unfold x; clear x))
    | (extract_lets +onlyGivenNames x; revert x; intro _)
    | with_reducible refine State.attribute_does (Sub.trans (by decide) hM) ?_
    | with_reducible refine State.bset_does (Sub.trans (by decide) hM) (Sub.fld (by decide) (Sub.kind (k := .cox) rfl (by decide) hM)) ?_
    | with_reducible refine State.cadd_does (Sub.trans (by decide) hM) (Sub.fld (by decide) (Sub.kind (k := .cox) rfl (by decide) hM)) ?_
    | with_reducible refine State.cset_does (Sub.trans (by decide) hM) (Sub.fld (by decide) (Sub.kind (k := .cox) rfl (by decide) hM)) ?_
    | with_reducible refine State.fset_does (Sub.trans (by decide) hM) (Sub.fld (by decide) (Sub.kind (k := .cox) rfl (by decide) hM)) ?_
    | with_reducible refine State.raise_does (Sub.trans (by decide) hM) (Sub.kindH (k := .cox) rfl (by decide) hM) ?_
    | with_reducible refine State.setCox_does (Sub.trans (by decide) hM) ?_
    | with_reducible refine Does.fold ?_ ?_
    | with_reducible refine Does.ite ?_ ?_
    | split)

theorem State.epochKeep_does {M : Nat} {s0 s : State} {x1} {x2} (hM : Sub 137455730688 M) (h : Does M s0 s) :
    Does M s0 (State.epochKeep s x1 x2) := by
  unfold State.epochKeep
  repeat' (first
    | with_reducible assumption
    | (extract_lets +onlyGivenNames x; refine Does.cut x ?_ ?_; rotate_left; (intro hx; clear_value x; revert x; intro _ _); rotate_left; (unfold x; clear x))
    | (extract_lets +onlyGivenNames x; revert x; intro _)
    | with_reducible refine State.sendCtrl_does (Sub.trans (by decide) hM) ?_
    | with_reducible refine State.setCox_does (Sub.trans (by decide) hM) ?_
    | with_reducible refine Does.ite ?_ ?_)

theorem State.learnPhase_does {M : Nat} {s0 s : State} {x1} {x2} {x3} (hM : Sub 0x40000000000002000000020 M) (h : Does M s0 s) :
    Does M s0 (State.learnPhase s x1 x2 x3) := by
  unfold State.learnPhase
  repeat' (first
    | with_reducible assumption
    | (extract_lets +onlyGivenNames x; refine Does.cut x ?_ ?_; rotate_left; (intro hx; clear_value x; revert x; intro _ _); rotate_left; (unfold x; clear x))
    | (extract_lets +onlyGivenNames x; revert x; intro _)
    | with_reducible refine State.fset_does (Sub.trans (by decide) hM) (Sub.fld (by decide) (Sub.kind (k := .cox) rfl (by decide) hM)) ?_
    | with_reducible refine State.setCox_does (Sub.trans (by decide) hM) ?_)

theorem State.showPrediction_does {M : Nat} {s0 s : State} {x1} {x2} (hM : Sub 0x40000000000000000000020 M) (h : Does M s0 s) :
    Does M s0 (State.showPrediction s x1 x2) := by
  unfold State.showPrediction
  repeat' (first
    | with_reducible assumption
    | with_reducible refine State.bset_does (Sub.trans (by decide) hM) (Sub.fld (by decide) (Sub.kind (k := .cox) rfl (by decide) hM)) ?_
    | with_reducible refine State.fset_does (Sub.trans (by decide) hM) (Sub.fld (by decide) (Sub.kind (k := .cox) rfl (by decide) hM)) ?_)

theorem State.epochSplit_does {M : Nat} {s0 s : State} {x1} {x2} (hM : Sub 0x40000000000002000000020 M) (h : Does M s0 s) :
    Does M s0 (State.epochSplit s x1 x2) := by
  unfold State.epochSplit
  repeat' (first
    | with_reducible assumption
    | (extract_lets +onlyGivenNames x; refine Does.cut x ?_ ?_; rotate_left; (intro hx; clear_value x; revert x; intro _ _); rotate_left; (unfold x; clear x))
    | (extract_lets +onlyGivenNames x; revert x; intro _)
    | with_reducible refine State.fset_does (Sub.trans (by decide) hM) (Sub.fld (by decide) (Sub.kind (k := .cox) rfl (by decide) hM)) ?_
    | with_reducible refine State.learnPhase_does (Sub.trans (by decide) hM) ?_
    | with_reducible refine State.setBudget_does (Sub.trans (by decide) hM) ?_
    | with_reducible refine State.setCox_does (Sub.trans (by decide) hM) ?_
    | with_reducible refine State.showPrediction_does (Sub.trans (by decide) hM) ?_)

theorem State.epochSummary_does {M : Nat} {s0 s : State} {x1} (hM : Sub 0x400007c00000000044000000000002201180066 M) (h : Does M s0 s) :
    Does M s0 (State.epochSummary s x1) := by
  unfold State.epochSummary
  repeat' (first
    | with_reducible assumption
    | (extract_lets +onlyGivenNames x; refine Does.cut x ?_ ?_; rotate_left; (intro hx; clear_value x; revert x; intro _ _); rotate_left; (unfold x; clear x))
    | (extract_lets +onlyGivenNames x; revert x; intro _)
    | with_reducible refine State.budgetTaken_does (Sub.trans (by decide) hM) ?_
    | with_reducible refine State.budgets_does rfl (Sub.trans (by decide) hM) ?_
    | with_reducible refine State.learnPhase_does (Sub.trans (by decide) hM) ?_
    | with_reducible refine State.sendCtrl_does (Sub.trans (by decide) hM) ?_
    | with_reducible refine State.showPrediction_does (Sub.trans (by decide) hM) ?_
    | split)

theorem State.lowerCompute_does {M : Nat} {s0 s : State} {x1} {x2} (hM : Sub 137438953472 M) (h : Does M s0 s) :
    Does M s0 (State.lowerCompute s x1 x2) := by
  unfold State.lowerCompute
  repeat' (first
    | with_reducible assumption
    | (extract_lets +onlyGivenNames x; revert x; intro _)
    | with_reducible refine State.setCox_does (Sub.trans (by decide) hM) ?_
    | with_reducible refine State.setDemand_does (Sub.trans (by decide) hM) ?_
    | split)

theorem State.raiseCompute_does {M : Nat} {s0 s : State} {x1} (hM : Sub 137438953472 M) (h : Does M s0 s) :
    Does M s0 (State.raiseCompute s x1) := by
  unfold State.raiseCompute
  repeat' (first
    | with_reducible assumption
    | (extract_lets +onlyGivenNames x; refine Does.cut x ?_ ?_; rotate_left; (intro hx; clear_value x; revert x; intro _ _); rotate_left; (unfold x; clear x))
    | (extract_lets +onlyGivenNames x; revert x; intro _)
    | with_reducible refine State.setCox_does (Sub.trans (by decide) hM) ?_
    | with_reducible refine State.setDemand_does (Sub.trans (by decide) hM) ?_
    | with_reducible refine Does.ite ?_ ?_
    | split)

theorem execArbiterSample_does {M : Nat} {s0 s : State} {x0} {x1} {x2} {x3} {t : State} (e : execArbiterSample x0 x1 x2 x3 s = .next t) (hM : Sub 0x400007c00000000044000000000002200180062 M) (h : Does M s0 s) :
    Does M s0 t := by
  revert e
  unfold execArbiterSample State.ifOperates
  repeat' (first
    | with_reducible assumption
    | (intro e; with_reducible injection e with e; subst e)
    | (extract_lets +onlyGivenNames x; refine Does.cut x ?_ ?_; rotate_left; (intro hx; clear_value x; revert x; intro _ _); rotate_left; (unfold x; clear x))
    | (extract_lets +onlyGivenNames x; revert x; intro _)
    | with_reducible refine State.episodes_does (Sub.trans (by decide) hM) ?_
    | with_reducible refine State.lowerCompute_does (Sub.trans (by decide) hM) ?_
    | with_reducible refine State.raiseCompute_does (Sub.trans (by decide) hM) ?_
    | with_reducible refine State.setCox_does (Sub.trans (by decide) hM) ?_
    | with_reducible refine State.showAlloc_does (Sub.trans (by decide) hM) ?_
    | with_reducible refine Does.ite ?_ ?_)

theorem execCoxCalEnd_does {M : Nat} {s0 s : State} {x0} {t : State} (e : execCoxCalEnd x0 s = .next t) (hM : Sub 0x400007c00000000044000000000002000000022 M) (h : Does M s0 s) :
    Does M s0 t := by
  revert e
  unfold execCoxCalEnd State.ifOperates
  repeat' (first
    | with_reducible assumption
    | (intro e; with_reducible injection e with e; subst e)
    | with_reducible refine State.bset_does (Sub.trans (by decide) hM) (Sub.fld (by decide) (Sub.kind (k := .cox) rfl (by decide) hM)) ?_
    | with_reducible refine State.raise_does (Sub.trans (by decide) hM) (Sub.kindH (k := .cox) rfl (by decide) hM) ?_
    | with_reducible refine State.setCox_does (Sub.trans (by decide) hM) ?_
    | with_reducible refine Does.ite ?_ ?_
    | split)

theorem execCoxCalStart_does {M : Nat} {s0 s : State} {x0} {x1} {x2} {t : State} (e : execCoxCalStart x0 x1 x2 s = .next t) (hM : Sub 0x40007c00000000044000000000002001000022 M) (h : Does M s0 s) :
    Does M s0 t := by
  revert e
  unfold execCoxCalStart
  repeat' (first
    | with_reducible assumption
    | (intro _ _ _ _)
    | (intro e; with_reducible injection e with e; subst e)
    | with_reducible refine State.accessKind_does (Sub.trans (by decide) hM) ?_ ?_
    | with_reducible refine State.calCtrl_does (Sub.trans (by decide) hM) (Sub.kind (k := .cox) (by with_reducible assumption) (by decide) hM) ?_)

theorem execCoxCfgWrite_does {M : Nat} {s0 s : State} {x0} {x1} {x2} {x3} {t : State} (e : execCoxCfgWrite x0 x1 x2 x3 s = .next t) (hM : Sub 0x7ffff007e00000000044000000000002201180062 M) (h : Does M s0 s) :
    Does M s0 t := by
  revert e
  unfold execCoxCfgWrite
  repeat' (first
    | with_reducible assumption
    | (intro _ _ _ _ _)
    | (intro _ _ _ _)
    | (intro e; with_reducible injection e with e; subst e)
    | with_reducible refine State.accessKind_does (Sub.trans (by decide) hM) ?_ ?_
    | with_reducible refine State.accessLocked_does (Sub.trans (by decide) hM) ?_ ?_
    | with_reducible refine State.coxCap_does (Sub.trans (by decide) hM) (Sub.kind (k := .cox) (by with_reducible assumption) (by decide) hM) (Sub.kindH (k := .cox) (by with_reducible assumption) (by decide) hM) ?_
    | with_reducible refine State.coxCfg_does (Sub.trans (by decide) hM) (Sub.kind (k := .cox) (by with_reducible assumption) (by decide) hM) ?_
    | with_reducible refine State.coxSlice_does (Sub.trans (by decide) hM) (Sub.kind (k := .cox) (by with_reducible assumption) (by decide) hM) (Sub.kindH (k := .cox) (by with_reducible assumption) (by decide) hM) ?_
    | split)

theorem execCoxPhaseClear_does {M : Nat} {s0 s : State} {x0} {x1} {x2} {t : State} (e : execCoxPhaseClear x0 x1 x2 s = .next t) (hM : Sub 0x440007c00000000044000000000002201180062 M) (h : Does M s0 s) :
    Does M s0 t := by
  revert e
  unfold execCoxPhaseClear
  repeat' (first
    | with_reducible assumption
    | (intro _ _ _ _)
    | (intro e; with_reducible injection e with e; subst e)
    | with_reducible refine State.accessKind_does (Sub.trans (by decide) hM) ?_ ?_
    | with_reducible refine State.coxCfg_does (Sub.trans (by decide) hM) (Sub.kind (k := .cox) (by with_reducible assumption) (by decide) hM) ?_)

theorem execDroopEnd_does {M : Nat} {s0 s : State} {x0} {x1} {t : State} (e : execDroopEnd x0 x1 s = .next t) (hM : Sub 0x4040000000000002000000060 M) (h : Does M s0 s) :
    Does M s0 t := by
  revert e
  unfold execDroopEnd State.ifOperates
  repeat' (first
    | with_reducible assumption
    | (intro e; with_reducible injection e with e; subst e)
    | (extract_lets +onlyGivenNames x; refine Does.cut x ?_ ?_; rotate_left; (intro hx; clear_value x; revert x; intro _ _); rotate_left; (unfold x; clear x))
    | with_reducible refine State.cadd_does (Sub.trans (by decide) hM) (Sub.fld (by decide) (Sub.kind (k := .cox) rfl (by decide) hM)) ?_
    | with_reducible refine State.fset_does (Sub.trans (by decide) hM) (Sub.fld (by decide) (Sub.kind (k := .aon) rfl (by decide) hM)) ?_
    | with_reducible refine State.setCox_does (Sub.trans (by decide) hM) ?_
    | with_reducible refine Does.ite ?_ ?_
    | split)

theorem execDroopRateWindow_does {M : Nat} {s0 s : State} {x0} {t : State} (e : execDroopRateWindow x0 s = .next t) (hM : Sub 0x400007c00000000044000000000002200180062 M) (h : Does M s0 s) :
    Does M s0 t := by
  revert e
  unfold execDroopRateWindow State.ifOperates
  repeat' (first
    | with_reducible assumption
    | (intro e; with_reducible injection e with e; subst e)
    | (extract_lets +onlyGivenNames x; refine Does.cut x ?_ ?_; rotate_left; (intro hx; clear_value x; revert x; intro _ _); rotate_left; (unfold x; clear x))
    | (extract_lets +onlyGivenNames x; revert x; intro _)
    | with_reducible refine State.episodes_does (Sub.trans (by decide) hM) ?_
    | with_reducible refine State.setCox_does (Sub.trans (by decide) hM) ?_
    | with_reducible refine State.setDemands_does (Sub.trans (by decide) hM) ?_
    | with_reducible refine Does.ite ?_ ?_)

theorem execDroopStart_does {M : Nat} {s0 s : State} {x0} {x1} {t : State} (e : execDroopStart x0 x1 s = .next t) (hM : Sub 0x40000007c00000004044000000000002000000062 M) (h : Does M s0 s) :
    Does M s0 t := by
  revert e
  unfold execDroopStart State.ifOperates
  repeat' (first
    | with_reducible assumption
    | (intro e; with_reducible injection e with e; subst e)
    | (extract_lets +onlyGivenNames x; refine Does.cut x ?_ ?_; rotate_left; (intro hx; clear_value x; revert x; intro _ _); rotate_left; (unfold x; clear x))
    | with_reducible refine State.cadd_does (Sub.trans (by decide) hM) (Sub.fld (by decide) (Sub.kind (k := .cox) rfl (by decide) hM)) ?_
    | with_reducible refine State.fset_does (Sub.trans (by decide) hM) (Sub.fld (by decide) (Sub.kind (k := .aon) rfl (by decide) hM)) ?_
    | with_reducible refine State.raise_does (Sub.trans (by decide) hM) (Sub.kindH (k := .aon) rfl (by decide) hM) ?_
    | with_reducible refine State.setCox_does (Sub.trans (by decide) hM) ?_
    | with_reducible refine Does.ite ?_ ?_)

theorem execEpochEnd_does {M : Nat} {s0 s : State} {x0} {t : State} (e : execEpochEnd x0 s = .next t) (hM : Sub 0x400007c00000000044000000000002241180062 M) (h : Does M s0 s) :
    Does M s0 t := by
  revert e
  unfold execEpochEnd
  repeat' (first
    | with_reducible assumption
    | (intro e; with_reducible injection e with e; subst e)
    | (extract_lets +onlyGivenNames x; refine Does.cut x ?_ ?_; rotate_left; (intro hx; clear_value x; revert x; intro _ _); rotate_left; (unfold x; clear x))
    | with_reducible refine State.episodes_does (Sub.trans (by decide) hM) ?_
    | with_reducible refine State.epochDie_does (Sub.trans (by decide) hM) ?_
    | with_reducible refine State.epochKeep_does (Sub.trans (by decide) hM) ?_
    | with_reducible refine State.epochSplit_does (Sub.trans (by decide) hM) ?_
    | with_reducible refine Does.ite ?_ ?_)

theorem execPaddleOnUnmetStep_does {M : Nat} {s0 s : State} {x0} {x1} {t : State} (e : execPaddleOnUnmetStep x0 x1 s = .next t) (hM : Sub 0x1400007c000000001440001000000022c0180062 M) (h : Does M s0 s) :
    Does M s0 t := by
  revert e
  unfold execPaddleOnUnmetStep State.ifOperates
  repeat' (first
    | with_reducible assumption
    | (intro e; with_reducible injection e with e; subst e)
    | with_reducible refine State.enterPaddle_does (Sub.trans (by decide) hM) ?_
    | with_reducible refine State.episodes_does (Sub.trans (by decide) hM) ?_
    | with_reducible refine State.raise_does (Sub.trans (by decide) hM) (Sub.kindH (k := .cox) rfl (by decide) hM) ?_
    | with_reducible refine Does.ite ?_ ?_
    | split)

theorem execPwrBrakeFall_does {M : Nat} {s0 s : State} {t : State} (e : execPwrBrakeFall s = .next t) (hM : Sub 0x400007c0000000004400000000000220018006a M) (h : Does M s0 s) :
    Does M s0 t := by
  unfold execPwrBrakeFall at e
  cases e
  refine Does.ite h (Does.fold ?_ (fun _ _ h => State.brakeDie_does (Sub.trans (by decide) hM) h))
  exact Does.put_pins (Sub.trans (by decide) hM) h

theorem execPwrBrakeRise_does {M : Nat} {s0 s : State} {t : State} (e : execPwrBrakeRise s = .next t) (hM : Sub 0x400007c0000000004400000000000220018006a M) (h : Does M s0 s) :
    Does M s0 t := by
  revert e
  unfold execPwrBrakeRise
  repeat' (first
    | with_reducible assumption
    | (intro _ _ _)
    | (intro e; with_reducible injection e with e; subst e)
    | (extract_lets +onlyGivenNames x; refine Does.cut x ?_ ?_; rotate_left; (intro hx; clear_value x; revert x; intro _ _); rotate_left; (unfold x; clear x))
    | (extract_lets +onlyGivenNames x; revert x; intro _)
    | with_reducible refine State.bset_does (Sub.trans (by decide) hM) (Sub.fld (by decide) (Sub.kind (k := .cox) rfl (by decide) hM)) ?_
    | with_reducible refine State.episodes_does (Sub.trans (by decide) hM) ?_
    | with_reducible refine State.setCox_does (Sub.trans (by decide) hM) ?_
    | with_reducible refine State.setDemands_does (Sub.trans (by decide) hM) ?_
    | with_reducible refine Does.fold ?_ ?_
    | with_reducible refine Does.ite ?_ ?_
    | with_reducible refine Does.put_pins (Sub.trans (by decide) hM) ?_)

theorem execRatingStep_does {M : Nat} {s0 s : State} {x0} {t : State} (e : execRatingStep x0 s = .next t) (hM : Sub 137438953472 M) (h : Does M s0 s) :
    Does M s0 t := by
  revert e
  unfold execRatingStep
  repeat' (first
    | with_reducible assumption
    | (intro e; with_reducible injection e with e; subst e)
    | with_reducible refine State.setRunning_does (Sub.trans (by decide) hM) ?_
    | with_reducible refine Does.ite ?_ ?_)

theorem execSliceAsleep_does {M : Nat} {s0 s : State} {x0} {t : State} (e : execSliceAsleep x0 s = .next t) (hM : Sub 0x40000007c00000004004000000000000000000022 M) (h : Does M s0 s) :
    Does M s0 t := by
  revert e
  unfold execSliceAsleep
  repeat' (first
    | with_reducible assumption
    | (intro e; with_reducible injection e with e; subst e)
    | with_reducible refine State.raise_does (Sub.trans (by decide) hM) (Sub.kindH (k := .aon) rfl (by decide) hM) ?_
    | with_reducible refine State.setSliceState_does (Sub.trans (by decide) hM) ?_
    | with_reducible refine Does.ite ?_ ?_)

theorem execSliceSleepEnter_does {M : Nat} {s0 s : State} {x0} {t : State} (e : execSliceSleepEnter x0 s = .next t) (hM : Sub 0x7c00000004004000000000000000000022 M) (h : Does M s0 s) :
    Does M s0 t := by
  revert e
  unfold execSliceSleepEnter
  repeat' (first
    | with_reducible assumption
    | (intro e; with_reducible injection e with e; subst e)
    | with_reducible refine State.setAsleep_does (Sub.trans (by decide) hM) (Sub.kindH (k := .slice) rfl (by decide) hM) ?_
    | with_reducible refine State.setSliceState_does (Sub.trans (by decide) hM) ?_
    | with_reducible refine Does.ite ?_ ?_)

theorem execSliceWakeDone_does {M : Nat} {s0 s : State} {x0} {t : State} (e : execSliceWakeDone x0 s = .next t) (hM : Sub 0x43002007c000000043557003400000066c37c8066 M) (h : Does M s0 s) :
    Does M s0 t := by
  revert e
  unfold execSliceWakeDone
  repeat' (first
    | with_reducible assumption
    | (intro e; with_reducible injection e with e; subst e)
    | (extract_lets +onlyGivenNames x; refine Does.cut x ?_ ?_; rotate_left; (intro hx; clear_value x; revert x; intro _ _); rotate_left; (unfold x; clear x))
    | with_reducible refine State.raise_does (Sub.trans (by decide) hM) (Sub.kindH (k := .aon) rfl (by decide) hM) ?_
    | with_reducible refine State.setAsleep_does (Sub.trans (by decide) hM) (Sub.kindH (k := .slice) rfl (by decide) hM) ?_
    | with_reducible refine State.setRunning_does (Sub.trans (by decide) hM) ?_
    | with_reducible refine State.setSliceState_does (Sub.trans (by decide) hM) ?_
    | with_reducible refine State.startEvent_does (Sub.trans (by decide) hM) ?_
    | with_reducible refine Does.ite ?_ ?_)

theorem execSliceWakeStart_does {M : Nat} {s0 s : State} {x0} {t : State} (e : execSliceWakeStart x0 s = .next t) (hM : Sub 0x7c00000004004000000000002000000022 M) (h : Does M s0 s) :
    Does M s0 t := by
  revert e
  unfold execSliceWakeStart
  repeat' (first
    | with_reducible assumption
    | (intro e; with_reducible injection e with e; subst e)
    | (extract_lets +onlyGivenNames x; refine Does.cut x ?_ ?_; rotate_left; (intro hx; clear_value x; revert x; intro _ _); rotate_left; (unfold x; clear x))
    | with_reducible refine State.setAsleep_does (Sub.trans (by decide) hM) (Sub.kindH (k := .slice) rfl (by decide) hM) ?_
    | with_reducible refine State.setCox_does (Sub.trans (by decide) hM) ?_
    | with_reducible refine State.setSliceState_does (Sub.trans (by decide) hM) ?_
    | with_reducible refine Does.ite ?_ ?_
    | split)

theorem execThermTrip_does {M : Nat} {s0 s : State} {x0} {x1} {t : State} (e : execThermTrip x0 x1 s = .next t) (hM : Sub 0x40400007c0000000404400000000000220018006a M) (h : Does M s0 s) :
    Does M s0 t := by
  unfold execThermTrip State.ifOperates at e
  cases e
  refine Does.ite (Does.ite h (Does.ite (State.fset_does (Sub.trans (by decide) hM) (Sub.fld (by decide) (Sub.kind (k := .aon) rfl (by decide) hM)) h) ?_)) h
  refine Does.fold ?_ (fun _ _ h => State.episodes_does (Sub.trans (by decide) hM) (State.jumpRatings_does (Sub.trans (by decide) hM) (State.setDemands_does (Sub.trans (by decide) hM) h)))
  refine State.raise_does (Sub.trans (by decide) hM) (Sub.kindH (k := .aon) rfl (by decide) hM) (State.emit_does (Sub.trans (by decide) hM) ?_)
  exact Does.put_pins (Sub.trans (by decide) hM) (State.fset_does (Sub.trans (by decide) hM) (Sub.fld (by decide) (Sub.kind (k := .aon) rfl (by decide) hM)) h)

theorem execThermalStep_does {M : Nat} {s0 s : State} {x0} {x1} {t : State} (e : execThermalStep x0 x1 s = .next t) (hM : Sub 0x40400007c00000004044000000000002200180062 M) (h : Does M s0 s) :
    Does M s0 t := by
  revert e
  unfold execThermalStep State.ifOperates
  repeat' (first
    | with_reducible assumption
    | (intro e; with_reducible injection e with e; subst e)
    | (extract_lets +onlyGivenNames x; refine Does.cut x ?_ ?_; rotate_left; (intro hx; clear_value x; revert x; intro _ _); rotate_left; (unfold x; clear x))
    | (extract_lets +onlyGivenNames x; revert x; intro _)
    | with_reducible refine State.episodes_does (Sub.trans (by decide) hM) ?_
    | with_reducible refine State.fset_does (Sub.trans (by decide) hM) (Sub.fld (by decide) (Sub.kind (k := .aon) rfl (by decide) hM)) ?_
    | with_reducible refine State.raiseIf_does (Sub.trans (by decide) hM) (Sub.kindH (k := .aon) rfl (by decide) hM) ?_
    | with_reducible refine State.setCox_does (Sub.trans (by decide) hM) ?_
    | with_reducible refine State.setDemands_does (Sub.trans (by decide) hM) ?_
    | with_reducible refine Does.ite ?_ ?_)

end Sys2Proof.Machine
end

