-- ==== Sys2Proof/Laws/Rings.lean ====
section
/-!
SUPPORT. What each operation of Machine/Rings.lean can change, and that it takes nothing back.
-/
namespace Sys2Proof.Machine

theorem State.cipherResult_does {M : Nat} {s0 s : State} {x1} {x2} {x3} {x4} (hM : Sub 0x100007c00000000014000200000001400000062 M) (h : Does M s0 s) :
    Does M s0 (State.cipherResult s x1 x2 x3 x4) := by
  unfold State.cipherResult
  repeat' (first
    | with_reducible assumption
    | with_reducible refine State.countMsg_does (Sub.trans (by decide) hM) ?_
    | with_reducible refine State.endMsg_does (Sub.trans (by decide) hM) ?_
    | with_reducible refine State.integrity_does (Sub.trans (by decide) hM) ?_
    | with_reducible refine State.setRing_does (Sub.trans (by decide) hM) ?_
    | with_reducible refine Does.ite ?_ ?_
    | split)

theorem State.doorbellErr_does {M : Nat} {s0 s : State} {x1} {x2} (hM : Sub 0x40007c00000000004000000000001000000022 M) (h : Does M s0 s) :
    Does M s0 (State.doorbellErr s x1 x2) := by
  unfold State.doorbellErr
  repeat' (first
    | with_reducible assumption
    | (extract_lets +onlyGivenNames x; refine Does.cut x ?_ ?_; rotate_left; (intro hx; clear_value x; revert x; intro _ _); rotate_left; (unfold x; clear x))
    | (extract_lets +onlyGivenNames x; revert x; intro _)
    | with_reducible refine State.errCount_does (Sub.trans (by decide) hM) (Sub.kindH (k := .hif) rfl (by decide) hM) ?_
    | with_reducible refine State.raise_does (Sub.trans (by decide) hM) (Sub.kindH (k := .hif) rfl (by decide) hM) ?_
    | with_reducible refine State.setRing_does (Sub.trans (by decide) hM) ?_
    | split)

theorem State.setCqFull_does {M : Nat} {s0 s : State} {x1} {x2} {x3} (hM : Sub 0x40007c00000000004000000000000000000022 M) (h : Does M s0 s) :
    Does M s0 (State.setCqFull s x1 x2 x3) := by
  unfold State.setCqFull
  repeat' (first
    | with_reducible assumption
    | (extract_lets +onlyGivenNames x; revert x; intro _)
    | with_reducible refine State.fset_does (Sub.trans (by decide) hM) (Sub.fld (by decide) (Sub.kind (k := .hif) rfl (by decide) hM)) ?_
    | with_reducible refine State.raiseIf_does (Sub.trans (by decide) hM) (Sub.kindH (k := .hif) rfl (by decide) hM) ?_)

theorem State.cqDoorbell_does {M : Nat} {s0 s : State} {x1} {x2} {x3} (hM : Sub 0x40007c00000000004000000000001000000022 M) (h : Does M s0 s) :
    Does M s0 (State.cqDoorbell s x1 x2 x3) := by
  unfold State.cqDoorbell
  repeat' (first
    | with_reducible assumption
    | (extract_lets +onlyGivenNames x; refine Does.cut x ?_ ?_; rotate_left; (intro hx; clear_value x; revert x; intro _ _); rotate_left; (unfold x; clear x))
    | (extract_lets +onlyGivenNames x; revert x; intro _)
    | with_reducible refine State.doorbellErr_does (Sub.trans (by decide) hM) ?_
    | with_reducible refine State.setCqFull_does (Sub.trans (by decide) hM) ?_
    | with_reducible refine State.setRing_does (Sub.trans (by decide) hM) ?_
    | with_reducible refine Does.ite ?_ ?_)

theorem State.doorbell_does {M : Nat} {s0 s : State} {x1} {x2} {x3} (hM : Sub 0x40007c00000000004000000000001000000022 M) (h : Does M s0 s) :
    Does M s0 (State.doorbell s x1 x2 x3) := by
  unfold State.doorbell
  repeat' (first
    | with_reducible assumption
    | (extract_lets +onlyGivenNames x; refine Does.cut x ?_ ?_; rotate_left; (intro hx; clear_value x; revert x; intro _ _); rotate_left; (unfold x; clear x))
    | (extract_lets +onlyGivenNames x; revert x; intro _)
    | with_reducible refine State.doorbellErr_does (Sub.trans (by decide) hM) ?_
    | with_reducible refine State.setCqFull_does (Sub.trans (by decide) hM) ?_
    | with_reducible refine State.setRing_does (Sub.trans (by decide) hM) ?_
    | with_reducible refine Does.ite ?_ ?_)

theorem State.endServe_does {M : Nat} {s0 s : State} {x1} {x2} {x3} {x4} {x5} {x6} (hM : Sub 68719476736 M) (h : Does M s0 s) :
    Does M s0 (State.endServe s x1 x2 x3 x4 x5 x6) := by
  unfold State.endServe
  repeat' (first
    | with_reducible assumption
    | (extract_lets +onlyGivenNames x; revert x; intro _)
    | with_reducible refine State.setRing_does (Sub.trans (by decide) hM) ?_
    | with_reducible refine Does.ite ?_ ?_)

theorem State.inject_does {M : Nat} {s0 s : State} {x1} {x2} {r} (e : State.inject s x1 x2 = some r) (hM : Sub 0x1000007c000000001054001400000002c1180062 M) (h : Does M s0 s) :
    Does M s0 r.2 := by
  unfold State.inject at e
  extract_lets w0 port q at e
  have hq : Does M s0 q.2 := State.newFrm_does rfl (Sub.trans (by decide) hM) h
  clear_value q
  cases hr : q.2.route x1 q.1 with
  | none => rw [hr] at e; cases e
  | some t => rw [hr] at e; injection e with e; subst e; exact State.route_does hr (Sub.trans (by decide) hM) hq

theorem State.finishFrame_does {M : Nat} {s0 s : State} {x1} {x2} (hM : Sub 0x1000007c000000001054001400000012c1180062 M) (h : Does M s0 s) :
    Does M s0 (State.finishFrame s x1 x2) := by
  unfold State.finishFrame
  repeat' (first
    | with_reducible assumption
    | (extract_lets +onlyGivenNames x; refine Does.cut x ?_ ?_; rotate_left; (intro hx; clear_value x; revert x; intro _ _); rotate_left; (unfold x; clear x))
    | (extract_lets +onlyGivenNames x; revert x; intro _)
    | with_reducible refine State.cadd_does (Sub.trans (by decide) hM) (Sub.fld (by decide) (Sub.kind (k := .hif) rfl (by decide) hM)) ?_
    | with_reducible refine State.endServe_does (Sub.trans (by decide) hM) ?_
    | with_reducible refine State.inject_does (r := (_, _)) (by with_reducible assumption) (Sub.trans (by decide) hM) ?_
    | with_reducible refine State.setRing_does (Sub.trans (by decide) hM) ?_
    | with_reducible refine Does.ite ?_ ?_
    | split)

theorem State.hbqMap_does {M : Nat} {s0 s : State} {x1 : Page} {x2} {x3} (hM : Sub 0x7c00000000004000000000000000000022 M) (hB1 : Sub x1.blk M) (hH1 : Sub x1.hdr M) (h : Does M s0 s) :
    Does M s0 (State.hbqMap s x1 x2 x3) := by
  unfold State.hbqMap
  repeat' (first
    | with_reducible assumption
    | (extract_lets +onlyGivenNames x; revert x; intro _)
    | with_reducible refine State.errCount_does (Sub.trans (by decide) hM) hH1 ?_
    | with_reducible refine State.putRw_does (Sub.trans (by decide) hM) (Sub.off (Fld.le_at (by decide)) hB1) ?_
    | with_reducible refine Does.ite ?_ ?_)

theorem State.hqEnable_does {M : Nat} {s0 s : State} {x1} {x2} {x3} (hM : Sub 0x4000000000001000000020 M) (h : Does M s0 s) :
    Does M s0 (State.hqEnable s x1 x2 x3) := by
  unfold State.hqEnable
  repeat' (first
    | with_reducible assumption
    | (intro _ _ _)
    | (extract_lets +onlyGivenNames x; refine Does.cut x ?_ ?_; rotate_left; (intro hx; clear_value x; revert x; intro _ _); rotate_left; (unfold x; clear x))
    | (extract_lets +onlyGivenNames x; revert x; intro _)
    | with_reducible refine State.fset_does (Sub.trans (by decide) hM) (Sub.fld (by decide) (Sub.kind (k := .hif) rfl (by decide) hM)) ?_
    | with_reducible refine State.setRing_does (Sub.trans (by decide) hM) ?_
    | with_reducible refine Does.fold ?_ ?_
    | with_reducible refine Does.ite ?_ ?_)

theorem State.readSpan_does {M : Nat} {s0 s : State} {x1} {x2} {r} (e : State.readSpan s x1 x2 = r) (hM : Sub 0x8007c00000000004800100000000000000062 M) (h : Does M s0 s) :
    Does M s0 r.2 := by
  subst e
  unfold State.readSpan
  repeat' (first
    | with_reducible assumption
    | (intro _ _ _)
    | (extract_lets +onlyGivenNames x; refine Does.cut x ?_ ?_; rotate_left; (intro hx; clear_value x; revert x; intro _ _); rotate_left; (unfold x; clear x))
    | (extract_lets +onlyGivenNames x; revert x; intro _)
    | with_reducible refine State.pmcEvent_does (Sub.trans (by decide) hM) (Sub.kind (k := .slice) rfl (by decide) hM) ?_
    | with_reducible refine State.qdrReport_does (Sub.trans (by decide) hM) ?_
    | with_reducible refine Does.fold ?_ ?_
    | with_reducible refine Does.fold2 rfl ?_ ?_
    | split)

theorem State.ringMsg_does {M : Nat} {s0 s : State} {x1} {x2} (hM : Sub 0x4000000000001000000022 M) (h : Does M s0 s) :
    Does M s0 (State.ringMsg s x1 x2) := by
  unfold State.ringMsg
  repeat' (first
    | with_reducible assumption
    | (extract_lets +onlyGivenNames x; revert x; intro _)
    | with_reducible refine State.sendVector_does (Sub.trans (by decide) hM) ?_
    | with_reducible refine State.setRing_does (Sub.trans (by decide) hM) ?_
    | with_reducible refine Does.ite ?_ ?_)

theorem State.ringReg_does {M : Nat} {s0 s : State} {x1} {x2} {x3} (hM : Sub 0x40007c00000000004000000000001000000022 M) (h : Does M s0 s) :
    Does M s0 (State.ringReg s x1 x2 x3) := by
  unfold State.ringReg
  repeat' (first
    | with_reducible assumption
    | (extract_lets +onlyGivenNames x; revert x; intro _)
    | with_reducible refine State.errCount_does (Sub.trans (by decide) hM) (Sub.kindH (k := .hif) rfl (by decide) hM) ?_
    | with_reducible refine State.setRing_does (Sub.trans (by decide) hM) ?_
    | with_reducible refine Does.ite ?_ ?_)

theorem State.serve_does {M : Nat} {s0 s : State} {x1} {x2} {x3} {x4} {x5} (hM : Sub 68719476736 M) (h : Does M s0 s) :
    Does M s0 (State.serve s x1 x2 x3 x4 x5) := by
  unfold State.serve
  repeat' (first
    | with_reducible assumption
    | (extract_lets +onlyGivenNames x; revert x; intro _)
    | with_reducible refine State.setRing_does (Sub.trans (by decide) hM) ?_)

theorem State.startCipher_does {M : Nat} {s0 s : State} {x1} {x2} {x3} {x4} (hM : Sub 68719476736 M) (h : Does M s0 s) :
    Does M s0 (State.startCipher s x1 x2 x3 x4) := by
  unfold State.startCipher
  repeat' (first
    | with_reducible assumption
    | (extract_lets +onlyGivenNames x; revert x; intro _)
    | with_reducible refine State.endServe_does (Sub.trans (by decide) hM) ?_
    | with_reducible refine State.serve_does (Sub.trans (by decide) hM) ?_
    | with_reducible refine Does.ite ?_ ?_)

theorem State.startDesc_does {M : Nat} {s0 s : State} {x1} {x2} {x3} {x4 : ℕ → BitVec 512 → State → State} (hM : Sub 0x40007c00000000004000000000001000000022 M) (h : Does M s0 s) (hf4 : ∀ a0 a1 s, Does M s0 s → Does M s0 (x4 a0 a1 s)) :
    Does M s0 (State.startDesc s x1 x2 x3 x4) := by
  unfold State.startDesc
  repeat' (first
    | with_reducible assumption
    | (with_reducible refine hf4 _ _ _ ?_)
    | (extract_lets +onlyGivenNames x; refine Does.cut x ?_ ?_; rotate_left; (intro hx; clear_value x; revert x; intro _ _); rotate_left; (unfold x; clear x))
    | (extract_lets +onlyGivenNames x; revert x; intro _)
    | with_reducible refine State.endServe_does (Sub.trans (by decide) hM) ?_
    | (intro e; with_reducible refine State.readTurn_does e (Sub.trans (by decide) hM) ?_)
    | with_reducible refine Does.ofIf (by with_reducible assumption) ?_ ?_
    | (intro e; with_reducible injection e with e; subst e)
    | with_reducible refine State.setCqFull_does (Sub.trans (by decide) hM) ?_
    | with_reducible refine State.setRing_does (Sub.trans (by decide) hM) ?_
    | with_reducible refine Does.ite ?_ ?_
    | split)

theorem State.startFrame_does {M : Nat} {s0 s : State} {x1} {x2} {x3} {x4} (hM : Sub 68719476736 M) (h : Does M s0 s) :
    Does M s0 (State.startFrame s x1 x2 x3 x4) := by
  unfold State.startFrame
  repeat' (first
    | with_reducible assumption
    | (extract_lets +onlyGivenNames x; revert x; intro _)
    | with_reducible refine State.endServe_does (Sub.trans (by decide) hM) ?_
    | with_reducible refine State.serve_does (Sub.trans (by decide) hM) ?_
    | with_reducible refine Does.ite ?_ ?_)

theorem State.startTableRead_does {M : Nat} {s0 s : State} {x1} {x2} {x3} {x4} {x5} (hM : Sub 0x8007c00000000004800100000001000000062 M) (h : Does M s0 s) :
    Does M s0 (State.startTableRead s x1 x2 x3 x4 x5) := by
  unfold State.startTableRead
  repeat' (first
    | with_reducible assumption
    | with_reducible refine State.endServe_does (Sub.trans (by decide) hM) ?_
    | with_reducible refine State.readSpan_does rfl (Sub.trans (by decide) hM) ?_
    | with_reducible refine State.setRing_does (Sub.trans (by decide) hM) ?_
    | split)

theorem State.startTableWrite_does {M : Nat} {s0 s : State} {x1} {x2} {x3} {x4} (hM : Sub 68719476736 M) (h : Does M s0 s) :
    Does M s0 (State.startTableWrite s x1 x2 x3 x4) := by
  unfold State.startTableWrite
  repeat' (first
    | with_reducible assumption
    | with_reducible refine State.endServe_does (Sub.trans (by decide) hM) ?_
    | with_reducible refine State.serve_does (Sub.trans (by decide) hM) ?_
    | with_reducible refine Does.ite ?_ ?_
    | split)

theorem State.submitCipher_does {M : Nat} {s0 s : State} {x1} {x2} (hM : Sub 0x10000000000001400000040 M) (h : Does M s0 s) :
    Does M s0 (State.submitCipher s x1 x2) := by
  unfold State.submitCipher
  repeat' (first
    | with_reducible assumption
    | (extract_lets +onlyGivenNames x; revert x; intro _)
    | with_reducible refine State.setRing_does (Sub.trans (by decide) hM) ?_
    | with_reducible refine State.submitMsg_does (Sub.trans (by decide) hM) ?_
    | split)

theorem State.vectorControl_does {M : Nat} {s0 s : State} {x1} {x2} {x3} (hM : Sub 0x40000000000000004000000000000000000022 M) (h : Does M s0 s) :
    Does M s0 (State.vectorControl s x1 x2 x3) := by
  unfold State.vectorControl
  repeat' (first
    | with_reducible assumption
    | (extract_lets +onlyGivenNames x; refine Does.cut x ?_ ?_; rotate_left; (intro hx; clear_value x; revert x; intro _ _); rotate_left; (unfold x; clear x))
    | (extract_lets +onlyGivenNames x; revert x; intro _)
    | with_reducible refine State.sendVector_does (Sub.trans (by decide) hM) ?_
    | with_reducible refine State.setPending_does (Sub.trans (by decide) hM) ?_
    | with_reducible refine State.setReg_does (Sub.trans (by decide) hM) (Sub.offB (Sub.kind (k := .hif) rfl (by decide) hM) (Sub.kindH (k := .hif) rfl (by decide) hM)) ?_
    | with_reducible refine Does.ite ?_ ?_)

theorem State.writeSpan_does {M : Nat} {s0 s : State} {x1} {x2} {x3} (hM : Sub 0x100000000000018040 M) (h : Does M s0 s) :
    Does M s0 (State.writeSpan s x1 x2 x3) := by
  unfold State.writeSpan
  repeat' (first
    | with_reducible assumption
    | (intro _ _ _)
    | with_reducible refine State.pmcEvent_does (Sub.trans (by decide) hM) (Sub.kind (k := .slice) rfl (by decide) hM) ?_
    | with_reducible refine State.setQdr_does (Sub.trans (by decide) hM) ?_
    | with_reducible refine State.tableWrite_does (Sub.trans (by decide) hM) ?_
    | with_reducible refine Does.fold ?_ ?_
    | with_reducible refine Does.ite ?_ ?_)

theorem State.writeArrived_does {M : Nat} {s0 s : State} {x1} {x2} {x3} {x4} {r} (e : State.writeArrived s x1 x2 x3 x4 = r) (hM : Sub 0x100000000000018040 M) (h : Does M s0 s) :
    Does M s0 r.2 := by
  induction x3 generalizing s r x1 x2 x4 with
  | zero =>
    subst e; unfold State.writeArrived
    repeat' (first
      | with_reducible assumption)
  | succ _ ih =>
    subst e; unfold State.writeArrived
    repeat' (first
      | with_reducible assumption
      | (extract_lets +onlyGivenNames x; revert x; intro _)
      | with_reducible refine ih rfl ?_
      | with_reducible refine State.writeSpan_does (Sub.trans (by decide) hM) ?_
      | split)

theorem State.writeCompl_does {M : Nat} {s0 s : State} {x1} {x2} {x3} (hM : Sub 0xc0007c0000000000c000000000001000000062 M) (h : Does M s0 s) :
    Does M s0 (State.writeCompl s x1 x2 x3) := by
  unfold State.writeCompl
  repeat' (first
    | with_reducible assumption
    | (extract_lets +onlyGivenNames x; revert x; intro _)
    | with_reducible refine State.dmaWrite_does rfl (Sub.trans (by decide) hM) ?_
    | with_reducible refine State.ringMsg_does (Sub.trans (by decide) hM) ?_
    | with_reducible refine State.setCqFull_does (Sub.trans (by decide) hM) ?_
    | with_reducible refine State.setRing_does (Sub.trans (by decide) hM) ?_
    | with_reducible refine Does.ite ?_ ?_
    | with_reducible refine Does.of3 (by with_reducible assumption) ?_
    | split)

theorem State.writeResult_does {M : Nat} {s0 s : State} {x1} {x2} {x3} {x4} {r} (e : State.writeResult s x1 x2 x3 x4 = r) (hM : Sub 0x80007c0000000000c000000000001000000062 M) (h : Does M s0 s) :
    Does M s0 r.2 := by
  subst e
  unfold State.writeResult
  repeat' (first
    | with_reducible assumption
    | (extract_lets +onlyGivenNames x; revert x; intro _)
    | with_reducible refine State.dmaWrites_does rfl (Sub.trans (by decide) hM) ?_
    | with_reducible refine State.endServe_does (Sub.trans (by decide) hM) ?_
    | with_reducible refine State.setRing_does (Sub.trans (by decide) hM) ?_
    | with_reducible refine Does.of3 (by with_reducible assumption) ?_
    | split)

theorem execCipherMessageDone_does {M : Nat} {s0 s : State} {x0} {x1} {x2} {x3} {x4} {t : State} (e : execCipherMessageDone x0 x1 x2 x3 x4 s = .next t) (hM : Sub 0x1c0007c0000000001c000200000001400000062 M) (h : Does M s0 s) :
    Does M s0 t := by
  revert e
  unfold execCipherMessageDone
  repeat' (first
    | with_reducible assumption
    | (intro e; with_reducible injection e with e; subst e)
    | with_reducible refine State.cipherResult_does (Sub.trans (by decide) hM) ?_
    | with_reducible refine State.writeCompl_does (Sub.trans (by decide) hM) ?_
    | with_reducible refine State.writeResult_does rfl (Sub.trans (by decide) hM) ?_
    | split)

theorem execDescCipher_does {M : Nat} {s0 s : State} {x0} {x1} {x2} {t : State} (e : execDescCipher x0 x1 x2 s = .next t) (hM : Sub 0xc0007c0000000001c000000000001400000062 M) (h : Does M s0 s) :
    Does M s0 t := by
  revert e
  unfold execDescCipher
  repeat' (first
    | with_reducible assumption
    | (intro _ _ _ _)
    | (intro e; with_reducible injection e with e; subst e)
    | with_reducible refine State.startCipher_does (Sub.trans (by decide) hM) ?_
    | with_reducible refine State.startDesc_does (Sub.trans (by decide) hM) ?_ ?_
    | with_reducible refine State.submitCipher_does (Sub.trans (by decide) hM) ?_
    | with_reducible refine State.writeCompl_does (Sub.trans (by decide) hM) ?_
    | with_reducible refine State.writeResult_does rfl (Sub.trans (by decide) hM) ?_
    | split)

theorem execDescFrame_does {M : Nat} {s0 s : State} {x0} {x1} {x2} {t : State} (e : execDescFrame x0 x1 x2 s = .next t) (hM : Sub 0x10c0007c0000000010d4001400000012c1180062 M) (h : Does M s0 s) :
    Does M s0 t := by
  revert e
  unfold execDescFrame
  repeat' (first
    | with_reducible assumption
    | (intro _ _ _ _)
    | (intro e; with_reducible injection e with e; subst e)
    | with_reducible refine State.finishFrame_does (Sub.trans (by decide) hM) ?_
    | with_reducible refine State.startDesc_does (Sub.trans (by decide) hM) ?_ ?_
    | with_reducible refine State.startFrame_does (Sub.trans (by decide) hM) ?_
    | with_reducible refine State.writeCompl_does (Sub.trans (by decide) hM) ?_)

theorem execDescNop_does {M : Nat} {s0 s : State} {x0} {x1} {x2} {t : State} (e : execDescNop x0 x1 x2 s = .next t) (hM : Sub 0xc0007c0000000000c000000000001000000062 M) (h : Does M s0 s) :
    Does M s0 t := by
  revert e
  unfold execDescNop
  repeat' (first
    | with_reducible assumption
    | (intro _ _ _ _)
    | (intro e; with_reducible injection e with e; subst e)
    | with_reducible refine State.endServe_does (Sub.trans (by decide) hM) ?_
    | with_reducible refine State.startDesc_does (Sub.trans (by decide) hM) ?_ ?_
    | with_reducible refine State.writeCompl_does (Sub.trans (by decide) hM) ?_)

theorem execDescTableRead_does {M : Nat} {s0 s : State} {x0} {x1} {x2} {x3} {t : State} (e : execDescTableRead x0 x1 x2 x3 s = .next t) (hM : Sub 0xc8007c0000000000c800100000001000000062 M) (h : Does M s0 s) :
    Does M s0 t := by
  revert e
  unfold execDescTableRead
  repeat' (first
    | with_reducible assumption
    | (intro _ _ _ _)
    | (intro e; with_reducible injection e with e; subst e)
    | with_reducible refine State.startDesc_does (Sub.trans (by decide) hM) ?_ ?_
    | with_reducible refine State.startTableRead_does (Sub.trans (by decide) hM) ?_
    | with_reducible refine State.writeCompl_does (Sub.trans (by decide) hM) ?_
    | with_reducible refine State.writeResult_does rfl (Sub.trans (by decide) hM) ?_
    | split)

theorem execDescTableWrite_does {M : Nat} {s0 s : State} {x0} {x1} {x2} {t : State} (e : execDescTableWrite x0 x1 x2 s = .next t) (hM : Sub 0xc0007c0000000000c000000000001000000062 M) (h : Does M s0 s) :
    Does M s0 t := by
  revert e
  unfold execDescTableWrite
  repeat' (first
    | with_reducible assumption
    | (intro _ _ _ _)
    | (intro e; with_reducible injection e with e; subst e)
    | with_reducible refine State.endServe_does (Sub.trans (by decide) hM) ?_
    | with_reducible refine State.startDesc_does (Sub.trans (by decide) hM) ?_ ?_
    | with_reducible refine State.startTableWrite_does (Sub.trans (by decide) hM) ?_
    | with_reducible refine State.writeCompl_does (Sub.trans (by decide) hM) ?_
    | with_reducible refine Does.ite ?_ ?_
    | split)

theorem execHqCqDoorbell_does {M : Nat} {s0 s : State} {x0} {x1} {x2} {x3} {t : State} (e : execHqCqDoorbell x0 x1 x2 x3 s = .next t) (hM : Sub 0x40007c00000000004000000000001001000022 M) (h : Does M s0 s) :
    Does M s0 t := by
  revert e
  unfold execHqCqDoorbell
  repeat' (first
    | with_reducible assumption
    | (intro _ _ _ _)
    | (intro e; with_reducible injection e with e; subst e)
    | with_reducible refine State.accessKind_does (Sub.trans (by decide) hM) ?_ ?_
    | with_reducible refine State.cqDoorbell_does (Sub.trans (by decide) hM) ?_)

theorem execHqDoorbell_does {M : Nat} {s0 s : State} {x0} {x1} {x2} {x3} {t : State} (e : execHqDoorbell x0 x1 x2 x3 s = .next t) (hM : Sub 0x40007c00000000004000000000001001000022 M) (h : Does M s0 s) :
    Does M s0 t := by
  revert e
  unfold execHqDoorbell
  repeat' (first
    | with_reducible assumption
    | (intro _ _ _ _)
    | (intro e; with_reducible injection e with e; subst e)
    | with_reducible refine State.accessKind_does (Sub.trans (by decide) hM) ?_ ?_
    | with_reducible refine State.doorbell_does (Sub.trans (by decide) hM) ?_)

theorem execHqEnableWrite_does {M : Nat} {s0 s : State} {x0} {x1} {x2} {x3} {t : State} (e : execHqEnableWrite x0 x1 x2 x3 s = .next t) (hM : Sub 0x40007c00000000004000000000001001000022 M) (h : Does M s0 s) :
    Does M s0 t := by
  revert e
  unfold execHqEnableWrite
  repeat' (first
    | with_reducible assumption
    | (intro _ _ _ _)
    | (intro e; with_reducible injection e with e; subst e)
    | with_reducible refine State.accessKind_does (Sub.trans (by decide) hM) ?_ ?_
    | with_reducible refine State.hqEnable_does (Sub.trans (by decide) hM) ?_)

theorem execHqHbqMapWrite_does {M : Nat} {s0 s : State} {x0} {x1} {x2} {x3} {t : State} (e : execHqHbqMapWrite x0 x1 x2 x3 s = .next t) (hM : Sub 0x40007c00000000004000000000000001000022 M) (h : Does M s0 s) :
    Does M s0 t := by
  revert e
  unfold execHqHbqMapWrite
  repeat' (first
    | with_reducible assumption
    | (intro _ _ _ _)
    | (intro e; with_reducible injection e with e; subst e)
    | with_reducible refine State.accessKind_does (Sub.trans (by decide) hM) ?_ ?_
    | with_reducible refine State.hbqMap_does (Sub.trans (by decide) hM) (Sub.kind (k := .hif) (by with_reducible assumption) (by decide) hM) (Sub.kindH (k := .hif) (by with_reducible assumption) (by decide) hM) ?_)

theorem execHqRingRegWrite_does {M : Nat} {s0 s : State} {x0} {x1} {x2} {x3} {t : State} (e : execHqRingRegWrite x0 x1 x2 x3 s = .next t) (hM : Sub 0x40007c00000000004000000000001001000022 M) (h : Does M s0 s) :
    Does M s0 t := by
  revert e
  unfold execHqRingRegWrite
  repeat' (first
    | with_reducible assumption
    | (intro _ _ _ _)
    | (intro e; with_reducible injection e with e; subst e)
    | with_reducible refine State.accessKind_does (Sub.trans (by decide) hM) ?_ ?_
    | with_reducible refine State.ringReg_does (Sub.trans (by decide) hM) ?_)

theorem execMsixModerationExpire_does {M : Nat} {s0 s : State} {x0} {x1} {t : State} (e : execMsixModerationExpire x0 x1 s = .next t) (hM : Sub 0x4000000000001000000022 M) (h : Does M s0 s) :
    Does M s0 t := by
  revert e
  unfold execMsixModerationExpire State.ifOperates
  repeat' (first
    | with_reducible assumption
    | (intro e; with_reducible injection e with e; subst e)
    | with_reducible refine State.sendVector_does (Sub.trans (by decide) hM) ?_
    | with_reducible refine State.setRing_does (Sub.trans (by decide) hM) ?_
    | with_reducible refine Does.ite ?_ ?_)

theorem execMsixUnmask_does {M : Nat} {s0 s : State} {x0} {x1} {x2} {x3} {t : State} (e : execMsixUnmask x0 x1 x2 x3 s = .next t) (hM : Sub 0x40007c00000000004000000000000001000022 M) (h : Does M s0 s) :
    Does M s0 t := by
  revert e
  unfold execMsixUnmask
  repeat' (first
    | with_reducible assumption
    | (intro _ _ _ _)
    | (intro e; with_reducible injection e with e; subst e)
    | with_reducible refine State.accessKind_does (Sub.trans (by decide) hM) ?_ ?_
    | with_reducible refine State.vectorControl_does (Sub.trans (by decide) hM) ?_)

end Sys2Proof.Machine
end

