-- ==== Sys2Proof/Laws/Punt.lean ====
section
/-!
SUPPORT. What each operation of Machine/Punt.lean can change, and that it takes nothing back.
-/
namespace Sys2Proof.Machine

theorem State.abortCompletion_does {M : Nat} {s0 s : State} {x1} {x2} (hM : Sub 0x40007c00000000004000000000001000000022 M) (h : Does M s0 s) :
    Does M s0 (State.abortCompletion s x1 x2) := by
  unfold State.abortCompletion
  repeat' (first
    | with_reducible assumption
    | (extract_lets +onlyGivenNames x; refine Does.cut x ?_ ?_; rotate_left; (intro hx; clear_value x; revert x; intro _ _); rotate_left; (unfold x; clear x))
    | (extract_lets +onlyGivenNames x; revert x; intro _)
    | with_reducible refine State.fset_does (Sub.trans (by decide) hM) (Sub.fld (by decide) (Sub.kind (k := .hif) rfl (by decide) hM)) ?_
    | with_reducible refine State.raise_does (Sub.trans (by decide) hM) (Sub.kindH (k := .hif) rfl (by decide) hM) ?_
    | with_reducible refine State.setRing_does (Sub.trans (by decide) hM) ?_)

theorem State.setPool_does {M : Nat} {s0 s : State} {x1} {x2} {x3} (hM : Sub 68719476736 M) (h : Does M s0 s) :
    Does M s0 (State.setPool s x1 x2 x3) := by
  unfold State.setPool
  repeat' (first
    | with_reducible assumption
    | (extract_lets +onlyGivenNames x; revert x; intro _)
    | with_reducible refine State.setHost_does (Sub.trans (by decide) hM) ?_)

theorem State.poolBp_does {M : Nat} {s0 s : State} {x1} {x2} (hM : Sub 0x40007c00000000004000000000001000000022 M) (h : Does M s0 s) :
    Does M s0 (State.poolBp s x1 x2) := by
  unfold State.poolBp
  repeat' (first
    | with_reducible assumption
    | (extract_lets +onlyGivenNames x; revert x; intro _)
    | with_reducible refine State.raise_does (Sub.trans (by decide) hM) (Sub.kindH (k := .hif) rfl (by decide) hM) ?_
    | with_reducible refine State.setPool_does (Sub.trans (by decide) hM) ?_
    | with_reducible refine Does.ite ?_ ?_)

theorem State.poolEmpty_does {M : Nat} {s0 s : State} {x1} {x2} (hM : Sub 0x1000007c000000001044001400000002c0180062 M) (h : Does M s0 s) :
    Does M s0 (State.poolEmpty s x1 x2) := by
  unfold State.poolEmpty
  repeat' (first
    | with_reducible assumption
    | (extract_lets +onlyGivenNames x; refine Does.cut x ?_ ?_; rotate_left; (intro hx; clear_value x; revert x; intro _ _); rotate_left; (unfold x; clear x))
    | with_reducible refine State.cadd_does (Sub.trans (by decide) hM) (Sub.fld (by decide) (Sub.kind (k := .hif) rfl (by decide) hM)) ?_
    | with_reducible refine State.discard_does (Sub.trans (by decide) hM) ?_
    | with_reducible refine State.loseCarried_does (Sub.trans (by decide) hM) ?_
    | split)

theorem State.abortDelivery_does {M : Nat} {s0 s : State} {x1} {x2} (hM : Sub 0x1040007c000000001044001400000012c0180062 M) (h : Does M s0 s) :
    Does M s0 (State.abortDelivery s x1 x2) := by
  unfold State.abortDelivery
  repeat' (first
    | with_reducible assumption
    | (extract_lets +onlyGivenNames x; refine Does.cut x ?_ ?_; rotate_left; (intro hx; clear_value x; revert x; intro _ _); rotate_left; (unfold x; clear x))
    | (extract_lets +onlyGivenNames x; revert x; intro _)
    | with_reducible refine State.poolBp_does (Sub.trans (by decide) hM) ?_
    | with_reducible refine State.poolEmpty_does (Sub.trans (by decide) hM) ?_
    | with_reducible refine State.setHost_does (Sub.trans (by decide) hM) ?_
    | with_reducible refine State.setPool_does (Sub.trans (by decide) hM) ?_
    | split)

theorem State.abortDump_does {M : Nat} {s0 s : State} {x1} (hM : Sub 4294967296 M) (h : Does M s0 s) :
    Does M s0 (State.abortDump s x1) := by
  unfold State.abortDump
  repeat' (first
    | with_reducible assumption
    | (extract_lets +onlyGivenNames x; revert x; intro _)
    | with_reducible refine State.setDump_does (Sub.trans (by decide) hM) ?_)

theorem State.abortSnapshot_does {M : Nat} {s0 s : State} {x1} (hM : Sub 1073741824 M) (h : Does M s0 s) :
    Does M s0 (State.abortSnapshot s x1) := by
  unfold State.abortSnapshot
  repeat' (first
    | with_reducible assumption
    | (extract_lets +onlyGivenNames x; revert x; intro _)
    | with_reducible refine State.setAcct_does (Sub.trans (by decide) hM) ?_)

theorem State.abortStream_does {M : Nat} {s0 s : State} {x1} {x2} (hM : Sub 0x3042007c000000003456003400000053c37c8066 M) (h : Does M s0 s) :
    Does M s0 (State.abortStream s x1 x2) := by
  unfold State.abortStream
  repeat' (first
    | with_reducible assumption
    | (extract_lets +onlyGivenNames x; revert x; intro _)
    | with_reducible refine State.abortCompletion_does (Sub.trans (by decide) hM) ?_
    | with_reducible refine State.abortDelivery_does (Sub.trans (by decide) hM) ?_
    | with_reducible refine State.abortDump_does (Sub.trans (by decide) hM) ?_
    | with_reducible refine State.abortSnapshot_does (Sub.trans (by decide) hM) ?_
    | with_reducible refine State.dmaAborted_does (Sub.trans (by decide) hM) ?_
    | with_reducible refine State.endServe_does (Sub.trans (by decide) hM) ?_
    | with_reducible refine State.setPool_does (Sub.trans (by decide) hM) ?_
    | with_reducible refine State.setRing_does (Sub.trans (by decide) hM) ?_
    | split)

theorem State.clearRange_does {M : Nat} {s0 s : State} {x1 : Page} {x2} {x3} (hM : Sub 32 M) (hB1 : Sub x1.blk M) (hH1 : Sub x1.hdr M) (h : Does M s0 s) :
    Does M s0 (State.clearRange s x1 x2 x3) := by
  unfold State.clearRange
  exact Does.put_regs (Sub.trans (by decide) hM) h (fun c => Sparse.wf_filter _ _ _ c)
    (fun q o hq => Sparse.get_filter _ _ _ (fun _ => by simp [Page.kind_ne hB1 hH1 hq]))

theorem State.dataArrive_does {M : Nat} {s0 s : State} {x1} {x2} {x3} {x4} (hM : Sub 0x100000001000018040 M) (h : Does M s0 s) :
    Does M s0 (State.dataArrive s x1 x2 x3 x4) := by
  unfold State.dataArrive
  repeat' (first
    | with_reducible assumption
    | (extract_lets +onlyGivenNames x; revert x; intro _)
    | with_reducible refine State.setRing_does (Sub.trans (by decide) hM) ?_
    | with_reducible refine State.writeArrived_does rfl (Sub.trans (by decide) hM) ?_
    | split)

theorem State.delivered_does {M : Nat} {s0 s : State} {x1} {x2} {x3} (hM : Sub 0x1000007c000000001044001400000012c0180062 M) (h : Does M s0 s) :
    Does M s0 (State.delivered s x1 x2 x3) := by
  unfold State.delivered
  repeat' (first
    | with_reducible assumption
    | (extract_lets +onlyGivenNames x; refine Does.cut x ?_ ?_; rotate_left; (intro hx; clear_value x; revert x; intro _ _); rotate_left; (unfold x; clear x))
    | (extract_lets +onlyGivenNames x; revert x; intro _)
    | with_reducible refine State.cadd_does (Sub.trans (by decide) hM) (Sub.fld (by decide) (Sub.kind (k := .hif) rfl (by decide) hM)) ?_
    | with_reducible refine State.cadd_does (Sub.trans (by decide) hM) (Sub.fld (by decide) (Sub.kind (k := .tel) rfl (by decide) hM)) ?_
    | with_reducible refine State.fold_does (Sub.trans (by decide) hM) ?_
    | with_reducible refine State.release_does (Sub.trans (by decide) hM) ?_
    | with_reducible refine State.ringMsg_does (Sub.trans (by decide) hM) ?_
    | with_reducible refine State.setHost_does (Sub.trans (by decide) hM) ?_
    | with_reducible refine State.setRing_does (Sub.trans (by decide) hM) ?_
    | split)

theorem State.deliver_does {M : Nat} {s0 s : State} {x1} {x2} {x3} {x4} (hM : Sub 0x1080007c0000000010c4001400000012c0180062 M) (h : Does M s0 s) :
    Does M s0 (State.deliver s x1 x2 x3 x4) := by
  unfold State.deliver
  repeat' (first
    | with_reducible assumption
    | (extract_lets +onlyGivenNames x; revert x; intro _)
    | with_reducible refine State.delivered_does (Sub.trans (by decide) hM) ?_
    | with_reducible refine State.dmaWrite_does rfl (Sub.trans (by decide) hM) ?_
    | with_reducible refine State.dmaWrites_does rfl (Sub.trans (by decide) hM) ?_
    | with_reducible refine State.setHost_does (Sub.trans (by decide) hM) ?_
    | with_reducible refine Does.ite ?_ ?_
    | with_reducible refine Does.of3 (by with_reducible assumption) ?_
    | split)

theorem State.recRefill_does {M : Nat} {s0 s : State} {x1} (hM : Sub 0x80007c0000000000c000000000001000000022 M) (h : Does M s0 s) :
    Does M s0 (State.recRefill s x1) := by
  unfold State.recRefill
  repeat' (first
    | with_reducible assumption
    | (intro _ _ _)
    | (extract_lets +onlyGivenNames x; refine Does.cut x.2 ?_ ?_; rotate_left; (intro hx; clear_value x; revert x; intro _ _); rotate_left; (unfold x; clear x))
    | (extract_lets +onlyGivenNames x; revert x; intro _)
    | with_reducible refine State.pendingRecs_does (Sub.trans (by decide) hM) ?_
    | with_reducible refine State.recTake_does rfl (Sub.trans (by decide) hM) ?_
    | with_reducible refine State.setHost_does (Sub.trans (by decide) hM) ?_
    | with_reducible refine Does.fold2 rfl ?_ ?_
    | split)

theorem State.resumeStream_does {M : Nat} {s0 s : State} {x1} (hM : Sub 0x3002007c000000003557003400000046c37c8066 M) (h : Does M s0 s) :
    Does M s0 (State.resumeStream s x1) := by
  unfold State.resumeStream
  repeat' (first
    | with_reducible assumption
    | with_reducible refine State.dmaResolved_does (Sub.trans (by decide) hM) ?_
    | split)

theorem State.faultCmd_does {M : Nat} {s0 s : State} {x1} {x2} {x3} (hM : Sub 0x30c2007c0000000035d7003400000057c37c8066 M) (h : Does M s0 s) :
    Does M s0 (State.faultCmd s x1 x2 x3) := by
  unfold State.faultCmd
  repeat' (first
    | with_reducible assumption
    | (intro _ _ _)
    | (extract_lets +onlyGivenNames x; refine Does.cut x ?_ ?_; rotate_left; (intro hx; clear_value x; revert x; intro _ _); rotate_left; (unfold x; clear x))
    | (extract_lets +onlyGivenNames x; revert x; intro _)
    | with_reducible refine State.abortStream_does (Sub.trans (by decide) hM) ?_
    | with_reducible refine State.recRefill_does (Sub.trans (by decide) hM) ?_
    | with_reducible refine State.resumeStream_does (Sub.trans (by decide) hM) ?_
    | with_reducible refine State.setHost_does (Sub.trans (by decide) hM) ?_
    | with_reducible refine State.setRecValid_does (Sub.trans (by decide) hM) ?_
    | with_reducible refine State.setReg_does (Sub.trans (by decide) hM) (Sub.off (Fld.le_at (by decide)) (Sub.kind (k := .dtu) rfl (by decide) hM)) ?_
    | with_reducible refine Does.fold ?_ ?_
    | with_reducible refine Does.ite ?_ ?_)

theorem State.fetchArrive_does {M : Nat} {s0 s : State} {x1} {x2} {x3} (hM : Sub 68719476736 M) (h : Does M s0 s) :
    Does M s0 (State.fetchArrive s x1 x2 x3) := by
  unfold State.fetchArrive
  repeat' (first
    | with_reducible assumption
    | (extract_lets +onlyGivenNames x; revert x; intro _)
    | with_reducible refine State.setRing_does (Sub.trans (by decide) hM) ?_)

theorem State.functionReset_does {M : Nat} {s0 s : State} {x1} (hM : Sub 0x30c2007c0000000035d6003400000057d37c8166 M) (h : Does M s0 s) :
    Does M s0 (State.functionReset s x1) := by
  unfold State.functionReset
  repeat' (first
    | with_reducible assumption
    | (intro _ _ _)
    | (extract_lets +onlyGivenNames x; refine Does.cut x ?_ ?_; rotate_left; (intro hx; clear_value x; revert x; intro _ _); rotate_left; (unfold x; clear x))
    | (extract_lets +onlyGivenNames x; revert x; intro _)
    | with_reducible refine State.abortDump_does (Sub.trans (by decide) hM) ?_
    | with_reducible refine State.abortSnapshot_does (Sub.trans (by decide) hM) ?_
    | with_reducible refine State.clearRange_does (Sub.trans (by decide) hM) (Sub.kind (k := .hif) rfl (by decide) hM) (Sub.kindH (k := .hif) rfl (by decide) hM) ?_
    | with_reducible refine State.clearRange_does (Sub.trans (by decide) hM) (Sub.kind (k := .dtu) rfl (by decide) hM) (Sub.kindH (k := .dtu) rfl (by decide) hM) ?_
    | with_reducible refine State.dmaAborted_does (Sub.trans (by decide) hM) ?_
    | with_reducible refine State.endMsg_does (Sub.trans (by decide) hM) ?_
    | with_reducible refine State.setHost_does (Sub.trans (by decide) hM) ?_
    | with_reducible refine State.setLock_does (Sub.trans (by decide) hM) ?_
    | with_reducible refine State.setQueue_does (Sub.trans (by decide) hM) ?_
    | with_reducible refine Does.fold ?_ ?_
    | with_reducible refine Does.ite ?_ ?_
    | split)

theorem State.invalidate_does {M : Nat} {s0 s : State} {x1 : Page} {x2} {x3} (hM : Sub 68719476768 M) (hB1 : Sub x1.blk M) (h : Does M s0 s) :
    Does M s0 (State.invalidate s x1 x2 x3) := by
  unfold State.invalidate
  repeat' (first
    | with_reducible assumption
    | (extract_lets +onlyGivenNames x; refine Does.cut x ?_ ?_; rotate_left; (intro hx; clear_value x; revert x; intro _ _); rotate_left; (unfold x; clear x))
    | (extract_lets +onlyGivenNames x; revert x; intro _)
    | with_reducible refine State.bset_does (Sub.trans (by decide) hM) (Sub.fld (by decide) hB1) ?_
    | with_reducible refine State.putRw_does (Sub.trans (by decide) hM) (Sub.off (by decide) hB1) ?_
    | with_reducible refine State.setHost_does (Sub.trans (by decide) hM) ?_)

theorem State.invAll_does {M : Nat} {s0 s : State} {x1 : Page} {x2} (hM : Sub 68719476768 M) (hB1 : Sub x1.blk M) (h : Does M s0 s) :
    Does M s0 (State.invAll s x1 x2) := by
  unfold State.invAll
  repeat' (first
    | with_reducible assumption
    | with_reducible refine State.invalidate_does (Sub.trans (by decide) hM) hB1 ?_)

theorem State.invRange_does {M : Nat} {s0 s : State} {x1 : Page} {x2} (hM : Sub 68719476768 M) (hB1 : Sub x1.blk M) (h : Does M s0 s) :
    Does M s0 (State.invRange s x1 x2) := by
  unfold State.invRange
  repeat' (first
    | with_reducible assumption
    | (extract_lets +onlyGivenNames x; revert x; intro _)
    | with_reducible refine State.invalidate_does (Sub.trans (by decide) hM) hB1 ?_)

theorem State.invSpace_does {M : Nat} {s0 s : State} {x1 : Page} {x2} (hM : Sub 68719476768 M) (hB1 : Sub x1.blk M) (h : Does M s0 s) :
    Does M s0 (State.invSpace s x1 x2) := by
  unfold State.invSpace
  repeat' (first
    | with_reducible assumption
    | with_reducible refine State.invalidate_does (Sub.trans (by decide) hM) hB1 ?_)

theorem State.poolEntry_does {M : Nat} {s0 s : State} {x1} {x2} {x3} (hM : Sub 0x4000000000001000000040 M) (h : Does M s0 s) :
    Does M s0 (State.poolEntry s x1 x2 x3) := by
  unfold State.poolEntry
  repeat' (first
    | with_reducible assumption
    | (extract_lets +onlyGivenNames x; revert x; intro _)
    | with_reducible refine State.cadd_does (Sub.trans (by decide) hM) (Sub.fld (by decide) (Sub.kind (k := .hif) rfl (by decide) hM)) ?_
    | with_reducible refine State.setPool_does (Sub.trans (by decide) hM) ?_
    | with_reducible refine Does.ite ?_ ?_)

theorem State.poolArrive_does {M : Nat} {s0 s : State} {x1} {x2} {x3} (hM : Sub 0x40007c00000000004000000000001000000062 M) (h : Does M s0 s) :
    Does M s0 (State.poolArrive s x1 x2 x3) := by
  unfold State.poolArrive
  repeat' (first
    | with_reducible assumption
    | (intro _ _ _)
    | (extract_lets +onlyGivenNames x; refine Does.cut x ?_ ?_; rotate_left; (intro hx; clear_value x; revert x; intro _ _); rotate_left; (unfold x; clear x))
    | (extract_lets +onlyGivenNames x; revert x; intro _)
    | with_reducible refine State.poolBp_does (Sub.trans (by decide) hM) ?_
    | with_reducible refine State.poolEntry_does (Sub.trans (by decide) hM) ?_
    | with_reducible refine State.setPool_does (Sub.trans (by decide) hM) ?_
    | with_reducible refine Does.fold ?_ ?_)

theorem State.poolDoorbell_does {M : Nat} {s0 s : State} {x1} {x2} {x3} (hM : Sub 0x40007c00000000004000000000001000000022 M) (h : Does M s0 s) :
    Does M s0 (State.poolDoorbell s x1 x2 x3) := by
  unfold State.poolDoorbell
  repeat' (first
    | with_reducible assumption
    | (extract_lets +onlyGivenNames x; revert x; intro _)
    | with_reducible refine State.doorbellErr_does (Sub.trans (by decide) hM) ?_
    | with_reducible refine State.poolBp_does (Sub.trans (by decide) hM) ?_
    | with_reducible refine State.setPool_does (Sub.trans (by decide) hM) ?_
    | with_reducible refine Does.ite ?_ ?_)

theorem State.poolReg_does {M : Nat} {s0 s : State} {x1} {x2} {x3} (hM : Sub 0x40007c00000000004000000000001000000022 M) (h : Does M s0 s) :
    Does M s0 (State.poolReg s x1 x2 x3) := by
  unfold State.poolReg
  repeat' (first
    | with_reducible assumption
    | (extract_lets +onlyGivenNames x; revert x; intro _)
    | with_reducible refine State.errCount_does (Sub.trans (by decide) hM) (Sub.kindH (k := .hif) rfl (by decide) hM) ?_
    | with_reducible refine State.poolBp_does (Sub.trans (by decide) hM) ?_
    | with_reducible refine State.setPool_does (Sub.trans (by decide) hM) ?_
    | with_reducible refine Does.ite ?_ ?_
    | split)

theorem State.puntHead_does {M : Nat} {s0 s : State} {x1} {x2} {x3} {x4} {x5} {x6} (hM : Sub 0x10c4007c0000000010c4003400000012d4580066 M) (h : Does M s0 s) :
    Does M s0 (State.puntHead s x1 x2 x3 x4 x5 x6) := by
  unfold State.puntHead
  repeat' (first
    | with_reducible assumption
    | (extract_lets +onlyGivenNames x; refine Does.cut x ?_ ?_; rotate_left; (intro hx; clear_value x; revert x; intro _ _); rotate_left; (unfold x; clear x))
    | (extract_lets +onlyGivenNames x; revert x; intro _)
    | with_reducible refine State.deliver_does (Sub.trans (by decide) hM) ?_
    | with_reducible refine State.discard_does (Sub.trans (by decide) hM) ?_
    | with_reducible refine State.poolBp_does (Sub.trans (by decide) hM) ?_
    | with_reducible refine State.poolEmpty_does (Sub.trans (by decide) hM) ?_
    | with_reducible refine State.readCopy_does rfl (Sub.trans (by decide) hM) ?_
    | with_reducible refine State.setCqFull_does (Sub.trans (by decide) hM) ?_
    | with_reducible refine State.setPool_does (Sub.trans (by decide) hM) ?_
    | with_reducible refine State.unqueue_does (Sub.trans (by decide) hM) ?_
    | with_reducible refine State.writeTurn_does (r := _) (by with_reducible assumption) (Sub.trans (by decide) hM) ?_
    | with_reducible refine Does.ite ?_ ?_
    | split)

theorem execDmaReadReturn_does {M : Nat} {s0 s : State} {x0} {x1} {x2} {x3} {t : State} (e : execDmaReadReturn x0 x1 x2 x3 s = .next t) (hM : Sub 0x30c2007c0000000035d7003400000056c37d8066 M) (h : Does M s0 s) :
    Does M s0 t := by
  revert e
  unfold execDmaReadReturn
  repeat' (first
    | with_reducible assumption
    | (intro e; with_reducible injection e with e; subst e)
    | (extract_lets +onlyGivenNames x; revert x; intro _)
    | with_reducible refine State.dataArrive_does (Sub.trans (by decide) hM) ?_
    | with_reducible refine State.dmaRead_does rfl (Sub.trans (by decide) hM) ?_
    | with_reducible refine State.endByCause_does (Sub.trans (by decide) hM) ?_
    | with_reducible refine State.fetchArrive_does (Sub.trans (by decide) hM) ?_
    | with_reducible refine State.poolArrive_does (Sub.trans (by decide) hM) ?_
    | with_reducible refine State.setCtx_does (Sub.trans (by decide) hM) ?_
    | with_reducible refine Does.ite ?_ ?_
    | with_reducible refine Does.of2 (by with_reducible assumption) ?_
    | split)

theorem execDtuFaultAbort_does {M : Nat} {s0 s : State} {x0} {x1} {x2} {t : State} (e : execDtuFaultAbort x0 x1 x2 s = .next t) (hM : Sub 0x30c2007c0000000035d7003400000057c37c8066 M) (h : Does M s0 s) :
    Does M s0 t := by
  revert e
  unfold execDtuFaultAbort
  repeat' (first
    | with_reducible assumption
    | (intro _ _ _ _)
    | (intro e; with_reducible injection e with e; subst e)
    | with_reducible refine State.accessKind_does (Sub.trans (by decide) hM) ?_ ?_
    | with_reducible refine State.faultCmd_does (Sub.trans (by decide) hM) ?_)

theorem execDtuFaultRetry_does {M : Nat} {s0 s : State} {x0} {x1} {x2} {t : State} (e : execDtuFaultRetry x0 x1 x2 s = .next t) (hM : Sub 0x30c2007c0000000035d7003400000057c37c8066 M) (h : Does M s0 s) :
    Does M s0 t := by
  revert e
  unfold execDtuFaultRetry
  repeat' (first
    | with_reducible assumption
    | (intro _ _ _ _)
    | (intro e; with_reducible injection e with e; subst e)
    | with_reducible refine State.accessKind_does (Sub.trans (by decide) hM) ?_ ?_
    | with_reducible refine State.faultCmd_does (Sub.trans (by decide) hM) ?_)

theorem execDtuInvAll_does {M : Nat} {s0 s : State} {x0} {x1} {x2} {t : State} (e : execDtuInvAll x0 x1 x2 s = .next t) (hM : Sub 0x40007c0000000000c000000000001001000022 M) (h : Does M s0 s) :
    Does M s0 t := by
  revert e
  unfold execDtuInvAll
  repeat' (first
    | with_reducible assumption
    | (intro _ _ _ _)
    | (intro e; with_reducible injection e with e; subst e)
    | with_reducible refine State.accessKind_does (Sub.trans (by decide) hM) ?_ ?_
    | with_reducible refine State.invAll_does (Sub.trans (by decide) hM) (Sub.kind (k := .dtu) (by with_reducible assumption) (by decide) hM) ?_)

theorem execDtuInvDone_does {M : Nat} {s0 s : State} {x0} {t : State} (e : execDtuInvDone x0 s = .next t) (hM : Sub 0x80007c0000000000c000000000000000000022 M) (h : Does M s0 s) :
    Does M s0 t := by
  revert e
  unfold execDtuInvDone State.ifOperates
  repeat' (first
    | with_reducible assumption
    | (intro e; with_reducible injection e with e; subst e)
    | with_reducible refine State.bset_does (Sub.trans (by decide) hM) (Sub.fld (by decide) (Sub.kind (k := .dtu) rfl (by decide) hM)) ?_
    | with_reducible refine State.raise_does (Sub.trans (by decide) hM) (Sub.kindH (k := .dtu) rfl (by decide) hM) ?_
    | with_reducible refine Does.ite ?_ ?_)

theorem execDtuInvRange_does {M : Nat} {s0 s : State} {x0} {x1} {x2} {t : State} (e : execDtuInvRange x0 x1 x2 s = .next t) (hM : Sub 0x40007c0000000000c000000000001001000022 M) (h : Does M s0 s) :
    Does M s0 t := by
  revert e
  unfold execDtuInvRange
  repeat' (first
    | with_reducible assumption
    | (intro _ _ _ _)
    | (intro e; with_reducible injection e with e; subst e)
    | with_reducible refine State.accessKind_does (Sub.trans (by decide) hM) ?_ ?_
    | with_reducible refine State.invRange_does (Sub.trans (by decide) hM) (Sub.kind (k := .dtu) (by with_reducible assumption) (by decide) hM) ?_)

theorem execDtuInvSpace_does {M : Nat} {s0 s : State} {x0} {x1} {x2} {t : State} (e : execDtuInvSpace x0 x1 x2 s = .next t) (hM : Sub 0x40007c0000000000c000000000001001000022 M) (h : Does M s0 s) :
    Does M s0 t := by
  revert e
  unfold execDtuInvSpace
  repeat' (first
    | with_reducible assumption
    | (intro _ _ _ _)
    | (intro e; with_reducible injection e with e; subst e)
    | with_reducible refine State.accessKind_does (Sub.trans (by decide) hM) ?_ ?_
    | with_reducible refine State.invSpace_does (Sub.trans (by decide) hM) (Sub.kind (k := .dtu) (by with_reducible assumption) (by decide) hM) ?_)

theorem execFunctionReset_does {M : Nat} {s0 s : State} {x0} {t : State} (e : execFunctionReset x0 s = .next t) (hM : Sub 0x30c2007c0000000035d6003400000057d37c8166 M) (h : Does M s0 s) :
    Does M s0 t := by
  revert e
  unfold execFunctionReset
  repeat' (first
    | with_reducible assumption
    | (intro e; with_reducible injection e with e; subst e)
    | with_reducible refine State.functionReset_does (Sub.trans (by decide) hM) ?_
    | with_reducible refine Does.ite ?_ ?_)

theorem execPoolDoorbell_does {M : Nat} {s0 s : State} {x0} {x1} {x2} {x3} {t : State} (e : execPoolDoorbell x0 x1 x2 x3 s = .next t) (hM : Sub 0x40007c00000000004000000000001001000022 M) (h : Does M s0 s) :
    Does M s0 t := by
  revert e
  unfold execPoolDoorbell
  repeat' (first
    | with_reducible assumption
    | (intro _ _ _ _)
    | (intro e; with_reducible injection e with e; subst e)
    | with_reducible refine State.accessKind_does (Sub.trans (by decide) hM) ?_ ?_
    | with_reducible refine State.poolDoorbell_does (Sub.trans (by decide) hM) ?_)

theorem execPoolRefill_does {M : Nat} {s0 s : State} {x0} {x1} {t : State} (e : execPoolRefill x0 x1 s = .next t) (hM : Sub 68719476736 M) (h : Does M s0 s) :
    Does M s0 t := by
  revert e
  unfold execPoolRefill
  repeat' (first
    | with_reducible assumption
    | (intro e; with_reducible injection e with e; subst e)
    | with_reducible refine State.setPool_does (Sub.trans (by decide) hM) ?_
    | with_reducible refine Does.ite ?_ ?_)

theorem execPuntDeliver_does {M : Nat} {s0 s : State} {x0} {x1} {x2} {x3} {t : State} (e : execPuntDeliver x0 x1 x2 x3 s = .next t) (hM : Sub 0x10c4007c0000000010c4003400000012d4580066 M) (h : Does M s0 s) :
    Does M s0 t := by
  revert e
  unfold execPuntDeliver
  repeat' (first
    | with_reducible assumption
    | (intro e; with_reducible injection e with e; subst e)
    | with_reducible refine State.deliver_does (Sub.trans (by decide) hM) ?_
    | with_reducible refine State.puntHead_does (Sub.trans (by decide) hM) ?_
    | with_reducible refine Does.ite ?_ ?_
    | split)

theorem execUcieLinkUp_does {M : Nat} {s0 s : State} {x0} {x1} {t : State} (e : execUcieLinkUp x0 x1 s = .next t) (hM : Sub 0x40007c00000000004000000000001000000062 M) (h : Does M s0 s) :
    Does M s0 t := by
  revert e
  unfold execUcieLinkUp
  repeat' (first
    | with_reducible assumption
    | (intro _ _ _)
    | (intro e; with_reducible injection e with e; subst e)
    | (extract_lets +onlyGivenNames x; refine Does.cut x ?_ ?_; rotate_left; (intro hx; clear_value x; revert x; intro _ _); rotate_left; (unfold x; clear x))
    | (extract_lets +onlyGivenNames x; revert x; intro _)
    | with_reducible refine State.cadd_does (Sub.trans (by decide) hM) (Sub.fld (by decide) (Sub.kind (k := .hif) rfl (by decide) hM)) ?_
    | with_reducible refine State.fset_does (Sub.trans (by decide) hM) (Sub.fld (by decide) (Sub.kind (k := .hif) rfl (by decide) hM)) ?_
    | with_reducible refine State.raise_does (Sub.trans (by decide) hM) (Sub.kindH (k := .hif) rfl (by decide) hM) ?_
    | with_reducible refine State.setHost_does (Sub.trans (by decide) hM) ?_
    | with_reducible refine Does.fold ?_ ?_
    | with_reducible refine Does.ite ?_ ?_)

theorem execUcieModuleLost_does {M : Nat} {s0 s : State} {x0} {x1} {t : State} (e : execUcieModuleLost x0 x1 s = .next t) (hM : Sub 0x30c2007c0000000035d6003400000057d37c8166 M) (h : Does M s0 s) :
    Does M s0 t := by
  revert e
  unfold execUcieModuleLost
  repeat' (first
    | with_reducible assumption
    | (intro e; with_reducible injection e with e; subst e)
    | (extract_lets +onlyGivenNames x; refine Does.cut x ?_ ?_; rotate_left; (intro hx; clear_value x; revert x; intro _ _); rotate_left; (unfold x; clear x))
    | (extract_lets +onlyGivenNames x; revert x; intro _)
    | with_reducible refine State.cadd_does (Sub.trans (by decide) hM) (Sub.fld (by decide) (Sub.kind (k := .hif) rfl (by decide) hM)) ?_
    | with_reducible refine State.fset_does (Sub.trans (by decide) hM) (Sub.fld (by decide) (Sub.kind (k := .hif) rfl (by decide) hM)) ?_
    | with_reducible refine State.functionReset_does (Sub.trans (by decide) hM) ?_
    | with_reducible refine State.raise_does (Sub.trans (by decide) hM) (Sub.kindH (k := .hif) rfl (by decide) hM) ?_
    | with_reducible refine State.setHost_does (Sub.trans (by decide) hM) ?_
    | with_reducible refine Does.ite ?_ ?_)

theorem execUcieRetrainTimer_does {M : Nat} {s0 s : State} {x0} {x1} {t : State} (e : execUcieRetrainTimer x0 x1 s = .next t) (hM : Sub 0x4000000000001000000020 M) (h : Does M s0 s) :
    Does M s0 t := by
  revert e
  unfold execUcieRetrainTimer
  repeat' (first
    | with_reducible assumption
    | (intro e; with_reducible injection e with e; subst e)
    | (extract_lets +onlyGivenNames x; refine Does.cut x ?_ ?_; rotate_left; (intro hx; clear_value x; revert x; intro _ _); rotate_left; (unfold x; clear x))
    | (extract_lets +onlyGivenNames x; revert x; intro _)
    | with_reducible refine State.fset_does (Sub.trans (by decide) hM) (Sub.fld (by decide) (Sub.kind (k := .hif) rfl (by decide) hM)) ?_
    | with_reducible refine State.setHost_does (Sub.trans (by decide) hM) ?_
    | with_reducible refine Does.ite ?_ ?_)

end Sys2Proof.Machine
end

