-- ==== Sys2Proof/Laws/TableCmd.lean ====
section
/-!
SUPPORT. What each operation of Machine/TableCmd.lean can change, and that it takes nothing back.
-/
namespace Sys2Proof.Machine

theorem State.emStatus_does {M : Nat} {s0 s : State} {x1} {x2} {x3} (hM : Sub 0x100000000000000020 M) (h : Does M s0 s) :
    Does M s0 (State.emStatus s x1 x2 x3) := by
  unfold State.emStatus
  repeat' (first
    | with_reducible assumption
    | (extract_lets +onlyGivenNames x; revert x; intro _)
    | with_reducible refine State.bset_does (Sub.trans (by decide) hM) (Sub.fld (by decide) (Sub.kind (k := .slice) rfl (by decide) hM)) ?_
    | with_reducible refine State.fset_does (Sub.trans (by decide) hM) (Sub.fld (by decide) (Sub.kind (k := .slice) rfl (by decide) hM)) ?_)

theorem State.emDelete_does {M : Nat} {s0 s : State} {x1} {x2} (hM : Sub 0x100000000000008020 M) (h : Does M s0 s) :
    Does M s0 (State.emDelete s x1 x2) := by
  unfold State.emDelete
  repeat' (first
    | with_reducible assumption
    | (extract_lets +onlyGivenNames x; refine Does.cut x ?_ ?_; rotate_left; (intro hx; clear_value x; revert x; intro _ _); rotate_left; (unfold x; clear x))
    | with_reducible refine State.emStatus_does (Sub.trans (by decide) hM) ?_
    | with_reducible refine State.hashDelete_does rfl (Sub.trans (by decide) hM) ?_
    | with_reducible refine State.putRw_does (Sub.trans (by decide) hM) (Sub.off (by decide) (Sub.kind (k := .slice) rfl (by decide) hM)) ?_
    | split)

theorem State.emInsert_does {M : Nat} {s0 s : State} {x1} {x2} (hM : Sub 0x7c00000000004000100000000000008062 M) (h : Does M s0 s) :
    Does M s0 (State.emInsert s x1 x2) := by
  unfold State.emInsert
  repeat' (first
    | with_reducible assumption
    | (extract_lets +onlyGivenNames x; refine Does.cut x ?_ ?_; rotate_left; (intro hx; clear_value x; revert x; intro _ _); rotate_left; (unfold x; clear x))
    | with_reducible refine State.emStatus_does (Sub.trans (by decide) hM) ?_
    | with_reducible refine State.hashInsert_does rfl (Sub.trans (by decide) hM) ?_
    | with_reducible refine State.putRw_does (Sub.trans (by decide) hM) (Sub.off (by decide) (Sub.kind (k := .slice) rfl (by decide) hM)) ?_
    | with_reducible refine State.raise_does (Sub.trans (by decide) hM) (Sub.kindH (k := .slice) rfl (by decide) hM) ?_
    | with_reducible refine Does.of2 (by with_reducible assumption) ?_
    | split)

theorem State.emLookup_does {M : Nat} {s0 s : State} {x1} {x2} (hM : Sub 0x100000000000000020 M) (h : Does M s0 s) :
    Does M s0 (State.emLookup s x1 x2) := by
  unfold State.emLookup
  extract_lets +onlyGivenNames pg
  clear_value (hpg : pg = _)
  subst hpg
  repeat' (first
    | with_reducible assumption
    | (extract_lets +onlyGivenNames x; refine Does.cut x ?_ ?_; rotate_left; (intro hx; clear_value x; revert x; intro _ _); rotate_left; (unfold x; clear x))
    | (extract_lets +onlyGivenNames x; revert x; intro _)
    | with_reducible refine State.emStatus_does (Sub.trans (by decide) hM) ?_
    | with_reducible refine State.fset_does (Sub.trans (by decide) hM) (Sub.fld (by decide) (Sub.kind (k := .slice) rfl (by decide) hM)) ?_
    | with_reducible refine State.putRw_does (Sub.trans (by decide) hM) (Sub.off (by decide) (Sub.kind (k := .slice) rfl (by decide) hM)) ?_
    | with_reducible refine State.setReg_does (Sub.trans (by decide) hM) (Sub.off (by decide) (Sub.kind (k := .slice) rfl (by decide) hM)) ?_
    | with_reducible refine State.setWords_does (Sub.trans (by decide) hM) (Sub.fld (by decide) (Sub.kind (k := .slice) rfl (by decide) hM)) ?_
    | with_reducible refine Does.ite ?_ ?_
    | (clear_value *; split))

theorem State.emSeedWrite_does {M : Nat} {s0 s : State} {x1} {x2} {x3} (hM : Sub 0x7c00000000004000100000000000000022 M) (h : Does M s0 s) :
    Does M s0 (State.emSeedWrite s x1 x2 x3) := by
  unfold State.emSeedWrite
  repeat' (first
    | with_reducible assumption
    | (extract_lets +onlyGivenNames x; revert x; intro _)
    | with_reducible refine State.errCount_does (Sub.trans (by decide) hM) (Sub.kindH (k := .slice) rfl (by decide) hM) ?_
    | with_reducible refine State.setReg_does (Sub.trans (by decide) hM) (Sub.off (Fld.le_at (by decide)) (Sub.kind (k := .slice) rfl (by decide) hM)) ?_
    | with_reducible refine Does.ite ?_ ?_)

theorem State.lpmStatus_does {M : Nat} {s0 s : State} {x1} {x2} {x3} (hM : Sub 0x100000000000000020 M) (h : Does M s0 s) :
    Does M s0 (State.lpmStatus s x1 x2 x3) := by
  unfold State.lpmStatus
  repeat' (first
    | with_reducible assumption
    | (extract_lets +onlyGivenNames x; revert x; intro _)
    | with_reducible refine State.bset_does (Sub.trans (by decide) hM) (Sub.fld (by decide) (Sub.kind (k := .slice) rfl (by decide) hM)) ?_
    | with_reducible refine State.fset_does (Sub.trans (by decide) hM) (Sub.fld (by decide) (Sub.kind (k := .slice) rfl (by decide) hM)) ?_)

theorem State.lpmDeleteCmd_does {M : Nat} {s0 s : State} {x1} {x2} (hM : Sub 0x100000000000008020 M) (h : Does M s0 s) :
    Does M s0 (State.lpmDeleteCmd s x1 x2) := by
  unfold State.lpmDeleteCmd
  repeat' (first
    | with_reducible assumption
    | (extract_lets +onlyGivenNames x; refine Does.cut x ?_ ?_; rotate_left; (intro hx; clear_value x; revert x; intro _ _); rotate_left; (unfold x; clear x))
    | with_reducible refine State.lpmDelete_does rfl (Sub.trans (by decide) hM) ?_
    | with_reducible refine State.lpmStatus_does (Sub.trans (by decide) hM) ?_
    | with_reducible refine State.putRw_does (Sub.trans (by decide) hM) (Sub.off (by decide) (Sub.kind (k := .slice) rfl (by decide) hM)) ?_)

theorem State.lpmInsertCmd_does {M : Nat} {s0 s : State} {x1} {x2} (hM : Sub 0x7c00000000004000100000000000008022 M) (h : Does M s0 s) :
    Does M s0 (State.lpmInsertCmd s x1 x2) := by
  unfold State.lpmInsertCmd
  repeat' (first
    | with_reducible assumption
    | (extract_lets +onlyGivenNames x; refine Does.cut x ?_ ?_; rotate_left; (intro hx; clear_value x; revert x; intro _ _); rotate_left; (unfold x; clear x))
    | with_reducible refine State.lpmInsert_does rfl (Sub.trans (by decide) hM) ?_
    | with_reducible refine State.lpmStatus_does (Sub.trans (by decide) hM) ?_
    | with_reducible refine State.putRw_does (Sub.trans (by decide) hM) (Sub.off (by decide) (Sub.kind (k := .slice) rfl (by decide) hM)) ?_
    | with_reducible refine State.raise_does (Sub.trans (by decide) hM) (Sub.kindH (k := .slice) rfl (by decide) hM) ?_
    | with_reducible refine Does.of2 (by with_reducible assumption) ?_
    | split)

theorem State.lpmLookupCmd_does {M : Nat} {s0 s : State} {x1} {x2} (hM : Sub 0x100000000000000020 M) (h : Does M s0 s) :
    Does M s0 (State.lpmLookupCmd s x1 x2) := by
  unfold State.lpmLookupCmd
  repeat' (first
    | with_reducible assumption
    | (extract_lets +onlyGivenNames x; refine Does.cut x ?_ ?_; rotate_left; (intro hx; clear_value x; revert x; intro _ _); rotate_left; (unfold x; clear x))
    | (extract_lets +onlyGivenNames x; revert x; intro _)
    | with_reducible refine State.fset_does (Sub.trans (by decide) hM) (Sub.fld (by decide) (Sub.kind (k := .slice) rfl (by decide) hM)) ?_
    | with_reducible refine State.lpmStatus_does (Sub.trans (by decide) hM) ?_
    | with_reducible refine State.putRw_does (Sub.trans (by decide) hM) (Sub.off (by decide) (Sub.kind (k := .slice) rfl (by decide) hM)) ?_
    | with_reducible refine State.setReg_does (Sub.trans (by decide) hM) (Sub.off (by decide) (Sub.kind (k := .slice) rfl (by decide) hM)) ?_
    | split)

theorem State.prsMem_does {M : Nat} {s0 s : State} {x1} {x2} {x3} (hM : Sub 0x100000000000008020 M) (h : Does M s0 s) :
    Does M s0 (State.prsMem s x1 x2 x3) := by
  unfold State.prsMem
  repeat' (first
    | with_reducible assumption
    | (extract_lets +onlyGivenNames x; refine Does.cut x ?_ ?_; rotate_left; (intro hx; clear_value x; revert x; intro _ _); rotate_left; (unfold x; clear x))
    | (extract_lets +onlyGivenNames x; revert x; intro _)
    | with_reducible refine State.putRw_does (Sub.trans (by decide) hM) (Sub.off (by decide) (Sub.kind (k := .slice) rfl (by decide) hM)) ?_
    | with_reducible refine State.setTab_does (Sub.trans (by decide) hM) ?_
    | with_reducible refine State.setWords_does (Sub.trans (by decide) hM) (Sub.fld (by decide) (Sub.kind (k := .slice) rfl (by decide) hM)) ?_
    | split)

theorem State.stageCfgWrite_does {M : Nat} {s0 s : State} {x1} {x2} {x3} (hM : Sub 0x7c00000000004000100000000000000022 M) (h : Does M s0 s) :
    Does M s0 (State.stageCfgWrite s x1 x2 x3) := by
  unfold State.stageCfgWrite
  repeat' (first
    | with_reducible assumption
    | with_reducible refine State.errCount_does (Sub.trans (by decide) hM) (Sub.kindH (k := .slice) rfl (by decide) hM) ?_
    | with_reducible refine State.putRw_does (Sub.trans (by decide) hM) (Sub.off (Fld.le_at (by decide)) (Sub.kind (k := .slice) rfl (by decide) hM)) ?_
    | with_reducible refine Does.ite ?_ ?_)

theorem State.tmapStatus_does {M : Nat} {s0 s : State} {x1} {x2} (hM : Sub 0x100000000000000020 M) (h : Does M s0 s) :
    Does M s0 (State.tmapStatus s x1 x2) := by
  unfold State.tmapStatus
  repeat' (first
    | with_reducible assumption
    | with_reducible refine State.bset_does (Sub.trans (by decide) hM) (Sub.fld (by decide) (Sub.kind (k := .slice) rfl (by decide) hM)) ?_
    | with_reducible refine State.fset_does (Sub.trans (by decide) hM) (Sub.fld (by decide) (Sub.kind (k := .slice) rfl (by decide) hM)) ?_)

theorem State.tmapDelete_does {M : Nat} {s0 s : State} {x1} {x2} (hM : Sub 0x100000000000008020 M) (h : Does M s0 s) :
    Does M s0 (State.tmapDelete s x1 x2) := by
  unfold State.tmapDelete
  repeat' (first
    | with_reducible assumption
    | (extract_lets +onlyGivenNames x; refine Does.cut x ?_ ?_; rotate_left; (intro hx; clear_value x; revert x; intro _ _); rotate_left; (unfold x; clear x))
    | (extract_lets +onlyGivenNames x; refine Does.cut x.2 ?_ ?_; rotate_left; (intro hx; clear_value x; revert x; intro _ _); rotate_left; (unfold x; clear x))
    | with_reducible refine State.hashDelete_does rfl (Sub.trans (by decide) hM) ?_
    | with_reducible refine State.putRw_does (Sub.trans (by decide) hM) (Sub.off (by decide) (Sub.kind (k := .slice) rfl (by decide) hM)) ?_
    | with_reducible refine State.tmapStatus_does (Sub.trans (by decide) hM) ?_)

theorem State.tmapInsert_does {M : Nat} {s0 s : State} {x1} {x2} (hM : Sub 0x100000000000008060 M) (h : Does M s0 s) :
    Does M s0 (State.tmapInsert s x1 x2) := by
  unfold State.tmapInsert
  repeat' (first
    | with_reducible assumption
    | (extract_lets +onlyGivenNames x; refine Does.cut x ?_ ?_; rotate_left; (intro hx; clear_value x; revert x; intro _ _); rotate_left; (unfold x; clear x))
    | with_reducible refine State.hashInsert_does rfl (Sub.trans (by decide) hM) ?_
    | with_reducible refine State.putRw_does (Sub.trans (by decide) hM) (Sub.off (by decide) (Sub.kind (k := .slice) rfl (by decide) hM)) ?_
    | with_reducible refine State.tmapStatus_does (Sub.trans (by decide) hM) ?_
    | with_reducible refine Does.of2 (by with_reducible assumption) ?_
    | split)

theorem State.tmapLookup_does {M : Nat} {s0 s : State} {x1} {x2} (hM : Sub 0x100000000000000020 M) (h : Does M s0 s) :
    Does M s0 (State.tmapLookup s x1 x2) := by
  unfold State.tmapLookup
  repeat' (first
    | with_reducible assumption
    | (extract_lets +onlyGivenNames x; refine Does.cut x ?_ ?_; rotate_left; (intro hx; clear_value x; revert x; intro _ _); rotate_left; (unfold x; clear x))
    | with_reducible refine State.fset_does (Sub.trans (by decide) hM) (Sub.fld (by decide) (Sub.kind (k := .slice) rfl (by decide) hM)) ?_
    | with_reducible refine State.putRw_does (Sub.trans (by decide) hM) (Sub.off (by decide) (Sub.kind (k := .slice) rfl (by decide) hM)) ?_
    | with_reducible refine State.tmapStatus_does (Sub.trans (by decide) hM) ?_
    | split)

theorem execEmCmdDone_does {M : Nat} {s0 s : State} {x0} {t : State} (e : execEmCmdDone x0 s = .next t) (hM : Sub 0x100000000000000020 M) (h : Does M s0 s) :
    Does M s0 t := by
  revert e
  unfold execEmCmdDone State.ifOperates
  repeat' (first
    | with_reducible assumption
    | (intro e; with_reducible injection e with e; subst e)
    | with_reducible refine State.bset_does (Sub.trans (by decide) hM) (Sub.fld (by decide) (Sub.kind (k := .slice) rfl (by decide) hM)) ?_
    | with_reducible refine Does.ite ?_ ?_)

theorem execEmDelete_does {M : Nat} {s0 s : State} {x0} {x1} {x2} {t : State} (e : execEmDelete x0 x1 x2 s = .next t) (hM : Sub 0x40007c00000000004000100000000001008022 M) (h : Does M s0 s) :
    Does M s0 t := by
  revert e
  unfold execEmDelete
  repeat' (first
    | with_reducible assumption
    | (intro _ _ _ _)
    | (intro e; with_reducible injection e with e; subst e)
    | with_reducible refine State.accessKind_does (Sub.trans (by decide) hM) ?_ ?_
    | with_reducible refine State.emDelete_does (Sub.trans (by decide) hM) ?_)

theorem execEmInsert_does {M : Nat} {s0 s : State} {x0} {x1} {x2} {t : State} (e : execEmInsert x0 x1 x2 s = .next t) (hM : Sub 0x40007c00000000004000100000000001008062 M) (h : Does M s0 s) :
    Does M s0 t := by
  revert e
  unfold execEmInsert
  repeat' (first
    | with_reducible assumption
    | (intro _ _ _ _)
    | (intro e; with_reducible injection e with e; subst e)
    | with_reducible refine State.accessKind_does (Sub.trans (by decide) hM) ?_ ?_
    | with_reducible refine State.emInsert_does (Sub.trans (by decide) hM) ?_)

theorem execEmLookup_does {M : Nat} {s0 s : State} {x0} {x1} {x2} {t : State} (e : execEmLookup x0 x1 x2 s = .next t) (hM : Sub 0x40007c00000000004000100000000001000022 M) (h : Does M s0 s) :
    Does M s0 t := by
  revert e
  unfold execEmLookup
  repeat' (first
    | with_reducible assumption
    | (intro _ _ _ _)
    | (intro e; with_reducible injection e with e; subst e)
    | with_reducible refine State.accessKind_does (Sub.trans (by decide) hM) ?_ ?_
    | with_reducible refine State.emLookup_does (Sub.trans (by decide) hM) ?_)

theorem execEmSeedWrite_does {M : Nat} {s0 s : State} {x0} {x1} {x2} {x3} {t : State} (e : execEmSeedWrite x0 x1 x2 x3 s = .next t) (hM : Sub 0x40007c00000000004000100000000001000022 M) (h : Does M s0 s) :
    Does M s0 t := by
  revert e
  unfold execEmSeedWrite
  repeat' (first
    | with_reducible assumption
    | (intro _ _ _ _)
    | (intro e; with_reducible injection e with e; subst e)
    | with_reducible refine State.accessKind_does (Sub.trans (by decide) hM) ?_ ?_
    | with_reducible refine State.emSeedWrite_does (Sub.trans (by decide) hM) ?_)

theorem execLpmCmdDone_does {M : Nat} {s0 s : State} {x0} {t : State} (e : execLpmCmdDone x0 s = .next t) (hM : Sub 0x100000000000000020 M) (h : Does M s0 s) :
    Does M s0 t := by
  revert e
  unfold execLpmCmdDone State.ifOperates
  repeat' (first
    | with_reducible assumption
    | (intro e; with_reducible injection e with e; subst e)
    | with_reducible refine State.bset_does (Sub.trans (by decide) hM) (Sub.fld (by decide) (Sub.kind (k := .slice) rfl (by decide) hM)) ?_
    | with_reducible refine Does.ite ?_ ?_)

theorem execLpmDelete_does {M : Nat} {s0 s : State} {x0} {x1} {x2} {t : State} (e : execLpmDelete x0 x1 x2 s = .next t) (hM : Sub 0x40007c00000000004000100000000001008022 M) (h : Does M s0 s) :
    Does M s0 t := by
  revert e
  unfold execLpmDelete
  repeat' (first
    | with_reducible assumption
    | (intro _ _ _ _)
    | (intro e; with_reducible injection e with e; subst e)
    | with_reducible refine State.accessKind_does (Sub.trans (by decide) hM) ?_ ?_
    | with_reducible refine State.lpmDeleteCmd_does (Sub.trans (by decide) hM) ?_)

theorem execLpmInsert_does {M : Nat} {s0 s : State} {x0} {x1} {x2} {t : State} (e : execLpmInsert x0 x1 x2 s = .next t) (hM : Sub 0x40007c00000000004000100000000001008022 M) (h : Does M s0 s) :
    Does M s0 t := by
  revert e
  unfold execLpmInsert
  repeat' (first
    | with_reducible assumption
    | (intro _ _ _ _)
    | (intro e; with_reducible injection e with e; subst e)
    | with_reducible refine State.accessKind_does (Sub.trans (by decide) hM) ?_ ?_
    | with_reducible refine State.lpmInsertCmd_does (Sub.trans (by decide) hM) ?_)

theorem execLpmLookup_does {M : Nat} {s0 s : State} {x0} {x1} {x2} {t : State} (e : execLpmLookup x0 x1 x2 s = .next t) (hM : Sub 0x40007c00000000004000100000000001000022 M) (h : Does M s0 s) :
    Does M s0 t := by
  revert e
  unfold execLpmLookup
  repeat' (first
    | with_reducible assumption
    | (intro _ _ _ _)
    | (intro e; with_reducible injection e with e; subst e)
    | with_reducible refine State.accessKind_does (Sub.trans (by decide) hM) ?_ ?_
    | with_reducible refine State.lpmLookupCmd_does (Sub.trans (by decide) hM) ?_)

theorem execPrsMemRead_does {M : Nat} {s0 s : State} {x0} {x1} {x2} {t : State} (e : execPrsMemRead x0 x1 x2 s = .next t) (hM : Sub 0x40007c00000000004000100000000001008022 M) (h : Does M s0 s) :
    Does M s0 t := by
  revert e
  unfold execPrsMemRead
  repeat' (first
    | with_reducible assumption
    | (intro _ _ _ _)
    | (intro e; with_reducible injection e with e; subst e)
    | with_reducible refine State.accessKind_does (Sub.trans (by decide) hM) ?_ ?_
    | with_reducible refine State.prsMem_does (Sub.trans (by decide) hM) ?_)

theorem execPrsMemWrite_does {M : Nat} {s0 s : State} {x0} {x1} {x2} {t : State} (e : execPrsMemWrite x0 x1 x2 s = .next t) (hM : Sub 0x40007c00000000004000100000000001008022 M) (h : Does M s0 s) :
    Does M s0 t := by
  revert e
  unfold execPrsMemWrite
  repeat' (first
    | with_reducible assumption
    | (intro _ _ _ _)
    | (intro e; with_reducible injection e with e; subst e)
    | with_reducible refine State.accessKind_does (Sub.trans (by decide) hM) ?_ ?_
    | with_reducible refine State.prsMem_does (Sub.trans (by decide) hM) ?_)

theorem execStageCfgWrite_does {M : Nat} {s0 s : State} {x0} {x1} {x2} {x3} {t : State} (e : execStageCfgWrite x0 x1 x2 x3 s = .next t) (hM : Sub 0x40007c00000000004000100000000001000022 M) (h : Does M s0 s) :
    Does M s0 t := by
  revert e
  unfold execStageCfgWrite
  repeat' (first
    | with_reducible assumption
    | (intro _ _ _ _)
    | (intro e; with_reducible injection e with e; subst e)
    | with_reducible refine State.accessKind_does (Sub.trans (by decide) hM) ?_ ?_
    | with_reducible refine State.stageCfgWrite_does (Sub.trans (by decide) hM) ?_)

theorem execTmapCmdDone_does {M : Nat} {s0 s : State} {x0} {t : State} (e : execTmapCmdDone x0 s = .next t) (hM : Sub 0x100000000000000020 M) (h : Does M s0 s) :
    Does M s0 t := by
  revert e
  unfold execTmapCmdDone State.ifOperates
  repeat' (first
    | with_reducible assumption
    | (intro e; with_reducible injection e with e; subst e)
    | with_reducible refine State.bset_does (Sub.trans (by decide) hM) (Sub.fld (by decide) (Sub.kind (k := .slice) rfl (by decide) hM)) ?_
    | with_reducible refine Does.ite ?_ ?_)

theorem execTmapDelete_does {M : Nat} {s0 s : State} {x0} {x1} {x2} {t : State} (e : execTmapDelete x0 x1 x2 s = .next t) (hM : Sub 0x40007c00000000004000100000000001008022 M) (h : Does M s0 s) :
    Does M s0 t := by
  revert e
  unfold execTmapDelete
  repeat' (first
    | with_reducible assumption
    | (intro _ _ _ _)
    | (intro e; with_reducible injection e with e; subst e)
    | with_reducible refine State.accessKind_does (Sub.trans (by decide) hM) ?_ ?_
    | with_reducible refine State.tmapDelete_does (Sub.trans (by decide) hM) ?_)

theorem execTmapInsert_does {M : Nat} {s0 s : State} {x0} {x1} {x2} {t : State} (e : execTmapInsert x0 x1 x2 s = .next t) (hM : Sub 0x40007c00000000004000100000000001008062 M) (h : Does M s0 s) :
    Does M s0 t := by
  revert e
  unfold execTmapInsert
  repeat' (first
    | with_reducible assumption
    | (intro _ _ _ _)
    | (intro e; with_reducible injection e with e; subst e)
    | with_reducible refine State.accessKind_does (Sub.trans (by decide) hM) ?_ ?_
    | with_reducible refine State.tmapInsert_does (Sub.trans (by decide) hM) ?_)

theorem execTmapLookup_does {M : Nat} {s0 s : State} {x0} {x1} {x2} {t : State} (e : execTmapLookup x0 x1 x2 s = .next t) (hM : Sub 0x40007c00000000004000100000000001000022 M) (h : Does M s0 s) :
    Does M s0 t := by
  revert e
  unfold execTmapLookup
  repeat' (first
    | with_reducible assumption
    | (intro _ _ _ _)
    | (intro e; with_reducible injection e with e; subst e)
    | with_reducible refine State.accessKind_does (Sub.trans (by decide) hM) ?_ ?_
    | with_reducible refine State.tmapLookup_does (Sub.trans (by decide) hM) ?_)

end Sys2Proof.Machine
end

