-- ==== Sys2Proof/Laws/Wear.lean ====
section
/-!
SUPPORT. What each operation of Machine/Wear.lean can change, and that it takes nothing back.
-/
namespace Sys2Proof.Machine

theorem State.wearCtrl_does {M : Nat} {s0 s : State} {x1 : Page} {x2} (hM : Sub 32 M) (hB1 : Sub x1.blk M) (h : Does M s0 s) :
    Does M s0 (State.wearCtrl s x1 x2) := by
  unfold State.wearCtrl
  repeat' (first
    | with_reducible assumption
    | with_reducible refine State.bset_does (Sub.trans (by decide) hM) (Sub.fld (by decide) hB1) ?_
    | with_reducible refine Does.ite ?_ ?_)

theorem State.wearHours_does {M : Nat} {s0 s : State} {x1 : Page} {x2} {x3} (hM : Sub 32 M) (hB1 : Sub x1.blk M) (hH1 : Sub x1.hdr M) (h : Does M s0 s) :
    Does M s0 (State.wearHours s x1 x2 x3) := by
  unfold State.wearHours
  repeat' (first
    | with_reducible assumption
    | with_reducible refine State.setReg_does (Sub.trans (by decide) hM) (Sub.offB hB1 hH1) ?_
    | with_reducible refine Does.ite ?_ ?_)

theorem State.wearMeasured_does {M : Nat} {s0 s : State} {x1} {x2} (hM : Sub 0x40000007c00000004004000000000000000001022 M) (h : Does M s0 s) :
    Does M s0 (State.wearMeasured s x1 x2) := by
  unfold State.wearMeasured
  repeat' (first
    | with_reducible assumption
    | (extract_lets +onlyGivenNames x; revert x; intro _)
    | with_reducible refine State.emit_does (Sub.trans (by decide) hM) ?_
    | with_reducible refine State.fset_does (Sub.trans (by decide) hM) (Sub.fld (by decide) (Sub.kind (k := .aon) rfl (by decide) hM)) ?_
    | with_reducible refine State.raiseIf_does (Sub.trans (by decide) hM) (Sub.kindH (k := .aon) rfl (by decide) hM) ?_
    | with_reducible refine Does.ite ?_ ?_
    | refine Does.put_wearBase (Sub.trans (by decide) hM) ?_ (fun c => Sparse.wf_set _ _ _ _ c))

theorem execWearHourTick_does {M : Nat} {s0 s : State} {x0} {t : State} (e : execWearHourTick x0 s = .next t) (hM : Sub 0x4000000000000000000000020 M) (h : Does M s0 s) :
    Does M s0 t := by
  revert e
  unfold execWearHourTick State.ifOperates
  repeat' (first
    | with_reducible assumption
    | (intro e; with_reducible injection e with e; subst e)
    | with_reducible refine State.fsat_does (Sub.trans (by decide) hM) (Sub.fld (by decide) (Sub.kind (k := .aon) rfl (by decide) hM)) ?_
    | with_reducible refine Does.ite ?_ ?_)

theorem execWearHoursLoad_does {M : Nat} {s0 s : State} {x0} {x1} {x2} {t : State} (e : execWearHoursLoad x0 x1 x2 s = .next t) (hM : Sub 0x40007c00000004004000000000000001000022 M) (h : Does M s0 s) :
    Does M s0 t := by
  revert e
  unfold execWearHoursLoad
  repeat' (first
    | with_reducible assumption
    | (intro _ _ _ _)
    | (intro e; with_reducible injection e with e; subst e)
    | with_reducible refine State.accessKind_does (Sub.trans (by decide) hM) ?_ ?_
    | with_reducible refine State.wearCtrl_does (Sub.trans (by decide) hM) (Sub.kind (k := .aon) (by with_reducible assumption) (by decide) hM) ?_)

theorem execWearMeasure_does {M : Nat} {s0 s : State} {x0} {x1} {t : State} (e : execWearMeasure x0 x1 s = .next t) (hM : Sub 0x40000007c00000004004000000000000000001022 M) (h : Does M s0 s) :
    Does M s0 t := by
  revert e
  unfold execWearMeasure State.ifOperates
  repeat' (first
    | with_reducible assumption
    | (intro e; with_reducible injection e with e; subst e)
    | with_reducible refine State.wearMeasured_does (Sub.trans (by decide) hM) ?_
    | with_reducible refine Does.ite ?_ ?_)

end Sys2Proof.Machine
end

