-- ==== Sys2Proof/Laws/Access.lean ====
section
/-!
SUPPORT. What each operation of Machine/Access.lean can change, and that it takes nothing back.
-/
namespace Sys2Proof.Machine

theorem Page.pmcWrites_does {M : Nat} {s0 : State} (hM : Sub 96 M) (p : Page) (hB0 : Sub p.blk M) (hH0 : Sub p.hdr M) :
    ∀ w ∈ p.pmcWrites, ∀ i v s, Does M s0 s → Does M s0 (w.2.2 i v s) := by
  intro w hw i v s h
  unfold Page.pmcWrites at hw
  dsimp only at hw
  split at hw
  · rw [List.mem_singleton.mp hw]
    exact State.pmcSel_does (Sub.trans (by decide) hM) hB0 hH0 h
  · cases hw

theorem State.plainWrite_does {M : Nat} {s0 s : State} {x1 : Page} {x2} {x3} (hM : Sub 32 M) (hB1 : Sub x1.blk M) (hH1 : Sub x1.hdr M) (h : Does M s0 s) :
    Does M s0 (State.plainWrite s x1 x2 x3) := by
  unfold State.plainWrite
  repeat' (first
    | with_reducible assumption
    | (extract_lets +onlyGivenNames x; revert x; intro _)
    | with_reducible refine State.setReg_does (Sub.trans (by decide) hM) (Sub.offB hB1 hH1) ?_
    | split)

theorem State.byOp_does {M : Nat} {s0 s : State} {x1 : Page} {x2} {x3} {x4} {x5 : List (ℕ × (State → State))} (hM : Sub 32 M) (hB1 : Sub x1.blk M) (hH1 : Sub x1.hdr M) (h : Does M s0 s) (hf5 : ∀ f ∈ x5, ∀ s, Does M s0 s → Does M s0 (f.2 s)) :
    Does M s0 (State.byOp s x1 x2 x3 x4 x5) := by
  unfold State.byOp
  split
  · exact hf5 _ (List.mem_of_find?_eq_some ‹_›) _ h
  · exact State.plainWrite_does (Sub.trans (by decide) hM) hB1 hH1 h

theorem acctWrites_does {M : Nat} {s0 : State} (hM : Sub 0x7c00000000004000000000000040000022 M) (p : Page) (hB0 : Sub p.blk M) (hH0 : Sub p.hdr M) :
    ∀ w ∈ acctWrites p, ∀ i v s, Does M s0 s → Does M s0 (w.2.2 i v s) := by
  intro w hw i v s h
  simp only [acctWrites, List.mem_cons, List.not_mem_nil, or_false] at hw
  repeat' (rcases hw with rfl | hw)
  all_goals try subst hw
  all_goals dsimp only
  all_goals repeat' (first
    | with_reducible assumption
    | with_reducible refine State.acctCfg_does (Sub.trans (by decide) hM) hB0 hH0 ?_
    | with_reducible refine State.liveRead_does (Sub.trans (by decide) hM) hB0 ?_
    | with_reducible refine State.weightCmd_does (Sub.trans (by decide) hM) hB0 ?_)

theorem State.sleepCfg_does {M : Nat} {s0 s : State} {x1 : Page} {x2} (hM : Sub 137438953504 M) (hB1 : Sub x1.blk M) (hH1 : Sub x1.hdr M) (h : Does M s0 s) :
    Does M s0 (State.sleepCfg s x1 x2) := by
  unfold State.sleepCfg
  repeat' (first
    | with_reducible assumption
    | (intro _ _ _)
    | (extract_lets +onlyGivenNames x; refine Does.cut x ?_ ?_; rotate_left; (intro hx; clear_value x; revert x; intro _ _); rotate_left; (unfold x; clear x))
    | with_reducible refine State.plainWrite_does (Sub.trans (by decide) hM) hB1 hH1 ?_
    | with_reducible refine State.wakeCause_does (Sub.trans (by decide) hM) ?_
    | with_reducible refine Does.fold ?_ ?_
    | with_reducible refine Does.ite ?_ ?_)

theorem aonWrites_does {M : Nat} {s0 : State} (hM : Sub 137438953504 M) (p : Page) (hB0 : Sub p.blk M) (hH0 : Sub p.hdr M) :
    ∀ w ∈ aonWrites p, ∀ i v s, Does M s0 s → Does M s0 (w.2.2 i v s) := by
  intro w hw i v s h
  simp only [aonWrites, List.mem_cons, List.not_mem_nil, or_false] at hw
  repeat' (rcases hw with rfl | hw)
  all_goals try subst hw
  all_goals dsimp only
  all_goals repeat' (first
    | with_reducible assumption
    | with_reducible refine State.sleepCfg_does (Sub.trans (by decide) hM) hB0 hH0 ?_
    | with_reducible refine State.wearCtrl_does (Sub.trans (by decide) hM) hB0 ?_
    | with_reducible refine State.wearHours_does (Sub.trans (by decide) hM) hB0 hH0 ?_)

theorem bufWrites_does {M : Nat} {s0 : State} (hM : Sub 0x4007c00000007ffff007e0000000008000022 M) (p : Page) (hB0 : Sub p.blk M) (hH0 : Sub p.hdr M) :
    ∀ w ∈ bufWrites p, ∀ i v s, Does M s0 s → Does M s0 (w.2.2 i v s) := by
  intro w hw i v s h
  simp only [bufWrites, List.mem_cons, List.not_mem_nil, or_false] at hw
  repeat' (rcases hw with rfl | hw)
  all_goals try subst hw
  all_goals dsimp only
  all_goals repeat' (first
    | with_reducible assumption
    | (with_reducible refine State.byOp_does (Sub.trans (by decide) hM) hB0 hH0 ?_ ?_)
    | (with_reducible refine List.forall_mem_cons.mpr ⟨fun _ _ => ?_, ?_⟩)
    | exact List.forall_mem_nil _
    | with_reducible refine State.hqCfgWrite_does (Sub.trans (by decide) hM) ?_
    | with_reducible refine State.limitWrite_does (Sub.trans (by decide) hM) hB0 hH0 ?_
    | with_reducible refine State.mcRead_does (Sub.trans (by decide) hM) hB0 ?_
    | with_reducible refine State.mcWrite_does (Sub.trans (by decide) hM) hB0 ?_)

theorem cipherWrites_does {M : Nat} {s0 : State} (hM : Sub 0x100007c00000000014000000000000400000022 M) (p : Page) (hB0 : Sub p.blk M) (hH0 : Sub p.hdr M) :
    ∀ w ∈ cipherWrites p, ∀ i v s, Does M s0 s → Does M s0 (w.2.2 i v s) := by
  intro w hw i v s h
  simp only [cipherWrites, List.mem_cons, List.not_mem_nil, or_false] at hw
  repeat' (rcases hw with rfl | hw)
  all_goals try subst hw
  all_goals dsimp only
  all_goals repeat' (first
    | with_reducible assumption
    | (with_reducible refine State.byOp_does (Sub.trans (by decide) hM) hB0 hH0 ?_ ?_)
    | (with_reducible refine List.forall_mem_cons.mpr ⟨fun _ _ => ?_, ?_⟩)
    | exact List.forall_mem_nil _
    | with_reducible refine State.keyErase_does (Sub.trans (by decide) hM) ?_
    | with_reducible refine State.keyInfo_does (Sub.trans (by decide) hM) ?_
    | with_reducible refine State.keyWrite_does (Sub.trans (by decide) hM) ?_
    | with_reducible refine State.setReg_does (Sub.trans (by decide) hM) (Sub.offB hB0 hH0) ?_)

theorem clsWrites_does {M : Nat} {s0 : State} (hM : Sub 0x2000007c00000000204000000000000000040022 M) (p : Page) (hB0 : Sub p.blk M) (hH0 : Sub p.hdr M) :
    ∀ w ∈ clsWrites p, ∀ i v s, Does M s0 s → Does M s0 (w.2.2 i v s) := by
  intro w hw i v s h
  simp only [clsWrites, List.mem_cons, List.not_mem_nil, or_false] at hw
  repeat' (rcases hw with rfl | hw)
  all_goals try subst hw
  all_goals dsimp only
  all_goals repeat' (first
    | with_reducible assumption
    | (with_reducible refine State.byOp_does (Sub.trans (by decide) hM) hB0 hH0 ?_ ?_)
    | (with_reducible refine List.forall_mem_cons.mpr ⟨fun _ _ => ?_, ?_⟩)
    | exact List.forall_mem_nil _
    | with_reducible refine State.cacheFlush_does (Sub.trans (by decide) hM) hB0 ?_
    | with_reducible refine State.plainWrite_does (Sub.trans (by decide) hM) hB0 hH0 ?_
    | with_reducible refine State.rootWrite_does (Sub.trans (by decide) hM) ?_
    | with_reducible refine State.swapStart_does (Sub.trans (by decide) hM) ?_
    | with_reducible refine State.ttCmd_does (Sub.trans (by decide) hM) ?_
    | with_reducible refine Does.ite ?_ ?_)

theorem State.coxBrake_does {M : Nat} {s0 s : State} {x1 : Page} {x2} (hM : Sub 0x400007c00000000044000000000002200180062 M) (hB1 : Sub x1.blk M) (hH1 : Sub x1.hdr M) (h : Does M s0 s) :
    Does M s0 (State.coxBrake s x1 x2) := by
  unfold State.coxBrake
  repeat' (first
    | with_reducible assumption
    | (extract_lets +onlyGivenNames x; refine Does.cut x ?_ ?_; rotate_left; (intro hx; clear_value x; revert x; intro _ _); rotate_left; (unfold x; clear x))
    | (extract_lets +onlyGivenNames x; revert x; intro _)
    | with_reducible refine State.episodes_does (Sub.trans (by decide) hM) ?_
    | with_reducible refine State.jumpRatings_does (Sub.trans (by decide) hM) ?_
    | with_reducible refine State.plainWrite_does (Sub.trans (by decide) hM) hB1 hH1 ?_
    | with_reducible refine State.setCox_does (Sub.trans (by decide) hM) ?_
    | with_reducible refine State.setDemands_does (Sub.trans (by decide) hM) ?_
    | with_reducible refine Does.ite ?_ ?_)

theorem coxWrites_does {M : Nat} {s0 : State} (hM : Sub 0x400007c00000000044000000000002200180062 M) (p : Page) (hB0 : Sub p.blk M) (hH0 : Sub p.hdr M) :
    ∀ w ∈ coxWrites p, ∀ i v s, Does M s0 s → Does M s0 (w.2.2 i v s) := by
  intro w hw i v s h
  simp only [coxWrites, List.mem_cons, List.not_mem_nil, or_false] at hw
  repeat' (rcases hw with rfl | hw)
  all_goals try subst hw
  all_goals dsimp only
  all_goals repeat' (first
    | with_reducible assumption
    | with_reducible refine State.calCtrl_does (Sub.trans (by decide) hM) hB0 ?_
    | with_reducible refine State.coxBrake_does (Sub.trans (by decide) hM) hB0 hH0 ?_
    | with_reducible refine State.coxCap_does (Sub.trans (by decide) hM) hB0 hH0 ?_
    | with_reducible refine State.coxCfg_does (Sub.trans (by decide) hM) hB0 ?_
    | with_reducible refine State.coxSlice_does (Sub.trans (by decide) hM) hB0 hH0 ?_)

theorem csWrites_does {M : Nat} {s0 : State} (hM : Sub 0x3002007c000000003557003400000066c37c8066 M) (p : Page) (hB0 : Sub p.blk M) (hH0 : Sub p.hdr M) :
    ∀ w ∈ csWrites p, ∀ i v s, Does M s0 s → Does M s0 (w.2.2 i v s) := by
  intro w hw i v s h
  simp only [csWrites, List.mem_cons, List.not_mem_nil, or_false] at hw
  repeat' (rcases hw with rfl | hw)
  all_goals try subst hw
  all_goals dsimp only
  all_goals repeat' (first
    | with_reducible assumption
    | (with_reducible refine State.byOp_does (Sub.trans (by decide) hM) hB0 hH0 ?_ ?_)
    | (with_reducible refine List.forall_mem_cons.mpr ⟨fun _ _ => ?_, ?_⟩)
    | exact List.forall_mem_nil _
    | with_reducible refine State.csCtrlWrite_does (Sub.trans (by decide) hM) ?_
    | with_reducible refine State.csRead_does (Sub.trans (by decide) hM) ?_
    | with_reducible refine State.csWrite_does (Sub.trans (by decide) hM) ?_
    | with_reducible refine State.eventGo_does (Sub.trans (by decide) hM) hB0 ?_
    | with_reducible refine State.plainWrite_does (Sub.trans (by decide) hM) hB0 hH0 ?_
    | with_reducible refine Does.ite ?_ ?_)

theorem dtuWrites_does {M : Nat} {s0 : State} (hM : Sub 0x30c2007c0000000035d7003400000057c37c8066 M) (p : Page) (hB0 : Sub p.blk M) (hH0 : Sub p.hdr M) :
    ∀ w ∈ dtuWrites p, ∀ i v s, Does M s0 s → Does M s0 (w.2.2 i v s) := by
  intro w hw i v s h
  simp only [dtuWrites, List.mem_cons, List.not_mem_nil, or_false] at hw
  repeat' (rcases hw with rfl | hw)
  all_goals try subst hw
  all_goals dsimp only
  all_goals repeat' (first
    | with_reducible assumption
    | (with_reducible refine State.byOp_does (Sub.trans (by decide) hM) hB0 hH0 ?_ ?_)
    | (with_reducible refine List.forall_mem_cons.mpr ⟨fun _ _ => ?_, ?_⟩)
    | exact List.forall_mem_nil _
    | with_reducible refine State.faultCmd_does (Sub.trans (by decide) hM) ?_
    | with_reducible refine State.invAll_does (Sub.trans (by decide) hM) hB0 ?_
    | with_reducible refine State.invRange_does (Sub.trans (by decide) hM) hB0 ?_
    | with_reducible refine State.invSpace_does (Sub.trans (by decide) hM) hB0 ?_)

theorem hifWrites_does {M : Nat} {s0 : State} (hM : Sub 0x40007c00000000004000000000001000000022 M) (p : Page) (hB0 : Sub p.blk M) (hH0 : Sub p.hdr M) :
    ∀ w ∈ hifWrites p, ∀ i v s, Does M s0 s → Does M s0 (w.2.2 i v s) := by
  intro w hw i v s h
  simp only [hifWrites, List.mem_cons, List.not_mem_nil, or_false] at hw
  repeat' (rcases hw with rfl | hw)
  all_goals try subst hw
  all_goals dsimp only
  all_goals repeat' (first
    | with_reducible assumption
    | with_reducible refine State.hbqMap_does (Sub.trans (by decide) hM) hB0 hH0 ?_
    | with_reducible refine State.hqEnable_does (Sub.trans (by decide) hM) ?_
    | with_reducible refine State.poolReg_does (Sub.trans (by decide) hM) ?_
    | with_reducible refine State.ringReg_does (Sub.trans (by decide) hM) ?_)

theorem State.gateAdmin_does {M : Nat} {s0 s : State} {x1 : Page} {x2} {x3} (hM : Sub 0x7c00000000004000040000000000000022 M) (hB1 : Sub x1.blk M) (hH1 : Sub x1.hdr M) (h : Does M s0 s) :
    Does M s0 (State.gateAdmin s x1 x2 x3) := by
  unfold State.gateAdmin
  repeat' (first
    | with_reducible assumption
    | with_reducible refine State.gateRefuse_does (Sub.trans (by decide) hM) ?_
    | with_reducible refine State.plainWrite_does (Sub.trans (by decide) hM) hB1 hH1 ?_
    | with_reducible refine Does.ite ?_ ?_)

theorem portWrites_does {M : Nat} {s0 : State} (hM : Sub 0x7c00000000004000040000000000404066 M) (p : Page) (hB0 : Sub p.blk M) (hH0 : Sub p.hdr M) :
    ∀ w ∈ portWrites p, ∀ i v s, Does M s0 s → Does M s0 (w.2.2 i v s) := by
  intro w hw i v s h
  simp only [portWrites, List.mem_cons, List.not_mem_nil, or_false] at hw
  repeat' (rcases hw with rfl | hw)
  all_goals try subst hw
  all_goals dsimp only
  all_goals repeat' (first
    | with_reducible assumption
    | (with_reducible refine State.byOp_does (Sub.trans (by decide) hM) hB0 hH0 ?_ ?_)
    | (with_reducible refine List.forall_mem_cons.mpr ⟨fun _ _ => ?_, ?_⟩)
    | exact List.forall_mem_nil _
    | with_reducible refine State.adjustV_does (Sub.trans (by decide) hM) ?_
    | with_reducible refine State.gateAdmin_does (Sub.trans (by decide) hM) hB0 hH0 ?_
    | with_reducible refine State.gateChange_does (Sub.trans (by decide) hM) ?_
    | with_reducible refine State.gateListRead_does (Sub.trans (by decide) hM) hB0 ?_
    | with_reducible refine State.gateListWrite_does (Sub.trans (by decide) hM) hB0 ?_
    | with_reducible refine State.mmCfg_does (Sub.trans (by decide) hM) hB0 hH0 ?_
    | with_reducible refine State.plainWrite_does (Sub.trans (by decide) hM) hB0 hH0 ?_
    | with_reducible refine State.putRw_does (Sub.trans (by decide) hM) (Sub.off (by decide) hB0) ?_
    | with_reducible refine State.rateWrite_does (Sub.trans (by decide) hM) hB0 hH0 ?_
    | with_reducible refine State.schReg_does (Sub.trans (by decide) hM) hB0 hH0 ?_
    | with_reducible refine Does.ite ?_ ?_)

theorem qdrWrites_does {M : Nat} {s0 : State} (hM : Sub 0x8007c00000000004800000000000000020022 M) (p : Page) (hB0 : Sub p.blk M) (hH0 : Sub p.hdr M) :
    ∀ w ∈ qdrWrites p, ∀ i v s, Does M s0 s → Does M s0 (w.2.2 i v s) := by
  intro w hw i v s h
  simp only [qdrWrites, List.mem_cons, List.not_mem_nil, or_false] at hw
  repeat' (rcases hw with rfl | hw)
  all_goals try subst hw
  all_goals dsimp only
  all_goals repeat' (first
    | with_reducible assumption
    | (with_reducible refine State.byOp_does (Sub.trans (by decide) hM) hB0 hH0 ?_ ?_)
    | (with_reducible refine List.forall_mem_cons.mpr ⟨fun _ _ => ?_, ?_⟩)
    | exact List.forall_mem_nil _
    | with_reducible refine State.qdrStart_does (Sub.trans (by decide) hM) ?_)

theorem sliceWrites_does {M : Nat} {s0 : State} (hM : Sub 0x1000007c000000001040001000000000c0608062 M) (p : Page) (hB0 : Sub p.blk M) (hH0 : Sub p.hdr M) :
    ∀ w ∈ sliceWrites p, ∀ i v s, Does M s0 s → Does M s0 (w.2.2 i v s) := by
  intro w hw i v s h
  simp only [sliceWrites, List.mem_cons, List.not_mem_nil, or_false] at hw
  repeat' (rcases hw with rfl | hw)
  all_goals try subst hw
  all_goals dsimp only
  all_goals repeat' (first
    | with_reducible assumption
    | (with_reducible refine State.byOp_does (Sub.trans (by decide) hM) hB0 hH0 ?_ ?_)
    | (with_reducible refine List.forall_mem_cons.mpr ⟨fun _ _ => ?_, ?_⟩)
    | exact List.forall_mem_nil _
    | with_reducible refine State.blockCfgWrite_does (Sub.trans (by decide) hM) ?_
    | with_reducible refine State.emDelete_does (Sub.trans (by decide) hM) ?_
    | with_reducible refine State.emInsert_does (Sub.trans (by decide) hM) ?_
    | with_reducible refine State.emLookup_does (Sub.trans (by decide) hM) ?_
    | with_reducible refine State.emSeedWrite_does (Sub.trans (by decide) hM) ?_
    | with_reducible refine State.idxCmd_does (Sub.trans (by decide) hM) ?_
    | with_reducible refine State.lockWrite_does (Sub.trans (by decide) hM) ?_
    | with_reducible refine State.lpmDeleteCmd_does (Sub.trans (by decide) hM) ?_
    | with_reducible refine State.lpmInsertCmd_does (Sub.trans (by decide) hM) ?_
    | with_reducible refine State.lpmLookupCmd_does (Sub.trans (by decide) hM) ?_
    | with_reducible refine State.paddleCtrl_does (Sub.trans (by decide) hM) ?_
    | with_reducible refine State.policerRead_does (Sub.trans (by decide) hM) hB0 ?_
    | with_reducible refine State.policerReadClear_does (Sub.trans (by decide) hM) hB0 ?_
    | with_reducible refine State.policerWrite_does (Sub.trans (by decide) hM) hB0 ?_
    | with_reducible refine State.prsMem_does (Sub.trans (by decide) hM) ?_
    | with_reducible refine State.rowRead_does (Sub.trans (by decide) hM) ?_
    | with_reducible refine State.rowValid_does (Sub.trans (by decide) hM) ?_
    | with_reducible refine State.rowWrite_does (Sub.trans (by decide) hM) ?_
    | with_reducible refine State.stageCfgWrite_does (Sub.trans (by decide) hM) ?_
    | with_reducible refine State.tmapDelete_does (Sub.trans (by decide) hM) ?_
    | with_reducible refine State.tmapInsert_does (Sub.trans (by decide) hM) ?_
    | with_reducible refine State.tmapLookup_does (Sub.trans (by decide) hM) ?_)

theorem State.telSel_does {M : Nat} {s0 s : State} {x1 : Page} {x2} {x3} (hM : Sub 2147483680 M) (hB1 : Sub x1.blk M) (hH1 : Sub x1.hdr M) (h : Does M s0 s) :
    Does M s0 (State.telSel s x1 x2 x3) := by
  unfold State.telSel
  repeat' (first
    | with_reducible assumption
    | (extract_lets +onlyGivenNames x; refine Does.cut x ?_ ?_; rotate_left; (intro hx; clear_value x; revert x; intro _ _); rotate_left; (unfold x; clear x))
    | (extract_lets +onlyGivenNames x; revert x; intro _)
    | with_reducible refine State.plainWrite_does (Sub.trans (by decide) hM) hB1 hH1 ?_
    | with_reducible refine State.setTel_does (Sub.trans (by decide) hM) ?_
    | with_reducible refine Does.ite ?_ ?_)

theorem telWrites_does {M : Nat} {s0 : State} (hM : Sub 0x1000007c00000000104000000000000080000062 M) (p : Page) (hB0 : Sub p.blk M) (hH0 : Sub p.hdr M) :
    ∀ w ∈ telWrites p, ∀ i v s, Does M s0 s → Does M s0 (w.2.2 i v s) := by
  intro w hw i v s h
  simp only [telWrites, List.mem_cons, List.not_mem_nil, or_false] at hw
  repeat' (rcases hw with rfl | hw)
  all_goals try subst hw
  all_goals dsimp only
  all_goals repeat' (first
    | with_reducible assumption
    | with_reducible refine State.collCfg_does (Sub.trans (by decide) hM) hB0 hH0 ?_
    | with_reducible refine State.telSel_does (Sub.trans (by decide) hM) hB0 hH0 ?_)

theorem State.freqInit_does {M : Nat} {s0 s : State} {x1 : Page} {x2} (hM : Sub 0x200007c00000000024000000000000020000022 M) (hB1 : Sub x1.blk M) (h : Does M s0 s) :
    Does M s0 (State.freqInit s x1 x2) := by
  unfold State.freqInit
  repeat' (first
    | with_reducible assumption
    | (extract_lets +onlyGivenNames x; refine Does.cut x ?_ ?_; rotate_left; (intro hx; clear_value x; revert x; intro _ _); rotate_left; (unfold x; clear x))
    | with_reducible refine State.enterFree_does (Sub.trans (by decide) hM) ?_
    | with_reducible refine State.setReg_does (Sub.trans (by decide) hM) (Sub.off (by decide) hB1) ?_
    | with_reducible refine Does.ite ?_ ?_)

theorem timeWrites_does {M : Nat} {s0 : State} (hM : Sub 0x200007c00000000024000040000000020404066 M) (p : Page) (hB0 : Sub p.blk M) (hH0 : Sub p.hdr M) :
    ∀ w ∈ timeWrites p, ∀ i v s, Does M s0 s → Does M s0 (w.2.2 i v s) := by
  intro w hw i v s h
  simp only [timeWrites, List.mem_cons, List.not_mem_nil, or_false] at hw
  repeat' (rcases hw with rfl | hw)
  all_goals try subst hw
  all_goals dsimp only
  all_goals repeat' (first
    | with_reducible assumption
    | with_reducible refine State.cmpArm_does (Sub.trans (by decide) hM) hB0 hH0 ?_
    | with_reducible refine State.cmpBase_does (Sub.trans (by decide) hM) ?_
    | with_reducible refine State.errCount_does (Sub.trans (by decide) hM) hH0 ?_
    | with_reducible refine State.freqInit_does (Sub.trans (by decide) hM) hB0 ?_
    | with_reducible refine State.offsetSubmit_does (Sub.trans (by decide) hM) hB0 hH0 ?_
    | with_reducible refine State.plainWrite_does (Sub.trans (by decide) hM) hB0 hH0 ?_
    | with_reducible refine State.timeCtrl_does (Sub.trans (by decide) hM) hB0 ?_
    | with_reducible refine State.timeSetCtrl_does (Sub.trans (by decide) hM) hB0 hH0 ?_
    | with_reducible refine Does.ite ?_ ?_)

theorem Page.writes_does {M : Nat} {s0 : State} (hM : Sub 0x7ffff007e00000007ffff007e0000007fff7ee176 M) (p : Page) (src : Source) (hB0 : Sub p.blk M) (hH0 : Sub p.hdr M) :
    ∀ w ∈ p.writes src, ∀ i v s, Does M s0 s → Does M s0 (w.2.2 i v s) := by
  intro w hw i v s h
  unfold Page.writes at hw
  split at hw
  all_goals first
    | exact acctWrites_does (Sub.trans (by decide) hM) _ hB0 hH0 w hw i v s h
    | exact aonWrites_does (Sub.trans (by decide) hM) _ hB0 hH0 w hw i v s h
    | exact bufWrites_does (Sub.trans (by decide) hM) _ hB0 hH0 w hw i v s h
    | exact cipherWrites_does (Sub.trans (by decide) hM) _ hB0 hH0 w hw i v s h
    | exact clsWrites_does (Sub.trans (by decide) hM) _ hB0 hH0 w hw i v s h
    | exact coxWrites_does (Sub.trans (by decide) hM) _ hB0 hH0 w hw i v s h
    | exact csWrites_does (Sub.trans (by decide) hM) _ hB0 hH0 w hw i v s h
    | exact dtuWrites_does (Sub.trans (by decide) hM) _ hB0 hH0 w hw i v s h
    | exact hifWrites_does (Sub.trans (by decide) hM) _ hB0 hH0 w hw i v s h
    | exact portWrites_does (Sub.trans (by decide) hM) _ hB0 hH0 w hw i v s h
    | exact qdrWrites_does (Sub.trans (by decide) hM) _ hB0 hH0 w hw i v s h
    | exact sliceWrites_does (Sub.trans (by decide) hM) _ hB0 hH0 w hw i v s h
    | exact telWrites_does (Sub.trans (by decide) hM) _ hB0 hH0 w hw i v s h
    | exact timeWrites_does (Sub.trans (by decide) hM) _ hB0 hH0 w hw i v s h
    | (simp only [List.mem_cons, List.not_mem_nil, or_false] at hw; (repeat' (rcases hw with rfl | hw)); all_goals (subst_vars; repeat' (first
        | with_reducible assumption
        | (with_reducible refine State.byOp_does (Sub.trans (by decide) hM) hB0 hH0 ?_ ?_)
        | (with_reducible refine List.forall_mem_cons.mpr ⟨fun _ _ => ?_, ?_⟩)
        | exact List.forall_mem_nil _
        | with_reducible refine State.arrangeWrite_does (Sub.trans (by decide) hM) hB0 hH0 ?_
        | with_reducible refine State.dumpCtrl_does (Sub.trans (by decide) hM) hB0 hH0 ?_
        | with_reducible refine State.keelCtrl_does (Sub.trans (by decide) hM) hB0 ?_
        | with_reducible refine State.msecCmd_does (Sub.trans (by decide) hM) hB0 ?_
        | with_reducible refine State.otpCmd_does (Sub.trans (by decide) hM) ?_
        | with_reducible refine State.rxLimit_does (Sub.trans (by decide) hM) hB0 hH0 ?_
        | with_reducible refine State.subDisable_does (Sub.trans (by decide) hM) hB0 ?_
        | with_reducible refine State.watchdogWrite_does (Sub.trans (by decide) hM) hB0 ?_
        | with_reducible refine Does.ite ?_ ?_
        | with_reducible refine Does.of2 (by with_reducible assumption) ?_
        | with_reducible refine Does.of3 (by with_reducible assumption) ?_
        | with_reducible refine Does.of4 (by with_reducible assumption) ?_
        | split
        | (clear_value *; split))))
    | cases hw

theorem State.hifWindow_does {M : Nat} {s0 s : State} {x1} {x2} {x3} {r} (e : State.hifWindow s x1 x2 x3 = some r) (hM : Sub 0x40007c00000000004000000000001000000022 M) (h : Does M s0 s) :
    Does M s0 r := by
  revert e
  unfold State.hifWindow
  repeat' (first
    | with_reducible assumption
    | (intro e; with_reducible injection e with e; subst e)
    | (intro e; with_reducible contradiction)
    | (extract_lets +onlyGivenNames x; revert x; intro _)
    | with_reducible refine State.cqDoorbell_does (Sub.trans (by decide) hM) ?_
    | with_reducible refine State.doorbell_does (Sub.trans (by decide) hM) ?_
    | with_reducible refine State.poolDoorbell_does (Sub.trans (by decide) hM) ?_
    | with_reducible refine State.setReg_does (Sub.trans (by decide) hM) (Sub.offB (Sub.kind (k := .hif) rfl (by decide) hM) (Sub.kindH (k := .hif) rfl (by decide) hM)) ?_
    | with_reducible refine State.vectorControl_does (Sub.trans (by decide) hM) ?_
    | with_reducible refine Does.ite ?_ ?_
    | split)

theorem State.writeUnit_does {M : Nat} {s0 s : State} {x1} {x2 : Page} {x3} {x4} (hM : Sub 0x7ffff007e00000007ffff007e0000007fff7ee176 M) (hB2 : Sub x2.blk M) (hH2 : Sub x2.hdr M) (h : Does M s0 s) :
    Does M s0 (State.writeUnit s x1 x2 x3 x4) := by
  unfold State.writeUnit
  split
  · next f hf =>
    obtain ⟨w, hw, hi⟩ := List.exists_of_findSome?_eq_some hf
    obtain ⟨i, -, rfl⟩ := Option.map_eq_some_iff.mp hi
    rcases List.mem_append.mp hw with hw | hw
    · exact Page.writes_does (Sub.trans (by decide) hM) _ _ hB2 hH2 w hw i _ _ h
    · exact Page.pmcWrites_does (Sub.trans (by decide) hM) _ hB2 hH2 w hw i _ _ h
  · exact State.plainWrite_does (Sub.trans (by decide) hM) hB2 hH2 h

theorem State.pageWrite_does {M : Nat} {s0 s : State} {x1} {x2 : Page} {x3} {x4} (hM : Sub 0x7ffff007e00000007ffff007e0000007fff7ee176 M) (hH2 : Sub x2.hdr M) (h : Does M s0 s) :
    Does M s0 (State.pageWrite s x1 x2 x3 x4) := by
  unfold State.pageWrite
  split
  · next heq =>
    split at heq
    · exact State.hifWindow_does heq (Sub.trans (by decide) hM) h
    · cases heq
  · split
    · exact State.countUnmapped_does (Sub.trans (by decide) hM) h
    · split
      · exact State.queueCfgOn_does (Sub.trans (by decide) hM) h
      · exact State.writeUnits_does (Sub.trans (by decide) hM) hH2 h (fun _ _ _ _ h => State.writeUnit_does (Sub.trans (by decide) hM) (Sub.allBlk _ (by decide) hM) (Sub.allHdr _ (by decide) hM) h)

end Sys2Proof.Machine
end

