-- ==== Sys2Proof/Laws/Cmp.lean ====
section
/-!
SUPPORT. What each operation of Machine/Cmp.lean can change, and that it takes nothing back.
-/
namespace Sys2Proof.Machine

theorem State.cmpEvent_does {M : Nat} {s0 s : State} {x1} (hM : Sub 0x3002007c000000003557003400000066c37c8066 M) (h : Does M s0 s) :
    Does M s0 (State.cmpEvent s x1) := by
  unfold State.cmpEvent
  repeat' (first
    | with_reducible assumption
    | (extract_lets +onlyGivenNames x; revert x; intro _)
    | with_reducible refine State.errCount_does (Sub.trans (by decide) hM) (Sub.kindH (k := .slice) rfl (by decide) hM) ?_
    | with_reducible refine State.raise_does (Sub.trans (by decide) hM) (Sub.kindH (k := .cs) rfl (by decide) hM) ?_
    | with_reducible refine State.raiseEvent_does (Sub.trans (by decide) hM) ?_
    | with_reducible refine State.wakeCause_does (Sub.trans (by decide) hM) ?_
    | with_reducible refine Does.ite ?_ ?_)

theorem State.cmpActions_does {M : Nat} {s0 s : State} {x1} {x2} {x3} {x4} (hM : Sub 0x2b202007c00000002b557003400000067c37c8066 M) (h : Does M s0 s) :
    Does M s0 (State.cmpActions s x1 x2 x3 x4) := by
  unfold State.cmpActions
  repeat' (first
    | with_reducible assumption
    | (intro _ _ _)
    | (extract_lets +onlyGivenNames x; refine Does.cut x ?_ ?_; rotate_left; (intro hx; clear_value x; revert x; intro _ _); rotate_left; (unfold x; clear x))
    | (extract_lets +onlyGivenNames x; revert x; intro _)
    | with_reducible refine State.bankBoundary_does (Sub.trans (by decide) hM) ?_
    | with_reducible refine State.cmpEvent_does (Sub.trans (by decide) hM) ?_
    | with_reducible refine State.raiseIf_does (Sub.trans (by decide) hM) (Sub.kindH (k := .timeU) rfl (by decide) hM) ?_
    | with_reducible refine State.wakeCause_does (Sub.trans (by decide) hM) ?_
    | with_reducible refine Does.fold ?_ ?_
    | with_reducible refine Does.ite ?_ ?_)

theorem State.cmpFire_does {M : Nat} {s0 s : State} {x1} {x2} (hM : Sub 0x2b202007c00000002b757003400000067e37c8066 M) (h : Does M s0 s) :
    Does M s0 (State.cmpFire s x1 x2) := by
  unfold State.cmpFire
  repeat' (first
    | with_reducible assumption
    | (extract_lets +onlyGivenNames x; refine Does.cut x ?_ ?_; rotate_left; (intro hx; clear_value x; revert x; intro _ _); rotate_left; (unfold x; clear x))
    | (extract_lets +onlyGivenNames x; revert x; intro _)
    | with_reducible refine State.bset_does (Sub.trans (by decide) hM) (Sub.fld (by decide) (Sub.kind (k := .timeU) rfl (by decide) hM)) ?_
    | with_reducible refine State.cmpActions_does (Sub.trans (by decide) hM) ?_
    | with_reducible refine State.cmpGates_does (Sub.trans (by decide) hM) ?_
    | with_reducible refine State.cmpMove_does (Sub.trans (by decide) hM) ?_
    | with_reducible refine State.errCount_does (Sub.trans (by decide) hM) (Sub.kindH (k := .timeU) rfl (by decide) hM) ?_
    | with_reducible refine State.fsat_does (Sub.trans (by decide) hM) (Sub.fld (by decide) (Sub.kind (k := .timeU) rfl (by decide) hM)) ?_
    | with_reducible refine State.setCmp_does (Sub.trans (by decide) hM) ?_
    | with_reducible refine Does.ite ?_ ?_)

theorem execCmpFire_does {M : Nat} {s0 s : State} {x0} {x1} {t : State} (e : execCmpFire x0 x1 s = .next t) (hM : Sub 0x2b202007c00000002b757003400000067e37c8066 M) (h : Does M s0 s) :
    Does M s0 t := by
  revert e
  unfold execCmpFire State.ifOperates
  repeat' (first
    | with_reducible assumption
    | (intro e; with_reducible injection e with e; subst e)
    | with_reducible refine State.cmpFire_does (Sub.trans (by decide) hM) ?_
    | with_reducible refine Does.ite ?_ ?_)

end Sys2Proof.Machine
end

