-- ==== Sys2Proof/Laws/I3c.lean ====
section
/-!
SUPPORT. What each operation of Machine/I3c.lean can change, and that it takes nothing back.
-/
namespace Sys2Proof.Machine

theorem State.setI3cAddr_does {M : Nat} {s0 s : State} {x1} (hM : Sub 8 M) (h : Does M s0 s) :
    Does M s0 (State.setI3cAddr s x1) := by
  unfold State.setI3cAddr
  repeat' (first
    | with_reducible assumption
    | (extract_lets +onlyGivenNames x; revert x; intro _)
    | with_reducible refine Does.put_pins (Sub.trans (by decide) hM) ?_)

theorem execEntdaa_does {M : Nat} {s0 s : State} {x0} {t : State} (e : execEntdaa x0 s = .next t) (hM : Sub 10 M) (h : Does M s0 s) :
    Does M s0 t := by
  revert e
  unfold execEntdaa
  repeat' (first
    | with_reducible assumption
    | (intro e; with_reducible injection e with e; subst e)
    | with_reducible refine State.emit_does (Sub.trans (by decide) hM) ?_
    | with_reducible refine State.setI3cAddr_does (Sub.trans (by decide) hM) ?_
    | with_reducible refine Does.ite ?_ ?_)

theorem execGetbcr_does {M : Nat} {s0 s : State} {t : State} (e : execGetbcr s = .next t) (hM : Sub 6 M) (h : Does M s0 s) :
    Does M s0 t := by
  unfold execGetbcr at e
  split at e
  · cases e
    exact State.emit_does (Sub.trans (by decide) hM) (State.draw_does (x1 := 8) rfl (Sub.trans (by decide) hM) h)
  · cases e; exact h

theorem execGetdcr_does {M : Nat} {s0 s : State} {t : State} (e : execGetdcr s = .next t) (hM : Sub 2 M) (h : Does M s0 s) :
    Does M s0 t := by
  revert e
  unfold execGetdcr
  repeat' (first
    | with_reducible assumption
    | (intro e; with_reducible injection e with e; subst e)
    | with_reducible refine State.emit_does (Sub.trans (by decide) hM) ?_
    | with_reducible refine Does.ite ?_ ?_)

theorem execGetpid_does {M : Nat} {s0 s : State} {t : State} (e : execGetpid s = .next t) (hM : Sub 2 M) (h : Does M s0 s) :
    Does M s0 t := by
  revert e
  unfold execGetpid
  repeat' (first
    | with_reducible assumption
    | (intro e; with_reducible injection e with e; subst e)
    | with_reducible refine State.emit_does (Sub.trans (by decide) hM) ?_
    | with_reducible refine Does.ite ?_ ?_)

theorem execRstdaa_does {M : Nat} {s0 s : State} {t : State} (e : execRstdaa s = .next t) (hM : Sub 8 M) (h : Does M s0 s) :
    Does M s0 t := by
  revert e
  unfold execRstdaa
  repeat' (first
    | with_reducible assumption
    | (intro e; with_reducible injection e with e; subst e)
    | with_reducible refine State.setI3cAddr_does (Sub.trans (by decide) hM) ?_
    | with_reducible refine Does.ite ?_ ?_)

theorem execSetdasa_does {M : Nat} {s0 s : State} {x0} {x1} {t : State} (e : execSetdasa x0 x1 s = .next t) (hM : Sub 8 M) (h : Does M s0 s) :
    Does M s0 t := by
  revert e
  unfold execSetdasa
  repeat' (first
    | with_reducible assumption
    | (intro e; with_reducible injection e with e; subst e)
    | with_reducible refine State.setI3cAddr_does (Sub.trans (by decide) hM) ?_
    | with_reducible refine Does.ite ?_ ?_)

end Sys2Proof.Machine
end

