-- ==== Sys2Proof/Laws/Image.lean ====
section
/-!
SUPPORT. What each operation of Machine/Image.lean can change, and that it takes nothing back.
-/
namespace Sys2Proof.Machine

theorem State.setLoader_does {M : Nat} {s0 s : State} {x1} {x2} (hM : Sub 512 M) (h : Does M s0 s) :
    Does M s0 (State.setLoader s x1 x2) := by
  unfold State.setLoader
  repeat' (first
    | with_reducible assumption
    | (extract_lets +onlyGivenNames x; revert x; intro _)
    | with_reducible refine State.setBoot_does (Sub.trans (by decide) hM) ?_)

theorem State.imgEnd_does {M : Nat} {s0 s : State} {x1} {x2} (hM : Sub 0x200200000000000000220 M) (h : Does M s0 s) :
    Does M s0 (State.imgEnd s x1 x2) := by
  unfold State.imgEnd
  repeat' (first
    | with_reducible assumption
    | (intro _ _ _)
    | (extract_lets +onlyGivenNames x; refine Does.cut x ?_ ?_; rotate_left; (intro hx; clear_value x; revert x; intro _ _); rotate_left; (unfold x; clear x))
    | with_reducible refine State.bset_does (Sub.trans (by decide) hM) (Sub.fld (by decide) (Sub.kind (k := .cs) rfl (by decide) hM)) ?_
    | with_reducible refine State.bset_does (Sub.trans (by decide) hM) (Sub.fld (by decide) (Sub.kind (k := .die) rfl (by decide) hM)) ?_
    | with_reducible refine State.fset_does (Sub.trans (by decide) hM) (Sub.fld (by decide) (Sub.kind (k := .die) rfl (by decide) hM)) ?_
    | with_reducible refine State.setLoader_does (Sub.trans (by decide) hM) ?_
    | with_reducible refine Does.fold ?_ ?_
    | with_reducible refine Does.ite ?_ ?_)

theorem State.imgAbort_does {M : Nat} {s0 s : State} {x1} (hM : Sub 0x200200000000000000220 M) (h : Does M s0 s) :
    Does M s0 (State.imgAbort s x1) := by
  unfold State.imgAbort
  repeat' (first
    | with_reducible assumption
    | with_reducible refine State.imgEnd_does (Sub.trans (by decide) hM) ?_
    | with_reducible refine Does.ite ?_ ?_)

theorem State.imgWrite_does {M : Nat} {s0 s : State} {x1} {x2} (hM : Sub 0x7ffff007e00000007ffff007e0000007fff7ee176 M) (h : Does M s0 s) :
    Does M s0 (State.imgWrite s x1 x2) := by
  unfold State.imgWrite
  repeat' (first
    | with_reducible assumption
    | (intro _ _ _)
    | (extract_lets +onlyGivenNames x; revert x; intro _)
    | with_reducible refine State.pageWrite_does (Sub.trans (by decide) hM) (Sub.allHdr _ (by decide) hM) ?_
    | with_reducible refine Does.fold ?_ ?_)

theorem State.imgAccept_does {M : Nat} {s0 s : State} {x1} (hM : Sub 0x7ffff007e00000007ffff007e0000007fff7ee376 M) (h : Does M s0 s) :
    Does M s0 (State.imgAccept s x1) := by
  unfold State.imgAccept
  repeat' (first
    | with_reducible assumption
    | (intro _ _ _)
    | (extract_lets +onlyGivenNames x; refine Does.cut x ?_ ?_; rotate_left; (intro hx; clear_value x; revert x; intro _ _); rotate_left; (unfold x; clear x))
    | (extract_lets +onlyGivenNames x; revert x; intro _)
    | with_reducible refine State.bset_does (Sub.trans (by decide) hM) (Sub.fld (by decide) (Sub.kind (k := .cs) rfl (by decide) hM)) ?_
    | with_reducible refine State.bset_does (Sub.trans (by decide) hM) (Sub.fld (by decide) (Sub.kind (k := .die) rfl (by decide) hM)) ?_
    | with_reducible refine State.imgEnd_does (Sub.trans (by decide) hM) ?_
    | with_reducible refine State.imgWrite_does (Sub.trans (by decide) hM) ?_
    | with_reducible refine State.setReg_does (Sub.trans (by decide) hM) (Sub.off (by decide) (Sub.kind (k := .cs) rfl (by decide) hM)) ?_
    | with_reducible refine State.setReg_does (Sub.trans (by decide) hM) (Sub.off (by decide) (Sub.kind (k := .die) rfl (by decide) hM)) ?_
    | with_reducible refine Does.fold ?_ ?_)

theorem State.imgNarrow_does {M : Nat} {s0 s : State} {x1} {x2} {x3} (hM : Sub 0x7ffff007e00000007ffff007e0000007fff7ee376 M) (h : Does M s0 s) :
    Does M s0 (State.imgNarrow s x1 x2 x3) := by
  unfold State.imgNarrow
  repeat' (first
    | with_reducible assumption
    | (extract_lets +onlyGivenNames x; revert x; intro _)
    | with_reducible refine State.imgEnd_does (Sub.trans (by decide) hM) ?_
    | with_reducible refine State.imgWrite_does (Sub.trans (by decide) hM) ?_
    | with_reducible refine State.setLoader_does (Sub.trans (by decide) hM) ?_
    | with_reducible refine Does.ite ?_ ?_)

theorem State.imgWide_does {M : Nat} {s0 s : State} {x1} {x2} {x3} (hM : Sub 0x2007c00000000004200000000004000010222 M) (h : Does M s0 s) :
    Does M s0 (State.imgWide s x1 x2 x3) := by
  unfold State.imgWide
  repeat' (first
    | with_reducible assumption
    | (intro _ _ _)
    | (extract_lets +onlyGivenNames x; refine Does.cut x ?_ ?_; rotate_left; (intro hx; clear_value x; revert x; intro _ _); rotate_left; (unfold x; clear x))
    | (extract_lets +onlyGivenNames x; revert x; intro _)
    | with_reducible refine State.csStore_does (Sub.trans (by decide) hM) ?_
    | with_reducible refine State.setLoader_does (Sub.trans (by decide) hM) ?_
    | with_reducible refine State.setQdr_does (Sub.trans (by decide) hM) ?_
    | with_reducible refine Does.fold ?_ ?_
    | with_reducible refine Does.ite ?_ ?_)

theorem State.imgData_does {M : Nat} {s0 s : State} {x1} {x2} {x3} (hM : Sub 0x7ffff007e00000007ffff007e0000007fff7fe376 M) (h : Does M s0 s) :
    Does M s0 (State.imgData s x1 x2 x3) := by
  unfold State.imgData
  repeat' (first
    | with_reducible assumption
    | (extract_lets +onlyGivenNames x; refine Does.cut x ?_ ?_; rotate_left; (intro hx; clear_value x; revert x; intro _ _); rotate_left; (unfold x; clear x))
    | (extract_lets +onlyGivenNames x; revert x; intro _)
    | with_reducible refine State.imgNarrow_does (Sub.trans (by decide) hM) ?_
    | with_reducible refine State.imgWide_does (Sub.trans (by decide) hM) ?_
    | with_reducible refine State.setLoader_does (Sub.trans (by decide) hM) ?_
    | with_reducible refine Does.ite ?_ ?_)

theorem State.imgHead_does {M : Nat} {s0 s : State} {x1} {x2} {x3} {x4} {x5} (hM : Sub 0x200200000000000000220 M) (h : Does M s0 s) :
    Does M s0 (State.imgHead s x1 x2 x3 x4 x5) := by
  unfold State.imgHead
  repeat' (first
    | with_reducible assumption
    | (extract_lets +onlyGivenNames x; revert x; intro _)
    | with_reducible refine State.imgEnd_does (Sub.trans (by decide) hM) ?_
    | with_reducible refine State.setLoader_does (Sub.trans (by decide) hM) ?_
    | with_reducible refine Does.ite ?_ ?_)

theorem State.imgRecord_does {M : Nat} {s0 s : State} {x1} {x2} {x3} (hM : Sub 0x7ffff007e00000007ffff007e0000007fff7fe376 M) (h : Does M s0 s) :
    Does M s0 (State.imgRecord s x1 x2 x3) := by
  unfold State.imgRecord
  repeat' (first
    | with_reducible assumption
    | (extract_lets +onlyGivenNames x; revert x; intro _)
    | with_reducible refine State.imgData_does (Sub.trans (by decide) hM) ?_
    | with_reducible refine State.imgHead_does (Sub.trans (by decide) hM) ?_
    | with_reducible refine State.setLoader_does (Sub.trans (by decide) hM) ?_
    | split)

theorem State.imgTable_does {M : Nat} {s0 s : State} {x1} (hM : Sub 0x200200000000000000220 M) (h : Does M s0 s) :
    Does M s0 (State.imgTable s x1) := by
  unfold State.imgTable
  repeat' (first
    | with_reducible assumption
    | (extract_lets +onlyGivenNames x; revert x; intro _)
    | with_reducible refine State.imgEnd_does (Sub.trans (by decide) hM) ?_
    | with_reducible refine State.setLoader_does (Sub.trans (by decide) hM) ?_
    | with_reducible refine Does.ite ?_ ?_)

theorem State.imgAppend_does {M : Nat} {s0 s : State} {x1} {x2} (hM : Sub 0x7ffff007e00000007ffff007e0000007fff7fe376 M) (h : Does M s0 s) :
    Does M s0 (State.imgAppend s x1 x2) := by
  unfold State.imgAppend
  repeat' (first
    | with_reducible assumption
    | (extract_lets +onlyGivenNames x; refine Does.cut x ?_ ?_; rotate_left; (intro hx; clear_value x; revert x; intro _ _); rotate_left; (unfold x; clear x))
    | (extract_lets +onlyGivenNames x; revert x; intro _)
    | with_reducible refine State.errCount_does (Sub.trans (by decide) hM) (Sub.kindH (k := .die) rfl (by decide) hM) ?_
    | with_reducible refine State.imgEnd_does (Sub.trans (by decide) hM) ?_
    | with_reducible refine State.imgRecord_does (Sub.trans (by decide) hM) ?_
    | with_reducible refine State.imgTable_does (Sub.trans (by decide) hM) ?_
    | with_reducible refine State.setLoader_does (Sub.trans (by decide) hM) ?_
    | with_reducible refine State.setReg_does (Sub.trans (by decide) hM) (Sub.off (by decide) (Sub.kind (k := .die) rfl (by decide) hM)) ?_
    | with_reducible refine Does.ite ?_ ?_)

theorem State.imgStart_does {M : Nat} {s0 s : State} {x1} {x2} (hM : Sub 0x7c00000000004000200000000000000222 M) (h : Does M s0 s) :
    Does M s0 (State.imgStart s x1 x2) := by
  unfold State.imgStart
  repeat' (first
    | with_reducible assumption
    | (extract_lets +onlyGivenNames x; refine Does.cut x ?_ ?_; rotate_left; (intro hx; clear_value x; revert x; intro _ _); rotate_left; (unfold x; clear x))
    | (extract_lets +onlyGivenNames x; revert x; intro _)
    | with_reducible refine State.bset_does (Sub.trans (by decide) hM) (Sub.fld (by decide) (Sub.kind (k := .die) rfl (by decide) hM)) ?_
    | with_reducible refine State.errCount_does (Sub.trans (by decide) hM) (Sub.kindH (k := .die) rfl (by decide) hM) ?_
    | with_reducible refine State.fset_does (Sub.trans (by decide) hM) (Sub.fld (by decide) (Sub.kind (k := .die) rfl (by decide) hM)) ?_
    | with_reducible refine State.setLoader_does (Sub.trans (by decide) hM) ?_
    | with_reducible refine State.setReg_does (Sub.trans (by decide) hM) (Sub.off (by decide) (Sub.kind (k := .die) rfl (by decide) hM)) ?_
    | with_reducible refine Does.ite ?_ ?_)

theorem execImageAbort_does {M : Nat} {s0 s : State} {x0} {x1} {t : State} (e : execImageAbort x0 x1 s = .next t) (hM : Sub 0x40007c00000000004200200000000001000222 M) (h : Does M s0 s) :
    Does M s0 t := by
  revert e
  unfold execImageAbort
  repeat' (first
    | with_reducible assumption
    | (intro _ _ _ _)
    | (intro e; with_reducible injection e with e; subst e)
    | with_reducible refine State.accessKind_does (Sub.trans (by decide) hM) ?_ ?_
    | with_reducible refine State.imgAbort_does (Sub.trans (by decide) hM) ?_)

theorem execImageDataWrite_does {M : Nat} {s0 s : State} {x0} {x1} {x2} {x3} {t : State} (e : execImageDataWrite x0 x1 x2 x3 s = .next t) (hM : Sub 0x7ffff007e00000007ffff007e0000007fff7fe376 M) (h : Does M s0 s) :
    Does M s0 t := by
  revert e
  unfold execImageDataWrite
  repeat' (first
    | with_reducible assumption
    | (intro _ _ _ _)
    | (intro e; with_reducible injection e with e; subst e)
    | with_reducible refine State.accessKind_does (Sub.trans (by decide) hM) ?_ ?_
    | with_reducible refine State.imgAppend_does (Sub.trans (by decide) hM) ?_)

theorem execImageStart_does {M : Nat} {s0 s : State} {x0} {x1} {t : State} (e : execImageStart x0 x1 s = .next t) (hM : Sub 0x40007c00000000004000200000000001000222 M) (h : Does M s0 s) :
    Does M s0 t := by
  revert e
  unfold execImageStart
  repeat' (first
    | with_reducible assumption
    | (intro _ _ _ _)
    | (intro e; with_reducible injection e with e; subst e)
    | with_reducible refine State.accessKind_does (Sub.trans (by decide) hM) ?_ ?_
    | with_reducible refine State.imgStart_does (Sub.trans (by decide) hM) ?_)

theorem execImageVerifyDone_does {M : Nat} {s0 s : State} {x0} {t : State} (e : execImageVerifyDone x0 s = .next t) (hM : Sub 0x7ffff007e00000007ffff007e0000007fff7ee376 M) (h : Does M s0 s) :
    Does M s0 t := by
  revert e
  unfold execImageVerifyDone
  repeat' (first
    | with_reducible assumption
    | (intro e; with_reducible injection e with e; subst e)
    | with_reducible refine State.imgAccept_does (Sub.trans (by decide) hM) ?_
    | with_reducible refine State.imgEnd_does (Sub.trans (by decide) hM) ?_
    | with_reducible refine Does.ite ?_ ?_
    | split)

end Sys2Proof.Machine
end

