-- ==== Sys2Proof/Laws/Integrity.lean ====
section
/-!
SUPPORT. What each operation of Machine/Integrity.lean can change, and that it takes nothing back.
-/
namespace Sys2Proof.Machine

theorem State.revertReg_does {M : Nat} {s0 s : State} {x1 : Page} {x2} (hM : Sub 0x7ffff007e000000001044001600000026d178e066 M) (hB1 : Sub x1.blk M) (hH1 : Sub x1.hdr M) (h : Does M s0 s) :
    Does M s0 (State.revertReg s x1 x2) := by
  unfold State.revertReg
  split
  · split
    · exact Does.put_ctrs (Sub.trans (by decide) hM) h (fun c => Sparse.wf_set _ _ _ _ c)
        (fun _ _ hq => Sparse.get_set_ne _ _ _ _ (Page.reg_ne (Sub.offB hB1 hH1) hq))
    · exact State.clearReg_does (Sub.trans (by decide) hM) (Sub.offB hB1 hH1) h
  · split_ifs
    · exact State.controlWrite_does (Sub.trans (by decide) hM) hH1 h
    · exact State.irqUpd_does (Sub.trans (by decide) hM) h (fun _ h => State.clearReg_does (Sub.trans (by decide) hM) (Sub.offB hB1 hH1) h)
    · exact State.clearReg_does (Sub.trans (by decide) hM) (Sub.offB hB1 hH1) h

theorem State.revertWord_does {M : Nat} {s0 s : State} {x1} (hM : Sub 0x7ffff007e00000007ffff007e0000003ed978e066 M) (h : Does M s0 s) :
    Does M s0 (State.revertWord s x1) := by
  unfold State.revertWord
  repeat' (first
    | with_reducible assumption
    | (extract_lets +onlyGivenNames x; refine Does.cut x ?_ ?_; rotate_left; (intro hx; clear_value x; revert x; intro _ _); rotate_left; (unfold x; clear x))
    | (extract_lets +onlyGivenNames x; revert x; intro _)
    | with_reducible refine State.bset_does (Sub.trans (by decide) hM) (Sub.fld (by decide) (Sub.kind (k := .port) rfl (by decide) hM)) ?_
    | with_reducible refine State.revertReg_does (Sub.trans (by decide) hM) (Sub.allBlk _ (by decide) hM) (Sub.allHdr _ (by decide) hM) ?_
    | with_reducible refine State.setMsec_does (Sub.trans (by decide) hM) ?_
    | with_reducible refine State.setPolicer_does (Sub.trans (by decide) hM) ?_
    | with_reducible refine State.setPool_does (Sub.trans (by decide) hM) ?_
    | with_reducible refine State.setPort_does (Sub.trans (by decide) hM) ?_
    | with_reducible refine State.setRing_does (Sub.trans (by decide) hM) ?_
    | with_reducible refine State.wakePort_does (Sub.trans (by decide) hM) ?_
    | split
    | refine Does.put_mcs (Sub.trans (by decide) hM) ?_ (fun c => Sparse.wf_set _ _ _ _ c))

theorem State.scrubWord_does {M : Nat} {s0 s : State} {x1} {x2} (hM : Sub 0x7ffff007e00000007ffff007e0000003ed978e066 M) (h : Does M s0 s) :
    Does M s0 (State.scrubWord s x1 x2) := by
  unfold State.scrubWord
  repeat' (first
    | with_reducible assumption
    | with_reducible refine State.integrity_does (Sub.trans (by decide) hM) ?_
    | with_reducible refine State.revertWord_does (Sub.trans (by decide) hM) ?_
    | with_reducible refine State.setFault_does (Sub.trans (by decide) hM) (Sub.allHdr _ (by decide) hM) ?_
    | with_reducible refine Does.ite ?_ ?_
    | split)

theorem execConfigScrub_does {M : Nat} {s0 s : State} {x0} {x1} {t : State} (e : execConfigScrub x0 x1 s = .next t) (hM : Sub 0x7ffff007e00000007ffff007e0000003ed978e066 M) (h : Does M s0 s) :
    Does M s0 t := by
  revert e
  unfold execConfigScrub State.ifOperates
  repeat' (first
    | with_reducible assumption
    | (intro _ _ _)
    | (intro e; with_reducible injection e with e; subst e)
    | with_reducible refine State.scrubWord_does (Sub.trans (by decide) hM) ?_
    | with_reducible refine Does.fold ?_ ?_
    | with_reducible refine Does.ite ?_ ?_)

theorem execDecisionCacheScrub_does {M : Nat} {s0 s : State} {x0} {x1} {t : State} (e : execDecisionCacheScrub x0 x1 s = .next t) (hM : Sub 0x7c00000000004000200000000000040062 M) (h : Does M s0 s) :
    Does M s0 t := by
  revert e
  unfold execDecisionCacheScrub State.ifOperates
  repeat' (first
    | with_reducible assumption
    | (intro _ _ _)
    | (intro e; with_reducible injection e with e; subst e)
    | (extract_lets +onlyGivenNames x; revert x; intro _)
    | with_reducible refine State.integrity_does (Sub.trans (by decide) hM) ?_
    | with_reducible refine State.setCls_does (Sub.trans (by decide) hM) ?_
    | with_reducible refine Does.fold ?_ ?_
    | with_reducible refine Does.ite ?_ ?_)

end Sys2Proof.Machine
end

