-- ==== Sys2Proof/Laws/Startup.lean ====
section
/-!
SUPPORT. What each operation of Machine/Startup.lean can change, and that it takes nothing back.
-/
namespace Sys2Proof.Machine

theorem State.resetDie_does {M : Nat} {s0 s : State} {x1} (hM : Sub 0x7ffff007e00000007ffff007e0000007fffeeefe2 M) (h : Does M s0 s) :
    Does M s0 (State.resetDie s x1) := by
  unfold State.resetDie
  refine ⟨fun p hp => ?_, fun _ _ hq => Page.all_reg (by decide) (by decide) hM hq, fun c => ?_, h.grows.trans ⟨?_, le_rfl, le_rfl, fun _ => BitVec.and_self⟩⟩
  · cases p <;> first
      | exact h.keep _ hp
      | (rw [hM.bit (by decide)] at hp; cases hp)
  · have c := h.canonical c
    exact { c with
      regs := Sparse.wf_filter _ _ _ c.regs
      ctrs := Sparse.wf_filter _ _ _ c.ctrs
      latch := Sparse.wf_filter _ _ _ c.latch
      locks := Sparse.wf_filter _ _ _ c.locks
      boot := Sparse.wf_filter _ _ _ c.boot
      failed := Sparse.wf_filter _ _ _ c.failed
      resetting := Sparse.wf_filter _ _ _ c.resetting
      lanes := Sparse.wf_filter _ _ _ c.lanes
      links := Sparse.wf_filter _ _ _ c.links
      tabs := Sparse.wf_filter _ _ _ c.tabs
      qdrBusy := Sparse.wf_filter _ _ _ c.qdrBusy
      clss := Sparse.wf_filter _ _ _ c.clss
      frames := Sparse.wf_filter _ _ _ c.frames
      slices := Sparse.wf_filter _ _ _ c.slices
      ports := Sparse.wf_filter _ _ _ c.ports
      lrns := Sparse.wf_filter _ _ _ c.lrns
      keels := Sparse.wf_filter _ _ _ c.keels
      stalls := Sparse.wf_filter _ _ _ c.stalls
      bufs := Sparse.wf_filter _ _ _ c.bufs
      mcs := Sparse.wf_filter _ _ _ c.mcs
      queues := Sparse.wf_filter _ _ _ c.queues
      times := Sparse.wf_set _ _ _ _ c.times
      accts := Sparse.wf_filter _ _ _ c.accts
      tels := Sparse.wf_filter _ _ _ c.tels
      dumps := Sparse.wf_filter _ _ _ c.dumps
      admits := Sparse.wf_filter _ _ _ c.admits
      ciphers := Sparse.wf_filter _ _ _ c.ciphers
      msecs := Sparse.wf_filter _ _ _ c.msecs
      hosts := Sparse.wf_filter _ _ _ c.hosts
      coxs := Sparse.wf_filter _ _ _ c.coxs
      css := Sparse.wf_filter _ _ _ c.css }
  · dsimp only; split
    · exact ⟨[_], rfl⟩
    · exact ⟨[], rfl⟩

theorem State.complexReset_does {M : Nat} {s0 s : State} (hM : Sub 0x7ffff007e00000007ffff007e0000007fffeeeffa M) (h : Does M s0 s) :
    Does M s0 (State.complexReset s) := by
  unfold State.complexReset
  have h := State.resetDie_does (x1 := 1) (Sub.trans (by decide) hM) (State.resetDie_does (x1 := 0) (Sub.trans (by decide) hM) h)
  generalize (s.resetDie 0).resetDie 1 = t at h
  refine ⟨fun p hp => ?_, fun _ _ hq => Page.all_reg (by decide) (by decide) hM hq, fun c => ?_, h.grows.trans ⟨⟨[], rfl⟩, le_rfl, le_rfl, fun _ => BitVec.and_self⟩⟩
  · cases p <;> first
      | exact h.keep _ hp
      | (rw [hM.bit (by decide)] at hp; cases hp)
  · have c := h.canonical c
    exact { c with }

theorem State.deriveAcct_does {M : Nat} {s0 s : State} {x1} (hM : Sub 0x2000000000000000000000020 M) (h : Does M s0 s) :
    Does M s0 (State.deriveAcct s x1) := by
  unfold State.deriveAcct
  repeat' (first
    | with_reducible assumption
    | (intro _ _ _)
    | with_reducible refine State.setReg_does (Sub.trans (by decide) hM) (Sub.off (Fld.le_at (by decide)) (Sub.kind (k := .acct) rfl (by decide) hM)) ?_
    | with_reducible refine Does.fold ?_ ?_)

theorem State.deriveEight_does {M : Nat} {s0 s : State} {x1} (hM : Sub 0x80000000000000020 M) (h : Does M s0 s) :
    Does M s0 (State.deriveEight s x1) := by
  unfold State.deriveEight
  repeat' (first
    | with_reducible assumption
    | with_reducible refine State.setReg_does (Sub.trans (by decide) hM) (Sub.off (by decide) (Sub.kind (k := .eight) rfl (by decide) hM)) ?_)

theorem State.deriveLane_does {M : Nat} {s0 s : State} {x1} (hM : Sub 0x20000000000000020 M) (h : Does M s0 s) :
    Does M s0 (State.deriveLane s x1) := by
  unfold State.deriveLane
  repeat' (first
    | with_reducible assumption
    | (extract_lets +onlyGivenNames x; refine Does.cut x ?_ ?_; rotate_left; (intro hx; clear_value x; revert x; intro _ _); rotate_left; (unfold x; clear x))
    | (extract_lets +onlyGivenNames x; revert x; intro _)
    | with_reducible refine State.fset_does (Sub.trans (by decide) hM) (Sub.fld (by decide) (Sub.kind (k := .lane) rfl (by decide) hM)) ?_
    | with_reducible refine State.setReg_does (Sub.trans (by decide) hM) (Sub.off (by decide) (Sub.kind (k := .lane) rfl (by decide) hM)) ?_
    | with_reducible refine State.startCtle_does (Sub.trans (by decide) hM) ?_)

theorem State.deriveSlice_does {M : Nat} {s0 s : State} {x1} (hM : Sub 0x100000000000000020 M) (h : Does M s0 s) :
    Does M s0 (State.deriveSlice s x1) := by
  unfold State.deriveSlice
  repeat' (first
    | with_reducible assumption
    | (intro _ _ _)
    | with_reducible refine State.setReg_does (Sub.trans (by decide) hM) (Sub.off (Fld.le_at (by decide)) (Sub.kind (k := .slice) rfl (by decide) hM)) ?_
    | with_reducible refine Does.fold ?_ ?_)

theorem State.powerLost_does {M : Nat} {s0 s : State} {x1} (hM : Sub 0x7ffff007e00000007ffff007e0000007fffeefffa M) (h : Does M s0 s) :
    Does M s0 (State.powerLost s x1) := by
  unfold State.powerLost
  refine Does.fold ?_ (fun _ _ h => State.bset_does (Sub.trans (by decide) hM) (Sub.fld (by decide) (Sub.kind (k := .aon) rfl (by decide) hM)) h)
  have h := State.complexReset_does (Sub.trans (by decide) hM) (State.otpFinish_does (x1 := x1) (Sub.trans (by decide) hM) h)
  generalize (s.otpFinish x1).complexReset = t at h
  refine ⟨fun p hp => ?_, fun _ _ hq => Page.all_reg (by decide) (by decide) hM hq, fun c => ?_, h.grows.trans ⟨⟨[], rfl⟩, le_rfl, le_rfl, fun _ => BitVec.and_self⟩⟩
  · cases p <;> first
      | exact h.keep _ hp
      | (rw [hM.bit (by decide)] at hp; cases hp)
  · have c := h.canonical c
    exact { c with regs := Sparse.wf_filter _ _ _ c.regs, times := Sparse.wf_nil _, wearBase := Sparse.wf_nil _ }

theorem State.rollBudget_does {M : Nat} {s0 s : State} {x1} (hM : Sub 0x40000000000000000000024 M) (h : Does M s0 s) :
    Does M s0 (State.rollBudget s x1) := by
  unfold State.rollBudget
  repeat' (first
    | with_reducible assumption
    | with_reducible refine State.draw_does rfl (Sub.trans (by decide) hM) ?_
    | with_reducible refine State.setReg_does (Sub.trans (by decide) hM) (Sub.off (by decide) (Sub.kind (k := .cox) rfl (by decide) hM)) ?_)

theorem State.rollMeasure_does {M : Nat} {s0 s : State} {x1} {x2} (hM : Sub 0x40000007c00000004004000000000000000001022 M) (h : Does M s0 s) :
    Does M s0 (State.rollMeasure s x1 x2) := by
  unfold State.rollMeasure
  repeat' (first
    | with_reducible assumption
    | (extract_lets +onlyGivenNames x; refine Does.cut x ?_ ?_; rotate_left; (intro hx; clear_value x; revert x; intro _ _); rotate_left; (unfold x; clear x))
    | with_reducible refine State.fset_does (Sub.trans (by decide) hM) (Sub.fld (by decide) (Sub.kind (k := .aon) rfl (by decide) hM)) ?_
    | with_reducible refine State.wearMeasured_does (Sub.trans (by decide) hM) ?_)

theorem State.showStatus_does {M : Nat} {s0 s : State} {x1 : Page} {x2} (hM : Sub 0x7c00000000000000000000000000000020 M) (hH1 : Sub x1.hdr M) (h : Does M s0 s) :
    Does M s0 (State.showStatus s x1 x2) := by
  unfold State.showStatus
  have h1 := State.setReg_does (x3 := s.reg x1 0x10 ||| BitVec.ofNat 32 (2 ^ (x2 + 8) + 2 ^ x2)) (Sub.trans (by decide) hM)
    (Sub.offH (p := x1) (o := 0x10) (by decide) hH1) h
  dsimp only
  split
  · exact h1
  · refine Does.foldMem h1 (fun _ q hq h => State.setReg_does (Sub.trans (by decide) hM) (Sub.offH (by decide) ?_) h)
    exact Sub.trans (State.ancestors_hdr hq) (Sub.trans (show Sub treeHdrs 0x7c00000000000000000000000000000020 by decide) hM)

theorem State.rollSlice_does {M : Nat} {s0 s : State} {x1} {x2} (hM : Sub 0x7c00000000000200100000000040008020 M) (h : Does M s0 s) :
    Does M s0 (State.rollSlice s x1 x2) := by
  unfold State.rollSlice
  repeat' (first
    | with_reducible assumption
    | (extract_lets +onlyGivenNames x; refine Does.cut x ?_ ?_; rotate_left; (intro hx; clear_value x; revert x; intro _ _); rotate_left; (unfold x; clear x))
    | (extract_lets +onlyGivenNames x; revert x; intro _)
    | with_reducible refine State.deriveSlice_does (Sub.trans (by decide) hM) ?_
    | with_reducible refine State.fset_does (Sub.trans (by decide) hM) (Sub.fld (by decide) (Sub.kind (k := .cs) rfl (by decide) hM)) ?_
    | with_reducible refine State.fset_does (Sub.trans (by decide) hM) (Sub.fld (by decide) (Sub.kind (k := .slice) rfl (by decide) hM)) ?_
    | with_reducible refine State.setAcct_does (Sub.trans (by decide) hM) ?_
    | with_reducible refine State.setTab_does (Sub.trans (by decide) hM) ?_
    | with_reducible refine State.showStatus_does (Sub.trans (by decide) hM) (Sub.kindH (k := .slice) rfl (by decide) hM) ?_)

theorem State.seatEngines_does {M : Nat} {s0 s : State} {x1} {x2} {r} (e : State.seatEngines s x1 x2 = r) (hM : Sub 0x1007c00000000000000000000000000000020 M) (h : Does M s0 s) :
    Does M s0 r.2.2 := by
  subst e
  unfold State.seatEngines
  repeat' (first
    | with_reducible assumption
    | (intro _ _ _)
    | (extract_lets +onlyGivenNames x; revert x; intro _)
    | with_reducible refine State.setReg_does (Sub.trans (by decide) hM) (Sub.offH (by decide) (Sub.kindH (k := .engine) rfl (by decide) hM)) ?_
    | with_reducible refine State.showStatus_does (Sub.trans (by decide) hM) (Sub.kindH (k := .engine) rfl (by decide) hM) ?_
    | with_reducible refine Does.fold ?_ ?_
    | split)

theorem State.sendSetpoint_does {M : Nat} {s0 s : State} {x1} (hM : Sub 0x4000000000000000000000022 M) (h : Does M s0 s) :
    Does M s0 (State.sendSetpoint s x1) := by
  unfold State.sendSetpoint
  repeat' (first
    | with_reducible assumption
    | (extract_lets +onlyGivenNames x; revert x; intro _)
    | with_reducible refine State.emit_does (Sub.trans (by decide) hM) ?_
    | with_reducible refine State.fset_does (Sub.trans (by decide) hM) (Sub.fld (by decide) (Sub.kind (k := .aon) rfl (by decide) hM)) ?_)

theorem State.shadowComplete_does {M : Nat} {s0 s : State} {x1} (hM : Sub 0x1000007c000000011044001e00000006d178e266 M) (h : Does M s0 s) :
    Does M s0 (State.shadowComplete s x1) := by
  unfold State.shadowComplete
  repeat' (first
    | with_reducible assumption
    | (intro _ _ _)
    | (extract_lets +onlyGivenNames x; refine Does.cut x ?_ ?_; rotate_left; (intro hx; clear_value x; revert x; intro _ _); rotate_left; (unfold x; clear x))
    | (extract_lets +onlyGivenNames x; revert x; intro _)
    | with_reducible refine State.bset_does (Sub.trans (by decide) hM) (Sub.fld (by decide) (Sub.kind (k := .ring) rfl (by decide) hM)) ?_
    | with_reducible refine State.deriveEight_does (Sub.trans (by decide) hM) ?_
    | with_reducible refine State.deriveLane_does (Sub.trans (by decide) hM) ?_
    | with_reducible refine State.portPower_does (Sub.trans (by decide) hM) ?_
    | with_reducible refine State.setBoot_does (Sub.trans (by decide) hM) ?_
    | with_reducible refine Does.fold ?_ ?_)

theorem State.untrip_does {M : Nat} {s0 s : State} {x0 : State} (hM : Sub 2 M) (h : Does M s0 s) :
    Does M s0 (State.untrip x0 s) := by
  unfold State.untrip
  repeat' (first
    | with_reducible assumption
    | with_reducible refine State.emit_does (Sub.trans (by decide) hM) ?_
    | with_reducible refine Does.ite ?_ ?_)

theorem execAonClkLoss_does {M : Nat} {s0 s : State} {x0} {t : State} (e : execAonClkLoss x0 s = .next t) (hM : Sub 0x7ffff007e00000007ffff007e0000007fffeefffa M) (h : Does M s0 s) :
    Does M s0 t := by
  unfold execAonClkLoss at e
  cases e
  refine Does.put_pins (Sub.trans (by decide) hM) ?_
  split
  · exact State.untrip_does (Sub.trans (by decide) hM) (State.powerLost_does (Sub.trans (by decide) hM) h)
  · exact h

theorem execPwrgoodAonAssert_does {M : Nat} {s0 s : State} {t : State} (e : execPwrgoodAonAssert s = .next t) (hM : Sub 8 M) (h : Does M s0 s) :
    Does M s0 t := by
  unfold execPwrgoodAonAssert at e
  cases e
  split
  · exact h
  · exact Does.put_pins (Sub.trans (by decide) hM) h

theorem execPwrgoodAonDeassert_does {M : Nat} {s0 s : State} {x0} {t : State} (e : execPwrgoodAonDeassert x0 s = .next t) (hM : Sub 0x7ffff007e00000007ffff007e0000007fffeefffa M) (h : Does M s0 s) :
    Does M s0 t := by
  unfold execPwrgoodAonDeassert at e
  cases e
  refine Does.put_pins (Sub.trans (by decide) hM) ?_
  split
  · exact State.untrip_does (Sub.trans (by decide) hM) (State.powerLost_does (Sub.trans (by decide) hM) h)
  · exact h

theorem execRailOutOfRange_does {M : Nat} {s0 s : State} {x0} {t : State} (e : execRailOutOfRange x0 s = .next t) (hM : Sub 0x7ffff007e00000007ffff007e0000007ffffeefe6 M) (h : Does M s0 s) :
    Does M s0 t := by
  revert e
  unfold execRailOutOfRange
  repeat' (first
    | with_reducible assumption
    | (intro _ _ _)
    | (intro e; with_reducible injection e with e; subst e)
    | (extract_lets +onlyGivenNames x; refine Does.cut x ?_ ?_; rotate_left; (intro hx; clear_value x; revert x; intro _ _); rotate_left; (unfold x; clear x))
    | (extract_lets +onlyGivenNames x; revert x; intro _)
    | with_reducible refine State.fset_does (Sub.trans (by decide) hM) (Sub.fldB (Sub.kind (k := .keel) rfl (by decide) hM) (Sub.kindH (k := .keel) rfl (by decide) hM)) ?_
    | with_reducible refine State.resetDie_does (Sub.trans (by decide) hM) ?_
    | with_reducible refine State.setBoot_does (Sub.trans (by decide) hM) ?_
    | with_reducible refine State.splitEnter_does (Sub.trans (by decide) hM) ?_
    | with_reducible refine State.subFailed_does (Sub.trans (by decide) hM) ?_
    | with_reducible refine Does.fold ?_ ?_
    | with_reducible refine Does.ite ?_ ?_)

theorem execResetNAssert_does {M : Nat} {s0 s : State} {t : State} (e : execResetNAssert s = .next t) (hM : Sub 0x7ffff007e00000007ffff007e0000007fffeeeffa M) (h : Does M s0 s) :
    Does M s0 t := by
  revert e
  unfold execResetNAssert
  repeat' (first
    | with_reducible assumption
    | (intro e; with_reducible injection e with e; subst e)
    | with_reducible refine State.complexReset_does (Sub.trans (by decide) hM) ?_)

theorem execResetNDeassert_does {M : Nat} {s0 s : State} {x0} {t : State} (e : execResetNDeassert x0 s = .next t) (hM : Sub 0xc00007c000000040c400000000000220018027a M) (h : Does M s0 s) :
    Does M s0 t := by
  unfold execResetNDeassert at e
  with_reducible injection e with e
  subst e
  refine Does.ite h ?_
  extract_lets src s1 s2 s3 s4
  have h1 : Does M s0 s1 := Does.put_pins (Sub.trans (by decide) hM) h
  have h2 : Does M s0 s2 := State.otpRollCall_does (Sub.trans (by decide) hM) h1
  have h3 : Does M s0 s3 := Does.fold h2 (fun _ _ h => State.sendSetpoint_does (Sub.trans (by decide) hM) (State.setBoot_does (Sub.trans (by decide) hM) h))
  have h4 : Does M s0 s4 := State.emit_does (Sub.trans (by decide) hM) (State.emit_does (Sub.trans (by decide) hM) h3)
  exact Does.ite h4 (Does.fold h4 (fun _ _ h => State.brakeDie_does (Sub.trans (by decide) hM) h))

theorem execRollCallDone_does {M : Nat} {s0 s : State} {x0} {x1} {t : State} (e : execRollCallDone x0 x1 s = .next t) (hM : Sub 0x7ffff007e000000071656001e00000006d178f666 M) (h : Does M s0 s) :
    Does M s0 t := by
  unfold execRollCallDone at e
  cases e
  refine Does.ite h ?_
  extract_lets _ _ s1 seats s2
  have h1 : Does M s0 s1 := Does.fold h (fun _ _ h => State.rollSlice_does (Sub.trans (by decide) hM) h)
  have h2 : Does M s0 seats.2.2.2 := Does.foldP (fun a : Nat × Nat × Nat × State => a.2.2.2) h1 (fun a _ h => by
    extract_lets sl; split
    exact Does.of3 ‹_› (State.seatEngines_does rfl (Sub.trans (by decide) hM) h))
  have h3 : Does M s0 s2 := Does.fold h2 (fun _ _ h => Does.put_failed (Sub.trans (by decide) hM) (State.showStatus_does (Sub.trans (by decide) hM) (Sub.allHdr _ (by decide) hM) h)
    (fun c => Sparse.wf_set _ _ _ _ c))
  clear_value s1 seats s2
  repeat' (first
    | with_reducible assumption
    | (extract_lets +onlyGivenNames x; refine Does.cut x ?_ ?_; rotate_left; (intro hx; clear_value x; revert x; intro _ _); rotate_left; (unfold x; clear x))
    | (extract_lets +onlyGivenNames x; revert x; intro _)
    | with_reducible refine State.fset_does (Sub.trans (by decide)  hM) (Sub.fld (by decide) (Sub.kind (k := .ring) rfl (by decide) hM)) ?_
    | with_reducible refine State.fset_does (Sub.trans (by decide)  hM) (Sub.fld (by decide) (Sub.kind (k := .bufMgr) rfl (by decide) hM)) ?_
    | with_reducible refine State.bset_does (Sub.trans (by decide)  hM) (Sub.fld (by decide) (Sub.kind (k := .keel) rfl (by decide) hM)) ?_
    | with_reducible refine State.bset_does (Sub.trans (by decide)  hM) (Sub.fld (by decide) (Sub.kind (k := .timeU) rfl (by decide) hM)) ?_
    | with_reducible refine State.bset_does (Sub.trans (by decide)  hM) (Sub.fld (by decide) (Sub.kind (k := .ring) rfl (by decide) hM)) ?_
    | with_reducible refine State.fset_does (Sub.trans (by decide)  hM) (Sub.fld (by decide) (Sub.kind (k := .timeU) rfl (by decide) hM)) ?_
    | with_reducible refine State.rollBudget_does (Sub.trans (by decide) hM) ?_
    | with_reducible refine State.rollMeasure_does (Sub.trans (by decide) hM) ?_
    | with_reducible refine State.setBoot_does (Sub.trans (by decide) hM) ?_
    | with_reducible refine State.deriveAcct_does (Sub.trans (by decide) hM) ?_
    | with_reducible refine State.shadowComplete_does (Sub.trans (by decide) hM) ?_
    | with_reducible refine Does.ite ?_ ?_)

theorem execShadowDone_does {M : Nat} {s0 s : State} {t : State} (e : execShadowDone s = .next t) (hM : Sub 0x1000007c000000011044001e00000006d178e266 M) (h : Does M s0 s) :
    Does M s0 t := by
  revert e
  unfold execShadowDone
  repeat' (first
    | with_reducible assumption
    | (intro e; with_reducible injection e with e; subst e)
    | with_reducible refine State.shadowComplete_does (Sub.trans (by decide) hM) ?_
    | with_reducible refine Does.ite ?_ ?_)

theorem execShadowFirstPartTimeout_does {M : Nat} {s0 s : State} {t : State} (e : execShadowFirstPartTimeout s = .next t) (hM : Sub 0x7ffff007e00000007ffff007e0000007fffeeefe2 M) (h : Does M s0 s) :
    Does M s0 t := by
  revert e
  unfold execShadowFirstPartTimeout
  repeat' (first
    | with_reducible assumption
    | (intro e; with_reducible injection e with e; subst e)
    | (extract_lets +onlyGivenNames x; refine Does.cut x ?_ ?_; rotate_left; (intro hx; clear_value x; revert x; intro _ _); rotate_left; (unfold x; clear x))
    | with_reducible refine State.bset_does (Sub.trans (by decide) hM) (Sub.fld (by decide) (Sub.kind (k := .ring) rfl (by decide) hM)) ?_
    | with_reducible refine State.resetDie_does (Sub.trans (by decide) hM) ?_
    | with_reducible refine State.setBoot_does (Sub.trans (by decide) hM) ?_
    | with_reducible refine Does.ite ?_ ?_)

theorem execShadowFrameResend_does {M : Nat} {s0 s : State} {x0} {t : State} (e : execShadowFrameResend x0 s = .next t) (hM : Sub 2 M) (h : Does M s0 s) :
    Does M s0 t := by
  revert e
  unfold execShadowFrameResend
  repeat' (first
    | with_reducible assumption
    | (intro e; with_reducible injection e with e; subst e)
    | with_reducible refine State.emit_does (Sub.trans (by decide) hM) ?_
    | with_reducible refine Does.ite ?_ ?_)

theorem execShadowSecondPartTimeout_does {M : Nat} {s0 s : State} {t : State} (e : execShadowSecondPartTimeout s = .next t) (hM : Sub 0x1000007c000000011044001e00000006d178e266 M) (h : Does M s0 s) :
    Does M s0 t := by
  revert e
  unfold execShadowSecondPartTimeout
  repeat' (first
    | with_reducible assumption
    | (intro e; with_reducible injection e with e; subst e)
    | (extract_lets +onlyGivenNames x; refine Does.cut x ?_ ?_; rotate_left; (intro hx; clear_value x; revert x; intro _ _); rotate_left; (unfold x; clear x))
    | (extract_lets +onlyGivenNames x; revert x; intro _)
    | with_reducible refine State.bset_does (Sub.trans (by decide) hM) (Sub.fld (by decide) (Sub.kind (k := .ring) rfl (by decide) hM)) ?_
    | with_reducible refine State.setBoot_does (Sub.trans (by decide) hM) ?_
    | with_reducible refine State.shadowComplete_does (Sub.trans (by decide) hM) ?_
    | with_reducible refine Does.ite ?_ ?_)

theorem execVaonLoss_does {M : Nat} {s0 s : State} {x0} {t : State} (e : execVaonLoss x0 s = .next t) (hM : Sub 0x7ffff007e00000007ffff007e0000007fffeefffa M) (h : Does M s0 s) :
    Does M s0 t := by
  unfold execVaonLoss at e
  cases e
  refine Does.fold ?_ (fun _ _ h => State.bset_does (Sub.trans (by decide) hM) (Sub.fld (by decide) (Sub.kind (k := .aon) rfl (by decide) hM)) h)
  exact Does.put_pins (Sub.trans (by decide) hM) (State.untrip_does (Sub.trans (by decide) hM) (State.powerLost_does (Sub.trans (by decide) hM) h))

end Sys2Proof.Machine
end

