-- ==== Sys2Proof/Laws/Register.lean ====
section
/-!
SUPPORT. What each operation of Machine/Register.lean can change, and that it takes nothing back.
-/
namespace Sys2Proof.Machine

theorem State.clearRead_does {M : Nat} {s0 s : State} {x1 : Page} {x2} (hM : Sub 32 M) (hB1 : Sub x1.blk M) (hH1 : Sub x1.hdr M) (h : Does M s0 s) :
    Does M s0 (State.clearRead s x1 x2) := by
  unfold State.clearRead
  repeat' (first
    | with_reducible assumption
    | with_reducible refine State.setReg_does (Sub.trans (by decide) hM) (Sub.offB hB1 hH1) ?_
    | with_reducible refine Does.ite ?_ ?_
    | split)

theorem State.readPair_does {M : Nat} {s0 s : State} {x1} {x2 : Page} {x3} {x4} {x5} {r} (e : State.readPair s x1 x2 x3 x4 x5 = r) (hM : Sub 128 M) (h : Does M s0 s) :
    Does M s0 r.2 := by
  subst e
  unfold State.readPair
  repeat' (first
    | with_reducible assumption
    | (extract_lets +onlyGivenNames x; revert x; intro _)
    | split
    | refine Does.put_latch (Sub.trans (by decide) hM) ?_ (fun c => Sparse.wf_set _ _ _ _ c))

theorem State.blockRead_does {M : Nat} {s0 s : State} {x1} {x2 : Page} {x3} {r} (e : State.blockRead s x1 x2 x3 = r) (hM : Sub 0x7ffff007e00000007ffff007e00000000200000a2 M) (hB2 : Sub x2.blk M) (h : Does M s0 s) :
    Does M s0 r.2 := by
  subst e
  unfold State.blockRead
  repeat' (first
    | with_reducible assumption
    | (extract_lets +onlyGivenNames x; refine Does.cut x ?_ ?_; rotate_left; (intro hx; clear_value x; revert x; intro _ _); rotate_left; (unfold x; clear x))
    | (extract_lets +onlyGivenNames x; refine Does.cut x.2 ?_ ?_; rotate_left; (intro hx; clear_value x; revert x; intro _ _); rotate_left; (unfold x; clear x))
    | with_reducible refine State.clearRead_does (Sub.trans (by decide) hM) (Sub.allBlk _ (by decide) hM) (Sub.allHdr _ (by decide) hM) ?_
    | with_reducible refine State.countUnmapped_does (Sub.trans (by decide) hM) ?_
    | with_reducible refine State.popStamp_does (Sub.trans (by decide) hM) hB2 ?_
    | with_reducible refine State.readPair_does rfl (Sub.trans (by decide) hM) ?_
    | with_reducible refine Does.ite ?_ ?_
    | split)

theorem State.clearPage_does {M : Nat} {s0 s : State} {x1 : Page} (hM : Sub 0x7c000000000040000000000000000001a2 M) (hB1 : Sub x1.blk M) (hH1 : Sub x1.hdr M) (h : Does M s0 s) :
    Does M s0 (State.clearPage s x1) := by
  unfold State.clearPage
  refine State.irqUpd_does (Sub.trans (by decide) hM) (State.setLock_does (Sub.trans (by decide) hM) ?_) (fun _ h => State.setReg_does (Sub.trans (by decide) hM) (Sub.offH (by decide) hH1) (State.setReg_does (Sub.trans (by decide) hM) (Sub.offH (by decide) hH1) h))
  exact Does.put_latch (Sub.trans (by decide) hM) (Does.put_regs (Sub.trans (by decide) hM) h (fun c => Sparse.wf_filter _ _ _ c)
    (fun q o hq => Sparse.get_filter _ _ _ (fun _ => by simp [Page.kind_ne hB1 hH1 hq]))) (fun c => Sparse.wf_filter _ _ _ c)

theorem State.errClear_does {M : Nat} {s0 s : State} {x1 : Page} (hM : Sub 0x7ffff007e00000000000000000000000000000020 M) (h : Does M s0 s) :
    Does M s0 (State.errClear s x1) := by
  unfold State.errClear
  repeat' (first
    | with_reducible assumption
    | (intro _ _ _)
    | with_reducible refine State.setReg_does (Sub.trans (by decide) hM) (Sub.offH (by decide) (Sub.allHdr _ (by decide) hM)) ?_
    | with_reducible refine Does.fold ?_ ?_)

theorem State.lockAcquire_does {M : Nat} {s0 s : State} {x1} {x2 : Page} {x3} (hM : Sub 0x7c00000000004000000000000000000122 M) (hH2 : Sub x2.hdr M) (h : Does M s0 s) :
    Does M s0 (State.lockAcquire s x1 x2 x3) := by
  unfold State.lockAcquire
  repeat' (first
    | with_reducible assumption
    | with_reducible refine State.errCount_does (Sub.trans (by decide) hM) hH2 ?_
    | with_reducible refine State.setLock_does (Sub.trans (by decide) hM) ?_
    | with_reducible refine Does.ite ?_ ?_)

theorem State.lockForce_does {M : Nat} {s0 s : State} {x1} {x2 : Page} (hM : Sub 0x7c00000000004000000000000000000122 M) (hH2 : Sub x2.hdr M) (h : Does M s0 s) :
    Does M s0 (State.lockForce s x1 x2) := by
  unfold State.lockForce
  repeat' (first
    | with_reducible assumption
    | (intro _ _ _)
    | with_reducible refine State.errCount_does (Sub.trans (by decide) hM) hH2 ?_
    | with_reducible refine State.setLock_does (Sub.trans (by decide) hM) ?_
    | with_reducible refine Does.fold ?_ ?_
    | with_reducible refine Does.ite ?_ ?_)

theorem State.lockRelease_does {M : Nat} {s0 s : State} {x1} {x2 : Page} {x3} (hM : Sub 0x7c00000000004000000000000000000122 M) (hH2 : Sub x2.hdr M) (h : Does M s0 s) :
    Does M s0 (State.lockRelease s x1 x2 x3) := by
  unfold State.lockRelease
  repeat' (first
    | with_reducible assumption
    | with_reducible refine State.errCount_does (Sub.trans (by decide) hM) hH2 ?_
    | with_reducible refine State.setLock_does (Sub.trans (by decide) hM) ?_
    | with_reducible refine Does.ite ?_ ?_)

theorem State.lockOp_does {M : Nat} {s0 s : State} {x1} {x2 : Page} {x3} (hM : Sub 0x7c00000000004000000000000000000122 M) (hH2 : Sub x2.hdr M) (h : Does M s0 s) :
    Does M s0 (State.lockOp s x1 x2 x3) := by
  unfold State.lockOp
  repeat' (first
    | with_reducible assumption
    | (extract_lets +onlyGivenNames x; revert x; intro _)
    | with_reducible refine State.lockAcquire_does (Sub.trans (by decide) hM) hH2 ?_
    | with_reducible refine State.lockForce_does (Sub.trans (by decide) hM) hH2 ?_
    | with_reducible refine State.lockRelease_does (Sub.trans (by decide) hM) hH2 ?_
    | split)

theorem State.ringsReset_does {M : Nat} {s0 s : State} {x1} (hM : Sub 0x10000000000001410000040 M) (h : Does M s0 s) :
    Does M s0 (State.ringsReset s x1) := by
  unfold State.ringsReset
  repeat' (first
    | with_reducible assumption
    | (intro _ _ _)
    | (extract_lets +onlyGivenNames x; refine Does.cut x ?_ ?_; rotate_left; (intro hx; clear_value x; revert x; intro _ _); rotate_left; (unfold x; clear x))
    | (extract_lets +onlyGivenNames x; revert x; intro _)
    | with_reducible refine State.endMsg_does (Sub.trans (by decide) hM) ?_
    | with_reducible refine State.setHost_does (Sub.trans (by decide) hM) ?_
    | with_reducible refine State.setQueue_does (Sub.trans (by decide) hM) ?_
    | with_reducible refine Does.fold ?_ ?_
    | split)

theorem State.settle_does {M : Nat} {s0 s : State} {x0 : State} {x2 : Page} (hM : Sub 0x3692007c0000000237d7003600000076f37ce066 M) (hB2 : Sub x2.blk M) (hH2 : Sub x2.hdr M) (h : Does M s0 s) :
    Does M s0 (State.settle x0 s x2) := by
  unfold State.settle
  repeat' (first
    | with_reducible assumption
    | (intro _ _ _)
    | (extract_lets +onlyGivenNames x; refine Does.cut x ?_ ?_; rotate_left; (intro hx; clear_value x; revert x; intro _ _); rotate_left; (unfold x; clear x))
    | (extract_lets +onlyGivenNames x; revert x; intro _)
    | with_reducible refine State.abandon_does (Sub.trans (by decide) hM) ?_
    | with_reducible refine State.acctCfg_does (Sub.trans (by decide) hM) hB2 hH2 ?_
    | with_reducible refine State.bset_does (Sub.trans (by decide) hM) (Sub.fld (by decide) hB2) ?_
    | with_reducible refine State.clearReg_does (Sub.trans (by decide) hM) (Sub.off (by decide) hB2) ?_
    | with_reducible refine State.deriveAcct_does (Sub.trans (by decide) hM) ?_
    | with_reducible refine State.deriveLane_does (Sub.trans (by decide) hM) ?_
    | with_reducible refine State.deriveSlice_does (Sub.trans (by decide) hM) ?_
    | with_reducible refine State.episodes_does (Sub.trans (by decide) hM) ?_
    | with_reducible refine State.fset_does (Sub.trans (by decide) hM) (Sub.fld (by decide) hB2) ?_
    | with_reducible refine State.loseCards_does (Sub.trans (by decide) hM) ?_
    | with_reducible refine State.portPower_does (Sub.trans (by decide) hM) ?_
    | with_reducible refine State.queueEn_does (Sub.trans (by decide) hM) ?_
    | with_reducible refine State.recRefill_does (Sub.trans (by decide) hM) ?_
    | with_reducible refine State.resyncEight_does (Sub.trans (by decide) hM) ?_
    | with_reducible refine State.ringsReset_does (Sub.trans (by decide) hM) ?_
    | with_reducible refine State.setCox_does (Sub.trans (by decide) hM) ?_
    | with_reducible refine State.setHost_does (Sub.trans (by decide) hM) ?_
    | with_reducible refine State.setPort_does (Sub.trans (by decide) hM) ?_
    | with_reducible refine State.setTel_does (Sub.trans (by decide) hM) ?_
    | with_reducible refine State.subDisable_does (Sub.trans (by decide) hM) hB2 ?_
    | with_reducible refine State.timeReset_does (Sub.trans (by decide) hM) ?_
    | with_reducible refine State.wakeCause_does (Sub.trans (by decide) hM) ?_
    | with_reducible refine Does.fold ?_ ?_
    | with_reducible refine Does.ite ?_ ?_
    | split)

theorem State.unitReset_does {M : Nat} {s0 s : State} {x1 : Page} (hM : Sub 0x7ffff007e00000007ffff007e00000076f37ce9e6 M) (hH1 : Sub x1.hdr M) (h : Does M s0 s) :
    Does M s0 (State.unitReset s x1) := by
  unfold State.unitReset
  refine Does.ite (State.errCount_does (Sub.trans (by decide) hM) hH1 h) ?_
  extract_lets pages s1 was s2 t
  have h1 : Does M s0 s1 := Does.ite (State.enterPaddle_does (Sub.trans (by decide) hM) h) h
  have key : ∀ (l : List Page) (m : Sparse Bool), m.wf (fun _ => false) = true →
      Sparse.wf (fun _ => false) (l.foldl (fun m q => m.set false (q.key 0) true) m) = true := by
    intro l
    induction l with
    | nil => intro m hm; exact hm
    | cons q r ih => intro m hm; exact ih _ (Sparse.wf_set _ _ _ _ hm)
  have h2 : Does M s0 s2 := Does.put_resetting (Sub.trans (by decide) hM) h1 (fun c => key _ _ c)
  exact Does.fold (Does.fold h2 (fun _ _ h => State.clearPage_does (Sub.trans (by decide) hM) (Sub.allBlk _ (by decide) hM) (Sub.allHdr _ (by decide) hM) h)) (fun _ _ h => State.settle_does (Sub.trans (by decide) hM) (Sub.allBlk _ (by decide) hM) (Sub.allHdr _ (by decide) hM) h)

theorem State.headerWrite_does {M : Nat} {s0 s : State} {x1} {x2 : Page} {x3} {x4} (hM : Sub 0x7ffff007e00000007ffff007e00000077f37ce9e6 M) (hH2 : Sub x2.hdr M) (h : Does M s0 s) :
    Does M s0 (State.headerWrite s x1 x2 x3 x4) := by
  unfold State.headerWrite
  repeat' (first
    | with_reducible assumption
    | (intro _ _)
    | with_reducible refine State.controlWrite_does (Sub.trans (by decide) hM) hH2 ?_
    | with_reducible refine State.irqUpd_does (Sub.trans (by decide) hM) ?_ ?_
    | with_reducible refine State.lockOp_does (Sub.trans (by decide) hM) hH2 ?_
    | with_reducible refine State.setReg_does (Sub.trans (by decide) hM) (Sub.offH (by decide) hH2) ?_
    | with_reducible refine State.snapTrigger_does (Sub.trans (by decide) hM) hH2 ?_
    | with_reducible refine State.unitReset_does (Sub.trans (by decide) hM) hH2 ?_
    | with_reducible refine Does.ite ?_ ?_
    | split)

theorem State.pageRead_does {M : Nat} {s0 s : State} {x1} {x2 : Page} {x3} {r} (e : State.pageRead s x1 x2 x3 = r) (hM : Sub 0x7ffff007e00000007ffff007e00000000200000a2 M) (hB2 : Sub x2.blk M) (h : Does M s0 s) :
    Does M s0 r.2 := by
  subst e
  unfold State.pageRead
  repeat' (first
    | with_reducible assumption
    | with_reducible refine State.blockRead_does rfl (Sub.trans (by decide) hM) hB2 ?_
    | with_reducible refine State.errClear_does (Sub.trans (by decide) hM) ?_
    | with_reducible refine State.readPair_does rfl (Sub.trans (by decide) hM) ?_
    | split)

theorem State.ringParity_does {M : Nat} {s0 s : State} {x1} (hM : Sub 0x40007c00000000004000200000000000000062 M) (h : Does M s0 s) :
    Does M s0 (State.ringParity s x1) := by
  unfold State.ringParity
  repeat' (first
    | with_reducible assumption
    | with_reducible refine State.countUnmapped_does (Sub.trans (by decide) hM) ?_
    | with_reducible refine State.integrity_does (Sub.trans (by decide) hM) ?_)

theorem State.regAccess_does {M : Nat} {s0 s : State} {x1} {x2} {x3} {x4} {x5} {x6 : Page → State → State} {x7 : State → State} (hM : Sub 0x40007c00000000004000200000000001000062 M) (h : Does M s0 s) (hf6 : ∀ a0 s, Does M s0 s → Does M s0 (x6 a0 s)) (hf7 : ∀ s, Does M s0 s → Does M s0 (x7 s)) :
    Does M s0 (State.regAccess s x1 x2 x3 x4 x5 x6 x7) := by
  unfold State.regAccess
  repeat' (first
    | with_reducible assumption
    | (with_reducible refine hf6 _ _ ?_)
    | (with_reducible refine hf7 _ ?_)
    | with_reducible refine State.carry_does (Sub.trans (by decide) hM) ?_
    | with_reducible refine State.countUnmapped_does (Sub.trans (by decide) hM) ?_
    | with_reducible refine State.ringParity_does (Sub.trans (by decide) hM) ?_
    | with_reducible refine Does.ite ?_ ?_
    | split)

theorem State.readAccess_does {M : Nat} {s0 s : State} {x1} {x2} {x3} {x4} {x5} (hM : Sub 0x7ffff007e00000007ffff007e00000000210000e2 M) (h : Does M s0 s) :
    Does M s0 (State.readAccess s x1 x2 x3 x4 x5) := by
  unfold State.readAccess
  repeat' (first
    | with_reducible assumption
    | (intro _ _ _)
    | (intro _ _)
    | (extract_lets +onlyGivenNames x; refine Does.cut x.2 ?_ ?_; rotate_left; (intro hx; clear_value x; revert x; intro _ _); rotate_left; (unfold x; clear x))
    | (extract_lets +onlyGivenNames x; revert x; intro _)
    | with_reducible refine State.emit_does (Sub.trans (by decide) hM) ?_
    | with_reducible refine State.pageRead_does rfl (Sub.trans (by decide) hM) (Sub.allBlk _ (by decide) hM) ?_
    | with_reducible refine State.regAccess_does (Sub.trans (by decide) hM) ?_ ?_ ?_)

theorem State.regWrite_does {M : Nat} {s0 s : State} {x1} {x2 : Page} {x3} {x4} (hM : Sub 0x7ffff007e00000007ffff007e0000007fff7febf6 M) (hH2 : Sub x2.hdr M) (h : Does M s0 s) :
    Does M s0 (State.regWrite s x1 x2 x3 x4) := by
  unfold State.regWrite
  repeat' (first
    | with_reducible assumption
    | (intro _ _ _)
    | (extract_lets +onlyGivenNames x; revert x; intro _)
    | with_reducible refine State.headerWrite_does (Sub.trans (by decide) hM) hH2 ?_
    | with_reducible refine State.imgAbort_does (Sub.trans (by decide) hM) ?_
    | with_reducible refine State.imgAppend_does (Sub.trans (by decide) hM) ?_
    | with_reducible refine State.imgStart_does (Sub.trans (by decide) hM) ?_
    | with_reducible refine State.pageWrite_does (Sub.trans (by decide) hM) hH2 ?_
    | with_reducible refine Does.fold ?_ ?_
    | with_reducible refine Does.ite ?_ ?_)

theorem execCounterLowWordRead_does {M : Nat} {s0 s : State} {x0} {x1} {x2} {x3} {t : State} (e : execCounterLowWordRead x0 x1 x2 x3 s = .next t) (hM : Sub 0x7ffff007e00000007ffff007e00000000210000e2 M) (h : Does M s0 s) :
    Does M s0 t := by
  revert e
  unfold execCounterLowWordRead
  repeat' (first
    | with_reducible assumption
    | (intro e; with_reducible injection e with e; subst e)
    | with_reducible refine State.readAccess_does (Sub.trans (by decide) hM) ?_)

theorem execI3cPrivateRead_does {M : Nat} {s0 s : State} {x0} {t : State} (e : execI3cPrivateRead x0 s = .next t) (hM : Sub 0x7ffff007e00000007ffff007e00000000210000e2 M) (h : Does M s0 s) :
    Does M s0 t := by
  revert e
  unfold execI3cPrivateRead
  repeat' (first
    | with_reducible assumption
    | (intro _ _ _)
    | (intro e; with_reducible injection e with e; subst e)
    | with_reducible refine State.readAccess_does (Sub.trans (by decide) hM) ?_
    | with_reducible refine Does.fold ?_ ?_
    | with_reducible refine Does.ite ?_ ?_)

theorem execI3cPrivateWrite_does {M : Nat} {s0 s : State} {x0} {x1} {x2} {t : State} (e : execI3cPrivateWrite x0 x1 x2 s = .next t) (hM : Sub 0x7ffff007e00000007ffff007e0000007fff7febfe M) (h : Does M s0 s) :
    Does M s0 t := by
  unfold execI3cPrivateWrite at e
  cases e
  refine Does.ite ?_ h
  refine Does.fold2 rfl ?_ (fun a w h => State.regAccess_does (Sub.trans (by decide) hM) h (fun _ _ h => State.regWrite_does (Sub.trans (by decide) hM) (Sub.allHdr _ (by decide) hM) h) (fun _ h => h))
  exact Does.put_pins (Sub.trans (by decide) hM) h

theorem execLockAcquire_does {M : Nat} {s0 s : State} {x0} {x1} {x2} {t : State} (e : execLockAcquire x0 x1 x2 s = .next t) (hM : Sub 0x7ffff007e00000000004000000000000001000122 M) (h : Does M s0 s) :
    Does M s0 t := by
  revert e
  unfold execLockAcquire
  repeat' (first
    | with_reducible assumption
    | (intro _ _ _)
    | (intro e; with_reducible injection e with e; subst e)
    | with_reducible refine State.access_does (Sub.trans (by decide) hM) ?_ ?_
    | with_reducible refine State.lockAcquire_does (Sub.trans (by decide) hM) (Sub.allHdr _ (by decide) hM) ?_)

theorem execLockForce_does {M : Nat} {s0 s : State} {x0} {x1} {t : State} (e : execLockForce x0 x1 s = .next t) (hM : Sub 0x7ffff007e00000000004000000000000001000122 M) (h : Does M s0 s) :
    Does M s0 t := by
  revert e
  unfold execLockForce
  repeat' (first
    | with_reducible assumption
    | (intro _ _ _)
    | (intro e; with_reducible injection e with e; subst e)
    | with_reducible refine State.access_does (Sub.trans (by decide) hM) ?_ ?_
    | with_reducible refine State.lockForce_does (Sub.trans (by decide) hM) (Sub.allHdr _ (by decide) hM) ?_)

theorem execLockRelease_does {M : Nat} {s0 s : State} {x0} {x1} {x2} {t : State} (e : execLockRelease x0 x1 x2 s = .next t) (hM : Sub 0x7ffff007e00000000004000000000000001000122 M) (h : Does M s0 s) :
    Does M s0 t := by
  revert e
  unfold execLockRelease
  repeat' (first
    | with_reducible assumption
    | (intro _ _ _)
    | (intro e; with_reducible injection e with e; subst e)
    | with_reducible refine State.access_does (Sub.trans (by decide) hM) ?_ ?_
    | with_reducible refine State.lockRelease_does (Sub.trans (by decide) hM) (Sub.allHdr _ (by decide) hM) ?_)

theorem execRegisterWrite_does {M : Nat} {s0 s : State} {x0} {x1} {x2} {x3} {x4} {x5} {t : State} (e : execRegisterWrite x0 x1 x2 x3 x4 x5 s = .next t) (hM : Sub 0x7ffff007e00000007ffff007e0000007fff7febf6 M) (h : Does M s0 s) :
    Does M s0 t := by
  revert e
  unfold execRegisterWrite
  repeat' (first
    | with_reducible assumption
    | (intro _ _ _)
    | (intro _ _)
    | (intro e; with_reducible injection e with e; subst e)
    | with_reducible refine State.regAccess_does (Sub.trans (by decide) hM) ?_ ?_ ?_
    | with_reducible refine State.regWrite_does (Sub.trans (by decide) hM) (Sub.allHdr _ (by decide) hM) ?_
    | assumption)

theorem execUnitReset_does {M : Nat} {s0 s : State} {x0} {x1} {t : State} (e : execUnitReset x0 x1 s = .next t) (hM : Sub 0x7ffff007e00000007ffff007e00000076f37ce9e6 M) (h : Does M s0 s) :
    Does M s0 t := by
  revert e
  unfold execUnitReset
  repeat' (first
    | with_reducible assumption
    | (intro _ _ _)
    | (intro e; with_reducible injection e with e; subst e)
    | with_reducible refine State.access_does (Sub.trans (by decide) hM) ?_ ?_
    | with_reducible refine State.unitReset_does (Sub.trans (by decide) hM) (Sub.allHdr _ (by decide) hM) ?_)

theorem execUnitResetDone_does {M : Nat} {s0 s : State} {x0} {t : State} (e : execUnitResetDone x0 s = .next t) (hM : Sub 2048 M) (h : Does M s0 s) :
    Does M s0 t := by
  revert e
  unfold execUnitResetDone
  repeat' (first
    | with_reducible assumption
    | (intro _ _ _)
    | (intro e; with_reducible injection e with e; subst e)
    | with_reducible refine Does.fold ?_ ?_
    | with_reducible refine Does.ite ?_ ?_
    | split
    | refine Does.put_resetting (Sub.trans (by decide) hM) ?_ (fun c => Sparse.wf_set _ _ _ _ c))

end Sys2Proof.Machine
end

