-- ==== Sys2Proof/Laws/KeelCtrl.lean ====
section
/-!
SUPPORT. What each operation of Machine/KeelCtrl.lean can change, and that it takes nothing back.
-/
namespace Sys2Proof.Machine

theorem State.accessArrives_does {M : Nat} {s0 s : State} {x1} {x2} (hM : Sub 0x7ffff007e00000007ffff007e0000007fff7febf6 M) (h : Does M s0 s) :
    Does M s0 (State.accessArrives s x1 x2) := by
  unfold State.accessArrives
  repeat' (first
    | with_reducible assumption
    | (extract_lets +onlyGivenNames x; refine Does.cut x.2 ?_ ?_; rotate_left; (intro hx; clear_value x; revert x; intro _ _); rotate_left; (unfold x; clear x))
    | (extract_lets +onlyGivenNames x; revert x; intro _)
    | with_reducible refine State.countUnmapped_does (Sub.trans (by decide) hM) ?_
    | with_reducible refine State.pageRead_does rfl (Sub.trans (by decide) hM) (Sub.allBlk _ (by decide) hM) ?_
    | with_reducible refine State.regWrite_does (Sub.trans (by decide) hM) (Sub.allHdr _ (by decide) hM) ?_
    | with_reducible refine State.sendCtrl_does (Sub.trans (by decide) hM) ?_
    | split)

theorem State.answerArrives_does {M : Nat} {s0 s : State} {x1} {x2} {x3} (hM : Sub 16777218 M) (h : Does M s0 s) :
    Does M s0 (State.answerArrives s x1 x2 x3) := by
  unfold State.answerArrives
  repeat' (first
    | with_reducible assumption
    | (extract_lets +onlyGivenNames x; revert x; intro _)
    | with_reducible refine State.emit_does (Sub.trans (by decide) hM) ?_
    | with_reducible refine State.setKeel_does (Sub.trans (by decide) hM) ?_
    | with_reducible refine Does.ite ?_ ?_)

theorem State.ctrlAct_does {M : Nat} {s0 s : State} {x1} {x2} (hM : Sub 0x7ffff007e00000007ffff007e0000007fffffebf6 M) (h : Does M s0 s) :
    Does M s0 (State.ctrlAct s x1 x2) := by
  unfold State.ctrlAct
  repeat' (first
    | with_reducible assumption
    | (extract_lets +onlyGivenNames x; revert x; intro _)
    | with_reducible refine State.accessArrives_does (Sub.trans (by decide) hM) ?_
    | with_reducible refine State.answerArrives_does (Sub.trans (by decide) hM) ?_
    | with_reducible refine State.arbiterTake_does (Sub.trans (by decide) hM) ?_
    | with_reducible refine State.budgetTaken_does (Sub.trans (by decide) hM) ?_
    | with_reducible refine State.epochSummary_does (Sub.trans (by decide) hM) ?_
    | with_reducible refine State.pfcUpdate_does (Sub.trans (by decide) hM) ?_
    | with_reducible refine State.pruneOn_does (Sub.trans (by decide) hM) ?_
    | with_reducible refine State.restoreOn_does (Sub.trans (by decide) hM) ?_
    | with_reducible refine State.setBuf_does (Sub.trans (by decide) hM) ?_
    | with_reducible refine State.stopSub_does (Sub.trans (by decide) hM) ?_
    | with_reducible refine State.subFailed_does (Sub.trans (by decide) hM) ?_
    | with_reducible refine State.voidOn_does (Sub.trans (by decide) hM) ?_
    | with_reducible refine Does.ite ?_ ?_
    | split)

theorem State.ctrlDrain_does {M : Nat} {s0 s : State} {x1} {x2} (hM : Sub 0x7ffff007e00000007ffff007e0000007fffffebf6 M) (h : Does M s0 s) :
    Does M s0 (State.ctrlDrain s x1 x2) := by
  induction x2 generalizing s x1 with
  | zero =>
    unfold State.ctrlDrain
    repeat' (first
      | with_reducible assumption)
  | succ _ ih =>
    unfold State.ctrlDrain
    repeat' (first
      | with_reducible assumption
      | (extract_lets +onlyGivenNames x; refine Does.cut x ?_ ?_; rotate_left; (intro hx; clear_value x; revert x; intro _ _); rotate_left; (unfold x; clear x))
      | (extract_lets +onlyGivenNames x; revert x; intro _)
      | with_reducible apply ih
      | with_reducible refine State.ctrlAct_does (Sub.trans (by decide) hM) ?_
      | with_reducible refine State.setKeel_does (Sub.trans (by decide) hM) ?_
      | split)

theorem State.sendAck_does {M : Nat} {s0 s : State} {x1} {x2} {x3} (hM : Sub 16777218 M) (h : Does M s0 s) :
    Does M s0 (State.sendAck s x1 x2 x3) := by
  unfold State.sendAck
  repeat' (first
    | with_reducible assumption
    | (extract_lets +onlyGivenNames x; revert x; intro _)
    | with_reducible refine State.emit_does (Sub.trans (by decide) hM) ?_
    | with_reducible refine State.putCell_does rfl (Sub.trans (by decide) hM) ?_
    | split)

theorem execKeelCtrlCellRx_does {M : Nat} {s0 s : State} {x0} {x1} {x2} {t : State} (e : execKeelCtrlCellRx x0 x1 x2 s = .next t) (hM : Sub 0x7ffff007e00000007ffff007e0000007fffffebf6 M) (h : Does M s0 s) :
    Does M s0 t := by
  revert e
  unfold execKeelCtrlCellRx State.ifOperates
  repeat' (first
    | with_reducible assumption
    | (intro e; with_reducible injection e with e; subst e)
    | (extract_lets +onlyGivenNames x; refine Does.cut x ?_ ?_; rotate_left; (intro hx; clear_value x; revert x; intro _ _); rotate_left; (unfold x; clear x))
    | (extract_lets +onlyGivenNames x; revert x; intro _)
    | with_reducible refine State.ctrlDrain_does (Sub.trans (by decide) hM) ?_
    | with_reducible refine State.landed_does (Sub.trans (by decide) hM) ?_
    | with_reducible refine State.loseCell_does (Sub.trans (by decide) hM) ?_
    | with_reducible refine State.sendAck_does (Sub.trans (by decide) hM) ?_
    | with_reducible refine State.setKeel_does (Sub.trans (by decide) hM) ?_
    | with_reducible refine Does.ite ?_ ?_
    | split)

end Sys2Proof.Machine
end

