-- ==== Sys2Proof/Laws/Learn.lean ====
section
/-!
SUPPORT. What each operation of Machine/Learn.lean can change, and that it takes nothing back.
-/
namespace Sys2Proof.Machine

theorem State.ageEntry_does {M : Nat} {s0 s : State} {x1} {x2} {x3} {r} (e : State.ageEntry s x1 x2 x3 = r) (hM : Sub 32768 M) (h : Does M s0 s) :
    Does M s0 r.2 := by
  subst e
  unfold State.ageEntry
  repeat' (first
    | with_reducible assumption
    | (extract_lets +onlyGivenNames x; revert x; intro _)
    | with_reducible refine State.emRewrite_does (Sub.trans (by decide) hM) ?_
    | with_reducible refine State.hashDelete_does rfl (Sub.trans (by decide) hM) ?_
    | split
    | dsimp only)

theorem State.notify_does {M : Nat} {s0 s : State} {x1} {x2} {x3} {x4} {x5} {x6} (hM : Sub 8591507456 M) (h : Does M s0 s) :
    Does M s0 (State.notify s x1 x2 x3 x4 x5 x6) := by
  unfold State.notify
  repeat' (first
    | with_reducible assumption
    | (extract_lets +onlyGivenNames x; refine Does.cut x.2 ?_ ?_; rotate_left; (intro hx; clear_value x; revert x; intro _ _); rotate_left; (unfold x; clear x))
    | (extract_lets +onlyGivenNames x; revert x; intro _)
    | with_reducible refine State.newFrm_does rfl (Sub.trans (by decide) hM) ?_
    | with_reducible refine State.toAdmit_does (Sub.trans (by decide) hM) ?_
    | with_reducible refine Does.ite ?_ ?_)

theorem State.ageKey_does {M : Nat} {s0 s : State} {x1} {x2} (hM : Sub 0x400000000000000200188040 M) (h : Does M s0 s) :
    Does M s0 (State.ageKey s x1 x2) := by
  unfold State.ageKey
  repeat' (first
    | with_reducible assumption
    | (intro _ _ _)
    | (extract_lets +onlyGivenNames x; refine Does.cut x ?_ ?_; rotate_left; (intro hx; clear_value x; revert x; intro _ _); rotate_left; (unfold x; clear x))
    | (extract_lets +onlyGivenNames x; refine Does.cut x.2 ?_ ?_; rotate_left; (intro hx; clear_value x; revert x; intro _ _); rotate_left; (unfold x; clear x))
    | (extract_lets +onlyGivenNames x; revert x; intro _)
    | with_reducible refine State.ageEntry_does rfl (Sub.trans (by decide) hM) ?_
    | with_reducible refine State.cadd_does (Sub.trans (by decide) hM) (Sub.fld (by decide) (Sub.kind (k := .lrn) rfl (by decide) hM)) ?_
    | with_reducible refine State.notify_does (Sub.trans (by decide) hM) ?_
    | with_reducible refine Does.fold2 rfl ?_ ?_
    | with_reducible refine Does.ite ?_ ?_
    | (clear_value *; split))

theorem State.changeEntry_does {M : Nat} {s0 s : State} {x1} {x2} {x3} {x4} (hM : Sub 32768 M) (h : Does M s0 s) :
    Does M s0 (State.changeEntry s x1 x2 x3 x4) := by
  unfold State.changeEntry
  repeat' (first
    | with_reducible assumption
    | with_reducible refine State.emRewrite_does (Sub.trans (by decide) hM) ?_
    | split)

theorem State.keepEvent_does {M : Nat} {s0 s : State} {x1} {x2} (hM : Sub 8388608 M) (h : Does M s0 s) :
    Does M s0 (State.keepEvent s x1 x2) := by
  unfold State.keepEvent
  repeat' (first
    | with_reducible assumption
    | (extract_lets +onlyGivenNames x; revert x; intro _)
    | with_reducible refine State.setLrn_does (Sub.trans (by decide) hM) ?_)

theorem State.pinEntry_does {M : Nat} {s0 s : State} {x1} {x2} {x3} (hM : Sub 0x4000007c00000000404000000000000200188062 M) (h : Does M s0 s) :
    Does M s0 (State.pinEntry s x1 x2 x3) := by
  unfold State.pinEntry
  repeat' (first
    | with_reducible assumption
    | (intro _ _ _)
    | (extract_lets +onlyGivenNames x; refine Does.cut x ?_ ?_; rotate_left; (intro hx; clear_value x; revert x; intro _ _); rotate_left; (unfold x; clear x))
    | (extract_lets +onlyGivenNames x; revert x; intro _)
    | with_reducible refine State.cadd_does (Sub.trans (by decide) hM) (Sub.fld (by decide) (Sub.kind (k := .lrn) rfl (by decide) hM)) ?_
    | with_reducible refine State.changeEntry_does (Sub.trans (by decide) hM) ?_
    | with_reducible refine State.notify_does (Sub.trans (by decide) hM) ?_
    | with_reducible refine State.raise_does (Sub.trans (by decide) hM) (Sub.kindH (k := .lrn) rfl (by decide) hM) ?_
    | with_reducible refine State.setReg_does (Sub.trans (by decide) hM) (Sub.off (by decide) (Sub.kind (k := .lrn) rfl (by decide) hM)) ?_
    | with_reducible refine Does.fold ?_ ?_)

theorem State.writeLearned_does {M : Nat} {s0 s : State} {x1} {x2} {x3} {x4} (hM : Sub 0x4000007c00000000404000100000000200988062 M) (h : Does M s0 s) :
    Does M s0 (State.writeLearned s x1 x2 x3 x4) := by
  unfold State.writeLearned
  repeat' (first
    | with_reducible assumption
    | (intro _ _ _)
    | (extract_lets +onlyGivenNames x; revert x; intro _)
    | with_reducible refine State.cadd_does (Sub.trans (by decide) hM) (Sub.fld (by decide) (Sub.kind (k := .lrn) rfl (by decide) hM)) ?_
    | with_reducible refine State.hashInsert_does rfl (Sub.trans (by decide) hM) ?_
    | with_reducible refine State.keepEvent_does (Sub.trans (by decide) hM) ?_
    | with_reducible refine State.notify_does (Sub.trans (by decide) hM) ?_
    | with_reducible refine State.raise_does (Sub.trans (by decide) hM) (Sub.kindH (k := .slice) rfl (by decide) hM) ?_
    | with_reducible refine State.raiseIf_does (Sub.trans (by decide) hM) (Sub.kindH (k := .lrn) rfl (by decide) hM) ?_
    | with_reducible refine Does.fold22 rfl ?_ ?_
    | with_reducible refine Does.ite ?_ ?_
    | with_reducible refine Does.of2 (by with_reducible assumption) ?_
    | split)

theorem State.applyLearn_does {M : Nat} {s0 s : State} {x1} {x2} (hM : Sub 0x4000007c00000000404000100000000200988062 M) (h : Does M s0 s) :
    Does M s0 (State.applyLearn s x1 x2) := by
  unfold State.applyLearn
  repeat' (first
    | with_reducible assumption
    | (intro _ _ _)
    | (extract_lets +onlyGivenNames x; refine Does.cut x ?_ ?_; rotate_left; (intro hx; clear_value x; revert x; intro _ _); rotate_left; (unfold x; clear x))
    | (extract_lets +onlyGivenNames x; revert x; intro _)
    | with_reducible refine State.cadd_does (Sub.trans (by decide) hM) (Sub.fld (by decide) (Sub.kind (k := .lrn) rfl (by decide) hM)) ?_
    | with_reducible refine State.changeEntry_does (Sub.trans (by decide) hM) ?_
    | with_reducible refine State.keepEvent_does (Sub.trans (by decide) hM) ?_
    | with_reducible refine State.pinEntry_does (Sub.trans (by decide) hM) ?_
    | with_reducible refine State.setLrn_does (Sub.trans (by decide) hM) ?_
    | with_reducible refine State.writeLearned_does (Sub.trans (by decide) hM) ?_
    | with_reducible refine Does.fold ?_ ?_
    | with_reducible refine Does.ite ?_ ?_
    | split)

theorem execAgeScan_does {M : Nat} {s0 s : State} {x0} {t : State} (e : execAgeScan x0 s = .next t) (hM : Sub 0x400000000000000200188040 M) (h : Does M s0 s) :
    Does M s0 t := by
  revert e
  unfold execAgeScan State.ifOperates
  repeat' (first
    | with_reducible assumption
    | (intro _ _ _)
    | (intro e; with_reducible injection e with e; subst e)
    | (extract_lets +onlyGivenNames x; refine Does.cut x ?_ ?_; rotate_left; (intro hx; clear_value x; revert x; intro _ _); rotate_left; (unfold x; clear x))
    | with_reducible refine State.ageKey_does (Sub.trans (by decide) hM) ?_
    | with_reducible refine State.updTab_does (Sub.trans (by decide) hM) ?_
    | with_reducible refine Does.fold ?_ ?_
    | with_reducible refine Does.ite ?_ ?_)

theorem execLearnEventApply_does {M : Nat} {s0 s : State} {x0} {t : State} (e : execLearnEventApply x0 s = .next t) (hM : Sub 0x4000007c00000000404000100000000200988062 M) (h : Does M s0 s) :
    Does M s0 t := by
  revert e
  unfold execLearnEventApply State.ifOperates
  repeat' (first
    | with_reducible assumption
    | (intro e; with_reducible injection e with e; subst e)
    | (extract_lets +onlyGivenNames x; refine Does.cut x ?_ ?_; rotate_left; (intro hx; clear_value x; revert x; intro _ _); rotate_left; (unfold x; clear x))
    | (extract_lets +onlyGivenNames x; revert x; intro _)
    | with_reducible refine State.applyLearn_does (Sub.trans (by decide) hM) ?_
    | with_reducible refine State.cadd_does (Sub.trans (by decide) hM) (Sub.fld (by decide) (Sub.kind (k := .lrn) rfl (by decide) hM)) ?_
    | with_reducible refine State.setLrn_does (Sub.trans (by decide) hM) ?_
    | with_reducible refine Does.ite ?_ ?_
    | split)

theorem execLearnMoveWindowExpire_does {M : Nat} {s0 s : State} {x0} {x1} {x2} {t : State} (e : execLearnMoveWindowExpire x0 x1 x2 s = .next t) (hM : Sub 8388608 M) (h : Does M s0 s) :
    Does M s0 t := by
  revert e
  unfold execLearnMoveWindowExpire State.ifOperates
  repeat' (first
    | with_reducible assumption
    | (intro e; with_reducible injection e with e; subst e)
    | with_reducible refine State.setLrn_does (Sub.trans (by decide) hM) ?_
    | with_reducible refine Does.ite ?_ ?_)

theorem execLearnUnpin_does {M : Nat} {s0 s : State} {x0} {x1} {x2} {t : State} (e : execLearnUnpin x0 x1 x2 s = .next t) (hM : Sub 8421376 M) (h : Does M s0 s) :
    Does M s0 t := by
  revert e
  unfold execLearnUnpin State.ifOperates
  repeat' (first
    | with_reducible assumption
    | (intro _ _ _)
    | (intro e; with_reducible injection e with e; subst e)
    | (extract_lets +onlyGivenNames x; refine Does.cut x ?_ ?_; rotate_left; (intro hx; clear_value x; revert x; intro _ _); rotate_left; (unfold x; clear x))
    | (extract_lets +onlyGivenNames x; revert x; intro _)
    | with_reducible refine State.changeEntry_does (Sub.trans (by decide) hM) ?_
    | with_reducible refine State.setLrn_does (Sub.trans (by decide) hM) ?_
    | with_reducible refine Does.fold ?_ ?_
    | with_reducible refine Does.ite ?_ ?_)

end Sys2Proof.Machine
end

