-- ==== Sys2Proof/Laws/Microword.lean ====
section
/-!
SUPPORT. What each operation of Machine/Microword.lean can change, and that it takes nothing back.
-/
namespace Sys2Proof.Machine

theorem State.aluStep_does {M : Nat} {s0 s : State} {x1} {x2} {x3} {x4} (hM : Sub 0x3002007c000000003557003400000046c37c8066 M) (h : Does M s0 s) :
    Does M s0 (State.aluStep s x1 x2 x3 x4) := by
  unfold State.aluStep
  repeat' (first
    | with_reducible assumption
    | (extract_lets +onlyGivenNames x; revert x; intro _)
    | with_reducible refine State.draw_does rfl (Sub.trans (by decide) hM) ?_
    | with_reducible refine State.endRoutine_does (Sub.trans (by decide) hM) ?_
    | with_reducible refine State.setCtx_does (Sub.trans (by decide) hM) ?_
    | with_reducible refine Does.ite ?_ ?_
    | split)

theorem State.chargeRoutine_does {M : Nat} {s0 s : State} {x1} {x2} {x3} {x4} (hM : Sub 0x40000000000000040080040 M) (h : Does M s0 s) :
    Does M s0 (State.chargeRoutine s x1 x2 x3 x4) := by
  unfold State.chargeRoutine
  repeat' (first
    | with_reducible assumption
    | with_reducible refine State.chargeFrm_does (Sub.trans (by decide) hM) ?_
    | split)

theorem State.issue_does {M : Nat} {s0 s : State} {x1} {x2} {x3} {x4} {r} (e : State.issue s x1 x2 x3 x4 = r) (hM : Sub 0x3002007c000000003557003400000046c37c8066 M) (h : Does M s0 s) :
    Does M s0 r.2 := by
  subst e
  unfold State.issue
  repeat' (first
    | with_reducible assumption
    | (extract_lets +onlyGivenNames x; refine Does.cut x ?_ ?_; rotate_left; (intro hx; clear_value x; revert x; intro _ _); rotate_left; (unfold x; clear x))
    | (extract_lets +onlyGivenNames x; revert x; intro _)
    | with_reducible refine State.cadd_does (Sub.trans (by decide) hM) (Sub.fld (by decide) (Sub.kind (k := .engine) rfl (by decide) hM)) ?_
    | with_reducible refine State.chargeRoutine_does (Sub.trans (by decide) hM) ?_
    | with_reducible refine State.csCorrected_does (Sub.trans (by decide) hM) ?_
    | with_reducible refine State.csUncorr_does (Sub.trans (by decide) hM) ?_
    | with_reducible refine State.endByCause_does (Sub.trans (by decide) hM) ?_
    | with_reducible refine State.pmcEvent_does (Sub.trans (by decide) hM) (Sub.kind (k := .slice) rfl (by decide) hM) ?_
    | with_reducible refine Does.ite ?_ ?_
    | split)

theorem State.alu_does {M : Nat} {s0 s : State} {x1} {x2} {x3} {x4} (hM : Sub 0x3002007c000000003557003400000046c37c8066 M) (h : Does M s0 s) :
    Does M s0 (State.alu s x1 x2 x3 x4) := by
  unfold State.alu
  repeat' (first
    | with_reducible assumption
    | (extract_lets +onlyGivenNames x; revert x; intro _)
    | with_reducible refine State.aluStep_does (Sub.trans (by decide) hM) ?_
    | with_reducible refine State.issue_does rfl (Sub.trans (by decide) hM) ?_
    | with_reducible refine Does.ite ?_ ?_
    | with_reducible refine Does.of2 (by with_reducible assumption) ?_
    | split)

theorem execAluAdd_does {M : Nat} {s0 s : State} {x0} {x1} {x2} {t : State} (e : execAluAdd x0 x1 x2 s = .next t) (hM : Sub 0x3002007c000000003557003400000046c37c8066 M) (h : Does M s0 s) :
    Does M s0 t := by
  revert e
  unfold execAluAdd
  repeat' (first
    | with_reducible assumption
    | (intro e; with_reducible injection e with e; subst e)
    | with_reducible refine State.alu_does (Sub.trans (by decide) hM) ?_)

theorem execAluAnd_does {M : Nat} {s0 s : State} {x0} {x1} {x2} {t : State} (e : execAluAnd x0 x1 x2 s = .next t) (hM : Sub 0x3002007c000000003557003400000046c37c8066 M) (h : Does M s0 s) :
    Does M s0 t := by
  revert e
  unfold execAluAnd
  repeat' (first
    | with_reducible assumption
    | (intro e; with_reducible injection e with e; subst e)
    | with_reducible refine State.alu_does (Sub.trans (by decide) hM) ?_)

theorem execAluCmp_does {M : Nat} {s0 s : State} {x0} {x1} {x2} {t : State} (e : execAluCmp x0 x1 x2 s = .next t) (hM : Sub 0x3002007c000000003557003400000046c37c8066 M) (h : Does M s0 s) :
    Does M s0 t := by
  revert e
  unfold execAluCmp
  repeat' (first
    | with_reducible assumption
    | (intro e; with_reducible injection e with e; subst e)
    | with_reducible refine State.alu_does (Sub.trans (by decide) hM) ?_)

theorem execAluCrc32c_does {M : Nat} {s0 s : State} {x0} {x1} {x2} {t : State} (e : execAluCrc32c x0 x1 x2 s = .next t) (hM : Sub 0x3002007c000000003557003400000046c37c8066 M) (h : Does M s0 s) :
    Does M s0 t := by
  revert e
  unfold execAluCrc32c
  repeat' (first
    | with_reducible assumption
    | (intro e; with_reducible injection e with e; subst e)
    | with_reducible refine State.alu_does (Sub.trans (by decide) hM) ?_)

theorem execAluExt_does {M : Nat} {s0 s : State} {x0} {x1} {x2} {t : State} (e : execAluExt x0 x1 x2 s = .next t) (hM : Sub 0x3002007c000000003557003400000046c37c8066 M) (h : Does M s0 s) :
    Does M s0 t := by
  revert e
  unfold execAluExt
  repeat' (first
    | with_reducible assumption
    | (intro e; with_reducible injection e with e; subst e)
    | with_reducible refine State.alu_does (Sub.trans (by decide) hM) ?_)

theorem execAluIns_does {M : Nat} {s0 s : State} {x0} {x1} {x2} {t : State} (e : execAluIns x0 x1 x2 s = .next t) (hM : Sub 0x3002007c000000003557003400000046c37c8066 M) (h : Does M s0 s) :
    Does M s0 t := by
  revert e
  unfold execAluIns
  repeat' (first
    | with_reducible assumption
    | (intro e; with_reducible injection e with e; subst e)
    | with_reducible refine State.alu_does (Sub.trans (by decide) hM) ?_)

theorem execAluMax_does {M : Nat} {s0 s : State} {x0} {x1} {x2} {t : State} (e : execAluMax x0 x1 x2 s = .next t) (hM : Sub 0x3002007c000000003557003400000046c37c8066 M) (h : Does M s0 s) :
    Does M s0 t := by
  revert e
  unfold execAluMax
  repeat' (first
    | with_reducible assumption
    | (intro e; with_reducible injection e with e; subst e)
    | with_reducible refine State.alu_does (Sub.trans (by decide) hM) ?_)

theorem execAluMin_does {M : Nat} {s0 s : State} {x0} {x1} {x2} {t : State} (e : execAluMin x0 x1 x2 s = .next t) (hM : Sub 0x3002007c000000003557003400000046c37c8066 M) (h : Does M s0 s) :
    Does M s0 t := by
  revert e
  unfold execAluMin
  repeat' (first
    | with_reducible assumption
    | (intro e; with_reducible injection e with e; subst e)
    | with_reducible refine State.alu_does (Sub.trans (by decide) hM) ?_)

theorem execAluMov_does {M : Nat} {s0 s : State} {x0} {x1} {x2} {t : State} (e : execAluMov x0 x1 x2 s = .next t) (hM : Sub 0x3002007c000000003557003400000046c37c8066 M) (h : Does M s0 s) :
    Does M s0 t := by
  revert e
  unfold execAluMov
  repeat' (first
    | with_reducible assumption
    | (intro e; with_reducible injection e with e; subst e)
    | with_reducible refine State.alu_does (Sub.trans (by decide) hM) ?_)

theorem execAluMul_does {M : Nat} {s0 s : State} {x0} {x1} {x2} {t : State} (e : execAluMul x0 x1 x2 s = .next t) (hM : Sub 0x3002007c000000003557003400000046c37c8066 M) (h : Does M s0 s) :
    Does M s0 t := by
  revert e
  unfold execAluMul
  repeat' (first
    | with_reducible assumption
    | (intro e; with_reducible injection e with e; subst e)
    | with_reducible refine State.alu_does (Sub.trans (by decide) hM) ?_)

theorem execAluNop_does {M : Nat} {s0 s : State} {x0} {x1} {x2} {t : State} (e : execAluNop x0 x1 x2 s = .next t) (hM : Sub 0x3002007c000000003557003400000046c37c8066 M) (h : Does M s0 s) :
    Does M s0 t := by
  revert e
  unfold execAluNop
  repeat' (first
    | with_reducible assumption
    | (intro e; with_reducible injection e with e; subst e)
    | with_reducible refine State.alu_does (Sub.trans (by decide) hM) ?_)

theorem execAluOr_does {M : Nat} {s0 s : State} {x0} {x1} {x2} {t : State} (e : execAluOr x0 x1 x2 s = .next t) (hM : Sub 0x3002007c000000003557003400000046c37c8066 M) (h : Does M s0 s) :
    Does M s0 t := by
  revert e
  unfold execAluOr
  repeat' (first
    | with_reducible assumption
    | (intro e; with_reducible injection e with e; subst e)
    | with_reducible refine State.alu_does (Sub.trans (by decide) hM) ?_)

theorem execAluSar_does {M : Nat} {s0 s : State} {x0} {x1} {x2} {t : State} (e : execAluSar x0 x1 x2 s = .next t) (hM : Sub 0x3002007c000000003557003400000046c37c8066 M) (h : Does M s0 s) :
    Does M s0 t := by
  revert e
  unfold execAluSar
  repeat' (first
    | with_reducible assumption
    | (intro e; with_reducible injection e with e; subst e)
    | with_reducible refine State.alu_does (Sub.trans (by decide) hM) ?_)

theorem execAluShl_does {M : Nat} {s0 s : State} {x0} {x1} {x2} {t : State} (e : execAluShl x0 x1 x2 s = .next t) (hM : Sub 0x3002007c000000003557003400000046c37c8066 M) (h : Does M s0 s) :
    Does M s0 t := by
  revert e
  unfold execAluShl
  repeat' (first
    | with_reducible assumption
    | (intro e; with_reducible injection e with e; subst e)
    | with_reducible refine State.alu_does (Sub.trans (by decide) hM) ?_)

theorem execAluShr_does {M : Nat} {s0 s : State} {x0} {x1} {x2} {t : State} (e : execAluShr x0 x1 x2 s = .next t) (hM : Sub 0x3002007c000000003557003400000046c37c8066 M) (h : Does M s0 s) :
    Does M s0 t := by
  revert e
  unfold execAluShr
  repeat' (first
    | with_reducible assumption
    | (intro e; with_reducible injection e with e; subst e)
    | with_reducible refine State.alu_does (Sub.trans (by decide) hM) ?_)

theorem execAluSub_does {M : Nat} {s0 s : State} {x0} {x1} {x2} {t : State} (e : execAluSub x0 x1 x2 s = .next t) (hM : Sub 0x3002007c000000003557003400000046c37c8066 M) (h : Does M s0 s) :
    Does M s0 t := by
  revert e
  unfold execAluSub
  repeat' (first
    | with_reducible assumption
    | (intro e; with_reducible injection e with e; subst e)
    | with_reducible refine State.alu_does (Sub.trans (by decide) hM) ?_)

theorem execAluXor_does {M : Nat} {s0 s : State} {x0} {x1} {x2} {t : State} (e : execAluXor x0 x1 x2 s = .next t) (hM : Sub 0x3002007c000000003557003400000046c37c8066 M) (h : Does M s0 s) :
    Does M s0 t := by
  revert e
  unfold execAluXor
  repeat' (first
    | with_reducible assumption
    | (intro e; with_reducible injection e with e; subst e)
    | with_reducible refine State.alu_does (Sub.trans (by decide) hM) ?_)

end Sys2Proof.Machine
end

