-- ==== Sys2Proof/Laws/MemOps.lean ====
section
/-!
SUPPORT. What each operation of Machine/MemOps.lean can change, and that it takes nothing back.
-/
namespace Sys2Proof.Machine

theorem State.applyLog_does {M : Nat} {s0 s : State} {x1} {x2} (hM : Sub 0x40800100000000040098040 M) (h : Does M s0 s) :
    Does M s0 (State.applyLog s x1 x2) := by
  unfold State.applyLog
  repeat' (first
    | with_reducible assumption
    | (intro _ _ _)
    | (extract_lets +onlyGivenNames x; revert x; intro _)
    | with_reducible refine State.chargeRoutine_does (Sub.trans (by decide) hM) ?_
    | with_reducible refine State.pmcEvent_does (Sub.trans (by decide) hM) (Sub.kind (k := .qdr) rfl (by decide) hM) ?_
    | with_reducible refine State.pmcEvent_does (Sub.trans (by decide) hM) (Sub.kind (k := .slice) rfl (by decide) hM) ?_
    | with_reducible refine State.setQdr_does (Sub.trans (by decide) hM) ?_
    | with_reducible refine State.tableWrite_does (Sub.trans (by decide) hM) ?_
    | with_reducible refine State.updTab_does (Sub.trans (by decide) hM) ?_
    | with_reducible refine Does.fold ?_ ?_
    | with_reducible refine Does.ite ?_ ?_
    | split)

theorem State.arrive_does {M : Nat} {s0 s : State} {x1} {x2} {x3} {x4} {x5} {r} (e : State.arrive s x1 x2 x3 x4 x5 = r) (hM : Sub 0x108007c00000000054800300000000440088066 M) (h : Does M s0 s) :
    Does M s0 r.2 := by
  subst e
  unfold State.arrive
  repeat' (first
    | with_reducible assumption
    | (extract_lets +onlyGivenNames x; refine Does.cut x ?_ ?_; rotate_left; (intro hx; clear_value x; revert x; intro _ _); rotate_left; (unfold x; clear x))
    | (extract_lets +onlyGivenNames x; revert x; intro _)
    | with_reducible refine State.chargeRoutine_does (Sub.trans (by decide) hM) ?_
    | with_reducible refine State.countMsg_does (Sub.trans (by decide) hM) ?_
    | with_reducible refine State.draw_does rfl (Sub.trans (by decide) hM) ?_
    | with_reducible refine State.endMsg_does (Sub.trans (by decide) hM) ?_
    | with_reducible refine State.hashRead_does rfl (Sub.trans (by decide) hM) ?_
    | with_reducible refine State.integrity_does (Sub.trans (by decide) hM) ?_
    | with_reducible refine State.lpmRead_does rfl (Sub.trans (by decide) hM) ?_
    | with_reducible refine State.parityError_does (Sub.trans (by decide) hM) ?_
    | with_reducible refine State.pmcEvent_does (Sub.trans (by decide) hM) (Sub.kind (k := .qdr) rfl (by decide) hM) ?_
    | with_reducible refine State.pmcEvent_does (Sub.trans (by decide) hM) (Sub.kind (k := .slice) rfl (by decide) hM) ?_
    | with_reducible refine State.qdrReport_does (Sub.trans (by decide) hM) ?_
    | with_reducible refine Does.ite ?_ ?_
    | with_reducible refine Does.of2 (by with_reducible assumption) ?_
    | split)

theorem State.pendRead_does {M : Nat} {s0 s : State} {x1} {x2} {x3} {x4} {x5} {x6} (hM : Sub 274877906944 M) (h : Does M s0 s) :
    Does M s0 (State.pendRead s x1 x2 x3 x4 x5 x6) := by
  unfold State.pendRead
  repeat' (first
    | with_reducible assumption
    | with_reducible refine State.setCtx_does (Sub.trans (by decide) hM) ?_)

theorem State.stage_does {M : Nat} {s0 s : State} {x1} {x2} {x3} {x4} (hM : Sub 0x3002007c000000003557003400000046c37c8066 M) (h : Does M s0 s) :
    Does M s0 (State.stage s x1 x2 x3 x4) := by
  unfold State.stage
  repeat' (first
    | with_reducible assumption
    | with_reducible refine State.endByCause_does (Sub.trans (by decide) hM) ?_
    | with_reducible refine State.setCtx_does (Sub.trans (by decide) hM) ?_
    | with_reducible refine Does.ite ?_ ?_)

theorem State.memStart_does {M : Nat} {s0 s : State} {x1} {x2} {x3} {x4} (hM : Sub 0x3002007c000000003557003400000046c37c8066 M) (h : Does M s0 s) :
    Does M s0 (State.memStart s x1 x2 x3 x4) := by
  unfold State.memStart
  repeat' (first
    | with_reducible assumption
    | (extract_lets +onlyGivenNames x; refine Does.cut x ?_ ?_; rotate_left; (intro hx; clear_value x; revert x; intro _ _); rotate_left; (unfold x; clear x))
    | (extract_lets +onlyGivenNames x; revert x; intro _)
    | with_reducible refine State.draw_does rfl (Sub.trans (by decide) hM) ?_
    | with_reducible refine State.pendRead_does (Sub.trans (by decide) hM) ?_
    | with_reducible refine State.setCtx_does (Sub.trans (by decide) hM) ?_
    | with_reducible refine State.stage_does (Sub.trans (by decide) hM) ?_
    | with_reducible refine State.submitMsg_does (Sub.trans (by decide) hM) ?_
    | split)

theorem State.mem_does {M : Nat} {s0 s : State} {x1} {x2} {x3} {x4} (hM : Sub 0x3002007c000000003557003400000046c37c8066 M) (h : Does M s0 s) :
    Does M s0 (State.mem s x1 x2 x3 x4) := by
  unfold State.mem
  repeat' (first
    | with_reducible assumption
    | with_reducible refine State.issue_does rfl (Sub.trans (by decide) hM) ?_
    | with_reducible refine State.memStart_does (Sub.trans (by decide) hM) ?_
    | with_reducible refine Does.of2 (by with_reducible assumption) ?_
    | split)

theorem execLockGrant_does {M : Nat} {s0 s : State} {x0} {x1} {t : State} (e : execLockGrant x0 x1 s = .next t) (hM : Sub 0x3002007c000000003557003400000046c37c8066 M) (h : Does M s0 s) :
    Does M s0 t := by
  revert e
  unfold execLockGrant
  repeat' (first
    | with_reducible assumption
    | (intro e; with_reducible injection e with e; subst e)
    | with_reducible refine State.takeLock_does (Sub.trans (by decide) hM) ?_
    | split)

theorem execMemCnt_does {M : Nat} {s0 s : State} {x0} {x1} {x2} {t : State} (e : execMemCnt x0 x1 x2 s = .next t) (hM : Sub 0x3002007c000000003557003400000046c37c8066 M) (h : Does M s0 s) :
    Does M s0 t := by
  revert e
  unfold execMemCnt
  repeat' (first
    | with_reducible assumption
    | (intro e; with_reducible injection e with e; subst e)
    | with_reducible refine State.mem_does (Sub.trans (by decide) hM) ?_)

theorem execMemCu_does {M : Nat} {s0 s : State} {x0} {x1} {x2} {t : State} (e : execMemCu x0 x1 x2 s = .next t) (hM : Sub 0x3002007c000000003557003400000046c37c8066 M) (h : Does M s0 s) :
    Does M s0 t := by
  revert e
  unfold execMemCu
  repeat' (first
    | with_reducible assumption
    | (intro e; with_reducible injection e with e; subst e)
    | with_reducible refine State.mem_does (Sub.trans (by decide) hM) ?_)

theorem execMemEml_does {M : Nat} {s0 s : State} {x0} {x1} {x2} {t : State} (e : execMemEml x0 x1 x2 s = .next t) (hM : Sub 0x3002007c000000003557003400000046c37c8066 M) (h : Does M s0 s) :
    Does M s0 t := by
  revert e
  unfold execMemEml
  repeat' (first
    | with_reducible assumption
    | (intro e; with_reducible injection e with e; subst e)
    | with_reducible refine State.mem_does (Sub.trans (by decide) hM) ?_)

theorem execMemHrd_does {M : Nat} {s0 s : State} {x0} {x1} {x2} {t : State} (e : execMemHrd x0 x1 x2 s = .next t) (hM : Sub 0x3002007c000000003557003400000046c37c8066 M) (h : Does M s0 s) :
    Does M s0 t := by
  revert e
  unfold execMemHrd
  repeat' (first
    | with_reducible assumption
    | (intro e; with_reducible injection e with e; subst e)
    | with_reducible refine State.mem_does (Sub.trans (by decide) hM) ?_)

theorem execMemHwr_does {M : Nat} {s0 s : State} {x0} {x1} {x2} {t : State} (e : execMemHwr x0 x1 x2 s = .next t) (hM : Sub 0x3002007c000000003557003400000046c37c8066 M) (h : Does M s0 s) :
    Does M s0 t := by
  revert e
  unfold execMemHwr
  repeat' (first
    | with_reducible assumption
    | (intro e; with_reducible injection e with e; subst e)
    | with_reducible refine State.mem_does (Sub.trans (by decide) hM) ?_)

theorem execMemLock_does {M : Nat} {s0 s : State} {x0} {x1} {x2} {t : State} (e : execMemLock x0 x1 x2 s = .next t) (hM : Sub 0x3002007c000000003557003400000046c37c8066 M) (h : Does M s0 s) :
    Does M s0 t := by
  revert e
  unfold execMemLock
  repeat' (first
    | with_reducible assumption
    | (intro e; with_reducible injection e with e; subst e)
    | with_reducible refine State.mem_does (Sub.trans (by decide) hM) ?_)

theorem execMemLpm_does {M : Nat} {s0 s : State} {x0} {x1} {x2} {t : State} (e : execMemLpm x0 x1 x2 s = .next t) (hM : Sub 0x3002007c000000003557003400000046c37c8066 M) (h : Does M s0 s) :
    Does M s0 t := by
  revert e
  unfold execMemLpm
  repeat' (first
    | with_reducible assumption
    | (intro e; with_reducible injection e with e; subst e)
    | with_reducible refine State.mem_does (Sub.trans (by decide) hM) ?_)

theorem execMemMrd_does {M : Nat} {s0 s : State} {x0} {x1} {x2} {t : State} (e : execMemMrd x0 x1 x2 s = .next t) (hM : Sub 0x3002007c000000003557003400000046c37c8066 M) (h : Does M s0 s) :
    Does M s0 t := by
  revert e
  unfold execMemMrd
  repeat' (first
    | with_reducible assumption
    | (intro e; with_reducible injection e with e; subst e)
    | with_reducible refine State.mem_does (Sub.trans (by decide) hM) ?_)

theorem execMemMwr_does {M : Nat} {s0 s : State} {x0} {x1} {x2} {t : State} (e : execMemMwr x0 x1 x2 s = .next t) (hM : Sub 0x3002007c000000003557003400000046c37c8066 M) (h : Does M s0 s) :
    Does M s0 t := by
  revert e
  unfold execMemMwr
  repeat' (first
    | with_reducible assumption
    | (intro e; with_reducible injection e with e; subst e)
    | with_reducible refine State.mem_does (Sub.trans (by decide) hM) ?_)

theorem execMemQrd_does {M : Nat} {s0 s : State} {x0} {x1} {x2} {t : State} (e : execMemQrd x0 x1 x2 s = .next t) (hM : Sub 0x3002007c000000003557003400000046c37c8066 M) (h : Does M s0 s) :
    Does M s0 t := by
  revert e
  unfold execMemQrd
  repeat' (first
    | with_reducible assumption
    | (intro e; with_reducible injection e with e; subst e)
    | with_reducible refine State.mem_does (Sub.trans (by decide) hM) ?_)

theorem execMemQwr_does {M : Nat} {s0 s : State} {x0} {x1} {x2} {t : State} (e : execMemQwr x0 x1 x2 s = .next t) (hM : Sub 0x3002007c000000003557003400000046c37c8066 M) (h : Does M s0 s) :
    Does M s0 t := by
  revert e
  unfold execMemQwr
  repeat' (first
    | with_reducible assumption
    | (intro e; with_reducible injection e with e; subst e)
    | with_reducible refine State.mem_does (Sub.trans (by decide) hM) ?_)

theorem execMemReadReturn_does {M : Nat} {s0 s : State} {x0} {x1} {x2} {x3} {t : State} (e : execMemReadReturn x0 x1 x2 x3 s = .next t) (hM : Sub 0x310a007c00000000355f003400000046c37c8066 M) (h : Does M s0 s) :
    Does M s0 t := by
  revert e
  unfold execMemReadReturn
  repeat' (first
    | with_reducible assumption
    | (intro e; with_reducible injection e with e; subst e)
    | (extract_lets +onlyGivenNames x; refine Does.cut x ?_ ?_; rotate_left; (intro hx; clear_value x; revert x; intro _ _); rotate_left; (unfold x; clear x))
    | (extract_lets +onlyGivenNames x; revert x; intro _)
    | with_reducible refine State.arrive_does rfl (Sub.trans (by decide) hM) ?_
    | with_reducible refine State.endByCause_does (Sub.trans (by decide) hM) ?_
    | with_reducible refine State.markBad_does (Sub.trans (by decide) hM) ?_
    | with_reducible refine State.setCtx_does (Sub.trans (by decide) hM) ?_
    | with_reducible refine Does.of2 (by with_reducible assumption) ?_
    | split)

theorem execMemTrd_does {M : Nat} {s0 s : State} {x0} {x1} {x2} {t : State} (e : execMemTrd x0 x1 x2 s = .next t) (hM : Sub 0x3002007c000000003557003400000046c37c8066 M) (h : Does M s0 s) :
    Does M s0 t := by
  revert e
  unfold execMemTrd
  repeat' (first
    | with_reducible assumption
    | (intro e; with_reducible injection e with e; subst e)
    | with_reducible refine State.mem_does (Sub.trans (by decide) hM) ?_)

theorem execMemTwr_does {M : Nat} {s0 s : State} {x0} {x1} {x2} {t : State} (e : execMemTwr x0 x1 x2 s = .next t) (hM : Sub 0x3002007c000000003557003400000046c37c8066 M) (h : Does M s0 s) :
    Does M s0 t := by
  revert e
  unfold execMemTwr
  repeat' (first
    | with_reducible assumption
    | (intro e; with_reducible injection e with e; subst e)
    | with_reducible refine State.mem_does (Sub.trans (by decide) hM) ?_)

theorem execMemXrd_does {M : Nat} {s0 s : State} {x0} {x1} {x2} {t : State} (e : execMemXrd x0 x1 x2 s = .next t) (hM : Sub 0x3002007c000000003557003400000046c37c8066 M) (h : Does M s0 s) :
    Does M s0 t := by
  revert e
  unfold execMemXrd
  repeat' (first
    | with_reducible assumption
    | (intro e; with_reducible injection e with e; subst e)
    | with_reducible refine State.mem_does (Sub.trans (by decide) hM) ?_)

theorem execRoutineCommit_does {M : Nat} {s0 s : State} {x0} {x1} {t : State} (e : execRoutineCommit x0 x1 s = .next t) (hM : Sub 0x3002007c00000000355f003400000046c37d8066 M) (h : Does M s0 s) :
    Does M s0 t := by
  revert e
  unfold execRoutineCommit
  repeat' (first
    | with_reducible assumption
    | (intro _ _ _)
    | (intro e; with_reducible injection e with e; subst e)
    | (extract_lets +onlyGivenNames x; refine Does.cut x ?_ ?_; rotate_left; (intro hx; clear_value x; revert x; intro _ _); rotate_left; (unfold x; clear x))
    | (extract_lets +onlyGivenNames x; revert x; intro _)
    | with_reducible refine State.applyLog_does (Sub.trans (by decide) hM) ?_
    | with_reducible refine State.cadd_does (Sub.trans (by decide) hM) (Sub.fld (by decide) (Sub.kind (k := .cs) rfl (by decide) hM)) ?_
    | with_reducible refine State.endByCause_does (Sub.trans (by decide) hM) ?_
    | with_reducible refine State.endRoutine_does (Sub.trans (by decide) hM) ?_
    | with_reducible refine State.freeLocks_does (Sub.trans (by decide) hM) ?_
    | with_reducible refine State.raise_does (Sub.trans (by decide) hM) (Sub.kindH (k := .cs) rfl (by decide) hM) ?_
    | with_reducible refine State.setCtx_does (Sub.trans (by decide) hM) ?_
    | with_reducible refine Does.fold ?_ ?_
    | with_reducible refine Does.ite ?_ ?_
    | split)

end Sys2Proof.Machine
end

