-- ==== Sys2Proof/Laws/Pipeline.lean ====
section
/-!
SUPPORT. What each operation of Machine/Pipeline.lean can change, and that it takes nothing back.
-/
namespace Sys2Proof.Machine

theorem State.chargeIn_does {M : Nat} {s0 s : State} {x1} {x2} {r} (e : State.chargeIn s x1 x2 = r) (hM : Sub 0x40000000000000040000040 M) (h : Does M s0 s) :
    Does M s0 r.2 := by
  subst e
  unfold State.chargeIn
  repeat' (first
    | with_reducible assumption
    | with_reducible refine State.charge_does rfl (Sub.trans (by decide) hM) ?_
    | with_reducible refine Does.of2 (by with_reducible assumption) ?_
    | split)

theorem State.countIn_does {M : Nat} {s0 s : State} {x1} {x2} (hM : Sub 0x100000000040000040 M) (h : Does M s0 s) :
    Does M s0 (State.countIn s x1 x2) := by
  unfold State.countIn
  repeat' (first
    | with_reducible assumption
    | (extract_lets +onlyGivenNames x; refine Does.cut x ?_ ?_; rotate_left; (intro hx; clear_value x; revert x; intro _ _); rotate_left; (unfold x; clear x))
    | (extract_lets +onlyGivenNames x; revert x; intro _)
    | with_reducible refine State.acctAdd_does (Sub.trans (by decide) hM) ?_
    | with_reducible refine State.pmcEvent_does (Sub.trans (by decide) hM) (Sub.kind (k := .slice) rfl (by decide) hM) ?_
    | with_reducible refine State.setAcct_does (Sub.trans (by decide) hM) ?_)

theorem State.paddlePass_does {M : Nat} {s0 s : State} {x1} {x2} {r} (e : State.paddlePass s x1 x2 = r) (hM : Sub 0x4000007c00000000404000100000000001c08062 M) (h : Does M s0 s) :
    Does M s0 r.2 := by
  subst e
  unfold State.paddlePass
  extract_lets pg f dmac routed look
  have hl : ∀ s sel, Does M s0 s → Does M s0 (look s sel).2 := by
    intro s sel h
    unfold look
    split
    · exact State.emFrame_does rfl (Sub.trans (by decide) hM) h
    · exact h
  clear_value look
  split
  next f' s1 heq =>
  have h1 : Does M s0 s1 := by
    refine Does.of2 heq ?_
    split
    · split
      · exact Does.of2 ‹_› (hl _ _ h)
      · split <;> exact Does.of2 ‹_› (State.lpmFrame_does rfl (Sub.trans (by decide) hM) (Does.of2 ‹_› (hl _ _ h)))
    · split <;> exact Does.of2 ‹_› (hl _ _ h)
  split
  split
  exact Does.of2 ‹_› (State.learnStage_does rfl (Sub.trans (by decide) hM) (Does.of2 ‹_› (hl _ _ h1)))

theorem State.ingressPass_does {M : Nat} {s0 s : State} {x1} {x2} {x3} {x4} {x5} (hM : Sub 0x7000007c000000007456003400000002c3fc8066 M) (h : Does M s0 s) :
    Does M s0 (State.ingressPass s x1 x2 x3 x4 x5) := by
  unfold State.ingressPass
  repeat' (first
    | with_reducible assumption
    | with_reducible refine State.atDispatch_does (Sub.trans (by decide) hM) ?_
    | with_reducible refine State.dropEarly_does (Sub.trans (by decide) hM) ?_
    | with_reducible refine State.guard_does (Sub.trans (by decide) hM) ?_
    | with_reducible refine State.paddlePass_does rfl (Sub.trans (by decide) hM) ?_
    | with_reducible refine State.resolve_does rfl (Sub.trans (by decide) hM) ?_
    | with_reducible refine State.runStages_does rfl (Sub.trans (by decide) hM) ?_
    | with_reducible refine State.setFrm_does (Sub.trans (by decide) hM) ?_
    | with_reducible refine State.toAdmit_does (Sub.trans (by decide) hM) ?_
    | with_reducible refine Does.ite ?_ ?_
    | split)

theorem State.parseFrm_does {M : Nat} {s0 s : State} {x1} {x2} {x3} {r} (e : State.parseFrm s x1 x2 x3 = r) (hM : Sub 0x7c00000000044000300000000040008066 M) (h : Does M s0 s) :
    Does M s0 r.2.2 := by
  subst e
  unfold State.parseFrm
  repeat' (first
    | with_reducible assumption
    | (extract_lets +onlyGivenNames x; refine Does.cut x ?_ ?_; rotate_left; (intro hx; clear_value x; revert x; intro _ _); rotate_left; (unfold x; clear x))
    | (extract_lets +onlyGivenNames x; revert x; intro _)
    | with_reducible refine State.assignTenant_does rfl (Sub.trans (by decide) hM) ?_
    | with_reducible refine State.cadd_does (Sub.trans (by decide) hM) (Sub.fld (by decide) (Sub.kind (k := .slice) rfl (by decide) hM)) ?_
    | with_reducible refine State.chargeIn_does rfl (Sub.trans (by decide) hM) ?_
    | with_reducible refine State.countIn_does (Sub.trans (by decide) hM) ?_
    | with_reducible refine State.integrity_does (Sub.trans (by decide) hM) ?_
    | with_reducible refine State.markBad_does (Sub.trans (by decide) hM) ?_
    | with_reducible refine State.parse_does rfl (Sub.trans (by decide) hM) ?_
    | with_reducible refine Does.ite ?_ ?_
    | split)

theorem State.takeEntry_does {M : Nat} {s0 s : State} {x1} {x2} (hM : Sub 0x40000000000404066 M) (h : Does M s0 s) :
    Does M s0 (State.takeEntry s x1 x2) := by
  unfold State.takeEntry
  repeat' (first
    | with_reducible assumption
    | (extract_lets +onlyGivenNames x; revert x; intro _)
    | with_reducible refine State.entryPfc_does (Sub.trans (by decide) hM) ?_
    | with_reducible refine State.setPort_does (Sub.trans (by decide) hM) ?_)

theorem execPipelineEntry_does {M : Nat} {s0 s : State} {x0} {x1} {t : State} (e : execPipelineEntry x0 x1 s = .next t) (hM : Sub 0x7000007c000000007456003400000002c3fcc066 M) (h : Does M s0 s) :
    Does M s0 t := by
  revert e
  unfold execPipelineEntry State.ifOperates
  repeat' (first
    | with_reducible assumption
    | (intro e; with_reducible injection e with e; subst e)
    | (extract_lets +onlyGivenNames x; refine Does.cut x ?_ ?_; rotate_left; (intro hx; clear_value x; revert x; intro _ _); rotate_left; (unfold x; clear x))
    | (extract_lets +onlyGivenNames x; revert x; intro _)
    | with_reducible refine State.ingressPass_does (Sub.trans (by decide) hM) ?_
    | with_reducible refine State.parseFrm_does rfl (Sub.trans (by decide) hM) ?_
    | with_reducible refine State.setPort_does (Sub.trans (by decide) hM) ?_
    | with_reducible refine State.takeEntry_does (Sub.trans (by decide) hM) ?_
    | with_reducible refine Does.ite ?_ ?_
    | split)

end Sys2Proof.Machine
end

