-- ==== Sys2Proof/Laws/State.lean ====
section
/-!
SUPPORT. What each update of one part of the state leaves of every part, and what it makes of its own.
-/
namespace Sys2Proof.Machine

theorem State.reg_congr {s t : State} (h : t.regs = s.regs) (p : Page) (o : Nat) : t.reg p o = s.reg p o := by
  unfold State.reg; rw [h]

theorem State.fget_congr {s t : State} (h : t.regs = s.regs) (p : Page) (f : Fld) (i : Nat) : t.fget p f i = s.fget p f i := by
  unfold State.fget; rw [State.reg_congr h]

theorem State.flag_congr {s t : State} (h : t.regs = s.regs) (p : Page) (f : Fld) (i : Nat) : t.flag p f i = s.flag p f i := by
  unfold State.flag; rw [State.fget_congr h]

theorem State.cget_congr {s t : State} (h : t.ctrs = s.ctrs) (p : Page) (f : Fld) (i : Nat) : t.cget p f i = s.cget p f i := by
  unfold State.cget; rw [h]

variable (s : State)

theorem State.put_regs_pending (v : Sparse Word) : ({ s with regs := v } : State).pending = s.pending := rfl
theorem State.put_regs_out (v : Sparse Word) : ({ s with regs := v } : State).out = s.out := rfl
theorem State.put_regs_free (v : Sparse Word) : ({ s with regs := v } : State).free = s.free := rfl
theorem State.put_regs_pins (v : Sparse Word) : ({ s with regs := v } : State).pins = s.pins := rfl
theorem State.put_regs_otp (v : Sparse Word) : ({ s with regs := v } : State).otp = s.otp := rfl
theorem State.put_regs_ctrs (v : Sparse Word) : ({ s with regs := v } : State).ctrs = s.ctrs := rfl
theorem State.put_regs_latch (v : Sparse Word) : ({ s with regs := v } : State).latch = s.latch := rfl
theorem State.put_regs_locks (v : Sparse Word) : ({ s with regs := v } : State).locks = s.locks := rfl
theorem State.put_regs_boot (v : Sparse Word) : ({ s with regs := v } : State).boot = s.boot := rfl
theorem State.put_regs_failed (v : Sparse Word) : ({ s with regs := v } : State).failed = s.failed := rfl
theorem State.put_regs_resetting (v : Sparse Word) : ({ s with regs := v } : State).resetting = s.resetting := rfl
theorem State.put_regs_wearBase (v : Sparse Word) : ({ s with regs := v } : State).wearBase = s.wearBase := rfl
theorem State.put_regs_lanes (v : Sparse Word) : ({ s with regs := v } : State).lanes = s.lanes := rfl
theorem State.put_regs_links (v : Sparse Word) : ({ s with regs := v } : State).links = s.links := rfl
theorem State.put_regs_tabs (v : Sparse Word) : ({ s with regs := v } : State).tabs = s.tabs := rfl
theorem State.put_regs_qdr (v : Sparse Word) : ({ s with regs := v } : State).qdr = s.qdr := rfl
theorem State.put_regs_qdrBusy (v : Sparse Word) : ({ s with regs := v } : State).qdrBusy = s.qdrBusy := rfl
theorem State.put_regs_clss (v : Sparse Word) : ({ s with regs := v } : State).clss = s.clss := rfl
theorem State.put_regs_frames (v : Sparse Word) : ({ s with regs := v } : State).frames = s.frames := rfl
theorem State.put_regs_nextFrame (v : Sparse Word) : ({ s with regs := v } : State).nextFrame = s.nextFrame := rfl
theorem State.put_regs_slices (v : Sparse Word) : ({ s with regs := v } : State).slices = s.slices := rfl
theorem State.put_regs_ports (v : Sparse Word) : ({ s with regs := v } : State).ports = s.ports := rfl
theorem State.put_regs_lrns (v : Sparse Word) : ({ s with regs := v } : State).lrns = s.lrns := rfl
theorem State.put_regs_keels (v : Sparse Word) : ({ s with regs := v } : State).keels = s.keels := rfl
theorem State.put_regs_stalls (v : Sparse Word) : ({ s with regs := v } : State).stalls = s.stalls := rfl
theorem State.put_regs_bufs (v : Sparse Word) : ({ s with regs := v } : State).bufs = s.bufs := rfl
theorem State.put_regs_mcs (v : Sparse Word) : ({ s with regs := v } : State).mcs = s.mcs := rfl
theorem State.put_regs_queues (v : Sparse Word) : ({ s with regs := v } : State).queues = s.queues := rfl
theorem State.put_regs_times (v : Sparse Word) : ({ s with regs := v } : State).times = s.times := rfl
theorem State.put_regs_accts (v : Sparse Word) : ({ s with regs := v } : State).accts = s.accts := rfl
theorem State.put_regs_tels (v : Sparse Word) : ({ s with regs := v } : State).tels = s.tels := rfl
theorem State.put_regs_dumps (v : Sparse Word) : ({ s with regs := v } : State).dumps = s.dumps := rfl
theorem State.put_regs_admits (v : Sparse Word) : ({ s with regs := v } : State).admits = s.admits := rfl
theorem State.put_regs_ciphers (v : Sparse Word) : ({ s with regs := v } : State).ciphers = s.ciphers := rfl
theorem State.put_regs_msecs (v : Sparse Word) : ({ s with regs := v } : State).msecs = s.msecs := rfl
theorem State.put_regs_hosts (v : Sparse Word) : ({ s with regs := v } : State).hosts = s.hosts := rfl
theorem State.put_regs_coxs (v : Sparse Word) : ({ s with regs := v } : State).coxs = s.coxs := rfl
theorem State.put_regs_css (v : Sparse Word) : ({ s with regs := v } : State).css = s.css := rfl
theorem State.put_regs_test (v : Sparse Word) : ({ s with regs := v } : State).test = s.test := rfl

theorem State.put_ctrs_pending (v : Sparse DWord) : ({ s with ctrs := v } : State).pending = s.pending := rfl
theorem State.put_ctrs_out (v : Sparse DWord) : ({ s with ctrs := v } : State).out = s.out := rfl
theorem State.put_ctrs_free (v : Sparse DWord) : ({ s with ctrs := v } : State).free = s.free := rfl
theorem State.put_ctrs_pins (v : Sparse DWord) : ({ s with ctrs := v } : State).pins = s.pins := rfl
theorem State.put_ctrs_otp (v : Sparse DWord) : ({ s with ctrs := v } : State).otp = s.otp := rfl
theorem State.put_ctrs_regs (v : Sparse DWord) : ({ s with ctrs := v } : State).regs = s.regs := rfl
theorem State.put_ctrs_latch (v : Sparse DWord) : ({ s with ctrs := v } : State).latch = s.latch := rfl
theorem State.put_ctrs_locks (v : Sparse DWord) : ({ s with ctrs := v } : State).locks = s.locks := rfl
theorem State.put_ctrs_boot (v : Sparse DWord) : ({ s with ctrs := v } : State).boot = s.boot := rfl
theorem State.put_ctrs_failed (v : Sparse DWord) : ({ s with ctrs := v } : State).failed = s.failed := rfl
theorem State.put_ctrs_resetting (v : Sparse DWord) : ({ s with ctrs := v } : State).resetting = s.resetting := rfl
theorem State.put_ctrs_wearBase (v : Sparse DWord) : ({ s with ctrs := v } : State).wearBase = s.wearBase := rfl
theorem State.put_ctrs_lanes (v : Sparse DWord) : ({ s with ctrs := v } : State).lanes = s.lanes := rfl
theorem State.put_ctrs_links (v : Sparse DWord) : ({ s with ctrs := v } : State).links = s.links := rfl
theorem State.put_ctrs_tabs (v : Sparse DWord) : ({ s with ctrs := v } : State).tabs = s.tabs := rfl
theorem State.put_ctrs_qdr (v : Sparse DWord) : ({ s with ctrs := v } : State).qdr = s.qdr := rfl
theorem State.put_ctrs_qdrBusy (v : Sparse DWord) : ({ s with ctrs := v } : State).qdrBusy = s.qdrBusy := rfl
theorem State.put_ctrs_clss (v : Sparse DWord) : ({ s with ctrs := v } : State).clss = s.clss := rfl
theorem State.put_ctrs_frames (v : Sparse DWord) : ({ s with ctrs := v } : State).frames = s.frames := rfl
theorem State.put_ctrs_nextFrame (v : Sparse DWord) : ({ s with ctrs := v } : State).nextFrame = s.nextFrame := rfl
theorem State.put_ctrs_slices (v : Sparse DWord) : ({ s with ctrs := v } : State).slices = s.slices := rfl
theorem State.put_ctrs_ports (v : Sparse DWord) : ({ s with ctrs := v } : State).ports = s.ports := rfl
theorem State.put_ctrs_lrns (v : Sparse DWord) : ({ s with ctrs := v } : State).lrns = s.lrns := rfl
theorem State.put_ctrs_keels (v : Sparse DWord) : ({ s with ctrs := v } : State).keels = s.keels := rfl
theorem State.put_ctrs_stalls (v : Sparse DWord) : ({ s with ctrs := v } : State).stalls = s.stalls := rfl
theorem State.put_ctrs_bufs (v : Sparse DWord) : ({ s with ctrs := v } : State).bufs = s.bufs := rfl
theorem State.put_ctrs_mcs (v : Sparse DWord) : ({ s with ctrs := v } : State).mcs = s.mcs := rfl
theorem State.put_ctrs_queues (v : Sparse DWord) : ({ s with ctrs := v } : State).queues = s.queues := rfl
theorem State.put_ctrs_times (v : Sparse DWord) : ({ s with ctrs := v } : State).times = s.times := rfl
theorem State.put_ctrs_accts (v : Sparse DWord) : ({ s with ctrs := v } : State).accts = s.accts := rfl
theorem State.put_ctrs_tels (v : Sparse DWord) : ({ s with ctrs := v } : State).tels = s.tels := rfl
theorem State.put_ctrs_dumps (v : Sparse DWord) : ({ s with ctrs := v } : State).dumps = s.dumps := rfl
theorem State.put_ctrs_admits (v : Sparse DWord) : ({ s with ctrs := v } : State).admits = s.admits := rfl
theorem State.put_ctrs_ciphers (v : Sparse DWord) : ({ s with ctrs := v } : State).ciphers = s.ciphers := rfl
theorem State.put_ctrs_msecs (v : Sparse DWord) : ({ s with ctrs := v } : State).msecs = s.msecs := rfl
theorem State.put_ctrs_hosts (v : Sparse DWord) : ({ s with ctrs := v } : State).hosts = s.hosts := rfl
theorem State.put_ctrs_coxs (v : Sparse DWord) : ({ s with ctrs := v } : State).coxs = s.coxs := rfl
theorem State.put_ctrs_css (v : Sparse DWord) : ({ s with ctrs := v } : State).css = s.css := rfl
theorem State.put_ctrs_test (v : Sparse DWord) : ({ s with ctrs := v } : State).test = s.test := rfl

/-! `bset` -/
@[simp] theorem State.bset_pending (p : Page) (f : Fld) (b : Bool) (i : Nat) : (s.bset p f b i).pending = s.pending := State.put_regs_pending ..
@[simp] theorem State.bset_out (p : Page) (f : Fld) (b : Bool) (i : Nat) : (s.bset p f b i).out = s.out := State.put_regs_out ..
@[simp] theorem State.bset_free (p : Page) (f : Fld) (b : Bool) (i : Nat) : (s.bset p f b i).free = s.free := State.put_regs_free ..
@[simp] theorem State.bset_pins (p : Page) (f : Fld) (b : Bool) (i : Nat) : (s.bset p f b i).pins = s.pins := State.put_regs_pins ..
@[simp] theorem State.bset_otp (p : Page) (f : Fld) (b : Bool) (i : Nat) : (s.bset p f b i).otp = s.otp := State.put_regs_otp ..
@[simp] theorem State.bset_ctrs (p : Page) (f : Fld) (b : Bool) (i : Nat) : (s.bset p f b i).ctrs = s.ctrs := State.put_regs_ctrs ..
@[simp] theorem State.bset_latch (p : Page) (f : Fld) (b : Bool) (i : Nat) : (s.bset p f b i).latch = s.latch := State.put_regs_latch ..
@[simp] theorem State.bset_locks (p : Page) (f : Fld) (b : Bool) (i : Nat) : (s.bset p f b i).locks = s.locks := State.put_regs_locks ..
@[simp] theorem State.bset_boot (p : Page) (f : Fld) (b : Bool) (i : Nat) : (s.bset p f b i).boot = s.boot := State.put_regs_boot ..
@[simp] theorem State.bset_failed (p : Page) (f : Fld) (b : Bool) (i : Nat) : (s.bset p f b i).failed = s.failed := State.put_regs_failed ..
@[simp] theorem State.bset_resetting (p : Page) (f : Fld) (b : Bool) (i : Nat) : (s.bset p f b i).resetting = s.resetting := State.put_regs_resetting ..
@[simp] theorem State.bset_wearBase (p : Page) (f : Fld) (b : Bool) (i : Nat) : (s.bset p f b i).wearBase = s.wearBase := State.put_regs_wearBase ..
@[simp] theorem State.bset_lanes (p : Page) (f : Fld) (b : Bool) (i : Nat) : (s.bset p f b i).lanes = s.lanes := State.put_regs_lanes ..
@[simp] theorem State.bset_links (p : Page) (f : Fld) (b : Bool) (i : Nat) : (s.bset p f b i).links = s.links := State.put_regs_links ..
@[simp] theorem State.bset_tabs (p : Page) (f : Fld) (b : Bool) (i : Nat) : (s.bset p f b i).tabs = s.tabs := State.put_regs_tabs ..
@[simp] theorem State.bset_qdr (p : Page) (f : Fld) (b : Bool) (i : Nat) : (s.bset p f b i).qdr = s.qdr := State.put_regs_qdr ..
@[simp] theorem State.bset_qdrBusy (p : Page) (f : Fld) (b : Bool) (i : Nat) : (s.bset p f b i).qdrBusy = s.qdrBusy := State.put_regs_qdrBusy ..
@[simp] theorem State.bset_clss (p : Page) (f : Fld) (b : Bool) (i : Nat) : (s.bset p f b i).clss = s.clss := State.put_regs_clss ..
@[simp] theorem State.bset_frames (p : Page) (f : Fld) (b : Bool) (i : Nat) : (s.bset p f b i).frames = s.frames := State.put_regs_frames ..
@[simp] theorem State.bset_nextFrame (p : Page) (f : Fld) (b : Bool) (i : Nat) : (s.bset p f b i).nextFrame = s.nextFrame := State.put_regs_nextFrame ..
@[simp] theorem State.bset_slices (p : Page) (f : Fld) (b : Bool) (i : Nat) : (s.bset p f b i).slices = s.slices := State.put_regs_slices ..
@[simp] theorem State.bset_ports (p : Page) (f : Fld) (b : Bool) (i : Nat) : (s.bset p f b i).ports = s.ports := State.put_regs_ports ..
@[simp] theorem State.bset_lrns (p : Page) (f : Fld) (b : Bool) (i : Nat) : (s.bset p f b i).lrns = s.lrns := State.put_regs_lrns ..
@[simp] theorem State.bset_keels (p : Page) (f : Fld) (b : Bool) (i : Nat) : (s.bset p f b i).keels = s.keels := State.put_regs_keels ..
@[simp] theorem State.bset_stalls (p : Page) (f : Fld) (b : Bool) (i : Nat) : (s.bset p f b i).stalls = s.stalls := State.put_regs_stalls ..
@[simp] theorem State.bset_bufs (p : Page) (f : Fld) (b : Bool) (i : Nat) : (s.bset p f b i).bufs = s.bufs := State.put_regs_bufs ..
@[simp] theorem State.bset_mcs (p : Page) (f : Fld) (b : Bool) (i : Nat) : (s.bset p f b i).mcs = s.mcs := State.put_regs_mcs ..
@[simp] theorem State.bset_queues (p : Page) (f : Fld) (b : Bool) (i : Nat) : (s.bset p f b i).queues = s.queues := State.put_regs_queues ..
@[simp] theorem State.bset_times (p : Page) (f : Fld) (b : Bool) (i : Nat) : (s.bset p f b i).times = s.times := State.put_regs_times ..
@[simp] theorem State.bset_accts (p : Page) (f : Fld) (b : Bool) (i : Nat) : (s.bset p f b i).accts = s.accts := State.put_regs_accts ..
@[simp] theorem State.bset_tels (p : Page) (f : Fld) (b : Bool) (i : Nat) : (s.bset p f b i).tels = s.tels := State.put_regs_tels ..
@[simp] theorem State.bset_dumps (p : Page) (f : Fld) (b : Bool) (i : Nat) : (s.bset p f b i).dumps = s.dumps := State.put_regs_dumps ..
@[simp] theorem State.bset_admits (p : Page) (f : Fld) (b : Bool) (i : Nat) : (s.bset p f b i).admits = s.admits := State.put_regs_admits ..
@[simp] theorem State.bset_ciphers (p : Page) (f : Fld) (b : Bool) (i : Nat) : (s.bset p f b i).ciphers = s.ciphers := State.put_regs_ciphers ..
@[simp] theorem State.bset_msecs (p : Page) (f : Fld) (b : Bool) (i : Nat) : (s.bset p f b i).msecs = s.msecs := State.put_regs_msecs ..
@[simp] theorem State.bset_hosts (p : Page) (f : Fld) (b : Bool) (i : Nat) : (s.bset p f b i).hosts = s.hosts := State.put_regs_hosts ..
@[simp] theorem State.bset_coxs (p : Page) (f : Fld) (b : Bool) (i : Nat) : (s.bset p f b i).coxs = s.coxs := State.put_regs_coxs ..
@[simp] theorem State.bset_css (p : Page) (f : Fld) (b : Bool) (i : Nat) : (s.bset p f b i).css = s.css := State.put_regs_css ..
@[simp] theorem State.bset_test (p : Page) (f : Fld) (b : Bool) (i : Nat) : (s.bset p f b i).test = s.test := State.put_regs_test ..
@[simp] theorem State.bset_cget (p : Page) (f : Fld) (b : Bool) (i : Nat) (p' : Page) (f' : Fld) (i' : Nat) : (s.bset p f b i).cget p' f' i' = s.cget p' f' i' :=
  State.cget_congr (State.bset_ctrs s p f b i) ..

/-! `cadd` -/
@[simp] theorem State.cadd_pending (p : Page) (f : Fld) (n : Nat) (i : Nat) : (s.cadd p f n i).pending = s.pending := State.put_ctrs_pending ..
@[simp] theorem State.cadd_out (p : Page) (f : Fld) (n : Nat) (i : Nat) : (s.cadd p f n i).out = s.out := State.put_ctrs_out ..
@[simp] theorem State.cadd_free (p : Page) (f : Fld) (n : Nat) (i : Nat) : (s.cadd p f n i).free = s.free := State.put_ctrs_free ..
@[simp] theorem State.cadd_pins (p : Page) (f : Fld) (n : Nat) (i : Nat) : (s.cadd p f n i).pins = s.pins := State.put_ctrs_pins ..
@[simp] theorem State.cadd_otp (p : Page) (f : Fld) (n : Nat) (i : Nat) : (s.cadd p f n i).otp = s.otp := State.put_ctrs_otp ..
@[simp] theorem State.cadd_regs (p : Page) (f : Fld) (n : Nat) (i : Nat) : (s.cadd p f n i).regs = s.regs := State.put_ctrs_regs ..
@[simp] theorem State.cadd_latch (p : Page) (f : Fld) (n : Nat) (i : Nat) : (s.cadd p f n i).latch = s.latch := State.put_ctrs_latch ..
@[simp] theorem State.cadd_locks (p : Page) (f : Fld) (n : Nat) (i : Nat) : (s.cadd p f n i).locks = s.locks := State.put_ctrs_locks ..
@[simp] theorem State.cadd_boot (p : Page) (f : Fld) (n : Nat) (i : Nat) : (s.cadd p f n i).boot = s.boot := State.put_ctrs_boot ..
@[simp] theorem State.cadd_failed (p : Page) (f : Fld) (n : Nat) (i : Nat) : (s.cadd p f n i).failed = s.failed := State.put_ctrs_failed ..
@[simp] theorem State.cadd_resetting (p : Page) (f : Fld) (n : Nat) (i : Nat) : (s.cadd p f n i).resetting = s.resetting := State.put_ctrs_resetting ..
@[simp] theorem State.cadd_wearBase (p : Page) (f : Fld) (n : Nat) (i : Nat) : (s.cadd p f n i).wearBase = s.wearBase := State.put_ctrs_wearBase ..
@[simp] theorem State.cadd_lanes (p : Page) (f : Fld) (n : Nat) (i : Nat) : (s.cadd p f n i).lanes = s.lanes := State.put_ctrs_lanes ..
@[simp] theorem State.cadd_links (p : Page) (f : Fld) (n : Nat) (i : Nat) : (s.cadd p f n i).links = s.links := State.put_ctrs_links ..
@[simp] theorem State.cadd_tabs (p : Page) (f : Fld) (n : Nat) (i : Nat) : (s.cadd p f n i).tabs = s.tabs := State.put_ctrs_tabs ..
@[simp] theorem State.cadd_qdr (p : Page) (f : Fld) (n : Nat) (i : Nat) : (s.cadd p f n i).qdr = s.qdr := State.put_ctrs_qdr ..
@[simp] theorem State.cadd_qdrBusy (p : Page) (f : Fld) (n : Nat) (i : Nat) : (s.cadd p f n i).qdrBusy = s.qdrBusy := State.put_ctrs_qdrBusy ..
@[simp] theorem State.cadd_clss (p : Page) (f : Fld) (n : Nat) (i : Nat) : (s.cadd p f n i).clss = s.clss := State.put_ctrs_clss ..
@[simp] theorem State.cadd_frames (p : Page) (f : Fld) (n : Nat) (i : Nat) : (s.cadd p f n i).frames = s.frames := State.put_ctrs_frames ..
@[simp] theorem State.cadd_nextFrame (p : Page) (f : Fld) (n : Nat) (i : Nat) : (s.cadd p f n i).nextFrame = s.nextFrame := State.put_ctrs_nextFrame ..
@[simp] theorem State.cadd_slices (p : Page) (f : Fld) (n : Nat) (i : Nat) : (s.cadd p f n i).slices = s.slices := State.put_ctrs_slices ..
@[simp] theorem State.cadd_ports (p : Page) (f : Fld) (n : Nat) (i : Nat) : (s.cadd p f n i).ports = s.ports := State.put_ctrs_ports ..
@[simp] theorem State.cadd_lrns (p : Page) (f : Fld) (n : Nat) (i : Nat) : (s.cadd p f n i).lrns = s.lrns := State.put_ctrs_lrns ..
@[simp] theorem State.cadd_keels (p : Page) (f : Fld) (n : Nat) (i : Nat) : (s.cadd p f n i).keels = s.keels := State.put_ctrs_keels ..
@[simp] theorem State.cadd_stalls (p : Page) (f : Fld) (n : Nat) (i : Nat) : (s.cadd p f n i).stalls = s.stalls := State.put_ctrs_stalls ..
@[simp] theorem State.cadd_bufs (p : Page) (f : Fld) (n : Nat) (i : Nat) : (s.cadd p f n i).bufs = s.bufs := State.put_ctrs_bufs ..
@[simp] theorem State.cadd_mcs (p : Page) (f : Fld) (n : Nat) (i : Nat) : (s.cadd p f n i).mcs = s.mcs := State.put_ctrs_mcs ..
@[simp] theorem State.cadd_queues (p : Page) (f : Fld) (n : Nat) (i : Nat) : (s.cadd p f n i).queues = s.queues := State.put_ctrs_queues ..
@[simp] theorem State.cadd_times (p : Page) (f : Fld) (n : Nat) (i : Nat) : (s.cadd p f n i).times = s.times := State.put_ctrs_times ..
@[simp] theorem State.cadd_accts (p : Page) (f : Fld) (n : Nat) (i : Nat) : (s.cadd p f n i).accts = s.accts := State.put_ctrs_accts ..
@[simp] theorem State.cadd_tels (p : Page) (f : Fld) (n : Nat) (i : Nat) : (s.cadd p f n i).tels = s.tels := State.put_ctrs_tels ..
@[simp] theorem State.cadd_dumps (p : Page) (f : Fld) (n : Nat) (i : Nat) : (s.cadd p f n i).dumps = s.dumps := State.put_ctrs_dumps ..
@[simp] theorem State.cadd_admits (p : Page) (f : Fld) (n : Nat) (i : Nat) : (s.cadd p f n i).admits = s.admits := State.put_ctrs_admits ..
@[simp] theorem State.cadd_ciphers (p : Page) (f : Fld) (n : Nat) (i : Nat) : (s.cadd p f n i).ciphers = s.ciphers := State.put_ctrs_ciphers ..
@[simp] theorem State.cadd_msecs (p : Page) (f : Fld) (n : Nat) (i : Nat) : (s.cadd p f n i).msecs = s.msecs := State.put_ctrs_msecs ..
@[simp] theorem State.cadd_hosts (p : Page) (f : Fld) (n : Nat) (i : Nat) : (s.cadd p f n i).hosts = s.hosts := State.put_ctrs_hosts ..
@[simp] theorem State.cadd_coxs (p : Page) (f : Fld) (n : Nat) (i : Nat) : (s.cadd p f n i).coxs = s.coxs := State.put_ctrs_coxs ..
@[simp] theorem State.cadd_css (p : Page) (f : Fld) (n : Nat) (i : Nat) : (s.cadd p f n i).css = s.css := State.put_ctrs_css ..
@[simp] theorem State.cadd_test (p : Page) (f : Fld) (n : Nat) (i : Nat) : (s.cadd p f n i).test = s.test := State.put_ctrs_test ..
@[simp] theorem State.cadd_reg (p : Page) (f : Fld) (n : Nat) (i : Nat) (p' : Page) (o' : Nat) : (s.cadd p f n i).reg p' o' = s.reg p' o' :=
  State.reg_congr (State.cadd_regs s p f n i) ..
@[simp] theorem State.cadd_fget (p : Page) (f : Fld) (n : Nat) (i : Nat) (p' : Page) (f' : Fld) (i' : Nat) : (s.cadd p f n i).fget p' f' i' = s.fget p' f' i' :=
  State.fget_congr (State.cadd_regs s p f n i) ..
@[simp] theorem State.cadd_flag (p : Page) (f : Fld) (n : Nat) (i : Nat) (p' : Page) (f' : Fld) (i' : Nat) : (s.cadd p f n i).flag p' f' i' = s.flag p' f' i' :=
  State.flag_congr (State.cadd_regs s p f n i) ..

/-! `clearReg` -/
@[simp] theorem State.clearReg_pending (p : Page) (off : Nat) : (s.clearReg p off).pending = s.pending := State.put_regs_pending ..
@[simp] theorem State.clearReg_out (p : Page) (off : Nat) : (s.clearReg p off).out = s.out := State.put_regs_out ..
@[simp] theorem State.clearReg_free (p : Page) (off : Nat) : (s.clearReg p off).free = s.free := State.put_regs_free ..
@[simp] theorem State.clearReg_pins (p : Page) (off : Nat) : (s.clearReg p off).pins = s.pins := State.put_regs_pins ..
@[simp] theorem State.clearReg_otp (p : Page) (off : Nat) : (s.clearReg p off).otp = s.otp := State.put_regs_otp ..
@[simp] theorem State.clearReg_ctrs (p : Page) (off : Nat) : (s.clearReg p off).ctrs = s.ctrs := State.put_regs_ctrs ..
@[simp] theorem State.clearReg_latch (p : Page) (off : Nat) : (s.clearReg p off).latch = s.latch := State.put_regs_latch ..
@[simp] theorem State.clearReg_locks (p : Page) (off : Nat) : (s.clearReg p off).locks = s.locks := State.put_regs_locks ..
@[simp] theorem State.clearReg_boot (p : Page) (off : Nat) : (s.clearReg p off).boot = s.boot := State.put_regs_boot ..
@[simp] theorem State.clearReg_failed (p : Page) (off : Nat) : (s.clearReg p off).failed = s.failed := State.put_regs_failed ..
@[simp] theorem State.clearReg_resetting (p : Page) (off : Nat) : (s.clearReg p off).resetting = s.resetting := State.put_regs_resetting ..
@[simp] theorem State.clearReg_wearBase (p : Page) (off : Nat) : (s.clearReg p off).wearBase = s.wearBase := State.put_regs_wearBase ..
@[simp] theorem State.clearReg_lanes (p : Page) (off : Nat) : (s.clearReg p off).lanes = s.lanes := State.put_regs_lanes ..
@[simp] theorem State.clearReg_links (p : Page) (off : Nat) : (s.clearReg p off).links = s.links := State.put_regs_links ..
@[simp] theorem State.clearReg_tabs (p : Page) (off : Nat) : (s.clearReg p off).tabs = s.tabs := State.put_regs_tabs ..
@[simp] theorem State.clearReg_qdr (p : Page) (off : Nat) : (s.clearReg p off).qdr = s.qdr := State.put_regs_qdr ..
@[simp] theorem State.clearReg_qdrBusy (p : Page) (off : Nat) : (s.clearReg p off).qdrBusy = s.qdrBusy := State.put_regs_qdrBusy ..
@[simp] theorem State.clearReg_clss (p : Page) (off : Nat) : (s.clearReg p off).clss = s.clss := State.put_regs_clss ..
@[simp] theorem State.clearReg_frames (p : Page) (off : Nat) : (s.clearReg p off).frames = s.frames := State.put_regs_frames ..
@[simp] theorem State.clearReg_nextFrame (p : Page) (off : Nat) : (s.clearReg p off).nextFrame = s.nextFrame := State.put_regs_nextFrame ..
@[simp] theorem State.clearReg_slices (p : Page) (off : Nat) : (s.clearReg p off).slices = s.slices := State.put_regs_slices ..
@[simp] theorem State.clearReg_ports (p : Page) (off : Nat) : (s.clearReg p off).ports = s.ports := State.put_regs_ports ..
@[simp] theorem State.clearReg_lrns (p : Page) (off : Nat) : (s.clearReg p off).lrns = s.lrns := State.put_regs_lrns ..
@[simp] theorem State.clearReg_keels (p : Page) (off : Nat) : (s.clearReg p off).keels = s.keels := State.put_regs_keels ..
@[simp] theorem State.clearReg_stalls (p : Page) (off : Nat) : (s.clearReg p off).stalls = s.stalls := State.put_regs_stalls ..
@[simp] theorem State.clearReg_bufs (p : Page) (off : Nat) : (s.clearReg p off).bufs = s.bufs := State.put_regs_bufs ..
@[simp] theorem State.clearReg_mcs (p : Page) (off : Nat) : (s.clearReg p off).mcs = s.mcs := State.put_regs_mcs ..
@[simp] theorem State.clearReg_queues (p : Page) (off : Nat) : (s.clearReg p off).queues = s.queues := State.put_regs_queues ..
@[simp] theorem State.clearReg_times (p : Page) (off : Nat) : (s.clearReg p off).times = s.times := State.put_regs_times ..
@[simp] theorem State.clearReg_accts (p : Page) (off : Nat) : (s.clearReg p off).accts = s.accts := State.put_regs_accts ..
@[simp] theorem State.clearReg_tels (p : Page) (off : Nat) : (s.clearReg p off).tels = s.tels := State.put_regs_tels ..
@[simp] theorem State.clearReg_dumps (p : Page) (off : Nat) : (s.clearReg p off).dumps = s.dumps := State.put_regs_dumps ..
@[simp] theorem State.clearReg_admits (p : Page) (off : Nat) : (s.clearReg p off).admits = s.admits := State.put_regs_admits ..
@[simp] theorem State.clearReg_ciphers (p : Page) (off : Nat) : (s.clearReg p off).ciphers = s.ciphers := State.put_regs_ciphers ..
@[simp] theorem State.clearReg_msecs (p : Page) (off : Nat) : (s.clearReg p off).msecs = s.msecs := State.put_regs_msecs ..
@[simp] theorem State.clearReg_hosts (p : Page) (off : Nat) : (s.clearReg p off).hosts = s.hosts := State.put_regs_hosts ..
@[simp] theorem State.clearReg_coxs (p : Page) (off : Nat) : (s.clearReg p off).coxs = s.coxs := State.put_regs_coxs ..
@[simp] theorem State.clearReg_css (p : Page) (off : Nat) : (s.clearReg p off).css = s.css := State.put_regs_css ..
@[simp] theorem State.clearReg_test (p : Page) (off : Nat) : (s.clearReg p off).test = s.test := State.put_regs_test ..
@[simp] theorem State.clearReg_cget (p : Page) (off : Nat) (p' : Page) (f' : Fld) (i' : Nat) : (s.clearReg p off).cget p' f' i' = s.cget p' f' i' :=
  State.cget_congr (State.clearReg_ctrs s p off) ..

/-! `cset` -/
@[simp] theorem State.cset_pending (p : Page) (f : Fld) (v : DWord) (i : Nat) : (s.cset p f v i).pending = s.pending := State.put_ctrs_pending ..
@[simp] theorem State.cset_out (p : Page) (f : Fld) (v : DWord) (i : Nat) : (s.cset p f v i).out = s.out := State.put_ctrs_out ..
@[simp] theorem State.cset_free (p : Page) (f : Fld) (v : DWord) (i : Nat) : (s.cset p f v i).free = s.free := State.put_ctrs_free ..
@[simp] theorem State.cset_pins (p : Page) (f : Fld) (v : DWord) (i : Nat) : (s.cset p f v i).pins = s.pins := State.put_ctrs_pins ..
@[simp] theorem State.cset_otp (p : Page) (f : Fld) (v : DWord) (i : Nat) : (s.cset p f v i).otp = s.otp := State.put_ctrs_otp ..
@[simp] theorem State.cset_regs (p : Page) (f : Fld) (v : DWord) (i : Nat) : (s.cset p f v i).regs = s.regs := State.put_ctrs_regs ..
@[simp] theorem State.cset_latch (p : Page) (f : Fld) (v : DWord) (i : Nat) : (s.cset p f v i).latch = s.latch := State.put_ctrs_latch ..
@[simp] theorem State.cset_locks (p : Page) (f : Fld) (v : DWord) (i : Nat) : (s.cset p f v i).locks = s.locks := State.put_ctrs_locks ..
@[simp] theorem State.cset_boot (p : Page) (f : Fld) (v : DWord) (i : Nat) : (s.cset p f v i).boot = s.boot := State.put_ctrs_boot ..
@[simp] theorem State.cset_failed (p : Page) (f : Fld) (v : DWord) (i : Nat) : (s.cset p f v i).failed = s.failed := State.put_ctrs_failed ..
@[simp] theorem State.cset_resetting (p : Page) (f : Fld) (v : DWord) (i : Nat) : (s.cset p f v i).resetting = s.resetting := State.put_ctrs_resetting ..
@[simp] theorem State.cset_wearBase (p : Page) (f : Fld) (v : DWord) (i : Nat) : (s.cset p f v i).wearBase = s.wearBase := State.put_ctrs_wearBase ..
@[simp] theorem State.cset_lanes (p : Page) (f : Fld) (v : DWord) (i : Nat) : (s.cset p f v i).lanes = s.lanes := State.put_ctrs_lanes ..
@[simp] theorem State.cset_links (p : Page) (f : Fld) (v : DWord) (i : Nat) : (s.cset p f v i).links = s.links := State.put_ctrs_links ..
@[simp] theorem State.cset_tabs (p : Page) (f : Fld) (v : DWord) (i : Nat) : (s.cset p f v i).tabs = s.tabs := State.put_ctrs_tabs ..
@[simp] theorem State.cset_qdr (p : Page) (f : Fld) (v : DWord) (i : Nat) : (s.cset p f v i).qdr = s.qdr := State.put_ctrs_qdr ..
@[simp] theorem State.cset_qdrBusy (p : Page) (f : Fld) (v : DWord) (i : Nat) : (s.cset p f v i).qdrBusy = s.qdrBusy := State.put_ctrs_qdrBusy ..
@[simp] theorem State.cset_clss (p : Page) (f : Fld) (v : DWord) (i : Nat) : (s.cset p f v i).clss = s.clss := State.put_ctrs_clss ..
@[simp] theorem State.cset_frames (p : Page) (f : Fld) (v : DWord) (i : Nat) : (s.cset p f v i).frames = s.frames := State.put_ctrs_frames ..
@[simp] theorem State.cset_nextFrame (p : Page) (f : Fld) (v : DWord) (i : Nat) : (s.cset p f v i).nextFrame = s.nextFrame := State.put_ctrs_nextFrame ..
@[simp] theorem State.cset_slices (p : Page) (f : Fld) (v : DWord) (i : Nat) : (s.cset p f v i).slices = s.slices := State.put_ctrs_slices ..
@[simp] theorem State.cset_ports (p : Page) (f : Fld) (v : DWord) (i : Nat) : (s.cset p f v i).ports = s.ports := State.put_ctrs_ports ..
@[simp] theorem State.cset_lrns (p : Page) (f : Fld) (v : DWord) (i : Nat) : (s.cset p f v i).lrns = s.lrns := State.put_ctrs_lrns ..
@[simp] theorem State.cset_keels (p : Page) (f : Fld) (v : DWord) (i : Nat) : (s.cset p f v i).keels = s.keels := State.put_ctrs_keels ..
@[simp] theorem State.cset_stalls (p : Page) (f : Fld) (v : DWord) (i : Nat) : (s.cset p f v i).stalls = s.stalls := State.put_ctrs_stalls ..
@[simp] theorem State.cset_bufs (p : Page) (f : Fld) (v : DWord) (i : Nat) : (s.cset p f v i).bufs = s.bufs := State.put_ctrs_bufs ..
@[simp] theorem State.cset_mcs (p : Page) (f : Fld) (v : DWord) (i : Nat) : (s.cset p f v i).mcs = s.mcs := State.put_ctrs_mcs ..
@[simp] theorem State.cset_queues (p : Page) (f : Fld) (v : DWord) (i : Nat) : (s.cset p f v i).queues = s.queues := State.put_ctrs_queues ..
@[simp] theorem State.cset_times (p : Page) (f : Fld) (v : DWord) (i : Nat) : (s.cset p f v i).times = s.times := State.put_ctrs_times ..
@[simp] theorem State.cset_accts (p : Page) (f : Fld) (v : DWord) (i : Nat) : (s.cset p f v i).accts = s.accts := State.put_ctrs_accts ..
@[simp] theorem State.cset_tels (p : Page) (f : Fld) (v : DWord) (i : Nat) : (s.cset p f v i).tels = s.tels := State.put_ctrs_tels ..
@[simp] theorem State.cset_dumps (p : Page) (f : Fld) (v : DWord) (i : Nat) : (s.cset p f v i).dumps = s.dumps := State.put_ctrs_dumps ..
@[simp] theorem State.cset_admits (p : Page) (f : Fld) (v : DWord) (i : Nat) : (s.cset p f v i).admits = s.admits := State.put_ctrs_admits ..
@[simp] theorem State.cset_ciphers (p : Page) (f : Fld) (v : DWord) (i : Nat) : (s.cset p f v i).ciphers = s.ciphers := State.put_ctrs_ciphers ..
@[simp] theorem State.cset_msecs (p : Page) (f : Fld) (v : DWord) (i : Nat) : (s.cset p f v i).msecs = s.msecs := State.put_ctrs_msecs ..
@[simp] theorem State.cset_hosts (p : Page) (f : Fld) (v : DWord) (i : Nat) : (s.cset p f v i).hosts = s.hosts := State.put_ctrs_hosts ..
@[simp] theorem State.cset_coxs (p : Page) (f : Fld) (v : DWord) (i : Nat) : (s.cset p f v i).coxs = s.coxs := State.put_ctrs_coxs ..
@[simp] theorem State.cset_css (p : Page) (f : Fld) (v : DWord) (i : Nat) : (s.cset p f v i).css = s.css := State.put_ctrs_css ..
@[simp] theorem State.cset_test (p : Page) (f : Fld) (v : DWord) (i : Nat) : (s.cset p f v i).test = s.test := State.put_ctrs_test ..
@[simp] theorem State.cset_reg (p : Page) (f : Fld) (v : DWord) (i : Nat) (p' : Page) (o' : Nat) : (s.cset p f v i).reg p' o' = s.reg p' o' :=
  State.reg_congr (State.cset_regs s p f v i) ..
@[simp] theorem State.cset_fget (p : Page) (f : Fld) (v : DWord) (i : Nat) (p' : Page) (f' : Fld) (i' : Nat) : (s.cset p f v i).fget p' f' i' = s.fget p' f' i' :=
  State.fget_congr (State.cset_regs s p f v i) ..
@[simp] theorem State.cset_flag (p : Page) (f : Fld) (v : DWord) (i : Nat) (p' : Page) (f' : Fld) (i' : Nat) : (s.cset p f v i).flag p' f' i' = s.flag p' f' i' :=
  State.flag_congr (State.cset_regs s p f v i) ..

/-! `dropFrm` -/
@[simp] theorem State.dropFrm_pending (uid : Nat) : (s.dropFrm uid).pending = s.pending := rfl
@[simp] theorem State.dropFrm_out (uid : Nat) : (s.dropFrm uid).out = s.out := rfl
@[simp] theorem State.dropFrm_free (uid : Nat) : (s.dropFrm uid).free = s.free := rfl
@[simp] theorem State.dropFrm_pins (uid : Nat) : (s.dropFrm uid).pins = s.pins := rfl
@[simp] theorem State.dropFrm_otp (uid : Nat) : (s.dropFrm uid).otp = s.otp := rfl
@[simp] theorem State.dropFrm_regs (uid : Nat) : (s.dropFrm uid).regs = s.regs := rfl
@[simp] theorem State.dropFrm_ctrs (uid : Nat) : (s.dropFrm uid).ctrs = s.ctrs := rfl
@[simp] theorem State.dropFrm_latch (uid : Nat) : (s.dropFrm uid).latch = s.latch := rfl
@[simp] theorem State.dropFrm_locks (uid : Nat) : (s.dropFrm uid).locks = s.locks := rfl
@[simp] theorem State.dropFrm_boot (uid : Nat) : (s.dropFrm uid).boot = s.boot := rfl
@[simp] theorem State.dropFrm_failed (uid : Nat) : (s.dropFrm uid).failed = s.failed := rfl
@[simp] theorem State.dropFrm_resetting (uid : Nat) : (s.dropFrm uid).resetting = s.resetting := rfl
@[simp] theorem State.dropFrm_wearBase (uid : Nat) : (s.dropFrm uid).wearBase = s.wearBase := rfl
@[simp] theorem State.dropFrm_lanes (uid : Nat) : (s.dropFrm uid).lanes = s.lanes := rfl
@[simp] theorem State.dropFrm_links (uid : Nat) : (s.dropFrm uid).links = s.links := rfl
@[simp] theorem State.dropFrm_tabs (uid : Nat) : (s.dropFrm uid).tabs = s.tabs := rfl
@[simp] theorem State.dropFrm_qdr (uid : Nat) : (s.dropFrm uid).qdr = s.qdr := rfl
@[simp] theorem State.dropFrm_qdrBusy (uid : Nat) : (s.dropFrm uid).qdrBusy = s.qdrBusy := rfl
@[simp] theorem State.dropFrm_clss (uid : Nat) : (s.dropFrm uid).clss = s.clss := rfl
@[simp] theorem State.dropFrm_nextFrame (uid : Nat) : (s.dropFrm uid).nextFrame = s.nextFrame := rfl
@[simp] theorem State.dropFrm_slices (uid : Nat) : (s.dropFrm uid).slices = s.slices := rfl
@[simp] theorem State.dropFrm_ports (uid : Nat) : (s.dropFrm uid).ports = s.ports := rfl
@[simp] theorem State.dropFrm_lrns (uid : Nat) : (s.dropFrm uid).lrns = s.lrns := rfl
@[simp] theorem State.dropFrm_keels (uid : Nat) : (s.dropFrm uid).keels = s.keels := rfl
@[simp] theorem State.dropFrm_stalls (uid : Nat) : (s.dropFrm uid).stalls = s.stalls := rfl
@[simp] theorem State.dropFrm_bufs (uid : Nat) : (s.dropFrm uid).bufs = s.bufs := rfl
@[simp] theorem State.dropFrm_mcs (uid : Nat) : (s.dropFrm uid).mcs = s.mcs := rfl
@[simp] theorem State.dropFrm_queues (uid : Nat) : (s.dropFrm uid).queues = s.queues := rfl
@[simp] theorem State.dropFrm_times (uid : Nat) : (s.dropFrm uid).times = s.times := rfl
@[simp] theorem State.dropFrm_accts (uid : Nat) : (s.dropFrm uid).accts = s.accts := rfl
@[simp] theorem State.dropFrm_tels (uid : Nat) : (s.dropFrm uid).tels = s.tels := rfl
@[simp] theorem State.dropFrm_dumps (uid : Nat) : (s.dropFrm uid).dumps = s.dumps := rfl
@[simp] theorem State.dropFrm_admits (uid : Nat) : (s.dropFrm uid).admits = s.admits := rfl
@[simp] theorem State.dropFrm_ciphers (uid : Nat) : (s.dropFrm uid).ciphers = s.ciphers := rfl
@[simp] theorem State.dropFrm_msecs (uid : Nat) : (s.dropFrm uid).msecs = s.msecs := rfl
@[simp] theorem State.dropFrm_hosts (uid : Nat) : (s.dropFrm uid).hosts = s.hosts := rfl
@[simp] theorem State.dropFrm_coxs (uid : Nat) : (s.dropFrm uid).coxs = s.coxs := rfl
@[simp] theorem State.dropFrm_css (uid : Nat) : (s.dropFrm uid).css = s.css := rfl
@[simp] theorem State.dropFrm_test (uid : Nat) : (s.dropFrm uid).test = s.test := rfl
@[simp] theorem State.dropFrm_reg (uid : Nat) (p' : Page) (o' : Nat) : (s.dropFrm uid).reg p' o' = s.reg p' o' :=
  State.reg_congr (State.dropFrm_regs s uid) ..
@[simp] theorem State.dropFrm_fget (uid : Nat) (p' : Page) (f' : Fld) (i' : Nat) : (s.dropFrm uid).fget p' f' i' = s.fget p' f' i' :=
  State.fget_congr (State.dropFrm_regs s uid) ..
@[simp] theorem State.dropFrm_flag (uid : Nat) (p' : Page) (f' : Fld) (i' : Nat) : (s.dropFrm uid).flag p' f' i' = s.flag p' f' i' :=
  State.flag_congr (State.dropFrm_regs s uid) ..
@[simp] theorem State.dropFrm_cget (uid : Nat) (p' : Page) (f' : Fld) (i' : Nat) : (s.dropFrm uid).cget p' f' i' = s.cget p' f' i' :=
  State.cget_congr (State.dropFrm_ctrs s uid) ..

/-! `emit` -/
@[simp] theorem State.emit_pending (o : Output) : (s.emit o).pending = s.pending := rfl
@[simp] theorem State.emit_free (o : Output) : (s.emit o).free = s.free := rfl
@[simp] theorem State.emit_pins (o : Output) : (s.emit o).pins = s.pins := rfl
@[simp] theorem State.emit_otp (o : Output) : (s.emit o).otp = s.otp := rfl
@[simp] theorem State.emit_regs (o : Output) : (s.emit o).regs = s.regs := rfl
@[simp] theorem State.emit_ctrs (o : Output) : (s.emit o).ctrs = s.ctrs := rfl
@[simp] theorem State.emit_latch (o : Output) : (s.emit o).latch = s.latch := rfl
@[simp] theorem State.emit_locks (o : Output) : (s.emit o).locks = s.locks := rfl
@[simp] theorem State.emit_boot (o : Output) : (s.emit o).boot = s.boot := rfl
@[simp] theorem State.emit_failed (o : Output) : (s.emit o).failed = s.failed := rfl
@[simp] theorem State.emit_resetting (o : Output) : (s.emit o).resetting = s.resetting := rfl
@[simp] theorem State.emit_wearBase (o : Output) : (s.emit o).wearBase = s.wearBase := rfl
@[simp] theorem State.emit_lanes (o : Output) : (s.emit o).lanes = s.lanes := rfl
@[simp] theorem State.emit_links (o : Output) : (s.emit o).links = s.links := rfl
@[simp] theorem State.emit_tabs (o : Output) : (s.emit o).tabs = s.tabs := rfl
@[simp] theorem State.emit_qdr (o : Output) : (s.emit o).qdr = s.qdr := rfl
@[simp] theorem State.emit_qdrBusy (o : Output) : (s.emit o).qdrBusy = s.qdrBusy := rfl
@[simp] theorem State.emit_clss (o : Output) : (s.emit o).clss = s.clss := rfl
@[simp] theorem State.emit_frames (o : Output) : (s.emit o).frames = s.frames := rfl
@[simp] theorem State.emit_nextFrame (o : Output) : (s.emit o).nextFrame = s.nextFrame := rfl
@[simp] theorem State.emit_slices (o : Output) : (s.emit o).slices = s.slices := rfl
@[simp] theorem State.emit_ports (o : Output) : (s.emit o).ports = s.ports := rfl
@[simp] theorem State.emit_lrns (o : Output) : (s.emit o).lrns = s.lrns := rfl
@[simp] theorem State.emit_keels (o : Output) : (s.emit o).keels = s.keels := rfl
@[simp] theorem State.emit_stalls (o : Output) : (s.emit o).stalls = s.stalls := rfl
@[simp] theorem State.emit_bufs (o : Output) : (s.emit o).bufs = s.bufs := rfl
@[simp] theorem State.emit_mcs (o : Output) : (s.emit o).mcs = s.mcs := rfl
@[simp] theorem State.emit_queues (o : Output) : (s.emit o).queues = s.queues := rfl
@[simp] theorem State.emit_times (o : Output) : (s.emit o).times = s.times := rfl
@[simp] theorem State.emit_accts (o : Output) : (s.emit o).accts = s.accts := rfl
@[simp] theorem State.emit_tels (o : Output) : (s.emit o).tels = s.tels := rfl
@[simp] theorem State.emit_dumps (o : Output) : (s.emit o).dumps = s.dumps := rfl
@[simp] theorem State.emit_admits (o : Output) : (s.emit o).admits = s.admits := rfl
@[simp] theorem State.emit_ciphers (o : Output) : (s.emit o).ciphers = s.ciphers := rfl
@[simp] theorem State.emit_msecs (o : Output) : (s.emit o).msecs = s.msecs := rfl
@[simp] theorem State.emit_hosts (o : Output) : (s.emit o).hosts = s.hosts := rfl
@[simp] theorem State.emit_coxs (o : Output) : (s.emit o).coxs = s.coxs := rfl
@[simp] theorem State.emit_css (o : Output) : (s.emit o).css = s.css := rfl
@[simp] theorem State.emit_test (o : Output) : (s.emit o).test = s.test := rfl
@[simp] theorem State.emit_reg (o : Output) (p' : Page) (o' : Nat) : (s.emit o).reg p' o' = s.reg p' o' :=
  State.reg_congr (State.emit_regs s o) ..
@[simp] theorem State.emit_fget (o : Output) (p' : Page) (f' : Fld) (i' : Nat) : (s.emit o).fget p' f' i' = s.fget p' f' i' :=
  State.fget_congr (State.emit_regs s o) ..
@[simp] theorem State.emit_flag (o : Output) (p' : Page) (f' : Fld) (i' : Nat) : (s.emit o).flag p' f' i' = s.flag p' f' i' :=
  State.flag_congr (State.emit_regs s o) ..
@[simp] theorem State.emit_cget (o : Output) (p' : Page) (f' : Fld) (i' : Nat) : (s.emit o).cget p' f' i' = s.cget p' f' i' :=
  State.cget_congr (State.emit_ctrs s o) ..
@[simp] theorem State.emit_out (o : Output) : (s.emit o).out = o :: s.out := rfl

/-! `fsat` -/
@[simp] theorem State.fsat_pending (p : Page) (f : Fld) (n : Nat) (i : Nat) : (s.fsat p f n i).pending = s.pending := State.put_regs_pending ..
@[simp] theorem State.fsat_out (p : Page) (f : Fld) (n : Nat) (i : Nat) : (s.fsat p f n i).out = s.out := State.put_regs_out ..
@[simp] theorem State.fsat_free (p : Page) (f : Fld) (n : Nat) (i : Nat) : (s.fsat p f n i).free = s.free := State.put_regs_free ..
@[simp] theorem State.fsat_pins (p : Page) (f : Fld) (n : Nat) (i : Nat) : (s.fsat p f n i).pins = s.pins := State.put_regs_pins ..
@[simp] theorem State.fsat_otp (p : Page) (f : Fld) (n : Nat) (i : Nat) : (s.fsat p f n i).otp = s.otp := State.put_regs_otp ..
@[simp] theorem State.fsat_ctrs (p : Page) (f : Fld) (n : Nat) (i : Nat) : (s.fsat p f n i).ctrs = s.ctrs := State.put_regs_ctrs ..
@[simp] theorem State.fsat_latch (p : Page) (f : Fld) (n : Nat) (i : Nat) : (s.fsat p f n i).latch = s.latch := State.put_regs_latch ..
@[simp] theorem State.fsat_locks (p : Page) (f : Fld) (n : Nat) (i : Nat) : (s.fsat p f n i).locks = s.locks := State.put_regs_locks ..
@[simp] theorem State.fsat_boot (p : Page) (f : Fld) (n : Nat) (i : Nat) : (s.fsat p f n i).boot = s.boot := State.put_regs_boot ..
@[simp] theorem State.fsat_failed (p : Page) (f : Fld) (n : Nat) (i : Nat) : (s.fsat p f n i).failed = s.failed := State.put_regs_failed ..
@[simp] theorem State.fsat_resetting (p : Page) (f : Fld) (n : Nat) (i : Nat) : (s.fsat p f n i).resetting = s.resetting := State.put_regs_resetting ..
@[simp] theorem State.fsat_wearBase (p : Page) (f : Fld) (n : Nat) (i : Nat) : (s.fsat p f n i).wearBase = s.wearBase := State.put_regs_wearBase ..
@[simp] theorem State.fsat_lanes (p : Page) (f : Fld) (n : Nat) (i : Nat) : (s.fsat p f n i).lanes = s.lanes := State.put_regs_lanes ..
@[simp] theorem State.fsat_links (p : Page) (f : Fld) (n : Nat) (i : Nat) : (s.fsat p f n i).links = s.links := State.put_regs_links ..
@[simp] theorem State.fsat_tabs (p : Page) (f : Fld) (n : Nat) (i : Nat) : (s.fsat p f n i).tabs = s.tabs := State.put_regs_tabs ..
@[simp] theorem State.fsat_qdr (p : Page) (f : Fld) (n : Nat) (i : Nat) : (s.fsat p f n i).qdr = s.qdr := State.put_regs_qdr ..
@[simp] theorem State.fsat_qdrBusy (p : Page) (f : Fld) (n : Nat) (i : Nat) : (s.fsat p f n i).qdrBusy = s.qdrBusy := State.put_regs_qdrBusy ..
@[simp] theorem State.fsat_clss (p : Page) (f : Fld) (n : Nat) (i : Nat) : (s.fsat p f n i).clss = s.clss := State.put_regs_clss ..
@[simp] theorem State.fsat_frames (p : Page) (f : Fld) (n : Nat) (i : Nat) : (s.fsat p f n i).frames = s.frames := State.put_regs_frames ..
@[simp] theorem State.fsat_nextFrame (p : Page) (f : Fld) (n : Nat) (i : Nat) : (s.fsat p f n i).nextFrame = s.nextFrame := State.put_regs_nextFrame ..
@[simp] theorem State.fsat_slices (p : Page) (f : Fld) (n : Nat) (i : Nat) : (s.fsat p f n i).slices = s.slices := State.put_regs_slices ..
@[simp] theorem State.fsat_ports (p : Page) (f : Fld) (n : Nat) (i : Nat) : (s.fsat p f n i).ports = s.ports := State.put_regs_ports ..
@[simp] theorem State.fsat_lrns (p : Page) (f : Fld) (n : Nat) (i : Nat) : (s.fsat p f n i).lrns = s.lrns := State.put_regs_lrns ..
@[simp] theorem State.fsat_keels (p : Page) (f : Fld) (n : Nat) (i : Nat) : (s.fsat p f n i).keels = s.keels := State.put_regs_keels ..
@[simp] theorem State.fsat_stalls (p : Page) (f : Fld) (n : Nat) (i : Nat) : (s.fsat p f n i).stalls = s.stalls := State.put_regs_stalls ..
@[simp] theorem State.fsat_bufs (p : Page) (f : Fld) (n : Nat) (i : Nat) : (s.fsat p f n i).bufs = s.bufs := State.put_regs_bufs ..
@[simp] theorem State.fsat_mcs (p : Page) (f : Fld) (n : Nat) (i : Nat) : (s.fsat p f n i).mcs = s.mcs := State.put_regs_mcs ..
@[simp] theorem State.fsat_queues (p : Page) (f : Fld) (n : Nat) (i : Nat) : (s.fsat p f n i).queues = s.queues := State.put_regs_queues ..
@[simp] theorem State.fsat_times (p : Page) (f : Fld) (n : Nat) (i : Nat) : (s.fsat p f n i).times = s.times := State.put_regs_times ..
@[simp] theorem State.fsat_accts (p : Page) (f : Fld) (n : Nat) (i : Nat) : (s.fsat p f n i).accts = s.accts := State.put_regs_accts ..
@[simp] theorem State.fsat_tels (p : Page) (f : Fld) (n : Nat) (i : Nat) : (s.fsat p f n i).tels = s.tels := State.put_regs_tels ..
@[simp] theorem State.fsat_dumps (p : Page) (f : Fld) (n : Nat) (i : Nat) : (s.fsat p f n i).dumps = s.dumps := State.put_regs_dumps ..
@[simp] theorem State.fsat_admits (p : Page) (f : Fld) (n : Nat) (i : Nat) : (s.fsat p f n i).admits = s.admits := State.put_regs_admits ..
@[simp] theorem State.fsat_ciphers (p : Page) (f : Fld) (n : Nat) (i : Nat) : (s.fsat p f n i).ciphers = s.ciphers := State.put_regs_ciphers ..
@[simp] theorem State.fsat_msecs (p : Page) (f : Fld) (n : Nat) (i : Nat) : (s.fsat p f n i).msecs = s.msecs := State.put_regs_msecs ..
@[simp] theorem State.fsat_hosts (p : Page) (f : Fld) (n : Nat) (i : Nat) : (s.fsat p f n i).hosts = s.hosts := State.put_regs_hosts ..
@[simp] theorem State.fsat_coxs (p : Page) (f : Fld) (n : Nat) (i : Nat) : (s.fsat p f n i).coxs = s.coxs := State.put_regs_coxs ..
@[simp] theorem State.fsat_css (p : Page) (f : Fld) (n : Nat) (i : Nat) : (s.fsat p f n i).css = s.css := State.put_regs_css ..
@[simp] theorem State.fsat_test (p : Page) (f : Fld) (n : Nat) (i : Nat) : (s.fsat p f n i).test = s.test := State.put_regs_test ..
@[simp] theorem State.fsat_cget (p : Page) (f : Fld) (n : Nat) (i : Nat) (p' : Page) (f' : Fld) (i' : Nat) : (s.fsat p f n i).cget p' f' i' = s.cget p' f' i' :=
  State.cget_congr (State.fsat_ctrs s p f n i) ..

/-! `fset` -/
@[simp] theorem State.fset_pending (p : Page) (f : Fld) (v : Nat) (i : Nat) : (s.fset p f v i).pending = s.pending := State.put_regs_pending ..
@[simp] theorem State.fset_out (p : Page) (f : Fld) (v : Nat) (i : Nat) : (s.fset p f v i).out = s.out := State.put_regs_out ..
@[simp] theorem State.fset_free (p : Page) (f : Fld) (v : Nat) (i : Nat) : (s.fset p f v i).free = s.free := State.put_regs_free ..
@[simp] theorem State.fset_pins (p : Page) (f : Fld) (v : Nat) (i : Nat) : (s.fset p f v i).pins = s.pins := State.put_regs_pins ..
@[simp] theorem State.fset_otp (p : Page) (f : Fld) (v : Nat) (i : Nat) : (s.fset p f v i).otp = s.otp := State.put_regs_otp ..
@[simp] theorem State.fset_ctrs (p : Page) (f : Fld) (v : Nat) (i : Nat) : (s.fset p f v i).ctrs = s.ctrs := State.put_regs_ctrs ..
@[simp] theorem State.fset_latch (p : Page) (f : Fld) (v : Nat) (i : Nat) : (s.fset p f v i).latch = s.latch := State.put_regs_latch ..
@[simp] theorem State.fset_locks (p : Page) (f : Fld) (v : Nat) (i : Nat) : (s.fset p f v i).locks = s.locks := State.put_regs_locks ..
@[simp] theorem State.fset_boot (p : Page) (f : Fld) (v : Nat) (i : Nat) : (s.fset p f v i).boot = s.boot := State.put_regs_boot ..
@[simp] theorem State.fset_failed (p : Page) (f : Fld) (v : Nat) (i : Nat) : (s.fset p f v i).failed = s.failed := State.put_regs_failed ..
@[simp] theorem State.fset_resetting (p : Page) (f : Fld) (v : Nat) (i : Nat) : (s.fset p f v i).resetting = s.resetting := State.put_regs_resetting ..
@[simp] theorem State.fset_wearBase (p : Page) (f : Fld) (v : Nat) (i : Nat) : (s.fset p f v i).wearBase = s.wearBase := State.put_regs_wearBase ..
@[simp] theorem State.fset_lanes (p : Page) (f : Fld) (v : Nat) (i : Nat) : (s.fset p f v i).lanes = s.lanes := State.put_regs_lanes ..
@[simp] theorem State.fset_links (p : Page) (f : Fld) (v : Nat) (i : Nat) : (s.fset p f v i).links = s.links := State.put_regs_links ..
@[simp] theorem State.fset_tabs (p : Page) (f : Fld) (v : Nat) (i : Nat) : (s.fset p f v i).tabs = s.tabs := State.put_regs_tabs ..
@[simp] theorem State.fset_qdr (p : Page) (f : Fld) (v : Nat) (i : Nat) : (s.fset p f v i).qdr = s.qdr := State.put_regs_qdr ..
@[simp] theorem State.fset_qdrBusy (p : Page) (f : Fld) (v : Nat) (i : Nat) : (s.fset p f v i).qdrBusy = s.qdrBusy := State.put_regs_qdrBusy ..
@[simp] theorem State.fset_clss (p : Page) (f : Fld) (v : Nat) (i : Nat) : (s.fset p f v i).clss = s.clss := State.put_regs_clss ..
@[simp] theorem State.fset_frames (p : Page) (f : Fld) (v : Nat) (i : Nat) : (s.fset p f v i).frames = s.frames := State.put_regs_frames ..
@[simp] theorem State.fset_nextFrame (p : Page) (f : Fld) (v : Nat) (i : Nat) : (s.fset p f v i).nextFrame = s.nextFrame := State.put_regs_nextFrame ..
@[simp] theorem State.fset_slices (p : Page) (f : Fld) (v : Nat) (i : Nat) : (s.fset p f v i).slices = s.slices := State.put_regs_slices ..
@[simp] theorem State.fset_ports (p : Page) (f : Fld) (v : Nat) (i : Nat) : (s.fset p f v i).ports = s.ports := State.put_regs_ports ..
@[simp] theorem State.fset_lrns (p : Page) (f : Fld) (v : Nat) (i : Nat) : (s.fset p f v i).lrns = s.lrns := State.put_regs_lrns ..
@[simp] theorem State.fset_keels (p : Page) (f : Fld) (v : Nat) (i : Nat) : (s.fset p f v i).keels = s.keels := State.put_regs_keels ..
@[simp] theorem State.fset_stalls (p : Page) (f : Fld) (v : Nat) (i : Nat) : (s.fset p f v i).stalls = s.stalls := State.put_regs_stalls ..
@[simp] theorem State.fset_bufs (p : Page) (f : Fld) (v : Nat) (i : Nat) : (s.fset p f v i).bufs = s.bufs := State.put_regs_bufs ..
@[simp] theorem State.fset_mcs (p : Page) (f : Fld) (v : Nat) (i : Nat) : (s.fset p f v i).mcs = s.mcs := State.put_regs_mcs ..
@[simp] theorem State.fset_queues (p : Page) (f : Fld) (v : Nat) (i : Nat) : (s.fset p f v i).queues = s.queues := State.put_regs_queues ..
@[simp] theorem State.fset_times (p : Page) (f : Fld) (v : Nat) (i : Nat) : (s.fset p f v i).times = s.times := State.put_regs_times ..
@[simp] theorem State.fset_accts (p : Page) (f : Fld) (v : Nat) (i : Nat) : (s.fset p f v i).accts = s.accts := State.put_regs_accts ..
@[simp] theorem State.fset_tels (p : Page) (f : Fld) (v : Nat) (i : Nat) : (s.fset p f v i).tels = s.tels := State.put_regs_tels ..
@[simp] theorem State.fset_dumps (p : Page) (f : Fld) (v : Nat) (i : Nat) : (s.fset p f v i).dumps = s.dumps := State.put_regs_dumps ..
@[simp] theorem State.fset_admits (p : Page) (f : Fld) (v : Nat) (i : Nat) : (s.fset p f v i).admits = s.admits := State.put_regs_admits ..
@[simp] theorem State.fset_ciphers (p : Page) (f : Fld) (v : Nat) (i : Nat) : (s.fset p f v i).ciphers = s.ciphers := State.put_regs_ciphers ..
@[simp] theorem State.fset_msecs (p : Page) (f : Fld) (v : Nat) (i : Nat) : (s.fset p f v i).msecs = s.msecs := State.put_regs_msecs ..
@[simp] theorem State.fset_hosts (p : Page) (f : Fld) (v : Nat) (i : Nat) : (s.fset p f v i).hosts = s.hosts := State.put_regs_hosts ..
@[simp] theorem State.fset_coxs (p : Page) (f : Fld) (v : Nat) (i : Nat) : (s.fset p f v i).coxs = s.coxs := State.put_regs_coxs ..
@[simp] theorem State.fset_css (p : Page) (f : Fld) (v : Nat) (i : Nat) : (s.fset p f v i).css = s.css := State.put_regs_css ..
@[simp] theorem State.fset_test (p : Page) (f : Fld) (v : Nat) (i : Nat) : (s.fset p f v i).test = s.test := State.put_regs_test ..
@[simp] theorem State.fset_cget (p : Page) (f : Fld) (v : Nat) (i : Nat) (p' : Page) (f' : Fld) (i' : Nat) : (s.fset p f v i).cget p' f' i' = s.cget p' f' i' :=
  State.cget_congr (State.fset_ctrs s p f v i) ..

/-! `setAcct` -/
@[simp] theorem State.setAcct_pending (d : Nat) (a : AcctSt) : (s.setAcct d a).pending = s.pending := rfl
@[simp] theorem State.setAcct_out (d : Nat) (a : AcctSt) : (s.setAcct d a).out = s.out := rfl
@[simp] theorem State.setAcct_free (d : Nat) (a : AcctSt) : (s.setAcct d a).free = s.free := rfl
@[simp] theorem State.setAcct_pins (d : Nat) (a : AcctSt) : (s.setAcct d a).pins = s.pins := rfl
@[simp] theorem State.setAcct_otp (d : Nat) (a : AcctSt) : (s.setAcct d a).otp = s.otp := rfl
@[simp] theorem State.setAcct_regs (d : Nat) (a : AcctSt) : (s.setAcct d a).regs = s.regs := rfl
@[simp] theorem State.setAcct_ctrs (d : Nat) (a : AcctSt) : (s.setAcct d a).ctrs = s.ctrs := rfl
@[simp] theorem State.setAcct_latch (d : Nat) (a : AcctSt) : (s.setAcct d a).latch = s.latch := rfl
@[simp] theorem State.setAcct_locks (d : Nat) (a : AcctSt) : (s.setAcct d a).locks = s.locks := rfl
@[simp] theorem State.setAcct_boot (d : Nat) (a : AcctSt) : (s.setAcct d a).boot = s.boot := rfl
@[simp] theorem State.setAcct_failed (d : Nat) (a : AcctSt) : (s.setAcct d a).failed = s.failed := rfl
@[simp] theorem State.setAcct_resetting (d : Nat) (a : AcctSt) : (s.setAcct d a).resetting = s.resetting := rfl
@[simp] theorem State.setAcct_wearBase (d : Nat) (a : AcctSt) : (s.setAcct d a).wearBase = s.wearBase := rfl
@[simp] theorem State.setAcct_lanes (d : Nat) (a : AcctSt) : (s.setAcct d a).lanes = s.lanes := rfl
@[simp] theorem State.setAcct_links (d : Nat) (a : AcctSt) : (s.setAcct d a).links = s.links := rfl
@[simp] theorem State.setAcct_tabs (d : Nat) (a : AcctSt) : (s.setAcct d a).tabs = s.tabs := rfl
@[simp] theorem State.setAcct_qdr (d : Nat) (a : AcctSt) : (s.setAcct d a).qdr = s.qdr := rfl
@[simp] theorem State.setAcct_qdrBusy (d : Nat) (a : AcctSt) : (s.setAcct d a).qdrBusy = s.qdrBusy := rfl
@[simp] theorem State.setAcct_clss (d : Nat) (a : AcctSt) : (s.setAcct d a).clss = s.clss := rfl
@[simp] theorem State.setAcct_frames (d : Nat) (a : AcctSt) : (s.setAcct d a).frames = s.frames := rfl
@[simp] theorem State.setAcct_nextFrame (d : Nat) (a : AcctSt) : (s.setAcct d a).nextFrame = s.nextFrame := rfl
@[simp] theorem State.setAcct_slices (d : Nat) (a : AcctSt) : (s.setAcct d a).slices = s.slices := rfl
@[simp] theorem State.setAcct_ports (d : Nat) (a : AcctSt) : (s.setAcct d a).ports = s.ports := rfl
@[simp] theorem State.setAcct_lrns (d : Nat) (a : AcctSt) : (s.setAcct d a).lrns = s.lrns := rfl
@[simp] theorem State.setAcct_keels (d : Nat) (a : AcctSt) : (s.setAcct d a).keels = s.keels := rfl
@[simp] theorem State.setAcct_stalls (d : Nat) (a : AcctSt) : (s.setAcct d a).stalls = s.stalls := rfl
@[simp] theorem State.setAcct_bufs (d : Nat) (a : AcctSt) : (s.setAcct d a).bufs = s.bufs := rfl
@[simp] theorem State.setAcct_mcs (d : Nat) (a : AcctSt) : (s.setAcct d a).mcs = s.mcs := rfl
@[simp] theorem State.setAcct_queues (d : Nat) (a : AcctSt) : (s.setAcct d a).queues = s.queues := rfl
@[simp] theorem State.setAcct_times (d : Nat) (a : AcctSt) : (s.setAcct d a).times = s.times := rfl
@[simp] theorem State.setAcct_tels (d : Nat) (a : AcctSt) : (s.setAcct d a).tels = s.tels := rfl
@[simp] theorem State.setAcct_dumps (d : Nat) (a : AcctSt) : (s.setAcct d a).dumps = s.dumps := rfl
@[simp] theorem State.setAcct_admits (d : Nat) (a : AcctSt) : (s.setAcct d a).admits = s.admits := rfl
@[simp] theorem State.setAcct_ciphers (d : Nat) (a : AcctSt) : (s.setAcct d a).ciphers = s.ciphers := rfl
@[simp] theorem State.setAcct_msecs (d : Nat) (a : AcctSt) : (s.setAcct d a).msecs = s.msecs := rfl
@[simp] theorem State.setAcct_hosts (d : Nat) (a : AcctSt) : (s.setAcct d a).hosts = s.hosts := rfl
@[simp] theorem State.setAcct_coxs (d : Nat) (a : AcctSt) : (s.setAcct d a).coxs = s.coxs := rfl
@[simp] theorem State.setAcct_css (d : Nat) (a : AcctSt) : (s.setAcct d a).css = s.css := rfl
@[simp] theorem State.setAcct_test (d : Nat) (a : AcctSt) : (s.setAcct d a).test = s.test := rfl
@[simp] theorem State.setAcct_reg (d : Nat) (a : AcctSt) (p' : Page) (o' : Nat) : (s.setAcct d a).reg p' o' = s.reg p' o' :=
  State.reg_congr (State.setAcct_regs s d a) ..
@[simp] theorem State.setAcct_fget (d : Nat) (a : AcctSt) (p' : Page) (f' : Fld) (i' : Nat) : (s.setAcct d a).fget p' f' i' = s.fget p' f' i' :=
  State.fget_congr (State.setAcct_regs s d a) ..
@[simp] theorem State.setAcct_flag (d : Nat) (a : AcctSt) (p' : Page) (f' : Fld) (i' : Nat) : (s.setAcct d a).flag p' f' i' = s.flag p' f' i' :=
  State.flag_congr (State.setAcct_regs s d a) ..
@[simp] theorem State.setAcct_cget (d : Nat) (a : AcctSt) (p' : Page) (f' : Fld) (i' : Nat) : (s.setAcct d a).cget p' f' i' = s.cget p' f' i' :=
  State.cget_congr (State.setAcct_ctrs s d a) ..
@[simp] theorem State.setAcct_acctOf (d : Nat) (a : AcctSt) : (s.setAcct d a).acctOf d = a := Sparse.get_set_same ..
theorem State.setAcct_acctOf_ne (d : Nat) (a : AcctSt) {k' : Nat} (hk : k' ≠ d) : (s.setAcct d a).acctOf k' = s.acctOf k' := Sparse.get_set_other _ _ _ hk

/-! `setBoot` -/
@[simp] theorem State.setBoot_pending (d : Nat) (b : DieBoot) : (s.setBoot d b).pending = s.pending := rfl
@[simp] theorem State.setBoot_out (d : Nat) (b : DieBoot) : (s.setBoot d b).out = s.out := rfl
@[simp] theorem State.setBoot_free (d : Nat) (b : DieBoot) : (s.setBoot d b).free = s.free := rfl
@[simp] theorem State.setBoot_pins (d : Nat) (b : DieBoot) : (s.setBoot d b).pins = s.pins := rfl
@[simp] theorem State.setBoot_otp (d : Nat) (b : DieBoot) : (s.setBoot d b).otp = s.otp := rfl
@[simp] theorem State.setBoot_regs (d : Nat) (b : DieBoot) : (s.setBoot d b).regs = s.regs := rfl
@[simp] theorem State.setBoot_ctrs (d : Nat) (b : DieBoot) : (s.setBoot d b).ctrs = s.ctrs := rfl
@[simp] theorem State.setBoot_latch (d : Nat) (b : DieBoot) : (s.setBoot d b).latch = s.latch := rfl
@[simp] theorem State.setBoot_locks (d : Nat) (b : DieBoot) : (s.setBoot d b).locks = s.locks := rfl
@[simp] theorem State.setBoot_failed (d : Nat) (b : DieBoot) : (s.setBoot d b).failed = s.failed := rfl
@[simp] theorem State.setBoot_resetting (d : Nat) (b : DieBoot) : (s.setBoot d b).resetting = s.resetting := rfl
@[simp] theorem State.setBoot_wearBase (d : Nat) (b : DieBoot) : (s.setBoot d b).wearBase = s.wearBase := rfl
@[simp] theorem State.setBoot_lanes (d : Nat) (b : DieBoot) : (s.setBoot d b).lanes = s.lanes := rfl
@[simp] theorem State.setBoot_links (d : Nat) (b : DieBoot) : (s.setBoot d b).links = s.links := rfl
@[simp] theorem State.setBoot_tabs (d : Nat) (b : DieBoot) : (s.setBoot d b).tabs = s.tabs := rfl
@[simp] theorem State.setBoot_qdr (d : Nat) (b : DieBoot) : (s.setBoot d b).qdr = s.qdr := rfl
@[simp] theorem State.setBoot_qdrBusy (d : Nat) (b : DieBoot) : (s.setBoot d b).qdrBusy = s.qdrBusy := rfl
@[simp] theorem State.setBoot_clss (d : Nat) (b : DieBoot) : (s.setBoot d b).clss = s.clss := rfl
@[simp] theorem State.setBoot_frames (d : Nat) (b : DieBoot) : (s.setBoot d b).frames = s.frames := rfl
@[simp] theorem State.setBoot_nextFrame (d : Nat) (b : DieBoot) : (s.setBoot d b).nextFrame = s.nextFrame := rfl
@[simp] theorem State.setBoot_slices (d : Nat) (b : DieBoot) : (s.setBoot d b).slices = s.slices := rfl
@[simp] theorem State.setBoot_ports (d : Nat) (b : DieBoot) : (s.setBoot d b).ports = s.ports := rfl
@[simp] theorem State.setBoot_lrns (d : Nat) (b : DieBoot) : (s.setBoot d b).lrns = s.lrns := rfl
@[simp] theorem State.setBoot_keels (d : Nat) (b : DieBoot) : (s.setBoot d b).keels = s.keels := rfl
@[simp] theorem State.setBoot_stalls (d : Nat) (b : DieBoot) : (s.setBoot d b).stalls = s.stalls := rfl
@[simp] theorem State.setBoot_bufs (d : Nat) (b : DieBoot) : (s.setBoot d b).bufs = s.bufs := rfl
@[simp] theorem State.setBoot_mcs (d : Nat) (b : DieBoot) : (s.setBoot d b).mcs = s.mcs := rfl
@[simp] theorem State.setBoot_queues (d : Nat) (b : DieBoot) : (s.setBoot d b).queues = s.queues := rfl
@[simp] theorem State.setBoot_times (d : Nat) (b : DieBoot) : (s.setBoot d b).times = s.times := rfl
@[simp] theorem State.setBoot_accts (d : Nat) (b : DieBoot) : (s.setBoot d b).accts = s.accts := rfl
@[simp] theorem State.setBoot_tels (d : Nat) (b : DieBoot) : (s.setBoot d b).tels = s.tels := rfl
@[simp] theorem State.setBoot_dumps (d : Nat) (b : DieBoot) : (s.setBoot d b).dumps = s.dumps := rfl
@[simp] theorem State.setBoot_admits (d : Nat) (b : DieBoot) : (s.setBoot d b).admits = s.admits := rfl
@[simp] theorem State.setBoot_ciphers (d : Nat) (b : DieBoot) : (s.setBoot d b).ciphers = s.ciphers := rfl
@[simp] theorem State.setBoot_msecs (d : Nat) (b : DieBoot) : (s.setBoot d b).msecs = s.msecs := rfl
@[simp] theorem State.setBoot_hosts (d : Nat) (b : DieBoot) : (s.setBoot d b).hosts = s.hosts := rfl
@[simp] theorem State.setBoot_coxs (d : Nat) (b : DieBoot) : (s.setBoot d b).coxs = s.coxs := rfl
@[simp] theorem State.setBoot_css (d : Nat) (b : DieBoot) : (s.setBoot d b).css = s.css := rfl
@[simp] theorem State.setBoot_test (d : Nat) (b : DieBoot) : (s.setBoot d b).test = s.test := rfl
@[simp] theorem State.setBoot_reg (d : Nat) (b : DieBoot) (p' : Page) (o' : Nat) : (s.setBoot d b).reg p' o' = s.reg p' o' :=
  State.reg_congr (State.setBoot_regs s d b) ..
@[simp] theorem State.setBoot_fget (d : Nat) (b : DieBoot) (p' : Page) (f' : Fld) (i' : Nat) : (s.setBoot d b).fget p' f' i' = s.fget p' f' i' :=
  State.fget_congr (State.setBoot_regs s d b) ..
@[simp] theorem State.setBoot_flag (d : Nat) (b : DieBoot) (p' : Page) (f' : Fld) (i' : Nat) : (s.setBoot d b).flag p' f' i' = s.flag p' f' i' :=
  State.flag_congr (State.setBoot_regs s d b) ..
@[simp] theorem State.setBoot_cget (d : Nat) (b : DieBoot) (p' : Page) (f' : Fld) (i' : Nat) : (s.setBoot d b).cget p' f' i' = s.cget p' f' i' :=
  State.cget_congr (State.setBoot_ctrs s d b) ..
@[simp] theorem State.setBoot_bootOf (d : Nat) (b : DieBoot) : (s.setBoot d b).bootOf d = b := Sparse.get_set_same ..
theorem State.setBoot_bootOf_ne (d : Nat) (b : DieBoot) {k' : Nat} (hk : k' ≠ d) : (s.setBoot d b).bootOf k' = s.bootOf k' := Sparse.get_set_other _ _ _ hk

/-! `setBuf` -/
@[simp] theorem State.setBuf_pending (d : Nat) (b : BufSt) : (s.setBuf d b).pending = s.pending := rfl
@[simp] theorem State.setBuf_out (d : Nat) (b : BufSt) : (s.setBuf d b).out = s.out := rfl
@[simp] theorem State.setBuf_free (d : Nat) (b : BufSt) : (s.setBuf d b).free = s.free := rfl
@[simp] theorem State.setBuf_pins (d : Nat) (b : BufSt) : (s.setBuf d b).pins = s.pins := rfl
@[simp] theorem State.setBuf_otp (d : Nat) (b : BufSt) : (s.setBuf d b).otp = s.otp := rfl
@[simp] theorem State.setBuf_regs (d : Nat) (b : BufSt) : (s.setBuf d b).regs = s.regs := rfl
@[simp] theorem State.setBuf_ctrs (d : Nat) (b : BufSt) : (s.setBuf d b).ctrs = s.ctrs := rfl
@[simp] theorem State.setBuf_latch (d : Nat) (b : BufSt) : (s.setBuf d b).latch = s.latch := rfl
@[simp] theorem State.setBuf_locks (d : Nat) (b : BufSt) : (s.setBuf d b).locks = s.locks := rfl
@[simp] theorem State.setBuf_boot (d : Nat) (b : BufSt) : (s.setBuf d b).boot = s.boot := rfl
@[simp] theorem State.setBuf_failed (d : Nat) (b : BufSt) : (s.setBuf d b).failed = s.failed := rfl
@[simp] theorem State.setBuf_resetting (d : Nat) (b : BufSt) : (s.setBuf d b).resetting = s.resetting := rfl
@[simp] theorem State.setBuf_wearBase (d : Nat) (b : BufSt) : (s.setBuf d b).wearBase = s.wearBase := rfl
@[simp] theorem State.setBuf_lanes (d : Nat) (b : BufSt) : (s.setBuf d b).lanes = s.lanes := rfl
@[simp] theorem State.setBuf_links (d : Nat) (b : BufSt) : (s.setBuf d b).links = s.links := rfl
@[simp] theorem State.setBuf_tabs (d : Nat) (b : BufSt) : (s.setBuf d b).tabs = s.tabs := rfl
@[simp] theorem State.setBuf_qdr (d : Nat) (b : BufSt) : (s.setBuf d b).qdr = s.qdr := rfl
@[simp] theorem State.setBuf_qdrBusy (d : Nat) (b : BufSt) : (s.setBuf d b).qdrBusy = s.qdrBusy := rfl
@[simp] theorem State.setBuf_clss (d : Nat) (b : BufSt) : (s.setBuf d b).clss = s.clss := rfl
@[simp] theorem State.setBuf_frames (d : Nat) (b : BufSt) : (s.setBuf d b).frames = s.frames := rfl
@[simp] theorem State.setBuf_nextFrame (d : Nat) (b : BufSt) : (s.setBuf d b).nextFrame = s.nextFrame := rfl
@[simp] theorem State.setBuf_slices (d : Nat) (b : BufSt) : (s.setBuf d b).slices = s.slices := rfl
@[simp] theorem State.setBuf_ports (d : Nat) (b : BufSt) : (s.setBuf d b).ports = s.ports := rfl
@[simp] theorem State.setBuf_lrns (d : Nat) (b : BufSt) : (s.setBuf d b).lrns = s.lrns := rfl
@[simp] theorem State.setBuf_keels (d : Nat) (b : BufSt) : (s.setBuf d b).keels = s.keels := rfl
@[simp] theorem State.setBuf_stalls (d : Nat) (b : BufSt) : (s.setBuf d b).stalls = s.stalls := rfl
@[simp] theorem State.setBuf_mcs (d : Nat) (b : BufSt) : (s.setBuf d b).mcs = s.mcs := rfl
@[simp] theorem State.setBuf_queues (d : Nat) (b : BufSt) : (s.setBuf d b).queues = s.queues := rfl
@[simp] theorem State.setBuf_times (d : Nat) (b : BufSt) : (s.setBuf d b).times = s.times := rfl
@[simp] theorem State.setBuf_accts (d : Nat) (b : BufSt) : (s.setBuf d b).accts = s.accts := rfl
@[simp] theorem State.setBuf_tels (d : Nat) (b : BufSt) : (s.setBuf d b).tels = s.tels := rfl
@[simp] theorem State.setBuf_dumps (d : Nat) (b : BufSt) : (s.setBuf d b).dumps = s.dumps := rfl
@[simp] theorem State.setBuf_admits (d : Nat) (b : BufSt) : (s.setBuf d b).admits = s.admits := rfl
@[simp] theorem State.setBuf_ciphers (d : Nat) (b : BufSt) : (s.setBuf d b).ciphers = s.ciphers := rfl
@[simp] theorem State.setBuf_msecs (d : Nat) (b : BufSt) : (s.setBuf d b).msecs = s.msecs := rfl
@[simp] theorem State.setBuf_hosts (d : Nat) (b : BufSt) : (s.setBuf d b).hosts = s.hosts := rfl
@[simp] theorem State.setBuf_coxs (d : Nat) (b : BufSt) : (s.setBuf d b).coxs = s.coxs := rfl
@[simp] theorem State.setBuf_css (d : Nat) (b : BufSt) : (s.setBuf d b).css = s.css := rfl
@[simp] theorem State.setBuf_test (d : Nat) (b : BufSt) : (s.setBuf d b).test = s.test := rfl
@[simp] theorem State.setBuf_reg (d : Nat) (b : BufSt) (p' : Page) (o' : Nat) : (s.setBuf d b).reg p' o' = s.reg p' o' :=
  State.reg_congr (State.setBuf_regs s d b) ..
@[simp] theorem State.setBuf_fget (d : Nat) (b : BufSt) (p' : Page) (f' : Fld) (i' : Nat) : (s.setBuf d b).fget p' f' i' = s.fget p' f' i' :=
  State.fget_congr (State.setBuf_regs s d b) ..
@[simp] theorem State.setBuf_flag (d : Nat) (b : BufSt) (p' : Page) (f' : Fld) (i' : Nat) : (s.setBuf d b).flag p' f' i' = s.flag p' f' i' :=
  State.flag_congr (State.setBuf_regs s d b) ..
@[simp] theorem State.setBuf_cget (d : Nat) (b : BufSt) (p' : Page) (f' : Fld) (i' : Nat) : (s.setBuf d b).cget p' f' i' = s.cget p' f' i' :=
  State.cget_congr (State.setBuf_ctrs s d b) ..
@[simp] theorem State.setBuf_bufOf (d : Nat) (b : BufSt) : (s.setBuf d b).bufOf d = b := Sparse.get_set_same ..
theorem State.setBuf_bufOf_ne (d : Nat) (b : BufSt) {k' : Nat} (hk : k' ≠ d) : (s.setBuf d b).bufOf k' = s.bufOf k' := Sparse.get_set_other _ _ _ hk

/-! `setCauses` -/
@[simp] theorem State.setCauses_pending (l : Nat) (c : List LinkCause) : (s.setCauses l c).pending = s.pending := rfl
@[simp] theorem State.setCauses_out (l : Nat) (c : List LinkCause) : (s.setCauses l c).out = s.out := rfl
@[simp] theorem State.setCauses_free (l : Nat) (c : List LinkCause) : (s.setCauses l c).free = s.free := rfl
@[simp] theorem State.setCauses_pins (l : Nat) (c : List LinkCause) : (s.setCauses l c).pins = s.pins := rfl
@[simp] theorem State.setCauses_otp (l : Nat) (c : List LinkCause) : (s.setCauses l c).otp = s.otp := rfl
@[simp] theorem State.setCauses_regs (l : Nat) (c : List LinkCause) : (s.setCauses l c).regs = s.regs := rfl
@[simp] theorem State.setCauses_ctrs (l : Nat) (c : List LinkCause) : (s.setCauses l c).ctrs = s.ctrs := rfl
@[simp] theorem State.setCauses_latch (l : Nat) (c : List LinkCause) : (s.setCauses l c).latch = s.latch := rfl
@[simp] theorem State.setCauses_locks (l : Nat) (c : List LinkCause) : (s.setCauses l c).locks = s.locks := rfl
@[simp] theorem State.setCauses_boot (l : Nat) (c : List LinkCause) : (s.setCauses l c).boot = s.boot := rfl
@[simp] theorem State.setCauses_failed (l : Nat) (c : List LinkCause) : (s.setCauses l c).failed = s.failed := rfl
@[simp] theorem State.setCauses_resetting (l : Nat) (c : List LinkCause) : (s.setCauses l c).resetting = s.resetting := rfl
@[simp] theorem State.setCauses_wearBase (l : Nat) (c : List LinkCause) : (s.setCauses l c).wearBase = s.wearBase := rfl
@[simp] theorem State.setCauses_links (l : Nat) (c : List LinkCause) : (s.setCauses l c).links = s.links := rfl
@[simp] theorem State.setCauses_tabs (l : Nat) (c : List LinkCause) : (s.setCauses l c).tabs = s.tabs := rfl
@[simp] theorem State.setCauses_qdr (l : Nat) (c : List LinkCause) : (s.setCauses l c).qdr = s.qdr := rfl
@[simp] theorem State.setCauses_qdrBusy (l : Nat) (c : List LinkCause) : (s.setCauses l c).qdrBusy = s.qdrBusy := rfl
@[simp] theorem State.setCauses_clss (l : Nat) (c : List LinkCause) : (s.setCauses l c).clss = s.clss := rfl
@[simp] theorem State.setCauses_frames (l : Nat) (c : List LinkCause) : (s.setCauses l c).frames = s.frames := rfl
@[simp] theorem State.setCauses_nextFrame (l : Nat) (c : List LinkCause) : (s.setCauses l c).nextFrame = s.nextFrame := rfl
@[simp] theorem State.setCauses_slices (l : Nat) (c : List LinkCause) : (s.setCauses l c).slices = s.slices := rfl
@[simp] theorem State.setCauses_ports (l : Nat) (c : List LinkCause) : (s.setCauses l c).ports = s.ports := rfl
@[simp] theorem State.setCauses_lrns (l : Nat) (c : List LinkCause) : (s.setCauses l c).lrns = s.lrns := rfl
@[simp] theorem State.setCauses_keels (l : Nat) (c : List LinkCause) : (s.setCauses l c).keels = s.keels := rfl
@[simp] theorem State.setCauses_stalls (l : Nat) (c : List LinkCause) : (s.setCauses l c).stalls = s.stalls := rfl
@[simp] theorem State.setCauses_bufs (l : Nat) (c : List LinkCause) : (s.setCauses l c).bufs = s.bufs := rfl
@[simp] theorem State.setCauses_mcs (l : Nat) (c : List LinkCause) : (s.setCauses l c).mcs = s.mcs := rfl
@[simp] theorem State.setCauses_queues (l : Nat) (c : List LinkCause) : (s.setCauses l c).queues = s.queues := rfl
@[simp] theorem State.setCauses_times (l : Nat) (c : List LinkCause) : (s.setCauses l c).times = s.times := rfl
@[simp] theorem State.setCauses_accts (l : Nat) (c : List LinkCause) : (s.setCauses l c).accts = s.accts := rfl
@[simp] theorem State.setCauses_tels (l : Nat) (c : List LinkCause) : (s.setCauses l c).tels = s.tels := rfl
@[simp] theorem State.setCauses_dumps (l : Nat) (c : List LinkCause) : (s.setCauses l c).dumps = s.dumps := rfl
@[simp] theorem State.setCauses_admits (l : Nat) (c : List LinkCause) : (s.setCauses l c).admits = s.admits := rfl
@[simp] theorem State.setCauses_ciphers (l : Nat) (c : List LinkCause) : (s.setCauses l c).ciphers = s.ciphers := rfl
@[simp] theorem State.setCauses_msecs (l : Nat) (c : List LinkCause) : (s.setCauses l c).msecs = s.msecs := rfl
@[simp] theorem State.setCauses_hosts (l : Nat) (c : List LinkCause) : (s.setCauses l c).hosts = s.hosts := rfl
@[simp] theorem State.setCauses_coxs (l : Nat) (c : List LinkCause) : (s.setCauses l c).coxs = s.coxs := rfl
@[simp] theorem State.setCauses_css (l : Nat) (c : List LinkCause) : (s.setCauses l c).css = s.css := rfl
@[simp] theorem State.setCauses_test (l : Nat) (c : List LinkCause) : (s.setCauses l c).test = s.test := rfl
@[simp] theorem State.setCauses_reg (l : Nat) (c : List LinkCause) (p' : Page) (o' : Nat) : (s.setCauses l c).reg p' o' = s.reg p' o' :=
  State.reg_congr (State.setCauses_regs s l c) ..
@[simp] theorem State.setCauses_fget (l : Nat) (c : List LinkCause) (p' : Page) (f' : Fld) (i' : Nat) : (s.setCauses l c).fget p' f' i' = s.fget p' f' i' :=
  State.fget_congr (State.setCauses_regs s l c) ..
@[simp] theorem State.setCauses_flag (l : Nat) (c : List LinkCause) (p' : Page) (f' : Fld) (i' : Nat) : (s.setCauses l c).flag p' f' i' = s.flag p' f' i' :=
  State.flag_congr (State.setCauses_regs s l c) ..
@[simp] theorem State.setCauses_cget (l : Nat) (c : List LinkCause) (p' : Page) (f' : Fld) (i' : Nat) : (s.setCauses l c).cget p' f' i' = s.cget p' f' i' :=
  State.cget_congr (State.setCauses_ctrs s l c) ..

/-! `setCipher` -/
@[simp] theorem State.setCipher_pending (d : Nat) (c : CipherSt) : (s.setCipher d c).pending = s.pending := rfl
@[simp] theorem State.setCipher_out (d : Nat) (c : CipherSt) : (s.setCipher d c).out = s.out := rfl
@[simp] theorem State.setCipher_free (d : Nat) (c : CipherSt) : (s.setCipher d c).free = s.free := rfl
@[simp] theorem State.setCipher_pins (d : Nat) (c : CipherSt) : (s.setCipher d c).pins = s.pins := rfl
@[simp] theorem State.setCipher_otp (d : Nat) (c : CipherSt) : (s.setCipher d c).otp = s.otp := rfl
@[simp] theorem State.setCipher_regs (d : Nat) (c : CipherSt) : (s.setCipher d c).regs = s.regs := rfl
@[simp] theorem State.setCipher_ctrs (d : Nat) (c : CipherSt) : (s.setCipher d c).ctrs = s.ctrs := rfl
@[simp] theorem State.setCipher_latch (d : Nat) (c : CipherSt) : (s.setCipher d c).latch = s.latch := rfl
@[simp] theorem State.setCipher_locks (d : Nat) (c : CipherSt) : (s.setCipher d c).locks = s.locks := rfl
@[simp] theorem State.setCipher_boot (d : Nat) (c : CipherSt) : (s.setCipher d c).boot = s.boot := rfl
@[simp] theorem State.setCipher_failed (d : Nat) (c : CipherSt) : (s.setCipher d c).failed = s.failed := rfl
@[simp] theorem State.setCipher_resetting (d : Nat) (c : CipherSt) : (s.setCipher d c).resetting = s.resetting := rfl
@[simp] theorem State.setCipher_wearBase (d : Nat) (c : CipherSt) : (s.setCipher d c).wearBase = s.wearBase := rfl
@[simp] theorem State.setCipher_lanes (d : Nat) (c : CipherSt) : (s.setCipher d c).lanes = s.lanes := rfl
@[simp] theorem State.setCipher_links (d : Nat) (c : CipherSt) : (s.setCipher d c).links = s.links := rfl
@[simp] theorem State.setCipher_tabs (d : Nat) (c : CipherSt) : (s.setCipher d c).tabs = s.tabs := rfl
@[simp] theorem State.setCipher_qdr (d : Nat) (c : CipherSt) : (s.setCipher d c).qdr = s.qdr := rfl
@[simp] theorem State.setCipher_qdrBusy (d : Nat) (c : CipherSt) : (s.setCipher d c).qdrBusy = s.qdrBusy := rfl
@[simp] theorem State.setCipher_clss (d : Nat) (c : CipherSt) : (s.setCipher d c).clss = s.clss := rfl
@[simp] theorem State.setCipher_frames (d : Nat) (c : CipherSt) : (s.setCipher d c).frames = s.frames := rfl
@[simp] theorem State.setCipher_nextFrame (d : Nat) (c : CipherSt) : (s.setCipher d c).nextFrame = s.nextFrame := rfl
@[simp] theorem State.setCipher_slices (d : Nat) (c : CipherSt) : (s.setCipher d c).slices = s.slices := rfl
@[simp] theorem State.setCipher_ports (d : Nat) (c : CipherSt) : (s.setCipher d c).ports = s.ports := rfl
@[simp] theorem State.setCipher_lrns (d : Nat) (c : CipherSt) : (s.setCipher d c).lrns = s.lrns := rfl
@[simp] theorem State.setCipher_keels (d : Nat) (c : CipherSt) : (s.setCipher d c).keels = s.keels := rfl
@[simp] theorem State.setCipher_stalls (d : Nat) (c : CipherSt) : (s.setCipher d c).stalls = s.stalls := rfl
@[simp] theorem State.setCipher_bufs (d : Nat) (c : CipherSt) : (s.setCipher d c).bufs = s.bufs := rfl
@[simp] theorem State.setCipher_mcs (d : Nat) (c : CipherSt) : (s.setCipher d c).mcs = s.mcs := rfl
@[simp] theorem State.setCipher_queues (d : Nat) (c : CipherSt) : (s.setCipher d c).queues = s.queues := rfl
@[simp] theorem State.setCipher_times (d : Nat) (c : CipherSt) : (s.setCipher d c).times = s.times := rfl
@[simp] theorem State.setCipher_accts (d : Nat) (c : CipherSt) : (s.setCipher d c).accts = s.accts := rfl
@[simp] theorem State.setCipher_tels (d : Nat) (c : CipherSt) : (s.setCipher d c).tels = s.tels := rfl
@[simp] theorem State.setCipher_dumps (d : Nat) (c : CipherSt) : (s.setCipher d c).dumps = s.dumps := rfl
@[simp] theorem State.setCipher_admits (d : Nat) (c : CipherSt) : (s.setCipher d c).admits = s.admits := rfl
@[simp] theorem State.setCipher_msecs (d : Nat) (c : CipherSt) : (s.setCipher d c).msecs = s.msecs := rfl
@[simp] theorem State.setCipher_hosts (d : Nat) (c : CipherSt) : (s.setCipher d c).hosts = s.hosts := rfl
@[simp] theorem State.setCipher_coxs (d : Nat) (c : CipherSt) : (s.setCipher d c).coxs = s.coxs := rfl
@[simp] theorem State.setCipher_css (d : Nat) (c : CipherSt) : (s.setCipher d c).css = s.css := rfl
@[simp] theorem State.setCipher_test (d : Nat) (c : CipherSt) : (s.setCipher d c).test = s.test := rfl
@[simp] theorem State.setCipher_reg (d : Nat) (c : CipherSt) (p' : Page) (o' : Nat) : (s.setCipher d c).reg p' o' = s.reg p' o' :=
  State.reg_congr (State.setCipher_regs s d c) ..
@[simp] theorem State.setCipher_fget (d : Nat) (c : CipherSt) (p' : Page) (f' : Fld) (i' : Nat) : (s.setCipher d c).fget p' f' i' = s.fget p' f' i' :=
  State.fget_congr (State.setCipher_regs s d c) ..
@[simp] theorem State.setCipher_flag (d : Nat) (c : CipherSt) (p' : Page) (f' : Fld) (i' : Nat) : (s.setCipher d c).flag p' f' i' = s.flag p' f' i' :=
  State.flag_congr (State.setCipher_regs s d c) ..
@[simp] theorem State.setCipher_cget (d : Nat) (c : CipherSt) (p' : Page) (f' : Fld) (i' : Nat) : (s.setCipher d c).cget p' f' i' = s.cget p' f' i' :=
  State.cget_congr (State.setCipher_ctrs s d c) ..
@[simp] theorem State.setCipher_cipherOf (d : Nat) (c : CipherSt) : (s.setCipher d c).cipherOf d = c := Sparse.get_set_same ..
theorem State.setCipher_cipherOf_ne (d : Nat) (c : CipherSt) {k' : Nat} (hk : k' ≠ d) : (s.setCipher d c).cipherOf k' = s.cipherOf k' := Sparse.get_set_other _ _ _ hk

/-! `setCls` -/
@[simp] theorem State.setCls_pending (d : Nat) (c : ClsSt) : (s.setCls d c).pending = s.pending := rfl
@[simp] theorem State.setCls_out (d : Nat) (c : ClsSt) : (s.setCls d c).out = s.out := rfl
@[simp] theorem State.setCls_free (d : Nat) (c : ClsSt) : (s.setCls d c).free = s.free := rfl
@[simp] theorem State.setCls_pins (d : Nat) (c : ClsSt) : (s.setCls d c).pins = s.pins := rfl
@[simp] theorem State.setCls_otp (d : Nat) (c : ClsSt) : (s.setCls d c).otp = s.otp := rfl
@[simp] theorem State.setCls_regs (d : Nat) (c : ClsSt) : (s.setCls d c).regs = s.regs := rfl
@[simp] theorem State.setCls_ctrs (d : Nat) (c : ClsSt) : (s.setCls d c).ctrs = s.ctrs := rfl
@[simp] theorem State.setCls_latch (d : Nat) (c : ClsSt) : (s.setCls d c).latch = s.latch := rfl
@[simp] theorem State.setCls_locks (d : Nat) (c : ClsSt) : (s.setCls d c).locks = s.locks := rfl
@[simp] theorem State.setCls_boot (d : Nat) (c : ClsSt) : (s.setCls d c).boot = s.boot := rfl
@[simp] theorem State.setCls_failed (d : Nat) (c : ClsSt) : (s.setCls d c).failed = s.failed := rfl
@[simp] theorem State.setCls_resetting (d : Nat) (c : ClsSt) : (s.setCls d c).resetting = s.resetting := rfl
@[simp] theorem State.setCls_wearBase (d : Nat) (c : ClsSt) : (s.setCls d c).wearBase = s.wearBase := rfl
@[simp] theorem State.setCls_lanes (d : Nat) (c : ClsSt) : (s.setCls d c).lanes = s.lanes := rfl
@[simp] theorem State.setCls_links (d : Nat) (c : ClsSt) : (s.setCls d c).links = s.links := rfl
@[simp] theorem State.setCls_tabs (d : Nat) (c : ClsSt) : (s.setCls d c).tabs = s.tabs := rfl
@[simp] theorem State.setCls_qdr (d : Nat) (c : ClsSt) : (s.setCls d c).qdr = s.qdr := rfl
@[simp] theorem State.setCls_qdrBusy (d : Nat) (c : ClsSt) : (s.setCls d c).qdrBusy = s.qdrBusy := rfl
@[simp] theorem State.setCls_frames (d : Nat) (c : ClsSt) : (s.setCls d c).frames = s.frames := rfl
@[simp] theorem State.setCls_nextFrame (d : Nat) (c : ClsSt) : (s.setCls d c).nextFrame = s.nextFrame := rfl
@[simp] theorem State.setCls_slices (d : Nat) (c : ClsSt) : (s.setCls d c).slices = s.slices := rfl
@[simp] theorem State.setCls_ports (d : Nat) (c : ClsSt) : (s.setCls d c).ports = s.ports := rfl
@[simp] theorem State.setCls_lrns (d : Nat) (c : ClsSt) : (s.setCls d c).lrns = s.lrns := rfl
@[simp] theorem State.setCls_keels (d : Nat) (c : ClsSt) : (s.setCls d c).keels = s.keels := rfl
@[simp] theorem State.setCls_stalls (d : Nat) (c : ClsSt) : (s.setCls d c).stalls = s.stalls := rfl
@[simp] theorem State.setCls_bufs (d : Nat) (c : ClsSt) : (s.setCls d c).bufs = s.bufs := rfl
@[simp] theorem State.setCls_mcs (d : Nat) (c : ClsSt) : (s.setCls d c).mcs = s.mcs := rfl
@[simp] theorem State.setCls_queues (d : Nat) (c : ClsSt) : (s.setCls d c).queues = s.queues := rfl
@[simp] theorem State.setCls_times (d : Nat) (c : ClsSt) : (s.setCls d c).times = s.times := rfl
@[simp] theorem State.setCls_accts (d : Nat) (c : ClsSt) : (s.setCls d c).accts = s.accts := rfl
@[simp] theorem State.setCls_tels (d : Nat) (c : ClsSt) : (s.setCls d c).tels = s.tels := rfl
@[simp] theorem State.setCls_dumps (d : Nat) (c : ClsSt) : (s.setCls d c).dumps = s.dumps := rfl
@[simp] theorem State.setCls_admits (d : Nat) (c : ClsSt) : (s.setCls d c).admits = s.admits := rfl
@[simp] theorem State.setCls_ciphers (d : Nat) (c : ClsSt) : (s.setCls d c).ciphers = s.ciphers := rfl
@[simp] theorem State.setCls_msecs (d : Nat) (c : ClsSt) : (s.setCls d c).msecs = s.msecs := rfl
@[simp] theorem State.setCls_hosts (d : Nat) (c : ClsSt) : (s.setCls d c).hosts = s.hosts := rfl
@[simp] theorem State.setCls_coxs (d : Nat) (c : ClsSt) : (s.setCls d c).coxs = s.coxs := rfl
@[simp] theorem State.setCls_css (d : Nat) (c : ClsSt) : (s.setCls d c).css = s.css := rfl
@[simp] theorem State.setCls_test (d : Nat) (c : ClsSt) : (s.setCls d c).test = s.test := rfl
@[simp] theorem State.setCls_reg (d : Nat) (c : ClsSt) (p' : Page) (o' : Nat) : (s.setCls d c).reg p' o' = s.reg p' o' :=
  State.reg_congr (State.setCls_regs s d c) ..
@[simp] theorem State.setCls_fget (d : Nat) (c : ClsSt) (p' : Page) (f' : Fld) (i' : Nat) : (s.setCls d c).fget p' f' i' = s.fget p' f' i' :=
  State.fget_congr (State.setCls_regs s d c) ..
@[simp] theorem State.setCls_flag (d : Nat) (c : ClsSt) (p' : Page) (f' : Fld) (i' : Nat) : (s.setCls d c).flag p' f' i' = s.flag p' f' i' :=
  State.flag_congr (State.setCls_regs s d c) ..
@[simp] theorem State.setCls_cget (d : Nat) (c : ClsSt) (p' : Page) (f' : Fld) (i' : Nat) : (s.setCls d c).cget p' f' i' = s.cget p' f' i' :=
  State.cget_congr (State.setCls_ctrs s d c) ..
@[simp] theorem State.setCls_clsOf (d : Nat) (c : ClsSt) : (s.setCls d c).clsOf d = c := Sparse.get_set_same ..
theorem State.setCls_clsOf_ne (d : Nat) (c : ClsSt) {k' : Nat} (hk : k' ≠ d) : (s.setCls d c).clsOf k' = s.clsOf k' := Sparse.get_set_other _ _ _ hk

/-! `setCox` -/
@[simp] theorem State.setCox_pending (d : Nat) (c : CoxSt) : (s.setCox d c).pending = s.pending := rfl
@[simp] theorem State.setCox_out (d : Nat) (c : CoxSt) : (s.setCox d c).out = s.out := rfl
@[simp] theorem State.setCox_free (d : Nat) (c : CoxSt) : (s.setCox d c).free = s.free := rfl
@[simp] theorem State.setCox_pins (d : Nat) (c : CoxSt) : (s.setCox d c).pins = s.pins := rfl
@[simp] theorem State.setCox_otp (d : Nat) (c : CoxSt) : (s.setCox d c).otp = s.otp := rfl
@[simp] theorem State.setCox_regs (d : Nat) (c : CoxSt) : (s.setCox d c).regs = s.regs := rfl
@[simp] theorem State.setCox_ctrs (d : Nat) (c : CoxSt) : (s.setCox d c).ctrs = s.ctrs := rfl
@[simp] theorem State.setCox_latch (d : Nat) (c : CoxSt) : (s.setCox d c).latch = s.latch := rfl
@[simp] theorem State.setCox_locks (d : Nat) (c : CoxSt) : (s.setCox d c).locks = s.locks := rfl
@[simp] theorem State.setCox_boot (d : Nat) (c : CoxSt) : (s.setCox d c).boot = s.boot := rfl
@[simp] theorem State.setCox_failed (d : Nat) (c : CoxSt) : (s.setCox d c).failed = s.failed := rfl
@[simp] theorem State.setCox_resetting (d : Nat) (c : CoxSt) : (s.setCox d c).resetting = s.resetting := rfl
@[simp] theorem State.setCox_wearBase (d : Nat) (c : CoxSt) : (s.setCox d c).wearBase = s.wearBase := rfl
@[simp] theorem State.setCox_lanes (d : Nat) (c : CoxSt) : (s.setCox d c).lanes = s.lanes := rfl
@[simp] theorem State.setCox_links (d : Nat) (c : CoxSt) : (s.setCox d c).links = s.links := rfl
@[simp] theorem State.setCox_tabs (d : Nat) (c : CoxSt) : (s.setCox d c).tabs = s.tabs := rfl
@[simp] theorem State.setCox_qdr (d : Nat) (c : CoxSt) : (s.setCox d c).qdr = s.qdr := rfl
@[simp] theorem State.setCox_qdrBusy (d : Nat) (c : CoxSt) : (s.setCox d c).qdrBusy = s.qdrBusy := rfl
@[simp] theorem State.setCox_clss (d : Nat) (c : CoxSt) : (s.setCox d c).clss = s.clss := rfl
@[simp] theorem State.setCox_frames (d : Nat) (c : CoxSt) : (s.setCox d c).frames = s.frames := rfl
@[simp] theorem State.setCox_nextFrame (d : Nat) (c : CoxSt) : (s.setCox d c).nextFrame = s.nextFrame := rfl
@[simp] theorem State.setCox_slices (d : Nat) (c : CoxSt) : (s.setCox d c).slices = s.slices := rfl
@[simp] theorem State.setCox_ports (d : Nat) (c : CoxSt) : (s.setCox d c).ports = s.ports := rfl
@[simp] theorem State.setCox_lrns (d : Nat) (c : CoxSt) : (s.setCox d c).lrns = s.lrns := rfl
@[simp] theorem State.setCox_keels (d : Nat) (c : CoxSt) : (s.setCox d c).keels = s.keels := rfl
@[simp] theorem State.setCox_stalls (d : Nat) (c : CoxSt) : (s.setCox d c).stalls = s.stalls := rfl
@[simp] theorem State.setCox_bufs (d : Nat) (c : CoxSt) : (s.setCox d c).bufs = s.bufs := rfl
@[simp] theorem State.setCox_mcs (d : Nat) (c : CoxSt) : (s.setCox d c).mcs = s.mcs := rfl
@[simp] theorem State.setCox_queues (d : Nat) (c : CoxSt) : (s.setCox d c).queues = s.queues := rfl
@[simp] theorem State.setCox_times (d : Nat) (c : CoxSt) : (s.setCox d c).times = s.times := rfl
@[simp] theorem State.setCox_accts (d : Nat) (c : CoxSt) : (s.setCox d c).accts = s.accts := rfl
@[simp] theorem State.setCox_tels (d : Nat) (c : CoxSt) : (s.setCox d c).tels = s.tels := rfl
@[simp] theorem State.setCox_dumps (d : Nat) (c : CoxSt) : (s.setCox d c).dumps = s.dumps := rfl
@[simp] theorem State.setCox_admits (d : Nat) (c : CoxSt) : (s.setCox d c).admits = s.admits := rfl
@[simp] theorem State.setCox_ciphers (d : Nat) (c : CoxSt) : (s.setCox d c).ciphers = s.ciphers := rfl
@[simp] theorem State.setCox_msecs (d : Nat) (c : CoxSt) : (s.setCox d c).msecs = s.msecs := rfl
@[simp] theorem State.setCox_hosts (d : Nat) (c : CoxSt) : (s.setCox d c).hosts = s.hosts := rfl
@[simp] theorem State.setCox_css (d : Nat) (c : CoxSt) : (s.setCox d c).css = s.css := rfl
@[simp] theorem State.setCox_test (d : Nat) (c : CoxSt) : (s.setCox d c).test = s.test := rfl
@[simp] theorem State.setCox_reg (d : Nat) (c : CoxSt) (p' : Page) (o' : Nat) : (s.setCox d c).reg p' o' = s.reg p' o' :=
  State.reg_congr (State.setCox_regs s d c) ..
@[simp] theorem State.setCox_fget (d : Nat) (c : CoxSt) (p' : Page) (f' : Fld) (i' : Nat) : (s.setCox d c).fget p' f' i' = s.fget p' f' i' :=
  State.fget_congr (State.setCox_regs s d c) ..
@[simp] theorem State.setCox_flag (d : Nat) (c : CoxSt) (p' : Page) (f' : Fld) (i' : Nat) : (s.setCox d c).flag p' f' i' = s.flag p' f' i' :=
  State.flag_congr (State.setCox_regs s d c) ..
@[simp] theorem State.setCox_cget (d : Nat) (c : CoxSt) (p' : Page) (f' : Fld) (i' : Nat) : (s.setCox d c).cget p' f' i' = s.cget p' f' i' :=
  State.cget_congr (State.setCox_ctrs s d c) ..
@[simp] theorem State.setCox_coxOf (d : Nat) (c : CoxSt) : (s.setCox d c).coxOf d = c := Sparse.get_set_same ..
theorem State.setCox_coxOf_ne (d : Nat) (c : CoxSt) {k' : Nat} (hk : k' ≠ d) : (s.setCox d c).coxOf k' = s.coxOf k' := Sparse.get_set_other _ _ _ hk

/-! `setCs` -/
@[simp] theorem State.setCs_pending (sl : Nat) (c : CsSt) : (s.setCs sl c).pending = s.pending := rfl
@[simp] theorem State.setCs_out (sl : Nat) (c : CsSt) : (s.setCs sl c).out = s.out := rfl
@[simp] theorem State.setCs_free (sl : Nat) (c : CsSt) : (s.setCs sl c).free = s.free := rfl
@[simp] theorem State.setCs_pins (sl : Nat) (c : CsSt) : (s.setCs sl c).pins = s.pins := rfl
@[simp] theorem State.setCs_otp (sl : Nat) (c : CsSt) : (s.setCs sl c).otp = s.otp := rfl
@[simp] theorem State.setCs_regs (sl : Nat) (c : CsSt) : (s.setCs sl c).regs = s.regs := rfl
@[simp] theorem State.setCs_ctrs (sl : Nat) (c : CsSt) : (s.setCs sl c).ctrs = s.ctrs := rfl
@[simp] theorem State.setCs_latch (sl : Nat) (c : CsSt) : (s.setCs sl c).latch = s.latch := rfl
@[simp] theorem State.setCs_locks (sl : Nat) (c : CsSt) : (s.setCs sl c).locks = s.locks := rfl
@[simp] theorem State.setCs_boot (sl : Nat) (c : CsSt) : (s.setCs sl c).boot = s.boot := rfl
@[simp] theorem State.setCs_failed (sl : Nat) (c : CsSt) : (s.setCs sl c).failed = s.failed := rfl
@[simp] theorem State.setCs_resetting (sl : Nat) (c : CsSt) : (s.setCs sl c).resetting = s.resetting := rfl
@[simp] theorem State.setCs_wearBase (sl : Nat) (c : CsSt) : (s.setCs sl c).wearBase = s.wearBase := rfl
@[simp] theorem State.setCs_lanes (sl : Nat) (c : CsSt) : (s.setCs sl c).lanes = s.lanes := rfl
@[simp] theorem State.setCs_links (sl : Nat) (c : CsSt) : (s.setCs sl c).links = s.links := rfl
@[simp] theorem State.setCs_tabs (sl : Nat) (c : CsSt) : (s.setCs sl c).tabs = s.tabs := rfl
@[simp] theorem State.setCs_qdr (sl : Nat) (c : CsSt) : (s.setCs sl c).qdr = s.qdr := rfl
@[simp] theorem State.setCs_qdrBusy (sl : Nat) (c : CsSt) : (s.setCs sl c).qdrBusy = s.qdrBusy := rfl
@[simp] theorem State.setCs_clss (sl : Nat) (c : CsSt) : (s.setCs sl c).clss = s.clss := rfl
@[simp] theorem State.setCs_frames (sl : Nat) (c : CsSt) : (s.setCs sl c).frames = s.frames := rfl
@[simp] theorem State.setCs_nextFrame (sl : Nat) (c : CsSt) : (s.setCs sl c).nextFrame = s.nextFrame := rfl
@[simp] theorem State.setCs_slices (sl : Nat) (c : CsSt) : (s.setCs sl c).slices = s.slices := rfl
@[simp] theorem State.setCs_ports (sl : Nat) (c : CsSt) : (s.setCs sl c).ports = s.ports := rfl
@[simp] theorem State.setCs_lrns (sl : Nat) (c : CsSt) : (s.setCs sl c).lrns = s.lrns := rfl
@[simp] theorem State.setCs_keels (sl : Nat) (c : CsSt) : (s.setCs sl c).keels = s.keels := rfl
@[simp] theorem State.setCs_stalls (sl : Nat) (c : CsSt) : (s.setCs sl c).stalls = s.stalls := rfl
@[simp] theorem State.setCs_bufs (sl : Nat) (c : CsSt) : (s.setCs sl c).bufs = s.bufs := rfl
@[simp] theorem State.setCs_mcs (sl : Nat) (c : CsSt) : (s.setCs sl c).mcs = s.mcs := rfl
@[simp] theorem State.setCs_queues (sl : Nat) (c : CsSt) : (s.setCs sl c).queues = s.queues := rfl
@[simp] theorem State.setCs_times (sl : Nat) (c : CsSt) : (s.setCs sl c).times = s.times := rfl
@[simp] theorem State.setCs_accts (sl : Nat) (c : CsSt) : (s.setCs sl c).accts = s.accts := rfl
@[simp] theorem State.setCs_tels (sl : Nat) (c : CsSt) : (s.setCs sl c).tels = s.tels := rfl
@[simp] theorem State.setCs_dumps (sl : Nat) (c : CsSt) : (s.setCs sl c).dumps = s.dumps := rfl
@[simp] theorem State.setCs_admits (sl : Nat) (c : CsSt) : (s.setCs sl c).admits = s.admits := rfl
@[simp] theorem State.setCs_ciphers (sl : Nat) (c : CsSt) : (s.setCs sl c).ciphers = s.ciphers := rfl
@[simp] theorem State.setCs_msecs (sl : Nat) (c : CsSt) : (s.setCs sl c).msecs = s.msecs := rfl
@[simp] theorem State.setCs_hosts (sl : Nat) (c : CsSt) : (s.setCs sl c).hosts = s.hosts := rfl
@[simp] theorem State.setCs_coxs (sl : Nat) (c : CsSt) : (s.setCs sl c).coxs = s.coxs := rfl
@[simp] theorem State.setCs_test (sl : Nat) (c : CsSt) : (s.setCs sl c).test = s.test := rfl
@[simp] theorem State.setCs_reg (sl : Nat) (c : CsSt) (p' : Page) (o' : Nat) : (s.setCs sl c).reg p' o' = s.reg p' o' :=
  State.reg_congr (State.setCs_regs s sl c) ..
@[simp] theorem State.setCs_fget (sl : Nat) (c : CsSt) (p' : Page) (f' : Fld) (i' : Nat) : (s.setCs sl c).fget p' f' i' = s.fget p' f' i' :=
  State.fget_congr (State.setCs_regs s sl c) ..
@[simp] theorem State.setCs_flag (sl : Nat) (c : CsSt) (p' : Page) (f' : Fld) (i' : Nat) : (s.setCs sl c).flag p' f' i' = s.flag p' f' i' :=
  State.flag_congr (State.setCs_regs s sl c) ..
@[simp] theorem State.setCs_cget (sl : Nat) (c : CsSt) (p' : Page) (f' : Fld) (i' : Nat) : (s.setCs sl c).cget p' f' i' = s.cget p' f' i' :=
  State.cget_congr (State.setCs_ctrs s sl c) ..
@[simp] theorem State.setCs_csOf (sl : Nat) (c : CsSt) : (s.setCs sl c).csOf sl = c := Sparse.get_set_same ..
theorem State.setCs_csOf_ne (sl : Nat) (c : CsSt) {k' : Nat} (hk : k' ≠ sl) : (s.setCs sl c).csOf k' = s.csOf k' := Sparse.get_set_other _ _ _ hk

/-! `setDump` -/
@[simp] theorem State.setDump_pending (d : Nat) (x : DumpSt) : (s.setDump d x).pending = s.pending := rfl
@[simp] theorem State.setDump_out (d : Nat) (x : DumpSt) : (s.setDump d x).out = s.out := rfl
@[simp] theorem State.setDump_free (d : Nat) (x : DumpSt) : (s.setDump d x).free = s.free := rfl
@[simp] theorem State.setDump_pins (d : Nat) (x : DumpSt) : (s.setDump d x).pins = s.pins := rfl
@[simp] theorem State.setDump_otp (d : Nat) (x : DumpSt) : (s.setDump d x).otp = s.otp := rfl
@[simp] theorem State.setDump_regs (d : Nat) (x : DumpSt) : (s.setDump d x).regs = s.regs := rfl
@[simp] theorem State.setDump_ctrs (d : Nat) (x : DumpSt) : (s.setDump d x).ctrs = s.ctrs := rfl
@[simp] theorem State.setDump_latch (d : Nat) (x : DumpSt) : (s.setDump d x).latch = s.latch := rfl
@[simp] theorem State.setDump_locks (d : Nat) (x : DumpSt) : (s.setDump d x).locks = s.locks := rfl
@[simp] theorem State.setDump_boot (d : Nat) (x : DumpSt) : (s.setDump d x).boot = s.boot := rfl
@[simp] theorem State.setDump_failed (d : Nat) (x : DumpSt) : (s.setDump d x).failed = s.failed := rfl
@[simp] theorem State.setDump_resetting (d : Nat) (x : DumpSt) : (s.setDump d x).resetting = s.resetting := rfl
@[simp] theorem State.setDump_wearBase (d : Nat) (x : DumpSt) : (s.setDump d x).wearBase = s.wearBase := rfl
@[simp] theorem State.setDump_lanes (d : Nat) (x : DumpSt) : (s.setDump d x).lanes = s.lanes := rfl
@[simp] theorem State.setDump_links (d : Nat) (x : DumpSt) : (s.setDump d x).links = s.links := rfl
@[simp] theorem State.setDump_tabs (d : Nat) (x : DumpSt) : (s.setDump d x).tabs = s.tabs := rfl
@[simp] theorem State.setDump_qdr (d : Nat) (x : DumpSt) : (s.setDump d x).qdr = s.qdr := rfl
@[simp] theorem State.setDump_qdrBusy (d : Nat) (x : DumpSt) : (s.setDump d x).qdrBusy = s.qdrBusy := rfl
@[simp] theorem State.setDump_clss (d : Nat) (x : DumpSt) : (s.setDump d x).clss = s.clss := rfl
@[simp] theorem State.setDump_frames (d : Nat) (x : DumpSt) : (s.setDump d x).frames = s.frames := rfl
@[simp] theorem State.setDump_nextFrame (d : Nat) (x : DumpSt) : (s.setDump d x).nextFrame = s.nextFrame := rfl
@[simp] theorem State.setDump_slices (d : Nat) (x : DumpSt) : (s.setDump d x).slices = s.slices := rfl
@[simp] theorem State.setDump_ports (d : Nat) (x : DumpSt) : (s.setDump d x).ports = s.ports := rfl
@[simp] theorem State.setDump_lrns (d : Nat) (x : DumpSt) : (s.setDump d x).lrns = s.lrns := rfl
@[simp] theorem State.setDump_keels (d : Nat) (x : DumpSt) : (s.setDump d x).keels = s.keels := rfl
@[simp] theorem State.setDump_stalls (d : Nat) (x : DumpSt) : (s.setDump d x).stalls = s.stalls := rfl
@[simp] theorem State.setDump_bufs (d : Nat) (x : DumpSt) : (s.setDump d x).bufs = s.bufs := rfl
@[simp] theorem State.setDump_mcs (d : Nat) (x : DumpSt) : (s.setDump d x).mcs = s.mcs := rfl
@[simp] theorem State.setDump_queues (d : Nat) (x : DumpSt) : (s.setDump d x).queues = s.queues := rfl
@[simp] theorem State.setDump_times (d : Nat) (x : DumpSt) : (s.setDump d x).times = s.times := rfl
@[simp] theorem State.setDump_accts (d : Nat) (x : DumpSt) : (s.setDump d x).accts = s.accts := rfl
@[simp] theorem State.setDump_tels (d : Nat) (x : DumpSt) : (s.setDump d x).tels = s.tels := rfl
@[simp] theorem State.setDump_admits (d : Nat) (x : DumpSt) : (s.setDump d x).admits = s.admits := rfl
@[simp] theorem State.setDump_ciphers (d : Nat) (x : DumpSt) : (s.setDump d x).ciphers = s.ciphers := rfl
@[simp] theorem State.setDump_msecs (d : Nat) (x : DumpSt) : (s.setDump d x).msecs = s.msecs := rfl
@[simp] theorem State.setDump_hosts (d : Nat) (x : DumpSt) : (s.setDump d x).hosts = s.hosts := rfl
@[simp] theorem State.setDump_coxs (d : Nat) (x : DumpSt) : (s.setDump d x).coxs = s.coxs := rfl
@[simp] theorem State.setDump_css (d : Nat) (x : DumpSt) : (s.setDump d x).css = s.css := rfl
@[simp] theorem State.setDump_test (d : Nat) (x : DumpSt) : (s.setDump d x).test = s.test := rfl
@[simp] theorem State.setDump_reg (d : Nat) (x : DumpSt) (p' : Page) (o' : Nat) : (s.setDump d x).reg p' o' = s.reg p' o' :=
  State.reg_congr (State.setDump_regs s d x) ..
@[simp] theorem State.setDump_fget (d : Nat) (x : DumpSt) (p' : Page) (f' : Fld) (i' : Nat) : (s.setDump d x).fget p' f' i' = s.fget p' f' i' :=
  State.fget_congr (State.setDump_regs s d x) ..
@[simp] theorem State.setDump_flag (d : Nat) (x : DumpSt) (p' : Page) (f' : Fld) (i' : Nat) : (s.setDump d x).flag p' f' i' = s.flag p' f' i' :=
  State.flag_congr (State.setDump_regs s d x) ..
@[simp] theorem State.setDump_cget (d : Nat) (x : DumpSt) (p' : Page) (f' : Fld) (i' : Nat) : (s.setDump d x).cget p' f' i' = s.cget p' f' i' :=
  State.cget_congr (State.setDump_ctrs s d x) ..
@[simp] theorem State.setDump_dumpOf (d : Nat) (x : DumpSt) : (s.setDump d x).dumpOf d = x := Sparse.get_set_same ..
theorem State.setDump_dumpOf_ne (d : Nat) (x : DumpSt) {k' : Nat} (hk : k' ≠ d) : (s.setDump d x).dumpOf k' = s.dumpOf k' := Sparse.get_set_other _ _ _ hk

/-! `setFrm` -/
@[simp] theorem State.setFrm_pending (uid : Nat) (f : Frm) : (s.setFrm uid f).pending = s.pending := rfl
@[simp] theorem State.setFrm_out (uid : Nat) (f : Frm) : (s.setFrm uid f).out = s.out := rfl
@[simp] theorem State.setFrm_free (uid : Nat) (f : Frm) : (s.setFrm uid f).free = s.free := rfl
@[simp] theorem State.setFrm_pins (uid : Nat) (f : Frm) : (s.setFrm uid f).pins = s.pins := rfl
@[simp] theorem State.setFrm_otp (uid : Nat) (f : Frm) : (s.setFrm uid f).otp = s.otp := rfl
@[simp] theorem State.setFrm_regs (uid : Nat) (f : Frm) : (s.setFrm uid f).regs = s.regs := rfl
@[simp] theorem State.setFrm_ctrs (uid : Nat) (f : Frm) : (s.setFrm uid f).ctrs = s.ctrs := rfl
@[simp] theorem State.setFrm_latch (uid : Nat) (f : Frm) : (s.setFrm uid f).latch = s.latch := rfl
@[simp] theorem State.setFrm_locks (uid : Nat) (f : Frm) : (s.setFrm uid f).locks = s.locks := rfl
@[simp] theorem State.setFrm_boot (uid : Nat) (f : Frm) : (s.setFrm uid f).boot = s.boot := rfl
@[simp] theorem State.setFrm_failed (uid : Nat) (f : Frm) : (s.setFrm uid f).failed = s.failed := rfl
@[simp] theorem State.setFrm_resetting (uid : Nat) (f : Frm) : (s.setFrm uid f).resetting = s.resetting := rfl
@[simp] theorem State.setFrm_wearBase (uid : Nat) (f : Frm) : (s.setFrm uid f).wearBase = s.wearBase := rfl
@[simp] theorem State.setFrm_lanes (uid : Nat) (f : Frm) : (s.setFrm uid f).lanes = s.lanes := rfl
@[simp] theorem State.setFrm_links (uid : Nat) (f : Frm) : (s.setFrm uid f).links = s.links := rfl
@[simp] theorem State.setFrm_tabs (uid : Nat) (f : Frm) : (s.setFrm uid f).tabs = s.tabs := rfl
@[simp] theorem State.setFrm_qdr (uid : Nat) (f : Frm) : (s.setFrm uid f).qdr = s.qdr := rfl
@[simp] theorem State.setFrm_qdrBusy (uid : Nat) (f : Frm) : (s.setFrm uid f).qdrBusy = s.qdrBusy := rfl
@[simp] theorem State.setFrm_clss (uid : Nat) (f : Frm) : (s.setFrm uid f).clss = s.clss := rfl
@[simp] theorem State.setFrm_nextFrame (uid : Nat) (f : Frm) : (s.setFrm uid f).nextFrame = s.nextFrame := rfl
@[simp] theorem State.setFrm_slices (uid : Nat) (f : Frm) : (s.setFrm uid f).slices = s.slices := rfl
@[simp] theorem State.setFrm_ports (uid : Nat) (f : Frm) : (s.setFrm uid f).ports = s.ports := rfl
@[simp] theorem State.setFrm_lrns (uid : Nat) (f : Frm) : (s.setFrm uid f).lrns = s.lrns := rfl
@[simp] theorem State.setFrm_keels (uid : Nat) (f : Frm) : (s.setFrm uid f).keels = s.keels := rfl
@[simp] theorem State.setFrm_stalls (uid : Nat) (f : Frm) : (s.setFrm uid f).stalls = s.stalls := rfl
@[simp] theorem State.setFrm_bufs (uid : Nat) (f : Frm) : (s.setFrm uid f).bufs = s.bufs := rfl
@[simp] theorem State.setFrm_mcs (uid : Nat) (f : Frm) : (s.setFrm uid f).mcs = s.mcs := rfl
@[simp] theorem State.setFrm_queues (uid : Nat) (f : Frm) : (s.setFrm uid f).queues = s.queues := rfl
@[simp] theorem State.setFrm_times (uid : Nat) (f : Frm) : (s.setFrm uid f).times = s.times := rfl
@[simp] theorem State.setFrm_accts (uid : Nat) (f : Frm) : (s.setFrm uid f).accts = s.accts := rfl
@[simp] theorem State.setFrm_tels (uid : Nat) (f : Frm) : (s.setFrm uid f).tels = s.tels := rfl
@[simp] theorem State.setFrm_dumps (uid : Nat) (f : Frm) : (s.setFrm uid f).dumps = s.dumps := rfl
@[simp] theorem State.setFrm_admits (uid : Nat) (f : Frm) : (s.setFrm uid f).admits = s.admits := rfl
@[simp] theorem State.setFrm_ciphers (uid : Nat) (f : Frm) : (s.setFrm uid f).ciphers = s.ciphers := rfl
@[simp] theorem State.setFrm_msecs (uid : Nat) (f : Frm) : (s.setFrm uid f).msecs = s.msecs := rfl
@[simp] theorem State.setFrm_hosts (uid : Nat) (f : Frm) : (s.setFrm uid f).hosts = s.hosts := rfl
@[simp] theorem State.setFrm_coxs (uid : Nat) (f : Frm) : (s.setFrm uid f).coxs = s.coxs := rfl
@[simp] theorem State.setFrm_css (uid : Nat) (f : Frm) : (s.setFrm uid f).css = s.css := rfl
@[simp] theorem State.setFrm_test (uid : Nat) (f : Frm) : (s.setFrm uid f).test = s.test := rfl
@[simp] theorem State.setFrm_reg (uid : Nat) (f : Frm) (p' : Page) (o' : Nat) : (s.setFrm uid f).reg p' o' = s.reg p' o' :=
  State.reg_congr (State.setFrm_regs s uid f) ..
@[simp] theorem State.setFrm_fget (uid : Nat) (f : Frm) (p' : Page) (f' : Fld) (i' : Nat) : (s.setFrm uid f).fget p' f' i' = s.fget p' f' i' :=
  State.fget_congr (State.setFrm_regs s uid f) ..
@[simp] theorem State.setFrm_flag (uid : Nat) (f : Frm) (p' : Page) (f' : Fld) (i' : Nat) : (s.setFrm uid f).flag p' f' i' = s.flag p' f' i' :=
  State.flag_congr (State.setFrm_regs s uid f) ..
@[simp] theorem State.setFrm_cget (uid : Nat) (f : Frm) (p' : Page) (f' : Fld) (i' : Nat) : (s.setFrm uid f).cget p' f' i' = s.cget p' f' i' :=
  State.cget_congr (State.setFrm_ctrs s uid f) ..

/-! `setHost` -/
@[simp] theorem State.setHost_pending (d : Nat) (h : HostSt) : (s.setHost d h).pending = s.pending := rfl
@[simp] theorem State.setHost_out (d : Nat) (h : HostSt) : (s.setHost d h).out = s.out := rfl
@[simp] theorem State.setHost_free (d : Nat) (h : HostSt) : (s.setHost d h).free = s.free := rfl
@[simp] theorem State.setHost_pins (d : Nat) (h : HostSt) : (s.setHost d h).pins = s.pins := rfl
@[simp] theorem State.setHost_otp (d : Nat) (h : HostSt) : (s.setHost d h).otp = s.otp := rfl
@[simp] theorem State.setHost_regs (d : Nat) (h : HostSt) : (s.setHost d h).regs = s.regs := rfl
@[simp] theorem State.setHost_ctrs (d : Nat) (h : HostSt) : (s.setHost d h).ctrs = s.ctrs := rfl
@[simp] theorem State.setHost_latch (d : Nat) (h : HostSt) : (s.setHost d h).latch = s.latch := rfl
@[simp] theorem State.setHost_locks (d : Nat) (h : HostSt) : (s.setHost d h).locks = s.locks := rfl
@[simp] theorem State.setHost_boot (d : Nat) (h : HostSt) : (s.setHost d h).boot = s.boot := rfl
@[simp] theorem State.setHost_failed (d : Nat) (h : HostSt) : (s.setHost d h).failed = s.failed := rfl
@[simp] theorem State.setHost_resetting (d : Nat) (h : HostSt) : (s.setHost d h).resetting = s.resetting := rfl
@[simp] theorem State.setHost_wearBase (d : Nat) (h : HostSt) : (s.setHost d h).wearBase = s.wearBase := rfl
@[simp] theorem State.setHost_lanes (d : Nat) (h : HostSt) : (s.setHost d h).lanes = s.lanes := rfl
@[simp] theorem State.setHost_links (d : Nat) (h : HostSt) : (s.setHost d h).links = s.links := rfl
@[simp] theorem State.setHost_tabs (d : Nat) (h : HostSt) : (s.setHost d h).tabs = s.tabs := rfl
@[simp] theorem State.setHost_qdr (d : Nat) (h : HostSt) : (s.setHost d h).qdr = s.qdr := rfl
@[simp] theorem State.setHost_qdrBusy (d : Nat) (h : HostSt) : (s.setHost d h).qdrBusy = s.qdrBusy := rfl
@[simp] theorem State.setHost_clss (d : Nat) (h : HostSt) : (s.setHost d h).clss = s.clss := rfl
@[simp] theorem State.setHost_frames (d : Nat) (h : HostSt) : (s.setHost d h).frames = s.frames := rfl
@[simp] theorem State.setHost_nextFrame (d : Nat) (h : HostSt) : (s.setHost d h).nextFrame = s.nextFrame := rfl
@[simp] theorem State.setHost_slices (d : Nat) (h : HostSt) : (s.setHost d h).slices = s.slices := rfl
@[simp] theorem State.setHost_ports (d : Nat) (h : HostSt) : (s.setHost d h).ports = s.ports := rfl
@[simp] theorem State.setHost_lrns (d : Nat) (h : HostSt) : (s.setHost d h).lrns = s.lrns := rfl
@[simp] theorem State.setHost_keels (d : Nat) (h : HostSt) : (s.setHost d h).keels = s.keels := rfl
@[simp] theorem State.setHost_stalls (d : Nat) (h : HostSt) : (s.setHost d h).stalls = s.stalls := rfl
@[simp] theorem State.setHost_bufs (d : Nat) (h : HostSt) : (s.setHost d h).bufs = s.bufs := rfl
@[simp] theorem State.setHost_mcs (d : Nat) (h : HostSt) : (s.setHost d h).mcs = s.mcs := rfl
@[simp] theorem State.setHost_queues (d : Nat) (h : HostSt) : (s.setHost d h).queues = s.queues := rfl
@[simp] theorem State.setHost_times (d : Nat) (h : HostSt) : (s.setHost d h).times = s.times := rfl
@[simp] theorem State.setHost_accts (d : Nat) (h : HostSt) : (s.setHost d h).accts = s.accts := rfl
@[simp] theorem State.setHost_tels (d : Nat) (h : HostSt) : (s.setHost d h).tels = s.tels := rfl
@[simp] theorem State.setHost_dumps (d : Nat) (h : HostSt) : (s.setHost d h).dumps = s.dumps := rfl
@[simp] theorem State.setHost_admits (d : Nat) (h : HostSt) : (s.setHost d h).admits = s.admits := rfl
@[simp] theorem State.setHost_ciphers (d : Nat) (h : HostSt) : (s.setHost d h).ciphers = s.ciphers := rfl
@[simp] theorem State.setHost_msecs (d : Nat) (h : HostSt) : (s.setHost d h).msecs = s.msecs := rfl
@[simp] theorem State.setHost_coxs (d : Nat) (h : HostSt) : (s.setHost d h).coxs = s.coxs := rfl
@[simp] theorem State.setHost_css (d : Nat) (h : HostSt) : (s.setHost d h).css = s.css := rfl
@[simp] theorem State.setHost_test (d : Nat) (h : HostSt) : (s.setHost d h).test = s.test := rfl
@[simp] theorem State.setHost_reg (d : Nat) (h : HostSt) (p' : Page) (o' : Nat) : (s.setHost d h).reg p' o' = s.reg p' o' :=
  State.reg_congr (State.setHost_regs s d h) ..
@[simp] theorem State.setHost_fget (d : Nat) (h : HostSt) (p' : Page) (f' : Fld) (i' : Nat) : (s.setHost d h).fget p' f' i' = s.fget p' f' i' :=
  State.fget_congr (State.setHost_regs s d h) ..
@[simp] theorem State.setHost_flag (d : Nat) (h : HostSt) (p' : Page) (f' : Fld) (i' : Nat) : (s.setHost d h).flag p' f' i' = s.flag p' f' i' :=
  State.flag_congr (State.setHost_regs s d h) ..
@[simp] theorem State.setHost_cget (d : Nat) (h : HostSt) (p' : Page) (f' : Fld) (i' : Nat) : (s.setHost d h).cget p' f' i' = s.cget p' f' i' :=
  State.cget_congr (State.setHost_ctrs s d h) ..
@[simp] theorem State.setHost_hostOf (d : Nat) (h : HostSt) : (s.setHost d h).hostOf d = h := Sparse.get_set_same ..
theorem State.setHost_hostOf_ne (d : Nat) (h : HostSt) {k' : Nat} (hk : k' ≠ d) : (s.setHost d h).hostOf k' = s.hostOf k' := Sparse.get_set_other _ _ _ hk

/-! `setKeel` -/
@[simp] theorem State.setKeel_pending (d : Nat) (x : KeelSt) : (s.setKeel d x).pending = s.pending := rfl
@[simp] theorem State.setKeel_out (d : Nat) (x : KeelSt) : (s.setKeel d x).out = s.out := rfl
@[simp] theorem State.setKeel_free (d : Nat) (x : KeelSt) : (s.setKeel d x).free = s.free := rfl
@[simp] theorem State.setKeel_pins (d : Nat) (x : KeelSt) : (s.setKeel d x).pins = s.pins := rfl
@[simp] theorem State.setKeel_otp (d : Nat) (x : KeelSt) : (s.setKeel d x).otp = s.otp := rfl
@[simp] theorem State.setKeel_regs (d : Nat) (x : KeelSt) : (s.setKeel d x).regs = s.regs := rfl
@[simp] theorem State.setKeel_ctrs (d : Nat) (x : KeelSt) : (s.setKeel d x).ctrs = s.ctrs := rfl
@[simp] theorem State.setKeel_latch (d : Nat) (x : KeelSt) : (s.setKeel d x).latch = s.latch := rfl
@[simp] theorem State.setKeel_locks (d : Nat) (x : KeelSt) : (s.setKeel d x).locks = s.locks := rfl
@[simp] theorem State.setKeel_boot (d : Nat) (x : KeelSt) : (s.setKeel d x).boot = s.boot := rfl
@[simp] theorem State.setKeel_failed (d : Nat) (x : KeelSt) : (s.setKeel d x).failed = s.failed := rfl
@[simp] theorem State.setKeel_resetting (d : Nat) (x : KeelSt) : (s.setKeel d x).resetting = s.resetting := rfl
@[simp] theorem State.setKeel_wearBase (d : Nat) (x : KeelSt) : (s.setKeel d x).wearBase = s.wearBase := rfl
@[simp] theorem State.setKeel_lanes (d : Nat) (x : KeelSt) : (s.setKeel d x).lanes = s.lanes := rfl
@[simp] theorem State.setKeel_links (d : Nat) (x : KeelSt) : (s.setKeel d x).links = s.links := rfl
@[simp] theorem State.setKeel_tabs (d : Nat) (x : KeelSt) : (s.setKeel d x).tabs = s.tabs := rfl
@[simp] theorem State.setKeel_qdr (d : Nat) (x : KeelSt) : (s.setKeel d x).qdr = s.qdr := rfl
@[simp] theorem State.setKeel_qdrBusy (d : Nat) (x : KeelSt) : (s.setKeel d x).qdrBusy = s.qdrBusy := rfl
@[simp] theorem State.setKeel_clss (d : Nat) (x : KeelSt) : (s.setKeel d x).clss = s.clss := rfl
@[simp] theorem State.setKeel_frames (d : Nat) (x : KeelSt) : (s.setKeel d x).frames = s.frames := rfl
@[simp] theorem State.setKeel_nextFrame (d : Nat) (x : KeelSt) : (s.setKeel d x).nextFrame = s.nextFrame := rfl
@[simp] theorem State.setKeel_slices (d : Nat) (x : KeelSt) : (s.setKeel d x).slices = s.slices := rfl
@[simp] theorem State.setKeel_ports (d : Nat) (x : KeelSt) : (s.setKeel d x).ports = s.ports := rfl
@[simp] theorem State.setKeel_lrns (d : Nat) (x : KeelSt) : (s.setKeel d x).lrns = s.lrns := rfl
@[simp] theorem State.setKeel_stalls (d : Nat) (x : KeelSt) : (s.setKeel d x).stalls = s.stalls := rfl
@[simp] theorem State.setKeel_bufs (d : Nat) (x : KeelSt) : (s.setKeel d x).bufs = s.bufs := rfl
@[simp] theorem State.setKeel_mcs (d : Nat) (x : KeelSt) : (s.setKeel d x).mcs = s.mcs := rfl
@[simp] theorem State.setKeel_queues (d : Nat) (x : KeelSt) : (s.setKeel d x).queues = s.queues := rfl
@[simp] theorem State.setKeel_times (d : Nat) (x : KeelSt) : (s.setKeel d x).times = s.times := rfl
@[simp] theorem State.setKeel_accts (d : Nat) (x : KeelSt) : (s.setKeel d x).accts = s.accts := rfl
@[simp] theorem State.setKeel_tels (d : Nat) (x : KeelSt) : (s.setKeel d x).tels = s.tels := rfl
@[simp] theorem State.setKeel_dumps (d : Nat) (x : KeelSt) : (s.setKeel d x).dumps = s.dumps := rfl
@[simp] theorem State.setKeel_admits (d : Nat) (x : KeelSt) : (s.setKeel d x).admits = s.admits := rfl
@[simp] theorem State.setKeel_ciphers (d : Nat) (x : KeelSt) : (s.setKeel d x).ciphers = s.ciphers := rfl
@[simp] theorem State.setKeel_msecs (d : Nat) (x : KeelSt) : (s.setKeel d x).msecs = s.msecs := rfl
@[simp] theorem State.setKeel_hosts (d : Nat) (x : KeelSt) : (s.setKeel d x).hosts = s.hosts := rfl
@[simp] theorem State.setKeel_coxs (d : Nat) (x : KeelSt) : (s.setKeel d x).coxs = s.coxs := rfl
@[simp] theorem State.setKeel_css (d : Nat) (x : KeelSt) : (s.setKeel d x).css = s.css := rfl
@[simp] theorem State.setKeel_test (d : Nat) (x : KeelSt) : (s.setKeel d x).test = s.test := rfl
@[simp] theorem State.setKeel_reg (d : Nat) (x : KeelSt) (p' : Page) (o' : Nat) : (s.setKeel d x).reg p' o' = s.reg p' o' :=
  State.reg_congr (State.setKeel_regs s d x) ..
@[simp] theorem State.setKeel_fget (d : Nat) (x : KeelSt) (p' : Page) (f' : Fld) (i' : Nat) : (s.setKeel d x).fget p' f' i' = s.fget p' f' i' :=
  State.fget_congr (State.setKeel_regs s d x) ..
@[simp] theorem State.setKeel_flag (d : Nat) (x : KeelSt) (p' : Page) (f' : Fld) (i' : Nat) : (s.setKeel d x).flag p' f' i' = s.flag p' f' i' :=
  State.flag_congr (State.setKeel_regs s d x) ..
@[simp] theorem State.setKeel_cget (d : Nat) (x : KeelSt) (p' : Page) (f' : Fld) (i' : Nat) : (s.setKeel d x).cget p' f' i' = s.cget p' f' i' :=
  State.cget_congr (State.setKeel_ctrs s d x) ..
@[simp] theorem State.setKeel_keelOf (d : Nat) (x : KeelSt) : (s.setKeel d x).keelOf d = x := Sparse.get_set_same ..
theorem State.setKeel_keelOf_ne (d : Nat) (x : KeelSt) {k' : Nat} (hk : k' ≠ d) : (s.setKeel d x).keelOf k' = s.keelOf k' := Sparse.get_set_other _ _ _ hk

/-! `setLink` -/
@[simp] theorem State.setLink_pending (p : Nat) (l : LinkSt) : (s.setLink p l).pending = s.pending := rfl
@[simp] theorem State.setLink_out (p : Nat) (l : LinkSt) : (s.setLink p l).out = s.out := rfl
@[simp] theorem State.setLink_free (p : Nat) (l : LinkSt) : (s.setLink p l).free = s.free := rfl
@[simp] theorem State.setLink_pins (p : Nat) (l : LinkSt) : (s.setLink p l).pins = s.pins := rfl
@[simp] theorem State.setLink_otp (p : Nat) (l : LinkSt) : (s.setLink p l).otp = s.otp := rfl
@[simp] theorem State.setLink_regs (p : Nat) (l : LinkSt) : (s.setLink p l).regs = s.regs := rfl
@[simp] theorem State.setLink_ctrs (p : Nat) (l : LinkSt) : (s.setLink p l).ctrs = s.ctrs := rfl
@[simp] theorem State.setLink_latch (p : Nat) (l : LinkSt) : (s.setLink p l).latch = s.latch := rfl
@[simp] theorem State.setLink_locks (p : Nat) (l : LinkSt) : (s.setLink p l).locks = s.locks := rfl
@[simp] theorem State.setLink_boot (p : Nat) (l : LinkSt) : (s.setLink p l).boot = s.boot := rfl
@[simp] theorem State.setLink_failed (p : Nat) (l : LinkSt) : (s.setLink p l).failed = s.failed := rfl
@[simp] theorem State.setLink_resetting (p : Nat) (l : LinkSt) : (s.setLink p l).resetting = s.resetting := rfl
@[simp] theorem State.setLink_wearBase (p : Nat) (l : LinkSt) : (s.setLink p l).wearBase = s.wearBase := rfl
@[simp] theorem State.setLink_lanes (p : Nat) (l : LinkSt) : (s.setLink p l).lanes = s.lanes := rfl
@[simp] theorem State.setLink_tabs (p : Nat) (l : LinkSt) : (s.setLink p l).tabs = s.tabs := rfl
@[simp] theorem State.setLink_qdr (p : Nat) (l : LinkSt) : (s.setLink p l).qdr = s.qdr := rfl
@[simp] theorem State.setLink_qdrBusy (p : Nat) (l : LinkSt) : (s.setLink p l).qdrBusy = s.qdrBusy := rfl
@[simp] theorem State.setLink_clss (p : Nat) (l : LinkSt) : (s.setLink p l).clss = s.clss := rfl
@[simp] theorem State.setLink_frames (p : Nat) (l : LinkSt) : (s.setLink p l).frames = s.frames := rfl
@[simp] theorem State.setLink_nextFrame (p : Nat) (l : LinkSt) : (s.setLink p l).nextFrame = s.nextFrame := rfl
@[simp] theorem State.setLink_slices (p : Nat) (l : LinkSt) : (s.setLink p l).slices = s.slices := rfl
@[simp] theorem State.setLink_ports (p : Nat) (l : LinkSt) : (s.setLink p l).ports = s.ports := rfl
@[simp] theorem State.setLink_lrns (p : Nat) (l : LinkSt) : (s.setLink p l).lrns = s.lrns := rfl
@[simp] theorem State.setLink_keels (p : Nat) (l : LinkSt) : (s.setLink p l).keels = s.keels := rfl
@[simp] theorem State.setLink_stalls (p : Nat) (l : LinkSt) : (s.setLink p l).stalls = s.stalls := rfl
@[simp] theorem State.setLink_bufs (p : Nat) (l : LinkSt) : (s.setLink p l).bufs = s.bufs := rfl
@[simp] theorem State.setLink_mcs (p : Nat) (l : LinkSt) : (s.setLink p l).mcs = s.mcs := rfl
@[simp] theorem State.setLink_queues (p : Nat) (l : LinkSt) : (s.setLink p l).queues = s.queues := rfl
@[simp] theorem State.setLink_times (p : Nat) (l : LinkSt) : (s.setLink p l).times = s.times := rfl
@[simp] theorem State.setLink_accts (p : Nat) (l : LinkSt) : (s.setLink p l).accts = s.accts := rfl
@[simp] theorem State.setLink_tels (p : Nat) (l : LinkSt) : (s.setLink p l).tels = s.tels := rfl
@[simp] theorem State.setLink_dumps (p : Nat) (l : LinkSt) : (s.setLink p l).dumps = s.dumps := rfl
@[simp] theorem State.setLink_admits (p : Nat) (l : LinkSt) : (s.setLink p l).admits = s.admits := rfl
@[simp] theorem State.setLink_ciphers (p : Nat) (l : LinkSt) : (s.setLink p l).ciphers = s.ciphers := rfl
@[simp] theorem State.setLink_msecs (p : Nat) (l : LinkSt) : (s.setLink p l).msecs = s.msecs := rfl
@[simp] theorem State.setLink_hosts (p : Nat) (l : LinkSt) : (s.setLink p l).hosts = s.hosts := rfl
@[simp] theorem State.setLink_coxs (p : Nat) (l : LinkSt) : (s.setLink p l).coxs = s.coxs := rfl
@[simp] theorem State.setLink_css (p : Nat) (l : LinkSt) : (s.setLink p l).css = s.css := rfl
@[simp] theorem State.setLink_test (p : Nat) (l : LinkSt) : (s.setLink p l).test = s.test := rfl
@[simp] theorem State.setLink_reg (p : Nat) (l : LinkSt) (p' : Page) (o' : Nat) : (s.setLink p l).reg p' o' = s.reg p' o' :=
  State.reg_congr (State.setLink_regs s p l) ..
@[simp] theorem State.setLink_fget (p : Nat) (l : LinkSt) (p' : Page) (f' : Fld) (i' : Nat) : (s.setLink p l).fget p' f' i' = s.fget p' f' i' :=
  State.fget_congr (State.setLink_regs s p l) ..
@[simp] theorem State.setLink_flag (p : Nat) (l : LinkSt) (p' : Page) (f' : Fld) (i' : Nat) : (s.setLink p l).flag p' f' i' = s.flag p' f' i' :=
  State.flag_congr (State.setLink_regs s p l) ..
@[simp] theorem State.setLink_cget (p : Nat) (l : LinkSt) (p' : Page) (f' : Fld) (i' : Nat) : (s.setLink p l).cget p' f' i' = s.cget p' f' i' :=
  State.cget_congr (State.setLink_ctrs s p l) ..

/-! `setLock` -/
@[simp] theorem State.setLock_pending (p : Page) (l : Option Lock) : (s.setLock p l).pending = s.pending := rfl
@[simp] theorem State.setLock_out (p : Page) (l : Option Lock) : (s.setLock p l).out = s.out := rfl
@[simp] theorem State.setLock_free (p : Page) (l : Option Lock) : (s.setLock p l).free = s.free := rfl
@[simp] theorem State.setLock_pins (p : Page) (l : Option Lock) : (s.setLock p l).pins = s.pins := rfl
@[simp] theorem State.setLock_otp (p : Page) (l : Option Lock) : (s.setLock p l).otp = s.otp := rfl
@[simp] theorem State.setLock_regs (p : Page) (l : Option Lock) : (s.setLock p l).regs = s.regs := rfl
@[simp] theorem State.setLock_ctrs (p : Page) (l : Option Lock) : (s.setLock p l).ctrs = s.ctrs := rfl
@[simp] theorem State.setLock_latch (p : Page) (l : Option Lock) : (s.setLock p l).latch = s.latch := rfl
@[simp] theorem State.setLock_boot (p : Page) (l : Option Lock) : (s.setLock p l).boot = s.boot := rfl
@[simp] theorem State.setLock_failed (p : Page) (l : Option Lock) : (s.setLock p l).failed = s.failed := rfl
@[simp] theorem State.setLock_resetting (p : Page) (l : Option Lock) : (s.setLock p l).resetting = s.resetting := rfl
@[simp] theorem State.setLock_wearBase (p : Page) (l : Option Lock) : (s.setLock p l).wearBase = s.wearBase := rfl
@[simp] theorem State.setLock_lanes (p : Page) (l : Option Lock) : (s.setLock p l).lanes = s.lanes := rfl
@[simp] theorem State.setLock_links (p : Page) (l : Option Lock) : (s.setLock p l).links = s.links := rfl
@[simp] theorem State.setLock_tabs (p : Page) (l : Option Lock) : (s.setLock p l).tabs = s.tabs := rfl
@[simp] theorem State.setLock_qdr (p : Page) (l : Option Lock) : (s.setLock p l).qdr = s.qdr := rfl
@[simp] theorem State.setLock_qdrBusy (p : Page) (l : Option Lock) : (s.setLock p l).qdrBusy = s.qdrBusy := rfl
@[simp] theorem State.setLock_clss (p : Page) (l : Option Lock) : (s.setLock p l).clss = s.clss := rfl
@[simp] theorem State.setLock_frames (p : Page) (l : Option Lock) : (s.setLock p l).frames = s.frames := rfl
@[simp] theorem State.setLock_nextFrame (p : Page) (l : Option Lock) : (s.setLock p l).nextFrame = s.nextFrame := rfl
@[simp] theorem State.setLock_slices (p : Page) (l : Option Lock) : (s.setLock p l).slices = s.slices := rfl
@[simp] theorem State.setLock_ports (p : Page) (l : Option Lock) : (s.setLock p l).ports = s.ports := rfl
@[simp] theorem State.setLock_lrns (p : Page) (l : Option Lock) : (s.setLock p l).lrns = s.lrns := rfl
@[simp] theorem State.setLock_keels (p : Page) (l : Option Lock) : (s.setLock p l).keels = s.keels := rfl
@[simp] theorem State.setLock_stalls (p : Page) (l : Option Lock) : (s.setLock p l).stalls = s.stalls := rfl
@[simp] theorem State.setLock_bufs (p : Page) (l : Option Lock) : (s.setLock p l).bufs = s.bufs := rfl
@[simp] theorem State.setLock_mcs (p : Page) (l : Option Lock) : (s.setLock p l).mcs = s.mcs := rfl
@[simp] theorem State.setLock_queues (p : Page) (l : Option Lock) : (s.setLock p l).queues = s.queues := rfl
@[simp] theorem State.setLock_times (p : Page) (l : Option Lock) : (s.setLock p l).times = s.times := rfl
@[simp] theorem State.setLock_accts (p : Page) (l : Option Lock) : (s.setLock p l).accts = s.accts := rfl
@[simp] theorem State.setLock_tels (p : Page) (l : Option Lock) : (s.setLock p l).tels = s.tels := rfl
@[simp] theorem State.setLock_dumps (p : Page) (l : Option Lock) : (s.setLock p l).dumps = s.dumps := rfl
@[simp] theorem State.setLock_admits (p : Page) (l : Option Lock) : (s.setLock p l).admits = s.admits := rfl
@[simp] theorem State.setLock_ciphers (p : Page) (l : Option Lock) : (s.setLock p l).ciphers = s.ciphers := rfl
@[simp] theorem State.setLock_msecs (p : Page) (l : Option Lock) : (s.setLock p l).msecs = s.msecs := rfl
@[simp] theorem State.setLock_hosts (p : Page) (l : Option Lock) : (s.setLock p l).hosts = s.hosts := rfl
@[simp] theorem State.setLock_coxs (p : Page) (l : Option Lock) : (s.setLock p l).coxs = s.coxs := rfl
@[simp] theorem State.setLock_css (p : Page) (l : Option Lock) : (s.setLock p l).css = s.css := rfl
@[simp] theorem State.setLock_test (p : Page) (l : Option Lock) : (s.setLock p l).test = s.test := rfl
@[simp] theorem State.setLock_reg (p : Page) (l : Option Lock) (p' : Page) (o' : Nat) : (s.setLock p l).reg p' o' = s.reg p' o' :=
  State.reg_congr (State.setLock_regs s p l) ..
@[simp] theorem State.setLock_fget (p : Page) (l : Option Lock) (p' : Page) (f' : Fld) (i' : Nat) : (s.setLock p l).fget p' f' i' = s.fget p' f' i' :=
  State.fget_congr (State.setLock_regs s p l) ..
@[simp] theorem State.setLock_flag (p : Page) (l : Option Lock) (p' : Page) (f' : Fld) (i' : Nat) : (s.setLock p l).flag p' f' i' = s.flag p' f' i' :=
  State.flag_congr (State.setLock_regs s p l) ..
@[simp] theorem State.setLock_cget (p : Page) (l : Option Lock) (p' : Page) (f' : Fld) (i' : Nat) : (s.setLock p l).cget p' f' i' = s.cget p' f' i' :=
  State.cget_congr (State.setLock_ctrs s p l) ..

/-! `setLrn` -/
@[simp] theorem State.setLrn_pending (d : Nat) (x : LrnSt) : (s.setLrn d x).pending = s.pending := rfl
@[simp] theorem State.setLrn_out (d : Nat) (x : LrnSt) : (s.setLrn d x).out = s.out := rfl
@[simp] theorem State.setLrn_free (d : Nat) (x : LrnSt) : (s.setLrn d x).free = s.free := rfl
@[simp] theorem State.setLrn_pins (d : Nat) (x : LrnSt) : (s.setLrn d x).pins = s.pins := rfl
@[simp] theorem State.setLrn_otp (d : Nat) (x : LrnSt) : (s.setLrn d x).otp = s.otp := rfl
@[simp] theorem State.setLrn_regs (d : Nat) (x : LrnSt) : (s.setLrn d x).regs = s.regs := rfl
@[simp] theorem State.setLrn_ctrs (d : Nat) (x : LrnSt) : (s.setLrn d x).ctrs = s.ctrs := rfl
@[simp] theorem State.setLrn_latch (d : Nat) (x : LrnSt) : (s.setLrn d x).latch = s.latch := rfl
@[simp] theorem State.setLrn_locks (d : Nat) (x : LrnSt) : (s.setLrn d x).locks = s.locks := rfl
@[simp] theorem State.setLrn_boot (d : Nat) (x : LrnSt) : (s.setLrn d x).boot = s.boot := rfl
@[simp] theorem State.setLrn_failed (d : Nat) (x : LrnSt) : (s.setLrn d x).failed = s.failed := rfl
@[simp] theorem State.setLrn_resetting (d : Nat) (x : LrnSt) : (s.setLrn d x).resetting = s.resetting := rfl
@[simp] theorem State.setLrn_wearBase (d : Nat) (x : LrnSt) : (s.setLrn d x).wearBase = s.wearBase := rfl
@[simp] theorem State.setLrn_lanes (d : Nat) (x : LrnSt) : (s.setLrn d x).lanes = s.lanes := rfl
@[simp] theorem State.setLrn_links (d : Nat) (x : LrnSt) : (s.setLrn d x).links = s.links := rfl
@[simp] theorem State.setLrn_tabs (d : Nat) (x : LrnSt) : (s.setLrn d x).tabs = s.tabs := rfl
@[simp] theorem State.setLrn_qdr (d : Nat) (x : LrnSt) : (s.setLrn d x).qdr = s.qdr := rfl
@[simp] theorem State.setLrn_qdrBusy (d : Nat) (x : LrnSt) : (s.setLrn d x).qdrBusy = s.qdrBusy := rfl
@[simp] theorem State.setLrn_clss (d : Nat) (x : LrnSt) : (s.setLrn d x).clss = s.clss := rfl
@[simp] theorem State.setLrn_frames (d : Nat) (x : LrnSt) : (s.setLrn d x).frames = s.frames := rfl
@[simp] theorem State.setLrn_nextFrame (d : Nat) (x : LrnSt) : (s.setLrn d x).nextFrame = s.nextFrame := rfl
@[simp] theorem State.setLrn_slices (d : Nat) (x : LrnSt) : (s.setLrn d x).slices = s.slices := rfl
@[simp] theorem State.setLrn_ports (d : Nat) (x : LrnSt) : (s.setLrn d x).ports = s.ports := rfl
@[simp] theorem State.setLrn_keels (d : Nat) (x : LrnSt) : (s.setLrn d x).keels = s.keels := rfl
@[simp] theorem State.setLrn_stalls (d : Nat) (x : LrnSt) : (s.setLrn d x).stalls = s.stalls := rfl
@[simp] theorem State.setLrn_bufs (d : Nat) (x : LrnSt) : (s.setLrn d x).bufs = s.bufs := rfl
@[simp] theorem State.setLrn_mcs (d : Nat) (x : LrnSt) : (s.setLrn d x).mcs = s.mcs := rfl
@[simp] theorem State.setLrn_queues (d : Nat) (x : LrnSt) : (s.setLrn d x).queues = s.queues := rfl
@[simp] theorem State.setLrn_times (d : Nat) (x : LrnSt) : (s.setLrn d x).times = s.times := rfl
@[simp] theorem State.setLrn_accts (d : Nat) (x : LrnSt) : (s.setLrn d x).accts = s.accts := rfl
@[simp] theorem State.setLrn_tels (d : Nat) (x : LrnSt) : (s.setLrn d x).tels = s.tels := rfl
@[simp] theorem State.setLrn_dumps (d : Nat) (x : LrnSt) : (s.setLrn d x).dumps = s.dumps := rfl
@[simp] theorem State.setLrn_admits (d : Nat) (x : LrnSt) : (s.setLrn d x).admits = s.admits := rfl
@[simp] theorem State.setLrn_ciphers (d : Nat) (x : LrnSt) : (s.setLrn d x).ciphers = s.ciphers := rfl
@[simp] theorem State.setLrn_msecs (d : Nat) (x : LrnSt) : (s.setLrn d x).msecs = s.msecs := rfl
@[simp] theorem State.setLrn_hosts (d : Nat) (x : LrnSt) : (s.setLrn d x).hosts = s.hosts := rfl
@[simp] theorem State.setLrn_coxs (d : Nat) (x : LrnSt) : (s.setLrn d x).coxs = s.coxs := rfl
@[simp] theorem State.setLrn_css (d : Nat) (x : LrnSt) : (s.setLrn d x).css = s.css := rfl
@[simp] theorem State.setLrn_test (d : Nat) (x : LrnSt) : (s.setLrn d x).test = s.test := rfl
@[simp] theorem State.setLrn_reg (d : Nat) (x : LrnSt) (p' : Page) (o' : Nat) : (s.setLrn d x).reg p' o' = s.reg p' o' :=
  State.reg_congr (State.setLrn_regs s d x) ..
@[simp] theorem State.setLrn_fget (d : Nat) (x : LrnSt) (p' : Page) (f' : Fld) (i' : Nat) : (s.setLrn d x).fget p' f' i' = s.fget p' f' i' :=
  State.fget_congr (State.setLrn_regs s d x) ..
@[simp] theorem State.setLrn_flag (d : Nat) (x : LrnSt) (p' : Page) (f' : Fld) (i' : Nat) : (s.setLrn d x).flag p' f' i' = s.flag p' f' i' :=
  State.flag_congr (State.setLrn_regs s d x) ..
@[simp] theorem State.setLrn_cget (d : Nat) (x : LrnSt) (p' : Page) (f' : Fld) (i' : Nat) : (s.setLrn d x).cget p' f' i' = s.cget p' f' i' :=
  State.cget_congr (State.setLrn_ctrs s d x) ..
@[simp] theorem State.setLrn_lrnOf (d : Nat) (x : LrnSt) : (s.setLrn d x).lrnOf d = x := Sparse.get_set_same ..
theorem State.setLrn_lrnOf_ne (d : Nat) (x : LrnSt) {k' : Nat} (hk : k' ≠ d) : (s.setLrn d x).lrnOf k' = s.lrnOf k' := Sparse.get_set_other _ _ _ hk

/-! `setMsec` -/
@[simp] theorem State.setMsec_pending (p : Nat) (m : MsecSt) : (s.setMsec p m).pending = s.pending := rfl
@[simp] theorem State.setMsec_out (p : Nat) (m : MsecSt) : (s.setMsec p m).out = s.out := rfl
@[simp] theorem State.setMsec_free (p : Nat) (m : MsecSt) : (s.setMsec p m).free = s.free := rfl
@[simp] theorem State.setMsec_pins (p : Nat) (m : MsecSt) : (s.setMsec p m).pins = s.pins := rfl
@[simp] theorem State.setMsec_otp (p : Nat) (m : MsecSt) : (s.setMsec p m).otp = s.otp := rfl
@[simp] theorem State.setMsec_regs (p : Nat) (m : MsecSt) : (s.setMsec p m).regs = s.regs := rfl
@[simp] theorem State.setMsec_ctrs (p : Nat) (m : MsecSt) : (s.setMsec p m).ctrs = s.ctrs := rfl
@[simp] theorem State.setMsec_latch (p : Nat) (m : MsecSt) : (s.setMsec p m).latch = s.latch := rfl
@[simp] theorem State.setMsec_locks (p : Nat) (m : MsecSt) : (s.setMsec p m).locks = s.locks := rfl
@[simp] theorem State.setMsec_boot (p : Nat) (m : MsecSt) : (s.setMsec p m).boot = s.boot := rfl
@[simp] theorem State.setMsec_failed (p : Nat) (m : MsecSt) : (s.setMsec p m).failed = s.failed := rfl
@[simp] theorem State.setMsec_resetting (p : Nat) (m : MsecSt) : (s.setMsec p m).resetting = s.resetting := rfl
@[simp] theorem State.setMsec_wearBase (p : Nat) (m : MsecSt) : (s.setMsec p m).wearBase = s.wearBase := rfl
@[simp] theorem State.setMsec_lanes (p : Nat) (m : MsecSt) : (s.setMsec p m).lanes = s.lanes := rfl
@[simp] theorem State.setMsec_links (p : Nat) (m : MsecSt) : (s.setMsec p m).links = s.links := rfl
@[simp] theorem State.setMsec_tabs (p : Nat) (m : MsecSt) : (s.setMsec p m).tabs = s.tabs := rfl
@[simp] theorem State.setMsec_qdr (p : Nat) (m : MsecSt) : (s.setMsec p m).qdr = s.qdr := rfl
@[simp] theorem State.setMsec_qdrBusy (p : Nat) (m : MsecSt) : (s.setMsec p m).qdrBusy = s.qdrBusy := rfl
@[simp] theorem State.setMsec_clss (p : Nat) (m : MsecSt) : (s.setMsec p m).clss = s.clss := rfl
@[simp] theorem State.setMsec_frames (p : Nat) (m : MsecSt) : (s.setMsec p m).frames = s.frames := rfl
@[simp] theorem State.setMsec_nextFrame (p : Nat) (m : MsecSt) : (s.setMsec p m).nextFrame = s.nextFrame := rfl
@[simp] theorem State.setMsec_slices (p : Nat) (m : MsecSt) : (s.setMsec p m).slices = s.slices := rfl
@[simp] theorem State.setMsec_ports (p : Nat) (m : MsecSt) : (s.setMsec p m).ports = s.ports := rfl
@[simp] theorem State.setMsec_lrns (p : Nat) (m : MsecSt) : (s.setMsec p m).lrns = s.lrns := rfl
@[simp] theorem State.setMsec_keels (p : Nat) (m : MsecSt) : (s.setMsec p m).keels = s.keels := rfl
@[simp] theorem State.setMsec_stalls (p : Nat) (m : MsecSt) : (s.setMsec p m).stalls = s.stalls := rfl
@[simp] theorem State.setMsec_bufs (p : Nat) (m : MsecSt) : (s.setMsec p m).bufs = s.bufs := rfl
@[simp] theorem State.setMsec_mcs (p : Nat) (m : MsecSt) : (s.setMsec p m).mcs = s.mcs := rfl
@[simp] theorem State.setMsec_queues (p : Nat) (m : MsecSt) : (s.setMsec p m).queues = s.queues := rfl
@[simp] theorem State.setMsec_times (p : Nat) (m : MsecSt) : (s.setMsec p m).times = s.times := rfl
@[simp] theorem State.setMsec_accts (p : Nat) (m : MsecSt) : (s.setMsec p m).accts = s.accts := rfl
@[simp] theorem State.setMsec_tels (p : Nat) (m : MsecSt) : (s.setMsec p m).tels = s.tels := rfl
@[simp] theorem State.setMsec_dumps (p : Nat) (m : MsecSt) : (s.setMsec p m).dumps = s.dumps := rfl
@[simp] theorem State.setMsec_admits (p : Nat) (m : MsecSt) : (s.setMsec p m).admits = s.admits := rfl
@[simp] theorem State.setMsec_ciphers (p : Nat) (m : MsecSt) : (s.setMsec p m).ciphers = s.ciphers := rfl
@[simp] theorem State.setMsec_hosts (p : Nat) (m : MsecSt) : (s.setMsec p m).hosts = s.hosts := rfl
@[simp] theorem State.setMsec_coxs (p : Nat) (m : MsecSt) : (s.setMsec p m).coxs = s.coxs := rfl
@[simp] theorem State.setMsec_css (p : Nat) (m : MsecSt) : (s.setMsec p m).css = s.css := rfl
@[simp] theorem State.setMsec_test (p : Nat) (m : MsecSt) : (s.setMsec p m).test = s.test := rfl
@[simp] theorem State.setMsec_reg (p : Nat) (m : MsecSt) (p' : Page) (o' : Nat) : (s.setMsec p m).reg p' o' = s.reg p' o' :=
  State.reg_congr (State.setMsec_regs s p m) ..
@[simp] theorem State.setMsec_fget (p : Nat) (m : MsecSt) (p' : Page) (f' : Fld) (i' : Nat) : (s.setMsec p m).fget p' f' i' = s.fget p' f' i' :=
  State.fget_congr (State.setMsec_regs s p m) ..
@[simp] theorem State.setMsec_flag (p : Nat) (m : MsecSt) (p' : Page) (f' : Fld) (i' : Nat) : (s.setMsec p m).flag p' f' i' = s.flag p' f' i' :=
  State.flag_congr (State.setMsec_regs s p m) ..
@[simp] theorem State.setMsec_cget (p : Nat) (m : MsecSt) (p' : Page) (f' : Fld) (i' : Nat) : (s.setMsec p m).cget p' f' i' = s.cget p' f' i' :=
  State.cget_congr (State.setMsec_ctrs s p m) ..
@[simp] theorem State.setMsec_msecOf (p : Nat) (m : MsecSt) : (s.setMsec p m).msecOf p = m := Sparse.get_set_same ..
theorem State.setMsec_msecOf_ne (p : Nat) (m : MsecSt) {k' : Nat} (hk : k' ≠ p) : (s.setMsec p m).msecOf k' = s.msecOf k' := Sparse.get_set_other _ _ _ hk

/-! `setOtp` -/
@[simp] theorem State.setOtp_pending (o : Otp) : (s.setOtp o).pending = s.pending := rfl
@[simp] theorem State.setOtp_out (o : Otp) : (s.setOtp o).out = s.out := rfl
@[simp] theorem State.setOtp_free (o : Otp) : (s.setOtp o).free = s.free := rfl
@[simp] theorem State.setOtp_pins (o : Otp) : (s.setOtp o).pins = s.pins := rfl
@[simp] theorem State.setOtp_regs (o : Otp) : (s.setOtp o).regs = s.regs := rfl
@[simp] theorem State.setOtp_ctrs (o : Otp) : (s.setOtp o).ctrs = s.ctrs := rfl
@[simp] theorem State.setOtp_latch (o : Otp) : (s.setOtp o).latch = s.latch := rfl
@[simp] theorem State.setOtp_locks (o : Otp) : (s.setOtp o).locks = s.locks := rfl
@[simp] theorem State.setOtp_boot (o : Otp) : (s.setOtp o).boot = s.boot := rfl
@[simp] theorem State.setOtp_failed (o : Otp) : (s.setOtp o).failed = s.failed := rfl
@[simp] theorem State.setOtp_resetting (o : Otp) : (s.setOtp o).resetting = s.resetting := rfl
@[simp] theorem State.setOtp_wearBase (o : Otp) : (s.setOtp o).wearBase = s.wearBase := rfl
@[simp] theorem State.setOtp_lanes (o : Otp) : (s.setOtp o).lanes = s.lanes := rfl
@[simp] theorem State.setOtp_links (o : Otp) : (s.setOtp o).links = s.links := rfl
@[simp] theorem State.setOtp_tabs (o : Otp) : (s.setOtp o).tabs = s.tabs := rfl
@[simp] theorem State.setOtp_qdr (o : Otp) : (s.setOtp o).qdr = s.qdr := rfl
@[simp] theorem State.setOtp_qdrBusy (o : Otp) : (s.setOtp o).qdrBusy = s.qdrBusy := rfl
@[simp] theorem State.setOtp_clss (o : Otp) : (s.setOtp o).clss = s.clss := rfl
@[simp] theorem State.setOtp_frames (o : Otp) : (s.setOtp o).frames = s.frames := rfl
@[simp] theorem State.setOtp_nextFrame (o : Otp) : (s.setOtp o).nextFrame = s.nextFrame := rfl
@[simp] theorem State.setOtp_slices (o : Otp) : (s.setOtp o).slices = s.slices := rfl
@[simp] theorem State.setOtp_ports (o : Otp) : (s.setOtp o).ports = s.ports := rfl
@[simp] theorem State.setOtp_lrns (o : Otp) : (s.setOtp o).lrns = s.lrns := rfl
@[simp] theorem State.setOtp_keels (o : Otp) : (s.setOtp o).keels = s.keels := rfl
@[simp] theorem State.setOtp_stalls (o : Otp) : (s.setOtp o).stalls = s.stalls := rfl
@[simp] theorem State.setOtp_bufs (o : Otp) : (s.setOtp o).bufs = s.bufs := rfl
@[simp] theorem State.setOtp_mcs (o : Otp) : (s.setOtp o).mcs = s.mcs := rfl
@[simp] theorem State.setOtp_queues (o : Otp) : (s.setOtp o).queues = s.queues := rfl
@[simp] theorem State.setOtp_times (o : Otp) : (s.setOtp o).times = s.times := rfl
@[simp] theorem State.setOtp_accts (o : Otp) : (s.setOtp o).accts = s.accts := rfl
@[simp] theorem State.setOtp_tels (o : Otp) : (s.setOtp o).tels = s.tels := rfl
@[simp] theorem State.setOtp_dumps (o : Otp) : (s.setOtp o).dumps = s.dumps := rfl
@[simp] theorem State.setOtp_admits (o : Otp) : (s.setOtp o).admits = s.admits := rfl
@[simp] theorem State.setOtp_ciphers (o : Otp) : (s.setOtp o).ciphers = s.ciphers := rfl
@[simp] theorem State.setOtp_msecs (o : Otp) : (s.setOtp o).msecs = s.msecs := rfl
@[simp] theorem State.setOtp_hosts (o : Otp) : (s.setOtp o).hosts = s.hosts := rfl
@[simp] theorem State.setOtp_coxs (o : Otp) : (s.setOtp o).coxs = s.coxs := rfl
@[simp] theorem State.setOtp_css (o : Otp) : (s.setOtp o).css = s.css := rfl
@[simp] theorem State.setOtp_test (o : Otp) : (s.setOtp o).test = s.test := rfl
@[simp] theorem State.setOtp_reg (o : Otp) (p' : Page) (o' : Nat) : (s.setOtp o).reg p' o' = s.reg p' o' :=
  State.reg_congr (State.setOtp_regs s o) ..
@[simp] theorem State.setOtp_fget (o : Otp) (p' : Page) (f' : Fld) (i' : Nat) : (s.setOtp o).fget p' f' i' = s.fget p' f' i' :=
  State.fget_congr (State.setOtp_regs s o) ..
@[simp] theorem State.setOtp_flag (o : Otp) (p' : Page) (f' : Fld) (i' : Nat) : (s.setOtp o).flag p' f' i' = s.flag p' f' i' :=
  State.flag_congr (State.setOtp_regs s o) ..
@[simp] theorem State.setOtp_cget (o : Otp) (p' : Page) (f' : Fld) (i' : Nat) : (s.setOtp o).cget p' f' i' = s.cget p' f' i' :=
  State.cget_congr (State.setOtp_ctrs s o) ..
@[simp] theorem State.setOtp_otp (o : Otp) : (s.setOtp o).otp = o := rfl

/-! `setPort` -/
@[simp] theorem State.setPort_pending (p : Nat) (x : PortSt) : (s.setPort p x).pending = s.pending := rfl
@[simp] theorem State.setPort_out (p : Nat) (x : PortSt) : (s.setPort p x).out = s.out := rfl
@[simp] theorem State.setPort_free (p : Nat) (x : PortSt) : (s.setPort p x).free = s.free := rfl
@[simp] theorem State.setPort_pins (p : Nat) (x : PortSt) : (s.setPort p x).pins = s.pins := rfl
@[simp] theorem State.setPort_otp (p : Nat) (x : PortSt) : (s.setPort p x).otp = s.otp := rfl
@[simp] theorem State.setPort_regs (p : Nat) (x : PortSt) : (s.setPort p x).regs = s.regs := rfl
@[simp] theorem State.setPort_ctrs (p : Nat) (x : PortSt) : (s.setPort p x).ctrs = s.ctrs := rfl
@[simp] theorem State.setPort_latch (p : Nat) (x : PortSt) : (s.setPort p x).latch = s.latch := rfl
@[simp] theorem State.setPort_locks (p : Nat) (x : PortSt) : (s.setPort p x).locks = s.locks := rfl
@[simp] theorem State.setPort_boot (p : Nat) (x : PortSt) : (s.setPort p x).boot = s.boot := rfl
@[simp] theorem State.setPort_failed (p : Nat) (x : PortSt) : (s.setPort p x).failed = s.failed := rfl
@[simp] theorem State.setPort_resetting (p : Nat) (x : PortSt) : (s.setPort p x).resetting = s.resetting := rfl
@[simp] theorem State.setPort_wearBase (p : Nat) (x : PortSt) : (s.setPort p x).wearBase = s.wearBase := rfl
@[simp] theorem State.setPort_lanes (p : Nat) (x : PortSt) : (s.setPort p x).lanes = s.lanes := rfl
@[simp] theorem State.setPort_links (p : Nat) (x : PortSt) : (s.setPort p x).links = s.links := rfl
@[simp] theorem State.setPort_tabs (p : Nat) (x : PortSt) : (s.setPort p x).tabs = s.tabs := rfl
@[simp] theorem State.setPort_qdr (p : Nat) (x : PortSt) : (s.setPort p x).qdr = s.qdr := rfl
@[simp] theorem State.setPort_qdrBusy (p : Nat) (x : PortSt) : (s.setPort p x).qdrBusy = s.qdrBusy := rfl
@[simp] theorem State.setPort_clss (p : Nat) (x : PortSt) : (s.setPort p x).clss = s.clss := rfl
@[simp] theorem State.setPort_frames (p : Nat) (x : PortSt) : (s.setPort p x).frames = s.frames := rfl
@[simp] theorem State.setPort_nextFrame (p : Nat) (x : PortSt) : (s.setPort p x).nextFrame = s.nextFrame := rfl
@[simp] theorem State.setPort_slices (p : Nat) (x : PortSt) : (s.setPort p x).slices = s.slices := rfl
@[simp] theorem State.setPort_lrns (p : Nat) (x : PortSt) : (s.setPort p x).lrns = s.lrns := rfl
@[simp] theorem State.setPort_keels (p : Nat) (x : PortSt) : (s.setPort p x).keels = s.keels := rfl
@[simp] theorem State.setPort_stalls (p : Nat) (x : PortSt) : (s.setPort p x).stalls = s.stalls := rfl
@[simp] theorem State.setPort_bufs (p : Nat) (x : PortSt) : (s.setPort p x).bufs = s.bufs := rfl
@[simp] theorem State.setPort_mcs (p : Nat) (x : PortSt) : (s.setPort p x).mcs = s.mcs := rfl
@[simp] theorem State.setPort_queues (p : Nat) (x : PortSt) : (s.setPort p x).queues = s.queues := rfl
@[simp] theorem State.setPort_times (p : Nat) (x : PortSt) : (s.setPort p x).times = s.times := rfl
@[simp] theorem State.setPort_accts (p : Nat) (x : PortSt) : (s.setPort p x).accts = s.accts := rfl
@[simp] theorem State.setPort_tels (p : Nat) (x : PortSt) : (s.setPort p x).tels = s.tels := rfl
@[simp] theorem State.setPort_dumps (p : Nat) (x : PortSt) : (s.setPort p x).dumps = s.dumps := rfl
@[simp] theorem State.setPort_admits (p : Nat) (x : PortSt) : (s.setPort p x).admits = s.admits := rfl
@[simp] theorem State.setPort_ciphers (p : Nat) (x : PortSt) : (s.setPort p x).ciphers = s.ciphers := rfl
@[simp] theorem State.setPort_msecs (p : Nat) (x : PortSt) : (s.setPort p x).msecs = s.msecs := rfl
@[simp] theorem State.setPort_hosts (p : Nat) (x : PortSt) : (s.setPort p x).hosts = s.hosts := rfl
@[simp] theorem State.setPort_coxs (p : Nat) (x : PortSt) : (s.setPort p x).coxs = s.coxs := rfl
@[simp] theorem State.setPort_css (p : Nat) (x : PortSt) : (s.setPort p x).css = s.css := rfl
@[simp] theorem State.setPort_test (p : Nat) (x : PortSt) : (s.setPort p x).test = s.test := rfl
@[simp] theorem State.setPort_reg (p : Nat) (x : PortSt) (p' : Page) (o' : Nat) : (s.setPort p x).reg p' o' = s.reg p' o' :=
  State.reg_congr (State.setPort_regs s p x) ..
@[simp] theorem State.setPort_fget (p : Nat) (x : PortSt) (p' : Page) (f' : Fld) (i' : Nat) : (s.setPort p x).fget p' f' i' = s.fget p' f' i' :=
  State.fget_congr (State.setPort_regs s p x) ..
@[simp] theorem State.setPort_flag (p : Nat) (x : PortSt) (p' : Page) (f' : Fld) (i' : Nat) : (s.setPort p x).flag p' f' i' = s.flag p' f' i' :=
  State.flag_congr (State.setPort_regs s p x) ..
@[simp] theorem State.setPort_cget (p : Nat) (x : PortSt) (p' : Page) (f' : Fld) (i' : Nat) : (s.setPort p x).cget p' f' i' = s.cget p' f' i' :=
  State.cget_congr (State.setPort_ctrs s p x) ..
@[simp] theorem State.setPort_portOf (p : Nat) (x : PortSt) : (s.setPort p x).portOf p = x := Sparse.get_set_same ..
theorem State.setPort_portOf_ne (p : Nat) (x : PortSt) {k' : Nat} (hk : k' ≠ p) : (s.setPort p x).portOf k' = s.portOf k' := Sparse.get_set_other _ _ _ hk

/-! `setQdr` -/
@[simp] theorem State.setQdr_pending (c node : Nat) (v : BitVec 256) : (s.setQdr c node v).pending = s.pending := rfl
@[simp] theorem State.setQdr_out (c node : Nat) (v : BitVec 256) : (s.setQdr c node v).out = s.out := rfl
@[simp] theorem State.setQdr_free (c node : Nat) (v : BitVec 256) : (s.setQdr c node v).free = s.free := rfl
@[simp] theorem State.setQdr_pins (c node : Nat) (v : BitVec 256) : (s.setQdr c node v).pins = s.pins := rfl
@[simp] theorem State.setQdr_otp (c node : Nat) (v : BitVec 256) : (s.setQdr c node v).otp = s.otp := rfl
@[simp] theorem State.setQdr_regs (c node : Nat) (v : BitVec 256) : (s.setQdr c node v).regs = s.regs := rfl
@[simp] theorem State.setQdr_ctrs (c node : Nat) (v : BitVec 256) : (s.setQdr c node v).ctrs = s.ctrs := rfl
@[simp] theorem State.setQdr_latch (c node : Nat) (v : BitVec 256) : (s.setQdr c node v).latch = s.latch := rfl
@[simp] theorem State.setQdr_locks (c node : Nat) (v : BitVec 256) : (s.setQdr c node v).locks = s.locks := rfl
@[simp] theorem State.setQdr_boot (c node : Nat) (v : BitVec 256) : (s.setQdr c node v).boot = s.boot := rfl
@[simp] theorem State.setQdr_failed (c node : Nat) (v : BitVec 256) : (s.setQdr c node v).failed = s.failed := rfl
@[simp] theorem State.setQdr_resetting (c node : Nat) (v : BitVec 256) : (s.setQdr c node v).resetting = s.resetting := rfl
@[simp] theorem State.setQdr_wearBase (c node : Nat) (v : BitVec 256) : (s.setQdr c node v).wearBase = s.wearBase := rfl
@[simp] theorem State.setQdr_lanes (c node : Nat) (v : BitVec 256) : (s.setQdr c node v).lanes = s.lanes := rfl
@[simp] theorem State.setQdr_links (c node : Nat) (v : BitVec 256) : (s.setQdr c node v).links = s.links := rfl
@[simp] theorem State.setQdr_tabs (c node : Nat) (v : BitVec 256) : (s.setQdr c node v).tabs = s.tabs := rfl
@[simp] theorem State.setQdr_qdrBusy (c node : Nat) (v : BitVec 256) : (s.setQdr c node v).qdrBusy = s.qdrBusy := rfl
@[simp] theorem State.setQdr_clss (c node : Nat) (v : BitVec 256) : (s.setQdr c node v).clss = s.clss := rfl
@[simp] theorem State.setQdr_frames (c node : Nat) (v : BitVec 256) : (s.setQdr c node v).frames = s.frames := rfl
@[simp] theorem State.setQdr_nextFrame (c node : Nat) (v : BitVec 256) : (s.setQdr c node v).nextFrame = s.nextFrame := rfl
@[simp] theorem State.setQdr_slices (c node : Nat) (v : BitVec 256) : (s.setQdr c node v).slices = s.slices := rfl
@[simp] theorem State.setQdr_ports (c node : Nat) (v : BitVec 256) : (s.setQdr c node v).ports = s.ports := rfl
@[simp] theorem State.setQdr_lrns (c node : Nat) (v : BitVec 256) : (s.setQdr c node v).lrns = s.lrns := rfl
@[simp] theorem State.setQdr_keels (c node : Nat) (v : BitVec 256) : (s.setQdr c node v).keels = s.keels := rfl
@[simp] theorem State.setQdr_stalls (c node : Nat) (v : BitVec 256) : (s.setQdr c node v).stalls = s.stalls := rfl
@[simp] theorem State.setQdr_bufs (c node : Nat) (v : BitVec 256) : (s.setQdr c node v).bufs = s.bufs := rfl
@[simp] theorem State.setQdr_mcs (c node : Nat) (v : BitVec 256) : (s.setQdr c node v).mcs = s.mcs := rfl
@[simp] theorem State.setQdr_queues (c node : Nat) (v : BitVec 256) : (s.setQdr c node v).queues = s.queues := rfl
@[simp] theorem State.setQdr_times (c node : Nat) (v : BitVec 256) : (s.setQdr c node v).times = s.times := rfl
@[simp] theorem State.setQdr_accts (c node : Nat) (v : BitVec 256) : (s.setQdr c node v).accts = s.accts := rfl
@[simp] theorem State.setQdr_tels (c node : Nat) (v : BitVec 256) : (s.setQdr c node v).tels = s.tels := rfl
@[simp] theorem State.setQdr_dumps (c node : Nat) (v : BitVec 256) : (s.setQdr c node v).dumps = s.dumps := rfl
@[simp] theorem State.setQdr_admits (c node : Nat) (v : BitVec 256) : (s.setQdr c node v).admits = s.admits := rfl
@[simp] theorem State.setQdr_ciphers (c node : Nat) (v : BitVec 256) : (s.setQdr c node v).ciphers = s.ciphers := rfl
@[simp] theorem State.setQdr_msecs (c node : Nat) (v : BitVec 256) : (s.setQdr c node v).msecs = s.msecs := rfl
@[simp] theorem State.setQdr_hosts (c node : Nat) (v : BitVec 256) : (s.setQdr c node v).hosts = s.hosts := rfl
@[simp] theorem State.setQdr_coxs (c node : Nat) (v : BitVec 256) : (s.setQdr c node v).coxs = s.coxs := rfl
@[simp] theorem State.setQdr_css (c node : Nat) (v : BitVec 256) : (s.setQdr c node v).css = s.css := rfl
@[simp] theorem State.setQdr_test (c node : Nat) (v : BitVec 256) : (s.setQdr c node v).test = s.test := rfl
@[simp] theorem State.setQdr_reg (c node : Nat) (v : BitVec 256) (p' : Page) (o' : Nat) : (s.setQdr c node v).reg p' o' = s.reg p' o' :=
  State.reg_congr (State.setQdr_regs s c node v) ..
@[simp] theorem State.setQdr_fget (c node : Nat) (v : BitVec 256) (p' : Page) (f' : Fld) (i' : Nat) : (s.setQdr c node v).fget p' f' i' = s.fget p' f' i' :=
  State.fget_congr (State.setQdr_regs s c node v) ..
@[simp] theorem State.setQdr_flag (c node : Nat) (v : BitVec 256) (p' : Page) (f' : Fld) (i' : Nat) : (s.setQdr c node v).flag p' f' i' = s.flag p' f' i' :=
  State.flag_congr (State.setQdr_regs s c node v) ..
@[simp] theorem State.setQdr_cget (c node : Nat) (v : BitVec 256) (p' : Page) (f' : Fld) (i' : Nat) : (s.setQdr c node v).cget p' f' i' = s.cget p' f' i' :=
  State.cget_congr (State.setQdr_ctrs s c node v) ..

/-! `setQueue` -/
@[simp] theorem State.setQueue_pending (k : Nat) (l : List Copy) : (s.setQueue k l).pending = s.pending := rfl
@[simp] theorem State.setQueue_out (k : Nat) (l : List Copy) : (s.setQueue k l).out = s.out := rfl
@[simp] theorem State.setQueue_free (k : Nat) (l : List Copy) : (s.setQueue k l).free = s.free := rfl
@[simp] theorem State.setQueue_pins (k : Nat) (l : List Copy) : (s.setQueue k l).pins = s.pins := rfl
@[simp] theorem State.setQueue_otp (k : Nat) (l : List Copy) : (s.setQueue k l).otp = s.otp := rfl
@[simp] theorem State.setQueue_regs (k : Nat) (l : List Copy) : (s.setQueue k l).regs = s.regs := rfl
@[simp] theorem State.setQueue_ctrs (k : Nat) (l : List Copy) : (s.setQueue k l).ctrs = s.ctrs := rfl
@[simp] theorem State.setQueue_latch (k : Nat) (l : List Copy) : (s.setQueue k l).latch = s.latch := rfl
@[simp] theorem State.setQueue_locks (k : Nat) (l : List Copy) : (s.setQueue k l).locks = s.locks := rfl
@[simp] theorem State.setQueue_boot (k : Nat) (l : List Copy) : (s.setQueue k l).boot = s.boot := rfl
@[simp] theorem State.setQueue_failed (k : Nat) (l : List Copy) : (s.setQueue k l).failed = s.failed := rfl
@[simp] theorem State.setQueue_resetting (k : Nat) (l : List Copy) : (s.setQueue k l).resetting = s.resetting := rfl
@[simp] theorem State.setQueue_wearBase (k : Nat) (l : List Copy) : (s.setQueue k l).wearBase = s.wearBase := rfl
@[simp] theorem State.setQueue_lanes (k : Nat) (l : List Copy) : (s.setQueue k l).lanes = s.lanes := rfl
@[simp] theorem State.setQueue_links (k : Nat) (l : List Copy) : (s.setQueue k l).links = s.links := rfl
@[simp] theorem State.setQueue_tabs (k : Nat) (l : List Copy) : (s.setQueue k l).tabs = s.tabs := rfl
@[simp] theorem State.setQueue_qdr (k : Nat) (l : List Copy) : (s.setQueue k l).qdr = s.qdr := rfl
@[simp] theorem State.setQueue_qdrBusy (k : Nat) (l : List Copy) : (s.setQueue k l).qdrBusy = s.qdrBusy := rfl
@[simp] theorem State.setQueue_clss (k : Nat) (l : List Copy) : (s.setQueue k l).clss = s.clss := rfl
@[simp] theorem State.setQueue_frames (k : Nat) (l : List Copy) : (s.setQueue k l).frames = s.frames := rfl
@[simp] theorem State.setQueue_nextFrame (k : Nat) (l : List Copy) : (s.setQueue k l).nextFrame = s.nextFrame := rfl
@[simp] theorem State.setQueue_slices (k : Nat) (l : List Copy) : (s.setQueue k l).slices = s.slices := rfl
@[simp] theorem State.setQueue_ports (k : Nat) (l : List Copy) : (s.setQueue k l).ports = s.ports := rfl
@[simp] theorem State.setQueue_lrns (k : Nat) (l : List Copy) : (s.setQueue k l).lrns = s.lrns := rfl
@[simp] theorem State.setQueue_keels (k : Nat) (l : List Copy) : (s.setQueue k l).keels = s.keels := rfl
@[simp] theorem State.setQueue_stalls (k : Nat) (l : List Copy) : (s.setQueue k l).stalls = s.stalls := rfl
@[simp] theorem State.setQueue_bufs (k : Nat) (l : List Copy) : (s.setQueue k l).bufs = s.bufs := rfl
@[simp] theorem State.setQueue_mcs (k : Nat) (l : List Copy) : (s.setQueue k l).mcs = s.mcs := rfl
@[simp] theorem State.setQueue_times (k : Nat) (l : List Copy) : (s.setQueue k l).times = s.times := rfl
@[simp] theorem State.setQueue_accts (k : Nat) (l : List Copy) : (s.setQueue k l).accts = s.accts := rfl
@[simp] theorem State.setQueue_tels (k : Nat) (l : List Copy) : (s.setQueue k l).tels = s.tels := rfl
@[simp] theorem State.setQueue_dumps (k : Nat) (l : List Copy) : (s.setQueue k l).dumps = s.dumps := rfl
@[simp] theorem State.setQueue_admits (k : Nat) (l : List Copy) : (s.setQueue k l).admits = s.admits := rfl
@[simp] theorem State.setQueue_ciphers (k : Nat) (l : List Copy) : (s.setQueue k l).ciphers = s.ciphers := rfl
@[simp] theorem State.setQueue_msecs (k : Nat) (l : List Copy) : (s.setQueue k l).msecs = s.msecs := rfl
@[simp] theorem State.setQueue_hosts (k : Nat) (l : List Copy) : (s.setQueue k l).hosts = s.hosts := rfl
@[simp] theorem State.setQueue_coxs (k : Nat) (l : List Copy) : (s.setQueue k l).coxs = s.coxs := rfl
@[simp] theorem State.setQueue_css (k : Nat) (l : List Copy) : (s.setQueue k l).css = s.css := rfl
@[simp] theorem State.setQueue_test (k : Nat) (l : List Copy) : (s.setQueue k l).test = s.test := rfl
@[simp] theorem State.setQueue_reg (k : Nat) (l : List Copy) (p' : Page) (o' : Nat) : (s.setQueue k l).reg p' o' = s.reg p' o' :=
  State.reg_congr (State.setQueue_regs s k l) ..
@[simp] theorem State.setQueue_fget (k : Nat) (l : List Copy) (p' : Page) (f' : Fld) (i' : Nat) : (s.setQueue k l).fget p' f' i' = s.fget p' f' i' :=
  State.fget_congr (State.setQueue_regs s k l) ..
@[simp] theorem State.setQueue_flag (k : Nat) (l : List Copy) (p' : Page) (f' : Fld) (i' : Nat) : (s.setQueue k l).flag p' f' i' = s.flag p' f' i' :=
  State.flag_congr (State.setQueue_regs s k l) ..
@[simp] theorem State.setQueue_cget (k : Nat) (l : List Copy) (p' : Page) (f' : Fld) (i' : Nat) : (s.setQueue k l).cget p' f' i' = s.cget p' f' i' :=
  State.cget_congr (State.setQueue_ctrs s k l) ..
@[simp] theorem State.setQueue_queueAt (k : Nat) (l : List Copy) : (s.setQueue k l).queueAt k = l := Sparse.get_set_same ..
theorem State.setQueue_queueAt_ne (k : Nat) (l : List Copy) {k' : Nat} (hk : k' ≠ k) : (s.setQueue k l).queueAt k' = s.queueAt k' := Sparse.get_set_other _ _ _ hk

/-! `setReg` -/
@[simp] theorem State.setReg_pending (p : Page) (off : Nat) (v : Word) : (s.setReg p off v).pending = s.pending := State.put_regs_pending ..
@[simp] theorem State.setReg_out (p : Page) (off : Nat) (v : Word) : (s.setReg p off v).out = s.out := State.put_regs_out ..
@[simp] theorem State.setReg_free (p : Page) (off : Nat) (v : Word) : (s.setReg p off v).free = s.free := State.put_regs_free ..
@[simp] theorem State.setReg_pins (p : Page) (off : Nat) (v : Word) : (s.setReg p off v).pins = s.pins := State.put_regs_pins ..
@[simp] theorem State.setReg_otp (p : Page) (off : Nat) (v : Word) : (s.setReg p off v).otp = s.otp := State.put_regs_otp ..
@[simp] theorem State.setReg_ctrs (p : Page) (off : Nat) (v : Word) : (s.setReg p off v).ctrs = s.ctrs := State.put_regs_ctrs ..
@[simp] theorem State.setReg_latch (p : Page) (off : Nat) (v : Word) : (s.setReg p off v).latch = s.latch := State.put_regs_latch ..
@[simp] theorem State.setReg_locks (p : Page) (off : Nat) (v : Word) : (s.setReg p off v).locks = s.locks := State.put_regs_locks ..
@[simp] theorem State.setReg_boot (p : Page) (off : Nat) (v : Word) : (s.setReg p off v).boot = s.boot := State.put_regs_boot ..
@[simp] theorem State.setReg_failed (p : Page) (off : Nat) (v : Word) : (s.setReg p off v).failed = s.failed := State.put_regs_failed ..
@[simp] theorem State.setReg_resetting (p : Page) (off : Nat) (v : Word) : (s.setReg p off v).resetting = s.resetting := State.put_regs_resetting ..
@[simp] theorem State.setReg_wearBase (p : Page) (off : Nat) (v : Word) : (s.setReg p off v).wearBase = s.wearBase := State.put_regs_wearBase ..
@[simp] theorem State.setReg_lanes (p : Page) (off : Nat) (v : Word) : (s.setReg p off v).lanes = s.lanes := State.put_regs_lanes ..
@[simp] theorem State.setReg_links (p : Page) (off : Nat) (v : Word) : (s.setReg p off v).links = s.links := State.put_regs_links ..
@[simp] theorem State.setReg_tabs (p : Page) (off : Nat) (v : Word) : (s.setReg p off v).tabs = s.tabs := State.put_regs_tabs ..
@[simp] theorem State.setReg_qdr (p : Page) (off : Nat) (v : Word) : (s.setReg p off v).qdr = s.qdr := State.put_regs_qdr ..
@[simp] theorem State.setReg_qdrBusy (p : Page) (off : Nat) (v : Word) : (s.setReg p off v).qdrBusy = s.qdrBusy := State.put_regs_qdrBusy ..
@[simp] theorem State.setReg_clss (p : Page) (off : Nat) (v : Word) : (s.setReg p off v).clss = s.clss := State.put_regs_clss ..
@[simp] theorem State.setReg_frames (p : Page) (off : Nat) (v : Word) : (s.setReg p off v).frames = s.frames := State.put_regs_frames ..
@[simp] theorem State.setReg_nextFrame (p : Page) (off : Nat) (v : Word) : (s.setReg p off v).nextFrame = s.nextFrame := State.put_regs_nextFrame ..
@[simp] theorem State.setReg_slices (p : Page) (off : Nat) (v : Word) : (s.setReg p off v).slices = s.slices := State.put_regs_slices ..
@[simp] theorem State.setReg_ports (p : Page) (off : Nat) (v : Word) : (s.setReg p off v).ports = s.ports := State.put_regs_ports ..
@[simp] theorem State.setReg_lrns (p : Page) (off : Nat) (v : Word) : (s.setReg p off v).lrns = s.lrns := State.put_regs_lrns ..
@[simp] theorem State.setReg_keels (p : Page) (off : Nat) (v : Word) : (s.setReg p off v).keels = s.keels := State.put_regs_keels ..
@[simp] theorem State.setReg_stalls (p : Page) (off : Nat) (v : Word) : (s.setReg p off v).stalls = s.stalls := State.put_regs_stalls ..
@[simp] theorem State.setReg_bufs (p : Page) (off : Nat) (v : Word) : (s.setReg p off v).bufs = s.bufs := State.put_regs_bufs ..
@[simp] theorem State.setReg_mcs (p : Page) (off : Nat) (v : Word) : (s.setReg p off v).mcs = s.mcs := State.put_regs_mcs ..
@[simp] theorem State.setReg_queues (p : Page) (off : Nat) (v : Word) : (s.setReg p off v).queues = s.queues := State.put_regs_queues ..
@[simp] theorem State.setReg_times (p : Page) (off : Nat) (v : Word) : (s.setReg p off v).times = s.times := State.put_regs_times ..
@[simp] theorem State.setReg_accts (p : Page) (off : Nat) (v : Word) : (s.setReg p off v).accts = s.accts := State.put_regs_accts ..
@[simp] theorem State.setReg_tels (p : Page) (off : Nat) (v : Word) : (s.setReg p off v).tels = s.tels := State.put_regs_tels ..
@[simp] theorem State.setReg_dumps (p : Page) (off : Nat) (v : Word) : (s.setReg p off v).dumps = s.dumps := State.put_regs_dumps ..
@[simp] theorem State.setReg_admits (p : Page) (off : Nat) (v : Word) : (s.setReg p off v).admits = s.admits := State.put_regs_admits ..
@[simp] theorem State.setReg_ciphers (p : Page) (off : Nat) (v : Word) : (s.setReg p off v).ciphers = s.ciphers := State.put_regs_ciphers ..
@[simp] theorem State.setReg_msecs (p : Page) (off : Nat) (v : Word) : (s.setReg p off v).msecs = s.msecs := State.put_regs_msecs ..
@[simp] theorem State.setReg_hosts (p : Page) (off : Nat) (v : Word) : (s.setReg p off v).hosts = s.hosts := State.put_regs_hosts ..
@[simp] theorem State.setReg_coxs (p : Page) (off : Nat) (v : Word) : (s.setReg p off v).coxs = s.coxs := State.put_regs_coxs ..
@[simp] theorem State.setReg_css (p : Page) (off : Nat) (v : Word) : (s.setReg p off v).css = s.css := State.put_regs_css ..
@[simp] theorem State.setReg_test (p : Page) (off : Nat) (v : Word) : (s.setReg p off v).test = s.test := State.put_regs_test ..
@[simp] theorem State.setReg_cget (p : Page) (off : Nat) (v : Word) (p' : Page) (f' : Fld) (i' : Nat) : (s.setReg p off v).cget p' f' i' = s.cget p' f' i' :=
  State.cget_congr (State.setReg_ctrs s p off v) ..

/-! `setSlice` -/
@[simp] theorem State.setSlice_pending (sl : Nat) (x : SliceSt) : (s.setSlice sl x).pending = s.pending := rfl
@[simp] theorem State.setSlice_out (sl : Nat) (x : SliceSt) : (s.setSlice sl x).out = s.out := rfl
@[simp] theorem State.setSlice_free (sl : Nat) (x : SliceSt) : (s.setSlice sl x).free = s.free := rfl
@[simp] theorem State.setSlice_pins (sl : Nat) (x : SliceSt) : (s.setSlice sl x).pins = s.pins := rfl
@[simp] theorem State.setSlice_otp (sl : Nat) (x : SliceSt) : (s.setSlice sl x).otp = s.otp := rfl
@[simp] theorem State.setSlice_regs (sl : Nat) (x : SliceSt) : (s.setSlice sl x).regs = s.regs := rfl
@[simp] theorem State.setSlice_ctrs (sl : Nat) (x : SliceSt) : (s.setSlice sl x).ctrs = s.ctrs := rfl
@[simp] theorem State.setSlice_latch (sl : Nat) (x : SliceSt) : (s.setSlice sl x).latch = s.latch := rfl
@[simp] theorem State.setSlice_locks (sl : Nat) (x : SliceSt) : (s.setSlice sl x).locks = s.locks := rfl
@[simp] theorem State.setSlice_boot (sl : Nat) (x : SliceSt) : (s.setSlice sl x).boot = s.boot := rfl
@[simp] theorem State.setSlice_failed (sl : Nat) (x : SliceSt) : (s.setSlice sl x).failed = s.failed := rfl
@[simp] theorem State.setSlice_resetting (sl : Nat) (x : SliceSt) : (s.setSlice sl x).resetting = s.resetting := rfl
@[simp] theorem State.setSlice_wearBase (sl : Nat) (x : SliceSt) : (s.setSlice sl x).wearBase = s.wearBase := rfl
@[simp] theorem State.setSlice_lanes (sl : Nat) (x : SliceSt) : (s.setSlice sl x).lanes = s.lanes := rfl
@[simp] theorem State.setSlice_links (sl : Nat) (x : SliceSt) : (s.setSlice sl x).links = s.links := rfl
@[simp] theorem State.setSlice_tabs (sl : Nat) (x : SliceSt) : (s.setSlice sl x).tabs = s.tabs := rfl
@[simp] theorem State.setSlice_qdr (sl : Nat) (x : SliceSt) : (s.setSlice sl x).qdr = s.qdr := rfl
@[simp] theorem State.setSlice_qdrBusy (sl : Nat) (x : SliceSt) : (s.setSlice sl x).qdrBusy = s.qdrBusy := rfl
@[simp] theorem State.setSlice_clss (sl : Nat) (x : SliceSt) : (s.setSlice sl x).clss = s.clss := rfl
@[simp] theorem State.setSlice_frames (sl : Nat) (x : SliceSt) : (s.setSlice sl x).frames = s.frames := rfl
@[simp] theorem State.setSlice_nextFrame (sl : Nat) (x : SliceSt) : (s.setSlice sl x).nextFrame = s.nextFrame := rfl
@[simp] theorem State.setSlice_ports (sl : Nat) (x : SliceSt) : (s.setSlice sl x).ports = s.ports := rfl
@[simp] theorem State.setSlice_lrns (sl : Nat) (x : SliceSt) : (s.setSlice sl x).lrns = s.lrns := rfl
@[simp] theorem State.setSlice_keels (sl : Nat) (x : SliceSt) : (s.setSlice sl x).keels = s.keels := rfl
@[simp] theorem State.setSlice_stalls (sl : Nat) (x : SliceSt) : (s.setSlice sl x).stalls = s.stalls := rfl
@[simp] theorem State.setSlice_bufs (sl : Nat) (x : SliceSt) : (s.setSlice sl x).bufs = s.bufs := rfl
@[simp] theorem State.setSlice_mcs (sl : Nat) (x : SliceSt) : (s.setSlice sl x).mcs = s.mcs := rfl
@[simp] theorem State.setSlice_queues (sl : Nat) (x : SliceSt) : (s.setSlice sl x).queues = s.queues := rfl
@[simp] theorem State.setSlice_times (sl : Nat) (x : SliceSt) : (s.setSlice sl x).times = s.times := rfl
@[simp] theorem State.setSlice_accts (sl : Nat) (x : SliceSt) : (s.setSlice sl x).accts = s.accts := rfl
@[simp] theorem State.setSlice_tels (sl : Nat) (x : SliceSt) : (s.setSlice sl x).tels = s.tels := rfl
@[simp] theorem State.setSlice_dumps (sl : Nat) (x : SliceSt) : (s.setSlice sl x).dumps = s.dumps := rfl
@[simp] theorem State.setSlice_admits (sl : Nat) (x : SliceSt) : (s.setSlice sl x).admits = s.admits := rfl
@[simp] theorem State.setSlice_ciphers (sl : Nat) (x : SliceSt) : (s.setSlice sl x).ciphers = s.ciphers := rfl
@[simp] theorem State.setSlice_msecs (sl : Nat) (x : SliceSt) : (s.setSlice sl x).msecs = s.msecs := rfl
@[simp] theorem State.setSlice_hosts (sl : Nat) (x : SliceSt) : (s.setSlice sl x).hosts = s.hosts := rfl
@[simp] theorem State.setSlice_coxs (sl : Nat) (x : SliceSt) : (s.setSlice sl x).coxs = s.coxs := rfl
@[simp] theorem State.setSlice_css (sl : Nat) (x : SliceSt) : (s.setSlice sl x).css = s.css := rfl
@[simp] theorem State.setSlice_test (sl : Nat) (x : SliceSt) : (s.setSlice sl x).test = s.test := rfl
@[simp] theorem State.setSlice_reg (sl : Nat) (x : SliceSt) (p' : Page) (o' : Nat) : (s.setSlice sl x).reg p' o' = s.reg p' o' :=
  State.reg_congr (State.setSlice_regs s sl x) ..
@[simp] theorem State.setSlice_fget (sl : Nat) (x : SliceSt) (p' : Page) (f' : Fld) (i' : Nat) : (s.setSlice sl x).fget p' f' i' = s.fget p' f' i' :=
  State.fget_congr (State.setSlice_regs s sl x) ..
@[simp] theorem State.setSlice_flag (sl : Nat) (x : SliceSt) (p' : Page) (f' : Fld) (i' : Nat) : (s.setSlice sl x).flag p' f' i' = s.flag p' f' i' :=
  State.flag_congr (State.setSlice_regs s sl x) ..
@[simp] theorem State.setSlice_cget (sl : Nat) (x : SliceSt) (p' : Page) (f' : Fld) (i' : Nat) : (s.setSlice sl x).cget p' f' i' = s.cget p' f' i' :=
  State.cget_congr (State.setSlice_ctrs s sl x) ..
@[simp] theorem State.setSlice_sliceOf (sl : Nat) (x : SliceSt) : (s.setSlice sl x).sliceOf sl = x := Sparse.get_set_same ..
theorem State.setSlice_sliceOf_ne (sl : Nat) (x : SliceSt) {k' : Nat} (hk : k' ≠ sl) : (s.setSlice sl x).sliceOf k' = s.sliceOf k' := Sparse.get_set_other _ _ _ hk

/-! `setTab` -/
@[simp] theorem State.setTab_pending (sl : Nat) (t : SliceTab) : (s.setTab sl t).pending = s.pending := rfl
@[simp] theorem State.setTab_out (sl : Nat) (t : SliceTab) : (s.setTab sl t).out = s.out := rfl
@[simp] theorem State.setTab_free (sl : Nat) (t : SliceTab) : (s.setTab sl t).free = s.free := rfl
@[simp] theorem State.setTab_pins (sl : Nat) (t : SliceTab) : (s.setTab sl t).pins = s.pins := rfl
@[simp] theorem State.setTab_otp (sl : Nat) (t : SliceTab) : (s.setTab sl t).otp = s.otp := rfl
@[simp] theorem State.setTab_regs (sl : Nat) (t : SliceTab) : (s.setTab sl t).regs = s.regs := rfl
@[simp] theorem State.setTab_ctrs (sl : Nat) (t : SliceTab) : (s.setTab sl t).ctrs = s.ctrs := rfl
@[simp] theorem State.setTab_latch (sl : Nat) (t : SliceTab) : (s.setTab sl t).latch = s.latch := rfl
@[simp] theorem State.setTab_locks (sl : Nat) (t : SliceTab) : (s.setTab sl t).locks = s.locks := rfl
@[simp] theorem State.setTab_boot (sl : Nat) (t : SliceTab) : (s.setTab sl t).boot = s.boot := rfl
@[simp] theorem State.setTab_failed (sl : Nat) (t : SliceTab) : (s.setTab sl t).failed = s.failed := rfl
@[simp] theorem State.setTab_resetting (sl : Nat) (t : SliceTab) : (s.setTab sl t).resetting = s.resetting := rfl
@[simp] theorem State.setTab_wearBase (sl : Nat) (t : SliceTab) : (s.setTab sl t).wearBase = s.wearBase := rfl
@[simp] theorem State.setTab_lanes (sl : Nat) (t : SliceTab) : (s.setTab sl t).lanes = s.lanes := rfl
@[simp] theorem State.setTab_links (sl : Nat) (t : SliceTab) : (s.setTab sl t).links = s.links := rfl
@[simp] theorem State.setTab_qdr (sl : Nat) (t : SliceTab) : (s.setTab sl t).qdr = s.qdr := rfl
@[simp] theorem State.setTab_qdrBusy (sl : Nat) (t : SliceTab) : (s.setTab sl t).qdrBusy = s.qdrBusy := rfl
@[simp] theorem State.setTab_clss (sl : Nat) (t : SliceTab) : (s.setTab sl t).clss = s.clss := rfl
@[simp] theorem State.setTab_frames (sl : Nat) (t : SliceTab) : (s.setTab sl t).frames = s.frames := rfl
@[simp] theorem State.setTab_nextFrame (sl : Nat) (t : SliceTab) : (s.setTab sl t).nextFrame = s.nextFrame := rfl
@[simp] theorem State.setTab_slices (sl : Nat) (t : SliceTab) : (s.setTab sl t).slices = s.slices := rfl
@[simp] theorem State.setTab_ports (sl : Nat) (t : SliceTab) : (s.setTab sl t).ports = s.ports := rfl
@[simp] theorem State.setTab_lrns (sl : Nat) (t : SliceTab) : (s.setTab sl t).lrns = s.lrns := rfl
@[simp] theorem State.setTab_keels (sl : Nat) (t : SliceTab) : (s.setTab sl t).keels = s.keels := rfl
@[simp] theorem State.setTab_stalls (sl : Nat) (t : SliceTab) : (s.setTab sl t).stalls = s.stalls := rfl
@[simp] theorem State.setTab_bufs (sl : Nat) (t : SliceTab) : (s.setTab sl t).bufs = s.bufs := rfl
@[simp] theorem State.setTab_mcs (sl : Nat) (t : SliceTab) : (s.setTab sl t).mcs = s.mcs := rfl
@[simp] theorem State.setTab_queues (sl : Nat) (t : SliceTab) : (s.setTab sl t).queues = s.queues := rfl
@[simp] theorem State.setTab_times (sl : Nat) (t : SliceTab) : (s.setTab sl t).times = s.times := rfl
@[simp] theorem State.setTab_accts (sl : Nat) (t : SliceTab) : (s.setTab sl t).accts = s.accts := rfl
@[simp] theorem State.setTab_tels (sl : Nat) (t : SliceTab) : (s.setTab sl t).tels = s.tels := rfl
@[simp] theorem State.setTab_dumps (sl : Nat) (t : SliceTab) : (s.setTab sl t).dumps = s.dumps := rfl
@[simp] theorem State.setTab_admits (sl : Nat) (t : SliceTab) : (s.setTab sl t).admits = s.admits := rfl
@[simp] theorem State.setTab_ciphers (sl : Nat) (t : SliceTab) : (s.setTab sl t).ciphers = s.ciphers := rfl
@[simp] theorem State.setTab_msecs (sl : Nat) (t : SliceTab) : (s.setTab sl t).msecs = s.msecs := rfl
@[simp] theorem State.setTab_hosts (sl : Nat) (t : SliceTab) : (s.setTab sl t).hosts = s.hosts := rfl
@[simp] theorem State.setTab_coxs (sl : Nat) (t : SliceTab) : (s.setTab sl t).coxs = s.coxs := rfl
@[simp] theorem State.setTab_css (sl : Nat) (t : SliceTab) : (s.setTab sl t).css = s.css := rfl
@[simp] theorem State.setTab_test (sl : Nat) (t : SliceTab) : (s.setTab sl t).test = s.test := rfl
@[simp] theorem State.setTab_reg (sl : Nat) (t : SliceTab) (p' : Page) (o' : Nat) : (s.setTab sl t).reg p' o' = s.reg p' o' :=
  State.reg_congr (State.setTab_regs s sl t) ..
@[simp] theorem State.setTab_fget (sl : Nat) (t : SliceTab) (p' : Page) (f' : Fld) (i' : Nat) : (s.setTab sl t).fget p' f' i' = s.fget p' f' i' :=
  State.fget_congr (State.setTab_regs s sl t) ..
@[simp] theorem State.setTab_flag (sl : Nat) (t : SliceTab) (p' : Page) (f' : Fld) (i' : Nat) : (s.setTab sl t).flag p' f' i' = s.flag p' f' i' :=
  State.flag_congr (State.setTab_regs s sl t) ..
@[simp] theorem State.setTab_cget (sl : Nat) (t : SliceTab) (p' : Page) (f' : Fld) (i' : Nat) : (s.setTab sl t).cget p' f' i' = s.cget p' f' i' :=
  State.cget_congr (State.setTab_ctrs s sl t) ..
@[simp] theorem State.setTab_tab (sl : Nat) (t : SliceTab) : (s.setTab sl t).tab sl = t := Sparse.get_set_same ..
theorem State.setTab_tab_ne (sl : Nat) (t : SliceTab) {k' : Nat} (hk : k' ≠ sl) : (s.setTab sl t).tab k' = s.tab k' := Sparse.get_set_other _ _ _ hk

/-! `setTel` -/
@[simp] theorem State.setTel_pending (d : Nat) (t : TelSt) : (s.setTel d t).pending = s.pending := rfl
@[simp] theorem State.setTel_out (d : Nat) (t : TelSt) : (s.setTel d t).out = s.out := rfl
@[simp] theorem State.setTel_free (d : Nat) (t : TelSt) : (s.setTel d t).free = s.free := rfl
@[simp] theorem State.setTel_pins (d : Nat) (t : TelSt) : (s.setTel d t).pins = s.pins := rfl
@[simp] theorem State.setTel_otp (d : Nat) (t : TelSt) : (s.setTel d t).otp = s.otp := rfl
@[simp] theorem State.setTel_regs (d : Nat) (t : TelSt) : (s.setTel d t).regs = s.regs := rfl
@[simp] theorem State.setTel_ctrs (d : Nat) (t : TelSt) : (s.setTel d t).ctrs = s.ctrs := rfl
@[simp] theorem State.setTel_latch (d : Nat) (t : TelSt) : (s.setTel d t).latch = s.latch := rfl
@[simp] theorem State.setTel_locks (d : Nat) (t : TelSt) : (s.setTel d t).locks = s.locks := rfl
@[simp] theorem State.setTel_boot (d : Nat) (t : TelSt) : (s.setTel d t).boot = s.boot := rfl
@[simp] theorem State.setTel_failed (d : Nat) (t : TelSt) : (s.setTel d t).failed = s.failed := rfl
@[simp] theorem State.setTel_resetting (d : Nat) (t : TelSt) : (s.setTel d t).resetting = s.resetting := rfl
@[simp] theorem State.setTel_wearBase (d : Nat) (t : TelSt) : (s.setTel d t).wearBase = s.wearBase := rfl
@[simp] theorem State.setTel_lanes (d : Nat) (t : TelSt) : (s.setTel d t).lanes = s.lanes := rfl
@[simp] theorem State.setTel_links (d : Nat) (t : TelSt) : (s.setTel d t).links = s.links := rfl
@[simp] theorem State.setTel_tabs (d : Nat) (t : TelSt) : (s.setTel d t).tabs = s.tabs := rfl
@[simp] theorem State.setTel_qdr (d : Nat) (t : TelSt) : (s.setTel d t).qdr = s.qdr := rfl
@[simp] theorem State.setTel_qdrBusy (d : Nat) (t : TelSt) : (s.setTel d t).qdrBusy = s.qdrBusy := rfl
@[simp] theorem State.setTel_clss (d : Nat) (t : TelSt) : (s.setTel d t).clss = s.clss := rfl
@[simp] theorem State.setTel_frames (d : Nat) (t : TelSt) : (s.setTel d t).frames = s.frames := rfl
@[simp] theorem State.setTel_nextFrame (d : Nat) (t : TelSt) : (s.setTel d t).nextFrame = s.nextFrame := rfl
@[simp] theorem State.setTel_slices (d : Nat) (t : TelSt) : (s.setTel d t).slices = s.slices := rfl
@[simp] theorem State.setTel_ports (d : Nat) (t : TelSt) : (s.setTel d t).ports = s.ports := rfl
@[simp] theorem State.setTel_lrns (d : Nat) (t : TelSt) : (s.setTel d t).lrns = s.lrns := rfl
@[simp] theorem State.setTel_keels (d : Nat) (t : TelSt) : (s.setTel d t).keels = s.keels := rfl
@[simp] theorem State.setTel_stalls (d : Nat) (t : TelSt) : (s.setTel d t).stalls = s.stalls := rfl
@[simp] theorem State.setTel_bufs (d : Nat) (t : TelSt) : (s.setTel d t).bufs = s.bufs := rfl
@[simp] theorem State.setTel_mcs (d : Nat) (t : TelSt) : (s.setTel d t).mcs = s.mcs := rfl
@[simp] theorem State.setTel_queues (d : Nat) (t : TelSt) : (s.setTel d t).queues = s.queues := rfl
@[simp] theorem State.setTel_times (d : Nat) (t : TelSt) : (s.setTel d t).times = s.times := rfl
@[simp] theorem State.setTel_accts (d : Nat) (t : TelSt) : (s.setTel d t).accts = s.accts := rfl
@[simp] theorem State.setTel_dumps (d : Nat) (t : TelSt) : (s.setTel d t).dumps = s.dumps := rfl
@[simp] theorem State.setTel_admits (d : Nat) (t : TelSt) : (s.setTel d t).admits = s.admits := rfl
@[simp] theorem State.setTel_ciphers (d : Nat) (t : TelSt) : (s.setTel d t).ciphers = s.ciphers := rfl
@[simp] theorem State.setTel_msecs (d : Nat) (t : TelSt) : (s.setTel d t).msecs = s.msecs := rfl
@[simp] theorem State.setTel_hosts (d : Nat) (t : TelSt) : (s.setTel d t).hosts = s.hosts := rfl
@[simp] theorem State.setTel_coxs (d : Nat) (t : TelSt) : (s.setTel d t).coxs = s.coxs := rfl
@[simp] theorem State.setTel_css (d : Nat) (t : TelSt) : (s.setTel d t).css = s.css := rfl
@[simp] theorem State.setTel_test (d : Nat) (t : TelSt) : (s.setTel d t).test = s.test := rfl
@[simp] theorem State.setTel_reg (d : Nat) (t : TelSt) (p' : Page) (o' : Nat) : (s.setTel d t).reg p' o' = s.reg p' o' :=
  State.reg_congr (State.setTel_regs s d t) ..
@[simp] theorem State.setTel_fget (d : Nat) (t : TelSt) (p' : Page) (f' : Fld) (i' : Nat) : (s.setTel d t).fget p' f' i' = s.fget p' f' i' :=
  State.fget_congr (State.setTel_regs s d t) ..
@[simp] theorem State.setTel_flag (d : Nat) (t : TelSt) (p' : Page) (f' : Fld) (i' : Nat) : (s.setTel d t).flag p' f' i' = s.flag p' f' i' :=
  State.flag_congr (State.setTel_regs s d t) ..
@[simp] theorem State.setTel_cget (d : Nat) (t : TelSt) (p' : Page) (f' : Fld) (i' : Nat) : (s.setTel d t).cget p' f' i' = s.cget p' f' i' :=
  State.cget_congr (State.setTel_ctrs s d t) ..
@[simp] theorem State.setTel_telOf (d : Nat) (t : TelSt) : (s.setTel d t).telOf d = t := Sparse.get_set_same ..
theorem State.setTel_telOf_ne (d : Nat) (t : TelSt) {k' : Nat} (hk : k' ≠ d) : (s.setTel d t).telOf k' = s.telOf k' := Sparse.get_set_other _ _ _ hk

/-! `setTime` -/
@[simp] theorem State.setTime_pending (d : Nat) (t : TimeSt) : (s.setTime d t).pending = s.pending := rfl
@[simp] theorem State.setTime_out (d : Nat) (t : TimeSt) : (s.setTime d t).out = s.out := rfl
@[simp] theorem State.setTime_free (d : Nat) (t : TimeSt) : (s.setTime d t).free = s.free := rfl
@[simp] theorem State.setTime_pins (d : Nat) (t : TimeSt) : (s.setTime d t).pins = s.pins := rfl
@[simp] theorem State.setTime_otp (d : Nat) (t : TimeSt) : (s.setTime d t).otp = s.otp := rfl
@[simp] theorem State.setTime_regs (d : Nat) (t : TimeSt) : (s.setTime d t).regs = s.regs := rfl
@[simp] theorem State.setTime_ctrs (d : Nat) (t : TimeSt) : (s.setTime d t).ctrs = s.ctrs := rfl
@[simp] theorem State.setTime_latch (d : Nat) (t : TimeSt) : (s.setTime d t).latch = s.latch := rfl
@[simp] theorem State.setTime_locks (d : Nat) (t : TimeSt) : (s.setTime d t).locks = s.locks := rfl
@[simp] theorem State.setTime_boot (d : Nat) (t : TimeSt) : (s.setTime d t).boot = s.boot := rfl
@[simp] theorem State.setTime_failed (d : Nat) (t : TimeSt) : (s.setTime d t).failed = s.failed := rfl
@[simp] theorem State.setTime_resetting (d : Nat) (t : TimeSt) : (s.setTime d t).resetting = s.resetting := rfl
@[simp] theorem State.setTime_wearBase (d : Nat) (t : TimeSt) : (s.setTime d t).wearBase = s.wearBase := rfl
@[simp] theorem State.setTime_lanes (d : Nat) (t : TimeSt) : (s.setTime d t).lanes = s.lanes := rfl
@[simp] theorem State.setTime_links (d : Nat) (t : TimeSt) : (s.setTime d t).links = s.links := rfl
@[simp] theorem State.setTime_tabs (d : Nat) (t : TimeSt) : (s.setTime d t).tabs = s.tabs := rfl
@[simp] theorem State.setTime_qdr (d : Nat) (t : TimeSt) : (s.setTime d t).qdr = s.qdr := rfl
@[simp] theorem State.setTime_qdrBusy (d : Nat) (t : TimeSt) : (s.setTime d t).qdrBusy = s.qdrBusy := rfl
@[simp] theorem State.setTime_clss (d : Nat) (t : TimeSt) : (s.setTime d t).clss = s.clss := rfl
@[simp] theorem State.setTime_frames (d : Nat) (t : TimeSt) : (s.setTime d t).frames = s.frames := rfl
@[simp] theorem State.setTime_nextFrame (d : Nat) (t : TimeSt) : (s.setTime d t).nextFrame = s.nextFrame := rfl
@[simp] theorem State.setTime_slices (d : Nat) (t : TimeSt) : (s.setTime d t).slices = s.slices := rfl
@[simp] theorem State.setTime_ports (d : Nat) (t : TimeSt) : (s.setTime d t).ports = s.ports := rfl
@[simp] theorem State.setTime_lrns (d : Nat) (t : TimeSt) : (s.setTime d t).lrns = s.lrns := rfl
@[simp] theorem State.setTime_keels (d : Nat) (t : TimeSt) : (s.setTime d t).keels = s.keels := rfl
@[simp] theorem State.setTime_stalls (d : Nat) (t : TimeSt) : (s.setTime d t).stalls = s.stalls := rfl
@[simp] theorem State.setTime_bufs (d : Nat) (t : TimeSt) : (s.setTime d t).bufs = s.bufs := rfl
@[simp] theorem State.setTime_mcs (d : Nat) (t : TimeSt) : (s.setTime d t).mcs = s.mcs := rfl
@[simp] theorem State.setTime_queues (d : Nat) (t : TimeSt) : (s.setTime d t).queues = s.queues := rfl
@[simp] theorem State.setTime_accts (d : Nat) (t : TimeSt) : (s.setTime d t).accts = s.accts := rfl
@[simp] theorem State.setTime_tels (d : Nat) (t : TimeSt) : (s.setTime d t).tels = s.tels := rfl
@[simp] theorem State.setTime_dumps (d : Nat) (t : TimeSt) : (s.setTime d t).dumps = s.dumps := rfl
@[simp] theorem State.setTime_admits (d : Nat) (t : TimeSt) : (s.setTime d t).admits = s.admits := rfl
@[simp] theorem State.setTime_ciphers (d : Nat) (t : TimeSt) : (s.setTime d t).ciphers = s.ciphers := rfl
@[simp] theorem State.setTime_msecs (d : Nat) (t : TimeSt) : (s.setTime d t).msecs = s.msecs := rfl
@[simp] theorem State.setTime_hosts (d : Nat) (t : TimeSt) : (s.setTime d t).hosts = s.hosts := rfl
@[simp] theorem State.setTime_coxs (d : Nat) (t : TimeSt) : (s.setTime d t).coxs = s.coxs := rfl
@[simp] theorem State.setTime_css (d : Nat) (t : TimeSt) : (s.setTime d t).css = s.css := rfl
@[simp] theorem State.setTime_test (d : Nat) (t : TimeSt) : (s.setTime d t).test = s.test := rfl
@[simp] theorem State.setTime_reg (d : Nat) (t : TimeSt) (p' : Page) (o' : Nat) : (s.setTime d t).reg p' o' = s.reg p' o' :=
  State.reg_congr (State.setTime_regs s d t) ..
@[simp] theorem State.setTime_fget (d : Nat) (t : TimeSt) (p' : Page) (f' : Fld) (i' : Nat) : (s.setTime d t).fget p' f' i' = s.fget p' f' i' :=
  State.fget_congr (State.setTime_regs s d t) ..
@[simp] theorem State.setTime_flag (d : Nat) (t : TimeSt) (p' : Page) (f' : Fld) (i' : Nat) : (s.setTime d t).flag p' f' i' = s.flag p' f' i' :=
  State.flag_congr (State.setTime_regs s d t) ..
@[simp] theorem State.setTime_cget (d : Nat) (t : TimeSt) (p' : Page) (f' : Fld) (i' : Nat) : (s.setTime d t).cget p' f' i' = s.cget p' f' i' :=
  State.cget_congr (State.setTime_ctrs s d t) ..
@[simp] theorem State.setTime_timeOf (d : Nat) (t : TimeSt) : (s.setTime d t).timeOf d = t := Sparse.get_set_same ..
theorem State.setTime_timeOf_ne (d : Nat) (t : TimeSt) {k' : Nat} (hk : k' ≠ d) : (s.setTime d t).timeOf k' = s.timeOf k' := Sparse.get_set_other _ _ _ hk

/-! `toAdmit` -/
@[simp] theorem State.toAdmit_pending (d uid : Nat) : (s.toAdmit d uid).pending = s.pending := rfl
@[simp] theorem State.toAdmit_out (d uid : Nat) : (s.toAdmit d uid).out = s.out := rfl
@[simp] theorem State.toAdmit_free (d uid : Nat) : (s.toAdmit d uid).free = s.free := rfl
@[simp] theorem State.toAdmit_pins (d uid : Nat) : (s.toAdmit d uid).pins = s.pins := rfl
@[simp] theorem State.toAdmit_otp (d uid : Nat) : (s.toAdmit d uid).otp = s.otp := rfl
@[simp] theorem State.toAdmit_regs (d uid : Nat) : (s.toAdmit d uid).regs = s.regs := rfl
@[simp] theorem State.toAdmit_ctrs (d uid : Nat) : (s.toAdmit d uid).ctrs = s.ctrs := rfl
@[simp] theorem State.toAdmit_latch (d uid : Nat) : (s.toAdmit d uid).latch = s.latch := rfl
@[simp] theorem State.toAdmit_locks (d uid : Nat) : (s.toAdmit d uid).locks = s.locks := rfl
@[simp] theorem State.toAdmit_boot (d uid : Nat) : (s.toAdmit d uid).boot = s.boot := rfl
@[simp] theorem State.toAdmit_failed (d uid : Nat) : (s.toAdmit d uid).failed = s.failed := rfl
@[simp] theorem State.toAdmit_resetting (d uid : Nat) : (s.toAdmit d uid).resetting = s.resetting := rfl
@[simp] theorem State.toAdmit_wearBase (d uid : Nat) : (s.toAdmit d uid).wearBase = s.wearBase := rfl
@[simp] theorem State.toAdmit_lanes (d uid : Nat) : (s.toAdmit d uid).lanes = s.lanes := rfl
@[simp] theorem State.toAdmit_links (d uid : Nat) : (s.toAdmit d uid).links = s.links := rfl
@[simp] theorem State.toAdmit_tabs (d uid : Nat) : (s.toAdmit d uid).tabs = s.tabs := rfl
@[simp] theorem State.toAdmit_qdr (d uid : Nat) : (s.toAdmit d uid).qdr = s.qdr := rfl
@[simp] theorem State.toAdmit_qdrBusy (d uid : Nat) : (s.toAdmit d uid).qdrBusy = s.qdrBusy := rfl
@[simp] theorem State.toAdmit_clss (d uid : Nat) : (s.toAdmit d uid).clss = s.clss := rfl
@[simp] theorem State.toAdmit_frames (d uid : Nat) : (s.toAdmit d uid).frames = s.frames := rfl
@[simp] theorem State.toAdmit_nextFrame (d uid : Nat) : (s.toAdmit d uid).nextFrame = s.nextFrame := rfl
@[simp] theorem State.toAdmit_slices (d uid : Nat) : (s.toAdmit d uid).slices = s.slices := rfl
@[simp] theorem State.toAdmit_ports (d uid : Nat) : (s.toAdmit d uid).ports = s.ports := rfl
@[simp] theorem State.toAdmit_lrns (d uid : Nat) : (s.toAdmit d uid).lrns = s.lrns := rfl
@[simp] theorem State.toAdmit_keels (d uid : Nat) : (s.toAdmit d uid).keels = s.keels := rfl
@[simp] theorem State.toAdmit_stalls (d uid : Nat) : (s.toAdmit d uid).stalls = s.stalls := rfl
@[simp] theorem State.toAdmit_bufs (d uid : Nat) : (s.toAdmit d uid).bufs = s.bufs := rfl
@[simp] theorem State.toAdmit_mcs (d uid : Nat) : (s.toAdmit d uid).mcs = s.mcs := rfl
@[simp] theorem State.toAdmit_queues (d uid : Nat) : (s.toAdmit d uid).queues = s.queues := rfl
@[simp] theorem State.toAdmit_times (d uid : Nat) : (s.toAdmit d uid).times = s.times := rfl
@[simp] theorem State.toAdmit_accts (d uid : Nat) : (s.toAdmit d uid).accts = s.accts := rfl
@[simp] theorem State.toAdmit_tels (d uid : Nat) : (s.toAdmit d uid).tels = s.tels := rfl
@[simp] theorem State.toAdmit_dumps (d uid : Nat) : (s.toAdmit d uid).dumps = s.dumps := rfl
@[simp] theorem State.toAdmit_ciphers (d uid : Nat) : (s.toAdmit d uid).ciphers = s.ciphers := rfl
@[simp] theorem State.toAdmit_msecs (d uid : Nat) : (s.toAdmit d uid).msecs = s.msecs := rfl
@[simp] theorem State.toAdmit_hosts (d uid : Nat) : (s.toAdmit d uid).hosts = s.hosts := rfl
@[simp] theorem State.toAdmit_coxs (d uid : Nat) : (s.toAdmit d uid).coxs = s.coxs := rfl
@[simp] theorem State.toAdmit_css (d uid : Nat) : (s.toAdmit d uid).css = s.css := rfl
@[simp] theorem State.toAdmit_test (d uid : Nat) : (s.toAdmit d uid).test = s.test := rfl
@[simp] theorem State.toAdmit_reg (d uid : Nat) (p' : Page) (o' : Nat) : (s.toAdmit d uid).reg p' o' = s.reg p' o' :=
  State.reg_congr (State.toAdmit_regs s d uid) ..
@[simp] theorem State.toAdmit_fget (d uid : Nat) (p' : Page) (f' : Fld) (i' : Nat) : (s.toAdmit d uid).fget p' f' i' = s.fget p' f' i' :=
  State.fget_congr (State.toAdmit_regs s d uid) ..
@[simp] theorem State.toAdmit_flag (d uid : Nat) (p' : Page) (f' : Fld) (i' : Nat) : (s.toAdmit d uid).flag p' f' i' = s.flag p' f' i' :=
  State.flag_congr (State.toAdmit_regs s d uid) ..
@[simp] theorem State.toAdmit_cget (d uid : Nat) (p' : Page) (f' : Fld) (i' : Nat) : (s.toAdmit d uid).cget p' f' i' = s.cget p' f' i' :=
  State.cget_congr (State.toAdmit_ctrs s d uid) ..

/-! `withPending` -/
@[simp] theorem State.withPending_out (q : List Instr) : (s.withPending q).out = s.out := rfl
@[simp] theorem State.withPending_free (q : List Instr) : (s.withPending q).free = s.free := rfl
@[simp] theorem State.withPending_pins (q : List Instr) : (s.withPending q).pins = s.pins := rfl
@[simp] theorem State.withPending_otp (q : List Instr) : (s.withPending q).otp = s.otp := rfl
@[simp] theorem State.withPending_regs (q : List Instr) : (s.withPending q).regs = s.regs := rfl
@[simp] theorem State.withPending_ctrs (q : List Instr) : (s.withPending q).ctrs = s.ctrs := rfl
@[simp] theorem State.withPending_latch (q : List Instr) : (s.withPending q).latch = s.latch := rfl
@[simp] theorem State.withPending_locks (q : List Instr) : (s.withPending q).locks = s.locks := rfl
@[simp] theorem State.withPending_boot (q : List Instr) : (s.withPending q).boot = s.boot := rfl
@[simp] theorem State.withPending_failed (q : List Instr) : (s.withPending q).failed = s.failed := rfl
@[simp] theorem State.withPending_resetting (q : List Instr) : (s.withPending q).resetting = s.resetting := rfl
@[simp] theorem State.withPending_wearBase (q : List Instr) : (s.withPending q).wearBase = s.wearBase := rfl
@[simp] theorem State.withPending_lanes (q : List Instr) : (s.withPending q).lanes = s.lanes := rfl
@[simp] theorem State.withPending_links (q : List Instr) : (s.withPending q).links = s.links := rfl
@[simp] theorem State.withPending_tabs (q : List Instr) : (s.withPending q).tabs = s.tabs := rfl
@[simp] theorem State.withPending_qdr (q : List Instr) : (s.withPending q).qdr = s.qdr := rfl
@[simp] theorem State.withPending_qdrBusy (q : List Instr) : (s.withPending q).qdrBusy = s.qdrBusy := rfl
@[simp] theorem State.withPending_clss (q : List Instr) : (s.withPending q).clss = s.clss := rfl
@[simp] theorem State.withPending_frames (q : List Instr) : (s.withPending q).frames = s.frames := rfl
@[simp] theorem State.withPending_nextFrame (q : List Instr) : (s.withPending q).nextFrame = s.nextFrame := rfl
@[simp] theorem State.withPending_slices (q : List Instr) : (s.withPending q).slices = s.slices := rfl
@[simp] theorem State.withPending_ports (q : List Instr) : (s.withPending q).ports = s.ports := rfl
@[simp] theorem State.withPending_lrns (q : List Instr) : (s.withPending q).lrns = s.lrns := rfl
@[simp] theorem State.withPending_keels (q : List Instr) : (s.withPending q).keels = s.keels := rfl
@[simp] theorem State.withPending_stalls (q : List Instr) : (s.withPending q).stalls = s.stalls := rfl
@[simp] theorem State.withPending_bufs (q : List Instr) : (s.withPending q).bufs = s.bufs := rfl
@[simp] theorem State.withPending_mcs (q : List Instr) : (s.withPending q).mcs = s.mcs := rfl
@[simp] theorem State.withPending_queues (q : List Instr) : (s.withPending q).queues = s.queues := rfl
@[simp] theorem State.withPending_times (q : List Instr) : (s.withPending q).times = s.times := rfl
@[simp] theorem State.withPending_accts (q : List Instr) : (s.withPending q).accts = s.accts := rfl
@[simp] theorem State.withPending_tels (q : List Instr) : (s.withPending q).tels = s.tels := rfl
@[simp] theorem State.withPending_dumps (q : List Instr) : (s.withPending q).dumps = s.dumps := rfl
@[simp] theorem State.withPending_admits (q : List Instr) : (s.withPending q).admits = s.admits := rfl
@[simp] theorem State.withPending_ciphers (q : List Instr) : (s.withPending q).ciphers = s.ciphers := rfl
@[simp] theorem State.withPending_msecs (q : List Instr) : (s.withPending q).msecs = s.msecs := rfl
@[simp] theorem State.withPending_hosts (q : List Instr) : (s.withPending q).hosts = s.hosts := rfl
@[simp] theorem State.withPending_coxs (q : List Instr) : (s.withPending q).coxs = s.coxs := rfl
@[simp] theorem State.withPending_css (q : List Instr) : (s.withPending q).css = s.css := rfl
@[simp] theorem State.withPending_test (q : List Instr) : (s.withPending q).test = s.test := rfl
@[simp] theorem State.withPending_reg (q : List Instr) (p' : Page) (o' : Nat) : (s.withPending q).reg p' o' = s.reg p' o' :=
  State.reg_congr (State.withPending_regs s q) ..
@[simp] theorem State.withPending_fget (q : List Instr) (p' : Page) (f' : Fld) (i' : Nat) : (s.withPending q).fget p' f' i' = s.fget p' f' i' :=
  State.fget_congr (State.withPending_regs s q) ..
@[simp] theorem State.withPending_flag (q : List Instr) (p' : Page) (f' : Fld) (i' : Nat) : (s.withPending q).flag p' f' i' = s.flag p' f' i' :=
  State.flag_congr (State.withPending_regs s q) ..
@[simp] theorem State.withPending_cget (q : List Instr) (p' : Page) (f' : Fld) (i' : Nat) : (s.withPending q).cget p' f' i' = s.cget p' f' i' :=
  State.cget_congr (State.withPending_ctrs s q) ..
@[simp] theorem State.withPending_pending (q : List Instr) : (s.withPending q).pending = q := rfl

end Sys2Proof.Machine
end

