-- ==== Sys2Proof/Laws/Step.lean ====
section
/-!
SUPPORT. What each operation of Machine/Step.lean can change, and that it takes nothing back.
-/
namespace Sys2Proof.Machine

theorem State.withPending_does {M : Nat} {s0 s : State} {x1} (hM : Sub 1 M) (h : Does M s0 s) :
    Does M s0 (State.withPending s x1) := by
  unfold State.withPending
  repeat' (first
    | with_reducible assumption
    | with_reducible refine Does.put_pending (Sub.trans (by decide) hM) ?_)

theorem State.push_does {M : Nat} {s0 s : State} {x1} (hM : Sub 1 M) (h : Does M s0 s) :
    Does M s0 (State.push s x1) := by
  unfold State.push
  repeat' (first
    | with_reducible assumption
    | with_reducible refine State.withPending_does (Sub.trans (by decide) hM) ?_)

theorem State.withFetchWord_does {M : Nat} {s0 s : State} {x1} {x2} (hM : Sub 1 M) (h : Does M s0 s) :
    Does M s0 (State.withFetchWord s x1 x2) := by
  unfold State.withFetchWord
  repeat' (first
    | with_reducible assumption
    | with_reducible refine State.push_does (Sub.trans (by decide) hM) ?_
    | split)

end Sys2Proof.Machine
end

