-- ==== Sys2Proof/Laws/Exec.lean ====
section
/-!
SUPPORT. One law of every command, by cases on the command: what it can change, and that it takes nothing back.
-/
namespace Sys2Proof.Machine

theorem Part.mask_bit (l : List Part) (p : Part) : (Part.mask l).testBit p.idx = decide (p ∈ l) := by
  induction l with
  | nil => simp [Part.mask]
  | cons q r ih =>
    have e : p.idx = q.idx ↔ p = q := ⟨by cases p <;> cases q <;> decide, fun h => h ▸ rfl⟩
    rw [Part.mask, Nat.testBit_or, ih, Nat.testBit_two_pow]
    by_cases h : p = q
    · simp [h]
    · simp [h, Ne.symm (mt e.mp h)]

theorem Part.idx_lt (p : Part) : p.idx < 64 := by cases p <;> decide

theorem Part.mask_high (l : List Part) {i : Nat} (hi : 64 ≤ i) : (Part.mask l).testBit i = false := by
  induction l with
  | nil => simp [Part.mask]
  | cons q r ih =>
    have := q.idx_lt
    rw [Part.mask, Nat.testBit_or, ih, Nat.testBit_two_pow, Bool.or_false, decide_eq_false (by omega)]

theorem Kind.mask_bit (b : Bool) (l : List Kind) (i : Nat) :
    (Kind.mask b l).testBit i = decide (∃ k ∈ l, i = 64 + k.code + if b then 64 else 0) := by
  induction l with
  | nil => simp [Kind.mask]
  | cons q r ih => rw [Kind.mask, Nat.testBit_or, ih, Nat.testBit_two_pow]; simp [eq_comm]

/-- A part outside the list of a command has no bit in its set. -/
theorem Touch.mask_part (x : Touch) {p : Part} (h : p ∉ x.parts) : x.mask.testBit p.idx = false := by
  have hp := p.idx_lt
  have hk : ∀ b l, (Kind.mask b l).testBit p.idx = false := fun b l => by
    rw [Kind.mask_bit, decide_eq_false]; rintro ⟨k, -, e⟩; omega
  rw [Touch.mask, Nat.testBit_or, Nat.testBit_or, Part.mask_bit, hk, hk]; simp [h]

/-- A register space outside the lists of a command has no bit in its set. -/
theorem Touch.mask_reg (x : Touch) {k : Kind} {o : Nat} (h : k ∉ if o < 0x40 then x.head else x.own) :
    x.mask.testBit (64 + k.space o) = false := by
  have hk := k.code_lt
  rw [Touch.mask, Nat.testBit_or, Nat.testBit_or, Part.mask_high _ (by omega), Kind.mask_bit, Kind.mask_bit]
  simp only [Bool.or_eq_false_iff, decide_eq_false_iff_not, true_and, Bool.false_eq_true, if_false, if_true, Kind.space]
  constructor
  · rintro ⟨q, hq, e⟩
    have := q.code_lt
    split at h
    · simp_all; omega
    · rw [Kind.code_inj (k := k) (k' := q) (by split at e <;> omega)] at h; exact h hq
  · rintro ⟨q, hq, e⟩
    have := q.code_lt
    split at h
    · rw [Kind.code_inj (k := k) (k' := q) (by split at e <;> omega)] at h; exact h hq
    · simp_all; omega

theorem exec_does (c : Instr) (s t : State) (h : exec c s = .next t) : Does (touches c).mask s t := by
  cases c
  case registerWrite => exact execRegisterWrite_does h (by dsimp only [touches]; decide) (Does.refl s)
  case counterLowWordRead => exact execCounterLowWordRead_does h (by dsimp only [touches]; decide) (Does.refl s)
  case unitReset => exact execUnitReset_does h (by dsimp only [touches]; decide) (Does.refl s)
  case unitResetDone => exact execUnitResetDone_does h (by dsimp only [touches]; decide) (Does.refl s)
  case lockAcquire => exact execLockAcquire_does h (by dsimp only [touches]; decide) (Does.refl s)
  case lockRelease => exact execLockRelease_does h (by dsimp only [touches]; decide) (Does.refl s)
  case lockForce => exact execLockForce_does h (by dsimp only [touches]; decide) (Does.refl s)
  case interimSnapshotTrigger => exact execInterimSnapshotTrigger_does h (by dsimp only [touches]; decide) (Does.refl s)
  case pmcDumpTrigger => exact execPmcDumpTrigger_does h (by dsimp only [touches]; decide) (Does.refl s)
  case pwrgoodAonAssert => exact execPwrgoodAonAssert_does h (by dsimp only [touches]; decide) (Does.refl s)
  case pwrgoodAonDeassert => exact execPwrgoodAonDeassert_does h (by dsimp only [touches]; decide) (Does.refl s)
  case resetNAssert => exact execResetNAssert_does h (by dsimp only [touches]; decide) (Does.refl s)
  case resetNDeassert => exact execResetNDeassert_does h (by dsimp only [touches]; decide) (Does.refl s)
  case rollCallDone => exact execRollCallDone_does h (by dsimp only [touches]; decide) (Does.refl s)
  case shadowFrameResend => exact execShadowFrameResend_does h (by dsimp only [touches]; decide) (Does.refl s)
  case shadowDone => exact execShadowDone_does h (by dsimp only [touches]; decide) (Does.refl s)
  case shadowFirstPartTimeout => exact execShadowFirstPartTimeout_does h (by dsimp only [touches]; decide) (Does.refl s)
  case shadowSecondPartTimeout => exact execShadowSecondPartTimeout_does h (by dsimp only [touches]; decide) (Does.refl s)
  case railOutOfRange => exact execRailOutOfRange_does h (by dsimp only [touches]; decide) (Does.refl s)
  case aonClkLoss => exact execAonClkLoss_does h (by dsimp only [touches]; decide) (Does.refl s)
  case refclkLaneLoss => exact execRefclkLaneLoss_does h (by dsimp only [touches]; decide) (Does.refl s)
  case entdaa => exact execEntdaa_does h (by dsimp only [touches]; decide) (Does.refl s)
  case setdasa => exact execSetdasa_does h (by dsimp only [touches]; decide) (Does.refl s)
  case rstdaa => exact execRstdaa_does h (by dsimp only [touches]; decide) (Does.refl s)
  case getpid => exact execGetpid_does h (by dsimp only [touches]; decide) (Does.refl s)
  case getbcr => exact execGetbcr_does h (by dsimp only [touches]; decide) (Does.refl s)
  case getdcr => exact execGetdcr_does h (by dsimp only [touches]; decide) (Does.refl s)
  case i3cPrivateWrite => exact execI3cPrivateWrite_does h (by dsimp only [touches]; decide) (Does.refl s)
  case i3cPrivateRead => exact execI3cPrivateRead_does h (by dsimp only [touches]; decide) (Does.refl s)
  case eightArrangeWrite => exact execEightArrangeWrite_does h (by dsimp only [touches]; decide) (Does.refl s)
  case eightPairRateWrite => exact execEightPairRateWrite_does h (by dsimp only [touches]; decide) (Does.refl s)
  case laneRxLimitWrite => exact execLaneRxLimitWrite_does h (by dsimp only [touches]; decide) (Does.refl s)
  case portEnable => exact execPortEnable_does h (by dsimp only [touches]; decide) (Does.refl s)
  case portDisable => exact execPortDisable_does h (by dsimp only [touches]; decide) (Does.refl s)
  case anResolved => exact execAnResolved_does h (by dsimp only [touches]; decide) (Does.refl s)
  case anFail => exact execAnFail_does h (by dsimp only [touches]; decide) (Does.refl s)
  case anBreakLinkExpire => exact execAnBreakLinkExpire_does h (by dsimp only [touches]; decide) (Does.refl s)
  case trainCoefRequest => exact execTrainCoefRequest_does h (by dsimp only [touches]; decide) (Does.refl s)
  case trainComplete => exact execTrainComplete_does h (by dsimp only [touches]; decide) (Does.refl s)
  case trainTimeout => exact execTrainTimeout_does h (by dsimp only [touches]; decide) (Does.refl s)
  case alignLock => exact execAlignLock_does h (by dsimp only [touches]; decide) (Does.refl s)
  case alignTimeout => exact execAlignTimeout_does h (by dsimp only [touches]; decide) (Does.refl s)
  case upHoldoffExpire => exact execUpHoldoffExpire_does h (by dsimp only [touches]; decide) (Does.refl s)
  case holdFaultTimeout => exact execHoldFaultTimeout_does h (by dsimp only [touches]; decide) (Does.refl s)
  case linkDownDetect => exact execLinkDownDetect_does h (by dsimp only [touches]; decide) (Does.refl s)
  case linkDownClear => exact execLinkDownClear_does h (by dsimp only [touches]; decide) (Does.refl s)
  case downDebounceExpire => exact execDownDebounceExpire_does h (by dsimp only [touches]; decide) (Does.refl s)
  case remoteFaultDebounceExpire => exact execRemoteFaultDebounceExpire_does h (by dsimp only [touches]; decide) (Does.refl s)
  case remoteFaultClear => exact execRemoteFaultClear_does h (by dsimp only [touches]; decide) (Does.refl s)
  case portFlushDone => exact execPortFlushDone_does h (by dsimp only [touches]; decide) (Does.refl s)
  case frameRx => exact execFrameRx_does h (by dsimp only [touches]; decide) (Does.refl s)
  case pauseRx => exact execPauseRx_does h (by dsimp only [touches]; decide) (Does.refl s)
  case pfcRx => exact execPfcRx_does h (by dsimp only [touches]; decide) (Does.refl s)
  case pfcPauseExpire => exact execPfcPauseExpire_does h (by dsimp only [touches]; decide) (Does.refl s)
  case mmFragmentRx => exact execMmFragmentRx_does h (by dsimp only [touches]; decide) (Does.refl s)
  case mmVerifyRx => exact execMmVerifyRx_does h (by dsimp only [touches]; decide) (Does.refl s)
  case mmResponseRx => exact execMmResponseRx_does h (by dsimp only [touches]; decide) (Does.refl s)
  case mmVerifyTimer => exact execMmVerifyTimer_does h (by dsimp only [touches]; decide) (Does.refl s)
  case pipelineEntry => exact execPipelineEntry_does h (by dsimp only [touches]; decide) (Does.refl s)
  case clsWalkDone => exact execClsWalkDone_does h (by dsimp only [touches]; decide) (Does.refl s)
  case treeFailedMark => exact execTreeFailedMark_does h (by dsimp only [touches]; decide) (Does.refl s)
  case clsFifoResume => exact execClsFifoResume_does h (by dsimp only [touches]; decide) (Does.refl s)
  case pipelineStallRelease => exact execPipelineStallRelease_does h (by dsimp only [touches]; decide) (Does.refl s)
  case clsTreeSwap => exact execClsTreeSwap_does h (by dsimp only [touches]; decide) (Does.refl s)
  case clsSwapDone => exact execClsSwapDone_does h (by dsimp only [touches]; decide) (Does.refl s)
  case clsTreeRootWrite => exact execClsTreeRootWrite_does h (by dsimp only [touches]; decide) (Does.refl s)
  case clsCacheFlush => exact execClsCacheFlush_does h (by dsimp only [touches]; decide) (Does.refl s)
  case clsTtWrite => exact execClsTtWrite_does h (by dsimp only [touches]; decide) (Does.refl s)
  case clsTtRead => exact execClsTtRead_does h (by dsimp only [touches]; decide) (Does.refl s)
  case qdrWrite => exact execQdrWrite_does h (by dsimp only [touches]; decide) (Does.refl s)
  case qdrRead => exact execQdrRead_does h (by dsimp only [touches]; decide) (Does.refl s)
  case qdrAccessDone => exact execQdrAccessDone_does h (by dsimp only [touches]; decide) (Does.refl s)
  case prsMemWrite => exact execPrsMemWrite_does h (by dsimp only [touches]; decide) (Does.refl s)
  case prsMemRead => exact execPrsMemRead_does h (by dsimp only [touches]; decide) (Does.refl s)
  case tmapInsert => exact execTmapInsert_does h (by dsimp only [touches]; decide) (Does.refl s)
  case tmapDelete => exact execTmapDelete_does h (by dsimp only [touches]; decide) (Does.refl s)
  case tmapLookup => exact execTmapLookup_does h (by dsimp only [touches]; decide) (Does.refl s)
  case tcamInvalidate => exact execTcamInvalidate_does h (by dsimp only [touches]; decide) (Does.refl s)
  case tcamWrite => exact execTcamWrite_does h (by dsimp only [touches]; decide) (Does.refl s)
  case tcamValidate => exact execTcamValidate_does h (by dsimp only [touches]; decide) (Does.refl s)
  case tcamRead => exact execTcamRead_does h (by dsimp only [touches]; decide) (Does.refl s)
  case tcamBlockCfgWrite => exact execTcamBlockCfgWrite_does h (by dsimp only [touches]; decide) (Does.refl s)
  case tcamScrub => exact execTcamScrub_does h (by dsimp only [touches]; decide) (Does.refl s)
  case stageCfgWrite => exact execStageCfgWrite_does h (by dsimp only [touches]; decide) (Does.refl s)
  case emInsert => exact execEmInsert_does h (by dsimp only [touches]; decide) (Does.refl s)
  case emDelete => exact execEmDelete_does h (by dsimp only [touches]; decide) (Does.refl s)
  case emLookup => exact execEmLookup_does h (by dsimp only [touches]; decide) (Does.refl s)
  case emCmdDone => exact execEmCmdDone_does h (by dsimp only [touches]; decide) (Does.refl s)
  case emSeedWrite => exact execEmSeedWrite_does h (by dsimp only [touches]; decide) (Does.refl s)
  case lpmInsert => exact execLpmInsert_does h (by dsimp only [touches]; decide) (Does.refl s)
  case lpmDelete => exact execLpmDelete_does h (by dsimp only [touches]; decide) (Does.refl s)
  case lpmLookup => exact execLpmLookup_does h (by dsimp only [touches]; decide) (Does.refl s)
  case lpmCmdDone => exact execLpmCmdDone_does h (by dsimp only [touches]; decide) (Does.refl s)
  case tblIdxWrite => exact execTblIdxWrite_does h (by dsimp only [touches]; decide) (Does.refl s)
  case tblIdxRead => exact execTblIdxRead_does h (by dsimp only [touches]; decide) (Does.refl s)
  case parityRepair => exact execParityRepair_does h (by dsimp only [touches]; decide) (Does.refl s)
  case tableLockRequest => exact execTableLockRequest_does h (by dsimp only [touches]; decide) (Does.refl s)
  case tableLockGrant => exact execTableLockGrant_does h (by dsimp only [touches]; decide) (Does.refl s)
  case tableLockRelease => exact execTableLockRelease_does h (by dsimp only [touches]; decide) (Does.refl s)
  case tableLockTimeout => exact execTableLockTimeout_does h (by dsimp only [touches]; decide) (Does.refl s)
  case learnEventApply => exact execLearnEventApply_does h (by dsimp only [touches]; decide) (Does.refl s)
  case learnUnpin => exact execLearnUnpin_does h (by dsimp only [touches]; decide) (Does.refl s)
  case learnMoveWindowExpire => exact execLearnMoveWindowExpire_does h (by dsimp only [touches]; decide) (Does.refl s)
  case ageScan => exact execAgeScan_does h (by dsimp only [touches]; decide) (Does.refl s)
  case engineDispatch => exact execEngineDispatch_does h (by dsimp only [touches]; decide) (Does.refl s)
  case aluNop => exact execAluNop_does h (by dsimp only [touches]; decide) (Does.refl s)
  case aluMov => exact execAluMov_does h (by dsimp only [touches]; decide) (Does.refl s)
  case aluAdd => exact execAluAdd_does h (by dsimp only [touches]; decide) (Does.refl s)
  case aluSub => exact execAluSub_does h (by dsimp only [touches]; decide) (Does.refl s)
  case aluAnd => exact execAluAnd_does h (by dsimp only [touches]; decide) (Does.refl s)
  case aluOr => exact execAluOr_does h (by dsimp only [touches]; decide) (Does.refl s)
  case aluXor => exact execAluXor_does h (by dsimp only [touches]; decide) (Does.refl s)
  case aluShl => exact execAluShl_does h (by dsimp only [touches]; decide) (Does.refl s)
  case aluShr => exact execAluShr_does h (by dsimp only [touches]; decide) (Does.refl s)
  case aluSar => exact execAluSar_does h (by dsimp only [touches]; decide) (Does.refl s)
  case aluCmp => exact execAluCmp_does h (by dsimp only [touches]; decide) (Does.refl s)
  case aluMin => exact execAluMin_does h (by dsimp only [touches]; decide) (Does.refl s)
  case aluMax => exact execAluMax_does h (by dsimp only [touches]; decide) (Does.refl s)
  case aluExt => exact execAluExt_does h (by dsimp only [touches]; decide) (Does.refl s)
  case aluIns => exact execAluIns_does h (by dsimp only [touches]; decide) (Does.refl s)
  case aluMul => exact execAluMul_does h (by dsimp only [touches]; decide) (Does.refl s)
  case aluCrc32c => exact execAluCrc32c_does h (by dsimp only [touches]; decide) (Does.refl s)
  case memHrd => exact execMemHrd_does h (by dsimp only [touches]; decide) (Does.refl s)
  case memHwr => exact execMemHwr_does h (by dsimp only [touches]; decide) (Does.refl s)
  case memMrd => exact execMemMrd_does h (by dsimp only [touches]; decide) (Does.refl s)
  case memMwr => exact execMemMwr_does h (by dsimp only [touches]; decide) (Does.refl s)
  case memTrd => exact execMemTrd_does h (by dsimp only [touches]; decide) (Does.refl s)
  case memTwr => exact execMemTwr_does h (by dsimp only [touches]; decide) (Does.refl s)
  case memEml => exact execMemEml_does h (by dsimp only [touches]; decide) (Does.refl s)
  case memLpm => exact execMemLpm_does h (by dsimp only [touches]; decide) (Does.refl s)
  case memQrd => exact execMemQrd_does h (by dsimp only [touches]; decide) (Does.refl s)
  case memQwr => exact execMemQwr_does h (by dsimp only [touches]; decide) (Does.refl s)
  case memCnt => exact execMemCnt_does h (by dsimp only [touches]; decide) (Does.refl s)
  case memLock => exact execMemLock_does h (by dsimp only [touches]; decide) (Does.refl s)
  case memXrd => exact execMemXrd_does h (by dsimp only [touches]; decide) (Does.refl s)
  case memCu => exact execMemCu_does h (by dsimp only [touches]; decide) (Does.refl s)
  case memReadReturn => exact execMemReadReturn_does h (by dsimp only [touches]; decide) (Does.refl s)
  case lockGrant => exact execLockGrant_does h (by dsimp only [touches]; decide) (Does.refl s)
  case routineCommit => exact execRoutineCommit_does h (by dsimp only [touches]; decide) (Does.refl s)
  case csEventGo => exact execCsEventGo_does h (by dsimp only [touches]; decide) (Does.refl s)
  case engineFault => exact execEngineFault_does h (by dsimp only [touches]; decide) (Does.refl s)
  case csDmaWaitExpire => exact execCsDmaWaitExpire_does h (by dsimp only [touches]; decide) (Does.refl s)
  case csWordWrite => exact execCsWordWrite_does h (by dsimp only [touches]; decide) (Does.refl s)
  case csWordRead => exact execCsWordRead_does h (by dsimp only [touches]; decide) (Does.refl s)
  case csRunWrite => exact execCsRunWrite_does h (by dsimp only [touches]; decide) (Does.refl s)
  case csScrub => exact execCsScrub_does h (by dsimp only [touches]; decide) (Does.refl s)
  case csReloadDone => exact execCsReloadDone_does h (by dsimp only [touches]; decide) (Does.refl s)
  case frameAdmit => exact execFrameAdmit_does h (by dsimp only [touches]; decide) (Does.refl s)
  case frameLastCell => exact execFrameLastCell_does h (by dsimp only [touches]; decide) (Does.refl s)
  case macsecVerdict => exact execMacsecVerdict_does h (by dsimp only [touches]; decide) (Does.refl s)
  case transmitStart => exact execTransmitStart_does h (by dsimp only [touches]; decide) (Does.refl s)
  case transmitEnd => exact execTransmitEnd_does h (by dsimp only [touches]; decide) (Does.refl s)
  case pfcEval => exact execPfcEval_does h (by dsimp only [touches]; decide) (Does.refl s)
  case pfcRefresh => exact execPfcRefresh_does h (by dsimp only [touches]; decide) (Does.refl s)
  case queueHeadAgeCheck => exact execQueueHeadAgeCheck_does h (by dsimp only [touches]; decide) (Does.refl s)
  case bufPoolLimitWrite => exact execBufPoolLimitWrite_does h (by dsimp only [touches]; decide) (Does.refl s)
  case queueDisable => exact execQueueDisable_does h (by dsimp only [touches]; decide) (Does.refl s)
  case queueEnable => exact execQueueEnable_does h (by dsimp only [touches]; decide) (Does.refl s)
  case queueDrainDone => exact execQueueDrainDone_does h (by dsimp only [touches]; decide) (Does.refl s)
  case mcGroupWrite => exact execMcGroupWrite_does h (by dsimp only [touches]; decide) (Does.refl s)
  case mcGroupRead => exact execMcGroupRead_does h (by dsimp only [touches]; decide) (Does.refl s)
  case shaperWheelSlot => exact execShaperWheelSlot_does h (by dsimp only [touches]; decide) (Does.refl s)
  case schCfgWrite => exact execSchCfgWrite_does h (by dsimp only [touches]; decide) (Does.refl s)
  case mmCfgWrite => exact execMmCfgWrite_does h (by dsimp only [touches]; decide) (Does.refl s)
  case policerWrite => exact execPolicerWrite_does h (by dsimp only [touches]; decide) (Does.refl s)
  case policerRead => exact execPolicerRead_does h (by dsimp only [touches]; decide) (Does.refl s)
  case policerReadClear => exact execPolicerReadClear_does h (by dsimp only [touches]; decide) (Does.refl s)
  case gateEntryBoundary => exact execGateEntryBoundary_does h (by dsimp only [touches]; decide) (Does.refl s)
  case gateChange => exact execGateChange_does h (by dsimp only [touches]; decide) (Does.refl s)
  case gateChangeApply => exact execGateChangeApply_does h (by dsimp only [touches]; decide) (Does.refl s)
  case gateListWriteAdmin => exact execGateListWriteAdmin_does h (by dsimp only [touches]; decide) (Does.refl s)
  case gateListReadAdmin => exact execGateListReadAdmin_does h (by dsimp only [touches]; decide) (Does.refl s)
  case gateListReadOper => exact execGateListReadOper_does h (by dsimp only [touches]; decide) (Does.refl s)
  case queueSample => exact execQueueSample_does h (by dsimp only [touches]; decide) (Does.refl s)
  case keelCellRx => exact execKeelCellRx_does h (by dsimp only [touches]; decide) (Does.refl s)
  case keelCellSend => exact execKeelCellSend_does h (by dsimp only [touches]; decide) (Does.refl s)
  case keelIdleSend => exact execKeelIdleSend_does h (by dsimp only [touches]; decide) (Does.refl s)
  case keelCtrlCellRx => exact execKeelCtrlCellRx_does h (by dsimp only [touches]; decide) (Does.refl s)
  case keelAckRx => exact execKeelAckRx_does h (by dsimp only [touches]; decide) (Does.refl s)
  case keelCtrlResend => exact execKeelCtrlResend_does h (by dsimp only [touches]; decide) (Does.refl s)
  case sublinkFailDetect => exact execSublinkFailDetect_does h (by dsimp only [touches]; decide) (Does.refl s)
  case sublinkTrainStart => exact execSublinkTrainStart_does h (by dsimp only [touches]; decide) (Does.refl s)
  case sublinkTrained => exact execSublinkTrained_does h (by dsimp only [touches]; decide) (Does.refl s)
  case sublinkTrainTimeout => exact execSublinkTrainTimeout_does h (by dsimp only [touches]; decide) (Does.refl s)
  case sublinkDisable => exact execSublinkDisable_does h (by dsimp only [touches]; decide) (Does.refl s)
  case sublinkEnable => exact execSublinkEnable_does h (by dsimp only [touches]; decide) (Does.refl s)
  case forceSplit => exact execForceSplit_does h (by dsimp only [touches]; decide) (Does.refl s)
  case splitEnter => exact execSplitEnter_does h (by dsimp only [touches]; decide) (Does.refl s)
  case rejoinStart => exact execRejoinStart_does h (by dsimp only [touches]; decide) (Does.refl s)
  case rejoinTimeAligned => exact execRejoinTimeAligned_does h (by dsimp only [touches]; decide) (Does.refl s)
  case mergeLearnDone => exact execMergeLearnDone_does h (by dsimp only [touches]; decide) (Does.refl s)
  case keelResume => exact execKeelResume_does h (by dsimp only [touches]; decide) (Does.refl s)
  case rejoinResumingDone => exact execRejoinResumingDone_does h (by dsimp only [touches]; decide) (Does.refl s)
  case rejoinAbort => exact execRejoinAbort_does h (by dsimp only [touches]; decide) (Does.refl s)
  case timeStepSet => exact execTimeStepSet_does h (by dsimp only [touches]; decide) (Does.refl s)
  case timeStepAdd => exact execTimeStepAdd_does h (by dsimp only [touches]; decide) (Does.refl s)
  case timeStepSubtract => exact execTimeStepSubtract_does h (by dsimp only [touches]; decide) (Does.refl s)
  case timeStepApply => exact execTimeStepApply_does h (by dsimp only [touches]; decide) (Does.refl s)
  case timeOffsetSubmit => exact execTimeOffsetSubmit_does h (by dsimp only [touches]; decide) (Does.refl s)
  case timeRefChange => exact execTimeRefChange_does h (by dsimp only [touches]; decide) (Does.refl s)
  case timeRefSelWrite => exact execTimeRefSelWrite_does h (by dsimp only [touches]; decide) (Does.refl s)
  case timeLatch => exact execTimeLatch_does h (by dsimp only [touches]; decide) (Does.refl s)
  case timeRefTimeout => exact execTimeRefTimeout_does h (by dsimp only [touches]; decide) (Does.refl s)
  case ppsInEdge => exact execPpsInEdge_does h (by dsimp only [touches]; decide) (Does.refl s)
  case ppsInMiss => exact execPpsInMiss_does h (by dsimp only [touches]; decide) (Does.refl s)
  case ppsOutRise => exact execPpsOutRise_does h (by dsimp only [touches]; decide) (Does.refl s)
  case ppsOutFall => exact execPpsOutFall_does h (by dsimp only [touches]; decide) (Does.refl s)
  case timeFollowExchange => exact execTimeFollowExchange_does h (by dsimp only [touches]; decide) (Does.refl s)
  case timeFollowLoss => exact execTimeFollowLoss_does h (by dsimp only [touches]; decide) (Does.refl s)
  case timePortCalDone => exact execTimePortCalDone_does h (by dsimp only [touches]; decide) (Does.refl s)
  case cmpFire => exact execCmpFire_does h (by dsimp only [touches]; decide) (Does.refl s)
  case cmpArmWrite => exact execCmpArmWrite_does h (by dsimp only [touches]; decide) (Does.refl s)
  case txstampPop => exact execTxstampPop_does h (by dsimp only [touches]; decide) (Does.refl s)
  case collectorFlush => exact execCollectorFlush_does h (by dsimp only [touches]; decide) (Does.refl s)
  case collectorEnableWrite => exact execCollectorEnableWrite_does h (by dsimp only [touches]; decide) (Does.refl s)
  case bankCut => exact execBankCut_does h (by dsimp only [touches]; decide) (Does.refl s)
  case settleTimeout => exact execSettleTimeout_does h (by dsimp only [touches]; decide) (Does.refl s)
  case snapshotWritten => exact execSnapshotWritten_does h (by dsimp only [touches]; decide) (Does.refl s)
  case acctSnapConsWrite => exact execAcctSnapConsWrite_does h (by dsimp only [touches]; decide) (Does.refl s)
  case acctWeightWrite => exact execAcctWeightWrite_does h (by dsimp only [touches]; decide) (Does.refl s)
  case acctWeightRead => exact execAcctWeightRead_does h (by dsimp only [touches]; decide) (Does.refl s)
  case acctLiveRead => exact execAcctLiveRead_does h (by dsimp only [touches]; decide) (Does.refl s)
  case epochEnd => exact execEpochEnd_does h (by dsimp only [touches]; decide) (Does.refl s)
  case pmcDumpPeriod => exact execPmcDumpPeriod_does h (by dsimp only [touches]; decide) (Does.refl s)
  case pmcDumpWritten => exact execPmcDumpWritten_does h (by dsimp only [touches]; decide) (Does.refl s)
  case pmcClear => exact execPmcClear_does h (by dsimp only [touches]; decide) (Does.refl s)
  case msecTblWrite => exact execMsecTblWrite_does h (by dsimp only [touches]; decide) (Does.refl s)
  case msecTblRead => exact execMsecTblRead_does h (by dsimp only [touches]; decide) (Does.refl s)
  case keyWrite => exact execKeyWrite_does h (by dsimp only [touches]; decide) (Does.refl s)
  case keyErase => exact execKeyErase_does h (by dsimp only [touches]; decide) (Does.refl s)
  case keyInfo => exact execKeyInfo_does h (by dsimp only [touches]; decide) (Does.refl s)
  case keyZeroise => exact execKeyZeroise_does h (by dsimp only [touches]; decide) (Does.refl s)
  case cipherMessageDone => exact execCipherMessageDone_does h (by dsimp only [touches]; decide) (Does.refl s)
  case ucieLinkUp => exact execUcieLinkUp_does h (by dsimp only [touches]; decide) (Does.refl s)
  case ucieModuleLost => exact execUcieModuleLost_does h (by dsimp only [touches]; decide) (Does.refl s)
  case ucieRetrainTimer => exact execUcieRetrainTimer_does h (by dsimp only [touches]; decide) (Does.refl s)
  case functionReset => exact execFunctionReset_does h (by dsimp only [touches]; decide) (Does.refl s)
  case msixUnmask => exact execMsixUnmask_does h (by dsimp only [touches]; decide) (Does.refl s)
  case msixModerationExpire => exact execMsixModerationExpire_does h (by dsimp only [touches]; decide) (Does.refl s)
  case dtuInvAll => exact execDtuInvAll_does h (by dsimp only [touches]; decide) (Does.refl s)
  case dtuInvSpace => exact execDtuInvSpace_does h (by dsimp only [touches]; decide) (Does.refl s)
  case dtuInvRange => exact execDtuInvRange_does h (by dsimp only [touches]; decide) (Does.refl s)
  case dtuInvDone => exact execDtuInvDone_does h (by dsimp only [touches]; decide) (Does.refl s)
  case dtuFaultRetry => exact execDtuFaultRetry_does h (by dsimp only [touches]; decide) (Does.refl s)
  case dtuFaultAbort => exact execDtuFaultAbort_does h (by dsimp only [touches]; decide) (Does.refl s)
  case hqDoorbell => exact execHqDoorbell_does h (by dsimp only [touches]; decide) (Does.refl s)
  case hqCqDoorbell => exact execHqCqDoorbell_does h (by dsimp only [touches]; decide) (Does.refl s)
  case poolDoorbell => exact execPoolDoorbell_does h (by dsimp only [touches]; decide) (Does.refl s)
  case hqEnableWrite => exact execHqEnableWrite_does h (by dsimp only [touches]; decide) (Does.refl s)
  case hqRingRegWrite => exact execHqRingRegWrite_does h (by dsimp only [touches]; decide) (Does.refl s)
  case hqHbqMapWrite => exact execHqHbqMapWrite_does h (by dsimp only [touches]; decide) (Does.refl s)
  case dmaReadReturn => exact execDmaReadReturn_does h (by dsimp only [touches]; decide) (Does.refl s)
  case descNop => exact execDescNop_does h (by dsimp only [touches]; decide) (Does.refl s)
  case descFrame => exact execDescFrame_does h (by dsimp only [touches]; decide) (Does.refl s)
  case descTableRead => exact execDescTableRead_does h (by dsimp only [touches]; decide) (Does.refl s)
  case descTableWrite => exact execDescTableWrite_does h (by dsimp only [touches]; decide) (Does.refl s)
  case descCipher => exact execDescCipher_does h (by dsimp only [touches]; decide) (Does.refl s)
  case puntDeliver => exact execPuntDeliver_does h (by dsimp only [touches]; decide) (Does.refl s)
  case poolRefill => exact execPoolRefill_does h (by dsimp only [touches]; decide) (Does.refl s)
  case sliceSleepEnter => exact execSliceSleepEnter_does h (by dsimp only [touches]; decide) (Does.refl s)
  case sliceAsleep => exact execSliceAsleep_does h (by dsimp only [touches]; decide) (Does.refl s)
  case sliceWakeStart => exact execSliceWakeStart_does h (by dsimp only [touches]; decide) (Does.refl s)
  case sliceWakeDone => exact execSliceWakeDone_does h (by dsimp only [touches]; decide) (Does.refl s)
  case ratingStep => exact execRatingStep_does h (by dsimp only [touches]; decide) (Does.refl s)
  case droopStart => exact execDroopStart_does h (by dsimp only [touches]; decide) (Does.refl s)
  case droopEnd => exact execDroopEnd_does h (by dsimp only [touches]; decide) (Does.refl s)
  case droopRateWindow => exact execDroopRateWindow_does h (by dsimp only [touches]; decide) (Does.refl s)
  case thermalStep => exact execThermalStep_does h (by dsimp only [touches]; decide) (Does.refl s)
  case thermTrip => exact execThermTrip_does h (by dsimp only [touches]; decide) (Does.refl s)
  case pwrBrakeFall => exact execPwrBrakeFall_does h (by dsimp only [touches]; decide) (Does.refl s)
  case pwrBrakeRise => exact execPwrBrakeRise_does h (by dsimp only [touches]; decide) (Does.refl s)
  case arbiterSample => exact execArbiterSample_does h (by dsimp only [touches]; decide) (Does.refl s)
  case paddleOnUnmetStep => exact execPaddleOnUnmetStep_does h (by dsimp only [touches]; decide) (Does.refl s)
  case coxPhaseClear => exact execCoxPhaseClear_does h (by dsimp only [touches]; decide) (Does.refl s)
  case coxCalStart => exact execCoxCalStart_does h (by dsimp only [touches]; decide) (Does.refl s)
  case coxCalEnd => exact execCoxCalEnd_does h (by dsimp only [touches]; decide) (Does.refl s)
  case coxCfgWrite => exact execCoxCfgWrite_does h (by dsimp only [touches]; decide) (Does.refl s)
  case configScrub => exact execConfigScrub_does h (by dsimp only [touches]; decide) (Does.refl s)
  case decisionCacheScrub => exact execDecisionCacheScrub_does h (by dsimp only [touches]; decide) (Does.refl s)
  case watchdogKick => exact execWatchdogKick_does h (by dsimp only [touches]; decide) (Does.refl s)
  case watchdogExpire => exact execWatchdogExpire_does h (by dsimp only [touches]; decide) (Does.refl s)
  case paddleEnter => exact execPaddleEnter_does h (by dsimp only [touches]; decide) (Does.refl s)
  case paddleExit => exact execPaddleExit_does h (by dsimp only [touches]; decide) (Does.refl s)
  case wearMeasure => exact execWearMeasure_does h (by dsimp only [touches]; decide) (Does.refl s)
  case wearHoursLoad => exact execWearHoursLoad_does h (by dsimp only [touches]; decide) (Does.refl s)
  case wearHourTick => exact execWearHourTick_does h (by dsimp only [touches]; decide) (Does.refl s)
  case otpRead => exact execOtpRead_does h (by dsimp only [touches]; decide) (Does.refl s)
  case otpProgram => exact execOtpProgram_does h (by dsimp only [touches]; decide) (Does.refl s)
  case otpSvnInc => exact execOtpSvnInc_does h (by dsimp only [touches]; decide) (Does.refl s)
  case otpCmdDone => exact execOtpCmdDone_does h (by dsimp only [touches]; decide) (Does.refl s)
  case imageStart => exact execImageStart_does h (by dsimp only [touches]; decide) (Does.refl s)
  case imageAbort => exact execImageAbort_does h (by dsimp only [touches]; decide) (Does.refl s)
  case imageDataWrite => exact execImageDataWrite_does h (by dsimp only [touches]; decide) (Does.refl s)
  case imageVerifyDone => exact execImageVerifyDone_does h (by dsimp only [touches]; decide) (Does.refl s)
  case remoteFaultDetect => exact execRemoteFaultDetect_does h (by dsimp only [touches]; decide) (Does.refl s)
  case peerPresenceChange => exact execPeerPresenceChange_does h (by dsimp only [touches]; decide) (Does.refl s)
  case vaonLoss => exact execVaonLoss_does h (by dsimp only [touches]; decide) (Does.refl s)
  case tmapCmdDone => exact execTmapCmdDone_does h (by dsimp only [touches]; decide) (Does.refl s)
  case tcamRowOpDone => exact execTcamRowOpDone_does h (by dsimp only [touches]; decide) (Does.refl s)
  case frameRxEnd => exact execFrameRxEnd_does h (by dsimp only [touches]; decide) (Does.refl s)
end Sys2Proof.Machine
end

