-- ==== Sys2Proof/Laws/Reach.lean ====
section
/-!
SUPPORT. What an access does when it reaches a page, when its page is not mapped, and when its path is down.
-/
namespace Sys2Proof.Machine

variable {s : State} {src : Source} {idx : PageIdx} {p : Page} {k : Kind} {w : RegWord}

theorem State.access_at (f : Page → State → State) (h : s.reaches src idx p) : s.access src idx w f = f p s := by
  unfold State.access; rw [if_pos h.1, h.2.1]; simp only [h.2.2]; rfl

theorem State.access_cross (f : Page → State → State) (h : s.crosses src idx p) :
    s.access src idx w f = s.carry ⟨src, idx, w.1, w.2⟩ := by
  unfold State.access; rw [if_pos h.1, h.2.1]; simp only [h.2.2, if_pos]

theorem State.access_down (f : Page → State → State) (h : s.sourceUp src = false) : s.access src idx w f = s := by
  unfold State.access; rw [h]; rfl

theorem State.access_unmapped (f : Page → State → State) (h : s.sourceUp src = true) (hm : s.mapped src idx = none) :
    s.access src idx w f = s.countUnmapped src := by
  unfold State.access; rw [if_pos h, hm]

theorem State.targetsOf_self (s : State) (hk : p.kind = k) : s.targetsOf p k = [p] := by
  unfold State.targetsOf; rw [if_pos hk]

theorem State.accessKind_at (f : Page → State → State) (h : s.reaches src idx p) (hk : p.kind = k) :
    s.accessKind src idx k w f = f p s := by
  unfold State.accessKind; rw [State.access_at _ h, State.targetsOf_self s hk]; rfl

theorem State.accessKind_group (f : Page → State → State) (h : s.reaches src idx p) (ht : s.targetsOf p k ≠ []) :
    s.accessKind src idx k w f = (s.targetsOf p k).foldl (fun s t => f t s) s := by
  unfold State.accessKind; rw [State.access_at _ h]
  split
  · contradiction
  · rfl

theorem State.accessKind_none (f : Page → State → State) (h : s.reaches src idx p) (ht : s.targetsOf p k = []) :
    s.accessKind src idx k w f = s.countUnmapped src := by
  unfold State.accessKind; rw [State.access_at _ h, ht]

theorem State.accessKind_unmapped (f : Page → State → State) (h : s.sourceUp src = true) (hm : s.mapped src idx = none) :
    s.accessKind src idx k w f = s.countUnmapped src := State.access_unmapped _ h hm

theorem State.accessKind_cross (f : Page → State → State) (h : s.crosses src idx p) :
    s.accessKind src idx k w f = s.carry ⟨src, idx, w.1, w.2⟩ := State.access_cross _ h

theorem State.accessLocked_cross {off : Nat} {val : Word} (f : Page → Word → State → State) (h : s.crosses src idx p) :
    s.accessLocked src idx k off val f = s.carry ⟨src, idx, off, some val⟩ := State.access_cross _ h

theorem State.accessLocked_at {off : Nat} {val : Word} (f : Page → Word → State → State) (h : s.reaches src idx p)
    (hk : p.kind = k) (hr : (k.reg? off).isSome = true) (hl : s.holdsLock src p = true) :
    s.accessLocked src idx k off val f = f p val s := by
  obtain ⟨r, hr⟩ := Option.isSome_iff_exists.mp hr
  unfold State.accessLocked; rw [State.access_at _ h, State.targetsOf_self s hk]
  simp [State.writeUnits, hr, hl]

theorem State.accessLocked_refused {off : Nat} {val : Word} {r : Reg} (f : Page → Word → State → State)
    (h : s.reaches src idx p) (hk : p.kind = k) (hr : k.reg? off = some r) (hw : r.rwl ≠ 0) (hl : s.holdsLock src p = false) :
    s.accessLocked src idx k off val f =
      if r.open? then f p ((s.errCount p).keepRwl p off r val) (s.errCount p) else s.errCount p := by
  unfold State.accessLocked; rw [State.access_at _ h, State.targetsOf_self s hk]
  simp [State.writeUnits, hr, hl, hw]

end Sys2Proof.Machine
end

