-- ==== Sys2Proof/Laws/Registers.lean ====
section
/-!
SUPPORT. Registers and counters read back what was written, writes at different places do not meet, and raising a cause
leaves every register alone but the interrupt registers on its way up.
-/
namespace Sys2Proof.Machine

variable (s : State)

theorem Kind.space_inj {k k' : Kind} {o : Nat} (h : k.space o = k'.space o) : k = k' := by
  apply Kind.code_inj; unfold Kind.space at h; split at h <;> omega

/-- The place of a register tells its page and its offset. -/
theorem Page.key_eq {p q : Page} {o o' : Nat} (ho : o < 65536) (ho' : o' < 65536) :
    q.key o' = p.key o ↔ q = p ∧ o' = o := by
  constructor
  · intro h
    have e : q.kind.space o' = p.kind.space o := by rw [← Page.key_mod, ← Page.key_mod, h]
    unfold Page.key at h
    have hn : q.n = p.n ∧ o' = o := by omega
    rw [hn.2] at e
    have hk := Kind.space_inj e
    obtain ⟨k, n⟩ := p
    obtain ⟨k', n'⟩ := q
    exact ⟨by rw [show k' = k from hk, show n' = n from hn.1], hn.2⟩
  · rintro ⟨rfl, rfl⟩; rfl

@[simp] theorem State.reg_setReg_same (p : Page) (o : Nat) (v : Word) : (s.setReg p o v).reg p o = v :=
  Sparse.get_set_same ..

theorem State.reg_setReg_ne {p q : Page} {o o' : Nat} (v : Word) (h : q.key o' ≠ p.key o) :
    (s.setReg p o v).reg q o' = s.reg q o' := Sparse.get_set_ne _ _ _ _ h

/-- Writes of one page at another offset. -/
theorem State.reg_setReg_off {p q : Page} {o o' : Nat} (v : Word) (ho : o < 65536) (ho' : o' < 65536) (h : o' ≠ o) :
    (s.setReg p o v).reg q o' = s.reg q o' :=
  State.reg_setReg_ne s v (fun e => h ((Page.key_eq ho ho').mp e).2)

/-- Writes of another page. -/
theorem State.reg_setReg_page {p q : Page} {o o' : Nat} (v : Word) (ho : o < 65536) (ho' : o' < 65536) (h : q ≠ p) :
    (s.setReg p o v).reg q o' = s.reg q o' :=
  State.reg_setReg_ne s v (fun e => h ((Page.key_eq ho ho').mp e).1)

theorem Fld.put_toNat (f : Fld) (w : Word) (v : Nat) (hf : f.lo + f.w ≤ 32) (i : Nat) :
    (f.put w v).getLsbD i = if f.lo ≤ i ∧ i < f.lo + f.w then v.testBit (i - f.lo) else w.getLsbD i := by
  by_cases hi : i < 32
  · simp only [Fld.put, BitVec.getLsbD_or, BitVec.getLsbD_and, BitVec.getLsbD_not, BitVec.getLsbD_ofNat,
      Nat.testBit_shiftLeft, Nat.testBit_two_pow_sub_one, Nat.testBit_mod_two_pow, hi, decide_true, Bool.true_and]
    by_cases h1 : f.lo ≤ i
    · by_cases h2 : i < f.lo + f.w
      · have h3 : i - f.lo < f.w := by omega
        simp [h1, h2, h3]
      · have h3 : ¬ i - f.lo < f.w := by omega
        simp [h1, h2, h3]
    · simp [h1]
  · have : ¬ (f.lo ≤ i ∧ i < f.lo + f.w) := by omega
    rw [if_neg this, BitVec.getLsbD_of_ge _ _ (by omega), BitVec.getLsbD_of_ge _ _ (by omega)]

theorem Fld.of_put (f : Fld) (w : Word) (v : Nat) (hf : f.lo + f.w ≤ 32) : f.of (f.put w v) = v % 2 ^ f.w := by
  apply Nat.eq_of_testBit_eq
  intro i
  have := Fld.put_toNat f w v hf (i + f.lo)
  simp only [BitVec.getLsbD] at this
  simp only [Fld.of, Nat.testBit_mod_two_pow, Nat.testBit_shiftRight]
  by_cases hi : i < f.w
  · rw [show f.lo + i = i + f.lo from by omega, this, if_pos ⟨by omega, by omega⟩]; simp [hi]
  · simp [hi]

theorem Fld.of_put_ne (f g : Fld) (w : Word) (v : Nat) (hf : f.lo + f.w ≤ 32) (h : g.lo + g.w ≤ f.lo ∨ f.lo + f.w ≤ g.lo) :
    g.of (f.put w v) = g.of w := by
  apply Nat.eq_of_testBit_eq
  intro i
  have := Fld.put_toNat f w v hf (i + g.lo)
  simp only [BitVec.getLsbD] at this
  simp only [Fld.of, Nat.testBit_mod_two_pow, Nat.testBit_shiftRight]
  by_cases hi : i < g.w
  · rw [show g.lo + i = i + g.lo from by omega, this, if_neg (by omega)]
  · simp [hi]

theorem State.fget_eq_of (p : Page) (f : Fld) (i : Nat) : s.fget p f i = f.of (s.reg p (f.at i)) := rfl

@[simp] theorem State.fget_fset_same (p : Page) (f : Fld) (v i : Nat) (hf : f.lo + f.w ≤ 32) :
    (s.fset p f v i).fget p f i = v % 2 ^ f.w := by
  rw [State.fget_eq_of, State.fset, State.reg_setReg_same, Fld.of_put f _ v hf]

/-- A field beside the one written keeps its value. -/
theorem State.fget_fset_beside (p : Page) (f g : Fld) (v i j : Nat) (hf : f.lo + f.w ≤ 32) (e : g.at j = f.at i)
    (h : g.lo + g.w ≤ f.lo ∨ f.lo + f.w ≤ g.lo) : (s.fset p f v i).fget p g j = s.fget p g j := by
  rw [State.fget_eq_of, State.fset, e, State.reg_setReg_same, Fld.of_put_ne f g _ v hf h, State.fget_eq_of, e]

/-- A field of another register keeps its value. -/
theorem State.fget_fset_ne (p q : Page) (f g : Fld) (v i j : Nat) (h : q.key (g.at j) ≠ p.key (f.at i)) :
    (s.fset p f v i).fget q g j = s.fget q g j := by
  rw [State.fget_eq_of, State.fset, State.reg_setReg_ne s _ h, State.fget_eq_of]

@[simp] theorem State.flag_bset_same (p : Page) (f : Fld) (b : Bool) (i : Nat) (hf : f.lo + f.w ≤ 32) (hw : 0 < f.w) :
    (s.bset p f b i).flag p f i = b := by
  have h2 : 2 ≤ 2 ^ f.w := by
    calc 2 = 2 ^ 1 := rfl
      _ ≤ 2 ^ f.w := Nat.pow_le_pow_right (by decide) hw
  unfold State.flag State.bset
  rw [State.fget_fset_same s p f _ i hf]
  cases b
  · simp
  · simp [Nat.mod_eq_of_lt h2]

@[simp] theorem State.cget_cset_same (p : Page) (f : Fld) (v : DWord) (i : Nat) : (s.cset p f v i).cget p f i = v :=
  Sparse.get_set_same ..

theorem State.cget_cset_ne (p q : Page) (f g : Fld) (v : DWord) (i j : Nat) (h : q.key (g.at j) ≠ p.key (f.at i)) :
    (s.cset p f v i).cget q g j = s.cget q g j := Sparse.get_set_other _ _ _ h

@[simp] theorem State.cget_cadd_same (p : Page) (f : Fld) (n i : Nat) :
    (s.cadd p f n i).cget p f i = s.cget p f i + BitVec.ofNat 64 n := Sparse.get_set_same ..

theorem State.cget_cadd_ne (p q : Page) (f g : Fld) (n i j : Nat) (h : q.key (g.at j) ≠ p.key (f.at i)) :
    (s.cadd p f n i).cget q g j = s.cget q g j := Sparse.get_set_other _ _ _ h

/-! ### What raising a cause leaves alone -/

/-- The parts and register spaces that an interrupt on page `p` may touch. -/
abbrev irqMask (p : Page) : Nat := 0x7c00000000004000000000000000000022 ||| p.hdr

theorem sub_irqMask (p : Page) : Sub 0x7c00000000004000000000000000000022 (irqMask p) := by
  unfold Sub irqMask; rw [← Nat.lor_assoc, Nat.or_self]

theorem sub_hdr_irqMask (p : Page) : Sub p.hdr (irqMask p) := by
  unfold Sub irqMask
  rw [Nat.lor_comm p.hdr, Nat.lor_assoc, Nat.or_self]

theorem State.raise_all (p : Page) (b : Nat) : Does (irqMask p) s (s.raise p b) :=
  State.raise_does (sub_irqMask p) (sub_hdr_irqMask p) (Does.refl s)

theorem State.errCount_all (p : Page) : Does (irqMask p) s (s.errCount p) :=
  State.errCount_does (sub_irqMask p) (sub_hdr_irqMask p) (Does.refl s)

theorem irqMask_part {p : Page} {i : Nat} (hi : i < 40) (h : Nat.testBit 0x22 i = false) : (irqMask p).testBit i = false := by
  unfold irqMask Page.hdr
  rw [Nat.testBit_or, Nat.testBit_two_pow]
  have : Nat.testBit 0x7c00000000004000000000000000000022 i = Nat.testBit 0x22 i := by
    interval_cases i <;> decide
  rw [this, h]
  simp; omega

theorem irqMask_own {p q : Page} {o : Nat} (ho : 0x40 ≤ o) (hq : q.kind ≠ .hif) :
    (irqMask p).testBit (64 + q.kind.space o) = false := by
  unfold irqMask Page.hdr
  have hl := q.kind.code_lt
  rw [Nat.testBit_or, Nat.testBit_two_pow]
  simp only [Kind.space, if_neg (Nat.not_lt.mpr ho), Nat.add_zero]
  rw [show decide (128 + p.kind.code = 64 + q.kind.code) = false from decide_eq_false (by omega), Bool.or_false]
  revert hq
  cases q.kind <;> decide

/-- Raising a cause leaves every register from offset 0x40 on alone, but a host interface's pending bits. -/
theorem State.reg_raise {p q : Page} {b o : Nat} (ho : 0x40 ≤ o) (hq : q.kind ≠ .hif) :
    (s.raise p b).reg q o = s.reg q o := ((State.raise_all s p b).regs q o (irqMask_own ho hq)).1

theorem State.fget_raise {p q : Page} {b i : Nat} {f : Fld} (ho : 0x40 ≤ f.at i) (hq : q.kind ≠ .hif) :
    (s.raise p b).fget q f i = s.fget q f i := by
  rw [State.fget_eq_of, State.reg_raise s ho hq, State.fget_eq_of]

theorem State.reg_errCount {p q : Page} {o : Nat} (ho : 0x40 ≤ o) (hq : q.kind ≠ .hif) :
    (s.errCount p).reg q o = s.reg q o := ((State.errCount_all s p).regs q o (irqMask_own ho hq)).1

theorem State.fget_errCount {p q : Page} {i : Nat} {f : Fld} (ho : 0x40 ≤ f.at i) (hq : q.kind ≠ .hif) :
    (s.errCount p).fget q f i = s.fget q f i := by
  rw [State.fget_eq_of, State.reg_errCount s ho hq, State.fget_eq_of]

/-- Every part but the registers and the output keeps its value when a cause is raised. -/
theorem State.same_raise (p : Page) (b : Nat) {x : Part} (h : Nat.testBit 0x22 x.idx = false) : s.same (s.raise p b) x :=
  (State.raise_all s p b).keep x (irqMask_part (by cases x <;> decide) h)

theorem State.same_errCount (p : Page) {x : Part} (h : Nat.testBit 0x22 x.idx = false) : s.same (s.errCount p) x :=
  (State.errCount_all s p).keep x (irqMask_part (by cases x <;> decide) h)

@[simp] theorem State.raise_pending (p : Page) (b : Nat) : (s.raise p b).pending = s.pending :=
  State.same_raise s p b (x := .pending) (by decide)
@[simp] theorem State.errCount_pending (p : Page) : (s.errCount p).pending = s.pending :=
  State.same_errCount s p (x := .pending) (by decide)
@[simp] theorem State.raise_free (p : Page) (b : Nat) : (s.raise p b).free = s.free :=
  State.same_raise s p b (x := .free) (by decide)
@[simp] theorem State.errCount_free (p : Page) : (s.errCount p).free = s.free :=
  State.same_errCount s p (x := .free) (by decide)
@[simp] theorem State.raise_pins (p : Page) (b : Nat) : (s.raise p b).pins = s.pins :=
  State.same_raise s p b (x := .pins) (by decide)
@[simp] theorem State.errCount_pins (p : Page) : (s.errCount p).pins = s.pins :=
  State.same_errCount s p (x := .pins) (by decide)
@[simp] theorem State.raise_otp (p : Page) (b : Nat) : (s.raise p b).otp = s.otp :=
  State.same_raise s p b (x := .otp) (by decide)
@[simp] theorem State.errCount_otp (p : Page) : (s.errCount p).otp = s.otp :=
  State.same_errCount s p (x := .otp) (by decide)
@[simp] theorem State.raise_ctrs (p : Page) (b : Nat) : (s.raise p b).ctrs = s.ctrs :=
  State.same_raise s p b (x := .ctrs) (by decide)
@[simp] theorem State.errCount_ctrs (p : Page) : (s.errCount p).ctrs = s.ctrs :=
  State.same_errCount s p (x := .ctrs) (by decide)
@[simp] theorem State.raise_latch (p : Page) (b : Nat) : (s.raise p b).latch = s.latch :=
  State.same_raise s p b (x := .latch) (by decide)
@[simp] theorem State.errCount_latch (p : Page) : (s.errCount p).latch = s.latch :=
  State.same_errCount s p (x := .latch) (by decide)
@[simp] theorem State.raise_locks (p : Page) (b : Nat) : (s.raise p b).locks = s.locks :=
  State.same_raise s p b (x := .locks) (by decide)
@[simp] theorem State.errCount_locks (p : Page) : (s.errCount p).locks = s.locks :=
  State.same_errCount s p (x := .locks) (by decide)
@[simp] theorem State.raise_boot (p : Page) (b : Nat) : (s.raise p b).boot = s.boot :=
  State.same_raise s p b (x := .boot) (by decide)
@[simp] theorem State.errCount_boot (p : Page) : (s.errCount p).boot = s.boot :=
  State.same_errCount s p (x := .boot) (by decide)
@[simp] theorem State.raise_failed (p : Page) (b : Nat) : (s.raise p b).failed = s.failed :=
  State.same_raise s p b (x := .failed) (by decide)
@[simp] theorem State.errCount_failed (p : Page) : (s.errCount p).failed = s.failed :=
  State.same_errCount s p (x := .failed) (by decide)
@[simp] theorem State.raise_resetting (p : Page) (b : Nat) : (s.raise p b).resetting = s.resetting :=
  State.same_raise s p b (x := .resetting) (by decide)
@[simp] theorem State.errCount_resetting (p : Page) : (s.errCount p).resetting = s.resetting :=
  State.same_errCount s p (x := .resetting) (by decide)
@[simp] theorem State.raise_wearBase (p : Page) (b : Nat) : (s.raise p b).wearBase = s.wearBase :=
  State.same_raise s p b (x := .wearBase) (by decide)
@[simp] theorem State.errCount_wearBase (p : Page) : (s.errCount p).wearBase = s.wearBase :=
  State.same_errCount s p (x := .wearBase) (by decide)
@[simp] theorem State.raise_lanes (p : Page) (b : Nat) : (s.raise p b).lanes = s.lanes :=
  State.same_raise s p b (x := .lanes) (by decide)
@[simp] theorem State.errCount_lanes (p : Page) : (s.errCount p).lanes = s.lanes :=
  State.same_errCount s p (x := .lanes) (by decide)
@[simp] theorem State.raise_links (p : Page) (b : Nat) : (s.raise p b).links = s.links :=
  State.same_raise s p b (x := .links) (by decide)
@[simp] theorem State.errCount_links (p : Page) : (s.errCount p).links = s.links :=
  State.same_errCount s p (x := .links) (by decide)
@[simp] theorem State.raise_tabs (p : Page) (b : Nat) : (s.raise p b).tabs = s.tabs :=
  State.same_raise s p b (x := .tabs) (by decide)
@[simp] theorem State.errCount_tabs (p : Page) : (s.errCount p).tabs = s.tabs :=
  State.same_errCount s p (x := .tabs) (by decide)
@[simp] theorem State.raise_qdr (p : Page) (b : Nat) : (s.raise p b).qdr = s.qdr :=
  State.same_raise s p b (x := .qdr) (by decide)
@[simp] theorem State.errCount_qdr (p : Page) : (s.errCount p).qdr = s.qdr :=
  State.same_errCount s p (x := .qdr) (by decide)
@[simp] theorem State.raise_qdrBusy (p : Page) (b : Nat) : (s.raise p b).qdrBusy = s.qdrBusy :=
  State.same_raise s p b (x := .qdrBusy) (by decide)
@[simp] theorem State.errCount_qdrBusy (p : Page) : (s.errCount p).qdrBusy = s.qdrBusy :=
  State.same_errCount s p (x := .qdrBusy) (by decide)
@[simp] theorem State.raise_clss (p : Page) (b : Nat) : (s.raise p b).clss = s.clss :=
  State.same_raise s p b (x := .clss) (by decide)
@[simp] theorem State.errCount_clss (p : Page) : (s.errCount p).clss = s.clss :=
  State.same_errCount s p (x := .clss) (by decide)
@[simp] theorem State.raise_frames (p : Page) (b : Nat) : (s.raise p b).frames = s.frames :=
  State.same_raise s p b (x := .frames) (by decide)
@[simp] theorem State.errCount_frames (p : Page) : (s.errCount p).frames = s.frames :=
  State.same_errCount s p (x := .frames) (by decide)
@[simp] theorem State.raise_nextFrame (p : Page) (b : Nat) : (s.raise p b).nextFrame = s.nextFrame :=
  State.same_raise s p b (x := .nextFrame) (by decide)
@[simp] theorem State.errCount_nextFrame (p : Page) : (s.errCount p).nextFrame = s.nextFrame :=
  State.same_errCount s p (x := .nextFrame) (by decide)
@[simp] theorem State.raise_slices (p : Page) (b : Nat) : (s.raise p b).slices = s.slices :=
  State.same_raise s p b (x := .slices) (by decide)
@[simp] theorem State.errCount_slices (p : Page) : (s.errCount p).slices = s.slices :=
  State.same_errCount s p (x := .slices) (by decide)
@[simp] theorem State.raise_ports (p : Page) (b : Nat) : (s.raise p b).ports = s.ports :=
  State.same_raise s p b (x := .ports) (by decide)
@[simp] theorem State.errCount_ports (p : Page) : (s.errCount p).ports = s.ports :=
  State.same_errCount s p (x := .ports) (by decide)
@[simp] theorem State.raise_lrns (p : Page) (b : Nat) : (s.raise p b).lrns = s.lrns :=
  State.same_raise s p b (x := .lrns) (by decide)
@[simp] theorem State.errCount_lrns (p : Page) : (s.errCount p).lrns = s.lrns :=
  State.same_errCount s p (x := .lrns) (by decide)
@[simp] theorem State.raise_keels (p : Page) (b : Nat) : (s.raise p b).keels = s.keels :=
  State.same_raise s p b (x := .keels) (by decide)
@[simp] theorem State.errCount_keels (p : Page) : (s.errCount p).keels = s.keels :=
  State.same_errCount s p (x := .keels) (by decide)
@[simp] theorem State.raise_stalls (p : Page) (b : Nat) : (s.raise p b).stalls = s.stalls :=
  State.same_raise s p b (x := .stalls) (by decide)
@[simp] theorem State.errCount_stalls (p : Page) : (s.errCount p).stalls = s.stalls :=
  State.same_errCount s p (x := .stalls) (by decide)
@[simp] theorem State.raise_bufs (p : Page) (b : Nat) : (s.raise p b).bufs = s.bufs :=
  State.same_raise s p b (x := .bufs) (by decide)
@[simp] theorem State.errCount_bufs (p : Page) : (s.errCount p).bufs = s.bufs :=
  State.same_errCount s p (x := .bufs) (by decide)
@[simp] theorem State.raise_mcs (p : Page) (b : Nat) : (s.raise p b).mcs = s.mcs :=
  State.same_raise s p b (x := .mcs) (by decide)
@[simp] theorem State.errCount_mcs (p : Page) : (s.errCount p).mcs = s.mcs :=
  State.same_errCount s p (x := .mcs) (by decide)
@[simp] theorem State.raise_queues (p : Page) (b : Nat) : (s.raise p b).queues = s.queues :=
  State.same_raise s p b (x := .queues) (by decide)
@[simp] theorem State.errCount_queues (p : Page) : (s.errCount p).queues = s.queues :=
  State.same_errCount s p (x := .queues) (by decide)
@[simp] theorem State.raise_times (p : Page) (b : Nat) : (s.raise p b).times = s.times :=
  State.same_raise s p b (x := .times) (by decide)
@[simp] theorem State.errCount_times (p : Page) : (s.errCount p).times = s.times :=
  State.same_errCount s p (x := .times) (by decide)
@[simp] theorem State.raise_accts (p : Page) (b : Nat) : (s.raise p b).accts = s.accts :=
  State.same_raise s p b (x := .accts) (by decide)
@[simp] theorem State.errCount_accts (p : Page) : (s.errCount p).accts = s.accts :=
  State.same_errCount s p (x := .accts) (by decide)
@[simp] theorem State.raise_tels (p : Page) (b : Nat) : (s.raise p b).tels = s.tels :=
  State.same_raise s p b (x := .tels) (by decide)
@[simp] theorem State.errCount_tels (p : Page) : (s.errCount p).tels = s.tels :=
  State.same_errCount s p (x := .tels) (by decide)
@[simp] theorem State.raise_dumps (p : Page) (b : Nat) : (s.raise p b).dumps = s.dumps :=
  State.same_raise s p b (x := .dumps) (by decide)
@[simp] theorem State.errCount_dumps (p : Page) : (s.errCount p).dumps = s.dumps :=
  State.same_errCount s p (x := .dumps) (by decide)
@[simp] theorem State.raise_admits (p : Page) (b : Nat) : (s.raise p b).admits = s.admits :=
  State.same_raise s p b (x := .admits) (by decide)
@[simp] theorem State.errCount_admits (p : Page) : (s.errCount p).admits = s.admits :=
  State.same_errCount s p (x := .admits) (by decide)
@[simp] theorem State.raise_ciphers (p : Page) (b : Nat) : (s.raise p b).ciphers = s.ciphers :=
  State.same_raise s p b (x := .ciphers) (by decide)
@[simp] theorem State.errCount_ciphers (p : Page) : (s.errCount p).ciphers = s.ciphers :=
  State.same_errCount s p (x := .ciphers) (by decide)
@[simp] theorem State.raise_msecs (p : Page) (b : Nat) : (s.raise p b).msecs = s.msecs :=
  State.same_raise s p b (x := .msecs) (by decide)
@[simp] theorem State.errCount_msecs (p : Page) : (s.errCount p).msecs = s.msecs :=
  State.same_errCount s p (x := .msecs) (by decide)
@[simp] theorem State.raise_hosts (p : Page) (b : Nat) : (s.raise p b).hosts = s.hosts :=
  State.same_raise s p b (x := .hosts) (by decide)
@[simp] theorem State.errCount_hosts (p : Page) : (s.errCount p).hosts = s.hosts :=
  State.same_errCount s p (x := .hosts) (by decide)
@[simp] theorem State.raise_coxs (p : Page) (b : Nat) : (s.raise p b).coxs = s.coxs :=
  State.same_raise s p b (x := .coxs) (by decide)
@[simp] theorem State.errCount_coxs (p : Page) : (s.errCount p).coxs = s.coxs :=
  State.same_errCount s p (x := .coxs) (by decide)
@[simp] theorem State.raise_css (p : Page) (b : Nat) : (s.raise p b).css = s.css :=
  State.same_raise s p b (x := .css) (by decide)
@[simp] theorem State.errCount_css (p : Page) : (s.errCount p).css = s.css :=
  State.same_errCount s p (x := .css) (by decide)
@[simp] theorem State.raise_test (p : Page) (b : Nat) : (s.raise p b).test = s.test :=
  State.same_raise s p b (x := .test) (by decide)
@[simp] theorem State.errCount_test (p : Page) : (s.errCount p).test = s.test :=
  State.same_errCount s p (x := .test) (by decide)

end Sys2Proof.Machine
end

