-- ==== Sys2Proof/WellFormed.lean ====
section
/-!
DEFINITION. Well-formed commands: what the types of the operands do not already say. A command that is not well formed
describes nothing that the outside world can send or the device can meet; no meaning stops on one.
-/
namespace Sys2Proof

/-- How many units of the unit kind of a code the device holds (R43, R44, R39), the device's page counted once per die (R60). -/
def unitCount (code : Nat) : Nat :=
  match code with
  | 1 => 1024 | 2 => 1024 | 3 => 128 | 4 => 16 | 5 => 2 | 6 => 2
  | 0x10 => 256 | 0x11 => 16 | 0x12 => 2 | 0x13 => 8 | 0x14 => 2 | 0x15 => 128
  | 0x16 => 2 | 0x17 => 2 | 0x18 => 2 | 0x19 => 2 | 0x1A => 2 | 0x1B => 1 | 0x1C => 2
  | 0x1D => 2 | 0x1E => 2 | 0x1F => 2 | 0x20 => 2 | 0x21 => 2 | 0x22 => 2
  | _ => 0

/-- A failed unit in a roll call's report: the number lies within its kind, and an engine among the 17 of each slice. -/
def failedUnit (x : Nat × Nat) : Bool := decide (x.2 < if x.1 = 0x10 then 272 else unitCount x.1)

/-- What a roll call can find (R64-R66): units that exist, each once, at most the banks there are, 8 slices' rows and 16
aging monitors' losses. -/
def RollReport.wf (r : RollReport) : Bool :=
  r.failed.all failedUnit && decide r.failed.Nodup && decide (r.banks ≤ 128) && decide (r.spareBanks ≤ 4) &&
    r.rows.length == 8 && r.losses.length == 16

/-- Rows of a slice's TCAM by physical index: 16,384 and the 256 of the guard bank (R135, R139). -/
def tcamRows : Nat := 16640

/-- Words of a control store (R178). -/
def csWords : Nat := 32768

/-- Entries of a decision cache (R118). -/
def cacheEntries : Nat := 131072

/-- A table number of R163 with an index. -/
def tableIndex (x : Nat × Nat) : Bool := decide (x.1 < 16)

/-- Rows that upsets name exist. -/
def TcamUpset.wf (u : TcamUpset) : Bool :=
  u.copyBad.all (fun r => decide (r < tcamRows)) && u.flips.all (fun f => decide (f.row < tcamRows))

/-- Upsets of one pass name rows and tables that exist. -/
def Upsets.wf (u : Upsets) : Bool := u.bad.all tableIndex && u.tcam.wf

/-- What a copy meets on its way out. -/
def TxUpsets.wf (u : TxUpsets) : Bool := u.up.wf

/-- A walk reads at most four levels (R395). -/
def walkWf (w : Walk) : Bool := decide (w.length ≤ 4)

/-- The widths of an access: 1, 2, 4 or 8 bytes (R9). -/
def accessSize (n : Nat) : Bool := n == 1 || n == 2 || n == 4 || n == 8

/-- A die's figures of an epoch: three classes, and four fields of the signature. -/
def DieEpoch.wf (e : DieEpoch) : Bool := e.power.length == 3 && e.floor.length == 3 && e.sig.length == 4

/-- A word under configuration ECC that the device holds. -/
def ConfigWord.wf (w : ConfigWord) : Bool :=
  match w with
  | .reg kind n _ => decide (n < unitCount kind)
  | .ring _ _ _ => true
  | .pool _ _ _ => true
  | .gate _ _ _ => true
  | .mcast _ _ => true
  | .msec _ _ => true
  | .policer _ _ => true
  | .shaper _ _ => true
  | .learning _ => true

/-- A well-formed command. -/
def Instr.wf (i : Instr) : Bool :=
  match i with
  | .registerWrite _ _ _ size _ _ => accessSize size
  | .counterLowWordRead _ _ off _ => accessSize off.size
  | .unitReset _ _ => true
  | .unitResetDone _ => true
  | .lockAcquire _ _ _ => true
  | .lockRelease _ _ _ => true
  | .lockForce _ _ => true
  | .interimSnapshotTrigger _ _ => true
  | .pmcDumpTrigger _ _ => true
  | .pwrgoodAonAssert => true
  | .pwrgoodAonDeassert _ => true
  | .resetNAssert => true
  | .resetNDeassert _ => true
  | .rollCallDone _ report => report.wf
  | .shadowFrameResend _ => true
  | .shadowDone => true
  | .shadowFirstPartTimeout => true
  | .shadowSecondPartTimeout => true
  | .railOutOfRange _ => true
  | .aonClkLoss _ => true
  | .refclkLaneLoss _ _ => true
  | .entdaa _ => true
  | .setdasa _ _ => true
  | .rstdaa => true
  | .getpid => true
  | .getbcr => true
  | .getdcr => true
  | .i3cPrivateWrite _ _ _ => true
  | .i3cPrivateRead _ => true
  | .eightArrangeWrite _ _ _ => true
  | .eightPairRateWrite _ _ _ => true
  | .laneRxLimitWrite _ _ _ => true
  | .portEnable _ _ _ => true
  | .portDisable _ _ _ => true
  | .anResolved _ _ _ => true
  | .anFail _ _ _ => true
  | .anBreakLinkExpire _ => true
  | .trainCoefRequest _ _ _ => true
  | .trainComplete _ ctle => decide (ctle.length ≤ 8)
  | .trainTimeout _ => true
  | .alignLock p => decide (p.marks.length ≤ 8)
  | .alignTimeout _ => true
  | .upHoldoffExpire _ => true
  | .holdFaultTimeout _ => true
  | .linkDownDetect _ _ _ => true
  | .linkDownClear _ _ _ => true
  | .downDebounceExpire _ => true
  | .remoteFaultDebounceExpire _ => true
  | .remoteFaultClear _ => true
  | .portFlushDone _ _ => true
  | .frameRx _ _ _ _ _ => true
  | .pauseRx _ => true
  | .pfcRx _ _ times => times.length == 8
  | .pfcPauseExpire _ _ => true
  | .mmFragmentRx _ _ _ => true
  | .mmVerifyRx _ => true
  | .mmResponseRx _ => true
  | .mmVerifyTimer _ => true
  | .pipelineEntry _ u => u.wf
  | .clsWalkDone _ _ errs _ => decide (errs.length ≤ 4)
  | .treeFailedMark _ _ => true
  | .clsFifoResume _ => true
  | .pipelineStallRelease _ => true
  | .clsTreeSwap _ _ _ _ => true
  | .clsSwapDone _ _ u => u.wf
  | .clsTreeRootWrite _ _ _ _ _ => true
  | .clsCacheFlush _ _ _ => true
  | .clsTtWrite _ _ _ => true
  | .clsTtRead _ _ _ => true
  | .qdrWrite _ _ _ => true
  | .qdrRead _ _ _ => true
  | .qdrAccessDone _ _ => true
  | .prsMemWrite _ _ _ => true
  | .prsMemRead _ _ _ => true
  | .tmapInsert _ _ _ => true
  | .tmapDelete _ _ _ => true
  | .tmapLookup _ _ _ => true
  | .tcamInvalidate _ _ _ => true
  | .tcamWrite _ _ _ => true
  | .tcamValidate _ _ _ => true
  | .tcamRead _ _ _ => true
  | .tcamBlockCfgWrite _ _ _ _ => true
  | .tcamScrub _ flips => flips.all (fun f => decide (f.row < tcamRows))
  | .stageCfgWrite _ _ _ _ => true
  | .emInsert _ _ _ => true
  | .emDelete _ _ _ => true
  | .emLookup _ _ _ => true
  | .emCmdDone _ => true
  | .emSeedWrite _ _ _ _ => true
  | .lpmInsert _ _ _ => true
  | .lpmDelete _ _ _ => true
  | .lpmLookup _ _ _ => true
  | .lpmCmdDone _ => true
  | .tblIdxWrite _ _ _ => true
  | .tblIdxRead _ _ _ => true
  | .parityRepair _ => true
  | .tableLockRequest _ _ _ => true
  | .tableLockGrant _ _ => true
  | .tableLockRelease _ _ _ => true
  | .tableLockTimeout _ _ => true
  | .learnEventApply _ => true
  | .learnUnpin _ _ _ => true
  | .learnMoveWindowExpire _ _ _ => true
  | .ageScan _ => true
  | .engineDispatch _ => true
  | .aluNop _ _ _ => true
  | .aluMov _ _ _ => true
  | .aluAdd _ _ _ => true
  | .aluSub _ _ _ => true
  | .aluAnd _ _ _ => true
  | .aluOr _ _ _ => true
  | .aluXor _ _ _ => true
  | .aluShl _ _ _ => true
  | .aluShr _ _ _ => true
  | .aluSar _ _ _ => true
  | .aluCmp _ _ _ => true
  | .aluMin _ _ _ => true
  | .aluMax _ _ _ => true
  | .aluExt _ _ _ => true
  | .aluIns _ _ _ => true
  | .aluMul _ _ _ => true
  | .aluCrc32c _ _ _ => true
  | .memHrd _ _ _ => true
  | .memHwr _ _ _ => true
  | .memMrd _ _ _ => true
  | .memMwr _ _ _ => true
  | .memTrd _ _ _ => true
  | .memTwr _ _ _ => true
  | .memEml _ _ _ => true
  | .memLpm _ _ _ => true
  | .memQrd _ _ _ => true
  | .memQwr _ _ _ => true
  | .memCnt _ _ _ => true
  | .memLock _ _ _ => true
  | .memXrd _ _ _ => true
  | .memCu _ _ _ => true
  | .memReadReturn _ _ _ rep => rep.bad.all tableIndex
  | .lockGrant _ _ => true
  | .routineCommit _ _ => true
  | .csEventGo _ _ _ => true
  | .engineFault _ _ => true
  | .csDmaWaitExpire _ _ => true
  | .csWordWrite _ _ _ => true
  | .csWordRead _ _ _ => true
  | .csRunWrite _ _ _ => true
  | .csScrub _ found => decide (found.length ≤ csWords)
  | .csReloadDone _ _ => true
  | .frameAdmit _ _ => true
  | .frameLastCell _ _ _ => true
  | .macsecVerdict _ => true
  | .transmitStart _ _ u => u.wf
  | .transmitEnd _ _ => true
  | .pfcEval _ => true
  | .pfcRefresh _ _ => true
  | .queueHeadAgeCheck _ => true
  | .bufPoolLimitWrite _ _ _ _ => true
  | .queueDisable _ _ _ _ => true
  | .queueEnable _ _ _ _ => true
  | .queueDrainDone _ _ => true
  | .mcGroupWrite _ _ _ => true
  | .mcGroupRead _ _ _ => true
  | .shaperWheelSlot _ => true
  | .schCfgWrite _ _ _ _ => true
  | .mmCfgWrite _ _ _ => true
  | .policerWrite _ _ _ => true
  | .policerRead _ _ _ => true
  | .policerReadClear _ _ _ => true
  | .gateEntryBoundary _ => true
  | .gateChange _ _ _ => true
  | .gateChangeApply _ => true
  | .gateListWriteAdmin _ _ _ => true
  | .gateListReadAdmin _ _ _ => true
  | .gateListReadOper _ _ _ => true
  | .queueSample _ => true
  | .keelCellRx _ _ _ => true
  | .keelCellSend _ _ => true
  | .keelIdleSend _ _ => true
  | .keelCtrlCellRx _ _ _ => true
  | .keelAckRx _ _ => true
  | .keelCtrlResend _ _ => true
  | .sublinkFailDetect _ _ => true
  | .sublinkTrainStart _ _ => true
  | .sublinkTrained _ _ => true
  | .sublinkTrainTimeout _ _ => true
  | .sublinkDisable _ _ _ _ => true
  | .sublinkEnable _ _ _ _ => true
  | .forceSplit _ _ _ => true
  | .splitEnter _ => true
  | .rejoinStart => true
  | .rejoinTimeAligned => true
  | .mergeLearnDone => true
  | .keelResume _ _ _ => true
  | .rejoinResumingDone => true
  | .rejoinAbort => true
  | .timeStepSet _ _ _ => true
  | .timeStepAdd _ _ _ => true
  | .timeStepSubtract _ _ _ => true
  | .timeStepApply _ => true
  | .timeOffsetSubmit _ _ _ => true
  | .timeRefChange _ _ _ => true
  | .timeRefSelWrite _ _ _ => true
  | .timeLatch _ _ _ => true
  | .timeRefTimeout _ => true
  | .ppsInEdge _ => true
  | .ppsInMiss _ => true
  | .ppsOutRise => true
  | .ppsOutFall => true
  | .timeFollowExchange => true
  | .timeFollowLoss => true
  | .timePortCalDone _ => true
  | .cmpFire _ _ => true
  | .cmpArmWrite _ _ _ _ => true
  | .txstampPop _ _ => true
  | .collectorFlush _ _ => true
  | .collectorEnableWrite _ _ _ _ => true
  | .bankCut _ => true
  | .settleTimeout _ => true
  | .snapshotWritten _ walks => walks.all walkWf
  | .acctSnapConsWrite _ _ _ => true
  | .acctWeightWrite _ _ _ => true
  | .acctWeightRead _ _ _ => true
  | .acctLiveRead _ _ _ => true
  | .epochEnd r => r.bow.wf && r.stern.wf
  | .pmcDumpPeriod _ => true
  | .pmcDumpWritten _ walks => walks.all walkWf
  | .pmcClear _ _ _ _ => true
  | .msecTblWrite _ _ _ => true
  | .msecTblRead _ _ _ => true
  | .keyWrite _ _ _ => true
  | .keyErase _ _ _ => true
  | .keyInfo _ _ _ => true
  | .keyZeroise _ _ => true
  | .cipherMessageDone _ _ _ _ walks => walks.all walkWf
  | .ucieLinkUp _ _ => true
  | .ucieModuleLost _ _ => true
  | .ucieRetrainTimer _ _ => true
  | .functionReset _ => true
  | .msixUnmask _ _ _ _ => true
  | .msixModerationExpire _ _ => true
  | .dtuInvAll _ _ _ => true
  | .dtuInvSpace _ _ _ => true
  | .dtuInvRange _ _ _ => true
  | .dtuInvDone _ => true
  | .dtuFaultRetry _ _ _ => true
  | .dtuFaultAbort _ _ _ => true
  | .hqDoorbell _ _ _ _ => true
  | .hqCqDoorbell _ _ _ _ => true
  | .poolDoorbell _ _ _ _ => true
  | .hqEnableWrite _ _ _ _ => true
  | .hqRingRegWrite _ _ _ _ => true
  | .hqHbqMapWrite _ _ _ _ => true
  | .dmaReadReturn _ _ w _ => walkWf w
  | .descNop _ _ walks => walks.all walkWf
  | .descFrame _ _ walks => walks.all walkWf
  | .descTableRead _ _ _ walks => walks.all walkWf
  | .descTableWrite _ _ walks => walks.all walkWf
  | .descCipher _ _ walks => walks.all walkWf
  | .puntDeliver _ _ u walks => u.wf && walks.all walkWf
  | .poolRefill _ _ => true
  | .sliceSleepEnter _ => true
  | .sliceAsleep _ => true
  | .sliceWakeStart _ => true
  | .sliceWakeDone _ => true
  | .ratingStep _ => true
  | .droopStart _ _ => true
  | .droopEnd _ _ => true
  | .droopRateWindow _ => true
  | .thermalStep _ _ => true
  | .thermTrip _ _ => true
  | .pwrBrakeFall => true
  | .pwrBrakeRise => true
  | .arbiterSample _ _ _ _ => true
  | .paddleOnUnmetStep _ _ => true
  | .coxPhaseClear _ _ _ => true
  | .coxCalStart _ _ _ => true
  | .coxCalEnd _ => true
  | .coxCfgWrite _ _ _ _ => true
  | .configScrub _ found => found.all (fun e => e.word.wf)
  | .decisionCacheScrub _ bad => bad.all (fun i => decide (i < cacheEntries))
  | .watchdogKick _ _ _ => true
  | .watchdogExpire _ => true
  | .paddleEnter _ _ _ => true
  | .paddleExit _ _ _ => true
  | .wearMeasure _ losses => losses.length == 16
  | .wearHoursLoad _ _ _ => true
  | .wearHourTick _ => true
  | .otpRead _ _ _ => true
  | .otpProgram _ _ _ => true
  | .otpSvnInc _ _ => true
  | .otpCmdDone _ => true
  | .imageStart _ _ => true
  | .imageAbort _ _ => true
  | .imageDataWrite _ _ _ _ => true
  | .imageVerifyDone _ => true
  | .remoteFaultDetect _ => true
  | .peerPresenceChange _ _ => true
  | .vaonLoss _ => true
  | .tmapCmdDone _ => true
  | .tcamRowOpDone _ => true
  | .frameRxEnd _ => true

end Sys2Proof
end

