-- ==== Sys2Proof/Tests/Slice0.lean ====
section
/-!
SUPPORT. Tests: an ill-formed command for each check of WellFormed, one step of a command on a small state with the result that the
spec's rule gives, and for each statement a state and operands that meet its hypotheses.
-/
namespace Sys2Proof.Tests
open Sys2Proof Sys2Proof.Machine

/-! ### States that the tests begin from -/

/-- Power is good, RESET_N is high and both dies have rolled; every register holds its reset value. -/
def up : State := { State.reset with
  pins := { pwrgood := true, resetN := true }, boot := [(0, { rolled := true }), (1, { rolled := true })] }

/-- A register field is given a value. -/
def has (s : State) (p : Page) (f : Fld) (v : Nat) (i : Nat := 0) : State := s.fset p f v i

/-- A port in a link state, its width 1. -/
def port (n st : Nat) : State := has (has up (portPg n) F.PORT_STATUS_STATE st) (eightPg (n / 8)) F.EIGHT_ARRANGE 1

/-- One frame in the device. -/
def oneFrame (f : Machine.Frm) (s : State := up) : State := { s with frames := [(1, some f)], nextFrame := 2 }

/-- One copy at the head of a queue. -/
def oneCopy (k : Nat) (c : Copy) (s : State) : State := { s with queues := [(k, [c])] }

/-- Does a command complete with a next state of which `p` holds? -/
def ran (c : Instr) (s : State) (p : State → Bool) : Bool :=
  match exec c s with
  | .next t => p t
  | _ => false

/-! ### Witnesses: states and operands that meet the hypotheses of each statement -/

theorem witness_StepRunsFront : (up.withPending [.getpid, .getdcr]).pending = [.getpid, .getdcr] := rfl
theorem witness_IdleStepTicks : State.reset.pending = [] := rfl
theorem witness_CommandTouchesOnlyItsParts : exec .getpid State.reset = .next State.reset ∧ Part.otp ∉ (touches .getpid).parts := by
  exact ⟨rfl, by decide⟩
theorem witness_CommandTouchesOnlyItsRegisters : exec .getpid State.reset = .next State.reset ∧
    Kind.slice ∉ (touches .getpid).own ∧ Kind.slice ∉ (touches .getpid).head := by
  exact ⟨rfl, by decide, by decide⟩
theorem witness_RegisterWriteFollowsItsCodes : up.reaches .i3c 0xC4C0 (aonPg 0) ∧ up.dieUp (aonPg 0).die = true ∧
    (∃ r, Kind.aon.reg? 0x104 = some r ∧ r.rwl = 0) ∧ up.plainAt .i3c (aonPg 0) 0x104 = true := by
  exact ⟨by unfold State.reaches; decide, by decide, ⟨_, rfl, by decide⟩, by decide⟩
theorem witness_UnmappedAccessesAreCounted : up.sourceUp .i3c = true ∧ up.mapped .i3c 0xE000 = none ∧
    up.crosses .i3c 0x6008 (slicePg 8) ∧ (2 : BitVec 16).toNat % 4 ≠ 0 := by
  exact ⟨by decide, by decide, by unfold State.crosses; decide, by decide⟩
theorem witness_PageLocksGuardWhatTheyLock : up.reaches .i3c 0 (lanePg 0) ∧ up.reaches .i3c 0xC220 (keelPg 0) ∧
    up.reaches .i3c 0xC440 (coxPg 0) ∧ up.reaches .i3c 0xA000 ⟨.device, 0⟩ ∧ (slicePg 0).kind ≠ .device := by
  unfold State.reaches; decide
theorem witness_CounterReadLatchesItsHighWord : up.reaches .i3c 0xC200 (bufPg 0) ∧ up.dieUp (bufPg 0).die = true ∧
    (bufPg 0).kind.level = none ∧ (bufPg 0).kind ≠ .hif ∧ (bufPg 0).kind.pairLow 0x380 = some 0x380 := by
  unfold State.reaches; decide
theorem witness_ReleaseNeedsHolderAndToken : (up.setLock (slicePg 0) (some ⟨.i3c, 7⟩)).reaches .i3c 0x6000 (slicePg 0) ∧
    (up.setLock (slicePg 0) (some ⟨.i3c, 7⟩)).lockOf (slicePg 0) = some ⟨.i3c, 7⟩ ∧
    (up.setLock (slicePg 0) (some ⟨.i3c, 7⟩)).lockOf (slicePg 0) ≠ some ⟨.i3c, 8⟩ := by
  unfold State.reaches; decide
theorem witness_UnitResetClearsAndReleases : up.reaches .i3c 0x8000 (diePg 0) ∧ up.reaches .i3c 0x6000 (slicePg 0) ∧
    Page.ofIndex 0 (up.devInst 0) 0x6000 = some (slicePg 0) ∧ slicePg 0 ∈ up.subtree (slicePg 0) := by
  refine ⟨by unfold State.reaches; decide, by unfold State.reaches; decide, by decide, ?_⟩
  simp [State.subtree]
theorem witness_SnapshotTriggersCutDumps : up.reaches .i3c 0xC4B0 (acctPg 0) ∧ up.reaches .i3c 0x6000 (slicePg 0) := by
  unfold State.reaches; decide
theorem witness_PowerRailsAndClocksAreGuarded : up.pins.pwrgood = true ∧ up.dieUp 0 = true ∧ up.dieUp 1 = true ∧ up.otp.busy = none := by
  decide
theorem witness_DynamicAddressIsTakenAndLost : up.pins.pwrgood = true ∧ up.pins.i3cAddr = none ∧
    (up.setI3cAddr (some 9)).pins.i3cAddr ≠ none ∧ (up.bootOf 0).shadow.i3c ≠ some 8 ∧
    (({ up with boot := [(0, { rolled := true, shadow := { i3c := some 8 } })] } : State).bootOf 0).shadow.i3c = some 8 := by
  decide
theorem witness_BoardBusAnswersAndAccesses : (up.setI3cAddr (some 9)).pins.pwrgood = true ∧
    (up.setI3cAddr (some 9)).pins.i3cAddr.isSome = true := by
  decide
/-- RESET_N is high, no die has rolled. -/
def rolling : State := { State.reset with pins := { pwrgood := true, resetN := true } }
theorem witness_RollCallAndShadowRunTheirCourse :
    ({ State.reset with pins := { pwrgood := true } } : State).pins.resetN = false ∧ State.reset.pins.brakeN = true ∧
    rolling.dieUp 0 = true ∧ rolling.dieUp 1 = true ∧ rolling.rolled 1 = false ∧ (rolling.bootOf 1).shadowDone = false ∧
    up.rolled 1 = true ∧ (up.bootOf 1).shadowDone = false := by
  decide
theorem witness_PortsAreArrangedAndEnabled : up.reaches .i3c 0xA000 ⟨.device, 0⟩ ∧ (port 0 1).reaches .i3c 0x2000 (portPg 0) ∧
    0 < (port 0 1).portState 0 ∧ (port 0 4).reaches .i3c 0x2000 (portPg 0) ∧ (port 0 4).portState 0 < 5 ∧
    up.reaches .i3c 0x4000 (eightPg 0) := by
  unfold State.reaches; decide
theorem witness_LinkStateMachineAdvances : (port 0 1).portState 0 = 1 ∧ ((port 0 1).links.get {} 0).breakLink = false ∧
    (port 0 1).anResolve 0 0x1FFF false = some (4, 1) ∧ (port 0 1).anResolve 0 0 false = none ∧
    (port 0 2).portState 0 = 2 ∧ (has (port 0 2) (portPg 0) F.PORT_STATUS_TECH 4).fget (portPg 0) F.PORT_STATUS_TECH ≠ 15 ∧
    (port 0 3).portState 0 = 3 ∧ (port 0 3).marksLock 0 [⟨0, false, 180000⟩] = true ∧
    (port 0 4).portState 0 = 4 ∧ (port 0 4).linkBad 0 = false ∧ (port 0 4).sliceState 0 = 0 ∧
    ((port 0 4).setCauses 0 [.cdr]).portState 0 = 4 ∧ ((port 0 4).setCauses 0 [.cdr]).linkBad 0 = true := by
  decide
theorem witness_LinksTrainAndFollowTheirConditions : 4 ≤ (port 0 4).portState 0 ∧ 0 ∈ (port 0 4).portLanes 0 ∧
    LinkCause.uncorr ∉ (port 0 4).laneCauses 0 ∧
    (let s := has (has (port 0 4) (portPg 0) F.PORT_STATUS_FEC 1) (portPg 0) F.PORT_LINK_CFG_UNCORR_RUN 1
     s.fget (portPg 0) F.PORT_LINK_CFG_UNCORR_RUN ≠ 0 ∧
       s.fget (portPg 0) F.PORT_LINK_CFG_UNCORR_RUN ≤ ((s.codewords 0 0 [.uncorr]).lanes.get {} 0).run) ∧
    (∀ v, some (4001 : Nat) = some v → 4000 < v) ∧
    ((port 0 5).setCauses 0 [.cdr]).portState 0 = 5 ∧ ((port 0 5).setCauses 0 [.cdr]).linkBad 0 = true ∧
    (has (port 0 5) (portPg 0) F.PORT_STATUS_RF 1).flag (portPg 0) F.PORT_STATUS_RF = true ∧
    up.fget (lanePg 0) F.LANE_STATUS_STATE ≠ 2 ∧
    (has up (lanePg 0) F.LANE_STATUS_STATE 2).fget (lanePg 0) F.LANE_STATUS_STATE = 2 := by
  refine ⟨by decide, by decide, by decide, by decide, by simp, by decide, by decide, by decide, by decide, by decide⟩
/-- Preemption is enabled on port 0 in UP, and one assembly is open. -/
def merging : State :=
  let s := has (port 0 5) (portPg 0) F.PORT_MM_CFG_EN 1
  s.setPort 0 { s.portOf 0 with assembly := some { bytes := [1, 2], stamp := 0, frags := 0, num := 1 } }
theorem witness_FramesAndFragmentsAreReceived : (port 0 5).portUp 0 = true ∧ ((port 0 5).portOf 0).rx = none ∧
    (let b : List Byte := List.replicate 12 0 ++ [0x88, 0x08] ++ List.replicate 46 0
     60 ≤ b.length ∧ b.length + 4 ≤ (port 0 5).fget (portPg 0) F.PORT_MAC_CFG_MAX_FRAME ∧ num b 12 2 = 0x8808) ∧
    merging.portUp 0 = true ∧ merging.flag (portPg 0) F.PORT_MM_CFG_EN = true ∧
    ((has (port 0 5) (portPg 0) F.PORT_MM_CFG_EN 1).portOf 0).assembly = none ∧
    ((merging.portOf 0).assembly.map (fun a => (a.num, a.frags % 4))) = some (1, 0) := by
  decide
/-- Two received frames of port 0 that wait for their MACsec verdict, their last bytes in. -/
def judged : State := { up with
  frames := [(1, some { sa := some (0, 1, true), lastByte := true }), (2, some { sa := some (0, 2, true), lastByte := true })] }
theorem witness_MacsecIsJudgedAndConfigured : judged.frm 1 = some { sa := some (0, 1, true), lastByte := true } ∧
    judged.operates (msecPg 0) = true ∧
    judged.frames.any (fun kv => decide (kv.1 < 2) && (match kv.2 with
      | some g => decide (g.port = 0) && decide (g.root = 0) && g.sa.isSome
      | none => false)) = true ∧
    judged.frames.any (fun kv => decide (kv.1 < 1)) = false ∧ (oneFrame {}).frm 1 = some {} ∧
    up.reaches .i3c 0xC300 (msecPg 0) ∧ msecIndex 0 0 0 ≠ none ∧ F.MSEC_TBL_CMD_KIND.of (F.MSEC_TBL_CMD_KIND.put 0 3) = 3 := by
  unfold State.reaches; decide
theorem witness_PauseHoldsItsClasses : (port 0 5).portUp 0 = true := by decide
/-- A frame waits in the entry buffer of port 0; a frame of tree 0 walks bank 0; a frame waits for the swap of tree 1. -/
def waiting : State := { (oneFrame {}) with
  ports := [(0, { entry := [1] })],
  clss := [(0, { fifo := [⟨1, 5, 0, 1, some 0, none⟩] })] }
theorem witness_FramesPassThePipelineAndTheClassifier : waiting.operates (slicePg 0) = true ∧ waiting.sliceRuns 0 = true ∧
    waiting.stalls.get [] 0 = [] ∧ waiting.nextPort 0 = some 0 ∧ (waiting.portOf 0).entry = [1] ∧ waiting.frm 1 = some {} ∧
    up.nextPort 0 = none ∧ waiting.operates (clsPg 0) = true ∧
    (waiting.clsOf 0).fifo.find? (fun w => w.uid = 1) = some ⟨1, 5, 0, 1, some 0, none⟩ ∧
    (has up (clsPg 0) F.CLS_TREE_CTRL_BUSY 1 3).treeBusy 0 3 = true ∧
    ((has up (clsPg 0) F.CLS_TREE_CTRL_BUSY 1 3).clsOf 0).fifo = [] ∧
    ((has up (clsPg 0) F.CLS_TREE_CTRL_BUSY 1 3).clsOf 0).swapWrites.get [] 3 = [] := by
  decide
theorem witness_ClassifierAndQdrAreConfigured : up.reaches .i3c 0xC470 (clsPg 0) ∧ up.operates (clsPg 0) = true ∧
    up.reaches .i3c 0xC210 (qdrPg 0) ∧ up.operates (qdrPg 0) = true ∧ up.qdrBusy.get none 0 = none ∧
    ({ up with qdrBusy := [(0, some ⟨3, some 9⟩)] } : State).qdrBusy.get none 0 = some ⟨3, some 9⟩ ∧
    ({ up with qdrBusy := [(7, some ⟨3, none⟩)] } : State).qdrBusy.get none 7 = some ⟨3, none⟩ := by
  unfold State.reaches; decide
theorem witness_ParserMemoriesAndPrefixesAreCommanded : up.reaches .i3c 0x6000 (slicePg 0) ∧ up.operates (slicePg 15) = true ∧
    lpmFind ((up.tab 0).lpm false) false 0 = none ∧
    lpmFind [(lpmKey 32 0x0A000001, some 7)] false 0x0A000001 = some (32, 7) := by
  unfold State.reaches; decide
/-- One exact-match entry and one failed entry of table 0, its lock requested and granted. -/
def tabled : State :=
  has (has (has { up with tabs := [(0, { repairs := [(2, 0)] })] } (slicePg 0) F.TBL_ACCESS_LOCK_REQ 1) (slicePg 0)
    F.TBL_ACCESS_LOCK_GRANTED 1) (slicePg 0) F.TBL_LOCK_TIMEOUT_TIMEOUT 1
theorem witness_HashTablesAreCommanded : up.reaches .i3c 0x6000 (slicePg 0) ∧ up.operates (slicePg 0) = true ∧
    up.hashFind .tmap 0 (up.tmapKey 0) = none ∧ (up.emCmdKey 0).isSome = true := by
  unfold State.reaches; decide
theorem witness_IndexedTablesAndTcamAreCommanded : up.reaches .i3c 0x6000 (slicePg 0) ∧ tableSize 2 = some 65536 ∧
    tableSize 15 = none ∧ tabled.operates (slicePg 0) = true ∧ bit (tabled.fget (slicePg 0) F.TBL_ACCESS_LOCK_REQ) 0 = true ∧
    tabled.granted 0 0 = true ∧ tabled.fget (slicePg 0) F.TBL_LOCK_TIMEOUT_TIMEOUT ≠ 0 ∧
    (tabled.tab 0).repairs.find? (fun r => !(decide (r.1 < 8) && tabled.granted 0 r.1)) = some (2, 0) := by
  unfold State.reaches; decide
/-- Context 0 of engine 0 holds a routine at the one word of its slice's control store. -/
def coding (w : Nat) (r : Routine) (s : State := up) : State :=
  { s with css := [(0, { words := [(0, BitVec.ofNat 256 w)], ctxs := [(0, some r)] })] }
/-- The word of an ALU operation, and that of a memory operation, with every other field 0. -/
def aluWord (op : Nat) : Nat := op * 2 ^ 214
def memWord (op : Nat) : Nat := op * 2 ^ 162
theorem witness_StepKeepsCanonical : (up.withPending [.getpid]).Canonical ∧ step (up.withPending [.getpid]) = .next up := by
  exact ⟨by constructor <;> decide, rfl⟩
theorem witness_StepTakesNothingBack : step (up.withPending [.getpid]) = .next up := rfl
theorem witness_AluOperationsCompute : ∀ op : Fin 17,
    let w := aluWord op.val
    let s := coding w { latch := some ⟨5, 0, 0, false⟩ }
    s.ctx 0 0 = some { latch := some ⟨5, 0, 0, false⟩ } ∧ s.wordAt 0 0 = w ∧ mwCommit w = false ∧ mwFlow w ≠ 6 ∧ mwMem w = 0 ∧
      mwAlu w = op.val ∧ (0 : DWord).toNat % 64 + ((0 : DWord).toNat / 256 % 64 + 1) ≤ 64 := by
  decide
theorem witness_WordsIssueInOrder : ∀ op : Fin 15,
    let w := memWord op.val
    let s := coding w {}
    s.ctx 0 0 = some {} ∧ s.sliceRuns 0 = true ∧ s.wordAt 0 0 = w ∧ mwMem w = op.val ∧ mwAlu w = 0 := by
  decide
theorem witness_MemoryOperationsAct : ∀ op : Fin 15, op.val ≠ 0 →
    let w := memWord op.val + (if op.val = 6 then 6 else if op.val = 8 then 8 else 0) * 2 ^ 148
    let r : Routine := { uid := if op.val = 2 ∨ op.val = 4 then some 1 else none, window := [7], staged := 63 }
    let s := coding w r (has up (csPg 0) F.CS_CTRL_WATCHDOG 0)
    s.ctx 0 0 = some r ∧ s.sliceRuns 0 = true ∧ s.wordAt 0 0 = w ∧ s.chosen 0 0 r = true ∧ r.illegal w = false ∧
      s.fget (csPg 0) F.CS_CTRL_WATCHDOG = 0 ∧ mwMem w = op.val ∧
      bits (mwMemAddr w) 7 0 + (r.reg (mwAddrReg w)).toNat + mwSize w ≤ r.windowNow.length ∧ r.staged < 64 ∧ (op.val = 3 → r.uid = none) := by
  decide
/-- A running control store with a frame at the head of the dispatch queue; every context of its engines free. -/
def dispatching (s : State := up) : State :=
  let s := has (has (oneFrame {} s) (csPg 0) F.CS_CTRL_RUN 1) (slicePg 0) F.SLICE_PADDLE_STATUS_ACTIVE 0
  s.setSlice 0 { s.sliceOf 0 with queue := [1] }
/-- The same with one working engine, its contexts all taken by frames of the lowest urgency. -/
def crowded : State :=
  let s := (List.range 15).foldl (fun s i => has s (enginePg (i + 1)) F.PAGE_CONTROL_ENABLE 0) (dispatching)
  let s := has (has s (enginePg 0) F.PAGE_CONTROL_ENABLE 1) (csPg 0) F.CS_URGENCY_MAP 1
  { s with frames := [(1, some {}), (2, some { tc := 1 })],
           css := [(0, { ctxs := (List.range 32).map (fun k => (k, some { uid := some 2 })) })] }
set_option maxRecDepth 8000 in
theorem witness_RoutinesAreDispatchedAndCommit :
    (let v := (dispatching (has up (enginePg 0) F.PAGE_CONTROL_ENABLE 1)).startEvent 0
     v.headFrm 0 = some (1, {}) ∧ v.csStarts 0 = true ∧ (v.placeCtx 0).isSome = true) ∧
    (let v := crowded.startEvent 0
     v.headFrm 0 = some (1, {}) ∧ v.csStarts 0 = true ∧ v.placeCtx 0 = none ∧
       (v.victim 0 (v.urgency 0 0)).isSome = true) ∧
    (let p : Pending := { of := .trd 2 65535, reg := 4, count := 2 }
     let r : Routine := { pend := [p] }
     let s := coding 0 r
     s.ctx 0 0 = some r ∧ r.pend.find? (fun p => p.reg = 4) = some p ∧
       (((s.markBad 0 []).arrive 0 0 r p { bad := [] }).1 matches .data ..)) ∧
    (let r : Routine := { lockWait := some 3 }
     let s := coding 0 r
     s.ctx 0 0 = some r ∧ s.lockHolder 0 3 = none) ∧
    (let r : Routine := { committing := true }
     let s := coding 0 r
     s.ctx 0 0 = some r ∧ r.pend = [] ∧ r.commitLocks 0 = []) := by
  decide
theorem witness_ControlStoreIsLoadedAndChecked : up.reaches .i3c 0xC100 (csPg 0) ∧ F.CS_CTRL_RUN.of (F.CS_CTRL_RUN.put 0 1) = 1 ∧
    up.flag (csPg 0) F.CS_STATUS_VERIFIED = false ∧ F.CS_CTRL_RUN.of 0 = 0 ∧
    ((has up (csPg 0) F.CS_EVENT_PENDING 1).putRw (csPg 0) F.CS_EVENT.off 0).flag (csPg 0) F.CS_EVENT_PENDING = true ∧
    up.operates (csPg 15) = true ∧ up.dieUp (sliceDie 15) = true ∧
    up.flag (csPg 0) F.CS_STATUS_RELOADING = false ∧
    (has up (csPg 0) F.CS_STATUS_RELOADING 1).flag (csPg 0) F.CS_STATUS_RELOADING = true ∧ up.dieUp (255 / 128) = true := by
  unfold State.reaches; decide
theorem witness_LearningFollowsItsRules : up.operates (lrnPg 0) = true ∧ up.lrnMaster 0 = true ∧ up.learnHeld 0 = false ∧
    (up.setLrn 0 { fifo := [{ port := 0, stamp := 0, tenant := 0, bd := 1, mac := 2 }] }).learnHeld 0 = false ∧
    ((up.setLrn 0 { fifo := [{ port := 0, stamp := 0, tenant := 0, bd := 1, mac := 2 }] }).lrnOf 0).fifo = [{ port := 0, stamp := 0, tenant := 0, bd := 1, mac := 2 }] ∧
    (has up (lrnPg 0) F.LRN_AGE_CFG_PERIOD_S 1).fget (lrnPg 0) F.LRN_AGE_CFG_PERIOD_S ≠ 0 := by
  decide
/-- A received frame that waits for admission on the bow die. -/
def admitting (f : Machine.Frm) : State := { (oneFrame f) with admits := [(0, [1])] }
theorem witness_FramesAreAdmittedOrDropped :
    (let s := admitting {}
     s.operates (bufPg 0) = true ∧ s.dieUp 0 = true ∧ s.frm 1 = some {} ∧ 1 ∈ s.admits.get [] 0 ∧ s.waitsBehind 0 1 {} = false) ∧
    (let f : Machine.Frm := { target := some (.port 255) }
     let s := admitting f
     s.frm 1 = some f ∧ s.waitsBehind 0 1 f = false ∧ portDie 255 = 0) ∧
    (let f : Machine.Frm := { lastByte := true }
     let s := oneCopy 0 { uid := 1, part := 1 } (oneFrame f)
     s.partFrm 0 1 = some f ∧ f.verdict ≠ .waiting ∧ s.crossingTo 0 1 = false ∧ ∃ c ∈ s.copies 0, c.part = 1) := by
  decide
/-- Queue 15 of port 0 drains. -/
def draining : State := up.setQueueState 0 15 qDrain
theorem witness_QueuesAndPoolsAreManaged : up.operates (bufPg 0) = true ∧ portDie 255 = 0 ∧ draining.queueState 0 15 = qDrain ∧
    draining.queueAt (portQ 0 15) = [] ∧ up.reaches .i3c 0x2000 (portPg 0) ∧ up.targetsOf (portPg 0) .port ≠ [] ∧
    (up.setQueueState 0 0 qEnabled).queueState 0 0 = qEnabled ∧ up.reaches .i3c 0xC200 (bufPg 0) ∧ up.dieUp 0 = true ∧
    (has (port 0 5) (portPg 0) F.BUF_PORT_PFC_STATUS_XOFF 128).portUp 0 = true ∧
    ((has (port 0 5) (portPg 0) F.BUF_PORT_PFC_STATUS_XOFF 128).fget (portPg 0) F.BUF_PORT_PFC_STATUS_XOFF).testBit 7 = true := by
  unfold State.reaches; decide
theorem witness_SchedulerIsConfiguredAndSampled : up.reaches .i3c 0x2000 (portPg 0) ∧ up.reaches .i3c 0x6000 (slicePg 0) ∧
    (up.portOf 0).wheel.wf (fun _ => 0) = true ∧ (oneCopy (portQ 0 15) { uid := 1 } up).queueAt (portQ 0 15) = [{ uid := 1 }] ∧
    up.operates (bufPg 1) = true ∧ up.dieUp 1 = true := by
  unfold State.reaches; decide
/-- Port 0 in UP at 200 Gb/s. -/
def portUp0 : State := has (port 0 5) (portPg 0) F.PORT_STATUS_TECH 4
/-- A valid administrative list: one entry, a cycle of one second. -/
def gated : State :=
  has (has (up.setPort 0 { gates := [(1024, 1000)] }) (portPg 0) F.GATE_ADMIN_LEN_LEN 1) (portPg 0) F.GATE_ADMIN_CYCLE_NS 1000
theorem witness_GatesAndPreemptionFollowTheirRules : up.reaches .i3c 0x2000 (portPg 0) ∧
    (up.putRw (portPg 0) F.GATE_CTRL.off 0).changeError 0 ≠ 0 ∧
    (gated.putRw (portPg 0) F.GATE_CTRL.off 0).changeError 0 = 0 ∧
    (up.setPort 0 { changeAt := some 0 }).portOf 0 = { changeAt := some 0 } ∧ (0 : Nat) ≤ up.nowNs 0 ∧
    portUp0.portUp 0 = true ∧ portUp0.portSpeed 0 ≤ 400000 ∧
    (has up (portPg 0) F.PORT_MM_STATUS_VERIFY 2).fget (portPg 0) F.PORT_MM_STATUS_VERIFY = 2 ∧ (up.portOf 0).mmTries < 3 ∧
    ((up.setPort 0 { mmTries := 3 }).portOf 0).mmTries = 3 ∧ up.fget (portPg 0) F.PORT_MM_STATUS_VERIFY ≠ 2 := by
  unfold State.reaches; decide
/-- Port 0 in UP at 200 Gb/s with an unqueued frame that is ready. -/
def sending : State :=
  { (portUp0.setPort 0 { ready := [1] }) with frames := [(1, some { pass := some { uid := 1 } })], nextFrame := 2 }
/-- Frame 2 of queue 1 (preemptable) on the MAC for long enough, frame 1 of queue 0 (express) ready. -/
def preempting : State :=
  let s := has (has sending (portPg 0) F.PORT_MM_STATUS_ACTIVE 1) (portPg 0) F.SCH_QUEUE_CFG_EXPRESS 0 1
  { (s.setPort 0 { ready := [1], tx := some { uid := 2, bytes := List.replicate 256 0, fcs := 0, stamp := 0 } }) with
    frames := [(1, some { pass := some { uid := 1 } }), (2, some { lastByte := true, pass := some { uid := 2, queue := 1 } })],
    times := [(0, { mono := 6 * nsUnits * fineUnit })] }
/-- The state in which a transmit start has settled its port. -/
def settled (s : State) : State :=
  let h := ((((s.purgeReady 0).settleHeads 0).adjustV 0).wakePort 0).settleTx 0
  if (h.portOf 0).tx = none then h.passTurns 0 else h
set_option maxRecDepth 8000 in
theorem witness_FramesAreTransmitted :
    (port 0 5).portUp 0 = true ∧ (port 0 5).sliceRuns (portSlice 0) = true ∧
    ((settled (port 0 5)).portOf 0).ready = [] ∧ (settled (port 0 5)).schedule 0 true ((settled (port 0 5)).candidates 0 (fun _ => true)) = none ∧
    sending.portUp 0 = true ∧ ((settled sending).portOf 0).ready = [1] ∧ ((settled sending).portOf 0).tx = none ∧
    (settled sending).fromQueue (fun _ => true) 1 = true ∧ (settled sending).saFor 0 = (.clear, settled sending) ∧
    ((settled (has sending (msecPg 0) F.MSEC_CFG_TX_EN 1)).saFor 0).1 = .held ∧
    ((settled preempting).portOf 0).tx.any ((settled preempting).canPreempt 0) = true ∧
    ((settled preempting).portOf 0).preempted = none ∧ (settled preempting).fromQueue ((settled preempting).express 0) 1 = true := by
  decide
theorem witness_FramesAreTransmitted_ends :
    (preempting.portOf 0).tx.isSome = true ∧ (preempting.portOf 0).tx.all (fun t => preempting.cutPoint 0 t = none) = true ∧
    (let t : TxSlot := { uid := 2, bytes := List.replicate 256 0, fcs := 0, stamp := 0, cut := some 64 }
     preempting.cutPoint 0 t = some 64) ∧
    (gated.portOf 0).tx = none ∧ (gated.gateAt 0 0).1 = none ∧
    (let s := has (has (has (has (gated.setPort 0 { gates := [(1024, 1000 + 2 ^ 48)], operBank := 1 }) (portPg 0) F.GATE_CTRL_EN 1)
        (portPg 0) F.GATE_STATUS_OPER_VALID 1) (portPg 0) F.GATE_OPER_CYCLE_NS 1000) (portPg 0) F.GATE_OPER_LEN_LEN 1
     (s.gateAt 0 0).1.isSome = true ∧ (s.gateAt 0 0).1.all (fun g => gateOp g = 1)) := by
  decide
/-- Both dies' sub-link 65 is ACTIVE in both directions, and what the two keel halves hold. -/
def linked (bow stern : KeelSt) : State :=
  { ([0, 1].foldl (fun s d => has (has s (keelPg d) F.KEEL_SUBLINK_TX_STATE slActive 65) (keelPg d)
      F.KEEL_SUBLINK_RX_STATE slActive 65) up) with keels := [(0, bow), (1, stern)] }
/-- Cells of the stern die in flight to the bow. -/
def flying (l : List KeelCell) : State := linked {} { flight := l, tx := [{ uid := 1, tag := 0, cells := 1 }] }
theorem witness_KeelCellsCarryFramesAndMessages :
    (let s := linked { tx := [{ uid := 1, tag := 0, cells := 1 }] } {}
     s.operates (keelPg 0) = true ∧ s.dieUp 0 = true ∧ s.ctrlFlows 0 = true ∧ s.nextSub 0 none = some 65 ∧ s.apart 0 = false ∧
       (s.keelOf 0).tx.find? s.cellReady = some { uid := 1, tag := 0, cells := 1 } ∧ s.forced 0 = false ∧ s.subTx 0 65 = slActive) ∧
    (linked { ctrl := [{ num := 0, msg := .subFail 3 }] } {}).nextSub 0 none = some 65 ∧
    (linked { used := 16384 } {}).nextSub 0 none = some 65 ∧
    (flying [{ sub := 65, seq := 0, body := .data 1 0 }]).arriving 0 65 = some { sub := 65, seq := 0, body := .data 1 0 } ∧
    ((((flying [{ sub := 65, seq := 0, body := .data 1 0 }]).landed 0 { sub := 65, seq := 0, body := .data 1 0 } false).owe 0).keelOf 1).tx =
      [{ uid := 1, tag := 0, cells := 1 }] ∧
    (flying [{ sub := 65, seq := 0, body := .ctrl 0 (.subFail 3) }]).arriving 0 65 =
      some { sub := 65, seq := 0, body := .ctrl 0 (.subFail 3) } ∧
    (flying [{ sub := 65, seq := 0, body := .ack 3 9 }]).arriving 0 65 = some { sub := 65, seq := 0, body := .ack 3 9 } ∧
    (∀ j : Fin 65, (flying [{ sub := 65, seq := 0, body := .ack 3 9 }]).arriving 0 j.val = none) ∧
    (let s := linked { ctrl := [{ num := 7, msg := .subFail 3, sentOn := some (2, 5) }] } {}
     (s.keelOf 0).ctrl.find? (fun m => m.num = 7) = some { num := 7, msg := .subFail 3, sentOn := some (2, 5) } ∧
       s.nextSub 0 (some 2) = some 65) := by
  decide
theorem witness_SubLinksTrainAndFail : up.operates (keelPg 0) = true ∧ up.rolled 0 = true ∧ up.rolled 1 = true ∧ up.forced 0 = false ∧
    up.subTx 0 65 = slOff ∧ (up.keelOf 0).retry.contains 65 = false ∧
    (has up (keelPg 0) F.KEEL_SUBLINK_TX_STATE slTrain 65).subTx 0 65 = slTrain ∧
    (linked {} {}).subTx 0 65 ≠ slOff ∧ (linked {} {}).subRx 0 65 = slActive ∧
    ((linked { gaps := [65] } {}).keelOf 0).gaps.contains 65 = true ∧ ((linked { crcOver := [65] } {}).keelOf 0).crcOver.contains 65 = true := by
  decide
/-- Both dies are split in a phase of R296, with sub-links in service; the host holds the locks. -/
def parted (phase : Nat) : State :=
  [0, 1].foldl (fun s d => has (has (has (has (has (has s (keelPg d) F.KEEL_STATUS_SPLIT 1) (keelPg d) F.KEEL_STATUS_PHASE phase)
    (keelPg d) F.KEEL_STATUS_TX_ACTIVE 64) (keelPg d) F.KEEL_STATUS_RX_ACTIVE 64) (keelPg d) F.KEEL_CTRL_AUTO_REJOIN 1)
    (keelPg d) F.KEEL_CTRL_REJOIN_MIN 64) up
theorem witness_SplitAndRejoinFollowTheirPhases :
    (let s := has up (keelPg 1) F.KEEL_CTRL_FORCE_SPLIT 1
     s.rolled 0 = true ∧ s.split 0 = false ∧ s.splitCond 0 = true ∧ s.forced 1 = true) ∧
    (up.setLock (keelPg 0) (some ⟨.i3c, 1⟩)).reaches .i3c 0xC220 (keelPg 0) ∧
    (up.setLock (keelPg 0) (some ⟨.i3c, 1⟩)).holdsLock .i3c (keelPg 0) = true ∧
    (∀ d < 2, (parted 1).split d = true ∧ (parted 1).fget (keelPg d) F.KEEL_STATUS_PHASE = 1 ∧ (parted 1).forced d = false ∧
      (parted 1).flag (keelPg d) F.KEEL_CTRL_AUTO_REJOIN = true ∧ (parted 1).fget (keelPg d) F.KEEL_STATUS_TX_ACTIVE = 64 ∧
      (parted 1).fget (keelPg d) F.KEEL_STATUS_RX_ACTIVE = 64 ∧ (parted 1).fget (keelPg d) F.KEEL_CTRL_REJOIN_MIN = 64) ∧
    (parted 2).fget (keelPg 1) F.KEEL_STATUS_PHASE = 2 ∧
    (has (parted 2) (timePg 1) F.TIME_LOCK_STATE_ALIGNED 1).flag (timePg 1) F.TIME_LOCK_STATE_ALIGNED = true ∧
    (parted 3).fget (keelPg 0) F.KEEL_STATUS_PHASE = 3 ∧ (parted 5).fget (keelPg 0) F.KEEL_STATUS_PHASE = 5 ∧
    up.fget (keelPg 0) F.KEEL_STATUS_TX_ACTIVE = 0 := by
  unfold State.reaches; decide
/-- The host holds the lock of the bow die's time unit page. -/
def timed : State := up.setLock (timePg 0) (some ⟨.i3c, 1⟩)
set_option maxRecDepth 8000 in
theorem witness_TimeIsSteppedAndFollowed : timed.reaches .i3c 0xC430 (timePg 0) ∧ timed.holdsLock .i3c (timePg 0) = true ∧
    timed.follows 0 = false ∧ timed.flag (timePg 0) F.TIME_SET_CTRL_BUSY = false ∧
    (has timed (timePg 0) F.TIME_SET_CTRL_BUSY 1).flag (timePg 0) F.TIME_SET_CTRL_BUSY = true ∧
    (has timed (timePg 0) F.TIME_LOCK_STATE_FOLLOW 1).follows 0 = true ∧ F.TIME_CTRL_LATCH.of 0 = 0 ∧
    (up.setTime 0 { waiting := some (.add (-1)) }).operates (timePg 0) = true ∧
    ((up.setTime 0 { waiting := some (.add (-1)) }).timeOf 0).waiting = some (.add (-1)) ∧
    (has up (timePg 0) F.TIME_CTRL_REF_SEL 1).fget (timePg 0) F.TIME_CTRL_REF_SEL ≠ 0 ∧ up.fget (timePg 0) F.TIME_CTRL_REF_SEL = 0 ∧
    (has up (timePg 0) F.TIME_LOCK_STATE_STATE 3).lockState 0 = 3 ∧ (has up (timePg 0) F.TIME_LOCK_STATE_STATE 1).lockState 0 = 1 ∧
    (has (linked {} {}) (timePg 1) F.TIME_LOCK_STATE_FOLLOW 1).follows 1 = true ∧
    (has (parted 3) (timePg 1) F.TIME_LOCK_STATE_FOLLOW 1).follows 1 = true ∧
    (parted 3).fget (keelPg 1) F.KEEL_STATUS_RX_ACTIVE = 64 ∧ (parted 3).fget (keelPg 1) F.KEEL_STATUS_PHASE ≠ 2 := by
  unfold State.reaches; decide
/-- One stamp waits in the transmit stamp FIFO. -/
def stamped : State := up.setTime 0 { txFifo := [{ port := 255, msgType := 3, seqId := 65535, stamp := 7 }] }
theorem witness_PulsesStampsAndComparators : up.pins.pwrgood = true ∧ up.operates (timePg 0) = true ∧ portDie 255 = 0 ∧
    (has up (timePg 0) F.TIME_PPS_CFG_IN_EN 1).flag (timePg 0) F.TIME_PPS_CFG_IN_EN = true ∧
    (has up (timePg 0) F.TIME_PPS_CFG_IN_EN 0).flag (timePg 0) F.TIME_PPS_CFG_IN_EN = false ∧
    (has up (timePg 0) F.TIME_PPS_CFG_OUT_EN 1).flag (timePg 0) F.TIME_PPS_CFG_OUT_EN = true ∧ (up.timeOf 0).ppsOut = false ∧
    up.ppsPassed = some 0 ∧ (up.timeOf 0).ppsSecond ≠ some 0 ∧
    (let s := has (up.setTime 0 { ppsOut := true }) (timePg 0) F.TIME_PPS_CFG_WIDTH_US 0
     (s.timeOf 0).ppsOut = true ∧ (s.timeOf 0).ppsRise + s.fget (timePg 0) F.TIME_PPS_CFG_WIDTH_US * 1000 * nsUnits * fineUnit ≤
       (s.timeOf 0).mono) ∧
    (port 0 5).portUp 0 = true ∧ stamped.reaches .i3c 0xC430 (timePg 0) ∧
    (stamped.timeOf 0).txFifo = [{ port := 255, msgType := 3, seqId := 65535, stamp := 7 }] ∧ (up.timeOf 0).txFifo = [] ∧
    F.TIME_CMP_CFG_ARM.of (BitVec.ofNat 32 (2 ^ 32 - 1)) = 1 ∧ F.TIME_CMP_CFG_PERIODIC.of (BitVec.ofNat 32 (2 ^ 32 - 1)) = 1 ∧ up.cmpPeriod 0 31 < 1000 ∧ F.TIME_CMP_CFG_ARM.of 0 = 0 ∧
    F.TIME_CMP_CFG_PERIODIC.of (F.TIME_CMP_CFG_ARM.put 0 1) = 0 ∧
    (has up (timePg 0) F.TIME_CMP_CFG_ARM 1 31).flag (timePg 0) F.TIME_CMP_CFG_ARM 31 = true ∧ up.cmpTarget 0 31 ≤ up.nowNs 0 ∧
    up.flag (timePg 0) F.TIME_CMP_CFG_PERIODIC 31 = false ∧ (up.cmpOf 0 31).stepped = false := by
  unfold State.reaches; decide
/-- The bow die's host link is in service, and what its function holds. -/
def hosted (h : HostSt := {}) (s : State := up) : State := (has s (hifPg 0) F.HIF_UCIE_STATUS_IN_SERVICE 3).setHost 0 h
/-- A bank whose slot is half written. -/
def snapping (h : HostSt := {}) : State := (hosted h).setAcct 0 { held := some {}, writes := [(0x1000, [1, 2, 3, 4])] }
/-- A completion of ring 0 that waits. -/
def completing : HostSt := { rings := [(0, { done := some ⟨0, 0, 0, 0, 0⟩ })] }
theorem witness_AccountsAndCountersAreDelivered_accounts : up.operates (acctPg 0) = true ∧ up.dieUp 0 = true ∧
    ((up.setAcct 0 { settling := some {} }).acctOf 0).settling = some {} ∧ (up.setAcct 0 { settling := some {} }).outstanding 0 = 0 ∧
    (up.setAcct 0 { settling := some {} }).outstanding 1 = 0 ∧ (up.setAcct 0 { settling := some {} }).split 0 = false ∧
    (has up (keelPg 0) F.KEEL_STATUS_SPLIT 1).split 0 = true ∧
    (let s := { up with frames := [(1, some { holder := 1 })], accts := [(0, { settling := some {} }), (1, { settling := some { edge := 0 }, bank := { edge := 1 } })] }
     s.outstanding 1 ≠ 0 ∧ s.outstanding 0 = 0) ∧
    (snapping.acctOf 0).next = some {} ∧ snapping.snapFull 0 = false ∧ snapping.hostUp 0 = true ∧
    snapping.isSuspended 0 (· == .snapshot) = false ∧ (snapping.acctOf 0).wait = false ∧
    (snapping.writeTurn 0 true true snapQueue (snapUnits [(0x1000, [1, 2, 3, 4])])).isSome = true ∧
    ((snapping completing).writeTurn 0 true true snapQueue (snapUnits [(0x1000, [1, 2, 3, 4])])).isSome = false ∧
    (let s := has ((hosted).setAcct 0 { held := some {} }) (acctPg 0) F.ACCT_SNAP_PROD_INDEX (ringSlots (up.fget (acctPg 0) F.ACCT_SNAP_RING_K))
     s.snapFull 0 = true) ∧ up.reaches .i3c 0xC4B0 (acctPg 0) := by
  unfold State.reaches; decide
/-- A dump of one page is left to write. -/
def dumping : State := (hosted).setDump 0 { waiting := [{ page := some 0xC200, writes := [(0, [1])] }] }
theorem witness_AccountsAndCountersAreDelivered_counters : up.operates (pmcPg 0) = true ∧ up.operates (telPg 0) = true ∧ up.dieUp 0 = true ∧
    (has up (pmcPg 0) F.PMC_DUMP_CTRL_EN 1).flag (pmcPg 0) F.PMC_DUMP_CTRL_EN = true ∧ up.flag (pmcPg 0) F.PMC_DUMP_CTRL_EN = false ∧
    (has up (pmcPg 0) F.PMC_DUMP_CTRL_PERIOD_MS 1).multiplePassed 0 1000000 = true ∧ dumping.hostUp 0 = true ∧
    dumping.isSuspended 0 (· == .dump) = false ∧ (dumping.dumpOf 0).waiting = [{ page := some 0xC200, writes := [(0, [1])] }] ∧
    (dumping.writeTurn 0 true true snapQueue (snapUnits [(0, [1])])).isSome = true ∧
    up.reaches .i3c 0xC200 (bufPg 0) ∧ up.targets (bufPg 0) ((pmcOff (bufPg 0).kind F.PMC_SEL_EN).at 7) ≠ [] ∧
    up.reaches .i3c 0xC4C0 (aonPg 0) ∧ up.targets (aonPg 0) ((pmcOff (aonPg 0).kind F.PMC_SEL_EN).at 7) = [] ∧
    up.reaches .i3c 0xC460 (telPg 0) ∧ F.TEL_COLL_CFG_EN.of (F.TEL_COLL_CFG_EN.put 0 1) = 1 ∧ F.TEL_COLL_CFG_EN.of 0 = 0 ∧
    (let val := F.TEL_COLL_CFG_EN.put (F.TEL_COLL_CFG_TEMPLATE_LEN.put 0 28) 1
     F.TEL_COLL_CFG_TEMPLATE_LEN.of val = F.TEL_COLL_CFG_L3_OFF.of val + 28 ∧ portDie (F.TEL_COLL_CFG_PORT.of val) = 0 ∧
       F.TEL_COLL_CFG_IPV6.of val = 0 ∧ (has up (telPg 0) F.TEL_COLL_LIMIT_MAX_RECORDS 30).fget (telPg 0) F.TEL_COLL_LIMIT_MAX_RECORDS = 30) := by
  unfold State.reaches; decide
theorem witness_KeysAreLoadedAndErased : up.reaches .i3c 0xC420 (cipherPg 0) ∧ (up.keySlot 0 0).erasePending = false ∧
    ((up.setKeySlot 0 0 { erasePending := true }).keySlot 0 0).erasePending = true ∧ up.oldInFlight 0 0 = false ∧
    ((up.setCipher 0 { flight := [(0, 9)] }).putRw (cipherPg 0) F.CU_KEY_CMD.off 0).oldInFlight 0 0 = true ∧
    up.operates (cipherPg 0) = true ∧ ((up.setKeySlot 0 4095 { erasePending := true }).keySlot 0 4095).erasePending = true ∧
    (up.setKeySlot 0 4095 { erasePending := true }).inFlight 0 4095 = [] := by
  unfold State.reaches; decide
theorem witness_RingsAreRungAndConfigured : (hosted).reaches .f0 0xC400 (hifPg 0) ∧ up.reaches .i3c 0xC400 (hifPg 0) ∧
    consumerOk 1 0 0 3 = false ∧ consumerOk 1 0 0 0 = true ∧ producerOk 0 0 0 1 = true ∧
    (1 : Word).getLsbD 0 = true ∧ (0 : Word).getLsbD 0 = false ∧ up.operates (hifPg 0) = true ∧
    ((hosted { rings := [(1023, { waitMsg := true })] }).ringAt 0 1023).waitMsg = true ∧ (up.ringAt 0 1023).waitMsg = false := by
  unfold State.reaches; decide
/-- A TABLE_WRITE descriptor. -/
def tableDesc : BitVec 512 := BitVec.ofNat 512 (3 * 2 ^ 60)
/-- The bow host interface serves a TABLE_WRITE at ring 0 with reads still to make, or fetches. -/
def serving (l : List (Nat × Nat)) : State := hosted { rings := [(0, { serving := some { index := 0, desc := tableDesc, reads := l } })] }
set_option maxRecDepth 4000 in
theorem witness_DescriptorsAreServed :
    ((serving []).ringAt 0 0).serving = some { index := 0, desc := tableDesc } ∧ descKind tableDesc = 3 := by
  decide
/-- One frame at the head of host-bound queue 63; pool 63 enabled with one entry; ring 511 on with one descriptor; an engine's
read of host memory pending; space 0 in IDENTITY mode. -/
def punting (h : HostSt := {}) : State :=
  let s := hosted { h with pools := [(63, { cfg := 2 ^ 31, prod := 1 })], rings := [(511, { prod := 1 })] }
    (has up (dtuPg 0) F.DTU_SPACE_CFG_MODE 1)
  let s := has s (hifPg 0) F.HQ_ENABLE_RING (2 ^ 31) 15
  { (coding 0 { pend := [{ of := .xrd 0 0, reg := 1, count := 4 }] } s) with
    frames := [(1, some {})], queues := [(hostQ 0 63, [{ uid := 1, eligible := true }])] }
set_option maxRecDepth 8000 in
theorem witness_PuntsAndReadsReachTheHost : punting.hostUp 0 = true ∧
    (let x := punting.poolAt 0 63
     x.en = true ∧ x.fetching = 0 ∧ x.cache.length < 192 ∧ min 64 (min x.unfetched (256 - x.cache.length)) ≠ 0) ∧
    punting.isSuspended 0 (· == .pool 63) = false ∧ punting.isSuspended 0 (· == .punt 63) = false ∧
    (let x : Delivery := ⟨{ uid := 1 }, 512, 0, [], [], 0⟩
     ((punting { held := [(63, some x)] }).hostOf 0).held.get none 63 = some x ∧ (punting { held := [(63, some x)] }).complWaits 0 = false) ∧
    (has punting (hifPg 0) F.HQ_HBQ_SCHED (2 ^ 31) 63).hbqHigh 0 63 = true ∧ punting.highWrites 0 = false ∧
    (punting.hostOf 0).held.get none 63 = none ∧ punting.queueAt (hostQ 0 63) = [{ uid := 1, eligible := true }] ∧ punting.frm 1 = some {} ∧
    punting.ringOn 0 511 = true ∧ punting.isSuspended 0 (· == .fetch 511) = false ∧ (punting.ringAt 0 511).fetchRun ≠ 0 ∧
    (punting.dmaRead 0 (.fetch 511) 0 0 64 [] (List.replicate 64 0)).1.isSome = true ∧
    (let s := has (serving [(255, 1)]) (dtuPg 0) F.DTU_SPACE_CFG_MODE 1
     s.readPart 0 0 255 1 ≠ 0 ∧ (s.dmaRead 0 (dataStream 0 3) (descSpace tableDesc) 255 1 [] [7]).1.isSome = true ∧
       s.isSuspended 0 (· == dataStream 0 3) = false) ∧
    (let s := punting.setPool 0 63 { cfg := 2 ^ 31, prod := 1, fetching := 1 }
     (s.poolAt 0 63).fetching ≠ 0 ∧ (s.dmaRead 0 (.pool 63) 0 0 8 [] (List.replicate 8 0)).1.isSome = true) ∧
    (punting.ctx 0 0).isSome = true ∧ (punting.dmaRead 0 (.engine 0 0 0) 0 (2 ^ 48) 32 [] []).1 = none := by
  decide
theorem witness_TranslationFaultsAndLinksAreHandled : up.reaches .i3c 0xC410 (dtuPg 0) ∧ up.recValid 0 63 = false ∧
    (up.setRecValid 0 63 true).recValid 0 63 = true ∧
    (has up (dtuPg 0) F.DTU_INV_CMD_BUSY 1).flag (dtuPg 0) F.DTU_INV_CMD_BUSY = true ∧ up.rolled 0 = true ∧
    up.fget (hifPg 0) F.HIF_UCIE_STATUS_IN_SERVICE = 0 ∧ bit ((hosted).fget (hifPg 0) F.HIF_UCIE_STATUS_IN_SERVICE) 1 = true ∧
    (has up (hifPg 0) F.HIF_UCIE_CTRL_RETRAIN_EN 1).flag (hifPg 0) F.HIF_UCIE_CTRL_RETRAIN_EN = true := by
  unfold State.reaches; decide
/-- Slice 15 in a state, a cause for waking it pending. -/
def sleeping (st : Nat) : State := (up.setSliceState 15 st).setCox 1 { wakes := [7] }
theorem witness_SlicesSleepAndWake : up.dieUp 1 = true ∧ up.sliceState 15 = 0 ∧ up.sliceIdle 15 = true ∧
    (has up (slicePg 15) F.PAGE_CONTROL_SLEEP_REQ 1).maySleep 15 = true ∧ (sleeping 1).sliceState 15 = 1 ∧
    (sleeping 2).sliceState 15 = 2 ∧ (sleeping 3).sliceState 15 = 3 ∧ ((sleeping 1).coxOf 1).wakes.contains 7 = true ∧
    up.sliceRuns 15 = true ∧ (up.coxOf 1).droop = none ∧ ((up.setCox 1 { droop := some 0 }).coxOf 1).droop ≠ none := by
  decide
theorem witness_VoltageHeatAndBrakeLowerRatings : up.operates (aonPg 0) = true ∧ up.dieUp 0 = true ∧ (up.coxOf 0).droop = none ∧
    (let s := has up (aonPg 0) F.AON_VCORE_SETPOINT_MV 700
     600 + s.fget (aonPg 0) F.AON_DROOP_CFG_THRESH_MV ≤ s.fget (aonPg 0) F.AON_VCORE_SETPOINT_MV ∧
       ¬ 700 + s.fget (aonPg 0) F.AON_DROOP_CFG_THRESH_MV ≤ s.fget (aonPg 0) F.AON_VCORE_SETPOINT_MV ∧
       s.fget (aonPg 0) F.AON_VCORE_SETPOINT_MV ≤ 700 + s.fget (aonPg 0) F.AON_DROOP_CFG_RELEASE_MV) ∧
    ((up.setCox 0 { droop := some 5 }).coxOf 0).droop = some 5 ∧
    (has up (aonPg 0) F.AON_DROOP_CFG_RATE 0).fget (aonPg 0) F.AON_DROOP_CFG_RATE = 0 ∧ ((up.setCox 0 { quiet := 8 }).coxOf 0).quiet < 9 ∧
    (has (up.setCox 0 { droops := 2 }) (aonPg 0) F.AON_DROOP_CFG_RATE 1).fget (aonPg 0) F.AON_DROOP_CFG_RATE = 1 ∧
    up.tempLimit 0 F.AON_TEMP_CFG_WARN_C ≤ (BitVec.ofNat 16 0x7FFF).toInt ∧ ((up.setCox 0 { hot := true }).coxOf 0).hot = true ∧
    up.tempLimit 0 F.AON_TEMP_CFG_TRIP_C ≤ (BitVec.ofNat 16 0x7FFF).toInt ∧ up.pins.tripped = false ∧ up.pins.brakeN = true := by
  decide
/-- The cox is on with an allocation; the bow die's epoch is unmet. -/
def coxed : State :=
  has (has (has (up.setCox 0 { alloc := [9, 5, 6], budget := 19 }) (coxPg 0) F.COX_CFG_EN 1) (coxPg 0) F.COX_STATUS_UNMET 1)
    (coxPg 0) F.COX_CFG_PADDLE_ON_UNMET 1
theorem witness_CoxFollowsItsRules : up.operates (coxPg 0) = true ∧ up.operates (coxPg 1) = true ∧ up.dieUp 0 = true ∧ up.dieUp 1 = true ∧
    (has up (coxPg 0) F.COX_CFG_EN 0).flag (coxPg (up.coxMaster 0)) F.COX_CFG_EN = false ∧
    coxed.flag (coxPg (coxed.coxMaster 0)) F.COX_CFG_EN = true ∧ (coxed.coxOf 0).alloc = [9, 5, 6] ∧ (coxed.coxOf 0).riseMem = false ∧
    (coxed.coxOf 0).riseCompute = false ∧ coxed.flag (coxPg 0) F.COX_STATUS_UNMET = true ∧
    coxed.flag (coxPg (coxed.coxMaster 0)) F.COX_CFG_PADDLE_ON_UNMET = true ∧ (coxed.coxOf 0).budget < 20 ∧
    (has coxed (slicePg 7) F.SLICE_PADDLE_STATUS_ACTIVE 0).inPaddle 7 = false ∧
    up.split 0 = false ∧ up.split 1 = false ∧ (has up (keelPg 1) F.KEEL_STATUS_SPLIT 1).split 1 = true ∧
    up.reaches .i3c 0xC440 (coxPg 0) ∧ F.COX_CFG_EN.of (F.COX_CFG_EN.put 0 1) = 1 ∧ (up.coxOf 0).cal = none ∧
    ((up.setCox 0 { cal := some (some 0) }).coxOf 0).cal = some (some 0) := by
  unfold State.reaches; decide
theorem witness_IntegrityAndPaddleModeAreKept : up.operates (diePg 1) = true ∧ up.operates (clsPg 1) = true ∧ up.dieUp 1 = true ∧
    up.operates (aonPg 1) = true ∧ up.pins.pwrgood = true ∧ (worstBank [0, 49]).2 < up.wearBase.get 0 1 + 50 ∧
    up.reaches .i3c 0xC4C0 (aonPg 0) ∧ up.reaches .i3c 0x6000 (slicePg 0) ∧
    (up.setLock (diePg 0) (some ⟨.i3c, 1⟩)).reaches .i3c 0x8000 (diePg 0) ∧
    (up.setLock (diePg 0) (some ⟨.i3c, 1⟩)).holdsLock .i3c (diePg 0) = true ∧ F.DIE_WATCHDOG_KICK.of (F.DIE_WATCHDOG_KICK.put 0 1) = 1 ∧
    (has up (diePg 1) F.DIE_WATCHDOG_EN 1).flag (diePg 1) F.DIE_WATCHDOG_EN = true ∧
    (has up (diePg 1) F.DIE_WATCHDOG_EN 1).flag (diePg 1) F.DIE_WATCHDOG_EXPIRED = false := by
  unfold State.reaches; decide
theorem witness_OtpAndImagesFollowTheirRules : up.reaches .i3c 0xC450 otpPg ∧ up.otp.busy = none ∧
    ({ up with otp := { busy := some (.program 100 3) } } : State).otp.busy = some (.program 100 3) ∧ up.otp.resetPending = false ∧
    up.operates otpPg = true ∧ up.reaches .i3c 0x8000 (diePg 0) ∧
    (let s := has (up.setLoader 0 { limit := some 4, words := [1] }) (diePg 0) F.DIE_IMG_STATUS_BUSY 1
     s.imgBusy 0 = true ∧ (s.loader 0).limit = some 4 ∧ 4 ≤ 4 * (s.loader 0).words.length) := by
  unfold State.reaches; decide
set_option maxRecDepth 4000 in
theorem witness_AggregatePagesReachEveryUnit : up.reaches .i3c 0xA000 ⟨.device, 0⟩ ∧ up.targetsOf ⟨.device, 0⟩ .slice ≠ [] ∧
    up.targetsOf ⟨.device, 0⟩ .die ≠ [] ∧ up.reaches .i3c 0x2000 (portPg 0) ∧ up.targetsOf (portPg 0) .port ≠ [] ∧
    up.targetsOf (portPg 0) .slice = [] ∧ up.targetsOf (portPg 0) .die = [] ∧ up.reaches .i3c 0xC4C0 (aonPg 0) ∧
    up.targetsOf (aonPg 0) .port = [] := by
  unfold State.reaches; decide

/-! ### No word is a command -/

theorem test_decodeTableWord : decodeTableWord 64 0xFFFFFFFF = none ∧ (up.withFetchWord 64 5).pending = [] := by decide

/-! ### An ill-formed command for each check -/

/-- A report in which nothing failed. -/
def report : RollReport :=
  ⟨[], 0, 0, List.replicate 8 0, 500, 200, 720, List.replicate 16 0⟩
theorem wf_registerWrite : (Instr.registerWrite .f0 0 0x100 3 0 false).wf = false := by decide
theorem wf_counterLowWordRead : (Instr.counterLowWordRead .f0 0 ⟨0x380, 16⟩ false).wf = false := by decide
theorem wf_rollCallDone : (Instr.rollCallDone 0 report).wf = true := by decide
theorem wf_rollCallDone_unit : (Instr.rollCallDone 0 { report with failed := [(4, 16)] }).wf = false := by decide
theorem wf_rollCallDone_twice : (Instr.rollCallDone 0 { report with failed := [(4, 1), (4, 1)] }).wf = false := by decide
theorem wf_rollCallDone_banks : (Instr.rollCallDone 0 { report with banks := 129 }).wf = false := by decide
theorem wf_rollCallDone_spares : (Instr.rollCallDone 0 { report with spareBanks := 5 }).wf = false := by decide
theorem wf_rollCallDone_rows : (Instr.rollCallDone 0 { report with rows := [] }).wf = false := by decide
theorem wf_rollCallDone_losses : (Instr.rollCallDone 0 { report with losses := [0] }).wf = false := by decide
theorem wf_trainComplete : (Instr.trainComplete 0 (List.replicate 9 0)).wf = false := by decide
theorem wf_alignLock : (Instr.alignLock ⟨0, List.replicate 9 ⟨0, false, 0⟩⟩).wf = false := by decide
theorem wf_pfcRx : (Instr.pfcRx 0 1 [5]).wf = false := by decide
theorem wf_pipelineEntry : (Instr.pipelineEntry 0 { bad := [(16, 0)] }).wf = false := by decide
theorem wf_pipelineEntry_copy : (Instr.pipelineEntry 0 { tcam := { copyBad := [tcamRows] } }).wf = false := by decide
theorem wf_clsWalkDone : (Instr.clsWalkDone 0 1 (List.replicate 5 .ok) []).wf = false := by decide
theorem wf_clsSwapDone : (Instr.clsSwapDone 0 0 { flips := [{ row := tcamRows }] }).wf = false := by decide
theorem wf_tcamScrub : (Instr.tcamScrub 0 [{ row := tcamRows }]).wf = false := by decide
theorem wf_memReadReturn : (Instr.memReadReturn 0 0 1 { bad := [(99, 0)] }).wf = false := by decide
theorem wf_csScrub : Instr.wf (.csScrub 0 []) = true ∧ decide (csWords + 1 ≤ csWords) = false := by decide
theorem wf_transmitStart : (Instr.transmitStart 0 0 { up := { bad := [(16, 0)] } }).wf = false := by decide
theorem wf_walks : (Instr.snapshotWritten 0 [List.replicate 5 none]).wf = false ∧
    (Instr.pmcDumpWritten 0 [List.replicate 5 none]).wf = false ∧ (Instr.descNop 0 0 [List.replicate 5 none]).wf = false ∧
    (Instr.descFrame 0 0 [List.replicate 5 none]).wf = false ∧ (Instr.descTableRead 0 0 [] [List.replicate 5 none]).wf = false ∧
    (Instr.descTableWrite 0 0 [List.replicate 5 none]).wf = false ∧ (Instr.descCipher 0 0 [List.replicate 5 none]).wf = false ∧
    (Instr.cipherMessageDone 0 0 0 false [List.replicate 5 none]).wf = false ∧
    (Instr.puntDeliver 0 0 {} [List.replicate 5 none]).wf = false ∧
    (Instr.dmaReadReturn 0 (.pool 0) (List.replicate 5 none) []).wf = false := by decide
theorem wf_puntDeliver : (Instr.puntDeliver 0 0 { up := { bad := [(16, 0)] } } []).wf = false := by decide
theorem wf_epochEnd : (Instr.epochEnd ⟨⟨0, [1, 2], [1, 2, 3], [0, 0, 0, 0]⟩, ⟨0, [1, 2, 3], [1, 2, 3], [0, 0, 0, 0]⟩⟩).wf = false := by decide
theorem wf_configScrub : (Instr.configScrub 0 [⟨.reg 4 16 0x100, true⟩]).wf = false := by decide
theorem wf_decisionCacheScrub : (Instr.decisionCacheScrub 0 [cacheEntries]).wf = false := by decide
theorem wf_wearMeasure : (Instr.wearMeasure 0 [1, 2]).wf = false := by decide

/-! ### One command on a small state -/

set_option maxRecDepth 8000

/-- One ALU word on A and B: the value that it leaves in G3, and Z and N. -/
def alu (c : Instr) (op : Nat) (a b : DWord) (v : DWord) (z n : Bool) : Bool :=
  let s := coding (aluWord op + 3 * 2 ^ 209) { latch := some ⟨a, b, 0, false⟩ }
  ran c s (fun t => match t.ctx 0 0 with
    | some r => decide (r.reg 3 = v ∧ r.z = z ∧ r.n = n)
    | none => false)

-- 00, 02: access codes, locks and resets (R7-R10, R40, R51, R56-R58)
theorem test_registerWrite_unaligned : ran (.registerWrite .i3c 0xC4C0 0x106 4 5 false) up (fun t => t.regs = up.regs) = true := by decide
theorem test_registerWrite_readOnly : ran (.registerWrite .i3c 0x6000 0x0 4 0xFFFFFFFF false) up
    (fun t => t.reg (slicePg 0) 0 = up.reg (slicePg 0) 0) = true := by decide
theorem test_lockAcquire : ran (.lockAcquire .i3c 0x6000 7) up (fun t => t.lockOf (slicePg 0) = some ⟨.i3c, 7⟩) = true := by decide
theorem test_lockAcquire_lineage : ran (.lockAcquire .i3c 0x2000 7) (up.setLock (slicePg 0) (some ⟨.f0, 1⟩))
    (fun t => t.lockOf (portPg 0) = none) = true := by decide
theorem test_lockRelease_token : ran (.lockRelease .i3c 0x6000 8) (up.setLock (slicePg 0) (some ⟨.i3c, 7⟩))
    (fun t => t.lockOf (slicePg 0) = some ⟨.i3c, 7⟩) = true := by decide
theorem test_lockForce : ran (.lockForce .i3c 0xA000) (up.setLock (slicePg 0) (some ⟨.f0, 7⟩))
    (fun t => t.lockOf (slicePg 0) = none) = true := by decide
theorem test_unitReset_clears : ran (.unitReset .i3c 0xC200) (has up (bufPg 0) F.BUF_SHARED_LIMIT 5)
    (fun t => t.reg (bufPg 0) F.BUF_SHARED_LIMIT.off = State.reset.reg (bufPg 0) F.BUF_SHARED_LIMIT.off) = true := by decide
theorem test_unitReset_die_refused : ran (.unitReset .i3c 0x8000) (has up (slicePg 0) F.CS_CTRL_RUN 1)
    (fun t => t.flag (slicePg 0) F.CS_CTRL_RUN) = true := by decide

-- 02: the board bus (R72, R73)
theorem test_entdaa : ran (.entdaa 9) up (fun t => t.pins.i3cAddr = some 9) = true := by decide
theorem test_rstdaa : ran .rstdaa (up.setI3cAddr (some 9)) (fun t => t.pins.i3cAddr = none) = true := by decide
theorem test_setdasa_other : ran (.setdasa 8 9) up (fun t => t.pins.i3cAddr = none) = true := by decide

-- 03: lanes and ports (R92-R103)
theorem test_anBreakLink : ran (.anResolved 0 0 false) (port 0 1) (fun t => t.portState 0 ≠ 3) = true := by decide
theorem test_trainTimeout_counts : ran (.trainTimeout 0) (port 0 2) (fun t => t.portState 0 ≠ 2) = true := by decide
theorem test_upHoldoff : ran (.upHoldoffExpire 0) (port 0 4) (fun t => t.portUp 0) = true := by decide
theorem test_linkDown_waits : ran (.linkDownDetect 0 .cdr ⟨0, [], none⟩) (port 0 5) (fun t => t.portUp 0) = true := by decide
theorem test_downDebounce : ran (.downDebounceExpire 0) ((port 0 5).setCauses 0 [.cdr]) (fun t => !t.portUp 0) = true := by decide
theorem test_pfcRx_pauses : ran (.pfcRx 0 1 [9, 0, 0, 0, 0, 0, 0, 0]) (has (port 0 5) (portPg 0) F.BUF_PORT_CFG_PFC_RX_EN 1)
    (fun t => t.fget (portPg 0) F.BUF_PORT_PFC_STATUS_RX_PAUSED = 1) = true := by decide
theorem test_pfcPauseExpire : ran (.pfcPauseExpire 0 0) (has (port 0 5) (portPg 0) F.BUF_PORT_PFC_STATUS_RX_PAUSED 3)
    (fun t => t.fget (portPg 0) F.BUF_PORT_PFC_STATUS_RX_PAUSED = 2) = true := by decide

-- 06: the stroke engines (R191)
theorem test_aluAdd_wraps : alu (.aluAdd 0 0 .ok) 2 (BitVec.ofNat 64 (2 ^ 64 - 1)) 1 0 true false = true := by decide
theorem test_aluSub_negative : alu (.aluSub 0 0 .ok) 3 0 1 (BitVec.ofNat 64 (2 ^ 64 - 1)) false true = true := by decide
theorem test_aluMov : alu (.aluMov 0 0 .ok) 1 5 6 6 false false = true := by decide
theorem test_aluAnd : alu (.aluAnd 0 0 .ok) 4 12 10 8 false false = true := by decide
theorem test_aluOr : alu (.aluOr 0 0 .ok) 5 12 10 14 false false = true := by decide
theorem test_aluXor : alu (.aluXor 0 0 .ok) 6 12 10 6 false false = true := by decide
theorem test_aluShl_by65 : alu (.aluShl 0 0 .ok) 7 1 65 2 false false = true := by decide
theorem test_aluShr : alu (.aluShr 0 0 .ok) 8 (BitVec.ofNat 64 (2 ^ 63)) 63 1 false false = true := by decide
theorem test_aluSar_sign : alu (.aluSar 0 0 .ok) 9 (BitVec.ofNat 64 (2 ^ 63)) 63 (BitVec.ofNat 64 (2 ^ 64 - 1)) false true = true := by decide
theorem test_aluCmp_keeps : alu (.aluCmp 0 0 .ok) 10 5 5 0 true false = true := by decide
theorem test_aluMin_unsigned : alu (.aluMin 0 0 .ok) 11 (BitVec.ofNat 64 (2 ^ 63)) 1 1 false false = true := by decide
theorem test_aluMax_unsigned : alu (.aluMax 0 0 .ok) 12 (BitVec.ofNat 64 (2 ^ 63)) 1 (BitVec.ofNat 64 (2 ^ 63)) false true = true := by decide
theorem test_aluIns : alu (.aluIns 0 0 .ok) 14 0x10F 0x704 0xF0 false false = true := by decide
theorem test_aluMul_low : alu (.aluMul 0 0 .ok) 15 (BitVec.ofNat 64 (2 ^ 63 + 3)) 2 6 false false = true := by decide
theorem test_aluNop : alu (.aluNop 0 0 .ok) 0 5 6 0 false false = true := by decide
theorem test_memLock : ran (.memLock 0 0 .ok) (coding (memWord 12) {} (has up (csPg 0) F.CS_CTRL_WATCHDOG 0))
    (fun t => (t.ctx 0 0).any (fun r => r.lockWait.isSome)) = true := by decide
theorem test_csWordWrite_running : ran (.csWordWrite .i3c 0xC100 0) (has up (csPg 0) F.CS_CTRL_RUN 1)
    (fun t => t.flag (csPg 0) F.CS_ADDR_ERR) = true := by decide
theorem test_engineFault : ran (.engineFault 3 2) up (fun t => t.reg (enginePg 3) F.SE_FAULT.off = BitVec.ofNat 32 (2 ^ 31 + 3)) = true := by decide

-- 07, 08: buffer, scheduler, gates (R222, R224, R262, R265, R272)
theorem test_limit_overcommit : ran (.bufPoolLimitWrite .i3c 0xC200 .shared 0x1FFFFF) up
    (fun t => t.reg (bufPg 0) F.BUF_SHARED_LIMIT.off = up.reg (bufPg 0) F.BUF_SHARED_LIMIT.off) = true := by decide
theorem test_weight_zero_refused : ran (.schCfgWrite .i3c 0x2000 (.queue 3) 0) up
    (fun t => t.reg (portPg 0) (F.SCH_QUEUE_CFG.at 3) = up.reg (portPg 0) (F.SCH_QUEUE_CFG.at 3)) = true := by decide
theorem test_gateChange_pending_refused : ran (.gateChange .i3c 0x2000 (F.GATE_CTRL_EN.put 0 1)) (has gated (portPg 0) F.GATE_STATUS_PENDING 1)
    (fun t => (t.portOf 0).changeAt.isNone) = true := by decide
theorem test_mmCfg_fast_refused : ran (.mmCfgWrite .i3c 0x2000 (F.PORT_MM_CFG_EN.put 0 1)) (has (port 0 5) (portPg 0) F.PORT_STATUS_TECH 11)
    (fun t => !t.flag (portPg 0) F.PORT_MM_CFG_EN) = true := by decide
theorem test_frameAdmit_noRoute : ran (.frameAdmit 0 1) (admitting {}) (fun t => (t.admits.get [] 0).isEmpty) = true := by decide

-- 09, 10: keel and time (R289, R293, R311-R314)
theorem test_sublinkTrained : ran (.sublinkTrained 0 65) (has up (keelPg 0) F.KEEL_SUBLINK_TX_STATE slTrain 65)
    (fun t => t.subTx 0 65 = slActive) = true := by decide
theorem test_splitEnter : ran (.splitEnter 0) (has up (keelPg 1) F.KEEL_CTRL_FORCE_SPLIT 1) (fun t => t.split 0) = true := by decide
theorem test_timeStepApply : ran (.timeStepApply 0) (up.setTime 0 { waiting := some (.add 65536) }) (fun t => t.nowNs 0 = 1) = true := by decide
theorem test_timeStepSet_needs_lock : ran (.timeStepSet .i3c 0xC430 0) up (fun t => (t.timeOf 0).waiting.isNone) = true := by decide
theorem test_ppsOutRise : ran .ppsOutRise (has up (timePg 0) F.TIME_PPS_CFG_OUT_EN 1) (fun t => t.out.head? = some (.pin 2 true)) = true := by decide
theorem test_cmpFire_disarms : ran (.cmpFire 0 31) (has up (timePg 0) F.TIME_CMP_CFG_ARM 1 31)
    (fun t => t.flag (timePg 0) F.TIME_CMP_STATUS_FIRED 31 && !t.flag (timePg 0) F.TIME_CMP_CFG_ARM 31) = true := by decide

-- 11-14: accounts, keys, host, power (R344, R370, R403, R441)
theorem test_bankCut_waits : ran (.bankCut 0) ({ up with frames := [(1, some { holder := 1 })], accts := [(0, { settling := some {} }), (1, { settling := some {}, bank := { edge := 1 } })] } : State)
    (fun t => (t.acctOf 0).settling.isSome) = true := by decide
theorem test_keyErase : ran (.keyErase .i3c 0xC420 5) (up.setKeySlot 0 5 { key := 77, valid := true })
    (fun t => (t.keySlot 0 5).erasePending && !(t.keySlot 0 5).valid) = true := by decide
theorem test_keyZeroise : ran (.keyZeroise 0 5) (up.setKeySlot 0 5 { key := 77, erasePending := true })
    (fun t => (t.keySlot 0 5).key = 0 && (t.keySlot 0 5).eraseDone) = true := by decide
theorem test_doorbell_too_far : ran (.hqDoorbell .i3c 0xC400 0 70000) up (fun t => (t.ringAt 0 0).prod = 0 && (t.ringAt 0 0).dbErr) = true := by decide
theorem test_thermTrip : ran (.thermTrip 0 0x7FFF) up (fun t => t.pins.tripped) = true := by decide
theorem test_pwrBrake : ran .pwrBrakeFall up (fun t => t.flag (coxPg 0) F.COX_STATUS_BRAKE && t.flag (coxPg 1) F.COX_STATUS_BRAKE) = true := by decide
theorem test_sliceAsleep : ran (.sliceAsleep 15) (sleeping 1) (fun t => t.sliceState 15 = 2) = true := by decide

-- 15-17: integrity, OTP, images (R466, R468, R494-R499, R506)
theorem test_watchdogExpire : ran (.watchdogExpire 0) (has up (diePg 0) F.DIE_WATCHDOG_EN 1)
    (fun t => t.inPaddle 7 && t.flag (diePg 0) F.DIE_WATCHDOG_EXPIRED) = true := by decide
theorem test_otpCmdDone_burns : ran (.otpCmdDone 1) { up with otp := { busy := some (.program 100 3) } }
    (fun t => t.otpWord 100 = 1 && t.fget otpPg F.OTP_CMD_STATUS = 4) = true := by decide
theorem test_imageStart : ran (.imageStart .i3c 0x8000) up (fun t => t.imgBusy 0) = true := by decide
theorem test_wearHourTick : ran (.wearHourTick 0) up (fun t => t.fget (aonPg 0) F.AON_WEAR_HOURS (hourBin 0) = 1) = true := by decide

end Sys2Proof.Tests
end

section
/-!
PROOFS of the statements about accesses to pages (00_scope R7-R9; 02 R40, R41, R51): a command changes only its own parts, an
access that reaches no register is counted, dropped or carried to the other die, a plain write follows the access codes, and
a read of a counter's low word latches the high word.
-/
namespace Sys2Proof.Machine

variable {s : State} {src : Source} {idx : PageIdx} {p q : Page} {off size : Nat} {val : Word} {w : RegWord} {r : Reg}

/-! ### The commands that access a register -/

theorem exec_registerWrite (s : State) (src : Source) (idx : PageIdx) (off : BitVec 16) (size : Nat) (val : Word) (b : Bool) :
    exec (.registerWrite src idx off size val b) s =
      .next (s.regAccess src idx (off.toNat, some val) size b (fun p s => s.regWrite src p off.toNat val) id) := rfl

theorem exec_counterLowWordRead (s : State) (src : Source) (idx : PageIdx) (off : BitVec 16) (size : Nat) (b : Bool) :
    exec (.counterLowWordRead src idx ⟨off, size⟩ b) s = .next (s.readAccess src idx off.toNat size b) := rfl

theorem exec_lockAcquire (s : State) (src : Source) (idx : PageIdx) (token : BitVec 16) :
    exec (.lockAcquire src idx token) s =
      .next (s.access src idx (lockCmd 1 token) (fun p s => s.lockAcquire src p token)) := rfl

theorem exec_lockRelease (s : State) (src : Source) (idx : PageIdx) (token : BitVec 16) :
    exec (.lockRelease src idx token) s =
      .next (s.access src idx (lockCmd 2 token) (fun p s => s.lockRelease src p token)) := rfl

theorem exec_lockForce (s : State) (src : Source) (idx : PageIdx) :
    exec (.lockForce src idx) s = .next (s.access src idx (lockCmd 3 0) (fun p s => s.lockForce src p)) := rfl

theorem exec_unitReset (s : State) (src : Source) (idx : PageIdx) :
    exec (.unitReset src idx) s = .next (s.access src idx (0x14, some 4) (fun p s => s.unitReset p)) := rfl

/-! ### Where an access of a size and alignment goes (R7, R40, R41) -/

/-- The page that counts a source's accesses to nothing (R40). -/
theorem State.countUnmapped_eq (s : State) (src : Source) :
    s.countUnmapped src = s.errCount (if src = .i3c then ⟨.device, 0⟩ else hifPg src.die) := by
  cases src <;> rfl

theorem State.regAccess_at (f : Page → State → State) (g : State → State) (h : s.reaches src idx p)
    (hd : s.dieUp p.die = true) (ha : w.1 % 4 = 0) : s.regAccess src idx w 4 false f g = f p s := by
  obtain ⟨hup, hmap, hnear⟩ := h
  simp [State.regAccess, hup, hmap, hnear, hd, ha]

theorem State.regAccess_unmapped (f : Page → State → State) (g : State → State) (hup : s.sourceUp src = true)
    (hmap : s.mapped src idx = none) (ha : w.1 % 4 = 0) :
    s.regAccess src idx w 4 false f g = g (s.countUnmapped src) := by
  simp [State.regAccess, hup, hmap, ha]

theorem State.regAccess_misfit (f : Page → State → State) (g : State → State) (hup : s.sourceUp src = true)
    (hm : size ≠ 4 ∨ w.1 % 4 ≠ 0) : s.regAccess src idx w size false f g = g s := by
  simp only [State.regAccess, hup, Bool.not_true, Bool.false_eq_true, if_false, if_pos hm]

theorem State.regAccess_cross (f : Page → State → State) (g : State → State) (h : s.crosses src idx p)
    (ha : w.1 % 4 = 0) : s.regAccess src idx w 4 false f g = s.carry ⟨src, idx, w.1, w.2⟩ := by
  obtain ⟨hup, hmap, hfar⟩ := h
  simp [State.regAccess, hup, hmap, hfar, ha]

theorem State.carry_write (s : State) (src : Source) (idx : PageIdx) (off : Nat) (val : Word) :
    s.carry ⟨src, idx, off, some val⟩ = s.sendCtrl src.die (.access ⟨src, idx, off, some val⟩) := rfl

@[simp] theorem State.sendCtrl_out (s : State) (d : Nat) (m : Ctrl) : (s.sendCtrl d m).out = s.out := rfl

@[simp] theorem State.sendCtrl_asked (s : State) (d : Nat) (m : Ctrl) :
    ((s.sendCtrl d m).keelOf d).asked = (s.keelOf d).asked := by
  simp [State.sendCtrl]

/-- A read of a page of the other die waits for its answer. -/
theorem State.carry_read (s : State) (src : Source) (idx : PageIdx) (off : Nat) :
    (s.carry ⟨src, idx, off, none⟩).out = s.out ∧
      ((s.carry ⟨src, idx, off, none⟩).keelOf src.die).asked = (s.keelOf src.die).asked ++ [⟨src, idx, off, none⟩] := by
  simp [State.carry]

/-! ### A write of a register without an action of its own (R9) -/

theorem Kind.defines_of_reg? {k : Kind} (h : k.reg? off = some r) : k.defines off = true := by
  simp [Kind.defines, h]

theorem State.targets_self (s : State) (h : p.kind.defines off = true) : s.targets p off = [p] := by
  simp [State.targets, h]

/-- Whether an offset lies in a window of the host interface page does not depend on the value written. -/
theorem State.hifWindow_isNone (s : State) (d off : Nat) (v v' : Word) :
    (s.hifWindow d off v).isNone = (s.hifWindow d off v').isNone := by
  unfold State.hifWindow
  split_ifs <;> simp only [Option.isNone_some, Option.isNone_none]

/-- What `plainAt` says of each of the places where a write could act. -/
theorem State.plainAt_iff : s.plainAt src p off = true ↔
    ((p.writes src ++ p.pmcWrites).findSome? (fun w => (w.1.index w.2.1 off).map (fun i => w.2.2 i))).isNone = true ∧
    (p.kind = .hif → (s.hifWindow p.n off 0).isNone = true) ∧
    (s.targetsOf p .die = [] ∨ off ≠ F.DIE_IMG_CTRL.off ∧ (F.DIE_IMG_DATA.index 4096 off).isNone = true) ∧
    (p.kind = .port → (F.BUF_QUEUE_CFG.index 16 off).isNone = true) := by
  simp only [State.plainAt, Bool.and_eq_true, Bool.or_eq_true, bne_iff_ne, ne_eq, List.isEmpty_iff, imp_iff_not_or, and_assoc]

theorem State.writeUnit_plain
    (h : ((p.writes src ++ p.pmcWrites).findSome? (fun w => (w.1.index w.2.1 off).map (fun i => w.2.2 i))).isNone = true) :
    s.writeUnit src p off val = s.plainWrite p off val := by
  rw [State.writeUnit, Option.isNone_iff_eq_none.mp h]

/-- A write that no rule gives an action reaches the register itself, by its access codes. -/
theorem State.regWrite_plain (ho : 0x100 ≤ off) (hr : p.kind.reg? off = some r) (hp : s.plainAt src p off = true)
    (hl : r.rwl = 0 ∨ s.holdsLock src p = true) : s.regWrite src p off val = s.plainWrite p off val := by
  obtain ⟨hact, hhif, hdie, hport⟩ := State.plainAt_iff.mp hp
  have himg : ¬ (s.targetsOf p .die ≠ [] ∧ off = F.DIE_IMG_CTRL.off) :=
    fun ⟨hne, hoff⟩ => (hdie.resolve_left hne).1 hoff
  have hdata : ¬ (s.targetsOf p .die ≠ [] ∧ (F.DIE_IMG_DATA.index 4096 off).isSome = true) := by
    rintro ⟨hne, hsome⟩
    rw [Option.isNone_iff_eq_none.mp (hdie.resolve_left hne).2] at hsome
    cases hsome
  have hwin : (if p.kind = .hif then s.hifWindow p.n off val else none) = none := by
    split_ifs with hk
    · rw [← Option.isNone_iff_eq_none, State.hifWindow_isNone s p.n off val 0]; exact hhif hk
    · rfl
  have hq : (if p.kind = .port then F.BUF_QUEUE_CFG.index 16 off else none) = none := by
    split_ifs with hk
    · exact Option.isNone_iff_eq_none.mp (hport hk)
    · rfl
  rw [State.regWrite, if_neg (Nat.not_lt.mpr ho)]
  dsimp only
  rw [if_neg himg, if_neg hdata]
  simp only [State.pageWrite, hwin, State.targets_self s (Kind.defines_of_reg? hr), hq, State.writeUnits, hr, if_pos hl,
    List.foldl_cons, List.foldl_nil, State.writeUnit_plain hact]

theorem State.reg_plainWrite_ne (s : State) (val : Word) {o : Nat} (h : q.key o ≠ p.key off) :
    (s.plainWrite p off val).reg q o = s.reg q o := by
  unfold State.plainWrite
  split
  · rfl
  · exact State.reg_setReg_ne s _ h

/-- Each bit of a register after a plain write, by its access code. -/
theorem State.getLsbD_reg_plainWrite (s : State) (val : Word) (hr : p.kind.reg? off = some r) {i : Nat} (hi : i < 32) :
    ((s.plainWrite p off val).reg p off).getLsbD i =
      if r.w1s.testBit i && val.getLsbD i then true
      else if r.w1c.testBit i && val.getLsbD i then false
      else if (r.rw ||| r.rwl).testBit i then val.getLsbD i
      else (s.reg p off).getLsbD i := by
  simp only [State.plainWrite, hr, State.reg_setReg_same, BitVec.getLsbD_or, BitVec.getLsbD_and, BitVec.getLsbD_not,
    BitVec.getLsbD_ofNat, hi, decide_true, Bool.true_and, Bool.and_comm (val.getLsbD i)]
  split_ifs with hset hclear htake
  · rw [hset, Bool.or_true]
  · rw [Bool.eq_false_of_not_eq_true hset, hclear]; simp
  · rw [Bool.eq_false_of_not_eq_true hset, Bool.eq_false_of_not_eq_true hclear, htake]; simp
  · rw [Bool.eq_false_of_not_eq_true hset, Bool.eq_false_of_not_eq_true hclear, Bool.eq_false_of_not_eq_true htake]; simp

/-! ### A read of the low word of a pair (R8) -/

/-- A pair at an offset above the header belongs to a register that its kind defines. -/
theorem Kind.reg?_isSome_of_pairLow {k : Kind} {lo : Nat} (ho : 0x100 ≤ off) (h : k.pairLow off = some lo) :
    (k.reg? off).isSome = true := by
  unfold Kind.pairLow at h
  rw [if_neg (by omega)] at h
  split at h
  · cases h
  · next hr => rw [hr]; rfl

/-- The register that takes the head entry of the stamp FIFO is no low word of a pair. -/
theorem Kind.not_stampMeta_of_pairLow {k : Kind} (h : k.pairLow off = some off) :
    ¬ (k = .timeU ∧ off = F.TIME_TXSTAMP_META.off) := by
  rintro ⟨rfl, rfl⟩
  revert h
  decide

/-- Clearing on a read changes registers alone. -/
theorem State.clearRead_eq (s : State) (p : Page) (off : Nat) : ∃ v, s.clearRead p off = { s with regs := v } := by
  unfold State.clearRead
  split
  · split_ifs
    · exact ⟨s.regs, rfl⟩
    · exact ⟨_, rfl⟩
  · exact ⟨s.regs, rfl⟩

/-- The state with the high word of `v` latched under number `k` (R8). -/
def State.latchHigh (s : State) (k : Nat) (v : DWord) : State :=
  { s with latch := s.latch.set none k (some (BitVec.ofNat 32 (v.toNat / 2 ^ 32))) }

theorem State.latchHigh_same (s : State) (k : Nat) (v : DWord) :
    (s.latchHigh k v).latch.get none k = some (BitVec.ofNat 32 (v.toNat / 2 ^ 32)) := by
  rw [State.latchHigh, Sparse.get_set_same]

theorem State.latchHigh_other (s : State) (v : DWord) {k j : Nat} (h : j ≠ k) :
    (s.latchHigh k v).latch.get none j = s.latch.get none j := by
  rw [State.latchHigh, Sparse.get_set_other _ _ _ h]

theorem State.readPair_low (s : State) (src : Source) (p : Page) (ts : List Page) (lo : Nat) :
    s.readPair src p ts lo lo =
      ((s.pairValue ts lo).setWidth 32, s.latchHigh (4 * p.key lo + src.num) (s.pairValue ts lo)) := by
  rw [State.readPair, if_pos rfl, State.latchHigh]

/-- A read of the low word of a pair on a unit's own page is the pair's read and the clearing of the register. -/
theorem State.pageRead_pairLow (ho : 0x100 ≤ off) (hlev : p.kind.level = none) (hhif : p.kind ≠ .hif)
    (hlow : p.kind.pairLow off = some off) :
    s.pageRead src p off = ((s.readPair src p [p] off off).1, (s.readPair src p [p] off off).2.clearRead p off) := by
  obtain ⟨r, hr⟩ := Option.isSome_iff_exists.mp (Kind.reg?_isSome_of_pairLow ho hlow)
  have hslice : ¬ (p.kind = .slice ∧ s.sliceState p.n ≥ 2) := fun h => by rw [h.1] at hlev; cases hlev
  rw [State.pageRead, if_neg hslice, if_pos ho]
  simp only [State.blockRead, if_neg hhif, State.targets_self s (Kind.defines_of_reg? hr),
    if_neg (Kind.not_stampMeta_of_pairLow hlow), hlow]

/-! ### The statements -/

/-- Settles O5, by the law of every command: a part outside its table has no bit in its set. -/
theorem commandTouchesOnlyItsParts : Obligations.CommandTouchesOnlyItsParts :=
  fun c s t h p hp => (exec_does c s t h).keep p ((touches c).mask_part hp)

/-- Settles O10: such a write reaches `plainWrite`, which gives each bit by its code. -/
theorem registerWriteFollowsItsCodes : Obligations.RegisterWriteFollowsItsCodes := by
  intro s src page p off r val hreach hd ho ha hr hp hl
  refine ⟨s.plainWrite p off.toNat val, ?_, fun q o h => State.reg_plainWrite_ne s val h,
    fun i hi => State.getLsbD_reg_plainWrite s val hr hi⟩
  rw [exec_registerWrite, State.regAccess_at _ _ hreach hd ha, State.regWrite_plain ho hr hp hl]

/-- Settles O11, by where an access goes: unmapped, of another size or alignment, or to the other die. -/
theorem unmappedAccessesAreCounted : Obligations.UnmappedAccessesAreCounted := by
  refine ⟨?unmapped, ?misfit, ?cross⟩
  case unmapped =>
    intro s src page off val token hup hmap ha
    dsimp only
    rw [← State.countUnmapped_eq, exec_registerWrite, exec_lockAcquire, exec_lockRelease, exec_lockForce, exec_unitReset,
      exec_counterLowWordRead, State.readAccess, State.regAccess_unmapped _ _ hup hmap ha,
      State.regAccess_unmapped _ _ hup hmap ha]
    simp only [State.access_unmapped _ hup hmap, id, and_self]
  case misfit =>
    intro s src page off val size hup hm
    rw [exec_registerWrite, exec_counterLowWordRead, State.readAccess, State.regAccess_misfit _ _ hup hm,
      State.regAccess_misfit _ _ hup hm]
    exact ⟨rfl, rfl⟩
  case cross =>
    intro s src page p off val hcross ha
    rw [exec_registerWrite, exec_counterLowWordRead, State.readAccess, State.regAccess_cross _ _ hcross ha,
      State.regAccess_cross _ _ hcross ha]
    exact ⟨congrArg _ (State.carry_write ..), _, rfl, State.carry_read ..⟩

/-- Settles O12: the read is the pair's read, whose latch the clearing of the register leaves. -/
theorem counterReadLatchesItsHighWord : Obligations.CounterReadLatchesItsHighWord := by
  intro s src page p off hreach hd ho ha hlev hhif hlow
  rw [exec_counterLowWordRead, State.readAccess, State.regAccess_at _ _ hreach hd ha]
  dsimp only
  rw [State.pageRead_pairLow ho hlev hhif hlow, State.readPair_low]
  obtain ⟨v, hv⟩ := State.clearRead_eq (s.latchHigh (4 * p.key off.toNat + src.num) (s.pairValue [p] off.toNat)) p off.toNat
  rw [hv]
  exact ⟨_, rfl, rfl, State.latchHigh_same .., fun j hj => State.latchHigh_other _ _ hj, rfl⟩

end Sys2Proof.Machine
end

section
/-!
PROOFS of the statements about pipelines and the classifier (01_architecture R30; 04_parser_classifier R122, R123, R125, R128):
who takes a frame, which stalls end, what a walk decides and what the end of a swap leaves.
-/
namespace Sys2Proof.Machine

variable {s : State}

/-! ### The commands of a pipeline and of the classifier -/

theorem exec_pipelineEntry (s : State) (pl : Pipe) (u : Upsets) : exec (.pipelineEntry pl u) s = execPipelineEntry pl u s := rfl

theorem exec_clsFifoResume (s : State) (d : Die) : exec (.clsFifoResume d) s = execClsFifoResume d s := rfl

theorem exec_pipelineStallRelease (s : State) (pl : Pipe) :
    exec (.pipelineStallRelease pl) s = execPipelineStallRelease pl s := rfl

theorem exec_clsWalkDone (s : State) (d : Die) (uid : Nat) (errs : List QdrErr) (hold : List EccErr) :
    exec (.clsWalkDone d uid errs hold) s = execClsWalkDone d uid errs hold s := rfl

theorem exec_clsSwapDone (s : State) (d : Die) (t : Fin 256) (u : TcamUpset) :
    exec (.clsSwapDone d t u) s = execClsSwapDone d t u s := rfl

theorem State.ifOperates_on {p : Page} (t : State) (h : s.operates p = true) : s.ifOperates p t = .next t := by
  rw [State.ifOperates, if_pos h]

theorem State.ifOperates_off {p : Page} (t : State) (h : s.operates p = false) : s.ifOperates p t = .next s := by
  rw [State.ifOperates, h, if_neg Bool.false_ne_true]

/-! ### Entry (R30) -/

/-- What keeps a pipeline that operates from taking a frame: its slice does not run, or a frame is stalled in it. -/
theorem State.entryBlocked_iff {sl pl : Nat} : (!s.sliceRuns sl || !(s.stalls.get [] pl).isEmpty) = true ↔
    s.sliceRuns sl = false ∨ s.stalls.get [] pl ≠ [] := by
  simp only [Bool.or_eq_true, Bool.not_eq_true', List.isEmpty_eq_false_iff]

theorem exec_pipelineEntry_idle (pl : Pipe) (u : Upsets)
    (h : s.operates (slicePg (pl.val / 4)) = false ∨ s.sliceRuns (pl.val / 4) = false ∨ s.stalls.get [] pl.val ≠ [] ∨
      s.nextPort pl.val = none) : exec (.pipelineEntry pl u) s = .next s := by
  rw [exec_pipelineEntry, execPipelineEntry]
  cases hop : s.operates (slicePg (pl.val / 4)) with
  | false => exact State.ifOperates_off _ hop
  | true =>
    have hidle := h.resolve_left (by simp [hop])
    rw [State.ifOperates_on _ hop]
    by_cases hblock : s.sliceRuns (pl.val / 4) = false ∨ s.stalls.get [] pl.val ≠ []
    · rw [if_pos (State.entryBlocked_iff.mpr hblock)]
    · have hport : s.nextPort pl.val = none := (or_assoc.mpr hidle).resolve_left hblock
      rw [if_neg (mt State.entryBlocked_iff.mp hblock), hport]

theorem exec_pipelineEntry_takes (pl : Pipe) (u : Upsets) {p uid : Nat} {l : List Nat} {f : Frm}
    (hop : s.operates (slicePg (pl.val / 4)) = true) (hrun : s.sliceRuns (pl.val / 4) = true)
    (hfree : s.stalls.get [] pl.val = []) (hport : s.nextPort pl.val = some p) (hhead : (s.portOf p).entry = uid :: l)
    (hfrm : s.frm uid = some f) :
    let r := (s.takeEntry p uid).parseFrm (pl.val / 4) f u
    exec (.pipelineEntry pl u) s = .next (r.2.2.ingressPass (pl.val / 4) uid r.1 r.2.1 u) := by
  have hblock : ¬ (s.sliceRuns (pl.val / 4) = false ∨ s.stalls.get [] pl.val ≠ []) := by simp [hrun, hfree]
  rw [exec_pipelineEntry, execPipelineEntry, State.ifOperates_on _ hop, if_neg (mt State.entryBlocked_iff.mp hblock)]
  simp only [hport, hhead, hfrm]

/-! ### Stalls (R123, R222) -/

/-- Nothing moves on a pipeline that holds no stalled frame, however long it is tried. -/
theorem State.unstall_empty {c : Nat} (h : s.stalls.get [] c = []) (want : StallOn → Bool) (fuel : Nat) :
    s.unstall c want fuel = s := by
  cases fuel with
  | zero => rfl
  | succ n => rw [State.unstall, State.stallStep, h]

/-! ### Walks and swaps (R122, R125, R128) -/

@[simp] theorem State.fifo_cacheInsert (s : State) (d t key : Nat) (x : Dec) :
    ((s.cacheInsert d t key x).clsOf d).fifo = (s.clsOf d).fifo := by
  rw [State.cacheInsert, State.setCls_clsOf]

/-- A walk reads memory and counts; it changes nothing of a classifier. -/
theorem State.walk_clss {d key fuel ptr : Nat} {errs : List QdrErr} {e : WalkEnd} {v : State}
    (h : s.walk d key fuel ptr errs = (e, v)) : v.clss = s.clss :=
  (State.walk_does h (Nat.or_self _) (Does.refl s)).keep .clss (by decide)

/-- Deciding a walk may cache its leaf; no frame enters or leaves the FIFO by it. -/
theorem State.fifo_walkDecide (s : State) (d t bank key : Nat) (errs : List QdrErr) :
    (((s.walkDecide d t bank key errs).2).clsOf d).fifo = (s.clsOf d).fifo := by
  have hread : ∀ {v w : State}, v.clss = w.clss → (v.clsOf d).fifo = (w.clsOf d).fifo := fun h => by
    rw [State.clsOf, h, State.clsOf]
  unfold State.walkDecide
  dsimp only
  split
  case h_1 x cache v hwalk =>
    dsimp only
    split_ifs
    · rw [State.fifo_cacheInsert, hread (State.walk_clss hwalk)]
    · exact hread (State.walk_clss hwalk)
  case h_2 v hwalk => exact hread (by simp only [State.cadd_clss, State.raise_clss, State.walk_clss hwalk])
  case h_3 ch v hwalk =>
    exact hread (by simp only [State.cadd_clss, State.raise_clss, State.fset_clss, State.walk_clss hwalk])

@[simp] theorem State.treeActive_setCls (s : State) (d t k : Nat) (c : ClsSt) :
    (s.setCls k c).treeActive d t = s.treeActive d t := State.setCls_fget ..

/-- Writing the other bank of a tree into ACTIVE, and BUSY beside it, makes that bank the active one. -/
theorem State.treeActive_swapped (s : State) (d t : Nat) :
    ((s.fset (clsPg d) F.CLS_TREE_CTRL_ACTIVE (1 - s.treeActive d t) t).bset (clsPg d) F.CLS_TREE_CTRL_BUSY false t).treeActive
      d t = 1 - s.treeActive d t := by
  rw [State.treeActive, State.bset, State.fget_fset_beside _ _ F.CLS_TREE_CTRL_BUSY F.CLS_TREE_CTRL_ACTIVE _ _ _ (by decide) rfl (by decide),
    State.fget_fset_same _ _ _ _ _ (by decide)]
  exact Nat.mod_eq_of_lt (by change _ < 2; omega)

/-- The check of R125 that no frame of the tree waits on a walk. -/
theorem all_noWalk_iff {ws : List Waiter} {t : Nat} : ws.all (fun w => w.tree ≠ t || w.bank.isNone) = true ↔
    ∀ w ∈ ws, w.tree = t → w.bank = none := by
  simp [List.all_eq_true, imp_iff_not_or]

/-- Settles O28, command by command; a walk's group is read after the walk, which leaves the FIFO as it was. -/
theorem framesPassThePipelineAndTheClassifier : Obligations.FramesPassThePipelineAndTheClassifier := by
  refine ⟨fun s pl u d => ⟨exec_pipelineEntry_idle pl u, ?takes, ?resume, ?release, ?empty⟩, ?walk, ?swap⟩
  case takes =>
    intro hop hrun hfree p uid l f hport hhead hfrm
    exact exec_pipelineEntry_takes pl u hop hrun hfree hport hhead hfrm
  case resume =>
    intro hop
    rw [exec_clsFifoResume, execClsFifoResume, State.ifOperates_on _ hop]
  case release =>
    intro hop
    rw [exec_pipelineStallRelease, execPipelineStallRelease, State.ifOperates_on _ hop]
  case empty => exact fun c h w => State.unstall_empty h w _
  case walk =>
    intro s d uid errs hold w b hop hw hb hl
    dsimp only
    rw [exec_clsWalkDone, execClsWalkDone, State.ifOperates_on _ hop]
    simp only [hw, hb, hl, State.fifo_walkDecide]
  case swap =>
    intro s d t u hop hbusy hwalks hwrites
    dsimp only
    refine ⟨(State.treeActive_swapped ..).trans (by rw [State.treeActive_setCls]), ?_⟩
    rw [exec_clsSwapDone, execClsSwapDone, State.ifOperates_on _ hop, if_pos ⟨hbusy, all_noWalk_iff.mpr hwalks, hwrites⟩]

end Sys2Proof.Machine
end

section
/-!
PROOFS of the statements about pages, seats and the board bus (02_pages_seats_roll_call R47, R51, R53, R55-R59, R61, R70-R73):
which registers a command can reach, how page locks are taken, given up and asked for, what a unit reset releases, the
addresses and answers of the I3C target, and the pages of groups.
-/
namespace Sys2Proof.Machine

variable {s t : State} {src : Source} {idx : PageIdx} {p q : Page} {k : Kind}

/-- Settles O6, by the law of every command: a register space outside its table has no bit in its set. -/
theorem commandTouchesOnlyItsRegisters : Obligations.CommandTouchesOnlyItsRegisters :=
  fun c s t h p o hp => (exec_does c s t h).regs p o ((touches c).mask_reg hp)

/-! ### Locks: taken, released, forced (R56-R58) -/

theorem State.lockOf_setLock (s : State) (p q : Page) (l : Option Lock) :
    (s.setLock p l).lockOf q = if q.lockKey = p.lockKey then l else s.lockOf q := Sparse.get_set ..

theorem exec_lockAcquire_at (token : BitVec 16) (h : s.reaches src idx p) :
    exec (.lockAcquire src idx token) s = .next (s.lockAcquire src p token) := by
  rw [exec_lockAcquire, State.access_at _ h]

theorem exec_lockRelease_at (token : BitVec 16) (h : s.reaches src idx p) :
    exec (.lockRelease src idx token) s = .next (s.lockRelease src p token) := by
  rw [exec_lockRelease, State.access_at _ h]

theorem exec_lockForce_at (h : s.reaches src idx p) : exec (.lockForce src idx) s = .next (s.lockForce src p) := by
  rw [exec_lockForce, State.access_at _ h]

/-- The check of R56: another source holds a lock in the page's lineage. -/
theorem State.lockHeldAgainst_iff :
    s.heldLocks.any (fun x => x.2.src ≠ src && (s.inLineage x.1 p || s.inLineage p x.1)) = true ↔
      ∃ x ∈ s.heldLocks, x.2.src ≠ src ∧ (s.inLineage x.1 p = true ∨ s.inLineage p x.1 = true) := by
  simp only [List.any_eq_true, Bool.and_eq_true, Bool.or_eq_true, decide_eq_true_eq]

/-- A loop that gives up the locks of some pages leaves every other lock as it was. -/
theorem State.lockOf_foldl_release {β : Type} {f : State → β → State} (pg : β → Page)
    (hf : ∀ s x q, (f s x).lockOf q = if q.lockKey = (pg x).lockKey then none else s.lockOf q)
    (l : List β) (s : State) (q : Page) :
    (l.foldl f s).lockOf q = if ∃ x ∈ l, (pg x).lockKey = q.lockKey then none else s.lockOf q := by
  induction l generalizing s with
  | nil => simp
  | cons x r ih =>
    rw [List.foldl_cons, ih, hf]
    by_cases hx : (pg x).lockKey = q.lockKey
    · simp [hx]
    · simp [hx, Ne.symm hx]

/-- FORCE on the device page (R58): a lock is gone where it was held on a page mapped for the source, and as it was elsewhere. -/
theorem State.lockOf_lockForce (s : State) (src : Source) (q : Page) (hk : p.kind = .device) :
    (s.lockForce src p).lockOf q =
      if ∃ x ∈ s.heldLocks.filter (fun x : Page × Lock => s.mapsPage src x.1), x.1.lockKey = q.lockKey then none
      else s.lockOf q := by
  rw [State.lockForce, if_neg (not_not.mpr hk)]
  exact State.lockOf_foldl_release Prod.fst (fun s x q => State.lockOf_setLock ..) _ _ _

/-! ### Locks: the writes that need them (R59) -/

/-- A register of which a write reaches no bit without the lock. -/
def Kind.allLocked (k : Kind) (off : Nat) : Bool := (k.reg? off).any (fun r => decide (r.rwl ≠ 0) && !r.open?)

theorem State.accessLocked_allLocked {off : Nat} (val : Word) (f : Page → Word → State → State) (h : s.reaches src idx p)
    (hk : p.kind = k) (hr : k.allLocked off = true) :
    s.accessLocked src idx k off val f = if s.holdsLock src p then f p val s else s.errCount p := by
  obtain ⟨r, hreg, hlock⟩ := (Option.any_eq_true _ _).mp hr
  rw [Bool.and_eq_true, decide_eq_true_eq, Bool.not_eq_true'] at hlock
  obtain ⟨hrwl, hopen⟩ := hlock
  cases hl : s.holdsLock src p with
  | true => exact State.accessLocked_at f h hk (by rw [hreg]; rfl) hl
  | false =>
    rw [State.accessLocked_refused f h hk hreg hrwl hl, hopen]
    rfl

theorem Kind.allLocked_rxLimit : Kind.lane.allLocked F.LANE_RX_LIMIT.off = true := by decide

theorem Kind.allLocked_subLink (i : SubLink) : Kind.keel.allLocked (F.KEEL_SUBLINK.at i.val) = true := by
  revert i; decide

theorem Kind.allLocked_coxCap : Kind.cox.allLocked F.COX_CAP.off = true := by decide

theorem exec_laneRxLimitWrite (s : State) (src : Source) (idx : PageIdx) (val : Word) :
    exec (.laneRxLimitWrite src idx val) s =
      .next (s.accessLocked src idx .lane F.LANE_RX_LIMIT.off val (fun p v s => s.rxLimit p v)) := rfl

theorem exec_sublinkDisable (s : State) (src : Source) (idx : PageIdx) (i : SubLink) (val : Word) :
    exec (.sublinkDisable src idx i val) s = .next (s.accessLocked src idx .keel (F.KEEL_SUBLINK.at i.val)
      (F.KEEL_SUBLINK_DISABLE.put val 1) (fun p v s => s.subDisable p i.val v)) := rfl

theorem exec_sublinkEnable (s : State) (src : Source) (idx : PageIdx) (i : SubLink) (val : Word) :
    exec (.sublinkEnable src idx i val) s = .next (s.accessLocked src idx .keel (F.KEEL_SUBLINK.at i.val)
      (F.KEEL_SUBLINK_DISABLE.put val 0) (fun p v s => s.subDisable p i.val v)) := rfl

theorem exec_coxCapWrite (s : State) (src : Source) (idx : PageIdx) (val : Word) :
    exec (.coxCfgWrite src idx .cap val) s =
      .next (s.accessLocked src idx .cox F.COX_CAP.off val (fun p v s => s.coxCap p v)) := rfl

/-- Settles O13: what each lock command does to the page it reaches, and that the registers written are locked in every bit. -/
theorem pageLocksGuardWhatTheyLock : Obligations.PageLocksGuardWhatTheyLock := by
  refine ⟨fun s src page p token h => ⟨?acquire, ?release, ?refused, ?force⟩, ?lane, ?keel, ?cox⟩
  case acquire =>
    rw [exec_lockAcquire_at token h, State.lockAcquire]
    simp only [State.lockHeldAgainst_iff]
  case release => rw [exec_lockRelease_at token h, State.lockRelease]
  case refused =>
    intro hk
    rw [exec_lockForce_at h, State.lockForce, if_pos hk]
  case force =>
    intro hk
    refine ⟨_, exec_lockForce_at h, fun q hq => ?_⟩
    have hlock := State.lockOf_lockForce s src q hk
    by_cases hx : ∃ x ∈ s.heldLocks.filter (fun x => s.mapsPage src x.1), x.1.lockKey = q.lockKey
    · rw [hlock, if_pos hx] at hq
      cases hq
    · exact ⟨hlock.trans (if_neg hx), fun x hmem hmap hkey => hx ⟨x, List.mem_filter.mpr ⟨hmem, hmap⟩, hkey⟩⟩
  case lane =>
    intro s src page n val h
    rw [exec_laneRxLimitWrite, State.accessLocked_allLocked _ _ h rfl Kind.allLocked_rxLimit]
  case keel =>
    intro s src page n i val h
    rw [exec_sublinkDisable, exec_sublinkEnable, State.accessLocked_allLocked _ _ h rfl (Kind.allLocked_subLink i),
      State.accessLocked_allLocked _ _ h rfl (Kind.allLocked_subLink i)]
    exact ⟨rfl, rfl⟩
  case cox =>
    intro s src page n val h
    rw [exec_coxCapWrite, State.accessLocked_allLocked _ _ h rfl Kind.allLocked_coxCap]

/-- Settles O14, by the two branches of RELEASE and the first one of ACQUIRE. -/
theorem releaseNeedsHolderAndToken : Obligations.ReleaseNeedsHolderAndToken := by
  intro s src page p token h
  rw [exec_lockRelease_at token h, exec_lockAcquire_at 0 h, State.lockAcquire, if_pos rfl]
  refine ⟨fun hheld => ⟨s.setLock p none, ?_, ?_, fun q hq => ?_⟩, fun hheld => ?_, rfl⟩
  · rw [State.lockRelease, if_pos hheld]
  · rw [State.lockOf_setLock, if_pos rfl]
  · rw [State.lockOf_setLock, if_neg hq]
  · rw [State.lockRelease, if_neg hheld]

/-! ### Unit reset (R51) -/

/-- Settling a unit whose page was cleared may reach every register space; locks (part 8) and marks of resets (part 11) are
not in its set. -/
theorem State.settle_all (old s : State) (p : Page) :
    Does 0x7ffff007e00000007ffff007e00000076f37ce066 s (State.settle old s p) :=
  State.settle_does (by decide) (Sub.allBlk p (by decide) (Nat.or_self _)) (Sub.allHdr p (by decide) (Nat.or_self _))
    (Does.refl s)

theorem State.foldl_settle_keeps (old s : State) (l : List Page) :
    (l.foldl (fun t q => State.settle old t q) s).locks = s.locks ∧
      (l.foldl (fun t q => State.settle old t q) s).resetting = s.resetting := by
  have h := Does.fold (l := l) (Does.refl s) (fun t q h => h.trans (State.settle_all old t q))
  exact ⟨h.keep .locks (by decide), h.keep .resetting (by decide)⟩

theorem State.locks_enterPaddle (s : State) (sl c : Nat) : (s.enterPaddle sl c).locks = s.locks :=
  (State.enterPaddle_does (x1 := sl) (x2 := c) (Nat.or_self _) (Does.refl s)).keep .locks (by decide)

/-- Clearing a page gives up its lock and leaves the marks of resets alone. -/
theorem State.clearPage_locks (s : State) (p : Page) :
    (s.clearPage p).locks = s.locks.set none p.lockKey none ∧ (s.clearPage p).resetting = s.resetting := by
  unfold State.clearPage
  dsimp only
  generalize hv : (State.setLock _ p none) = v
  have h : Does (irqMask p) v (v.irqUpd p (fun s => (s.setReg p 0x18 (s.reg p 0x18 &&& 1)).setReg p 0x1C 0)) :=
    State.irqUpd_does (sub_irqMask p) (Does.refl v) (fun _ h =>
      State.setReg_does (Sub.trans (by decide) (sub_irqMask p)) (Sub.offH (by decide) (sub_hdr_irqMask p))
        (State.setReg_does (Sub.trans (by decide) (sub_irqMask p)) (Sub.offH (by decide) (sub_hdr_irqMask p)) h))
  have hl : v.locks = s.locks.set none p.lockKey none := by rw [← hv]; rfl
  have hr : v.resetting = s.resetting := by rw [← hv]; rfl
  exact ⟨(h.keep .locks (irqMask_part (by decide) (by decide))).trans hl,
    (h.keep .resetting (irqMask_part (by decide) (by decide))).trans hr⟩

theorem State.lockOf_clearPage (s : State) (p q : Page) :
    (s.clearPage p).lockOf q = if q.lockKey = p.lockKey then none else s.lockOf q := by
  rw [State.lockOf, (s.clearPage_locks p).1]
  exact Sparse.get_set ..

theorem State.resetting_foldl_clearPage (s : State) (l : List Page) :
    (l.foldl (fun t q => t.clearPage q) s).resetting = s.resetting := by
  induction l generalizing s with
  | nil => rfl
  | cons x r ih => rw [List.foldl_cons, ih, (s.clearPage_locks x).2]

/-- The marks that a reset sets on its pages. -/
theorem Sparse.get_foldl_mark (l : List Page) (m : Sparse Bool) (j : Nat) :
    Sparse.get (l.foldl (fun m q => Sparse.set m false (q.key 0) true) m) false j =
      (decide (∃ q ∈ l, q.key 0 = j) || m.get false j) := by
  induction l generalizing m with
  | nil => simp
  | cons x r ih =>
    rw [List.foldl_cons, ih, Sparse.get_set]
    by_cases hx : x.key 0 = j
    · simp [hx]
    · simp [hx, Ne.symm hx]

theorem State.unitReset_refused (hk : p.kind = .die ∨ p.kind = .device) : s.unitReset p = s.errCount p := by
  rw [State.unitReset, if_pos hk]

/-- UNIT_RESET of any other page: the locks of its subtree are given up, and its pages are marked as in reset. -/
theorem State.unitReset_tree (s : State) (hk : ¬ (p.kind = .die ∨ p.kind = .device)) :
    (∀ q, (s.unitReset p).lockOf q = if ∃ x ∈ s.subtree p, x.lockKey = q.lockKey then none else s.lockOf q) ∧
    ∀ q ∈ s.subtree p, (s.unitReset p).resetting.get false (q.key 0) = true := by
  rw [State.unitReset, if_neg hk]
  dsimp only
  generalize hv : (if p.kind = .slice ∧ (!s.inPaddle p.n) = true then s.enterPaddle p.n cBringup else s) = v
  have hlocks : v.locks = s.locks := by
    rw [← hv]
    split
    · exact s.locks_enterPaddle ..
    · rfl
  constructor
  · intro q
    rw [State.lockOf, (State.foldl_settle_keeps ..).1]
    refine (State.lockOf_foldl_release id (fun s x q => State.lockOf_clearPage s x q) (s.subtree p) _ q).trans ?_
    rw [State.lockOf, hlocks]
    rfl
  · intro q hq
    rw [(State.foldl_settle_keeps ..).2, State.resetting_foldl_clearPage, Sparse.get_foldl_mark]
    simp only [Bool.or_eq_true, decide_eq_true_eq]
    exact Or.inl ⟨q, hq, rfl⟩

/-! ### The end of a unit reset (R51) -/

/-- The reset of one page ends where nothing holds it back. -/
def State.endReset (s : State) (p : Page) : State :=
  if s.resetting.get false (p.key 0) && s.resetEnds p then { s with resetting := s.resetting.set false (p.key 0) false } else s

/-- The resets of a page's subtree end, as the page's index names it on die `d`. -/
def State.endTree (s : State) (idx : PageIdx) (d : Nat) : State :=
  match Page.ofIndex d (s.devInst d) idx.toNat with
  | some p => (s.subtree p).foldl State.endReset s
  | none => s

theorem exec_unitResetDone (s : State) (idx : PageIdx) :
    exec (.unitResetDone idx) s = .next ((s.endTree idx 0).endTree idx 1) := rfl

/-- `t` comes from `s` by ending resets alone. -/
structure State.EndsResets (s t : State) : Prop where
  rest : t = { s with resetting := t.resetting }
  marks : ∀ j, s.resetting.get false j = false → t.resetting.get false j = false

theorem State.EndsResets.refl (s : State) : s.EndsResets s := ⟨rfl, fun _ h => h⟩

theorem State.EndsResets.trans {u : State} (h : s.EndsResets t) (h' : t.EndsResets u) : s.EndsResets u :=
  ⟨by rw [h'.rest, h.rest], fun j hj => h'.marks j (h.marks j hj)⟩

theorem State.endReset_ends (s : State) (p : Page) : s.EndsResets (s.endReset p) := by
  unfold State.endReset
  split
  · refine ⟨rfl, fun j hj => ?_⟩
    rw [Sparse.get_set, hj, ite_self]
  · exact State.EndsResets.refl s

theorem State.foldl_endReset_ends (s : State) (l : List Page) : s.EndsResets (l.foldl State.endReset s) := by
  induction l generalizing s with
  | nil => exact State.EndsResets.refl s
  | cons x r ih => exact (s.endReset_ends x).trans (ih _)

theorem State.endTree_ends (s : State) (idx : PageIdx) (d : Nat) : s.EndsResets (s.endTree idx d) := by
  unfold State.endTree
  split
  · exact State.foldl_endReset_ends ..
  · exact State.EndsResets.refl s

/-- What a page waits for, its subtree and the device page that a die sees do not depend on the marks. -/
theorem State.EndsResets.resetEnds (h : s.EndsResets t) (q : Page) : t.resetEnds q = s.resetEnds q := by rw [h.rest]; rfl

theorem State.EndsResets.subtree (h : s.EndsResets t) (q : Page) : t.subtree q = s.subtree q := by rw [h.rest]; rfl

theorem State.EndsResets.devInst (h : s.EndsResets t) (d : Nat) : t.devInst d = s.devInst d := by rw [h.rest]; rfl

theorem State.endReset_same (h : s.resetEnds p = true) : (s.endReset p).resetting.get false (p.key 0) = false := by
  unfold State.endReset
  rw [h, Bool.and_true]
  split
  · exact Sparse.get_set_same s.resetting false false (p.key 0)
  · exact Bool.eq_false_of_not_eq_true ‹_›

/-- Every page of a list that nothing holds back is out of reset after the list. -/
theorem State.foldl_endReset_done {l : List Page} (hq : q ∈ l) (he : s.resetEnds q = true) :
    (l.foldl State.endReset s).resetting.get false (q.key 0) = false := by
  induction l generalizing s with
  | nil => cases hq
  | cons x r ih =>
    rcases List.mem_cons.mp hq with rfl | hr
    · exact (State.foldl_endReset_ends _ r).marks _ (State.endReset_same he)
    · exact ih hr (((s.endReset_ends x).resetEnds q).trans he)

theorem State.endTree_done {d : Nat} (hp : Page.ofIndex d (s.devInst d) idx.toNat = some p) (hq : q ∈ s.subtree p)
    (he : s.resetEnds q = true) : (s.endTree idx d).resetting.get false (q.key 0) = false := by
  unfold State.endTree
  rw [hp]
  exact State.foldl_endReset_done hq he

/-- Settles O15: what clearing gives up is not touched by the units' own settling, and the end of a reset only clears marks. -/
theorem unitResetClearsAndReleases : Obligations.UnitResetClearsAndReleases := by
  constructor
  · intro s src page p h
    rw [exec_unitReset, State.access_at _ h]
    refine ⟨fun hk => by rw [State.unitReset_refused hk], fun hdie hdev => ⟨_, rfl, ?_⟩⟩
    obtain ⟨hlock, hmark⟩ := State.unitReset_tree s (p := p) (not_or.mpr ⟨hdie, hdev⟩)
    exact ⟨fun q hq => ⟨(hlock q).trans (if_pos ⟨q, hq, rfl⟩), hmark q hq⟩,
      fun q hq => (hlock q).trans (if_neg fun ⟨x, hx, e⟩ => hq x hx e)⟩
  · intro s page d p hp
    have h0 := s.endTree_ends page 0
    have h1 := (s.endTree page 0).endTree_ends page 1
    refine ⟨_, exec_unitResetDone s page, fun q hq => ⟨fun he => ?_, (h0.trans h1).marks _⟩⟩
    rcases (by omega : d.val = 0 ∨ d.val = 1) with hd | hd <;> rw [hd] at hp
    · exact h1.marks _ (State.endTree_done hp hq he)
    · exact State.endTree_done (by rw [h0.devInst]; exact hp) (by rw [h0.subtree]; exact hq) ((h0.resetEnds q).trans he)

/-! ### The I3C target (R70-R73) -/

theorem State.pins_foldl_bset {β : Type} (l : List β) (pg : β → Page) (f : Fld) (b : Bool) (s : State) :
    (l.foldl (fun s x => s.bset (pg x) f b) s).pins = s.pins := by
  induction l generalizing s with
  | nil => rfl
  | cons x r ih => rw [List.foldl_cons, ih, State.bset_pins]

/-- A loss of PWRGOOD_AON takes the dynamic address (R72, R492). -/
theorem State.i3cAddr_powerLost (s : State) (torn : Word) : (s.powerLost torn).pins.i3cAddr = none := by
  unfold State.powerLost
  dsimp only
  rw [State.pins_foldl_bset]

theorem State.pins_untrip (s t : State) : (s.untrip t).pins = t.pins := by
  unfold State.untrip
  split <;> rfl

theorem exec_vaonLoss_i3cAddr (s : State) (torn : Word) : ∃ t, exec (.vaonLoss torn) s = .next t ∧ t.pins.i3cAddr = none := by
  refine ⟨_, rfl, ?_⟩
  rw [State.pins_foldl_bset]
  dsimp only
  rw [State.pins_untrip, State.i3cAddr_powerLost]

theorem exec_pwrgoodAonDeassert_i3cAddr (torn : Word) (h : s.pins.pwrgood = true) :
    ∃ t, exec (.pwrgoodAonDeassert torn) s = .next t ∧ t.pins.i3cAddr = none := by
  refine ⟨_, rfl, ?_⟩
  dsimp only
  rw [if_pos h, State.pins_untrip, State.i3cAddr_powerLost]

/-- A command whose table leaves out the pins completes with the I3C address as it was. -/
theorem exec_keeps_i3cAddr {c : Instr} (h : exec c s = .next t) (hc : Part.pins ∉ (touches c).parts) :
    t.pins.i3cAddr = s.pins.i3cAddr :=
  congrArg Pins.i3cAddr ((exec_does c s t h).keep .pins ((touches c).mask_part hc))

theorem exec_setdasa (s : State) (a b : BitVec 7) : exec (.setdasa a b) s =
    .next (if s.i3cOn ∧ (s.bootOf 0).shadow.i3c = some a then s.setI3cAddr (some b) else s) := rfl

theorem exec_entdaa (s : State) (a : BitVec 7) : exec (.entdaa a) s =
    .next (if s.i3cOn ∧ s.pins.i3cAddr = none then (s.emit (.i3c [s.provisionalId])).setI3cAddr (some a) else s) := rfl

theorem exec_rstdaa (s : State) : exec .rstdaa s = .next (if s.i3cOn then s.setI3cAddr none else s) := rfl

/-- Settles O19, command by command; RESET_N leaves the address among the pins, and the sleep of a slice touches no pin. -/
theorem dynamicAddressIsTakenAndLost : Obligations.DynamicAddressIsTakenAndLost := by
  intro s a b torn sl hpwr
  have hon : s.i3cOn = true := hpwr
  rw [exec_setdasa, exec_entdaa, exec_rstdaa]
  refine ⟨?own, ?other, ?free, ?held, ?drop, exec_vaonLoss_i3cAddr s torn, exec_pwrgoodAonDeassert_i3cAddr torn hpwr,
    ⟨_, rfl, rfl⟩, ⟨_, rfl, ?sleep⟩⟩
  case own => exact fun h => by rw [if_pos ⟨hon, h⟩]
  case other => exact fun h => by rw [if_neg (fun hs => h hs.2)]
  case free => exact fun h => by rw [if_pos ⟨hon, h⟩]
  case held => exact fun h => by rw [if_neg (fun hs => h hs.2)]
  case drop => rw [if_pos hon]
  case sleep => exact exec_keeps_i3cAddr (c := .sliceSleepEnter sl) rfl (by dsimp only [touches]; decide)

/-- The provisional ID of R71, field by field. -/
theorem State.provisionalId_eq (s : State) : s.provisionalId =
    (s.identity 3).toNat % 2 ^ 15 * 2 ^ 33 + 2 ^ 32 + (crc32c (leBytes 8 s.serial)).toNat / 2 ^ 16 * 2 ^ 16 +
      s.serial % 2 ^ 16 := by
  have hcrc := (crc32c (leBytes 8 s.serial)).isLt
  simp only [State.provisionalId, fieldAt, bits, Nat.shiftLeft_eq, Nat.shiftRight_eq_div_pow]
  omega

theorem exec_getpid_on (h : s.i3cOn = true ∧ s.pins.i3cAddr.isSome = true) :
    exec .getpid s = .next (s.emit (.i3c [s.provisionalId])) := congrArg Host.Outcome.next (if_pos h)

theorem exec_getdcr_on (h : s.i3cOn = true ∧ s.pins.i3cAddr.isSome = true) :
    exec .getdcr s = .next (s.emit (.i3c [Config.dcr.toNat])) := congrArg Host.Outcome.next (if_pos h)

theorem exec_getbcr_on (h : s.i3cOn = true ∧ s.pins.i3cAddr.isSome = true) :
    exec .getbcr s = .next ((s.draw 8).2.emit (.i3c [(s.draw 8).1.toNat])) := if_pos h

/-- A transfer that writes one word is the I3C source's register write at the page and offset that it leaves remembered (R73). -/
theorem exec_i3cPrivateWrite_one (page : PageIdx) (off : BitVec 16) (w : Word)
    (h : s.i3cOn = true ∧ s.pins.i3cAddr.isSome = true) : exec (.i3cPrivateWrite page off [w]) s =
      exec (.registerWrite .i3c page off 4 w false) { s with pins := { s.pins with i3cPage := page, i3cOff := off } } := by
  have hoff : off.toNat % 65536 = off.toNat := Nat.mod_eq_of_lt off.isLt
  refine (congrArg Host.Outcome.next (if_pos h)).trans ?_
  rw [exec_registerWrite]
  dsimp only [List.foldl_cons, List.foldl_nil]
  rw [hoff]

theorem exec_i3cPrivateRead_one (h : s.i3cOn = true ∧ s.pins.i3cAddr.isSome = true) : exec (.i3cPrivateRead 1) s =
    exec (.counterLowWordRead .i3c s.pins.i3cPage ⟨s.pins.i3cOff, 4⟩ false) s := by
  have hoff : (s.pins.i3cOff.toNat + 4 * 0) % 65536 = s.pins.i3cOff.toNat := Nat.mod_eq_of_lt s.pins.i3cOff.isLt
  refine (congrArg Host.Outcome.next (if_pos h)).trans ?_
  rw [exec_counterLowWordRead, List.range_one, List.foldl_cons, List.foldl_nil, hoff]

/-- Settles O20: the target is on and holds an address, so each command takes its first branch. -/
theorem boardBusAnswersAndAccesses : Obligations.BoardBusAnswersAndAccesses := by
  intro s page off w hpwr haddr
  have hon : s.i3cOn = true ∧ s.pins.i3cAddr.isSome = true := ⟨hpwr, haddr⟩
  rw [← State.provisionalId_eq]
  exact ⟨exec_getpid_on hon, exec_getdcr_on hon, exec_getbcr_on hon, exec_i3cPrivateWrite_one page off w hon,
    exec_i3cPrivateRead_one hon⟩

/-! ### Pages of groups (R53, R55) -/

/-- A command that writes a register of one kind of unit acts on each unit of that kind at or below the page it reaches, in turn,
and is counted as unmapped where there is none. -/
theorem exec_eachUnit {c : Instr} {w : RegWord} {f : Page → State → State} (h : s.reaches src idx p)
    (hc : exec c s = .next (s.accessKind src idx k w f)) :
    (s.targetsOf p k ≠ [] → exec c s = .next ((s.targetsOf p k).foldl (fun s t => f t s) s)) ∧
      (s.targetsOf p k = [] → exec c s = .next (s.countUnmapped src)) :=
  ⟨fun ht => by rw [hc, State.accessKind_group f h ht], fun ht => by rw [hc, State.accessKind_none f h ht]⟩

/-- Settles O60: each command listed is an access of one kind of unit. -/
theorem aggregatePagesReachEveryUnit : Obligations.AggregatePagesReachEveryUnit := by
  intro s src page p val k b q off h
  refine ⟨?slice, ?port, ?die⟩
  case slice => intro x hx; fin_cases hx <;> exact exec_eachUnit h rfl
  case port => intro x hx; fin_cases hx <;> exact exec_eachUnit h rfl
  case die => intro x hx; fin_cases hx <;> exact exec_eachUnit h rfl

end Sys2Proof.Machine
end

section
/-!
PROOFS of the statements about ports and lanes (03_lanes_and_ports R83, R91, R94, R97, R98, R100, R101; 07 R234; 08 R280; 10 R306,
R307): how codewords, link-down conditions and remote fault act on a port, which coefficient requests a lane in training grants,
and how frames and fragments are received.
-/
namespace Sys2Proof.Machine

variable {s : State}

/-! ### Codewords (R97, R101) -/

theorem State.fget_raiseIf (s : State) (b : Bool) {p q : Page} {bit i : Nat} {f : Fld} (ho : 0x40 ≤ f.at i)
    (hq : q.kind ≠ .hif) : (s.raiseIf b p bit).fget q f i = s.fget q f i := by
  rw [State.raiseIf]
  split_ifs
  · exact s.fget_raise ho hq
  · rfl

@[simp] theorem State.raiseIf_lanes (s : State) (b : Bool) (p : Page) (bit : Nat) : (s.raiseIf b p bit).lanes = s.lanes := by
  rw [State.raiseIf]
  split_ifs
  · exact s.raise_lanes p bit
  · rfl

/-- A codeword counts and may raise a cause: no register from offset 0x40 on changes but a host interface's. -/
theorem State.fget_codeword (s : State) (p l : Nat) (c : Codeword) {q : Page} {f : Fld} {i : Nat} (ho : 0x40 ≤ f.at i)
    (hq : q.kind ≠ .hif) : (s.codeword p l c).fget q f i = s.fget q f i := by
  cases c with
  | ok => rfl
  | corrected n => rfl
  | uncorr =>
    simp only [State.codeword, State.fget_raiseIf _ _ ho hq]
    exact State.fget_congr rfl q f i

/-- A codeword moves the run of its lane; the conditions listed on every lane stay. -/
theorem State.laneCauses_codeword (s : State) (p l : Nat) (c : Codeword) (k : Nat) :
    (s.codeword p l c).laneCauses k = s.laneCauses k := by
  have hrun : ∀ n, (((s.lanes.set {} l { s.lanes.get {} l with run := n }).get {} k).causes) = s.laneCauses k := fun n => by
    rw [Sparse.get_set]
    split_ifs with hk
    · rw [hk]; rfl
    · rfl
  cases c with
  | ok => exact hrun _
  | corrected n => exact hrun _
  | uncorr => simp only [State.codeword, State.laneCauses, State.raiseIf_lanes]; exact hrun _

/-- A loop keeps what each of its turns keeps. -/
theorem State.foldl_keeps {α β : Type} {f : State → β → State} (obs : State → α) (hf : ∀ s x, obs (f s x) = obs s)
    (l : List β) (s : State) : obs (l.foldl f s) = obs s := by
  induction l generalizing s with
  | nil => rfl
  | cons x r ih => rw [List.foldl_cons, ih, hf]

theorem State.codewords_keeps {α : Type} (obs : State → α) (s : State) (p l : Nat) (cws : List Codeword)
    (h : ∀ s c, obs (State.codeword s p l c) = obs s) : obs (s.codewords p l cws) = obs s := by
  unfold State.codewords
  dsimp only
  split_ifs
  · rfl
  · exact State.foldl_keeps obs h cws s

theorem State.laneCauses_codewords (s : State) (p l : Nat) (cws : List Codeword) (k : Nat) :
    (s.codewords p l cws).laneCauses k = s.laneCauses k :=
  State.codewords_keeps (·.laneCauses k) s p l cws fun s c => s.laneCauses_codeword p l c k

theorem State.uncorrRun_codewords (s : State) (p l : Nat) (cws : List Codeword) :
    (s.codewords p l cws).fget (portPg p) F.PORT_LINK_CFG_UNCORR_RUN = s.fget (portPg p) F.PORT_LINK_CFG_UNCORR_RUN :=
  State.codewords_keeps (·.fget (portPg p) F.PORT_LINK_CFG_UNCORR_RUN) s p l cws fun s c =>
    s.fget_codeword p l c (by decide) Kind.noConfusion

/-! ### Link-down conditions (R91, R97) -/

theorem State.laneCauses_setCauses (s : State) (l k : Nat) (c : List LinkCause) :
    (s.setCauses l c).laneCauses k = if k = l then c else s.laneCauses k := by
  rw [State.laneCauses, State.setCauses, Sparse.get_set]
  split_ifs <;> rfl

/-- The lanes' status bits and LF follow the conditions; the conditions stay. -/
@[simp] theorem State.laneCauses_causesChanged (s : State) (p k : Nat) : (s.causesChanged p).laneCauses k = s.laneCauses k := by
  have h : (s.causesChanged p).lanes = s.lanes := (State.causesChanged_does (Nat.or_self _) (Does.refl s)).keep .lanes (by decide)
  rw [State.laneCauses, h, State.laneCauses]

theorem State.causeHolds_iff {p l : Nat} {v : Option Nat} {cause : LinkCause} : s.causeHolds p l v cause = true ↔
    match cause with
    | .uncorr => s.fget (portPg p) F.PORT_LINK_CFG_UNCORR_RUN ≠ 0 ∧
        s.fget (portPg p) F.PORT_LINK_CFG_UNCORR_RUN ≤ (s.lanes.get {} l).run
    | .align => ∀ x, v = some x → 4000 < x
    | _ => True := by
  cases cause with
  | uncorr => exact decide_eq_true_iff
  | align => simp only [State.causeHolds, Option.all_eq_true, decide_eq_true_eq]
  | signal => exact iff_of_true rfl trivial
  | cdr => exact iff_of_true rfl trivial
  | localFault => exact iff_of_true rfl trivial

theorem exec_linkDownDetect (s : State) (p : Port) (cause : LinkCause) (l : LaneFinding) :
    exec (.linkDownDetect p cause l) s = execLinkDownDetect p cause l s := rfl

theorem exec_linkDownClear (s : State) (p : Port) (cause : LinkCause) (l : LaneRun) :
    exec (.linkDownClear p cause l) s = execLinkDownClear p cause l s := rfl

/-- The check of R97 that a port is in HOLD, UP or RFAULT and the lane is one of its lanes. -/
theorem State.watchesLane {p l : Nat} (hst : 4 ≤ s.portState p) (hl : l ∈ s.portLanes p) :
    ¬ (s.portState p < 4 ∨ (!(s.portLanes p).contains l) = true) := by
  rintro (h | h)
  · omega
  · rw [List.contains_iff_mem.mpr hl] at h; cases h

theorem exec_linkDownDetect_new {p : Port} {cause : LinkCause} {l : Lane} {cws : List Codeword} {v : Option Nat}
    (hst : 4 ≤ s.portState p.val) (hl : l.val ∈ s.portLanes p.val)
    (hnew : cause ∉ (s.codewords p.val l.val cws).laneCauses l.val)
    (hholds : (s.codewords p.val l.val cws).causeHolds p.val l.val v cause = true) :
    exec (.linkDownDetect p cause ⟨l, cws, v⟩) s = .next
      ((((s.codewords p.val l.val cws).setCauses l.val ((s.codewords p.val l.val cws).laneCauses l.val ++ [cause])).causesChanged
        p.val).rfaultCheck p.val) := by
  rw [exec_linkDownDetect, execLinkDownDetect]
  dsimp only
  rw [if_neg (State.watchesLane hst hl), if_neg]
  simp [hnew, hholds]

/-- What the end of a condition leaves listed on each lane. -/
theorem exec_linkDownClear_causes {p : Port} (cause : LinkCause) {l : Lane} (cws : List Codeword)
    (hst : 4 ≤ s.portState p.val) (hl : l.val ∈ s.portLanes p.val) :
    ∃ t, exec (.linkDownClear p cause ⟨l, cws⟩) s = .next t ∧
      (cause ≠ .uncorr ∨ ((s.codewords p.val l.val cws).lanes.get {} l.val).run = 0 → cause ∉ t.laneCauses l.val) ∧
      ∀ k, k ≠ l.val → t.laneCauses k = s.laneCauses k := by
  rw [exec_linkDownClear, execLinkDownClear]
  dsimp only
  rw [if_neg (State.watchesLane hst hl)]
  by_cases hrun : cause = .uncorr ∧ ((s.codewords p.val l.val cws).lanes.get {} l.val).run ≠ 0
  · rw [if_pos hrun]
    exact ⟨_, rfl, fun h => (h.elim (absurd hrun.1) (absurd · hrun.2)), fun k _ => State.laneCauses_codewords ..⟩
  · rw [if_neg hrun]
    refine ⟨_, rfl, fun _ => ?_, fun k hk => ?_⟩
    · rw [State.laneCauses_causesChanged, State.laneCauses_setCauses, if_pos rfl]
      simp
    · rw [State.laneCauses_causesChanged, State.laneCauses_setCauses, if_neg hk, State.laneCauses_codewords]

/-! ### Remote fault and the debounce times (R94, R98, R101) -/

theorem exec_remoteFaultDetect {p : Port} (hst : 4 ≤ s.portState p.val) :
    exec (.remoteFaultDetect p) s = .next (s.bset (portPg p.val) F.PORT_STATUS_RF true) :=
  congrArg Host.Outcome.next (if_neg (Nat.not_lt.mpr hst))

theorem State.portState_bset_rf (s : State) (p : Nat) (b : Bool) :
    (s.bset (portPg p) F.PORT_STATUS_RF b).portState p = s.portState p :=
  State.fget_fset_beside _ _ F.PORT_STATUS_RF F.PORT_STATUS_STATE _ _ _ (by decide) rfl (by decide)

theorem exec_remoteFaultClear (s : State) (p : Port) : exec (.remoteFaultClear p) s = .next (
    if s.portState p.val = 6 then (s.bset (portPg p.val) F.PORT_STATUS_RF false).setPortState p.val 4
    else s.bset (portPg p.val) F.PORT_STATUS_RF false) := by
  rw [← State.portState_bset_rf s p.val false]
  rfl

theorem exec_downDebounceExpire {p : Port} (h : s.portState p.val = 5 ∧ s.linkBad p.val = true) :
    exec (.downDebounceExpire p) s = .next (((s.enterAn p.val).pruneFlush p.val).linkDown p.val) :=
  congrArg Host.Outcome.next (if_pos h)

theorem exec_remoteFaultDebounceExpire {p : Port} (h : s.portState p.val = 5 ∧ s.flag (portPg p.val) F.PORT_STATUS_RF = true) :
    exec (.remoteFaultDebounceExpire p) s = .next (((((s.setPortState p.val 6).pruneFlush p.val).raise (portPg p.val) 13).linkDown
      p.val).rfaultCheck p.val) :=
  congrArg Host.Outcome.next (if_pos h)

/-! ### Training requests (R83) -/

theorem exec_trainCoefRequest (s : State) (l : Lane) (r : CoefTarget) (up : Bool) :
    exec (.trainCoefRequest l r up) s = execTrainCoefRequest l r up s := rfl

/-- A tap's value is in the range of its field, MAIN's unsigned, and within 8 of its board-table value. -/
def TapWithin (i : Nat) (base v : Int) : Prop :=
  (if i = 3 then 0 ≤ v ∧ v ≤ 63 else -32 ≤ v ∧ v ≤ 31) ∧ base - 8 ≤ v ∧ v ≤ base + 8

theorem tapFits_iff {i : Nat} {base v : Int} : tapFits i base v = true ↔ TapWithin i base v := by
  rw [tapFits, decide_eq_true_iff, TapWithin]
  split_ifs <;> exact and_assoc.symm

/-- The taps that a lane sends with. -/
def State.nowTaps (s : State) (l : Nat) : List Int := tapsOf (s.reg (lanePg l) F.LANE_TX_FIR.off).toNat

/-- A request's taps keep the limits of R83, and no lock holds the taps. -/
def State.CoefAllowed (s : State) (l : Nat) (r : CoefTarget) (up : Bool) : Prop :=
  s.flag (lanePg l) F.LANE_TX_CTRL_TRAIN_LOCK = false ∧
  (∀ i < 5, (s.coefTaps l up r).getD i 0 = (s.nowTaps l).getD i 0 ∨
    TapWithin i ((s.boardTaps l).getD i 0) ((s.coefTaps l up r).getD i 0)) ∧
  tapSum (s.coefTaps l up r) ≤ 63

/-- The check of R83 over the five taps and their sum. -/
theorem State.coefChecks_iff {l : Nat} {t : List Int} :
    ((List.range 5).all (fun i => decide (t.getD i 0 = (s.nowTaps l).getD i 0) ||
      tapFits i ((s.boardTaps l).getD i 0) (t.getD i 0)) && decide (tapSum t ≤ 63)) = true ↔
    (∀ i < 5, t.getD i 0 = (s.nowTaps l).getD i 0 ∨ TapWithin i ((s.boardTaps l).getD i 0) (t.getD i 0)) ∧
      tapSum t ≤ 63 := by
  simp only [Bool.and_eq_true, List.all_eq_true, List.mem_range, Bool.or_eq_true, decide_eq_true_eq, tapFits_iff]

theorem State.coefResult_allowed {l : Nat} {r : CoefTarget} {up : Bool} (h : s.CoefAllowed l r up) :
    s.coefResult l r up = some (s.coefTaps l up r) := by
  obtain ⟨hfree, hchecks⟩ := h
  rw [State.coefResult, hfree, if_neg Bool.false_ne_true]
  exact if_pos (State.coefChecks_iff.mpr hchecks)

theorem State.coefResult_refused {l : Nat} {r : CoefTarget} {up : Bool} (h : ¬ s.CoefAllowed l r up) :
    s.coefResult l r up = none := by
  rw [State.coefResult]
  split_ifs with hlock hchecks
  · rfl
  · exact absurd ⟨Bool.eq_false_of_not_eq_true hlock, State.coefChecks_iff.mp hchecks⟩ h
  · rfl

theorem exec_trainCoefRequest_idle {l : Lane} (r : CoefTarget) (up : Bool) (h : s.fget (lanePg l.val) F.LANE_STATUS_STATE ≠ 2) :
    exec (.trainCoefRequest l r up) s = .next s := congrArg Host.Outcome.next (if_pos h)

theorem exec_trainCoefRequest_allowed {l : Lane} {r : CoefTarget} {up : Bool}
    (hst : s.fget (lanePg l.val) F.LANE_STATUS_STATE = 2) (h : s.CoefAllowed l.val r up) :
    exec (.trainCoefRequest l r up) s = .next ((s.setReg (lanePg l.val) F.LANE_TX_FIR.off
      (BitVec.ofNat 32 (tapsWord (s.coefTaps l.val up r)))).emit (.coef l.val 0)) := by
  rw [exec_trainCoefRequest, execTrainCoefRequest, if_neg (not_not.mpr hst), State.coefResult_allowed h]

theorem exec_trainCoefRequest_refused {l : Lane} {r : CoefTarget} {up : Bool}
    (hst : s.fget (lanePg l.val) F.LANE_STATUS_STATE = 2) (h : ¬ s.CoefAllowed l.val r up) :
    exec (.trainCoefRequest l r up) s = .next (s.emit (.coef l.val (coefRefusal r up))) := by
  rw [exec_trainCoefRequest, execTrainCoefRequest, if_neg (not_not.mpr hst), State.coefResult_refused h]

/-- A step changes its own tap and no other, so the limits of that tap alone decide. -/
theorem State.coefAllowed_tap {l : Nat} {tap : Fin 5} {up : Bool} {v : Int}
    (hv : v = (s.nowTaps l).getD tap.val 0 + (if up then 1 else -1)) : s.CoefAllowed l (.tap tap) up ↔
    s.flag (lanePg l) F.LANE_TX_CTRL_TRAIN_LOCK = false ∧ TapWithin tap.val ((s.boardTaps l).getD tap.val 0) v ∧
      tapSum ((s.nowTaps l).set tap.val v) ≤ 63 := by
  have htaps : s.coefTaps l up (.tap tap) = (s.nowTaps l).set tap.val v := by rw [hv]; rfl
  have hmoved : ((s.nowTaps l).set tap.val v).getD tap.val 0 = v := by
    rw [List.getD_eq_getElem?_getD, List.getElem?_set_self tap.isLt, Option.getD_some]
  have hkept : ∀ i, i ≠ tap.val → ((s.nowTaps l).set tap.val v).getD i 0 = (s.nowTaps l).getD i 0 := fun i hi => by
    rw [List.getD_eq_getElem?_getD, List.getElem?_set_ne hi.symm, List.getD_eq_getElem?_getD]
  have hnew : v ≠ (s.nowTaps l).getD tap.val 0 := by
    rw [hv]; cases up <;> simp
  rw [State.CoefAllowed, htaps]
  refine and_congr_right fun _ => and_congr_left fun _ => ⟨fun h => ?_, fun h i _ => ?_⟩
  · have := (h tap.val tap.isLt).resolve_left (by rw [hmoved]; exact hnew)
    rwa [hmoved] at this
  · by_cases hi : i = tap.val
    · rw [hi, hmoved]; exact .inr h
    · exact .inl (hkept i hi)

theorem coefRefusal_tap (tap : Fin 5) (up : Bool) : coefRefusal (.tap tap) up = if up then 2 else 1 := by
  cases up <;> rfl

theorem coefRefusal_all {r : CoefTarget} (up : Bool) (h : r ∈ [CoefTarget.preset, .initial]) : coefRefusal r up = 2 := by
  fin_cases h <;> cases up <;> rfl

/-- Settles O24, command by command: codewords move no condition, so a condition is new before them if it is after them; a
request is granted or refused by the check of R83. -/
theorem linksTrainAndFollowTheirConditions : Obligations.LinksTrainAndFollowTheirConditions := by
  refine ⟨fun s p cause l cws variation => ⟨fun hst hl => ⟨fun hnew hholds => ?detect, ?clear⟩,
    exec_remoteFaultDetect, exec_remoteFaultClear s p, fun hst hbad => exec_downDebounceExpire ⟨hst, hbad⟩,
    fun hst hrf => exec_remoteFaultDebounceExpire ⟨hst, hrf⟩⟩,
    fun s l => ⟨fun r up => exec_trainCoefRequest_idle r up, fun hst => ⟨fun tap up => ?tap, fun r hr up => ?all⟩⟩⟩
  case detect =>
    rw [← State.laneCauses_codewords s p.val l.val cws] at hnew
    rw [← State.uncorrRun_codewords s p.val l.val cws] at hholds
    exact exec_linkDownDetect_new hst hl hnew (State.causeHolds_iff.mpr hholds)
  case clear => exact exec_linkDownClear_causes cause cws hst hl
  case tap =>
    have hiff := State.coefAllowed_tap (s := s) (l := l.val) (tap := tap) (up := up) rfl
    refine ⟨fun hok => exec_trainCoefRequest_allowed hst (hiff.mpr hok), fun hno => ?_⟩
    rw [← coefRefusal_tap tap up]
    exact exec_trainCoefRequest_refused hst (mt hiff.mp hno)
  case all =>
    refine ⟨exec_trainCoefRequest_allowed hst, fun hno => ?_⟩
    rw [← coefRefusal_all up hr]
    exact exec_trainCoefRequest_refused hst hno

/-! ### Reception of frames (R100, R234, R264, R306, R307) -/

theorem exec_frameRx_taken {p : Port} {bytes : List Byte} {fcs : Word} {u : FecReport} {delay : BitVec 32}
    (hup : s.portUp p.val = true) (hrx : (s.portOf p.val).rx = none) :
    let v := u.cws.foldl (fun s x =>
      if p.val / 8 = (p.val + x.1.val) / 8 then s.codewords p.val (p.val + x.1.val) x.2 else s) s
    exec (.frameRx p bytes fcs u delay) s = .next (v.rxFrame p bytes fcs u.uncorr (v.ingressStamp p.val delay) false) :=
  congrArg Host.Outcome.next (if_pos (by rw [hup, hrx]; rfl))

/-- A MAC control frame that is neither oversize nor a runt and whose FCS holds goes to MAC control (R233, R234). -/
theorem State.rxFrame_control {p : Port} {bytes : List Byte} (stamp : DWord) (last : Bool) (hmin : 60 ≤ bytes.length)
    (hmax : bytes.length + 4 ≤ s.fget (portPg p.val) F.PORT_MAC_CFG_MAX_FRAME) (htype : num bytes 12 2 = 0x8808) :
    s.rxFrame p bytes (fcs32 bytes) false stamp last = ((s.cadd (portPg p.val) F.PORT_RX_FRAMES).cadd (portPg p.val)
      F.PORT_RX_BYTES (bytes.length + 4)).macControl p bytes := by
  have hbig : ¬ bytes.length + 4 > s.fget (portPg p.val) F.PORT_MAC_CFG_MAX_FRAME := Nat.not_lt.mpr hmax
  have hrunt : ¬ bytes.length + 4 < 64 := by omega
  simp [State.rxFrame, hbig, hrunt, htype]

@[simp] theorem State.dropLate_ports (s : State) (uid : Nat) : (s.dropLate uid).ports = s.ports :=
  (State.dropLate_does (Nat.or_self _) (Does.refl s)).keep .ports (by decide)

@[simp] theorem State.updFrm_ports (s : State) (uid : Nat) (g : Frm → Frm) : (s.updFrm uid g).ports = s.ports :=
  (State.updFrm_does (Nat.or_self _) (Does.refl s)).keep .ports (by decide)

@[simp] theorem State.meterKin_ports (s : State) (uid : Nat) : (s.meterKin uid).ports = s.ports :=
  (State.meterKin_does (Nat.or_self _) (Does.refl s)).keep .ports (by decide)

/-- After the last byte of a frame its port receives none. -/
theorem State.lastByte_rx (s : State) (p : Nat) (bad : Bool) : ((s.lastByte p bad).portOf p).rx = none := by
  unfold State.lastByte
  dsimp only
  split
  case h_1 hrx => exact hrx
  case h_2 uid hrx =>
    rw [State.portOf, State.foldl_keeps State.ports (fun s u => s.dropLate_ports u), State.meterKin_ports,
      State.foldl_keeps State.ports (fun s u => s.updFrm_ports u _)]
    split_ifs
    · rw [State.cadd_ports, ← State.portOf, State.setPort_portOf]
    · rw [← State.portOf, State.setPort_portOf]

theorem exec_pauseRx {p : Port} (hup : s.portUp p.val = true) : exec (.pauseRx p) s =
    .next ((s.countControl p.val).cadd (portPg p.val) F.BUF_PAUSE_IGNORED) := congrArg Host.Outcome.next (if_pos hup)

/-! ### Fragments of preempted frames (R280) -/

theorem exec_mmFragmentRx (s : State) (p : Port) (x : Fragment) (delay : BitVec 32) :
    exec (.mmFragmentRx p x delay) s = execMmFragmentRx p x delay s := rfl

@[simp] theorem State.cadd_portOf (s : State) (p : Page) (f : Fld) (n i q : Nat) : (s.cadd p f n i).portOf q = s.portOf q := rfl

/-- The check of R280 that a port takes fragments: it is in UP with preemption enabled. -/
theorem State.mmTakes {p : Nat} (hup : s.portUp p = true) (hen : s.flag (portPg p) F.PORT_MM_CFG_EN = true) :
    ¬ (!s.portUp p || !s.flag (portPg p) F.PORT_MM_CFG_EN) = true := by
  simp [hup, hen]

section
variable {p : Port} {x : Fragment} (delay : BitVec 32) (hup : s.portUp p.val = true)
  (hen : s.flag (portPg p.val) F.PORT_MM_CFG_EN = true)
include hup hen

theorem exec_mmFragmentRx_start (hstart : x.start = true) (hlast : x.last = false) (hcrc : x.crcOk = true)
    (hnone : (s.portOf p.val).assembly = none) :
    exec (.mmFragmentRx p x delay) s = .next (s.setPort p.val { s.portOf p.val with
      assembly := some { bytes := x.bytes, stamp := s.ingressStamp p.val delay, frags := 0, num := x.frame.val } }) := by
  rw [exec_mmFragmentRx, execMmFragmentRx, if_neg (State.mmTakes hup hen)]
  simp [hstart, hlast, hcrc, hnone]

theorem exec_mmFragmentRx_extends {a : Assembly} (hcont : x.start = false) (hopen : (s.portOf p.val).assembly = some a)
    (hnum : a.num = x.frame.val) (hfrag : a.frags % 4 = x.frag.val) (hlast : x.last = false)
    (hcrc : x.crcOk = true) :
    let u := s.cadd (portPg p.val) F.PORT_MM_RX_FRAGMENTS
    exec (.mmFragmentRx p x delay) s = .next (u.setPort p.val { u.portOf p.val with
      assembly := some { a with bytes := a.bytes ++ x.bytes, frags := a.frags + 1 } }) := by
  rw [exec_mmFragmentRx, execMmFragmentRx, if_neg (State.mmTakes hup hen)]
  simp [hcont, hopen, hnum, hfrag, hlast, hcrc]

theorem exec_mmFragmentRx_completes {a : Assembly} (hcont : x.start = false) (hopen : (s.portOf p.val).assembly = some a)
    (hnum : a.num = x.frame.val) (hfrag : a.frags % 4 = x.frag.val) (hlast : x.last = true) :
    let u := s.cadd (portPg p.val) F.PORT_MM_RX_FRAGMENTS
    exec (.mmFragmentRx p x delay) s = .next (((u.cadd (portPg p.val) F.PORT_MM_RX_ASSEMBLED).setPort p.val
      { u.portOf p.val with assembly := none }).rxFrame p (a.bytes ++ x.bytes) x.fcs x.uncorr a.stamp true) := by
  rw [exec_mmFragmentRx, execMmFragmentRx, if_neg (State.mmTakes hup hen)]
  simp [hcont, hopen, hnum, hfrag, hlast]

/-- A continuation out of place leaves no assembly and is counted as an error. -/
theorem exec_mmFragmentRx_misplaced (hcont : x.start = false)
    (hout : ∀ a, (s.portOf p.val).assembly = some a → a.num ≠ x.frame.val ∨ a.frags % 4 ≠ x.frag.val) :
    let u := s.cadd (portPg p.val) F.PORT_MM_RX_FRAGMENTS
    exec (.mmFragmentRx p x delay) s = .next ((u.setPort p.val { u.portOf p.val with assembly := none }).cadd (portPg p.val)
      F.PORT_MM_ASSY_ERRORS) := by
  rw [exec_mmFragmentRx, execMmFragmentRx, if_neg (State.mmTakes hup hen), hcont, if_neg Bool.false_ne_true]
  dsimp only
  cases ha : (s.portOf p.val).assembly with
  | none => rfl
  | some a => exact congrArg Host.Outcome.next (if_pos (hout a ha))

end

/-- A counter at another offset keeps its value. -/
theorem State.cget_cadd_off (s : State) (p q : Page) {f g : Fld} (n : Nat) {i j : Nat} (ho : f.at i < 65536)
    (ho' : g.at j < 65536) (h : g.at j ≠ f.at i) : (s.cadd p f n i).cget q g j = s.cget q g j :=
  State.cget_cadd_ne s p q f g n i j fun e => h ((Page.key_eq ho ho').mp e).2

/-- Dropping an assembly counts an error and no fragment. -/
theorem State.dropAssembly_counts (u : State) (p : Nat) (x : PortSt) :
    let t := (u.setPort p x).cadd (portPg p) F.PORT_MM_ASSY_ERRORS
    t.portOf p = x ∧ t.cget (portPg p) F.PORT_MM_ASSY_ERRORS = u.cget (portPg p) F.PORT_MM_ASSY_ERRORS + 1 ∧
      t.cget (portPg p) F.PORT_MM_RX_FRAGMENTS = u.cget (portPg p) F.PORT_MM_RX_FRAGMENTS := by
  dsimp only
  refine ⟨State.setPort_portOf .., ?_, ?_⟩
  · rw [State.cget_cadd_same, State.setPort_cget]; rfl
  · rw [State.cget_cadd_off _ _ _ _ (by decide) (by decide) (by decide), State.setPort_cget]

/-- Settles O25, command by command; the end of a frame leaves ports alone but for the mark that one is in reception. -/
theorem framesAndFragmentsAreReceived : Obligations.FramesAndFragmentsAreReceived := by
  refine ⟨fun s p bytes fcs uncorr delay cws hup => ⟨exec_frameRx_taken hup, ?control, rfl, State.lastByte_rx .., ?pause⟩,
    fun s p x delay hup hen => ⟨exec_mmFragmentRx_start delay hup hen, fun a hcont hopen hnum hfrag =>
      ⟨exec_mmFragmentRx_extends delay hup hen hcont hopen hnum hfrag,
        exec_mmFragmentRx_completes delay hup hen hcont hopen hnum hfrag⟩, ?misplaced⟩⟩
  case control =>
    intro hrx hmin hmax htype
    rw [exec_frameRx_taken hup hrx]
    exact congrArg Host.Outcome.next (State.rxFrame_control _ _ hmin hmax htype)
  case pause => rw [exec_pauseRx hup, State.countControl, if_pos hup]
  case misplaced =>
    intro hcont hout
    obtain ⟨hport, herr, hfrags⟩ := State.dropAssembly_counts (s.cadd (portPg p.val) F.PORT_MM_RX_FRAGMENTS) p.val
      { s.portOf p.val with assembly := none }
    refine ⟨_, exec_mmFragmentRx_misplaced delay hup hen hcont hout, congrArg PortSt.assembly hport, ?_, ?_⟩
    · exact herr.trans (by rw [State.cget_cadd_off _ _ _ _ (by decide) (by decide) (by decide)])
    · exact hfrags.trans (State.cget_cadd_same ..)

end Sys2Proof.Machine
end

section
/-!
PROOFS of the statements about host commands on the classifier, the QDR channels, the parser memories, the LPM tries and the
hash tables (04_parser_classifier R105, R115, R117, R118, R124, R125, R127, R131; 05_match_action_tables R141, R142, R152-R157):
what each command does to the page it reaches, and what the end of a command leaves.
-/
namespace Sys2Proof.Machine

variable {s : State} {src : Source} {idx : PageIdx} {val : Word} {d n c : Nat}

/-! ### What a write of a register's own bits leaves (R9) -/

/-- Storing the RW and RWL bits of a value changes registers alone. -/
theorem State.putRw_eq (s : State) (p : Page) (off : Nat) (v : Word) : ∃ r, s.putRw p off v = { s with regs := r } := by
  unfold State.putRw
  split
  · exact ⟨_, rfl⟩
  · exact ⟨s.regs, rfl⟩

@[simp] theorem State.putRw_clsOf (s : State) (p : Page) (off : Nat) (v : Word) (d : Nat) :
    (s.putRw p off v).clsOf d = s.clsOf d := by
  obtain ⟨r, hr⟩ := s.putRw_eq p off v
  rw [hr, State.clsOf, State.clsOf]

@[simp] theorem State.putRw_qdrBusy (s : State) (p : Page) (off : Nat) (v : Word) :
    (s.putRw p off v).qdrBusy = s.qdrBusy := by
  obtain ⟨r, hr⟩ := s.putRw_eq p off v
  rw [hr]

@[simp] theorem State.putRw_monoNs (s : State) (p : Page) (off : Nat) (v : Word) (d : Nat) :
    (s.putRw p off v).monoNs d = s.monoNs d := by
  obtain ⟨r, hr⟩ := s.putRw_eq p off v
  rw [hr]
  rfl

@[simp] theorem State.putRw_tab (s : State) (p : Page) (off : Nat) (v : Word) (n : Nat) :
    (s.putRw p off v).tab n = s.tab n := by
  obtain ⟨r, hr⟩ := s.putRw_eq p off v
  rw [hr, State.tab, State.tab]

@[simp] theorem State.bset_clsOf (s : State) (p : Page) (f : Fld) (b : Bool) (i d : Nat) :
    (s.bset p f b i).clsOf d = s.clsOf d := by
  rw [State.clsOf, State.bset_clss, State.clsOf]

@[simp] theorem State.bset_monoNs (s : State) (p : Page) (f : Fld) (b : Bool) (i d : Nat) :
    (s.bset p f b i).monoNs d = s.monoNs d := by
  rw [State.monoNs, State.timeOf, State.bset_times, State.monoNs, State.timeOf]

@[simp] theorem State.setReg_tab (s : State) (p : Page) (off : Nat) (v : Word) (n : Nat) :
    (s.setReg p off v).tab n = s.tab n := by
  rw [State.tab, State.setReg_tabs, State.tab]

/-! ### Commands on a classifier page that their source reaches (R117, R124, R125, R127) -/

theorem exec_clsCacheFlush_at (h : s.reaches src idx (clsPg d)) :
    exec (.clsCacheFlush src idx val) s = .next (s.cacheFlush (clsPg d) val) := by
  change execClsCacheFlush src idx val s = _
  rw [execClsCacheFlush, State.accessKind_at _ h rfl]

theorem exec_clsTtWrite_at (h : s.reaches src idx (clsPg d)) :
    exec (.clsTtWrite src idx val) s = .next (s.ttCmd d true val) := by
  change execClsTtWrite src idx val s = _
  rw [execClsTtWrite, State.accessKind_at _ h rfl]

theorem exec_clsTtRead_at (h : s.reaches src idx (clsPg d)) :
    exec (.clsTtRead src idx val) s = .next (s.ttCmd d false val) := by
  change execClsTtRead src idx val s = _
  rw [execClsTtRead, State.accessKind_at _ h rfl]

theorem exec_clsTreeRootWrite_at (t : Fin 256) (bank : Fin 2) (h : s.reaches src idx (clsPg d)) :
    exec (.clsTreeRootWrite src idx t bank val) s = .next (s.rootWrite d t.val bank.val val) := by
  change execClsTreeRootWrite src idx t bank val s = _
  rw [execClsTreeRootWrite, State.accessKind_at _ h rfl]

theorem exec_clsTreeSwap_at (t : Fin 256) (h : s.reaches src idx (clsPg d)) :
    exec (.clsTreeSwap src idx t val) s = .next (s.swapStart d t.val val) := by
  change execClsTreeSwap src idx t val s = _
  rw [execClsTreeSwap, State.accessKind_at _ h rfl]

theorem exec_treeFailedMark (s : State) (d : Die) (c : Fin 4) :
    exec (.treeFailedMark d c) s = execTreeFailedMark d c s := rfl

/-- The cache is empty after a flush (R117). -/
theorem State.cache_cacheFlush (s : State) (d : Nat) (val : Word) : ((s.cacheFlush (clsPg d) val).clsOf d).cache = [] := by
  rw [State.cacheFlush, State.setCls_clsOf]

/-! ### Commands on a QDR channel (R131) -/

theorem exec_qdrWrite_at (h : s.reaches src idx (qdrPg c)) :
    exec (.qdrWrite src idx val) s = .next (s.qdrStart c true val) := by
  change execQdrWrite src idx val s = _
  rw [execQdrWrite, State.accessKind_at _ h rfl]

theorem exec_qdrRead_at (h : s.reaches src idx (qdrPg c)) :
    exec (.qdrRead src idx val) s = .next (s.qdrStart c false val) := by
  change execQdrRead src idx val s = _
  rw [execQdrRead, State.accessKind_at _ h rfl]

theorem exec_qdrAccessDone (s : State) (c : Fin 8) (err : QdrErr) :
    exec (.qdrAccessDone c err) s = execQdrAccessDone c err s := rfl

/-- The channel's access has ended: BUSY is clear and no swap waits for it. -/
def State.qdrFreed (s : State) (c : Nat) : State :=
  let v := ({ s with qdrBusy := s.qdrBusy.set none c none }).bset (qdrPg c) F.QDR_CMD_BUSY false
  let x := s.clss.get {} (c / 4)
  { v with clss := s.clss.set {} (c / 4) { x with
    swapWrites := (x.swapWrites.map (fun (kv : Nat × List Nat) => (kv.1, kv.2.erase c))).filter (fun kv => !kv.2.isEmpty) } }

section
variable {c : Fin 8} {err : QdrErr} {node : Nat} (hop : s.operates (qdrPg c.val) = true)
include hop

theorem exec_qdrAccessDone_idle (hidle : s.qdrBusy.get none c.val = none) : exec (.qdrAccessDone c err) s = .next s := by
  rw [exec_qdrAccessDone, execQdrAccessDone, State.ifOperates_on _ hop, hidle]

theorem exec_qdrAccessDone_write {v : BitVec 256} (hbusy : s.qdrBusy.get none c.val = some ⟨node, some v⟩) :
    exec (.qdrAccessDone c err) s = .next ((s.qdrFreed c.val).setQdr c.val node v) := by
  rw [exec_qdrAccessDone, execQdrAccessDone, State.ifOperates_on _ hop, hbusy]
  simp only [State.qdrFreed, State.bset_clss]

theorem exec_qdrAccessDone_read (hbusy : s.qdrBusy.get none c.val = some ⟨node, none⟩) :
    let r := ((s.qdrFreed c.val).qdrReport c.val node err).bset (qdrPg c.val) F.QDR_CMD_ERR err.fails
    exec (.qdrAccessDone c err) s =
      .next (r.setWords (qdrPg c.val) F.QDR_DATA 8 (if err.fails then 0 else (r.qdrNode c.val node).toNat)) := by
  rw [exec_qdrAccessDone, execQdrAccessDone, State.ifOperates_on _ hop, hbusy]
  simp only [State.qdrFreed, State.bset_clss]

end

/-- Settles O29, command by command; the register write that opens a command leaves the classifier, the clock and the accesses
in progress as they were. -/
theorem classifierAndQdrAreConfigured : Obligations.ClassifierAndQdrAreConfigured := by
  refine ⟨⟨fun s src page d t bank val h =>
    ⟨⟨_, exec_clsCacheFlush_at h, State.cache_cacheFlush ..⟩, ?ttWrite, ?ttRead, exec_clsTreeRootWrite_at t bank h, ?swap⟩,
    ?failed⟩, fun s src page c val h => ⟨?qdrWrite, ?qdrRead⟩, ?done⟩
  case ttWrite =>
    rw [exec_clsTtWrite_at h, State.ttCmd]
    simp only [State.putRw_clsOf, if_true]
  case ttRead =>
    rw [exec_clsTtRead_at h, State.ttCmd]
    simp only [State.putRw_clsOf, Bool.false_eq_true, if_false]
  case swap =>
    rw [exec_clsTreeSwap_at t h, State.swapStart]
    simp only [State.bset_clsOf, State.bset_monoNs, State.bset_qdrBusy, State.putRw_clsOf, State.putRw_monoNs, State.putRw_qdrBusy]
  case failed =>
    intro s d c hop
    rw [exec_treeFailedMark, execTreeFailedMark, State.ifOperates_on _ hop]
  case qdrWrite =>
    rw [exec_qdrWrite_at h, State.qdrStart]
    simp only [State.bset_qdrBusy, State.putRw_qdrBusy, if_true]
  case qdrRead =>
    rw [exec_qdrRead_at h, State.qdrStart]
    simp only [State.bset_qdrBusy, State.putRw_qdrBusy, Bool.false_eq_true, if_false]
  case done =>
    intro s c err a hop
    obtain ⟨node, data⟩ := a
    refine ⟨exec_qdrAccessDone_idle hop, fun hbusy v hdata => ?_, fun hbusy hdata => ?_⟩
    · obtain rfl : data = some v := hdata
      exact exec_qdrAccessDone_write hop hbusy
    · obtain rfl : data = none := hdata
      exact exec_qdrAccessDone_read hop hbusy

/-! ### Commands on a slice's parser memories and stage configuration (R105, R141) -/

theorem exec_prsMemWrite_at (h : s.reaches src idx (slicePg n)) :
    exec (.prsMemWrite src idx val) s = .next (s.prsMem n true val) := by
  change execPrsMemWrite src idx val s = _
  rw [execPrsMemWrite, State.accessKind_at _ h rfl]

theorem exec_prsMemRead_at (h : s.reaches src idx (slicePg n)) :
    exec (.prsMemRead src idx val) s = .next (s.prsMem n false val) := by
  change execPrsMemRead src idx val s = _
  rw [execPrsMemRead, State.accessKind_at _ h rfl]

theorem exec_stageCfgWrite_at (k : Fin 24) (h : s.reaches src idx (slicePg n)) :
    exec (.stageCfgWrite src idx k val) s = .next (s.stageCfgWrite n k.val val) := by
  change execStageCfgWrite src idx k val s = _
  rw [execStageCfgWrite, State.accessKind_at _ h rfl]

/-- SPACE 0 holds the nodes, every other SPACE the transitions (R105). -/
theorem State.prsMem_write (s : State) (n : Nat) (val : Word) :
    let a := s.putRw (slicePg n) F.PRS_MEM_ADDR.off val
    let i := F.PRS_MEM_ADDR_INDEX.of val
    let t := s.tab n
    s.prsMem n true val = a.setTab n (if F.PRS_MEM_ADDR_SPACE.of val = 0
      then { t with node := t.node.set 0 i (BitVec.ofNat 128 (a.words (slicePg n) F.PRS_MEM_DATA 4)) }
      else { t with trans := t.trans.set 0 i (BitVec.ofNat 64 (a.words (slicePg n) F.PRS_MEM_DATA 2)) }) := by
  unfold State.prsMem
  simp only [State.putRw_tab]
  cases F.PRS_MEM_ADDR_SPACE.of val <;> rfl

theorem State.prsMem_read (s : State) (n : Nat) (val : Word) :
    let a := s.putRw (slicePg n) F.PRS_MEM_ADDR.off val
    let i := F.PRS_MEM_ADDR_INDEX.of val
    s.prsMem n false val = if F.PRS_MEM_ADDR_SPACE.of val = 0
      then a.setWords (slicePg n) F.PRS_MEM_DATA 4 ((s.tab n).node.get 0 i).toNat
      else a.setWords (slicePg n) F.PRS_MEM_DATA 2 ((s.tab n).trans.get 0 i).toNat := by
  unfold State.prsMem
  simp only [State.putRw_tab]
  cases F.PRS_MEM_ADDR_SPACE.of val <;> rfl

/-! ### Commands on a slice's LPM tries (R155-R157) -/

theorem exec_lpmInsert_at (h : s.reaches src idx (slicePg n)) :
    exec (.lpmInsert src idx val) s = .next (s.lpmInsertCmd n val) := by
  change execLpmInsert src idx val s = _
  rw [execLpmInsert, State.accessKind_at _ h rfl]

theorem exec_lpmDelete_at (h : s.reaches src idx (slicePg n)) :
    exec (.lpmDelete src idx val) s = .next (s.lpmDeleteCmd n val) := by
  change execLpmDelete src idx val s = _
  rw [execLpmDelete, State.accessKind_at _ h rfl]

theorem exec_lpmLookup_at (h : s.reaches src idx (slicePg n)) :
    exec (.lpmLookup src idx val) s = .next (s.lpmLookupCmd n val) := by
  change execLpmLookup src idx val s = _
  rw [execLpmLookup, State.accessKind_at _ h rfl]

/-! ### The end of a command -/

/-- Of a unit that operates, a field that its own event clears reads as clear after it. -/
theorem State.flag_ifOperates_clear {p : Page} {f : Fld} (hop : s.operates p = true) (hf : f.lo + f.w ≤ 32) (hw : 0 < f.w) :
    ∃ t, s.ifOperates p (s.bset p f false) = .next t ∧ t.flag p f = false :=
  ⟨_, State.ifOperates_on _ hop, State.flag_bset_same s p f false 0 hf hw⟩

/-- Settles O30, command by command; an INSERT and a LOOKUP by what the trie answers. -/
theorem parserMemoriesAndPrefixesAreCommanded : Obligations.ParserMemoriesAndPrefixesAreCommanded := by
  refine ⟨fun s src page n k val h => ⟨?write, ?read, exec_stageCfgWrite_at k h⟩, fun s src page n val h =>
    ⟨?insert, ?delete, fun hmiss => ?missed, fun len res hhit => ?found⟩,
    fun s sl hop => State.flag_ifOperates_clear hop (by decide) (by decide)⟩
  case write => rw [exec_prsMemWrite_at h, State.prsMem_write]
  case read => rw [exec_prsMemRead_at h, State.prsMem_read]
  case insert =>
    rw [exec_lpmInsert_at h]
    split
    all_goals
      next hfit =>
        rw [State.lpmInsertCmd]
        split
        next hargs =>
          rw [hargs] at hfit
          simp only [hfit]
  case delete =>
    rcases hargs : (s.putRw (slicePg n) F.TBL_LPM_CMD.off val).lpmCmdArgs n with ⟨v6, len, addr⟩
    rw [exec_lpmDelete_at h]
    simp only [State.lpmDeleteCmd, hargs]
  case missed =>
    rw [exec_lpmLookup_at h, State.lpmLookupCmd]
    rcases hargs : (s.putRw (slicePg n) F.TBL_LPM_CMD.off val).lpmCmdArgs n with ⟨v6, len, addr⟩
    rw [hargs] at hmiss
    simp only [hmiss]
  case found =>
    rw [exec_lpmLookup_at h, State.lpmLookupCmd]
    rcases hargs : (s.putRw (slicePg n) F.TBL_LPM_CMD.off val).lpmCmdArgs n with ⟨v6, len', addr⟩
    rw [hargs] at hhit
    simp only [hhit]

/-! ### Commands on a slice's tenant map (R115) -/

theorem exec_tmapInsert_at (h : s.reaches src idx (slicePg n)) :
    exec (.tmapInsert src idx val) s = .next (s.tmapInsert n val) := by
  change execTmapInsert src idx val s = _
  rw [execTmapInsert, State.accessKind_at _ h rfl]

theorem exec_tmapDelete_at (h : s.reaches src idx (slicePg n)) :
    exec (.tmapDelete src idx val) s = .next (s.tmapDelete n val) := by
  change execTmapDelete src idx val s = _
  rw [execTmapDelete, State.accessKind_at _ h rfl]

theorem exec_tmapLookup_at (h : s.reaches src idx (slicePg n)) :
    exec (.tmapLookup src idx val) s = .next (s.tmapLookup n val) := by
  change execTmapLookup src idx val s = _
  rw [execTmapLookup, State.accessKind_at _ h rfl]

/-! ### Commands on a slice's exact-match table (R152-R154) -/

theorem exec_emInsert_at (h : s.reaches src idx (slicePg n)) :
    exec (.emInsert src idx val) s = .next (s.emInsert n val) := by
  change execEmInsert src idx val s = _
  rw [execEmInsert, State.accessKind_at _ h rfl]

theorem exec_emDelete_at (h : s.reaches src idx (slicePg n)) :
    exec (.emDelete src idx val) s = .next (s.emDelete n val) := by
  change execEmDelete src idx val s = _
  rw [execEmDelete, State.accessKind_at _ h rfl]

theorem exec_emLookup_at (h : s.reaches src idx (slicePg n)) :
    exec (.emLookup src idx val) s = .next (s.emLookup n val) := by
  change execEmLookup src idx val s = _
  rw [execEmLookup, State.accessKind_at _ h rfl]

theorem exec_emSeedWrite_at (w : Fin 2) (h : s.reaches src idx (slicePg n)) :
    exec (.emSeedWrite src idx w val) s = .next (s.emSeedWrite n w.val val) := by
  change execEmSeedWrite src idx w val s = _
  rw [execEmSeedWrite, State.accessKind_at _ h rfl]

/-- Settles O31, command by command; DELETE and LOOKUP by whether the key's entry is there. -/
theorem hashTablesAreCommanded : Obligations.HashTablesAreCommanded := by
  refine ⟨fun s src page n val h => ⟨exec_tmapInsert_at h, exec_tmapDelete_at h, fun hmiss => ?tmapMissed,
    fun i hhit => ?tmapFound, fun k hkey => ⟨?emInsert, fun hmiss => ?emMissed, fun i hhit => ⟨?emDelete, fun hv4 => ?emLookup⟩⟩,
    fun w => exec_emSeedWrite_at w h⟩,
    fun s sl hop => ⟨State.flag_ifOperates_clear hop (by decide) (by decide),
      State.flag_ifOperates_clear hop (by decide) (by decide)⟩⟩
  case tmapMissed =>
    rw [exec_tmapLookup_at h, State.tmapLookup]
    simp only [hmiss]
  case tmapFound =>
    rw [exec_tmapLookup_at h, State.tmapLookup]
    simp only [hhit]
  case emInsert =>
    rw [exec_emInsert_at h]
    split
    all_goals
      next hplaced =>
        rw [State.emInsert]
        simp only [hkey, hplaced]
  case emMissed =>
    rw [exec_emDelete_at h, State.emDelete]
    simp only [hkey, hmiss, Option.bind_some, Option.map_none]
  case emDelete =>
    rw [exec_emDelete_at h, State.emDelete]
    simp only [hkey, hhit, Option.bind_some, Option.map_some]
  case emLookup =>
    rw [exec_emLookup_at h, State.emLookup]
    simp only [hkey, hhit, hv4, Option.bind_some, Bool.false_eq_true, if_false, State.setReg_tab]

end Sys2Proof.Machine
end

section
/-!
PROOFS of the statements about tables by index, TCAM rows and learning (05_match_action_tables R160, R161, R164-R174;
04_parser_classifier R132, R136, R137): what an index or a row command does to the slice it reaches, who holds a table's
lock, what a repair copies, and what the learning arbiter does with an event, a pin, a window and a scan.
-/
namespace Sys2Proof.Machine

variable {s : State} {src : Source} {idx : PageIdx} {val : Word} {n : Nat} {sl : Slice} {d : Die}

/-! ### A cause that is raised stands in the page's status (R47, R61) -/

/-- A change of a page's output reaches vectors of a host interface; no page's header changes by it. -/
theorem State.reg_outputChanged_header (s : State) (p q : Page) (now : Bool) {o : Nat} (ho : o < 0x40) :
    (s.outputChanged p now).reg q o = s.reg q o := by
  refine ((State.outputChanged_does (Nat.or_self _) (Does.refl s)).regs q o ?_).1
  simp only [Kind.space, if_pos ho]
  cases q.kind <;> decide

/-- The summary of the pages below is bit 0 of a page's status; writing it leaves the other bits of every page's status. -/
theorem State.status_writeSummary (s : State) (p q : Page) (v : Nat) {b : Nat} (hb : b ≠ 0) :
    ((s.setReg p F.PAGE_IRQ_STATUS.off (Fld.put ⟨0x18, 0, 0, 1⟩ (s.reg p F.PAGE_IRQ_STATUS.off) v)).reg q
      F.PAGE_IRQ_STATUS.off).getLsbD b = (s.reg q F.PAGE_IRQ_STATUS.off).getLsbD b := by
  by_cases hq : q = p
  · subst hq
    rw [State.reg_setReg_same, Fld.put_toNat _ _ _ (by decide), if_neg (by dsimp only; omega)]
  · rw [State.reg_setReg_page s _ (by decide) (by decide) hq]

/-- Carrying an output up the tree touches bit 0 of a status alone. -/
theorem State.status_propagate (s : State) (p q : Page) (was : Bool) (fuel : Nat) {b : Nat} (hb : b ≠ 0) :
    ((s.propagate p was fuel).reg q F.PAGE_IRQ_STATUS.off).getLsbD b = (s.reg q F.PAGE_IRQ_STATUS.off).getLsbD b := by
  induction fuel generalizing s p was with
  | zero => rfl
  | succ fuel ih =>
    have hchanged : ∀ now, (s.outputChanged p now).reg q F.PAGE_IRQ_STATUS.off = s.reg q F.PAGE_IRQ_STATUS.off :=
      fun now => State.reg_outputChanged_header s p q now (by decide)
    rw [State.propagate]
    dsimp only
    split
    · rfl
    · split
      · rw [hchanged]
      · rw [ih, State.status_writeSummary _ _ _ _ hb, State.reg_setReg_off _ _ (by decide) (by decide) (by decide), hchanged]

theorem State.status_raise (s : State) (p : Page) {b : Nat} (hb : b ≠ 0) (hlt : b < 32) :
    ((s.raise p b).reg p F.PAGE_IRQ_STATUS.off).getLsbD b = true := by
  rw [State.raise, State.irqUpd, State.status_propagate _ _ _ _ _ hb]
  change ((s.setReg p F.PAGE_IRQ_STATUS.off _).reg p F.PAGE_IRQ_STATUS.off).getLsbD b = true
  rw [State.reg_setReg_same, BitVec.getLsbD_or, BitVec.getLsbD_ofNat, Nat.testBit_two_pow_self]
  simp [hlt]

/-! ### Commands on a table by index (R165, R167) -/

theorem exec_tblIdxWrite_at (h : s.reaches src idx (slicePg n)) :
    exec (.tblIdxWrite src idx val) s = .next (s.idxCmd n true val) := by
  change execTblIdxWrite src idx val s = _
  rw [execTblIdxWrite, State.accessKind_at _ h rfl]

theorem exec_tblIdxRead_at (h : s.reaches src idx (slicePg n)) :
    exec (.tblIdxRead src idx val) s = .next (s.idxCmd n false val) := by
  change execTblIdxRead src idx val s = _
  rw [execTblIdxRead, State.accessKind_at _ h rfl]

/-- An index command of an entry that exists and that it may write. -/
theorem State.idxCmd_taken {write : Bool} {size : Nat} (hs : tableSize (F.TBL_IDX_CMD_TABLE.of val) = some size)
    (hi : F.TBL_IDX_CMD_INDEX.of val < size) (hw : write = true → 2 ≤ F.TBL_IDX_CMD_TABLE.of val) :
    let w := (s.putRw (slicePg n) F.TBL_IDX_CMD.off val).bset (slicePg n) F.TBL_IDX_CMD_ERR false
    s.idxCmd n write val =
      if write then
        w.tableWrite n (F.TBL_IDX_CMD_TABLE.of val) (F.TBL_IDX_CMD_INDEX.of val) (w.words (slicePg n) F.TBL_IDX_DATA 4)
      else w.setWords (slicePg n) F.TBL_IDX_DATA 4 (w.tableRead n (F.TBL_IDX_CMD_TABLE.of val) (F.TBL_IDX_CMD_INDEX.of val)) := by
  have hok : (decide (F.TBL_IDX_CMD_INDEX.of val < size) && !(write && decide (F.TBL_IDX_CMD_TABLE.of val < 2))) = true := by
    rw [decide_eq_true hi]
    cases write with
    | false => rfl
    | true => rw [decide_eq_false (Nat.not_lt.mpr (hw rfl))]; rfl
  unfold State.idxCmd
  simp only [hs, hok, Bool.not_true, Bool.false_eq_true, if_false]

/-- An index command outside the tables, or a write of a table with commands of its own, only sets ERR. -/
theorem State.idxCmd_refused {write : Bool} (hbad : ∀ size, tableSize (F.TBL_IDX_CMD_TABLE.of val) = some size →
    size ≤ F.TBL_IDX_CMD_INDEX.of val ∨ write = true ∧ F.TBL_IDX_CMD_TABLE.of val < 2) :
    s.idxCmd n write val = (s.putRw (slicePg n) F.TBL_IDX_CMD.off val).bset (slicePg n) F.TBL_IDX_CMD_ERR true := by
  unfold State.idxCmd
  cases hs : tableSize (F.TBL_IDX_CMD_TABLE.of val) with
  | none => simp only [hs, Bool.not_false, if_true]
  | some size =>
    have hno : (decide (F.TBL_IDX_CMD_INDEX.of val < size) && !(write && decide (F.TBL_IDX_CMD_TABLE.of val < 2))) = false := by
      rcases hbad size hs with hout | ⟨rfl, hown⟩
      · rw [decide_eq_false (Nat.not_lt.mpr hout), Bool.false_and]
      · rw [decide_eq_true hown, Bool.and_self, Bool.not_true, Bool.and_false]
    simp only [hs, hno, Bool.not_false, if_true]

/-! ### Locks of tables (R166, R167) -/

theorem exec_tableLockRequest_at (h : s.reaches src idx (slicePg n)) :
    exec (.tableLockRequest src idx val) s = .next (s.lockWrite n val) := by
  change execTableLockRequest src idx val s = _
  rw [execTableLockRequest, State.accessKind_at _ h rfl]

theorem exec_tableLockRelease_at (h : s.reaches src idx (slicePg n)) :
    exec (.tableLockRelease src idx val) s = .next (s.lockWrite n val) := by
  change execTableLockRelease src idx val s = _
  rw [execTableLockRelease, State.accessKind_at _ h rfl]

theorem exec_tableLockGrant (s : State) (sl : Slice) (t : Fin 8) :
    exec (.tableLockGrant sl t) s = execTableLockGrant sl t s := rfl

theorem exec_tableLockTimeout (s : State) (sl : Slice) (t : Fin 8) :
    exec (.tableLockTimeout sl t) s = execTableLockTimeout sl t s := rfl

/-- Table `t`'s bit of an eight-bit field is set once it is added. -/
theorem bit_setTable (x : Nat) (t : Fin 8) : bit ((x ||| 2 ^ t.val) % 2 ^ 8) t.val = true := by
  rw [bit, Nat.testBit_mod_two_pow, Nat.testBit_or, Nat.testBit_two_pow_self, Bool.or_true, decide_eq_true t.isLt]
  rfl

/-- Table `t`'s bit of an eight-bit field is clear once it is masked out. -/
theorem bit_clearTable (x : Nat) (t : Fin 8) : bit ((x &&& (255 - 2 ^ t.val)) % 2 ^ 8) t.val = false := by
  have hmask : (255 - 2 ^ t.val).testBit t.val = false := by revert t; decide
  rw [bit, Nat.testBit_mod_two_pow, Nat.testBit_and, hmask, Bool.and_false, Bool.and_false]

theorem exec_tableLockGrant_requested (t : Fin 8) (hop : s.operates (slicePg sl.val) = true)
    (hreq : bit (s.fget (slicePg sl.val) F.TBL_ACCESS_LOCK_REQ) t.val = true) :
    ∃ u, exec (.tableLockGrant sl t) s = .next u ∧ u.granted sl.val t.val = true := by
  refine ⟨_, (exec_tableLockGrant s sl t).trans (State.ifOperates_on _ hop), ?_⟩
  rw [if_pos hreq, State.granted, State.fget_fset_same _ _ _ _ _ (by decide)]
  exact bit_setTable _ t

/-- The timeout's state: GRANTED and then REQ lose the table's bit, and the cause is raised. -/
theorem exec_tableLockTimeout_held (t : Fin 8) (hop : s.operates (slicePg sl.val) = true)
    (hheld : s.granted sl.val t.val = true) (hlim : s.fget (slicePg sl.val) F.TBL_LOCK_TIMEOUT_TIMEOUT ≠ 0) :
    ∃ u, exec (.tableLockTimeout sl t) s = .next u ∧ u.granted sl.val t.val = false ∧
      bit (u.fget (slicePg sl.val) F.TBL_ACCESS_LOCK_REQ) t.val = false ∧
      (u.reg (slicePg sl.val) F.PAGE_IRQ_STATUS.off).getLsbD 12 = true := by
  refine ⟨_, (exec_tableLockTimeout s sl t).trans (State.ifOperates_on _ hop), ?granted, ?req, ?cause⟩
  all_goals rw [if_pos ⟨hheld, hlim⟩]
  case granted =>
    rw [State.granted, State.fget_raise _ (by decide) (by simp),
      State.fget_fset_beside _ _ F.TBL_ACCESS_LOCK_REQ F.TBL_ACCESS_LOCK_GRANTED _ _ _ (by decide) rfl (by decide),
      State.fget_fset_same _ _ _ _ _ (by decide)]
    exact bit_clearTable _ t
  case req =>
    rw [State.fget_raise _ (by decide) (by simp), State.fget_fset_same _ _ _ _ _ (by decide)]
    exact bit_clearTable _ t
  case cause => exact State.status_raise _ _ (by decide) (by decide)

/-! ### Repair of a failed entry (R164, R166) -/

theorem exec_parityRepair (s : State) (sl : Slice) : exec (.parityRepair sl) s = execParityRepair sl s := rfl

/-- The entry repaired is the oldest failed one of a table that is not locked. -/
theorem exec_parityRepair_failed {x : Nat × Nat} (hop : s.operates (slicePg sl.val) = true)
    (hfail : (s.tab sl.val).repairs.find? (fun r => !(decide (r.1 < 8) && s.granted sl.val r.1)) = some x) :
    exec (.parityRepair sl) s = .next (s.repair sl.val x.1 x.2) := by
  rw [exec_parityRepair, execParityRepair, State.ifOperates_on _ hop, hfail]

/-- The first other copy of the die in which an entry has not failed (R164). -/
def State.repairDonor (s : State) (sl tid i : Nat) : Option Nat :=
  ((List.range 8).map (8 * sliceDie sl + ·)).find? (fun y => y ≠ sl ∧ !s.isBad y tid i)

theorem State.repair_copied {k tid i y : Nat} (hdonor : s.repairDonor k tid i = some y) :
    s.repair k tid i =
      ((s.setTab k (copyEntry (s.tab y) (s.tab k) tid i)).cadd (slicePg k) F.TBL_PARITY_REPAIRED).clearBad k tid i := by
  rw [State.repairDonor] at hdonor
  unfold State.repair
  simp only [hdonor]

theorem State.repair_invalidated {k tid i : Nat} (hdonor : s.repairDonor k tid i = none) :
    s.repair k tid i = (s.updTab k (fun t => clearValid t tid i)).clearBad k tid i := by
  rw [State.repairDonor] at hdonor
  unfold State.repair
  simp only [hdonor]

/-! ### Commands on TCAM rows (R132, R136, R137) -/

theorem exec_tcamValidate_at (h : s.reaches src idx (slicePg n)) :
    exec (.tcamValidate src idx val) s = .next (s.rowValid n val true) := by
  change execTcamValidate src idx val s = _
  rw [execTcamValidate, State.accessKind_at _ h rfl]

theorem exec_tcamInvalidate_at (h : s.reaches src idx (slicePg n)) :
    exec (.tcamInvalidate src idx val) s = .next (s.rowValid n val false) := by
  change execTcamInvalidate src idx val s = _
  rw [execTcamInvalidate, State.accessKind_at _ h rfl]

theorem exec_tcamWrite_at (h : s.reaches src idx (slicePg n)) :
    exec (.tcamWrite src idx val) s = .next (s.rowWrite n val) := by
  change execTcamWrite src idx val s = _
  rw [execTcamWrite, State.accessKind_at _ h rfl]

theorem exec_tcamRead_at (h : s.reaches src idx (slicePg n)) :
    exec (.tcamRead src idx val) s = .next (s.rowRead n val) := by
  change execTcamRead src idx val s = _
  rw [execTcamRead, State.accessKind_at _ h rfl]

theorem exec_tcamBlockCfgWrite_at (b : Fin 16) (h : s.reaches src idx (slicePg n)) :
    exec (.tcamBlockCfgWrite src idx b val) s = .next (s.blockCfgWrite n b.val val) := by
  change execTcamBlockCfgWrite src idx b val s = _
  rw [execTcamBlockCfgWrite, State.accessKind_at _ h rfl]

theorem exec_tcamRowOpDone (s : State) (sl : Slice) : exec (.tcamRowOpDone sl) s =
    s.ifOperates (slicePg sl.val) (s.bset (slicePg sl.val) F.TBL_TCAM_ROW_BUSY false) := rfl

theorem exec_tcamScrub (s : State) (sl : Slice) (flips : List TcamFlip) :
    exec (.tcamScrub sl flips) s = execTcamScrub sl flips s := rfl

@[simp] theorem State.setWords_tabs (s : State) (p : Page) (f : Fld) (k v : Nat) : (s.setWords p f k v).tabs = s.tabs :=
  List.foldlRecOn (List.range k) _ (motive := fun t : State => t.tabs = s.tabs) rfl
    fun _ ht _ _ => (State.setReg_tabs ..).trans ht

@[simp] theorem State.tcamRow_setWords (s : State) (p : Page) (f : Fld) (k v sl i : Nat) :
    (s.setWords p f k v).tcamRow sl i = s.tcamRow sl i := by
  rw [State.tcamRow, State.tab, State.setWords_tabs, State.tcamRow, State.tab]

/-- Settles O32, command by command; a row's commands by whether the row is its group's head and the head is valid. -/
theorem indexedTablesAndTcamAreCommanded : Obligations.IndexedTablesAndTcamAreCommanded := by
  refine ⟨⟨fun s src page n val h => ⟨fun size hs hi => ⟨fun ht => ?idxWrite, ?idxRead⟩, fun hout => ⟨?outWrite, ?outRead⟩,
      fun hown => ?ownCommands, exec_tableLockRequest_at h, exec_tableLockRelease_at h⟩,
    fun s sl t hop => ⟨exec_tableLockGrant_requested t hop, exec_tableLockTimeout_held t hop⟩, fun s sl x hop hfail => ?repair⟩,
    fun s src page n b val h => ⟨fun v => ?rowValid, ?rowWrite, ?rowRead, exec_tcamBlockCfgWrite_at b h⟩,
    fun s sl flips => ⟨fun hop => ?rowDone, exec_tcamScrub s sl flips⟩⟩
  case idxWrite => rw [exec_tblIdxWrite_at h, State.idxCmd_taken hs hi fun _ => ht, if_pos rfl]
  case idxRead => rw [exec_tblIdxRead_at h, State.idxCmd_taken hs hi (by simp), if_neg Bool.false_ne_true]
  case outWrite => rw [exec_tblIdxWrite_at h, State.idxCmd_refused fun size hs => .inl (hout size hs)]
  case outRead => rw [exec_tblIdxRead_at h, State.idxCmd_refused fun size hs => .inl (hout size hs)]
  case ownCommands => rw [exec_tblIdxWrite_at h, State.idxCmd_refused fun _ _ => .inr ⟨rfl, hown⟩]
  case repair =>
    rw [exec_parityRepair_failed hop hfail]
    cases hdonor : s.repairDonor sl.val x.1 x.2 with
    | some y =>
      rw [State.repair_copied hdonor]
      rw [State.repairDonor] at hdonor
      simp only [hdonor]
    | none =>
      rw [State.repair_invalidated hdonor]
      rw [State.repairDonor] at hdonor
      simp only [hdonor]
  case rowValid =>
    cases v with
    | true => exact exec_tcamValidate_at h
    | false => exact exec_tcamInvalidate_at h
  case rowWrite => exact exec_tcamWrite_at h
  case rowRead =>
    rw [exec_tcamRead_at h, State.rowRead]
    simp only [State.tcamRow_setWords]
  case rowDone => exact State.flag_ifOperates_clear hop (by decide) (by decide)

/-! ### Learning (R168, R170-R172, R174) -/

theorem exec_learnMoveWindowExpire (s : State) (d : Die) (bd : BitVec 14) (mac : BitVec 48) :
    exec (.learnMoveWindowExpire d bd mac) s = execLearnMoveWindowExpire d bd mac s := rfl

theorem exec_learnEventApply (s : State) (d : Die) : exec (.learnEventApply d) s = execLearnEventApply d s := rfl

theorem exec_learnUnpin (s : State) (d : Die) (bd : BitVec 14) (mac : BitVec 48) :
    exec (.learnUnpin d bd mac) s = execLearnUnpin d bd mac s := rfl

theorem exec_ageScan (s : State) (d : Die) : exec (.ageScan d) s = execAgeScan d s := rfl

/-- The deciding arbiter whose writes nothing holds passes the check before each of its acts. -/
theorem State.arbiterFree {d : Nat} (hm : s.lrnMaster d = true) (hfree : s.learnHeld d = false) :
    (!s.lrnMaster d || s.learnHeld d) = false := by
  rw [hm, hfree]; rfl

/-- Settles O38, act by act: nothing keeps the arbiter from acting, so each takes its last branch. -/
theorem learningFollowsItsRules : Obligations.LearningFollowsItsRules := by
  refine fun s d bd mac hop => ⟨?window, fun hm => ⟨fun x l hfree hfifo => ?event, fun hfree => ?unpin,
    fun hfree hage => ?scan⟩⟩
  case window => rw [exec_learnMoveWindowExpire, execLearnMoveWindowExpire, State.ifOperates_on _ hop]
  case event =>
    rw [exec_learnEventApply, execLearnEventApply, State.ifOperates_on _ hop]
    simp only [State.arbiterFree hm hfree, hfifo, Bool.false_eq_true, if_false]
  case unpin =>
    rw [exec_learnUnpin, execLearnUnpin, State.ifOperates_on _ hop]
    simp only [State.arbiterFree hm hfree, Bool.false_eq_true, if_false]
  case scan =>
    rw [exec_ageScan, execAgeScan, State.ifOperates_on _ hop]
    simp only [State.arbiterFree hm hfree, hage, decide_false, Bool.or_false, Bool.false_eq_true, if_false]

end Sys2Proof.Machine
end

section
/-!
PROOFS of the statements about the stroke engines (06_stroke_engines R182, R187, R189-R191, R195, R196, R202, R203): what the
ALU operation of a word leaves in its context, and how routines start, receive their data and locks, and commit.
-/
namespace Sys2Proof.Machine

/-! ### Contexts and their registers (R179, R187) -/

@[simp] theorem State.ctx_setCtx_same (s : State) (e k : Nat) (r : Option Routine) : (s.setCtx e k r).ctx e k = r := by
  simp [State.ctx, State.setCtx]

theorem Routine.reg_setReg (r : Routine) (i : Nat) (v : DWord) (k : Nat) :
    (r.setReg i v).reg k = if k = i ∧ k ≠ 0 then v else r.reg k := by
  by_cases hi : i = 0
  · subst hi
    rw [Routine.setReg, if_pos rfl, if_neg (by omega)]
  · by_cases hk : k = i
    · subst hk
      simp [Routine.setReg, Routine.reg, hi]
    · simp [Routine.setReg, Routine.reg, hi, hk, Sparse.get_set_other]

/-- Writing a register changes the registers alone. -/
theorem Routine.setReg_eq (r : Routine) (i : Nat) (v : DWord) : ∃ g, r.setReg i v = { r with regs := g } := by
  rw [Routine.setReg]
  split_ifs
  · exact ⟨r.regs, rfl⟩
  · exact ⟨_, rfl⟩

theorem Routine.setRegs_succ (r : Routine) (i n v : Nat) :
    r.setRegs i (n + 1) v = (r.setRegs i n v).setReg (i + n) (BitVec.ofNat 64 (v >>> (64 * n))) := by
  simp [Routine.setRegs, List.range_succ]

theorem Routine.setRegs_eq (r : Routine) (i n v : Nat) : ∃ g, r.setRegs i n v = { r with regs := g } := by
  induction n with
  | zero => exact ⟨r.regs, rfl⟩
  | succ n ih =>
    obtain ⟨g, hg⟩ := ih
    rw [Routine.setRegs_succ, hg]
    exact Routine.setReg_eq ..

/-- Consecutive registers read back the words of the number written to them; G0 stays zero. -/
theorem Routine.reg_setRegs (r : Routine) (i v : Nat) {n j : Nat} (hj : j < n) (h0 : i + j ≠ 0) :
    (r.setRegs i n v).reg (i + j) = BitVec.ofNat 64 (v / 2 ^ (64 * j)) := by
  induction n with
  | zero => omega
  | succ n ih =>
    rw [Routine.setRegs_succ, Routine.reg_setReg]
    by_cases hlast : j = n
    · subst hlast
      rw [if_pos ⟨rfl, h0⟩, Nat.shiftRight_eq_div_pow]
    · rw [if_neg (by omega), ih (by omega)]

/-! ### The value of an ALU operation (R191) -/

/-- A field that ends at bit 63 or below takes nothing from above the low 64 bits. -/
theorem extract_within (a hi : Nat) {p n : Nat} (h : p + n ≤ 64) :
    ((a + hi * 2 ^ 64) >>> p) % 2 ^ n = a / 2 ^ p % 2 ^ n := by
  obtain ⟨m, hm⟩ := Nat.exists_eq_add_of_le h
  have hpow : hi * 2 ^ 64 = 2 ^ p * (2 ^ n * (hi * 2 ^ m)) := by rw [hm]; ring
  rw [Nat.shiftRight_eq_div_pow, hpow, Nat.add_mul_div_left _ _ (by positivity), Nat.add_mul_mod_self_left]

theorem aluResult_ext {l : Latch} (hi : DWord) (h : l.b.toNat % 64 + (l.b.toNat / 256 % 64 + 1) ≤ 64) :
    aluResult 0xD l hi =
      (BitVec.ofNat 64 (l.a.toNat / 2 ^ (l.b.toNat % 64) % 2 ^ (l.b.toNat / 256 % 64 + 1)), true) := by
  rw [← extract_within l.a.toNat hi.toNat h]
  simp only [aluResult, Nat.shiftRight_eq_div_pow l.b.toNat 8, Nat.reducePow]

theorem aluResult_ins (l : Latch) (hi : DWord) :
    aluResult 0xE l hi = (BitVec.ofNat 64 (putBits l.old.toNat
      (min 63 (l.b.toNat % 64 + (l.b.toNat / 256 % 64 + 1) - 1)) (l.b.toNat % 64) l.a.toNat), true) := by
  simp only [aluResult, Nat.shiftRight_eq_div_pow l.b.toNat 8, Nat.reducePow]

/-! ### The end of a word (R189, R190) -/

/-- The address that follows a word whose ALU operation sets the flags `z` and `n` (R189). -/
def followAddr (w : Nat) (l : Latch) (z n : Bool) : Nat :=
  match mwFlow w with
  | 1 => if z then mwBtarget w else mwNext w
  | 2 => if z then mwNext w else mwBtarget w
  | 3 => if n then mwBtarget w else mwNext w
  | 4 => if l.hit then mwBtarget w else mwNext w
  | 5 => if l.hit then mwNext w else mwBtarget w
  | _ => mwNext w

/-- A routine whose word has completed: the ALU result, the flags and the next address. -/
def Routine.afterWord (r : Routine) (w : Nat) (l : Latch) (hi clash : DWord) : Routine :=
  let r' := { r.aluWrite w l hi clash with latch := none }
  { r' with pc := r'.following w l }

theorem Routine.following_of_flags (r : Routine) (l : Latch) {w : Nat} (h : mwAlu w ≠ 0) :
    r.following w l = followAddr w l r.z r.n := by
  unfold Routine.following followAddr
  generalize mwFlow w = f
  match f with
  | 0 | _ + 6 => rfl
  | 1 | 3 => simp [h]
  | 2 => cases r.z <;> simp [h]
  | 4 => rfl
  | 5 => cases l.hit <;> rfl

/-- No branch on Z or N is taken in a word whose ALU operation is NOP. -/
theorem Routine.following_of_nop (r : Routine) (l : Latch) {w : Nat} (h : mwAlu w = 0) :
    r.following w l =
      if (mwFlow w = 4 ∧ l.hit = true) ∨ (mwFlow w = 5 ∧ l.hit = false) then mwBtarget w else mwNext w := by
  unfold Routine.following
  split <;> simp_all

section Word

variable {s : State} {e k op : Nat} {ft : EccErr} {r : Routine} {l : Latch} {w : Nat} {v hi clash : DWord}

theorem Routine.aluWrite_nop (h : mwAlu w = 0) : r.aluWrite w l hi clash = r := by
  rw [Routine.aluWrite, if_pos h]

/-- An operation that gives flags only. -/
theorem Routine.aluWrite_flags (h0 : mwAlu w ≠ 0) (h : aluResult (mwAlu w) l hi = (v, false)) :
    r.aluWrite w l hi clash = { r with z := decide (v = 0), n := v.msb } := by
  simp [Routine.aluWrite, h0, h, BitVec.msb_eq_getLsbD_last]

/-- An operation that writes DST, in a word whose own read, and every pending one, leaves DST alone. -/
theorem Routine.aluWrite_value (h0 : mwAlu w ≠ 0) (h : aluResult (mwAlu w) l hi = (v, true)) (hp : r.pend = [])
    (hd : ¬ ((mwMem w = 1 ∨ mwMem w = 3) ∧ mwDst w = mwMemReg w)) :
    r.aluWrite w l hi clash = { r with z := decide (v = 0), n := v.msb }.setReg (mwDst w) v := by
  simp [Routine.aluWrite, h0, h, hp, hd, BitVec.msb_eq_getLsbD_last]

/-- A word that neither commits nor ends the routine leaves the routine in its context. -/
theorem State.ctx_aluStep (hl : r.latch = some l) (hc : mwCommit w = false) (hf : mwFlow w ≠ 6) :
    ∃ hi clash, (s.aluStep e k w r).ctx e k = some (r.afterWord w l hi clash) := by
  refine ⟨(s.draw 64).1, ((s.draw 64).2.draw 64).1, ?_⟩
  simp [State.aluStep, hl, hc, hf, Routine.afterWord]

/-- The ALU command of the operation that an issued word names completes the word. -/
theorem State.alu_of_issued (hr : s.ctx e k = some r) (hl : r.latch = some l) (hw : r.lockWait = none)
    (hc : r.committing = false) (hop : mwAlu (s.wordAt (e / 16) r.pc) = op) :
    s.alu op e k ft = s.aluStep e k (s.wordAt (e / 16) r.pc) r := by
  simp [State.alu, hr, hl, hw, hc, hop]

end Word

/-! ### What the command of a word leaves in its context (R187, R189, R191) -/

/-- What a command `c` that completes the word `w` with the value `v` leaves in context `k` of engine `e`: DST is `v`, the
flags are those of `v`, and every other register stays. -/
def WritesValue (s : State) (e k : Nat) (r : Routine) (l : Latch) (w : Nat) (c : Instr) (v : DWord) : Prop :=
  ∃ t r', exec c s = .next t ∧ t.ctx e k = some r' ∧ (∀ i, r'.reg i = if i = mwDst w ∧ i ≠ 0 then v else r.reg i) ∧
    r'.z = decide (v = 0) ∧ r'.n = v.msb ∧ r'.hit = r.hit ∧ r'.pc = followAddr w l (decide (v = 0)) v.msb

section Word

variable {s : State} {e k op : Nat} {ft : EccErr} {r : Routine} {l : Latch} {w : Nat} {v hi clash : DWord} {c : Instr}
  (hr : s.ctx e k = some r) (hl : r.latch = some l) (hlock : r.lockWait = none) (hcommit : r.committing = false)
  (hw : s.wordAt (e / 16) r.pc = w) (hplain : mwCommit w = false) (hflow : mwFlow w ≠ 6)
  (hexec : exec c s = .next (s.alu op e k ft)) (hop : mwAlu w = op)

include hr hl hlock hcommit hw hplain hflow hexec hop

theorem exec_alu_completes : ∃ t hi clash, exec c s = .next t ∧ t.ctx e k = some (r.afterWord w l hi clash) := by
  subst hw
  obtain ⟨hi, clash, hctx⟩ := State.ctx_aluStep (s := s) (e := e) (k := k) hl hplain hflow
  exact ⟨_, hi, clash, by rw [hexec, State.alu_of_issued hr hl hlock hcommit hop], hctx⟩

theorem exec_alu_writes (hp : r.pend = []) (hd : ¬ ((mwMem w = 1 ∨ mwMem w = 3) ∧ mwDst w = mwMemReg w)) (h0 : op ≠ 0)
    (hv : ∀ hi, aluResult op l hi = (v, true)) : WritesValue s e k r l w c v := by
  obtain ⟨t, hi, clash, ht, hctx⟩ := exec_alu_completes hr hl hlock hcommit hw hplain hflow hexec hop
  subst hop
  refine ⟨t, _, ht, hctx, ?_⟩
  obtain ⟨g, hg⟩ := Routine.setReg_eq { r with z := decide (v = 0), n := v.msb } (mwDst w) v
  have hreg := Routine.reg_setReg { r with z := decide (v = 0), n := v.msb } (mwDst w) v
  rw [Routine.afterWord, Routine.aluWrite_value h0 (hv hi) hp hd]
  rw [hg] at hreg ⊢
  exact ⟨hreg, rfl, rfl, rfl, Routine.following_of_flags _ _ h0⟩

theorem exec_alu_compares (h0 : op ≠ 0) (hv : ∀ hi, aluResult op l hi = (v, false)) :
    ∃ t r', exec c s = .next t ∧ t.ctx e k = some r' ∧ (∀ i, r'.reg i = r.reg i) ∧
      r'.z = decide (v = 0) ∧ r'.n = v.msb ∧ r'.pc = followAddr w l (decide (v = 0)) v.msb := by
  obtain ⟨t, hi, clash, ht, hctx⟩ := exec_alu_completes hr hl hlock hcommit hw hplain hflow hexec hop
  subst hop
  refine ⟨t, _, ht, hctx, ?_⟩
  rw [Routine.afterWord, Routine.aluWrite_flags h0 (hv hi)]
  exact ⟨fun _ => rfl, rfl, rfl, Routine.following_of_flags _ _ h0⟩

theorem exec_alu_nop (h0 : op = 0) :
    ∃ t r', exec c s = .next t ∧ t.ctx e k = some r' ∧ (∀ i, r'.reg i = r.reg i) ∧ r'.z = r.z ∧ r'.n = r.n ∧
      r'.pc = if (mwFlow w = 4 ∧ l.hit = true) ∨ (mwFlow w = 5 ∧ l.hit = false) then mwBtarget w else mwNext w := by
  obtain ⟨t, hi, clash, ht, hctx⟩ := exec_alu_completes hr hl hlock hcommit hw hplain hflow hexec hop
  subst hop
  refine ⟨t, _, ht, hctx, ?_⟩
  rw [Routine.afterWord, Routine.aluWrite_nop h0]
  exact ⟨fun _ => rfl, rfl, rfl, Routine.following_of_nop _ _ h0⟩

end Word

/-- Settles O33, from the value of each operation and what a word that writes, compares or does nothing leaves. -/
theorem aluOperationsCompute : Obligations.AluOperationsCompute := by
  intro s e k ft r l hr hl hlock hcommit hp w hplain hflow hd next p n writes
  have value {op : Nat} {c : Instr} {v : DWord} (hexec : exec c s = .next (s.alu op e k ft)) (h0 : op ≠ 0)
      (hv : ∀ hi, aluResult op l hi = (v, true)) (hop : mwAlu w = op) : writes c v :=
    exec_alu_writes hr hl hlock hcommit rfl hplain hflow hexec hop hp hd h0 hv
  refine ⟨?nop, ?mov, ?add, ?sub, ?and, ?or, ?xor, ?shl, ?shr, ?sar, ?cmp, ?min, ?max, ?ext, ?ins, ?mul, ?crc⟩
  case nop => exact fun hop => exec_alu_nop hr hl hlock hcommit rfl hplain hflow rfl hop rfl
  case mov | add | sub | and | or | xor | shl | shr | sar | min | max | mul | crc =>
    exact value rfl (by decide) (fun _ => rfl)
  case cmp =>
    intro hop
    obtain ⟨t, r', ht, hctx, hreg, hz, hn, hpc⟩ :=
      exec_alu_compares (c := .aluCmp e k ft) hr hl hlock hcommit rfl hplain hflow rfl hop (by decide) (fun _ => rfl)
    simp only [sub_eq_zero] at hz hpc
    exact ⟨t, r', ht, hctx, hreg, hz, hn, hpc⟩
  case ext => exact fun hop hin => value rfl (by decide) (fun hi => aluResult_ext hi hin) hop
  case ins => exact value rfl (by decide) (aluResult_ins l)

/-! ### Dispatch (R182-R184) -/

section Dispatch

variable {s : State} {sl : Slice} {u e k : Nat} {f : Frm} {x : Routine}
  (hhead : (s.startEvent sl.val).headFrm sl.val = some (u, f)) (hrun : (s.startEvent sl.val).csStarts sl.val = true)

include hhead hrun

theorem exec_engineDispatch_places (hplace : (s.startEvent sl.val).placeCtx sl.val = some (e, k)) :
    exec (.engineDispatch sl) s = .next ((s.startEvent sl.val).startRoutine sl.val e k u) := by
  change execEngineDispatch sl s = _
  simp only [execEngineDispatch, hhead, if_pos hrun, hplace]

theorem exec_engineDispatch_preempts (hplace : (s.startEvent sl.val).placeCtx sl.val = none)
    (hvictim : (s.startEvent sl.val).victim sl.val ((s.startEvent sl.val).urgency sl.val f.tc) = some (e, k, x)) :
    exec (.engineDispatch sl) s =
      .next (((s.startEvent sl.val).abandon e k (some 2) none).startRoutine sl.val e k u) := by
  change execEngineDispatch sl s = _
  simp only [execEngineDispatch, hhead, if_pos hrun, hplace, hvictim]

end Dispatch

/-! ### Data and locks (R190, R202) -/

/-- Data that arrives for a pending read is written to its registers, and the read ends. -/
theorem exec_memReadReturn_data {s u : State} {e : Engine} {k reg : Fin 32} {rep : ReadReport} {r : Routine} {p : Pending}
    {v : Nat} {hit : Option Bool} (hr : s.ctx e.val k.val = some r) (hp : r.pend.find? (fun p => p.reg = reg.val) = some p)
    (ha : (s.markBad (e.val / 16) rep.bad).arrive e.val k.val r p rep = (.data v hit, u)) :
    exec (.memReadReturn e k reg rep) s = .next (u.setCtx e.val k.val
      (some { r.setRegs p.reg p.count v with pend := r.pend.erase p, hit := hit.getD (r.setRegs p.reg p.count v).hit })) := by
  change execMemReadReturn e k reg rep s = _
  simp only [execMemReadReturn, hr, hp, ha]

/-- A context whose lock-table entry no context holds takes it. -/
theorem exec_lockGrant_free {s : State} {e : Engine} {k : Fin 32} {r : Routine} {x : Nat} (hr : s.ctx e.val k.val = some r)
    (hx : r.lockWait = some x) (hfree : s.lockHolder (e.val / 128) x = none) :
    exec (.lockGrant e k) s = .next (s.setCtx e.val k.val
      (some { r with locks := if r.locks.contains x then r.locks else x :: r.locks, lockWait := none })) := by
  change execLockGrant e k s = _
  simp only [execLockGrant, hr, Option.bind_some, hx, State.takeLock, hfree]

/-! ### Commit (R195, R196) -/

/-- With no foreign holder of a lock-table entry, no holder remains once the context's own entries are left out. -/
theorem filter_foreign_eq_nil (s : State) (d e k : Nat) (locks : List Nat)
    (h : ∀ x ∈ locks, ∀ h, s.lockHolder d x = some h → h.1 = e ∧ h.2.1 = k) :
    (locks.filterMap (fun x => (s.lockHolder d x).map (fun h => (x, h)))).filter
      (fun x => !(decide (x.2.1 = e) && decide (x.2.2.1 = k))) = [] := by
  rw [List.filter_eq_nil_iff]
  intro y hy
  obtain ⟨x, hx, hxy⟩ := List.mem_filterMap.mp hy
  obtain ⟨holder, hholder, rfl⟩ := Option.map_eq_some_iff.mp hxy
  obtain ⟨he, hk⟩ := h x hx holder hholder
  simp [he, hk]

/-- Settles O36, part by part: dispatch, the arrival of data, the grant of a lock, the commit, the end of a wait. -/
theorem routinesAreDispatchedAndCommit : Obligations.RoutinesAreDispatchedAndCommit := by
  refine ⟨?dispatch, ?data, ?lock, ?commit, ?expire⟩
  case dispatch =>
    intro s sl u f v hhead hrun
    exact ⟨fun e k => exec_engineDispatch_places hhead hrun, fun e k x => exec_engineDispatch_preempts hhead hrun⟩
  case data =>
    intro s e k reg rep r p hr hp v hit u ha
    refine ⟨_, _, exec_memReadReturn_data hr hp ha, State.ctx_setCtx_same .., rfl,
      fun j hj h0 => Routine.reg_setRegs r p.reg v hj h0, ?_⟩
    obtain ⟨g, hg⟩ := Routine.setRegs_eq r p.reg p.count v
    rw [hg]
  case lock =>
    intro s e k r x hr hx hfree
    refine ⟨_, _, exec_lockGrant_free hr hx hfree, State.ctx_setCtx_same .., rfl, ?_⟩
    dsimp only
    split_ifs with hmem
    · exact List.contains_iff_mem.mp hmem
    · exact List.mem_cons_self
  case commit =>
    intro s e k r hr hcommit hp hlocks
    change execRoutineCommit e k s = _
    simp only [execRoutineCommit, hr, hcommit, hp, filter_foreign_eq_nil s _ _ _ _ hlocks, List.isEmpty_nil, Bool.not_true,
      Bool.or_false, Bool.false_eq_true, if_false, List.foldl_nil, List.any_nil]
  case expire => exact fun s sl uid => rfl

end Sys2Proof.Machine
end

section
/-!
PROOFS of the statements about the shared buffer (07_shared_buffer R222, R227, R233, R234; 11_telemetry_accounting R334): what a
PFC frame does to the classes it names, and what a frame that its queue refuses is dropped with.
-/
namespace Sys2Proof.Machine

/-! ### PFC frames that a port receives (R233, R234) -/

/-- In UP a MAC control frame counts as a received frame of 64 bytes (R100). -/
theorem State.countControl_of_up {s : State} {p : Nat} (hup : s.portUp p = true) :
    s.countControl p = (s.cadd (portPg p) F.PORT_RX_FRAMES).cadd (portPg p) F.PORT_RX_BYTES 64 := if_pos hup

/-- Counting leaves the state of a port. -/
@[simp] theorem State.cadd_portUp (s : State) (pg : Page) (f : Fld) (n i p : Nat) :
    (s.cadd pg f n i).portUp p = s.portUp p := by
  rw [State.portUp, State.cadd_fget, State.portUp]

theorem exec_pfcRx (s : State) (p : Port) (enables : BitVec 8) (times : List (BitVec 16)) :
    exec (.pfcRx p enables times) s = .next (((s.countControl p.val).pfcRx p enables times).wakePort p.val) := rfl

/-- Settles O27: the frame is counted first, which leaves the port in UP and the fields that R233 reads. -/
theorem pauseHoldsItsClasses : Obligations.PauseHoldsItsClasses := by
  intro s p enables times c
  refine ⟨?received, ?expired⟩
  case received =>
    intro hup
    rw [exec_pfcRx, State.countControl_of_up hup, State.pfcRx]
    simp only [State.cadd_portUp, State.cadd_fget, hup, Bool.not_true, Bool.false_eq_true, if_false, List.isEmpty_iff]
  case expired => rfl

/-! ### A frame that its queue refuses (R227, R334) -/

/-- A received frame, of which the last byte is still to come, waits for admission to port 0, which is not in UP. -/
def admittingToDownPort : State := { State.reset with
  pins := { pwrgood := true, resetN := true }
  frames := [(1, some { target := some (.port 0) })]
  admits := [(0, [1])] }

/-- The queue depths with which the drops of a frame stand recorded. -/
def droppedDepths (uid : Nat) : Host.Outcome State Fault Refusal → List (Option Nat)
  | .next t => ((t.frm uid).map (fun f => f.dropped.map (fun x => x.2.2.depth))).getD []
  | _ => []

/-- The copy of a refused frame joined no queue, so its record shows no depth (R334). -/
theorem droppedDepths_frameAdmit_admittingToDownPort :
    droppedDepths 1 (exec (.frameAdmit 0 1) admittingToDownPort) = [none] := by decide

/-- Refutes O39: a frame that its queue refuses is dropped with the copy `Copy.refused`, which shows neither queue nor depth
(R334), where the statement drops it with the copy that would have been enqueued, which shows the depth of its queue. -/
theorem not_framesAreAdmittedOrDropped : ¬ Obligations.FramesAreAdmittedOrDropped := by
  intro h
  obtain ⟨-, hport⟩ := h.1 admittingToDownPort 0 1 { target := some (.port 0) } (by decide) (by decide) (by decide)
    (by decide) rfl (by decide)
  have hstated := congrArg (droppedDepths 1) (hport 0 rfl rfl)
  exact absurd (droppedDepths_frameAdmit_admittingToDownPort.symm.trans hstated) (by decide)

end Sys2Proof.Machine
end

section
/-!
PROOFS of the statements about the keel (09_keel_split R284-R292): which cell a die sends, what a cell that arrives does by its
kind and its fate, and how a sub-link trains, fails and is reported.
-/
namespace Sys2Proof.Machine

variable {s : State} {d : Die} {sub : SubLink} {c : KeelCell}

/-! ### Sending a cell (R285, R287, R288) -/

theorem exec_keelCellSend (s : State) (d : Die) (hold : EccErr) : exec (.keelCellSend d hold) s = execKeelCellSend d hold s := rfl

theorem exec_keelIdleSend (s : State) (d : Die) (i : IdleSend) : exec (.keelIdleSend d i) s = execKeelIdleSend d i s := rfl

theorem exec_keelCtrlResend (s : State) (d : Die) (num : Nat) : exec (.keelCtrlResend d num) s = execKeelCtrlResend d num s := rfl

section Send

variable {hold : EccErr} {i : Nat} (hop : s.operates (keelPg d.val) = true) (hup : s.dieUp d.val = true)
  (hflow : s.ctrlFlows d.val = true) (hsub : s.nextSub d.val none = some i)

include hop hup hflow hsub

theorem exec_keelCellSend_ctrl {m : CtrlOut} (hm : (s.keelOf d.val).ctrl.find? (fun m => m.sentOn.isNone) = some m) :
    exec (.keelCellSend d hold) s = .next (s.sendCtrlCell d.val i m) := by
  rw [exec_keelCellSend, execKeelCellSend, State.ifOperates_on _ hop]
  simp only [hup, hflow, hsub, hm, Bool.not_true, Bool.or_false, Bool.false_eq_true, if_false]

variable (hnone : (s.keelOf d.val).ctrl.find? (fun m => m.sentOn.isNone) = none)

include hnone

theorem exec_keelCellSend_data {x : Crossing} (hcredit : (s.keelOf d.val).used < 16384) (hjoined : s.apart d.val = false)
    (hx : (s.keelOf d.val).tx.find? s.cellReady = some x) :
    exec (.keelCellSend d hold) s = .next (match hold with
      | .ok => s.sendDataCell d.val i x
      | .corrected => (s.integrity d.val 10).sendDataCell d.val i x
      | .uncorr => (s.integrity d.val 11).loseCrossing d.val x false) := by
  rw [exec_keelCellSend, execKeelCellSend, State.ifOperates_on _ hop]
  cases hold <;>
    simp only [hup, hflow, hsub, hnone, hjoined, hx, ge_iff_le, Nat.not_le.mpr hcredit, decide_false, Bool.not_true,
      Bool.or_false, Bool.false_eq_true, if_false]

/-- Without a credit, or while frames do not cross, no data cell is sent. -/
theorem exec_keelCellSend_held (hheld : 16384 ≤ (s.keelOf d.val).used ∨ s.apart d.val = true) :
    exec (.keelCellSend d hold) s = .next s := by
  rw [exec_keelCellSend, execKeelCellSend, State.ifOperates_on _ hop]
  simp only [hup, hflow, hsub, hnone, Bool.not_true, Bool.or_false, Bool.false_eq_true, if_false]
  rw [if_pos (by simpa using hheld)]

end Send

/-- A cell takes up to 255 of the credits that are due with it; the rest stay due. -/
theorem State.putCell_due (s : State) (d sub : Nat) (body : CellBody) (bad : Bool) :
    ((s.putCell d sub body bad).2.keelOf d).due = (s.keelOf d).due - (s.putCell d sub body bad).1.credits := by
  rw [State.putCell, State.setKeel_keelOf]

theorem exec_keelIdleSend_sends {good : Bool} (hop : s.operates (keelPg d.val) = true) (hup : s.dieUp d.val = true)
    (hfree : s.forced d.val = false) (htx : s.subTx d.val sub.val = slActive ∨ s.subTx d.val sub.val = slSpare) :
    let r := s.putCell d.val sub.val .idle (!good)
    let u := r.2.emit (.keelCell d.val sub.val kIdle r.1.seq 0
      (cellBytes (cellHeader kIdle r.1.seq 0 0 0 0 0 0 r.1.credits 0) []))
    exec (.keelIdleSend d ⟨sub, good⟩) s = .next (u.landIdles (1 - d.val) sub.val (u.keelOf d.val).flight.length) := by
  have hserves : (s.subTx d.val sub.val = slActive || s.subTx d.val sub.val = slSpare : Bool) = true := by simpa using htx
  rw [exec_keelIdleSend, execKeelIdleSend, State.ifOperates_on _ hop]
  simp only [hup, hfree, hserves, Bool.not_true, Bool.or_false, Bool.false_eq_true, if_false]

theorem exec_keelCtrlResend_sends {num was q i : Nat} {m : CtrlOut} (hop : s.operates (keelPg d.val) = true)
    (hm : (s.keelOf d.val).ctrl.find? (fun m => m.num = num) = some m) (hsent : m.sentOn = some (was, q))
    (hsub : s.nextSub d.val (some was) = some i) :
    exec (.keelCtrlResend d num) s = .next ((s.sendCtrlCell d.val i m).cadd (keelPg d.val) F.KEEL_CTRL_RESENT) := by
  rw [exec_keelCtrlResend, execKeelCtrlResend, State.ifOperates_on _ hop]
  simp only [hm, hsent, hsub]

/-! ### A data cell arrives (R285, R286, R288) -/

theorem exec_keelCellRx (s : State) (d : Die) (sub : SubLink) (fate : CellFate) :
    exec (.keelCellRx d sub fate) s = execKeelCellRx d sub fate s := rfl

section Data

variable {uid idx : Nat} (hop : s.operates (keelPg d.val) = true) (hjoined : s.apart d.val = false)
  (harr : s.arriving d.val sub.val = some c) (hbody : c.body = .data uid idx)

include hop hjoined harr hbody

theorem exec_keelCellRx_lost : exec (.keelCellRx d sub .lost) s = .next (s.loseCell d.val c) := by
  rw [exec_keelCellRx, execKeelCellRx, State.ifOperates_on _ hop]
  simp only [hjoined, harr, hbody, Bool.false_eq_true, if_false, if_true]

theorem exec_keelCellRx_bad {x : Crossing}
    (hx : (((s.landed d.val c false).owe d.val).keelOf (1 - d.val)).tx.find? (fun y => y.uid = uid) = some x) :
    exec (.keelCellRx d sub .bad) s = .next (((s.landed d.val c false).owe d.val).loseCrossing (1 - d.val) x false) := by
  rw [exec_keelCellRx, execKeelCellRx, State.ifOperates_on _ hop]
  simp only [hjoined, harr, hbody, Bool.false_eq_true, reduceCtorEq, decide_false, hx, if_false, if_true]

theorem exec_keelCellRx_good :
    exec (.keelCellRx d sub .good) s = .next (
      let v := ((s.landed d.val c true).owe d.val).cadd (keelPg d.val) F.KEEL_RX_CELLS
      let k := v.keelOf (1 - d.val)
      (v.setKeel (1 - d.val) { k with tx := k.tx.map (fun y =>
        if y.uid = uid then { y with got := y.got + 1, first := y.first || idx = 0 } else y) }).admitCrossings d.val) := by
  rw [exec_keelCellRx, execKeelCellRx, State.ifOperates_on _ hop]
  simp only [hjoined, harr, hbody, Bool.false_eq_true, reduceCtorEq, decide_true, if_false]

end Data

/-! ### A control cell arrives (R287) -/

theorem exec_keelCtrlCellRx (s : State) (d : Die) (sub : SubLink) (fate : CellFate) :
    exec (.keelCtrlCellRx d sub fate) s = execKeelCtrlCellRx d sub fate s := rfl

section Ctrl

variable {num : Nat} {msg : Ctrl} (hop : s.operates (keelPg d.val) = true) (hflow : s.ctrlFlows d.val = true)
  (harr : s.arriving d.val sub.val = some c) (hbody : c.body = .ctrl num msg)

include hop hflow harr hbody

theorem exec_keelCtrlCellRx_lost : exec (.keelCtrlCellRx d sub .lost) s = .next (s.loseCell d.val c) := by
  rw [exec_keelCtrlCellRx, execKeelCtrlCellRx, State.ifOperates_on _ hop]
  simp only [hflow, harr, hbody, Bool.not_true, Bool.false_eq_true, if_false, if_true]

theorem exec_keelCtrlCellRx_bad : exec (.keelCtrlCellRx d sub .bad) s = .next (s.landed d.val c false) := by
  rw [exec_keelCtrlCellRx, execKeelCtrlCellRx, State.ifOperates_on _ hop]
  simp only [hflow, harr, hbody, Bool.not_true, Bool.false_eq_true, reduceCtorEq, decide_false, if_false, if_true]

theorem exec_keelCtrlCellRx_good :
    let v := s.landed d.val c true
    let k := v.keelOf d.val
    let known := decide (num < k.inNum) || k.inHold.any (fun m => m.1 = num)
    exec (.keelCtrlCellRx d sub .good) s = .next (((v.setKeel d.val { k with
      inHold := if known then k.inHold else k.inHold ++ [(num, msg)] }).sendAck d.val sub.val c.seq).ctrlDrain d.val
        (k.inHold.length + 1)) := by
  rw [exec_keelCtrlCellRx, execKeelCtrlCellRx, State.ifOperates_on _ hop]
  simp only [hflow, harr, hbody, Bool.not_true, Bool.false_eq_true, reduceCtorEq, decide_true, if_false]

end Ctrl

/-! ### An acknowledgement arrives (R287) -/

/-- The search of the numbers below `n` in their order ends at the first that has an answer. -/
theorem findSome?_range_eq_some {α : Type} {f : Nat → Option α} {n i : Nat} {a : α} (hi : i < n) (ha : f i = some a)
    (hbelow : ∀ j < i, f j = none) : (List.range n).findSome? f = some a := by
  induction n with
  | zero => exact absurd hi (Nat.not_lt_zero i)
  | succ n ih =>
    rw [List.range_succ, List.findSome?_append]
    rcases Nat.lt_succ_iff_lt_or_eq.mp hi with hlt | rfl
    · rw [ih hlt, Option.some_or]
    · rw [List.findSome?_eq_none_iff.mpr fun j hj => hbelow j (List.mem_range.mp hj)]
      simp [ha]

/-- The acknowledgement that arrives next on a receiver of a die, with the cell that it names. -/
def State.ackOn (s : State) (d i : Nat) : Option (KeelCell × Nat × Nat) :=
  (s.arriving d i).bind (fun c => match c.body with | .ack sub seq => some (c, sub, seq) | _ => none)

theorem State.ackOn_of_ack {d i a b : Nat} (harr : s.arriving d i = some c) (hbody : c.body = .ack a b) :
    s.ackOn d i = some (c, a, b) := by
  simp only [State.ackOn, harr, Option.bind_some, hbody]

theorem State.ackOn_eq_none {d i : Nat} (hother : ∀ x, s.arriving d i = some x → ∀ a b, x.body ≠ .ack a b) :
    s.ackOn d i = none := by
  unfold State.ackOn
  cases harr : s.arriving d i with
  | none => rfl
  | some x =>
    rw [Option.bind_some]
    split
    · next a b hbody => exact absurd hbody (hother x harr a b)
    · rfl

theorem exec_keelAckRx (s : State) (d : Die) (fate : CellFate) : exec (.keelAckRx d fate) s =
    s.ifOperates (keelPg d.val) (match (List.range 66).findSome? (s.ackOn d.val) with
      | none => s
      | some (c, sub, seq) =>
        if fate = .lost then s.loseCell d.val c else
        let u := s.landed d.val c (fate = .good)
        if fate = .bad then u else
        u.setKeel d.val { u.keelOf d.val with
          ctrl := (u.keelOf d.val).ctrl.filter (fun m => m.sentOn ≠ some (sub, seq)) }) := rfl

section Ack

variable {a b : Nat} (hop : s.operates (keelPg d.val) = true)
  (hfirst : (List.range 66).findSome? (s.ackOn d.val) = some (c, a, b))

include hop hfirst

theorem exec_keelAckRx_lost : exec (.keelAckRx d .lost) s = .next (s.loseCell d.val c) := by
  rw [exec_keelAckRx, State.ifOperates_on _ hop, hfirst]
  rfl

theorem exec_keelAckRx_bad : exec (.keelAckRx d .bad) s = .next (s.landed d.val c false) := by
  rw [exec_keelAckRx, State.ifOperates_on _ hop, hfirst]
  rfl

theorem exec_keelAckRx_good :
    let u := s.landed d.val c true
    exec (.keelAckRx d .good) s = .next (u.setKeel d.val { u.keelOf d.val with
      ctrl := (u.keelOf d.val).ctrl.filter (fun m => m.sentOn ≠ some (a, b)) }) := by
  rw [exec_keelAckRx, State.ifOperates_on _ hop, hfirst]
  rfl

end Ack

/-- Settles O44, cell by cell: what a die sends by what waits at it, and what an arriving cell does by its kind and its fate. -/
theorem keelCellsCarryFramesAndMessages : Obligations.KeelCellsCarryFramesAndMessages := by
  refine ⟨?send, ?idle, ?data, ?ctrl, ?ack, ?resend⟩
  case send =>
    intro s d sub hold hop hup hflow hsub
    exact ⟨fun m => exec_keelCellSend_ctrl hop hup hflow hsub,
      fun hnone hcredit hjoined x => exec_keelCellSend_data hop hup hflow hsub hnone hcredit hjoined,
      exec_keelCellSend_held hop hup hflow hsub⟩
  case idle =>
    intro s d sub good hop hup hfree htx
    exact ⟨rfl, State.putCell_due .., exec_keelIdleSend_sends hop hup hfree htx⟩
  case data =>
    intro s d sub c uid idx hop hjoined harr hbody
    exact ⟨exec_keelCellRx_lost hop hjoined harr hbody, fun x => exec_keelCellRx_bad hop hjoined harr hbody,
      exec_keelCellRx_good hop hjoined harr hbody⟩
  case ctrl =>
    intro s d sub c num msg hop hflow harr hbody
    exact ⟨exec_keelCtrlCellRx_lost hop hflow harr hbody, exec_keelCtrlCellRx_bad hop hflow harr hbody,
      exec_keelCtrlCellRx_good hop hflow harr hbody⟩
  case ack =>
    intro s d c a b i hop hi harr hbody hbelow
    have hfirst : (List.range 66).findSome? (s.ackOn d.val) = some (c, a, b) :=
      findSome?_range_eq_some hi (State.ackOn_of_ack harr hbody) fun j hj => State.ackOn_eq_none (hbelow j hj)
    exact ⟨exec_keelAckRx_lost hop hfirst, exec_keelAckRx_bad hop hfirst, exec_keelAckRx_good hop hfirst⟩
  case resend => exact fun s d num was q sub m => exec_keelCtrlResend_sends

/-! ### Training and failure of sub-links (R289-R292) -/

theorem exec_sublinkTrainStart (s : State) (d : Die) (i : SubLink) :
    exec (.sublinkTrainStart d i) s = execSublinkTrainStart d i s := rfl

theorem exec_sublinkTrained (s : State) (d : Die) (i : SubLink) : exec (.sublinkTrained d i) s = execSublinkTrained d i s := rfl

theorem exec_sublinkTrainTimeout (s : State) (d : Die) (i : SubLink) :
    exec (.sublinkTrainTimeout d i) s = execSublinkTrainTimeout d i s := rfl

theorem exec_sublinkFailDetect (s : State) (d : Die) (x : SubFailure) :
    exec (.sublinkFailDetect d x) s = execSublinkFailDetect d x s := rfl

theorem exec_peerPresenceChange (s : State) (d : Die) (present : Bool) :
    exec (.peerPresenceChange d present) s = .next (s.bset (keelPg d.val) F.KEEL_STATUS_PEER_PRESENT present) := rfl

theorem keelPg_peer_ne (d : Die) : keelPg (1 - d.val) ≠ keelPg d.val := by revert d; decide

theorem State.subRx_setSub (s : State) (d i : Nat) {st : Nat} (hst : st < 8) : (s.setSub d i st).subRx (1 - d) i = st := by
  rw [State.subRx, State.setSub, State.fget_fset_same _ _ _ _ _ (by decide)]
  exact Nat.mod_eq_of_lt hst

theorem State.subTx_setSub (s : State) (d : Die) (i : SubLink) {st : Nat} (hst : st < 8) :
    (s.setSub d.val i.val st).subTx d.val i.val = st := by
  have hoff : 0x200 + 4 * i.val < 65536 := by omega
  have hkey : (keelPg d.val).key (F.KEEL_SUBLINK_TX_STATE.at i.val) ≠ (keelPg (1 - d.val)).key (F.KEEL_SUBLINK_RX_STATE.at i.val) :=
    fun e => keelPg_peer_ne d ((Page.key_eq hoff hoff).mp e).1.symm
  rw [State.subTx, State.setSub, State.fget_fset_ne (h := hkey), State.fget_fset_same _ _ _ _ _ (by decide)]
  exact Nat.mod_eq_of_lt hst

section SubLinks

variable {i : SubLink} (hop : s.operates (keelPg d.val) = true)

include hop

theorem exec_sublinkTrainStart_trains (hbow : s.rolled 0 = true) (hstern : s.rolled 1 = true) (hfree : s.forced d.val = false)
    (hoff : s.subTx d.val i.val = slOff)
    (hretry : (s.keelOf d.val).retry.contains i.val = false ∨ s.flag (keelPg d.val) F.KEEL_CTRL_RETRY_EN = true) :
    ∃ t, exec (.sublinkTrainStart d i) s = .next t ∧ t.subTx d.val i.val = slTrain ∧ t.subRx (1 - d.val) i.val = slTrain := by
  have hmay : (!(s.keelOf d.val).retry.contains i.val || s.flag (keelPg d.val) F.KEEL_CTRL_RETRY_EN) = true := by
    rcases hretry with h | h <;> simp only [h, Bool.not_false, Bool.true_or, Bool.or_true]
  refine ⟨_, (exec_sublinkTrainStart s d i).trans (State.ifOperates_on _ hop), ?_⟩
  simp only [hbow, hstern, hfree, hoff, hmay, Bool.not_false, decide_true, Bool.and_self, if_true]
  exact ⟨State.subTx_setSub _ d i (by decide), State.subRx_setSub _ _ _ (by decide)⟩

theorem exec_sublinkTrainStart_idle (hon : s.subTx d.val i.val ≠ slOff) : exec (.sublinkTrainStart d i) s = .next s := by
  rw [exec_sublinkTrainStart, execSublinkTrainStart, State.ifOperates_on _ hop]
  simp only [hon, decide_false, Bool.false_and, Bool.and_false, Bool.false_eq_true, if_false]

theorem exec_sublinkTrained_training (htrain : s.subTx d.val i.val = slTrain) :
    exec (.sublinkTrained d i) s = .next (State.keelCounts (State.firstTraining (State.syncSeq (
      if (s.txIn d.val slActive).length < 64 then s.setSub d.val i.val slActive
      else match (s.keelOf d.val).trained, (s.txIn d.val slActive).getLast? with
        | false, some j => if i.val < j then (s.setSub d.val j slSpare).setSub d.val i.val slActive
          else s.setSub d.val i.val slSpare
        | _, _ => s.setSub d.val i.val slSpare) d.val i.val) d.val)) := by
  exact ((exec_sublinkTrained s d i).trans (State.ifOperates_on _ hop)).trans (congrArg _ (if_neg (not_not.mpr htrain)))

theorem exec_sublinkTrainTimeout_training (htrain : s.subTx d.val i.val = slTrain) :
    exec (.sublinkTrainTimeout d i) s = .next (((((s.setSub d.val i.val slFailed).subFailed d.val).subFailed
      (1 - d.val)).firstTraining d.val).powerDown d.val i.val).keelCounts := by
  rw [exec_sublinkTrainTimeout, execSublinkTrainTimeout, State.ifOperates_on _ hop, if_neg (not_not.mpr htrain)]

/-- A receiver in service declares its sub-link failed on a loss of lock or a silence, which the line shows, and on a gap or too
many errors as it has recorded them. -/
theorem exec_sublinkFailDetect_detects {cause : SubFault}
    (hrx : s.subRx d.val i.val = slActive ∨ s.subRx d.val i.val = slSpare)
    (hgap : cause = .gap → (s.keelOf d.val).gaps.contains i.val = true)
    (hcrc : cause = .crc → (s.keelOf d.val).crcOver.contains i.val = true) :
    exec (.sublinkFailDetect d ⟨i, cause⟩) s = .next
      (((((s.fset (keelPg d.val) F.KEEL_SUBLINK_RX_STATE slFailed i.val).subFailed d.val).clearFaults d.val i.val).sendCtrl d.val
        (.subFail i.val)).keelCounts) := by
  have hfault : s.subFault d.val i.val cause = true := by
    cases cause with
    | lock => rfl
    | silence => rfl
    | gap => exact hgap rfl
    | crc => exact hcrc rfl
  rw [exec_sublinkFailDetect, execSublinkFailDetect, State.ifOperates_on _ hop]
  dsimp only
  rw [if_pos ⟨hrx, hfault⟩]

end SubLinks

/-- Settles O45, command by command. -/
theorem subLinksTrainAndFail : Obligations.SubLinksTrainAndFail := by
  intro s d i present cause hop
  exact ⟨exec_sublinkTrainStart_trains hop, exec_sublinkTrainStart_idle hop, exec_sublinkTrained_training hop,
    exec_sublinkTrainTimeout_training hop, fun hrx hcause => exec_sublinkFailDetect_detects hop hrx hcause.1 hcause.2,
    _, exec_peerPresenceChange s d present, State.flag_bset_same _ _ _ _ _ (by decide) (by decide)⟩

end Sys2Proof.Machine
end

section
/-!
PROOFS of the statements about time (10_time R307, R321, R323, R324, R327, R328): PPS edges in and out, the calibration of a port,
the transmit stamp FIFO, and the comparators.
-/
namespace Sys2Proof.Machine

variable {s : State} {src : Source} {idx : PageIdx} {d : Nat}

/-! ### PPS and path calibration (R307, R323, R324) -/

theorem exec_ppsInEdge (s : State) (sub : BitVec 21) : exec (.ppsInEdge sub) s = execPpsInEdge sub s := rfl

theorem exec_ppsInMiss (s : State) (d : Die) : exec (.ppsInMiss d) s = execPpsInMiss d s := rfl

theorem exec_ppsOutRise (s : State) : exec .ppsOutRise s = execPpsOutRise s := rfl

theorem exec_ppsOutFall (s : State) : exec .ppsOutFall s = execPpsOutFall s := rfl

theorem exec_timePortCalDone (s : State) (p : Port) : exec (.timePortCalDone p) s = execTimePortCalDone p s := rfl

/-- Both units hold the edge's stamp before a servo moves either unit's time. -/
theorem exec_ppsInEdge_powered (sub : BitVec 21) (hpwr : s.pins.pwrgood = true) :
    exec (.ppsInEdge sub) s = .next ((((s.ppsHold 0 (s.ppsTime 0 sub.toNat)).ppsHold 1 (s.ppsTime 1 sub.toNat)).ppsServo 0
      (s.ppsTime 0 sub.toNat)).ppsServo 1 (s.ppsTime 1 sub.toNat)) := by
  rw [exec_ppsInEdge, execPpsInEdge, if_pos hpwr]

theorem exec_ppsInMiss_on {d : Die} (hop : s.operates (timePg d.val) = true) :
    exec (.ppsInMiss d) s = .next (s.raiseIf (s.flag (timePg d.val) F.TIME_PPS_CFG_IN_EN) (timePg d.val) 12) := by
  rw [exec_ppsInMiss, execPpsInMiss, State.ifOperates_on _ hop]

theorem exec_ppsOutRise_passed {n : Int} (hop : s.operates (timePg 0) = true) (hen : s.flag (timePg 0) F.TIME_PPS_CFG_OUT_EN = true)
    (hlow : (s.timeOf 0).ppsOut = false) (hpassed : s.ppsPassed = some n) (hnew : (s.timeOf 0).ppsSecond ≠ some n) :
    exec .ppsOutRise s = .next ((s.setTime 0 { s.timeOf 0 with
      ppsOut := true, ppsSecond := some n, ppsRise := (s.timeOf 0).mono }).emit (.pin 2 true)) := by
  rw [exec_ppsOutRise, execPpsOutRise, State.ifOperates_on _ hop, hpassed]
  simp only [hen, hlow, hnew, ne_eq, not_false_eq_true, decide_true, Bool.not_false, Bool.and_self, if_true]

theorem exec_ppsOutFall_due (hop : s.operates (timePg 0) = true) (hhigh : (s.timeOf 0).ppsOut = true)
    (hdue : (s.timeOf 0).ppsRise + s.fget (timePg 0) F.TIME_PPS_CFG_WIDTH_US * 1000 * nsUnits * fineUnit ≤ (s.timeOf 0).mono) :
    exec .ppsOutFall s = .next ((s.setTime 0 { s.timeOf 0 with ppsOut := false }).emit (.pin 2 false)) := by
  rw [exec_ppsOutFall, execPpsOutFall, State.ifOperates_on _ hop]
  simp only [hhigh, hdue, decide_true, Bool.and_self, if_true]

theorem exec_timePortCalDone_up {p : Port} (hop : s.operates (timePg (portDie p.val)) = true) (hup : s.portUp p.val = true) :
    exec (.timePortCalDone p) s = .next (s.bset (portPg p.val) F.TIME_PORT_CAL_DONE true) := by
  rw [exec_timePortCalDone, execTimePortCalDone, State.ifOperates_on _ hop, if_pos hup]

/-! ### The transmit stamp FIFO (R321) -/

@[simp] theorem State.bset_timeOf (s : State) (p : Page) (f : Fld) (b : Bool) (i d : Nat) :
    (s.bset p f b i).timeOf d = s.timeOf d := by
  rw [State.timeOf, State.bset_times, State.timeOf]

@[simp] theorem State.emit_timeOf (s : State) (o : Output) (d : Nat) : (s.emit o).timeOf d = s.timeOf d := rfl

@[simp] theorem State.setReg_timeOf (s : State) (p : Page) (off : Nat) (v : Word) (d : Nat) :
    (s.setReg p off v).timeOf d = s.timeOf d := by
  rw [State.timeOf, State.setReg_times, State.timeOf]

@[simp] theorem State.setPair_timeOf (s : State) (p : Page) (lo hi : Fld) (v d : Nat) :
    (s.setPair p lo hi v).timeOf d = s.timeOf d := by
  rw [State.setPair, State.setReg_timeOf, State.setReg_timeOf]

theorem exec_txstampPop_at (h : s.reaches src idx (timePg d)) : exec (.txstampPop src idx) s =
    .next (((s.popStamp (timePg d)).emit (.readData src idx.toNat F.TIME_TXSTAMP_META.off
      ((s.popStamp (timePg d)).reg (timePg d) F.TIME_TXSTAMP_META.off))).bset (timePg d) F.TIME_TXSTAMP_META_VALID false) := by
  change execTxstampPop src idx s = _
  rw [execTxstampPop, State.access_at _ h, if_pos rfl]

theorem State.popStamp_empty (hempty : (s.timeOf d).txFifo = []) :
    s.popStamp (timePg d) = s.bset (timePg d) F.TIME_TXSTAMP_META_VALID false := by
  rw [State.popStamp, hempty]

section
variable {x : TxStamp} {l : List TxStamp} (hfifo : (s.timeOf d).txFifo = x :: l)
include hfifo

theorem State.popStamp_head : s.popStamp (timePg d) =
    ((s.setTime d { s.timeOf d with txFifo := l }).setReg (timePg d) F.TIME_TXSTAMP_META.off
      (BitVec.ofNat 32 (2 ^ 31 + fieldAt x.port 29 20 + fieldAt x.msgType 19 16 + fieldAt x.seqId 15 0))).setPair (timePg d)
        F.TIME_TXSTAMP_LO F.TIME_TXSTAMP_HI x.stamp.toNat := by
  rw [State.popStamp, hfifo]

theorem State.txFifo_popStamp : ((s.popStamp (timePg d)).timeOf d).txFifo = l := by
  rw [State.popStamp_head hfifo, State.setPair_timeOf, State.setReg_timeOf, State.setTime_timeOf]

theorem State.out_popStamp : (s.popStamp (timePg d)).out = s.out := by
  rw [State.popStamp_head hfifo, State.setPair, State.setReg_out, State.setReg_out, State.setReg_out, State.setTime_out]

theorem State.stampMeta_popStamp : (s.popStamp (timePg d)).reg (timePg d) F.TIME_TXSTAMP_META.off =
    BitVec.ofNat 32 (2 ^ 31 + fieldAt x.port 29 20 + fieldAt x.msgType 19 16 + fieldAt x.seqId 15 0) := by
  rw [State.popStamp_head hfifo, State.setPair, State.reg_setReg_off _ _ (by decide) (by decide) (by decide),
    State.reg_setReg_off _ _ (by decide) (by decide) (by decide), State.reg_setReg_same]

theorem State.stampLow_popStamp :
    (s.popStamp (timePg d)).reg (timePg d) F.TIME_TXSTAMP_LO.off = x.stamp.setWidth 32 := by
  rw [State.popStamp_head hfifo, State.setPair, State.reg_setReg_off _ _ (by decide) (by decide) (by decide),
    State.reg_setReg_same, BitVec.ofNat_toNat]

end

/-! ### Comparators (R327, R328) -/

theorem exec_cmpArmWrite_at (n : Fin 32) (val : Word) (h : s.reaches src idx (timePg d)) :
    exec (.cmpArmWrite src idx n val) s = .next (s.cmpArm (timePg d) n.val val) := by
  change execCmpArmWrite src idx n val s = _
  rw [execCmpArmWrite, State.accessKind_at _ h rfl]

theorem exec_cmpFire (s : State) (d : Die) (n : Fin 32) : exec (.cmpFire d n) s = execCmpFire d n s := rfl

section
variable {n : Nat} {val : Word}

theorem State.cmpArm_refused (harm : F.TIME_CMP_CFG_ARM.of val = 1) (hper : F.TIME_CMP_CFG_PERIODIC.of val = 1)
    (hshort : s.cmpPeriod d n < 1000) : s.cmpArm (timePg d) n val = s.errCount (timePg d) := by
  rw [State.cmpArm, if_pos ⟨harm, hper, hshort⟩]

theorem State.cmpArm_disarm (harm : F.TIME_CMP_CFG_ARM.of val = 0) :
    s.cmpArm (timePg d) n val = s.putRw (timePg d) (F.TIME_CMP_CFG.at n) val := by
  rw [State.cmpArm, if_neg (by simp [harm]), if_pos harm]

theorem State.cmpArm_oneShot (harm : F.TIME_CMP_CFG_ARM.of val = 1) (hper : F.TIME_CMP_CFG_PERIODIC.of val = 0) :
    s.cmpArm (timePg d) n val = ((s.putRw (timePg d) (F.TIME_CMP_CFG.at n) val).setCmp d n {}).cmpBase d n := by
  rw [State.cmpArm, if_neg (by simp [hper]), if_neg (by simp [harm])]

end

theorem exec_cmpFire_due {d : Die} {n : Fin 32} (hop : s.operates (timePg d.val) = true) (hpwr : s.pins.pwrgood = true)
    (harmed : s.flag (timePg d.val) F.TIME_CMP_CFG_ARM n.val = true) (hdue : s.cmpTarget d.val n.val ≤ s.nowNs d.val) :
    exec (.cmpFire d n) s = .next (s.cmpFire d.val n.val) := by
  rw [exec_cmpFire, execCmpFire, State.ifOperates_on _ hop]
  simp only [hpwr, harmed, hdue, decide_true, Bool.and_self, if_true]

/-- A firing that no step caused sets FIRED and carries out the actions; PERIODIC is then read as the actions leave it. -/
theorem State.cmpFire_oneShot {n : Nat} (hpassed : (s.cmpOf d n).stepped = false) :
    let u := (((s.bset (timePg d) F.TIME_CMP_STATUS_FIRED true n).cmpActions d n (s.cmpTarget d n) false).cmpGates d n
      (s.cmpTarget d n)).setCmp d n { s.cmpOf d n with stepped := false }
    u.flag (timePg d) F.TIME_CMP_CFG_PERIODIC n = false → s.cmpFire d n = u.bset (timePg d) F.TIME_CMP_CFG_ARM false n := by
  intro u honce
  simp only [State.cmpFire, hpassed, Bool.false_eq_true, if_false]
  exact if_pos (by rw [Bool.not_eq_true']; exact honce)

/-- Settles O48: the pulses and the calibration, then the stamp FIFO and the arming of comparators, then their firing. -/
theorem pulsesStampsAndComparators : Obligations.PulsesStampsAndComparators := by
  refine ⟨?pulses, ?page, ?fires, ?oneShot⟩
  case pulses =>
    intro s sub d p n hpwr hop hbow hdie
    refine ⟨exec_ppsInEdge_powered sub hpwr, fun hen => ?missed, fun hdis => ?unwatched,
      exec_ppsOutRise_passed hbow, exec_ppsOutFall_due hbow, fun hup => ?calibrated⟩
    case missed => rw [exec_ppsInMiss_on hop, hen]; rfl
    case unwatched => rw [exec_ppsInMiss_on hop, hdis]; rfl
    case calibrated =>
      exact ⟨_, exec_timePortCalDone_up (hdie ▸ hop) hup, State.flag_bset_same _ _ _ _ _ (by decide) (by decide)⟩
  case page =>
    intro s src page d hat
    have hinvalid (u : State) :
        (u.bset (timePg d) F.TIME_TXSTAMP_META_VALID false).flag (timePg d) F.TIME_TXSTAMP_META_VALID = false :=
      State.flag_bset_same _ _ _ _ _ (by decide) (by decide)
    refine ⟨fun x l hfifo => ⟨_, exec_txstampPop_at hat, ?left, ?answer, ?stamp, hinvalid _⟩,
      fun hempty => ⟨_, exec_txstampPop_at hat, ?none, hinvalid _⟩, fun n val => ⟨?refused, ?disarms, ?arms⟩⟩
    case left => rw [State.bset_timeOf, State.emit_timeOf, State.txFifo_popStamp hfifo]
    case answer => rw [State.bset_out, State.emit_out, State.stampMeta_popStamp hfifo, State.out_popStamp hfifo]
    case stamp =>
      rw [State.bset, State.fset, State.reg_setReg_off _ _ (by decide) (by decide) (by decide), State.emit_reg,
        State.stampLow_popStamp hfifo]
    case none => rw [State.bset_timeOf, State.emit_timeOf, State.popStamp_empty hempty, State.bset_timeOf, hempty]
    case refused => exact fun harm hper hshort => by rw [exec_cmpArmWrite_at n val hat, State.cmpArm_refused harm hper hshort]
    case disarms => exact fun harm => by rw [exec_cmpArmWrite_at n val hat, State.cmpArm_disarm harm]
    case arms => exact fun harm hper => by rw [exec_cmpArmWrite_at n val hat, State.cmpArm_oneShot harm hper]
  case fires => exact fun s d n hop hpwr harmed hdue => exec_cmpFire_due hop hpwr harmed hdue
  case oneShot => exact fun s d n _ hpassed => State.cmpFire_oneShot hpassed

end Sys2Proof.Machine
end

section
/-!
PROOFS of the statements about telemetry and accounting (11_telemetry_accounting R343, R344, R348, R350-R357, R360, R361):
triggers of snapshots and dumps, the cut of a bank, its settle time and its slot, the accounting page, dumps, and collectors.
-/
namespace Sys2Proof.Machine

variable {s : State} {src : Source} {idx : PageIdx} {val : Word} {p : Page} {d : Nat}

/-! ### Triggers (R52, R354, R355) -/

theorem exec_interimSnapshotTrigger_at (h : s.reaches src idx p) :
    exec (.interimSnapshotTrigger src idx) s = .next (s.snapTrigger p) := by
  change execInterimSnapshotTrigger src idx s = _
  rw [execInterimSnapshotTrigger, State.access_at _ h]

theorem exec_pmcDumpTrigger_at (h : s.reaches src idx p) :
    exec (.pmcDumpTrigger src idx) s = .next (s.snapTrigger p) := by
  change execPmcDumpTrigger src idx s = _
  rw [execPmcDumpTrigger, State.access_at _ h]

/-- While a snapshot waits a TRIGGER is counted; with accounting off it does nothing. -/
theorem State.snapTrigger_acct (s : State) (d : Nat) : s.snapTrigger (acctPg d) =
    if s.snapBusy d then s.errCount (acctPg d)
    else if s.flag (acctPg d) F.ACCT_CFG_EN then s.setAcct d { s.acctOf d with interim := some { (s.acctOf d).bank with
      interim := true, stop := s.stamp d, cut := s.stamp d, split := s.split d } }
    else s := by
  rw [State.snapTrigger, if_pos rfl, State.interim]
  cases s.flag (acctPg d) F.ACCT_CFG_EN <;> rfl

theorem State.snapTrigger_dump (hk : p.kind ≠ .acct) : s.snapTrigger p =
    if s.dumpCovers p then s.errCount p else (s.diesBelow p).foldl (fun s d => s.cutDump d (some p) false) s := by
  rw [State.snapTrigger, if_neg hk]

/-- Settles O16: a TRIGGER acts by the kind of the page it reaches. -/
theorem snapshotTriggersCutDumps : Obligations.SnapshotTriggersCutDumps :=
  ⟨fun s _ _ d h => by rw [exec_interimSnapshotTrigger_at h, State.snapTrigger_acct s d],
    fun _ _ _ _ h hk => by rw [exec_pmcDumpTrigger_at h, State.snapTrigger_dump hk]⟩

/-! ### The cut of a settling bank and its settle time (R350, R351) -/

theorem exec_bankCut (s : State) (d : Die) : exec (.bankCut d) s = execBankCut d s := rfl

/-- A bank that settles on a die that is up, with no frame of it outstanding there. -/
theorem exec_bankCut_settled {d : Die} (hop : s.operates (acctPg d.val) = true) (hup : s.dieUp d.val = true)
    (hset : (s.acctOf d.val).settling.isSome = true) (hnone : s.outstanding d.val = 0) : exec (.bankCut d) s = .next (if s.split d.val then s.cutBank d.val
      else if s.outstanding (1 - d.val) ≠ 0 then s else (s.cutBank d.val).cutBank (1 - d.val)) := by
  have hsettled : (!s.dieUp d.val || (s.acctOf d.val).settling.isNone || s.outstanding d.val != 0) = false := by
    rw [hup, Option.isNone_eq_false_iff.mpr hset, hnone]
    rfl
  rw [exec_bankCut, execBankCut, State.ifOperates_on _ hop, hsettled, if_neg Bool.false_ne_true]

/-- A die's frames with an ingress stamp in the bank that settles. -/
def State.settlingFrames (s : State) (d : Nat) (a : AcctSt) : List (Nat × Frm) := s.bankFrames d (fun f => a.inSettling f.stamp)

/-- The frames that those frames are passes of, each once. -/
def State.settlingRoots (s : State) (d : Nat) (a : AcctSt) : List Nat :=
  ((s.settlingFrames d a).map (fun x => x.2.rootOf x.1)).eraseDups

theorem exec_settleTimeout (s : State) (d : Die) : exec (.settleTimeout d) s = execSettleTimeout d s := rfl

/-- The frames of the bank are aged; those that left the die for it are counted in the bank and on the page. -/
theorem exec_settleTimeout_settling {d : Die} {b : Bank} (hop : s.operates (acctPg d.val) = true)
    (hset : (s.acctOf d.val).settling = some b) :
    let a := s.acctOf d.val
    let u := (s.settlingFrames d.val a).foldl (fun s x => s.ageFrame d.val x.1) s
    let n := ((s.settlingRoots d.val a).filter (fun r => !(u.settlingRoots d.val a).contains r)).length
    exec (.settleTimeout d) s = .next (if n = 0 then u else
      ((u.setAcct d.val { u.acctOf d.val with settling := (u.acctOf d.val).settling.map (fun b =>
        { b with discarded := true, settleDiscards := b.settleDiscards + n }) }).cadd (acctPg d.val)
          F.ACCT_SETTLE_DISCARDS n).raise (acctPg d.val) 10) := by
  rw [exec_settleTimeout, execSettleTimeout, State.ifOperates_on _ hop, hset]
  rfl

/-! ### Slots of the snapshot ring (R353) -/

/-- The writes of a bank's slot that are still to make. -/
def State.slotWrites (s : State) (d : Nat) (b : Bank) : List (Nat × List Byte) :=
  if (s.acctOf d).writes = [] then
    b.slot d ((s.reg (acctPg d) F.PAGE_SNAPSHOT_EPOCH.off).toNat + 1)
      (s.pairOf (acctPg d) F.ACCT_SNAP_BASE_LO F.ACCT_SNAP_BASE_HI +
        (s.fget (acctPg d) F.ACCT_SNAP_PROD_INDEX % ringSlots (s.fget (acctPg d) F.ACCT_SNAP_RING_K)) * 0x101000)
  else (s.acctOf d).writes

theorem exec_snapshotWritten (s : State) (d : Die) (walks : List Walk) :
    exec (.snapshotWritten d walks) s = execSnapshotWritten d walks s := rfl

/-- The write engine after it gave a bank's slot the turn, `none` while the bank is not ready or another queue goes first. -/
def State.slotTurn (s : State) (d : Nat) (b : Bank) : Option State :=
  if s.bankReady d then s.writeTurn d true true snapQueue (snapUnits (s.slotWrites d b)) else none

theorem State.slotTurn_full (b : Bank) (hfull : s.snapFull d = true) : s.slotTurn d b = none := by
  rw [State.slotTurn, State.bankReady, hfull, Bool.not_true, Bool.and_false, if_neg Bool.false_ne_true]

/-- A bank that waits is ready with the host up, its stream not suspended, room in the ring, and no retry time to run: an interim
copy does not wait for it. -/
theorem State.slotTurn_ready {b : Bank} (hnext : (s.acctOf d).next = some b) (hhost : s.hostUp d = true)
    (hsus : s.isSuspended d (· == .snapshot) = false) (hroom : s.snapFull d = false)
    (hwait : (s.acctOf d).wait = false ∨ (s.acctOf d).interim.isSome = true) :
    s.slotTurn d b = s.writeTurn d true true snapQueue (snapUnits (s.slotWrites d b)) := by
  have hgo : ((s.acctOf d).wait && (s.acctOf d).interim.isNone) = false := by
    rcases hwait with hw | hi
    · rw [hw, Bool.false_and]
    · rw [Option.isNone_eq_false_iff.mpr hi, Bool.and_false]
  have hready : s.bankReady d = true := by
    simp only [State.bankReady, hnext, hhost, hsus, hroom, hgo, Option.isSome_some, Bool.not_false, Bool.and_self]
  rw [State.slotTurn, if_pos hready]

section
variable {d : Die} {walks : List Walk} {b : Bank} (hop : s.operates (acctPg d.val) = true)
  (hnext : (s.acctOf d.val).next = some b)
include hop hnext

theorem exec_snapshotWritten_noTurn (hturn : s.slotTurn d.val b = none) : exec (.snapshotWritten d walks) s = .next s := by
  simp only [State.slotTurn, State.slotWrites] at hturn
  rw [exec_snapshotWritten, execSnapshotWritten, State.ifOperates_on _ hop, hnext]
  simp only [List.isEmpty_iff, hturn]

theorem exec_snapshotWritten_turn {u : State} (hturn : s.slotTurn d.val b = some u) :
    let r := u.dmaWrites d.val .snapshot (u.fget (acctPg d.val) F.ACCT_SNAP_RING_SPACE) (s.slotWrites d.val b) walks
    exec (.snapshotWritten d walks) s = .next (if r.1.isEmpty then r.2.2.slotDone d.val b
      else r.2.2.setAcct d.val { r.2.2.acctOf d.val with writes := r.1 }) := by
  simp only [State.slotTurn, State.slotWrites] at hturn
  rw [exec_snapshotWritten, execSnapshotWritten, State.ifOperates_on _ hop, hnext]
  simp only [List.isEmpty_iff, hturn, State.slotWrites]

end

/-! ### Commands on an accounting page (R348, R353, R357) -/

@[simp] theorem State.putRw_acctOf (s : State) (p : Page) (off : Nat) (v : Word) (d : Nat) :
    (s.putRw p off v).acctOf d = s.acctOf d := by
  obtain ⟨r, hr⟩ := s.putRw_eq p off v
  rw [hr, State.acctOf, State.acctOf]

@[simp] theorem State.putRw_telOf (s : State) (p : Page) (off : Nat) (v : Word) (d : Nat) :
    (s.putRw p off v).telOf d = s.telOf d := by
  obtain ⟨r, hr⟩ := s.putRw_eq p off v
  rw [hr, State.telOf, State.telOf]

theorem exec_acctSnapConsWrite_at (h : s.reaches src idx (acctPg d)) :
    exec (.acctSnapConsWrite src idx val) s = .next (s.putRw (acctPg d) F.ACCT_SNAP_CONS.off val) := by
  change execAcctSnapConsWrite src idx val s = _
  rw [execAcctSnapConsWrite, State.accessKind_at _ h rfl]

theorem exec_acctWeightWrite_at (h : s.reaches src idx (acctPg d)) :
    exec (.acctWeightWrite src idx val) s = .next (s.weightCmd (acctPg d) (F.ACCT_WT_ADDR_OP.put val 1)) := by
  change execAcctWeightWrite src idx val s = _
  rw [execAcctWeightWrite, State.accessKind_at _ h rfl]

theorem exec_acctWeightRead_at (h : s.reaches src idx (acctPg d)) :
    exec (.acctWeightRead src idx val) s = .next (s.weightCmd (acctPg d) (F.ACCT_WT_ADDR_OP.put val 2)) := by
  change execAcctWeightRead src idx val s = _
  rw [execAcctWeightRead, State.accessKind_at _ h rfl]

theorem exec_acctLiveRead_at (h : s.reaches src idx (acctPg d)) :
    exec (.acctLiveRead src idx val) s = .next (s.liveRead (acctPg d) (F.ACCT_LIVE_ADDR_OP.put val 2)) := by
  change execAcctLiveRead src idx val s = _
  rw [execAcctLiveRead, State.accessKind_at _ h rfl]

theorem weightTenant_put (val : Word) (op : Nat) :
    F.ACCT_WT_ADDR_TENANT.of (F.ACCT_WT_ADDR_OP.put val op) = F.ACCT_WT_ADDR_TENANT.of val :=
  Fld.of_put_ne _ _ _ _ (by decide) (by decide)

theorem liveTenant_put (val : Word) (op : Nat) :
    F.ACCT_LIVE_ADDR_TENANT.of (F.ACCT_LIVE_ADDR_OP.put val op) = F.ACCT_LIVE_ADDR_TENANT.of val :=
  Fld.of_put_ne _ _ _ _ (by decide) (by decide)

theorem State.weightCmd_write (s : State) (d : Nat) (val : Word) :
    let a := s.putRw (acctPg d) F.ACCT_WT_ADDR.off (F.ACCT_WT_ADDR_OP.put val 1)
    s.weightCmd (acctPg d) (F.ACCT_WT_ADDR_OP.put val 1) = a.setAcct d { s.acctOf d with
      weights := (s.acctOf d).weights.set 0 (F.ACCT_WT_ADDR_TENANT.of val)
        ((a.reg (acctPg d) F.ACCT_WT_DATA.off).setWidth 8) } := by
  have hop : F.ACCT_WT_ADDR_OP.of (F.ACCT_WT_ADDR_OP.put val 1) = 1 := Fld.of_put _ _ _ (by decide)
  simp only [State.weightCmd, hop, weightTenant_put, State.putRw_acctOf]

theorem State.weightCmd_read (s : State) (d : Nat) (val : Word) :
    s.weightCmd (acctPg d) (F.ACCT_WT_ADDR_OP.put val 2) =
      (s.putRw (acctPg d) F.ACCT_WT_ADDR.off (F.ACCT_WT_ADDR_OP.put val 2)).setReg (acctPg d) F.ACCT_WT_DATA.off
        (((s.acctOf d).weights.get 0 (F.ACCT_WT_ADDR_TENANT.of val)).setWidth 32) := by
  have hop : F.ACCT_WT_ADDR_OP.of (F.ACCT_WT_ADDR_OP.put val 2) = 2 := Fld.of_put _ _ _ (by decide)
  simp only [State.weightCmd, hop, weightTenant_put, State.putRw_acctOf]

theorem State.liveRead_read (s : State) (d : Nat) (val : Word) :
    s.liveRead (acctPg d) (F.ACCT_LIVE_ADDR_OP.put val 2) = (List.range 14).foldl (fun u i =>
      u.setReg (acctPg d) (F.ACCT_LIVE_DATA.at i) (BitVec.ofNat 32 ((s.acctOf d).bank.counts.get 0
        (7 * F.ACCT_LIVE_ADDR_TENANT.of val + i / 2) >>> (32 * (i % 2)))))
      (s.putRw (acctPg d) F.ACCT_LIVE_ADDR.off (F.ACCT_LIVE_ADDR_OP.put val 2)) := by
  have hop : F.ACCT_LIVE_ADDR_OP.of (F.ACCT_LIVE_ADDR_OP.put val 2) = 2 := Fld.of_put _ _ _ (by decide)
  simp only [State.liveRead, hop, liveTenant_put, State.putRw_acctOf, ne_eq, not_true_eq_false, if_false]

/-! ### Periodic dumps and the flush of a collector (R344, R361) -/

theorem exec_pmcDumpPeriod (s : State) (d : Die) : exec (.pmcDumpPeriod d) s = execPmcDumpPeriod d s := rfl

theorem exec_collectorFlush (s : State) (d : Die) (c : Fin 4) : exec (.collectorFlush d c) s = execCollectorFlush d c s := rfl

section
variable {d : Die} (hop : s.operates (pmcPg d.val) = true)
include hop

theorem exec_pmcDumpPeriod_due (hup : s.dieUp d.val = true) (hen : s.flag (pmcPg d.val) F.PMC_DUMP_CTRL_EN = true)
    (hpassed : s.multiplePassed d.val (s.fget (pmcPg d.val) F.PMC_DUMP_CTRL_PERIOD_MS * 1000000) = true) :
    exec (.pmcDumpPeriod d) s = .next (s.cutDump d.val none false) := by
  rw [exec_pmcDumpPeriod, execPmcDumpPeriod, State.ifOperates_on _ hop, hup, hen, hpassed]
  rfl

theorem exec_pmcDumpPeriod_disabled (hdis : s.flag (pmcPg d.val) F.PMC_DUMP_CTRL_EN = false) :
    exec (.pmcDumpPeriod d) s = .next s := by
  rw [exec_pmcDumpPeriod, execPmcDumpPeriod, State.ifOperates_on _ hop, hdis, Bool.and_false, Bool.false_and,
    if_neg Bool.false_ne_true]

end

theorem exec_collectorFlush_up {d : Die} (c : Fin 4) (hop : s.operates (telPg d.val) = true) (hup : s.dieUp d.val = true) :
    exec (.collectorFlush d c) s = .next (s.flushCollector d.val c.val) := by
  rw [exec_collectorFlush, execCollectorFlush, State.ifOperates_on _ hop, if_pos hup]

/-! ### The write of a dump (R355, R361) -/

theorem exec_pmcDumpWritten (s : State) (d : Die) (walks : List Walk) :
    exec (.pmcDumpWritten d walks) s = execPmcDumpWritten d walks s := rfl

/-- The dump ring takes a dump: the producer index and the count of dumps advance. -/
def State.dumpDelivered (s : State) (d : Nat) : State :=
  (s.fset (pmcPg d) F.PMC_DUMP_PROD_INDEX ((s.fget (pmcPg d) F.PMC_DUMP_PROD_INDEX + 1) %
    (2 * ringSlots (s.fget (pmcPg d) F.PMC_DUMP_CTRL_K)))).cadd (pmcPg d) F.PMC_DUMPS

theorem State.dumpReady_of {w : Dump} {l : List Dump} (hhost : s.hostUp d = true) (hsus : s.isSuspended d (· == .dump) = false)
    (hwait : (s.dumpOf d).waiting = w :: l) : s.dumpReady d = true := by
  rw [State.dumpReady, hwait, hhost, hsus]
  rfl

section
variable {g : State} {d : Die} {walks : List Walk} {w : Dump} {l : List Dump} (hop : s.operates (pmcPg d.val) = true)
  (hhost : s.hostUp d.val = true) (hsus : s.isSuspended d.val (· == .dump) = false) (hwait : (s.dumpOf d.val).waiting = w :: l)
  (hturn : s.writeTurn d.val true true snapQueue (snapUnits w.writes) = some g)
include hop hhost hsus hwait hturn

theorem exec_pmcDumpWritten_partial (hleft : (g.dmaWrites d.val .dump w.space w.writes walks).1 ≠ []) :
    let r := g.dmaWrites d.val .dump w.space w.writes walks
    exec (.pmcDumpWritten d walks) s =
      .next (r.2.2.setDump d.val { r.2.2.dumpOf d.val with waiting := { w with writes := r.1 } :: l }) := by
  rw [exec_pmcDumpWritten, execPmcDumpWritten, State.ifOperates_on _ hop, hwait]
  simp only [State.dumpReady_of hhost hsus hwait, hturn, if_true, List.isEmpty_eq_false_iff.mpr hleft, Bool.not_false]

theorem exec_pmcDumpWritten_last (hleft : (g.dmaWrites d.val .dump w.space w.writes walks).1 = []) (hall : w.page = none) :
    let u := (g.dmaWrites d.val .dump w.space w.writes walks).2.2
    exec (.pmcDumpWritten d walks) s =
      .next ((u.setDump d.val { u.dumpOf d.val with waiting := l }).dumpDelivered d.val) := by
  rw [exec_pmcDumpWritten, execPmcDumpWritten, State.ifOperates_on _ hop, hwait]
  simp only [State.dumpReady_of hhost hsus hwait, hturn, if_true, hleft, List.isEmpty_nil, Bool.not_true, Bool.false_eq_true,
    if_false, hall, Option.bind_none, State.dumpDelivered]

end

/-! ### Selections of counters (R360) -/

theorem exec_pmcClear (s : State) (src : Source) (idx : PageIdx) (n : Fin 8) (val : Word) :
    exec (.pmcClear src idx n val) s = execPmcClear src idx n val s := rfl

section
variable {n : Fin 8} (h : s.reaches src idx p)
include h

theorem exec_pmcClear_counted (hts : s.targets p ((pmcOff p.kind F.PMC_SEL_EN).at n.val) ≠ []) :
    exec (.pmcClear src idx n val) s =
      .next ((s.targets p ((pmcOff p.kind F.PMC_SEL_EN).at n.val)).foldl (fun s t => s.pmcSel t n.val val) s) := by
  rw [exec_pmcClear, execPmcClear, State.access_at _ h]
  split
  · contradiction
  · rfl

theorem exec_pmcClear_uncounted (hts : s.targets p ((pmcOff p.kind F.PMC_SEL_EN).at n.val) = []) :
    exec (.pmcClear src idx n val) s = .next (s.countUnmapped src) := by
  rw [exec_pmcClear, execPmcClear, State.access_at _ h, hts]

end

/-! ### Collectors (R343, R344) -/

theorem exec_collectorEnableWrite_at (c : Fin 4) (h : s.reaches src idx (telPg d)) :
    exec (.collectorEnableWrite src idx c val) s = .next (s.collCfg (telPg d) c.val val) := by
  change execCollectorEnableWrite src idx c val s = _
  rw [execCollectorEnableWrite, State.accessKind_at _ h rfl]

/-- The configuration does not fit: the port is on the other die, the template is shorter than its headers, or MAX_RECORDS is not
1 to 30. -/
def State.collUnfit (s : State) (d c : Nat) (val : Word) : Prop :=
  portDie (F.TEL_COLL_CFG_PORT.of val) ≠ d ∨
    F.TEL_COLL_CFG_TEMPLATE_LEN.of val < F.TEL_COLL_CFG_L3_OFF.of val + (if F.TEL_COLL_CFG_IPV6.of val = 1 then 48 else 28) ∨
    s.fget (telPg d) F.TEL_COLL_LIMIT_MAX_RECORDS c = 0 ∨ s.fget (telPg d) F.TEL_COLL_LIMIT_MAX_RECORDS c > 30

section
variable {c : Nat}

theorem State.collCfg_refused (hen : F.TEL_COLL_CFG_EN.of val = 1) (hbad : s.collUnfit d c val) :
    s.collCfg (telPg d) c val = s.errCount (telPg d) := by
  rw [State.collCfg]
  exact if_pos ⟨hen, hbad⟩

theorem State.collCfg_enabled (hen : F.TEL_COLL_CFG_EN.of val = 1) (hfit : ¬ s.collUnfit d c val) :
    s.collCfg (telPg d) c val = s.putRw (telPg d) (F.TEL_COLL_CFG.at c) val := by
  rw [State.collCfg]
  exact (if_neg fun hboth => hfit hboth.2).trans (if_pos hen)

theorem State.collCfg_disabled (hdis : F.TEL_COLL_CFG_EN.of val = 0) : s.collCfg (telPg d) c val =
    ((s.putRw (telPg d) (F.TEL_COLL_CFG.at c) val).setTel d { s.telOf d with colls := (s.telOf d).colls.set {} c {} }).loseCards d
      ((s.telOf d).colls.get {} c).waiting.length := by
  simp only [State.collCfg, hdis, Nat.zero_ne_one, false_and, if_false, State.putRw_telOf]

end

/-- Settles O49: banks and their slots and the accounting page first, then dumps, counter selections and collectors. -/
theorem accountsAndCountersAreDelivered : Obligations.AccountsAndCountersAreDelivered := by
  refine ⟨⟨?cut, fun s d b hop hset => exec_settleTimeout_settling hop hset, ?slot, ?page⟩,
    ?period, ?written, ?selection, ?collector⟩
  case cut =>
    intro s d hop hup hset hnone
    rw [exec_bankCut_settled hop hup hset hnone]
    refine ⟨fun hsplit => ?alone, fun hjoined hboth => ?both, fun hjoined hother => ?waits⟩
    case alone => rw [if_pos hsplit]
    case both => rw [hjoined, if_neg Bool.false_ne_true, if_neg (not_not_intro hboth)]
    case waits => rw [hjoined, if_neg Bool.false_ne_true, if_pos hother]
  case slot =>
    intro s d walks b hop hnext
    refine ⟨fun hfull => exec_snapshotWritten_noTurn hop hnext (State.slotTurn_full b hfull),
      fun hhost hsus hroom hwait => ?_⟩
    have hready := State.slotTurn_ready hnext hhost hsus hroom hwait
    exact ⟨fun hturn => exec_snapshotWritten_noTurn hop hnext (hready.trans hturn),
      fun u hturn => exec_snapshotWritten_turn hop hnext (hready.trans hturn)⟩
  case page =>
    intro s src page d val h
    refine ⟨exec_acctSnapConsWrite_at h, ?weightWrite, ?weightRead, ?live⟩
    case weightWrite => rw [exec_acctWeightWrite_at h, State.weightCmd_write]
    case weightRead => rw [exec_acctWeightRead_at h, State.weightCmd_read]
    case live => rw [exec_acctLiveRead_at h, State.liveRead_read]
  case period =>
    intro s d hpmc htel hup
    exact ⟨exec_pmcDumpPeriod_due hpmc hup, exec_pmcDumpPeriod_disabled hpmc, fun c => exec_collectorFlush_up c htel hup⟩
  case written =>
    intro s g d walks w l hop hhost hsus hwait hturn
    exact ⟨exec_pmcDumpWritten_partial hop hhost hsus hwait hturn, exec_pmcDumpWritten_last hop hhost hsus hwait hturn⟩
  case selection =>
    intro s src page p n val h
    exact ⟨exec_pmcClear_counted h, exec_pmcClear_uncounted h⟩
  case collector =>
    intro s src page d c val h
    refine ⟨fun hen hbad => ?refused, fun hen hfit => ?enabled, fun hdis => ?disabled⟩
    case refused => rw [exec_collectorEnableWrite_at c h, State.collCfg_refused hen hbad]
    case enabled => rw [exec_collectorEnableWrite_at c h, State.collCfg_enabled hen hfit]
    case disabled => rw [exec_collectorEnableWrite_at c h, State.collCfg_disabled hdis]

end Sys2Proof.Machine
end

section
/-!
PROOFS of the statements about a step as a whole (00_scope; 95_what_each_step_holds; 17 R494, R540): it runs the front of the
queue, every command completes, and what every step keeps follows from the law of every command.
-/
namespace Sys2Proof.Machine

variable {s t : State}

/-! ### Every command completes -/

theorem execGetbcr_isNext (s : State) : ∃ t, execGetbcr s = .next t := by
  unfold execGetbcr
  split
  · exact ⟨_, rfl⟩
  · exact ⟨_, rfl⟩

theorem execOtpCmdDone_isNext (took : Word) (s : State) : ∃ t, execOtpCmdDone took s = .next t := by
  unfold execOtpCmdDone
  split
  · exact ⟨_, rfl⟩
  · exact ⟨_, rfl⟩

/-- Every command answers a next state: but for two, a meaning branches only in what that state is. -/
theorem exec_isNext (c : Instr) (s : State) : ∃ t, exec c s = .next t := by
  cases c
  case getbcr => exact execGetbcr_isNext s
  case otpCmdDone took => exact execOtpCmdDone_isNext took s
  all_goals exact ⟨_, rfl⟩

theorem pending_not_touched (c : Instr) : Part.pending ∉ (touches c).parts := by
  cases c
  all_goals dsimp only [touches]; decide

theorem exec_keeps_pending {c : Instr} (h : exec c s = .next t) : t.pending = s.pending :=
  (exec_does c s t h).keep .pending ((touches c).mask_part (pending_not_touched c))

/-! ### What a step can do -/

theorem step_front {c : Instr} {q : List Instr} (h : s.pending = c :: q) : step s = exec c (s.withPending q) := by
  rw [step, h]

theorem step_idle (h : s.pending = []) : step s = .next s.aonTick := by
  rw [step, h]

/-- A step is a command's doing or a tick of the time units, so it keeps the canonical form and takes nothing back. -/
theorem step_does (h : step s = .next t) : ∃ M, Does M s t := by
  cases hq : s.pending with
  | nil =>
    rw [step_idle hq] at h
    cases h
    exact ⟨_, State.aonTick_does (Nat.or_self _) (Does.refl s)⟩
  | cons c q =>
    rw [step_front hq] at h
    have hpop : Does (1 ||| (touches c).mask) s (s.withPending q) :=
      State.withPending_does (by rw [Sub, ← Nat.lor_assoc, Nat.or_self]) (Does.refl s)
    have hrun : Does (1 ||| (touches c).mask) (s.withPending q) t :=
      (exec_does c _ t h).mono (by rw [Sub, Nat.lor_comm 1, ← Nat.lor_assoc, Nat.or_self])
    exact ⟨_, hpop.trans hrun⟩

/-! ### The statements -/

/-- Settles O1: the queue is read at its front. -/
theorem stepRunsFront : Obligations.StepRunsFront :=
  fun _ _ _ h => step_front h

/-- Settles O3: the decoder of table words knows no row, so nothing is put on the queue. -/
theorem noWordIsACommand : Obligations.NoWordIsACommand := by
  intro nbits w s
  have hnone : decodeTableWord nbits w = none := rfl
  exact ⟨hnone, by rw [State.withFetchWord, hnone]⟩

/-- Settles O4, by cases on the command: its meaning is a next state, and its table does not list the queue. -/
theorem everyCommandCompletes : Obligations.EveryCommandCompletes := by
  intro c s
  obtain ⟨t, ht⟩ := exec_isNext c s
  exact ⟨t, ht, exec_keeps_pending ht⟩

/-- Settles O7: at reset no store lists anything. -/
theorem resetIsCanonical : Obligations.ResetIsCanonical := by
  unfold Obligations.ResetIsCanonical
  constructor
  all_goals exact Sparse.wf_nil _

/-- Settles O8, by the law of every command and of the tick. -/
theorem stepKeepsCanonical : Obligations.StepKeepsCanonical := by
  intro s t hs h
  obtain ⟨M, hdoes⟩ := step_does h
  exact hdoes.canonical hs

/-- Settles O9, by the law of every command and of the tick. -/
theorem stepTakesNothingBack : Obligations.StepTakesNothingBack := by
  intro s t h
  obtain ⟨M, hdoes⟩ := step_does h
  exact hdoes.grows

end Sys2Proof.Machine
end

section
/-!
PROOFS of the statements about reset, power and clocks (15 R480; 17 R490-R492, R540; 18 R522, R523): what RESET_N leaves alone,
what a loss of power takes, a rail out of its range, and the reference clock of a slice's lanes.
-/
namespace Sys2Proof.Machine

variable {s t : State}

/-! ### The place of an always-on register -/

theorem Page.key_div (p : Page) (o : Nat) : p.key o / 128 = p.n * 65536 + o := by
  have := p.kind.space_lt o
  unfold Page.key
  omega

theorem keyNum_key (p : Page) {o : Nat} (ho : o < 65536) : keyNum (p.key o) = p.n := by
  rw [keyNum, Page.key_div]
  omega

theorem keyOff_key (p : Page) {o : Nat} (ho : o < 65536) : keyOff (p.key o) = o := by
  rw [keyOff, Page.key_div]
  omega

theorem keyOn_aon (e d : Nat) {o : Nat} (ho : o < 65536) : keyOn e ((aonPg d).key o) = decide (d = e) := by
  rw [keyOn, keyPage, keyKind_key, keyNum_key _ ho]
  rfl

/-- The wear data of a die are kept by its reset (R492). -/
theorem keptReg_wear (busy : Bool) (d : Nat) {o : Nat} (hlo : 0x200 ≤ o) (hhi : o < 0x234) :
    keptReg busy d ((aonPg d).key o) = true := by
  rw [keptReg, keyKind_key, keyNum_key _ (by omega), keyOff_key _ (by omega), Bool.or_eq_true]
  exact Or.inl (decide_eq_true ⟨rfl, rfl, hlo, hhi⟩)

/-! ### A reset of a die (R491, R492, R540) -/

theorem State.reg_resetDie_wear (s : State) (e d : Nat) {o : Nat} (hlo : 0x200 ≤ o) (hhi : o < 0x234) :
    (s.resetDie e).reg (aonPg d) o = s.reg (aonPg d) o := by
  refine Sparse.get_filter _ _ _ fun _ => ?_
  rw [keyOn_aon e d (by omega)]
  by_cases hd : d = e
  · subst hd
    rw [keptReg_wear _ _ hlo hhi, Bool.or_true]
  · rw [decide_eq_false hd, Bool.not_false, Bool.true_or]

theorem State.timeOf_resetDie (s : State) (e d : Nat) : (s.resetDie e).timeOf d =
    if d = e then { fine := (s.timeOf e).fine, mono := (s.timeOf e).mono } else s.timeOf d :=
  Sparse.get_set ..

/-- Time and the monotonic count go on through a reset. -/
theorem State.clock_resetDie (s : State) (e d : Nat) :
    ((s.resetDie e).timeOf d).fine = (s.timeOf d).fine ∧ ((s.resetDie e).timeOf d).mono = (s.timeOf d).mono := by
  rw [State.timeOf_resetDie]
  split_ifs with hd
  · subst hd
    exact ⟨rfl, rfl⟩
  · exact ⟨rfl, rfl⟩

theorem State.clock_complexReset (s : State) (d : Nat) :
    (s.complexReset.timeOf d).fine = (s.timeOf d).fine ∧ (s.complexReset.timeOf d).mono = (s.timeOf d).mono := by
  obtain ⟨hfine, hmono⟩ := s.clock_resetDie 0 d
  obtain ⟨hfine', hmono'⟩ := (s.resetDie 0).clock_resetDie 1 d
  exact ⟨hfine'.trans hfine, hmono'.trans hmono⟩

theorem State.reg_complexReset_wear (s : State) (d : Nat) {o : Nat} (hlo : 0x200 ≤ o) (hhi : o < 0x234) :
    s.complexReset.reg (aonPg d) o = s.reg (aonPg d) o :=
  (State.reg_resetDie_wear _ 1 d hlo hhi).trans (State.reg_resetDie_wear s 0 d hlo hhi)

theorem State.dieUp_inReset (d : Nat) (h : s.pins.resetN = false) : s.dieUp d = false := by
  rw [State.dieUp, h, Bool.and_false, Bool.false_and]

/-- Settles O17: the reset of both dies filters and clears stores, and the ones named are not among them. -/
theorem resetKeepsWhatItMust : Obligations.ResetKeepsWhatItMust := fun s =>
  have hlow : s.complexReset.pins.resetN = false := rfl
  ⟨s.complexReset, rfl, hlow, State.dieUp_inReset 0 hlow, State.dieUp_inReset 1 hlow, fun d _ => s.clock_complexReset d,
    rfl, rfl, rfl, rfl, fun d _ _ hlo hhi => s.reg_complexReset_wear d hlo hhi⟩

/-! ### A loss of power (R480, R492, R522) -/

/-- A loop of field writes changes registers alone. -/
theorem State.foldl_bset_eq {β : Type} (l : List β) (pg : β → Page) (f : Fld) (b : Bool) (s : State) :
    ∃ r, l.foldl (fun s x => s.bset (pg x) f b) s = { s with regs := r } := by
  induction l generalizing s with
  | nil => exact ⟨s.regs, rfl⟩
  | cons x l ih =>
    obtain ⟨r, hr⟩ := ih (s.bset (pg x) f b)
    exact ⟨r, hr⟩

theorem State.untrip_eq (s t : State) : ∃ o, s.untrip t = { t with out := o } := by
  unfold State.untrip
  split
  · exact ⟨_, rfl⟩
  · exact ⟨t.out, rfl⟩

theorem State.otpFinish_idle (torn : Word) (h : s.otp.busy = none) : s.otpFinish torn = s := by
  rw [State.otpFinish, h]

/-- What every loss of always-on power leaves (R492): no power good, I3C address, time or wear measurement, the QDR contents, and
the OTP words unless a command was programming them. -/
structure State.LosesPower (s t : State) : Prop where
  pwrgood : t.pins.pwrgood = false
  i3cAddr : t.pins.i3cAddr = none
  times : t.times = []
  wearBase : t.wearBase = []
  qdr : t.qdr = s.qdr
  otp : s.otp.busy = none → t.otp.words = s.otp.words

/-- What a loss of power leaves does not rest on registers, the output, or the contacts of VAON and AON_CLK. -/
theorem State.LosesPower.put (h : s.LosesPower t) (regs : Sparse Word) (out : List Output) (vaon clk : Bool) :
    s.LosesPower { t with regs := regs, out := out, pins := { t.pins with vaon := vaon, aonClk := clk } } :=
  ⟨h.pwrgood, h.i3cAddr, h.times, h.wearBase, h.qdr, h.otp⟩

theorem State.LosesPower.untrip (h : s.LosesPower t) (u : State) : s.LosesPower (u.untrip t) := by
  obtain ⟨out, ho⟩ := u.untrip_eq t
  rw [ho]
  exact h.put t.regs out t.pins.vaon t.pins.aonClk

theorem State.LosesPower.foldl_bset {β : Type} (h : s.LosesPower t) (l : List β) (pg : β → Page) (f : Fld) (b : Bool) :
    s.LosesPower (l.foldl (fun s x => s.bset (pg x) f b) t) := by
  obtain ⟨regs, hr⟩ := State.foldl_bset_eq l pg f b t
  rw [hr]
  exact h.put regs t.out t.pins.vaon t.pins.aonClk

theorem State.qdr_powerLost (s : State) (torn : Word) : (s.powerLost torn).qdr = s.qdr :=
  (State.powerLost_does (Nat.or_self _) (Does.refl s)).keep .qdr (by decide)

theorem State.powerLost_loses (s : State) (torn : Word) : s.LosesPower (s.powerLost torn) := by
  have hqdr := s.qdr_powerLost torn
  unfold State.powerLost at hqdr ⊢
  dsimp only at hqdr ⊢
  obtain ⟨regs, hr⟩ := State.foldl_bset_eq ([0, 1].filter fun d => s.flag (aonPg d) F.AON_WEAR_CTRL_LOADED) aonPg
    F.AON_WEAR_CTRL_LOADED true { (s.otpFinish torn).complexReset with
      regs := (s.otpFinish torn).complexReset.regs.filter (fun kv => !keptReg false 0 kv.1 && !keptReg false 1 kv.1)
      times := []
      wearBase := []
      pins := { (s.otpFinish torn).complexReset.pins with pwrgood := false, i3cAddr := none, tripped := false } }
  rw [hr] at hqdr ⊢
  refine ⟨rfl, rfl, rfl, rfl, hqdr, fun hidle => ?_⟩
  rw [State.otpFinish_idle torn hidle]
  rfl

theorem exec_pwrgoodAonDeassert_on (torn : Word) (h : s.pins.pwrgood = true) : exec (.pwrgoodAonDeassert torn) s =
    .next { s.untrip (s.powerLost torn) with pins := { (s.untrip (s.powerLost torn)).pins with aonClk := true } } := by
  change execPwrgoodAonDeassert torn s = _
  rw [execPwrgoodAonDeassert, if_pos h]

theorem exec_aonClkLoss_on (torn : Word) (h : s.pins.pwrgood = true) : exec (.aonClkLoss torn) s =
    .next { s.untrip (s.powerLost torn) with pins := { (s.untrip (s.powerLost torn)).pins with aonClk := false } } := by
  change execAonClkLoss torn s = _
  rw [execAonClkLoss, if_pos h]

/-- The state after a loss of VAON before the LOADED marks are cleared. -/
def State.vaonLost (s : State) (torn : Word) : State :=
  { s.untrip (s.powerLost torn) with pins := { (s.untrip (s.powerLost torn)).pins with vaon := false } }

theorem exec_vaonLoss (s : State) (torn : Word) : exec (.vaonLoss torn) s =
    .next ([0, 1].foldl (fun t d => t.bset (aonPg d) F.AON_WEAR_CTRL_LOADED false) (s.vaonLost torn)) := rfl

theorem exec_pwrgoodAonAssert (s : State) : exec .pwrgoodAonAssert s = .next (if s.pins.pwrgood || !s.pins.aonClk then s
    else { s with pins := { s.pins with vaon := true, pwrgood := true } }) := rfl

/-- Both dies' LOADED marks are clear once each has been cleared. -/
theorem State.loaded_cleared (s : State) {d : Nat} (hd : d < 2) :
    ([0, 1].foldl (fun t d => t.bset (aonPg d) F.AON_WEAR_CTRL_LOADED false) s).flag (aonPg d) F.AON_WEAR_CTRL_LOADED = false := by
  have hself := fun (t : State) (e : Nat) =>
    t.flag_bset_same (aonPg e) F.AON_WEAR_CTRL_LOADED false 0 (by decide) (by decide)
  rcases (by omega : d = 0 ∨ d = 1) with rfl | rfl
  · have hbeside : ((s.bset (aonPg 0) F.AON_WEAR_CTRL_LOADED false).bset (aonPg 1) F.AON_WEAR_CTRL_LOADED false).flag (aonPg 0)
        F.AON_WEAR_CTRL_LOADED = (s.bset (aonPg 0) F.AON_WEAR_CTRL_LOADED false).flag (aonPg 0) F.AON_WEAR_CTRL_LOADED := by
      rw [State.flag, State.bset, State.fget_fset_ne _ _ _ _ _ _ _ _ (by decide), State.flag]
    exact hbeside.trans (hself s 0)
  · exact hself _ 1

/-! ### Rails and reference clocks (R491, R523) -/

/-- The die is reset last, and held. -/
theorem exec_railOutOfRange_up (d : Die) (h : s.dieUp d.val = true) :
    ∃ u, exec (.railOutOfRange d) s = .next ((State.resetDie u d.val).setBoot d.val { held := true }) := by
  change ∃ u, execRailOutOfRange d s = _
  unfold execRailOutOfRange
  dsimp only
  rw [h, Bool.not_true, if_neg Bool.false_ne_true]
  exact ⟨_, rfl⟩

theorem State.bootOf_setBoot_same (s : State) (d : Nat) (b : DieBoot) : (s.setBoot d b).bootOf d = b :=
  Sparse.get_set_same ..

theorem State.dieUp_held {d : Nat} (h : (s.bootOf d).held = true) : s.dieUp d = false := by
  rw [State.dieUp, h, Bool.not_true, Bool.and_false]

theorem State.pins_rfaultCheck (s : State) (p : Nat) : (s.rfaultCheck p).pins = s.pins :=
  (State.rfaultCheck_does (Nat.or_self _) (Does.refl s)).keep .pins (by decide)

theorem exec_refclkLaneLoss (s : State) (sl : Slice) (back : Bool) :
    ∃ t, exec (.refclkLaneLoss sl back) s = .next t ∧ t.pins.refclkLost =
      if back then s.pins.refclkLost.filter (· ≠ sl.val) else s.pins.refclkLost.filter (· ≠ sl.val) ++ [sl.val] :=
  ⟨_, rfl, congrArg Pins.refclkLost (State.foldl_keeps State.pins (fun _ _ => State.pins_rfaultCheck _ _) _ _)⟩

/-- Settles O18: the three losses leave what `LosesPower` says, and each command's last writes say the rest. -/
theorem powerRailsAndClocksAreGuarded : Obligations.PowerRailsAndClocksAreGuarded := by
  refine ⟨?power, ?rail, ?clock⟩
  case power =>
    intro s torn hpwr
    have hlost : s.LosesPower (s.untrip (s.powerLost torn)) := (s.powerLost_loses torn).untrip s
    refine ⟨_, _, _, _, exec_pwrgoodAonDeassert_on torn hpwr, exec_aonClkLoss_on torn hpwr, exec_vaonLoss s torn,
      exec_pwrgoodAonAssert _, fun x hx => ?left, ?again, ?notAgain, ?vaon, fun d hd => State.loaded_cleared _ hd⟩
    case left =>
      have hx : s.LosesPower x := by
        fin_cases hx
        · exact hlost.put _ _ _ _
        · exact hlost.put _ _ _ _
        · exact (hlost.put _ _ _ _).foldl_bset _ aonPg _ _
      exact ⟨hx.pwrgood, hx.i3cAddr, hx.times, hx.wearBase, hx.qdr, hx.otp⟩
    case again =>
      dsimp only
      rw [hlost.pwrgood]
      rfl
    case notAgain =>
      rw [exec_pwrgoodAonAssert]
      dsimp only
      rw [Bool.not_false, Bool.or_true, if_pos rfl]
    case vaon => rw [State.pins_foldl_bset, State.vaonLost]
  case rail =>
    intro s d h
    obtain ⟨u, hu⟩ := exec_railOutOfRange_up d h
    have hheld : (((State.resetDie u d.val).setBoot d.val { held := true }).bootOf d.val).held = true := by
      rw [State.bootOf_setBoot_same]
    exact ⟨_, hu, hheld, State.dieUp_held hheld⟩
  case clock =>
    intro s sl back
    obtain ⟨t, ht, hlost⟩ := exec_refclkLaneLoss s sl back
    refine ⟨t, ht, ?_⟩
    rw [hlost]
    cases back with
    | true => simp +contextual
    | false => simp +contextual

end Sys2Proof.Machine
end

section
/-!
PROOFS of the statements about MACsec and the key slots (12_macsec_cipher R365, R367, R368, R373, R374, R376): verdicts, the SC and
SA tables, the key commands, and zeroisation.
-/
namespace Sys2Proof.Machine

variable {s : State} {src : Source} {idx : PageIdx} {val : Word} {n d : Nat}

/-! ### Verdicts in the order of reception (R367, R368) -/

/-- A frame of the same port that was received before waits for its verdict. -/
def State.verdictBefore (s : State) (uid : Nat) (f : Frm) : Bool :=
  s.frames.any (fun kv => decide (kv.1 < uid) && (match kv.2 with
    | some g => decide (g.port = f.port) && decide (g.root = 0) && g.sa.isSome
    | none => false))

/-- A frame's cipher operation ends, if it has one. -/
def State.endFrmKey (s : State) (f : Frm) : State :=
  match f.key with
  | some k => s.endKey f.die k.1 k.2
  | none => s

/-- A frame's checks (R366, R367), after its cipher operation has ended. -/
def State.judgeFrm (s : State) (f : Frm) (x : Nat × Nat × Bool) : Nat × State := (s.endFrmKey f).judge f.port f.size x

/-- The frames `l` wait for no verdict and hold no key. -/
def State.clearSa (s : State) (l : List Nat) : State :=
  l.foldl (fun s u => s.updFrm u (fun f => { f with sa := none, key := none })) s

@[simp] theorem State.endFrmKey_frames (s : State) (f : Frm) : (s.endFrmKey f).frames = s.frames := by
  unfold State.endFrmKey
  split
  · exact (State.endKey_does (Nat.or_self _) (Does.refl s)).keep .frames (by decide)
  · rfl

/-- The checks leave the frames alone, so a frame has the same copies and parts after them. -/
theorem State.judgeFrm_kin (s : State) (f : Frm) (x : Nat × Nat × Bool) (uid : Nat) :
    (s.judgeFrm f x).2.kin uid = s.kin uid := by
  have hframes : (s.judgeFrm f x).2.frames = (s.endFrmKey f).frames :=
    (State.judge_does rfl (Nat.or_self _) (Does.refl _)).keep .frames (by decide)
  rw [State.kin, hframes, State.endFrmKey_frames, State.kin]

theorem exec_macsecVerdict (s : State) (uid : Nat) : exec (.macsecVerdict uid) s = execMacsecVerdict uid s := rfl

section
variable {uid : Nat} {f : Frm} (hfrm : s.frm uid = some f)
include hfrm

theorem exec_macsecVerdict_unprotected (hsa : f.sa = none) : exec (.macsecVerdict uid) s = .next s := by
  rw [exec_macsecVerdict, execMacsecVerdict, hfrm]
  dsimp only
  rw [hsa]

/-- A frame under protection is judged unless something holds it back. -/
theorem exec_macsecVerdict_protected {x : Nat × Nat × Bool} (hsa : f.sa = some x) : exec (.macsecVerdict uid) s =
    .next (if !f.lastByte || f.root ≠ 0 || s.verdictBefore uid f || !s.operates (msecPg (f.port / 8)) then s else
      let r := s.judgeFrm f x
      let v := r.2.clearSa (s.kin uid)
      match v.frm uid with
      | none => v
      | some g => if r.1 = 0 then v.verdictPass uid else v.verdictFail uid g r.1) := by
  rw [exec_macsecVerdict, execMacsecVerdict, hfrm]
  dsimp only
  rw [hsa, ← State.judgeFrm_kin s f x uid]
  rfl

theorem exec_macsecVerdict_held (hheld : f.sa = none ∨ f.lastByte = false ∨ f.root ≠ 0 ∨ s.verdictBefore uid f = true ∨
    s.operates (msecPg (f.port / 8)) = false) : exec (.macsecVerdict uid) s = .next s := by
  cases hsa : f.sa with
  | none => exact exec_macsecVerdict_unprotected hfrm hsa
  | some x =>
    have hwait := hheld.resolve_left (by rw [hsa]; exact Option.some_ne_none x)
    rw [exec_macsecVerdict_protected hfrm hsa, if_pos]
    simp only [Bool.or_eq_true, Bool.not_eq_true', decide_eq_true_eq, or_assoc]
    exact hwait

theorem exec_macsecVerdict_judged {x : Nat × Nat × Bool} {g : Frm} (hsa : f.sa = some x) (hlast : f.lastByte = true)
    (hroot : f.root = 0) (hfirst : s.verdictBefore uid f = false) (hop : s.operates (msecPg (f.port / 8)) = true)
    (hg : ((s.judgeFrm f x).2.clearSa (s.kin uid)).frm uid = some g) :
    let r := s.judgeFrm f x
    let v := r.2.clearSa (s.kin uid)
    exec (.macsecVerdict uid) s = .next (if r.1 = 0 then v.verdictPass uid else v.verdictFail uid g r.1) := by
  have hgo : ¬ (!f.lastByte || f.root ≠ 0 || s.verdictBefore uid f || !s.operates (msecPg (f.port / 8))) = true := by
    rw [hlast, hfirst, hop]
    simp [hroot]
  rw [exec_macsecVerdict_protected hfrm hsa, if_neg hgo]
  dsimp only
  rw [hg]

end

/-! ### The SC and SA tables (R365) -/

/-- The SCI that an RX_SC entry `e` for secure channel `sc` brings is that of another valid entry of the port. -/
def State.sciTaken (s : State) (p kind sc : Nat) (e : BitVec 128) : Bool :=
  kind = 0 && scValid e && (List.range 64).any (fun m =>
    m ≠ sc && scValid (s.rxSc p m) && decide (scSci (s.rxSc p m) = scSci e))

theorem exec_msecTblWrite_at (h : s.reaches src idx (msecPg n)) :
    exec (.msecTblWrite src idx val) s = .next (s.msecCmd (msecPg n) (F.MSEC_TBL_CMD_OP.put val 1)) := by
  change execMsecTblWrite src idx val s = _
  rw [execMsecTblWrite, State.accessKind_at _ h rfl]

theorem exec_msecTblRead_at (h : s.reaches src idx (msecPg n)) :
    exec (.msecTblRead src idx val) s = .next (s.msecCmd (msecPg n) (F.MSEC_TBL_CMD_OP.put val 2)) := by
  change execMsecTblRead src idx val s = _
  rw [execMsecTblRead, State.accessKind_at _ h rfl]

/-- The operation of a command leaves what names the entry. -/
theorem msecTblCmd_put (val : Word) (op : Nat) :
    F.MSEC_TBL_CMD_KIND.of (F.MSEC_TBL_CMD_OP.put val op) = F.MSEC_TBL_CMD_KIND.of val ∧
    F.MSEC_TBL_CMD_PORT.of (F.MSEC_TBL_CMD_OP.put val op) = F.MSEC_TBL_CMD_PORT.of val ∧
    F.MSEC_TBL_CMD_SC.of (F.MSEC_TBL_CMD_OP.put val op) = F.MSEC_TBL_CMD_SC.of val ∧
    F.MSEC_TBL_CMD_AN.of (F.MSEC_TBL_CMD_OP.put val op) = F.MSEC_TBL_CMD_AN.of val :=
  ⟨Fld.of_put_ne _ _ _ _ (by decide) (by decide), Fld.of_put_ne _ _ _ _ (by decide) (by decide),
    Fld.of_put_ne _ _ _ _ (by decide) (by decide), Fld.of_put_ne _ _ _ _ (by decide) (by decide)⟩

section
variable {i : Nat}
  (hi : msecIndex (F.MSEC_TBL_CMD_KIND.of val) (F.MSEC_TBL_CMD_SC.of val) (F.MSEC_TBL_CMD_AN.of val) = some i)
include hi

theorem State.msecCmd_write :
    let p := 8 * n + F.MSEC_TBL_CMD_PORT.of val
    let w := s.putRw (msecPg n) F.MSEC_TBL_CMD.off (F.MSEC_TBL_CMD_OP.put val 1)
    let e := msecMask (F.MSEC_TBL_CMD_KIND.of val) (w.words (msecPg n) F.MSEC_TBL_DATA 4)
    s.msecCmd (msecPg n) (F.MSEC_TBL_CMD_OP.put val 1) =
      if w.sciTaken p (F.MSEC_TBL_CMD_KIND.of val) (F.MSEC_TBL_CMD_SC.of val) e then w.bset (msecPg n) F.MSEC_TBL_CMD_ERR true
      else (w.bset (msecPg n) F.MSEC_TBL_CMD_ERR false).setMsec p { w.msecOf p with tbl := (w.msecOf p).tbl.set 0 i e } := by
  obtain ⟨hkind, hport, hsc, han⟩ := msecTblCmd_put val 1
  have hop : F.MSEC_TBL_CMD_OP.of (F.MSEC_TBL_CMD_OP.put val 1) = 1 := Fld.of_put _ _ _ (by decide)
  rw [State.msecCmd]
  dsimp only
  rw [hkind, hport, hsc, han, hi, hop]
  rfl

theorem State.msecCmd_read :
    let r := s.putRw (msecPg n) F.MSEC_TBL_CMD.off (F.MSEC_TBL_CMD_OP.put val 2)
    s.msecCmd (msecPg n) (F.MSEC_TBL_CMD_OP.put val 2) = r.setWords (msecPg n) F.MSEC_TBL_DATA 4
      ((r.msecOf (8 * n + F.MSEC_TBL_CMD_PORT.of val)).tbl.get 0 i).toNat := by
  obtain ⟨hkind, hport, hsc, han⟩ := msecTblCmd_put val 2
  have hop : F.MSEC_TBL_CMD_OP.of (F.MSEC_TBL_CMD_OP.put val 2) = 2 := Fld.of_put _ _ _ (by decide)
  rw [State.msecCmd]
  dsimp only
  rw [hkind, hport, hsc, han, hi, hop]
  rfl

end

/-- A command of the kind without entries is stored and does nothing else (assumption log 10). -/
theorem State.msecCmd_noEntry (hkind : F.MSEC_TBL_CMD_KIND.of val = 3) (op : Nat) :
    s.msecCmd (msecPg n) (F.MSEC_TBL_CMD_OP.put val op) =
      s.putRw (msecPg n) F.MSEC_TBL_CMD.off (F.MSEC_TBL_CMD_OP.put val op) := by
  rw [State.msecCmd, (msecTblCmd_put val op).1, hkind]
  rfl

/-- Settles O26: a verdict by what holds it back, a table command by whether its kind has an entry. -/
theorem macsecIsJudgedAndConfigured : Obligations.MacsecIsJudgedAndConfigured := by
  refine ⟨?verdict, ?table⟩
  case verdict =>
    intro s uid f hfrm
    exact ⟨exec_macsecVerdict_held hfrm, fun x hsa hlast hroot hfirst hop g hg =>
      exec_macsecVerdict_judged hfrm hsa hlast hroot hfirst hop hg⟩
  case table =>
    intro s src page n val h
    dsimp only
    rw [exec_msecTblWrite_at h, exec_msecTblRead_at h]
    refine ⟨fun i hi => ⟨congrArg _ (State.msecCmd_write hi), congrArg _ (State.msecCmd_read hi)⟩, fun hkind => ?_⟩
    rw [State.msecCmd_noEntry hkind, State.msecCmd_noEntry hkind]
    exact ⟨rfl, rfl⟩

/-! ### Key commands (R373, R374, R376) -/

theorem exec_keyWrite_at (h : s.reaches src idx (cipherPg d)) : exec (.keyWrite src idx val) s = .next (s.keyWrite d val) := by
  change execKeyWrite src idx val s = _
  rw [execKeyWrite, State.accessKind_at _ h rfl]

theorem exec_keyErase_at (h : s.reaches src idx (cipherPg d)) : exec (.keyErase src idx val) s = .next (s.keyErase d val) := by
  change execKeyErase src idx val s = _
  rw [execKeyErase, State.accessKind_at _ h rfl]

theorem exec_keyInfo_at (h : s.reaches src idx (cipherPg d)) : exec (.keyInfo src idx val) s = .next (s.keyInfo d val) := by
  change execKeyInfo src idx val s = _
  rw [execKeyInfo, State.accessKind_at _ h rfl]

@[simp] theorem State.putRw_cipherOf (s : State) (p : Page) (off : Nat) (v : Word) (d : Nat) :
    (s.putRw p off v).cipherOf d = s.cipherOf d := by
  obtain ⟨r, hr⟩ := s.putRw_eq p off v
  rw [hr, State.cipherOf, State.cipherOf]

@[simp] theorem State.putRw_keySlot (s : State) (p : Page) (off : Nat) (v : Word) (d i : Nat) :
    (s.putRw p off v).keySlot d i = s.keySlot d i := by
  rw [State.keySlot, State.putRw_cipherOf, State.keySlot]

@[simp] theorem State.putRw_oldInFlight (s : State) (p : Page) (off : Nat) (v : Word) (d i : Nat) :
    (s.putRw p off v).oldInFlight d i = s.oldInFlight d i := by
  simp only [State.oldInFlight, State.inFlight, State.putRw_cipherOf, State.putRw_keySlot]

section
variable (hpend : (s.keySlot d (F.CU_KEY_CMD_SLOT.of val)).erasePending = false)
include hpend

theorem State.keyWrite_inUse (hold : (s.putRw (cipherPg d) F.CU_KEY_CMD.off val).oldInFlight d (F.CU_KEY_CMD_SLOT.of val) = true) :
    s.keyWrite d val = (s.putRw (cipherPg d) F.CU_KEY_CMD.off val).keyStatus d 1 := by
  rw [State.keyWrite]
  dsimp only
  rw [hpend, hold, if_neg Bool.false_ne_true, if_pos rfl]

theorem State.keyWrite_loads (hfree : (s.putRw (cipherPg d) F.CU_KEY_CMD.off val).oldInFlight d (F.CU_KEY_CMD_SLOT.of val) = false) :
    let pg := cipherPg d
    let i := F.CU_KEY_CMD_SLOT.of val
    let a := s.putRw pg F.CU_KEY_CMD.off val
    s.keyWrite d val = ((a.setKeySlot d i
      { key := BitVec.ofNat 256 (a.words pg F.CU_KEY_DATA_VALUE 8), salt := BitVec.ofNat 96 (a.words pg F.CU_KEY_SALT_VALUE 3),
        ssci := a.reg pg F.CU_KEY_SSCI.off, gen := (s.keySlot d i).gen + 1, valid := true }).clearKeyRegs d).keyStatus d 0 := by
  rw [State.keyWrite]
  dsimp only
  rw [hpend, hfree, if_neg Bool.false_ne_true, if_neg Bool.false_ne_true]

end

theorem State.keyWrite_erasing (hpend : (s.keySlot d (F.CU_KEY_CMD_SLOT.of val)).erasePending = true) :
    s.keyWrite d val = (s.putRw (cipherPg d) F.CU_KEY_CMD.off val).keyStatus d 2 := by
  rw [State.keyWrite]
  dsimp only
  rw [hpend, if_pos rfl]

theorem State.keyErase_eq (s : State) (d : Nat) (val : Word) : s.keyErase d val =
    ((s.putRw (cipherPg d) F.CU_KEY_CMD.off val).setKeySlot d (F.CU_KEY_CMD_SLOT.of val)
      { s.keySlot d (F.CU_KEY_CMD_SLOT.of val) with valid := false, erasePending := true }).keyStatus d 0 := by
  rw [State.keyErase]
  dsimp only
  rw [State.putRw_keySlot]

theorem exec_keyZeroise (s : State) (d : Die) (i : BitVec 12) : exec (.keyZeroise d i) s = execKeyZeroise d i s := rfl

@[simp] theorem State.raise_keySlot (s : State) (p : Page) (b d i : Nat) : (s.raise p b).keySlot d i = s.keySlot d i := by
  rw [State.keySlot, State.cipherOf, State.raise_ciphers, State.keySlot, State.cipherOf]

theorem State.keySlot_setKeySlot (s : State) (d i : Nat) (k : KeySlot) : (s.setKeySlot d i k).keySlot d i = k := by
  rw [State.keySlot, State.setKeySlot, State.setCipher_cipherOf, Sparse.get_set_same]

theorem State.zeroise_unused {i : Nat} (hpend : (s.keySlot d i).erasePending = true) (hnone : s.inFlight d i = []) :
    s.zeroise d i = (s.setKeySlot d i { gen := (s.keySlot d i).gen, eraseDone := true }).raise (cipherPg d) 8 := by
  rw [State.zeroise, hnone, if_pos ⟨hpend, rfl⟩]

/-- Settles O50, command by command; storing a command in its register leaves the slots and the operations on them. -/
theorem keysAreLoadedAndErased : Obligations.KeysAreLoadedAndErased := by
  refine ⟨?commands, ?zeroise⟩
  case commands =>
    intro s src page d val h
    dsimp only
    rw [exec_keyWrite_at h, exec_keyErase_at h, exec_keyInfo_at h]
    refine ⟨fun hpend => ?_, fun hpend hold => ?_, fun hpend hfree => ?_, ?_, ?_⟩
    · rw [State.keyWrite_erasing hpend]
    · rw [State.keyWrite_inUse hpend hold]
    · rw [State.keyWrite_loads hpend hfree]
    · rw [State.keyErase_eq]
    · rw [State.keyInfo]
  case zeroise =>
    intro s d i hop hpend hnone
    rw [exec_keyZeroise, execKeyZeroise, State.ifOperates_on _ hop, State.zeroise_unused hpend hnone]
    refine ⟨_, rfl, ?_, State.status_raise _ _ (by decide) (by decide)⟩
    rw [State.raise_keySlot, State.keySlot_setKeySlot]

end Sys2Proof.Machine
end

section
/-!
PROOFS of the statement about the rings of a host interface (13_host_interface R391-R393, R403, R405, R406, R416, R418): doorbells,
the registers of a ring, enables, the host-queue map, and the vectors of MSI-X.
-/
namespace Sys2Proof.Machine

variable {s : State} {src : Source} {idx : PageIdx} {val : Word} {d r v : Nat}

/-! ### The commands at the host interface page they reach -/

theorem exec_hqDoorbell_at (r : Fin 1024) (h : s.reaches src idx (hifPg d)) :
    exec (.hqDoorbell src idx r val) s = .next (s.doorbell d r.val (val.toNat % 2 ^ 17)) := by
  change execHqDoorbell src idx r val s = _
  rw [execHqDoorbell, State.accessKind_at _ h rfl]

theorem exec_hqCqDoorbell_at (r : Fin 512) (h : s.reaches src idx (hifPg d)) :
    exec (.hqCqDoorbell src idx r val) s = .next (s.cqDoorbell d r.val (val.toNat % 2 ^ 17)) := by
  change execHqCqDoorbell src idx r val s = _
  rw [execHqCqDoorbell, State.accessKind_at _ h rfl]

theorem exec_poolDoorbell_at (p : Fin 64) (h : s.reaches src idx (hifPg d)) :
    exec (.poolDoorbell src idx p val) s = .next (s.poolDoorbell d p.val (val.toNat % 2 ^ 17)) := by
  change execPoolDoorbell src idx p val s = _
  rw [execPoolDoorbell, State.accessKind_at _ h rfl]

theorem exec_hqEnableWrite_at (j : Fin 32) (h : s.reaches src idx (hifPg d)) :
    exec (.hqEnableWrite src idx j val) s = .next (s.hqEnable d j.val val) := by
  change execHqEnableWrite src idx j val s = _
  rw [execHqEnableWrite, State.accessKind_at _ h rfl]

theorem exec_hqRingRegWrite_at (i : Fin 11) (h : s.reaches src idx (hifPg d)) :
    exec (.hqRingRegWrite src idx i val) s = .next (s.ringReg d i.val val) := by
  change execHqRingRegWrite src idx i val s = _
  rw [execHqRingRegWrite, State.accessKind_at _ h rfl]

theorem exec_hqHbqMapWrite_at (q : Fin 64) (h : s.reaches src idx (hifPg d)) :
    exec (.hqHbqMapWrite src idx q val) s = .next (s.hbqMap (hifPg d) q.val val) := by
  change execHqHbqMapWrite src idx q val s = _
  rw [execHqHbqMapWrite, State.accessKind_at _ h rfl]

theorem exec_msixUnmask_at (n : Fin 2048) (h : s.reaches src idx (hifPg d)) :
    exec (.msixUnmask src idx n val) s = .next (s.vectorControl d n.val (val.getLsbD 0)) := by
  change execMsixUnmask src idx n val s = _
  rw [execMsixUnmask, State.accessKind_at _ h rfl]

/-! ### Doorbells (R403, R418) -/

@[simp] theorem State.ringAt_setRing (s : State) (d r : Nat) (x : Ring) : (s.setRing d r x).ringAt d r = x := by
  rw [State.ringAt, State.setRing, State.setHost_hostOf, Sparse.get_set_same]

/-- The stall mark of a ring is a register's bit, and raising its cause leaves the rings alone. -/
theorem State.setCqFull_hosts (s : State) (d r : Nat) (b : Bool) : (s.setCqFull d r b).hosts = s.hosts := by
  rw [State.setCqFull, State.raiseIf]
  split_ifs
  · exact State.raise_hosts ..
  · rfl

theorem State.setCqFull_ringAt (s : State) (d r : Nat) (b : Bool) (e q : Nat) :
    (s.setCqFull d r b).ringAt e q = s.ringAt e q := by
  rw [State.ringAt, State.hostOf, State.setCqFull_hosts, State.ringAt, State.hostOf]

/-- A ring of the producer's side (R403). -/
theorem State.doorbell_descriptors (hr : r < 512) : s.doorbell d r v =
    if producerOk (s.ringAt d r).k (s.ringAt d r).prod (s.ringAt d r).cons v then s.setRing d r { s.ringAt d r with prod := v }
    else s.doorbellErr d (some r) := if_pos hr

section
variable (hr : 512 ≤ r)
include hr

theorem State.doorbell_punt_refused (hno : consumerOk (s.ringAt d r).k (s.ringAt d r).cons (s.ringAt d r).prod v = false) :
    s.doorbell d r v = s.doorbellErr d (some r) := by
  rw [State.doorbell]
  dsimp only
  rw [if_neg (Nat.not_lt.mpr hr), hno, if_neg Bool.false_ne_true]

theorem State.doorbell_punt_taken (hok : consumerOk (s.ringAt d r).k (s.ringAt d r).cons (s.ringAt d r).prod v = true) :
    ((s.doorbell d r v).ringAt d r).cons = v := by
  rw [State.doorbell]
  dsimp only
  rw [if_neg (Nat.not_lt.mpr hr), if_pos hok]
  split
  · rw [State.ringAt_setRing]
  · rw [State.setCqFull_ringAt, State.ringAt_setRing]

end

theorem State.cqDoorbell_refused (hno : consumerOk (s.ringAt d r).k (s.ringAt d r).cqCons (s.ringAt d r).cqProd v = false) :
    s.cqDoorbell d r v = s.doorbellErr d (some r) := by
  rw [State.cqDoorbell]
  dsimp only
  rw [hno, if_neg Bool.false_ne_true]

theorem State.cqDoorbell_taken (hok : consumerOk (s.ringAt d r).k (s.ringAt d r).cqCons (s.ringAt d r).cqProd v = true) :
    ((s.cqDoorbell d r v).ringAt d r).cqCons = v := by
  rw [State.cqDoorbell]
  dsimp only
  rw [if_pos hok]
  split
  · rw [State.ringAt_setRing]
  · rw [State.setCqFull_ringAt, State.ringAt_setRing]

/-! ### Enables (R406) -/

theorem State.setRing_fget (s : State) (d r : Nat) (x : Ring) (p : Page) (f : Fld) (i : Nat) :
    (s.setRing d r x).fget p f i = s.fget p f i := by
  rw [State.setRing, State.setHost_fget]

/-- Starting and stopping rings leaves the register as it was written. -/
theorem State.hqEnable_enables (s : State) (d j : Nat) (val : Word) :
    (s.hqEnable d j val).fget (hifPg d) F.HQ_ENABLE_RING j = val.toNat := by
  rw [State.hqEnable]
  dsimp only
  rw [State.foldl_keeps (fun s => s.fget (hifPg d) F.HQ_ENABLE_RING j) ?turn, State.fget_fset_same _ _ _ _ _ (by decide)]
  · exact Nat.mod_eq_of_lt val.isLt
  case turn =>
    intro s b
    split_ifs
    · rw [State.setRing_fget]
    · rw [State.setRing_fget]
    · rfl

/-! ### Messages (R391-R393) -/

theorem State.vectorControl_mask (s : State) (d n : Nat) : s.vectorControl d n true = s.setReg (hifPg d) (msixOff n 3) 0 := by
  rw [State.vectorControl, Bool.not_true, Bool.false_and, if_neg Bool.false_ne_true, if_pos rfl]

theorem State.vectorControl_unmask (s : State) (d n : Nat) : s.vectorControl d n false =
    let u := s.setReg (hifPg d) (msixOff n 3) 1
    if bit (u.reg (hifPg d) (0x7F00 + 4 * (n / 32))).toNat (n % 32) then (u.setPending d n false).sendVector d n else u := by
  rw [State.vectorControl, if_neg Bool.false_ne_true]
  rfl

theorem exec_msixModerationExpire (s : State) (d : Die) (r : Fin 1024) :
    exec (.msixModerationExpire d r) s = execMsixModerationExpire d r s := rfl

section
variable {e : Die} {r : Fin 1024} (hop : s.operates (hifPg e.val) = true)
include hop

theorem exec_msixModerationExpire_waiting (hwait : (s.ringAt e.val r.val).waitMsg = true) :
    exec (.msixModerationExpire e r) s = .next ((s.setRing e.val r.val
      { s.ringAt e.val r.val with lastMsg := some (s.monoNs e.val), waitMsg := false }).sendVector e.val
        (bits (s.ringAt e.val r.val).cfg.toNat 20 10)) := by
  rw [exec_msixModerationExpire, execMsixModerationExpire, State.ifOperates_on _ hop, if_pos hwait]

theorem exec_msixModerationExpire_none (hwait : (s.ringAt e.val r.val).waitMsg = false) :
    exec (.msixModerationExpire e r) s = .next s := by
  rw [exec_msixModerationExpire, execMsixModerationExpire, State.ifOperates_on _ hop, hwait, if_neg Bool.false_ne_true]

end

/-- Settles O51, register by register of the page, then the end of a moderation time. -/
theorem ringsAreRungAndConfigured : Obligations.RingsAreRungAndConfigured := by
  refine ⟨?page, fun s d r hop => ⟨exec_msixModerationExpire_waiting hop, exec_msixModerationExpire_none hop⟩⟩
  case page =>
    intro s src page d val h
    refine ⟨fun r => ⟨fun hr => ?descriptors, fun hr hno => ?refused, fun hr hok => ?taken⟩,
      fun r => ⟨fun hno => ?cqRefused, fun hok => ?cqTaken⟩, (exec_poolDoorbell_at · h),
      fun j => ⟨_, exec_hqEnableWrite_at j h, State.hqEnable_enables s d j.val val⟩, (exec_hqRingRegWrite_at · h),
      (exec_hqHbqMapWrite_at · h), fun n => ⟨fun hmask => ?mask, fun hmask => ?unmask⟩⟩
    case descriptors => rw [exec_hqDoorbell_at r h, State.doorbell_descriptors hr]
    case refused => rw [exec_hqDoorbell_at r h, State.doorbell_punt_refused hr hno]
    case taken => exact ⟨_, exec_hqDoorbell_at r h, State.doorbell_punt_taken hr hok⟩
    case cqRefused => rw [exec_hqCqDoorbell_at r h, State.cqDoorbell_refused hno]
    case cqTaken => exact ⟨_, exec_hqCqDoorbell_at r h, State.cqDoorbell_taken hok⟩
    case mask => rw [exec_msixUnmask_at n h, hmask, State.vectorControl_mask]
    case unmask => rw [exec_msixUnmask_at n h, hmask, State.vectorControl_unmask]

end Sys2Proof.Machine
end
